-- ==== Sys2Proof/Word.lean ====
section
/-! DEFINITION. The word and byte types of the block and their plainest arithmetic: 32-bit registers (R14), bytes of memory. -/
namespace Sys2Proof

/-- A register or a 32-bit bus word (R14). -/
abbrev Word := BitVec 32

/-- A byte of memory or of a payload. -/
abbrev Byte := BitVec 8

end Sys2Proof
end

