-- ==== Sys2Proof/Machine/Parts.lean ====
section
/-! DEFINITION. The parts of the state that a state image carries between the modules of a pair (R329): the fusion engine, the law and
its plan. The default value of every field is its value after reset. -/
namespace Sys2Proof

/-- An accepted plan (R277, Table 11.12): its SEQ, t0 tick and beat of publication; primal residual, objective and largest excursion
slack; start time of each nominal stage (s), nominal states, generalised force of each stage, actuator variables of stages 0 to
K - 1; bias and wind force (X, Y, N) of the estimate it was built from. Numbers are binary64. -/
structure Plan where
  seq : Nat
  t0 : Nat
  beat : Nat
  marks : List (BitVec 64)
  starts : List (BitVec 64)
  states : List (List (BitVec 64))
  force : List (List (BitVec 64))
  vars : List (List (BitVec 64))
  env : List (BitVec 64)
  deriving DecidableEq, Repr

namespace Machine

/-- What the estimator holds of one track and rewinds with a replay (R181, R195 to R198, Table 7.5). -/
structure TrkFilter where
  /-- the bias states and their variances, SI units; R166, R185; reset 0 -/
  bias : List (BitVec 64) := []
  biasVar : List (BitVec 64) := []
  /-- the last innovation and the diagonal of its covariance; Table 7.5; reset 0 -/
  innov : List (BitVec 64) := []
  innovVar : List (BitVec 64) := []
  /-- consecutive gate rejections; R196; reset 0 -/
  gateRej : Nat := 0
  /-- last NIS, jump and drift in SI units, distance to the consensus d2; Table 7.5; reset 0 -/
  nis : BitVec 64 := 0
  jump : BitVec 64 := 0
  drift : BitVec 64 := 0
  d2 : BitVec 64 := 0
  /-- the first item of a run that stands still: its t_m, its numbers, the inertial ones at it, and the greatest inertial motion since, m
  or rad; R195; reset none, 0 -/
  still : Option (Int × List (BitVec 64) × List (BitVec 64)) := none
  motion : BitVec 64 := 0
  /-- the last item: its t_m, its numbers, the inertial ones at it; R195; reset none -/
  prev : Option (Int × List (BitVec 64) × List (BitVec 64)) := none
  /-- positions of the last WIN_S with the core's integrated velocity, newest first; R195; reset none -/
  window : List (Int × List (BitVec 64) × List (BitVec 64)) := []
  deriving DecidableEq, Repr

/-- One moving target's filter (R206): north, east and their rates, its covariance, the tick it holds at. -/
structure TargetDev where
  x : List (BitVec 64)
  cov : List (List (BitVec 64))
  tick : Int
  deriving DecidableEq, Repr

/-- What the estimator computes with and a rewind restores (R178, R190). -/
structure CoreDev where
  /-- the 48 states of Table 8.1, binary64; R190; reset 0 -/
  x : List (BitVec 64) := []
  /-- their covariance, rows first; R190; reset none (then the prior applies, log 89) -/
  cov : List (List (BitVec 64)) := []
  /-- the integral of the core's velocity estimate, north and east, m; R195; reset 0 -/
  path : List (BitVec 64) := []
  /-- the tracks' filters; R166, R195; reset TrkFilter -/
  filters : List (Nat × TrkFilter) := []
  /-- the moving-target filters, by track; R206; reset none -/
  targets : List (Nat × Option TargetDev) := []
  /-- filtered true wind per wind track, north and east, m/s, and the tick it holds at; R207; reset none -/
  winds : List (Nat × Option (Int × List (BitVec 64))) := []
  /-- the force X, Y, N, K that each FEEDBACK track shows of its actuator; R184; reset none -/
  acts : List (Nat × List (BitVec 64)) := []
  deriving DecidableEq, Repr

/-- One fusion track beside its window registers (07_fusion_tracks.md, Table 7.5). -/
structure TrackDev where
  /-- clock offset o, 2^-16 ticks; R172; reset 0 -/
  o : Int := 0
  /-- clock rate error, 10^-15; R172; reset 0 -/
  rho : Int := 0
  /-- the 2 × 2 covariance of the fit, rows first; R172; reset none (no pair yet) -/
  clockCov : List (BitVec 64) := []
  /-- t_ref, ticks; R172; reset none (no pair yet) -/
  tref : Option Int := none
  /-- pairs since the model restarted; Table 7.5; reset 0 -/
  pairs : Nat := 0
  /-- the last residual r, ticks; R173; reset 0 -/
  resid : Int := 0
  /-- the last 32 trigger delays, newest first, ticks; R173; reset none -/
  delays : List Int := []
  /-- trigger edges answered, with the CAPTURE_TICK of the answer, newest first; R171; reset none -/
  answered : List (Nat × Nat) := []
  /-- trigger edges up to this tick have been judged answered or MISSED; R171; reset 0 -/
  judged : Nat := 0
  /-- the tick the last VALID item was delivered; R166; reset none -/
  lastValid : Option Nat := none
  /-- quality byte of the last item; Table 7.5; reset 0 -/
  lastQuality : Byte := 0
  /-- last SOURCE_SEQ; Table 7.5; reset 0 -/
  lastSeq : Nat := 0
  /-- the last item's t_m and numbers at the sensor, SI units; R183, R184, Table 7.1; reset none -/
  last : Option (Int × List (BitVec 64)) := none
  /-- the track has entered WARM since the commit that enabled it; R185; reset false -/
  warmedOnce : Bool := false
  /-- the next frame to close resets the covariance of the bias filter (1), and starts the bias at zero (2); R185; reset 0 -/
  biasReset : Nat := 0
  /-- frames in WARM; R186; reset 0 -/
  warmFrames : Nat := 0
  /-- consecutive frames in which its items passed every test; R186, R197; reset 0 -/
  passFrames : Nat := 0
  /-- frames in RAMP; R186; reset 0 -/
  rampFrames : Nat := 0
  /-- the track was excluded by a vote; R197; reset false -/
  votedOut : Bool := false
  /-- exclusions and votes lost; Table 7.5; reset 0 -/
  exclusions : Nat := 0
  votesLost : Nat := 0
  /-- counters of the record: accepted, LATE, FUTURE, UNMATCHED, MISSED, OUT_OF_STEP entries, warm-ins, frames in
  ACTIVE; Table 7.5; reset 0 -/
  accepted : Nat := 0
  late : Nat := 0
  future : Nat := 0
  unmatched : Nat := 0
  missed : Nat := 0
  oosEntries : Nat := 0
  warmIns : Nat := 0
  activeFrames : Nat := 0
  /-- the last 64 measurements, newest first: t_m, CAPTURE_TICK, quality, and their nine numbers; Table 7.5; reset none -/
  history : List (Int × Nat × Byte × List (BitVec 64)) := []
  /-- TRK_CMD waiting for the next frame close: 1 RESTART, 2 RELEASE; Table 7.7; reset none -/
  command : Option Nat := none
  /-- the tick at which the FEEDBACK track timed out, and its force is taken as zero; R184; reset none, false -/
  lostTick : Option Nat := none
  forceZero : Bool := false
  deriving DecidableEq, Repr

/-- One measurement with its time t_m (R170, R178): of a track (kind 0), an observable (1) or a discriminator (2), its track or channel,
SOURCE_ID and SOURCE_SEQ, its numbers in SI units, and the tests already recorded failed for it (bit n), so that a replay records none
twice. -/
structure FusItem where
  kind : Nat
  track : Nat
  source : Nat
  seq : Nat
  tm : Int
  vals : List (BitVec 64)
  told : Nat
  deriving DecidableEq, Repr

/-- One stored fusion frame (R178): its closing beat, the ticks at which it opens and closes, the estimator and the inertial state at its
opening, the inertial increments over it, and its measurements by t_m and SOURCE_ID; with them what a replay takes as it stood (R181): the
tracks VALID in it with their weights, the force known beside the tracks' (X, Y, N, K), the peak frequencies, the estimator state of Table
8.6, and the bias filters that start in it (1 their covariance, 2 the whole filter). -/
structure FrameRec where
  beat : Nat
  opens : Int
  closes : Int
  core : CoreDev
  nominal : List (BitVec 64)
  incs : List (BitVec 64)
  items : List FusItem
  weights : List (Nat × Nat)
  tau : List (BitVec 64)
  omega : List (BitVec 64)
  est : Nat
  resets : List (Nat × Nat)
  deriving DecidableEq, Repr

/-- The fusion engine beside its registers. -/
structure FusDev where
  /-- the 64 tracks; R164; reset TrackDev -/
  tracks : List (Nat × TrackDev) := []
  /-- the estimator at the opening of the frame in progress; R178, R190; reset CoreDev -/
  core : CoreDev := {}
  /-- the inertial state: north, east, down (m), their rates (m/s), roll, pitch, heading (rad), roll, pitch, yaw rate (rad/s), binary64;
  R183, R190; reset 0 -/
  nominal : List (BitVec 64) := []
  /-- the inertial state at the opening of the frame in progress, and the tick of the opening; R178; reset 0 -/
  nominalOpen : List (BitVec 64) := []
  opens : Int := 0
  /-- acceleration of surge, sway, yaw and roll from the inertial unit, at the last step; R194; reset 0 -/
  accel : List (BitVec 64) := []
  /-- peak frequencies of surge, sway, yaw, roll, rad/s; R194; reset none (then W_INIT) -/
  omega : List (BitVec 64) := []
  /-- the history of at most 200 frames, newest first; R178; reset none -/
  frames : List FrameRec := []
  /-- measurements whose frame has not closed; R179; reset none -/
  ahead : List FusItem := []
  /-- what the core propagates on: 0 internal unit, 1 external track, 2 vessel model; R183; reset 0 -/
  ego : Nat := 0
  /-- the external motion track delivers at 200 Hz or more; R183; reset true -/
  egoFast : Bool := true
  /-- the estimate record's sequence; Table 8.6; reset 0 -/
  seq : Nat := 0
  /-- a VALID heading item and a VALID position item have been taken since entry to Configure; R210; reset false -/
  headingTaken : Bool := false
  positionTaken : Bool := false
  /-- coasting without a position track (estimator state 2); R204; reset false -/
  coasting : Bool := false
  /-- consecutive frames in which two candidates agreed in SPLIT; R202; reset 0 -/
  agreeRun : Nat := 0
  /-- a SPLIT_SEL write waiting for the next close: its track; R203; reset none -/
  selection : Option Nat := none
  /-- true wind in use, north and east, m/s; R207; reset 0 -/
  wind : List (BitVec 64) := []
  /-- the wind force of the last frame with a VALID wind track, binary64 X, Y, N; R208; reset 0 -/
  windForce : List (BitVec 64) := [0, 0, 0]
  /-- 0 a wind track is VALID or none has been, 1 held, 2 decaying or ended; R208; reset 0 -/
  windHeld : Nat := 0
  /-- frames left of the decay; R208; reset 0 -/
  windDecay : Nat := 0
  /-- a wind disagreement stands; R207; reset false -/
  windDisagree : Bool := false
  /-- beats of the closes of the last second that replayed, newest first; Table 7.6; reset none -/
  replays : List Nat := []
  /-- the last estimate record's quality byte; R210; reset 0 -/
  quality : Byte := 0
  /-- consecutive frames in mode 10 without a VALID relative track of the target; R52; reset 0 -/
  targetRun : Nat := 0
  /-- tracks applied to the core in the last frame, bit t; Table 8.6; reset 0 -/
  applied : Nat := 0
  deriving DecidableEq, Repr

/-- One case of the consequence analysis (R290, R291): margin and scale s in binary64, the residual and solver CODE of its last result,
whether it has a result in this run, its consecutive NO_RESULT runs, and the state (1 OK, 2 WARN, 3 ALARM) that a run without a result leaves
standing for the hysteresis. -/
structure CaseRes where
  margin : BitVec 64 := 0
  scale : BitVec 64 := 0
  residual : BitVec 64 := 0
  code : Nat := 0
  got : Bool := false
  noResult : Nat := 0
  level : Nat := 0
  deriving DecidableEq, Repr

/-- The plan in use and the law's sequencing beside the LAW registers. -/
structure LawDev where
  /-- the last accepted plan; R277; reset none -/
  plan : Option Plan := none
  /-- the plan allocations use in the beat in progress (R17: the previous one in the beat of publication); reset none -/
  planPrev : Option Plan := none
  /-- the reference of the mode: north, east, heading (rad), binary64; in mode 10 the relative set-point in place of the first two; R261,
  R274, R280; reset none -/
  ref : List (BitVec 64) := []
  /-- where the reference of mode 9 starts on the route: its leg, the distance along it (m), the tick; R274; reset none -/
  routeFrom : Option (Nat × BitVec 64 × Nat) := none
  /-- the point of the route nearest to the vessel at the last frame close, and the final waypoint; Table 2.8; reset none -/
  routeNear : Nat × BitVec 64 := (0, 0)
  routeLast : List (BitVec 64) := []
  /-- beat of acceptance from which the law blends; R279; reset none -/
  blendStart : Option Nat := none
  /-- demand of the last tick before the ramp beat; R46; reset none -/
  rampFrom : List (BitVec 64) := []
  /-- X and Y demand of the last 10 s, newest first, with the launch beat; R274; reset none -/
  tauHist : List (Nat × BitVec 64 × BitVec 64) := []
  /-- X and Y held by the thrust hold, binary64; R50; reset 0 -/
  heldXY : BitVec 64 × BitVec 64 := (0, 0)
  /-- joystick axes surge, sway, yaw of the last VALID item, Q1.15; R275; reset 0 -/
  joy : Int × Int × Int := (0, 0, 0)
  /-- the rate-limited joystick axes and the tick they hold at; R275; reset 0 -/
  joyOut : Int × Int × Int := (0, 0, 0)
  joyTick : Nat := 0
  /-- the joystick has timed out; R275; reset true (no item yet) -/
  joyStale : Bool := true
  /-- tick of the last BUSg_PWR write per group; R269; reset 0 -/
  busTick : List (Nat × Nat) := []
  /-- actuators whose bounds have zero width in jobs launched now, bit n; R267; reset 0 -/
  zeroWidth : Nat := 0
  /-- a set-point run of rejected allocations: its length; R282; reset 0 -/
  allocRejRun : Nat := 0
  /-- an allocation has been launched and its set-points are not yet written; R284; reset false -/
  spPending : Bool := false
  /-- set-points of the actuators: HOLD_AZ and HELD bits of the payload; R283, R282; reset 0 -/
  spFlags : List (Nat × Nat) := []
  /-- set-point payloads in the scheduled slots, by PORT × 256 + SLOT; R284; reset none -/
  payloads : List (Nat × List Byte) := []
  /-- the beat in which set-points were written last; R284, Table 14.3; reset none -/
  spBeat : Option Nat := none
  /-- tick of the frame close the reference was taken from; R280; reset 0 -/
  refTick : Nat := 0
  /-- a route is loaded and the vessel reference point lies within its corridor; precondition 6; reset false -/
  routeOk : Bool := false
  /-- integrals of states 0 to 2, binary64; R263; reset 0 -/
  integrals : List (BitVec 64) := [0, 0, 0]
  /-- a consequence run is in progress; R290; reset false -/
  cqActive : Bool := false
  /-- cases (0 to 47) and envelope directions (64 to 135) of the run still to be queued, and the beat the run began; R290, R293;
  reset none, 0 -/
  cqTodo : List Nat := []
  cqStart : Nat := 0
  /-- results per case index; R290; reset CaseRes -/
  cqCases : List (Nat × CaseRes) := []
  /-- the run's environmental force (X, Y, N) in N; R287; reset 0 -/
  tauEnv : BitVec 64 × BitVec 64 × BitVec 64 := (0, 0, 0)
  /-- branch assignment to apply from a later beat, (beat, cases); R292; reset none -/
  nextBranch : Option (Nat × List Nat) := none
  /-- envelope in progress: next direction index 0 to 71, case left out; R293; reset none -/
  envelope : Option (Nat × Nat) := none
  /-- F_max of the 72 directions, binary64 (NaN for none); R293; reset none -/
  envelopeVals : List (BitVec 64) := []
  /-- the last whole envelope: tick of completion, case left out, F_max of the 72 directions; Table 12.3; reset 0, none -/
  envelopeDone : Nat × Nat := (0, 0)
  envelopeShown : List (BitVec 64) := []
  deriving DecidableEq, Repr

end Machine

end Sys2Proof
end

