-- ==== Sys2Proof/Syntax.lean ====
section
/-! DEFINITION. The commands of the block: one constructor of `Instr` per row of spec/opcode_table.json, with the operands the
spec gives the row (a written value, an instance) or what the hardware observes when the event happens (log 7). -/
namespace Sys2Proof

/-- An item: a captured input with its header (R8, Table 0.4), payload and traffic class (R22). -/
structure Item where
  tick : Nat
  source : Nat
  seq : Nat
  quality : Byte
  payload : List Byte
  cls : Nat
  deriving DecidableEq, Repr

/-- What departs in a PTP event frame (R113): a Sync, a Pdelay_Req, or a Pdelay_Resp. -/
inductive PtpEgressKind where
  | sync
  | pdelayReq
  | pdelayResp
  deriving DecidableEq, Repr

/-- How a PTP frame is carried, with its UDP checksum where it has one (R113). -/
inductive PtpCarrier where
  | layer2
  | udp4 (checksum : BitVec 16)
  | udp6 (checksum : BitVec 16)
  deriving DecidableEq, Repr

/-- A departing PTP event frame as the port finds it: kind, sub-tick of its stamp, and its bytes in the order they leave, cut at the
fields the port rewrites: `head` before the UDP checksum (all before the correctionField on IEEE 802.3), the checksum of `carrier`,
`gap`, the correctionField (2^-16 ns), `mid`, the originTimestamp (seconds and nanoseconds), `tail`. -/
structure PtpEgress where
  kind : PtpEgressKind
  sub : Fin 8
  head : List Byte
  carrier : PtpCarrier
  gap : List Byte
  correction : BitVec 64
  mid : List Byte
  originSec : BitVec 48
  originNs : BitVec 32
  tail : List Byte
  deriving DecidableEq, Repr

/-- A satellite: its system (0 GPS, 1 Galileo, 2 BeiDou, 3 GLONASS, 4 QZSS, 5 NavIC, 6 SBAS) and number. -/
structure Sat where
  sys : Fin 7
  sv : Fin 256
  deriving DecidableEq, Repr

/-- Which channel register a write names (R125). -/
inductive ChCfgReg where
  | cfg | aidDop | aidCode
  deriving DecidableEq, Repr

/-- Which loop register of a channel a write names (R125). -/
inductive ChLoopReg where
  | loop | corr
  deriving DecidableEq, Repr

/-- One correlator tap, I and Q (R127). -/
structure Tap where
  i : Int
  q : Int
  deriving DecidableEq, Repr

/-- What a channel's correlators and loops show at the end of an integration (R121, R127, R131): the five taps, synchronisation,
half-cycle resolution, code phase (1/64 chip) and Doppler (2^-8 Hz) of its NCOs, and what they measure: pseudorange (m) and carrier
phase (cycles) in binary64. -/
structure IntegrationObs where
  early : Tap
  prompt : Tap
  late : Tap
  rove : Tap
  noise : Tap
  sync : Bool
  halfCycle : Bool
  code : BitVec 20
  doppler : Word
  range : BitVec 64
  phase : BitVec 64
  deriving DecidableEq, Repr

/-- What broadcast data say of a satellite at an epoch: the unit vector to it (north, east, down), its range from the origin of the
local frame with its clock and the atmosphere in it (m), and the rate of that range (m/s), in binary64. -/
structure SatView where
  sat : Sat
  e : List (BitVec 64)
  range : BitVec 64
  rate : BitVec 64
  deriving DecidableEq, Repr

/-- What the front ends and the broadcasts show at an epoch: the AGC gain of each path (UQ8.8 dB, R161); the samples of each path
over the last 100 ms that rose above the noise, as bursts of a magnitude (1/256 of full scale) and a length in ns (R119); the
satellites in view; the broadcast inter-system offsets of Galileo, BeiDou, GLONASS and NavIC, ps, where there are any (R138). -/
structure EpochObs where
  agc : List (BitVec 16)
  bursts : List (List (Nat × Nat))
  views : List SatView
  isb : List (Option Int)
  deriving DecidableEq, Repr

/-- Where a poison mark was read inside a job (R256). -/
inductive PoisonSite where
  | parameters | schedule | scratch
  deriving DecidableEq, Repr

/-- What a link frame carries beside its CRC (R316, R317, R332). -/
inductive LinkPayload where
  | idle
  | training
  | ack
  | time (offsetNs : Int) (clockClass : BitVec 8)
  | data
  deriving DecidableEq, Repr

/-- A heartbeat frame (R318, Table 14.1); `crcOk` says whether its CRC-32C held. -/
structure Heartbeat where
  role : Bool
  crowned : Bool
  fail : Bool
  inStep : Bool
  testSeen : Bool
  mode : BitVec 4
  epoch : Word
  beat : BitVec 48
  digBeat : BitVec 48
  digest : BitVec 128
  cfgHash : BitVec 64
  crcOk : Bool
  deriving DecidableEq, Repr

/-- One journal record (R321, Table 14.2). `station` and `element` are those of the CONTROL record (element 255: none);
`contents` are the shadow contents a SHADOW_CTRL write commits, by register key. -/
inductive JournalRecord where
  | item (i : Item)
  | loopFb (group : Fin 4) (index : Nat) (vals : List (Fin 64 × Int))
  | control (addr : Word) (value : Word) (station element : BitVec 8) (contents : List (Nat × Word))
  | jobEnd (stream : Fin 7) (seq : Word) (iters code : Nat) (beat : Nat)
  | transition (mode cause : Nat)
  | time (delta : Int) (instant : Nat)
  | hack (number source : Nat)
  deriving DecidableEq, Repr

/-- A journal block as received: its records, and the SEAL record's beat, epoch, record count and CRC check (R321). -/
structure JournalBlock where
  records : List JournalRecord
  beat : Nat
  epoch : Word
  count : Nat
  crcOk : Bool
  deriving DecidableEq, Repr

/-- One loop slot of a state image (R306, Table 14.4). -/
structure LoopImage where
  slot : Fin 64
  i : Int
  d : Int
  r1 : Int
  r2 : Int
  ed1 : Int
  region : Nat
  u : Int
  deriving DecidableEq, Repr

/-- A state image (R329, Table 14.4): beat, slip, mode, epoch, digest and time at s; live and shadow contents of the journaled pages;
the memory of the fusion state, the records of streams 0 to 2, the plan and consequence records and the replicated region; the fusion
engine and the law with their status registers; the loop slots. -/
structure StateImage where
  beat : Nat
  slip : Word
  mode : BitVec 4
  epoch : Word
  digest : BitVec 128
  tick : Nat
  live : List (Nat × Word)
  shadow : List (Nat × Word)
  status : List (Nat × Word)
  memory : List (Nat × Byte)
  fus : Machine.FusDev
  law : Machine.LawDev
  loops : List LoopImage
  deriving DecidableEq, Repr

/-- What the safety monitor's own diagnostics find in a cycle (R352, Table 15.2): LOCKSTEP, RAM, FLOW, CLOCK, SUPPLY and
TEMP failures. -/
structure SfmDiag where
  lockstep : Bool
  ram : Bool
  flow : Bool
  clock : Bool
  supply : Bool
  temp : Bool
  deriving DecidableEq, Repr

/-- A CAN frame as received (R392): identifier, format bits, remote-frame bit, ESI, whether a protocol exception was seen,
data and the sub-tick of its start of frame. -/
structure CanFrame where
  id : BitVec 29
  xtd : Bool
  fdf : Bool
  brs : Bool
  rtr : Bool
  esi : Bool
  exception : Bool
  data : List Byte
  sub : Fin 8
  deriving DecidableEq, Repr

/-- A CAN error (R381, R397, R398): a missing acknowledgement, a bit error on the own frame after the arbitration field,
another error of a transmission, an error of a reception, and one after which a dominant level follows the error flag. -/
inductive CanErrorKind where
  | ack | bitAfterArbitration | transmit | receive | receiveDominant
  deriving DecidableEq, Repr

/-- What the CAN wake decoder detects (R402): a dominant level of some microseconds, or a classical data frame. -/
inductive CanWakePattern where
  | dominant (us : Nat)
  | frame (id : BitVec 29) (xtd : Bool) (rate10k : Nat) (data : List Byte)
  deriving DecidableEq, Repr

/-- An Ethernet frame as it enters a port (R404, R416): length with one VLAN tag, addresses, tag (VID, PCP), IPv4 addresses
and UDP ports where it has them, UDP payload, and the sub-tick of its ingress stamp. -/
structure EthFrame where
  length : Nat
  dst : BitVec 48
  src : BitVec 48
  vlan : Option (BitVec 12 × BitVec 3)
  ip : Option (BitVec 32 × BitVec 32)
  udp : Option (BitVec 16 × BitVec 16)
  payload : List Byte
  sub : Fin 8
  deriving DecidableEq, Repr

/-- A received PTP message (R419 to R421); its ingress stamp is the tick of the command and `sub`. A Sync carries its grandmaster,
originTimestamp (ns), correctionField (2^-16 ns; of a two-step Sync with its Follow_Up) and logMessageInterval; a Pdelay_Resp the
turnaround in its correctionField; a Delay_Resp the receipt of the Delay_Req as the sender stamped it, with that request's own egress
stamp (ns). `frame` of a transparent message is passed on. -/
inductive PtpMessage where
  | announce (gm : BitVec 64) (prio1 clockClass accuracy : BitVec 8) (variance : BitVec 16) (prio2 : BitVec 8) (steps : BitVec 16)
      (utcOffset : Int) (utcValid leap61 leap59 : Bool)
  | sync (gm : BitVec 64) (originNs : Nat) (correction : BitVec 64) (logInterval : Int) (sub : Fin 8)
  | pdelayReq (sub : Fin 8)
  | pdelayResp (correction : BitVec 64) (sub : Fin 8)
  | delayResp (receiptNs requestNs : Nat)
  | transparent (correction : BitVec 64) (sub : Fin 8)
  | other
  deriving DecidableEq, Repr

/-- Where an announcement is heard (R425): a CAN controller or an Ethernet port. -/
inductive NymSource where
  | can (ctrl : Fin 6)
  | eth (port : Fin 4)
  deriving DecidableEq, Repr

/-- A Nymyen announcement (Table 17.3). -/
structure Announcement where
  uid : BitVec 64
  role : BitVec 8
  slot : BitVec 8
  capability : BitVec 16
  node : BitVec 8
  leaving : Bool
  crowned : Bool
  seq : BitVec 16
  deriving DecidableEq, Repr

/-- A quadrature transition (R453): one count forward or backward, or a change of both lines at once; `tooFast` marks a count
rate above 10 MHz (R455). -/
structure EncStep where
  delta : Int
  invalid : Bool
  tooFast : Bool
  deriving DecidableEq, Repr

/-- What an SSI read brings (R453): the raw bits, the level before the first clock, the return to high within TM, and the
even parity bit's check. -/
structure SsiObs where
  raw : Word
  preHigh : Bool
  postHigh : Bool
  parityOk : Bool
  deriving DecidableEq, Repr

/-- What uses the data of a demand read (Table 19.2), if anything does (R462): a core, the fusion engine, a frame slot, a field command, the
capture path for an item of `source`, the read of a record. -/
inductive PoisonUse where
  | unused | core | fusion | port (port slot : Nat) | field | item (source : Nat) | recorder
  deriving DecidableEq, Repr

/-- A measurement of VIN, the core rails and the clocks against the bandgaps and the TCXO (R490): deviations from nominal in 0.1 % and
0.01 %, signed, in the order of their indices. -/
structure RangeObs where
  rails : List (BitVec 16)
  clocks : List (BitVec 16)
  deriving DecidableEq, Repr

/-- FIELD_LOOP of one output (Table 21.4): from turn-on to sensed high and from turn-off to sensed low, ns, by its own sense and by its
input. -/
structure LoopTest where
  ownHigh : Nat
  inputHigh : Nat
  ownLow : Nat
  inputLow : Nat
  deriving DecidableEq, Repr

/-- What a full run measures (R489 to R498, Table 21.4): whether every read of memory BIST was as expected; the codes of inputs 0 to 7 at
-30 000, 0 and +30 000; FIELD_LOOP of outputs 0 to 15 and the lowest supply of groups A and B meanwhile, mV; each supply as the two
bandgaps measure it, mV; the tone of each path, 0.1 dB and Hz from its calibration; the four temperatures, 0.1 °C; the MISR of each domain. -/
structure SelfTestObs where
  mbist : Bool
  codes : List (BitVec 16)
  loops : List LoopTest
  supplies : BitVec 16 × BitVec 16
  bandgaps : List (Nat × Nat)
  tones : List (Int × Int)
  temps : List Int
  sigs : List (BitVec 128)
  deriving DecidableEq, Repr

/-- What wakes the module from Dormant or Shelf, beside CAN (R527 to R529): WAKE_N or a calendar alarm. -/
inductive WakeCause where
  | wakeN | alarm
  deriving DecidableEq, Repr

/-- A character as a UART receives it (R520): its bits, its parity bit where it has one, whether its stop bits were high, and the tick of its
start bit. -/
structure RxByte where
  value : Byte
  parity : Bool
  stop : Bool
  start : Nat
  deriving DecidableEq, Repr

/-- JTAG instructions (R539, R540); `readAuth` reads a nonce from the AUTH register. -/
inductive JtagInstr where
  | bypass | idcode | samplePreload | readAuth | extest | haltCore | haltMonitor | privateOther
  deriving DecidableEq, Repr

/-- An edge on PPS_IN (R86, R90): rising or falling, `sub` eighths of a tick into the tick. -/
structure PpsEdge where
  rising : Bool
  sub : Fin 8
  deriving DecidableEq, Repr

/-- A spectral line (R118): Hz from the band's centre, quarter dB above the floor. -/
structure SpectralLine where
  offset : Int
  level : Nat
  deriving DecidableEq, Repr

/-- A cell of a search (R129): 1/64 chip, 2^-8 Hz. -/
structure AcqCell where
  code : BitVec 20
  dop : Word
  deriving DecidableEq, Repr

/-- How an RTCM frame arrives (R139): at a UDP port of the internal host port, or at a UART. -/
inductive RtcmPort where
  | udp (port : Fin 65536) | uart (u : Fin 12)
  deriving DecidableEq, Repr

/-- An access that reads `size` bytes at `addr`. -/
structure ReadAccess where
  addr : BitVec 48
  size : Nat
  deriving DecidableEq, Repr

/-- An image as the SPI service port writes it (R538). -/
structure ServiceImage where
  addr : BitVec 48
  bytes : List Byte
  deriving DecidableEq, Repr

/-- A point of P-256 as a public key, and a signature (R536, R539). -/
structure PublicKey where
  x : BitVec 256
  y : BitVec 256
  deriving DecidableEq, Repr

structure Signature where
  r : BitVec 256
  s : BitVec 256
  deriving DecidableEq, Repr

/-- The commands: one constructor per row of spec/opcode_table.json. An operand of type Unit carries nothing (log 104). -/
inductive Instr where
  /-- BEAT_BOUNDARY (R59): an axis 0 beat boundary. -/
  | beatBoundary
  /-- MODE_REQ (R40): `value` is written to SYS.MODE_REQ. -/
  | modeReq (value : Word)
  /-- NEUTRAL_WAIT_CLEAR (R49): the joystick has been neutral for 0.5 s. -/
  | neutralWaitClear
  /-- CLASS2_HOLD_EXPIRY (R34): a class 2 item of `source` was held back longer than its timeout. -/
  | class2HoldExpiry (source : Fin 65536)
  /-- HOLD_LIMIT_EXPIRY (R33): the hold limit of job stream `stream` ends. -/
  | holdLimitExpiry (stream : Fin 7)
  /-- ANGLE_POSITION_UPDATE (R62): the encoder channel of angle axis `axis` + 1 has a new position. -/
  | anglePositionUpdate (axis : Fin 4) (nothing : Unit)
  /-- ANGLE_BEAT_SERVE (R64): the oldest pending beat of angle axis `axis` + 1 is served. -/
  | angleBeatServe (axis : Fin 4)
  /-- AXIS_STALL (R65): angle axis `axis` + 1 has had no beat for its stall time. -/
  | axisStall (axis : Fin 4)
  /-- PALLET_NONE (R70): the next scheduled pallet, of action NONE, starts `late` ticks after its instant. -/
  | palletNone (late : Nat)
  /-- PALLET_SYNC (R75): the next scheduled pallet is a SYNC pallet. -/
  | palletSync (late : Nat)
  /-- PALLET_JOB (R70): the next scheduled pallet is a JOB pallet; `fb` is the LOOP_FB record of a standby for the loop groups it paces
  (R322). -/
  | palletJob (late : Nat) (fb : Option (List (Fin 64 × Int)))
  /-- PALLET_SAMPLE (R448): the next scheduled pallet is a SAMPLE pallet. -/
  | palletSample (late : Nat)
  /-- PALLET_LATCH (R455): the next scheduled pallet is a LATCH pallet. -/
  | palletLatch (late : Nat)
  /-- PALLET_RELEASE (R384): the next scheduled pallet is a RELEASE pallet. -/
  | palletRelease (late : Nat)
  /-- PALLET_COMMIT (R513): the next scheduled pallet is a COMMIT pallet. -/
  | palletCommit (late : Nat)
  /-- PALLET_HACK (R483): the next scheduled pallet is a HACK pallet. -/
  | palletHack (late : Nat)
  /-- SYNC_PULSE_END (R75): the pulse of SYNC output `out` ends. -/
  | syncPulseEnd (out : Fin 16)
  /-- BEAT_LO_READ (R60): a read of ESC.BEAT_LO. -/
  | beatLoRead
  /-- TICK_LO_READ (R84): a read of TBU.TICK_LO. -/
  | tickLoRead
  /-- TIME_STEP_INSTANT (R101): the announced step instant is reached. -/
  | timeStepInstant
  /-- REF_IN_LOST (R89): REF_IN is judged lost. -/
  | refInLost
  /-- REF_IN_RESTORED (R89): REF_IN has been good for 10 s. -/
  | refInRestored
  /-- SOURCE_EVALUATION (R91): the once-per-second evaluation of the time sources. -/
  | sourceEvaluation (gnss ptp pps can : Unit)
  /-- JUMP_ACCEPT (R99): `value` is written to TBU.JUMP_ACCEPT. -/
  | jumpAccept (value : Word)
  /-- JUMP_DECLINE (R100): `value` is written to TBU.JUMP_ACCEPT. -/
  | jumpDecline (value : Word)
  /-- GM_CHANGE (R103): the client port selects grandmaster `gm`. -/
  | gmChange (gm : BitVec 64)
  /-- LEAP (R105): the end of a UTC day flagged by LEAP61 or LEAP59. -/
  | leap
  /-- PPS_PULSE (R106): a whole second at PPS output `out`. -/
  | ppsPulse (out : Fin 2)
  /-- PPS_PULSE_END (R106): WIDTH ms after the pulse of PPS output `out`. -/
  | ppsPulseEnd (out : Fin 2)
  /-- PPS_IN_EDGE (R90): an edge on PPS_IN. -/
  | ppsInEdge (edge : PpsEdge)
  /-- CMP_ARM (R111): `value` is written to TBU.CMP_CTRLc. -/
  | cmpArm (unit : Fin 16) (value : Word)
  /-- COMPARE_FIRE (R109): compare unit `unit` reaches its target. -/
  | compareFire (unit : Fin 16)
  /-- CMP_PULSE_END (R109): the compare pulse on PPS output `out` ends. -/
  | cmpPulseEnd (out : Fin 2)
  /-- PTP_EVENT_EGRESS (R113): a PTP event frame departs. -/
  | ptpEventEgress (port : Fin 4) (frame : PtpEgress)
  /-- SLEW_COMPLETE (R92): the phase correction left reaches 0. -/
  | slewComplete
  /-- ANT_BIAS_SAMPLE (R115): the bias current of `ant` averaged over 10 ms, mA. -/
  | antBiasSample (ant : Fin 3) (ma : Fin 256)
  /-- ANT_SHORT (R115): the bias current of `ant` is at or above SHORT_MA. -/
  | antShort (ant : Fin 3) (ma : Fin 256)
  /-- ANT_BIAS_RETRY (R116): one second after a short of `ant`. -/
  | antBiasRetry (ant : Fin 3)
  /-- NOTCH_ENGAGED (R118): a line at `offset` Hz from the band's centre stands `level` quarter dB above the floor. -/
  | notchEngaged (path : Fin 6) (offset : Int) (level : Nat)
  /-- NOTCH_DISENGAGED (R118): the line has fallen to its level. -/
  | notchDisengaged (path : Fin 6) (line : SpectralLine)
  /-- CH_CFG_WRITE (R125): `value` is written to CH_CFG or CH_AID through window `win`. -/
  | chCfgWrite (win : Fin 4) (reg : ChCfgReg) (value : Word)
  /-- CH_LOOP_WRITE (R125): `value` is written to CH_LOOP or CH_CORR through window `win`. -/
  | chLoopWrite (win : Fin 4) (reg : ChLoopReg) (value : Word)
  /-- START_AIDED (R126): CH_CMD 1 through window `win`. -/
  | startAided (win : Fin 4)
  /-- START_ACQ (R126): CH_CMD 2 through window `win`. -/
  | startAcq (win : Fin 4)
  /-- STOP (R126): CH_CMD 3 through window `win`. -/
  | stop (win : Fin 4)
  /-- ACQ_SEARCH_START (R129): engine `eng` is free and takes the head of the queue. -/
  | acqSearchStart (eng : Fin 2)
  /-- ACQ_DONE (R129): the strongest cell of engine `eng`, with peak-to-noise ratio `ratio` (UQ4.4). -/
  | acqDone (eng : Fin 2) (cell : AcqCell) (ratio : BitVec 8)
  /-- ACQ_SEARCH_MISS (R129): the search of engine `eng` ends without detection. -/
  | acqSearchMiss (eng : Fin 2)
  /-- ACQ_REQUEUE (R129): one second after a missed search of channel `ch`. -/
  | acqRequeue (ch : Fin 384)
  /-- ACQ_ABANDON (R126): a dwell boundary of engine `eng`, whose channel was stopped. -/
  | acqAbandon (eng : Fin 2)
  /-- INTEGRATION_END (R121): channel `ch` completes an integration. -/
  | integrationEnd (ch : Fin 384) (obs : IntegrationObs)
  /-- PLL_ENGAGE (R131): 200 ms of FLL pull-in of channel `ch` are over. -/
  | pllEngage (ch : Fin 384)
  /-- CH_LOST (R132): channel `ch` has held C/N0 below LOSS_CN0 for LOSS_MS. -/
  | chLost (ch : Fin 384)
  /-- REACQ_TIMEOUT (R132): channel `ch` has been LOST for REACQ_S. -/
  | reacqTimeout (ch : Fin 384) (code dop : Unit)
  /-- MEASUREMENT_EPOCH (R134): a measurement epoch with what the baseband measured. -/
  | measurementEpoch (obs : EpochObs)
  /-- RAIM_EXCLUSION_EXPIRY (R156): the exclusion of `sat` ends. -/
  | raimExclusionExpiry (sat : Sat)
  /-- AGC_REF_LEARNED (R161): path `path` has met the learning conditions for 600 s. -/
  | agcRefLearned (path : Fin 6) (gain : Unit)
  /-- RTCM_FRAME (R139): a frame that arrived by `via`. -/
  | rtcmFrame (bytes : List Byte) (via : RtcmPort)
  /-- CORR_STALE (R140): the corrections grow older than CORR_AGE. -/
  | corrStale
  /-- VECTOR_STEERING_WRITE (R144): the fusion engine writes code and carrier rates to VECTOR channels. -/
  | vectorSteeringWrite (rates : Unit)
  /-- VEC_MISS_LIMIT (R144): a channel has missed MISS_MAX beats. -/
  | vecMissLimit
  /-- VEC_RESUME (R143): 100 consecutive fusion frames with no cause present. -/
  | vecResume
  /-- FUS_FRAME_CLOSE (R191): the fusion engine closes a frame. -/
  | fusFrameClose (obs : Unit)
  /-- COAST_EXPIRED (R201): COAST_LEFT is 0 at a frame close. -/
  | coastExpired
  /-- WIND_HOLD_EXPIRY (R208): HOLD_S seconds of held wind force are over. -/
  | windHoldExpiry
  /-- INERTIAL_PROPAGATION (R183): one 2 kHz step; `gyro` (rad/s) and `acc` (m/s^2) are what the internal MEMS unit measures about and
  along its three axes. -/
  | inertialPropagation (gyro : List (BitVec 64)) (acc : List (BitVec 64))
  /-- TRACK_TIMEOUT (R166): track `track` has had no VALID item within its timeout. -/
  | trackTimeout (track : Fin 64)
  /-- FEEDBACK_LOST (R184): one second after FEEDBACK track `track` timed out. -/
  | feedbackLost (track : Fin 64)
  /-- TRK_RESTART (R185): `value`, with CMD 1, is written to TRK_CMD through the track window. -/
  | trkRestart (value : Word)
  /-- TRK_RELEASE (R168): `value`, with CMD 2, is written to TRK_CMD. -/
  | trkRelease (value : Word)
  /-- TRK_RESET_CLOCK (R176): `value`, with CMD 3, is written to TRK_CMD. -/
  | trkResetClock (value : Word)
  /-- SPLIT_SEL (R203): `value` is written to SPLIT_SEL. -/
  | splitSel (value : Word)
  /-- SLOT_STAGE (R224): `value` is written to SLOTn_ADDR_LO. -/
  | slotStage (slot : Fin 8) (value : Word)
  /-- STAGING_DONE (R224): the copy and check of the image of `slot` complete. -/
  | stagingDone (slot : Fin 8)
  /-- SUBMIT (R228): `value` is written to SLV.SUBMIT. -/
  | submit (value : Word)
  /-- JOB_SETUP_START (R232): dispatch reserves clusters and starts the setups that can start. -/
  | jobSetupStart
  /-- SETUP_COMPLETE (R249): the setup of a job completes. -/
  | setupComplete (stream : Fin 7) (seq : Word) (cycles : Nat)
  /-- ITERATION_BOUNDARY (R217): an iteration of a job completes step 7. -/
  | iterationBoundary (stream : Fin 7) (seq : Word) (cycles : Nat)
  /-- JOB_SUSPEND (R233): a job asked to yield suspends at its iteration boundary. -/
  | jobSuspend (stream : Fin 7) (seq : Word)
  /-- JOB_RESUME (R232): suspended jobs resume where no lower-level job runs. -/
  | jobResume
  /-- WRITE_BACK_COMPLETE (R235): the write-back of a job completes. -/
  | writeBackComplete (stream : Fin 7) (seq : Word) (cycles : Nat)
  /-- CANCEL (R237): `value` is written to SLV.CANCEL. -/
  | cancel (value : Word)
  /-- CLUSTER_FAULT (R238): a residue mismatch (`watchdog` false) or a watchdog expiry in `cluster`. -/
  | clusterFault (cluster : Fin 4) (watchdog : Bool)
  /-- CL_ISOLATE (R240): `value` is written to CLc_ISOLATE. -/
  | clIsolate (cluster : Fin 4) (value : Word)
  /-- CLUSTER_ISOLATED (R240): no job is left on `cluster`, whose isolation was requested. -/
  | clusterIsolated (cluster : Fin 4)
  /-- JOB_DEADLINE (R244): the deadline of a job arrives. -/
  | jobDeadline (stream : Fin 7) (seq : Word)
  /-- JOB_POISON (R256): a poison mark is read inside a job. -/
  | jobPoison (stream : Fin 7) (seq : Word) (site : PoisonSite)
  /-- STANDBY_JOB_TIMEOUT (R260): a standby job has not reached its journaled count 10 beats after the block. -/
  | standbyJobTimeout (stream : Fin 7) (seq : Word)
  /-- ACT_WITHDRAW (R267): `value`, with CMD 1, is written to LAW.ACT_CMD. -/
  | actWithdraw (value : Word)
  /-- ACT_READMIT (R268): `value`, with CMD 2, is written to LAW.ACT_CMD. -/
  | actReadmit (value : Word)
  /-- BUS_PWR_WRITE (R269): `value` is written to BUSg_PWR. -/
  | busPwrWrite (group : Fin 8) (value : Word)
  /-- BUS_PWR_STALE (R269): the power value of `group` grows older than PWR_TMO. -/
  | busPwrStale (group : Fin 8)
  /-- JOY_STALE (R275): the joystick times out. -/
  | joyStale
  /-- CQ_RUN_COMPLETE (R290): every job of the consequence run has ended. -/
  | cqRunComplete
  /-- ENVELOPE_START (R293): every 10 000 beats. -/
  | envelopeStart
  /-- LOOP_SAMPLE (R296): group `group` reaches sample `j` of the beat; `fb` is the LOOP_FB record on a standby. -/
  | loopSample (group : Fin 4) (j : Fin 8) (fb : Option (List (Fin 64 × Int)))
  /-- SL_RESTART (R313): `value` is written to SL_CMD through the slot window. -/
  | slRestart (value : Word)
  /-- SP_WRITE (R311): firmware writes `value` to LPE.SP_k. -/
  | spWrite (slot : Fin 64) (value : Word)
  /-- LINK_UP (R316): pair-link training completes. -/
  | linkUp
  /-- LINK_DOWN (R316): the pair link is declared down. -/
  | linkDown
  /-- LINK_RETRANSMIT (R316): an unacknowledged frame is retransmitted. -/
  | linkRetransmit
  /-- IDLE_FRAME (R316): 10 microseconds of silence. -/
  | idleFrame
  /-- LINK_FRAME_RECEIVED (R316): a link frame arrives; `crcOk` says whether its CRC-32C holds. -/
  | linkFrameReceived (crcOk : Bool) (payload : LinkPayload)
  /-- HEARTBEAT_SEND (R318): 50 microseconds after the boundary. -/
  | heartbeatSend
  /-- HEARTBEAT_RECEIVED (R318): a heartbeat arrives. -/
  | heartbeatReceived (hb : Heartbeat)
  /-- HEARTBEAT_MISSED (R319): no crown heartbeat of the beat 200 microseconds after the boundary. -/
  | heartbeatMissed
  /-- JOURNAL_BLOCK_RECEIVED (R324): the SEAL of a block arrives. -/
  | journalBlockReceived (block : JournalBlock)
  /-- ORPHAN_BEAT (R324): no valid SEAL by 200 microseconds. -/
  | orphanBeat
  /-- DIGEST_TIMEOUT (R327): the digest of `beat` is not complete 10 beats after its SEAL. -/
  | digestTimeout (beat : BitVec 48)
  /-- TRANSFER_REQUEST (R328): a Stood-down module asks for a state transfer. -/
  | transferRequest
  /-- TRANSFER_START (R329): the active takes a state image at this boundary. -/
  | transferStart
  /-- TRANSFER_DONE (R330): the image has arrived and is loaded. -/
  | transferDone (image : StateImage)
  /-- STATE_ADOPT (R330): the next second boundary after the load. -/
  | stateAdopt
  /-- TRANSFER_TIMEOUT (R330): 100 ms without the whole image. -/
  | transferTimeout
  /-- CATCHUP_TIMEOUT (R330): 1000 beats without being level. -/
  | catchupTimeout
  /-- SEIZE_ACCEPTED (R334): SEIZE_IN has been high for 150 microseconds. -/
  | seizeAccepted
  /-- SEIZE_IN_PULSE_END (R334): a pulse of `width` microseconds ends. -/
  | seizeInPulseEnd (width : Nat)
  /-- CROWN_IN_CHANGE (R336): the filtered CROWN_IN level becomes `level`. -/
  | crownInChange (level : Bool)
  /-- SEIZE_TEST_PULSE (R339): every 60 s. -/
  | seizeTestPulse
  /-- CROWN_WIRE (R339): CROWN_IN has disagreed with the partner's CROWNED bit for 10 beats. -/
  | crownWire
  /-- TAKEOVER (R343): CROWN_IN has read low for 20 microseconds after the trigger. -/
  | takeover
  /-- SEIZE_FAILED (R343): CROWN_IN has stayed high 1 ms after the seize. -/
  | seizeFailed
  /-- SEIZE_RETRY (R343): every 10 beats while the trigger stands. -/
  | seizeRetry
  /-- PRC_FAIL (R345): `value`, with CMD 2, is written to PRC.CMD. -/
  | prcFail (value : Word)
  /-- SWAP (R347): `value`, with CMD 1, is written to PRC.CMD. -/
  | swap (value : Word)
  /-- SWAP_HANDOVER (R347): boundary h of a pending swap. -/
  | swapHandover
  /-- SFM_CYCLE (R353): one cycle of the safety monitor. -/
  | sfmCycle (diag : SfmDiag)
  /-- OFF_PULSE_TEST (R362): safety output 12 + `out` is pulsed off; `fell` says whether its readback fell below 5 V. -/
  | offPulseTest (out : Fin 4) (fell : Bool)
  /-- RESET_ARM (R363): `value` is written to SFM.RESET_ARM. -/
  | resetArm (value : Word)
  /-- RESET_ARM_EXPIRY (R363): ten seconds after arming. -/
  | resetArmExpiry
  /-- RESET_INPUT_RISE (R363): the filtered reset input rises. -/
  | resetInputRise
  /-- RESET_INPUT_TRAILING (R363): the filtered reset input falls. -/
  | resetInputTrailing
  /-- OSI_HEARTBEAT (R369): HB_MS of Configure are over for send connection `conn`. -/
  | osiHeartbeat (conn : Fin 32)
  /-- OSI_PDU_RECEIVE (R371): `frame` arrives on `port` (numbered as in Table 3.1). -/
  | osiPduReceive (port : Fin 16) (frame : List Byte)
  /-- OSI_EXPIRY (R371): the time expectation of connection `conn` expires. -/
  | osiExpiry (conn : Fin 32)
  /-- CAN_ARBITRATION (R382): an arbitration on CAN controller `ctrl`, which offers one frame and wins or loses; `sub` is the
  sub-tick of the start of frame. -/
  | canArbitration (ctrl : Fin 6) (won : Bool) (sub : Fin 8)
  /-- CAN_TX_COMPLETE (R390): the frame of `ctrl` on the bus is acknowledged and leaves. -/
  | canTxComplete (ctrl : Fin 6)
  /-- CAN_ERROR (R381): an error on the bus of `ctrl`. -/
  | canError (ctrl : Fin 6) (kind : CanErrorKind)
  /-- BUS_OFF_RECOVERY (R381): 128 occurrences of 11 recessive bits after bus-off. -/
  | busOffRecovery (ctrl : Fin 6)
  /-- NL_RETRY_ATTEMPT (R397): NL_RETRY ms are over; the attempt's start of frame has sub-tick `sub`. -/
  | nlRetryAttempt (ctrl : Fin 6) (sub : Fin 8)
  /-- TXF_PUSH (R386): `value` is written to TXF_PUSH. -/
  | txfPush (ctrl : Fin 6) (value : Word)
  /-- TXF_CANCEL (R391): `value` is written to TXF_CANCEL. -/
  | txfCancel (ctrl : Fin 6) (value : Word)
  /-- PRI_REQ (R387): REQ is written to PRIp_REQ. -/
  | priReq (ctrl : Fin 6) (slot : Fin 4)
  /-- PRI_CANCEL (R391): CANCEL is written to PRIp_REQ. -/
  | priCancel (ctrl : Fin 6) (slot : Fin 4)
  /-- CAN_RX_FRAME (R392): `frame` passes its CRC. -/
  | canRxFrame (ctrl : Fin 6) (frame : CanFrame)
  /-- SOURCE_TIMEOUT (R393): `source` has had no item for its timeout. -/
  | sourceTimeout (source : Fin 65536)
  /-- REF_FRAME_SEND (R396): PERIOD ms are over for the time master `ctrl`. -/
  | refFrameSend (ctrl : Fin 6)
  /-- REF_LOST (R396): three periods without a matched pair on the client `ctrl`. -/
  | refLost (ctrl : Fin 6)
  /-- CLASH_CLR (R398): `value` is written to CLASH_CLR. -/
  | clashClr (ctrl : Fin 6) (value : Word)
  /-- BUS_LOAD_WINDOW (R399): a 10 ms window ends with bus load `load` %. -/
  | busLoadWindow (ctrl : Fin 6) (load : Fin 101)
  /-- SLEEP_CMD (R401): `value` is written to SLEEP_CMD. -/
  | sleepCmd (ctrl : Fin 6) (value : Word)
  /-- CAN_WAKE (R402): the wake decoder of `ctrl` sees `pattern`. -/
  | canWake (ctrl : Fin 6) (pattern : CanWakePattern)
  /-- ETH_LINK_UP (R404): the link of `port` comes up at speed `speed` + 1 (1 10, 2 100, 3 1000 Mbit/s). -/
  | ethLinkUp (port : Fin 4) (speed : Fin 3)
  /-- ETH_LINK_DOWN (R412): the link of `port` goes down. -/
  | ethLinkDown (port : Fin 4)
  /-- ETH_INGRESS_FRAME (R416): `frame` enters at `port`. -/
  | ethIngressFrame (port : Fin 4) (frame : EthFrame)
  /-- SF_UNBLOCK (R417): `value` is written to SFf_UNBLOCK. -/
  | sfUnblock (filter : Fin 64) (value : Word)
  /-- GATE_ENTRY_START (R408): the next entry of the gate control list of `port` begins. -/
  | gateEntryStart (port : Fin 4)
  /-- ETH_EGRESS_FRAME (R409): the line of `port` is free and a queue with an open gate may start a frame. -/
  | ethEgressFrame (port : Fin 4)
  /-- PTP_SYNC_SEND (R419): 2^LOG_SYNC s are over on `port`; `sub` is the sub-tick of departure. -/
  | ptpSyncSend (port : Fin 4) (sub : Fin 8)
  /-- PTP_ANNOUNCE_SEND (R419): 2^LOG_ANN s are over on `port`. -/
  | ptpAnnounceSend (port : Fin 4)
  /-- PTP_PDELAY_SEND (R419): 2^LOG_PDELAY s are over on `port`. -/
  | ptpPdelaySend (port : Fin 4) (sub : Fin 8)
  /-- PTP_MESSAGE_RECEIVE (R421): `msg` arrives on `port`. -/
  | ptpMessageReceive (port : Fin 4) (msg : PtpMessage)
  /-- ANNOUNCE_RECEIPT_TIMEOUT (R419): no Announce on `port` within ANN_TMO intervals. -/
  | announceReceiptTimeout (port : Fin 4)
  /-- NYM_ANNOUNCEMENT (R425): `ann` is heard on `src`. -/
  | nymAnnouncement (src : NymSource) (ann : Announcement)
  /-- NYM_DEPART (R425): roster entry `entry` has not been heard for 3 s. -/
  | nymDepart (entry : Fin 256)
  /-- ADDR_CLASH_CLEAR (R427): the clash has not been heard for 3 s. -/
  | addrClashClear
  /-- NYM_ACCEPT (R429): `value`, with CMD 1, is written to NYM.CMD. -/
  | nymAccept (value : Word)
  /-- NYM_FORGET (R429): `value`, with CMD 2, is written to NYM.CMD. -/
  | nymForget (value : Word)
  /-- FIELD_LINK_SLOT (R432): one slot of the isolated link; `valid` says whether its messages passed their check. -/
  | fieldLinkSlot (valid : Bool)
  /-- FIELD_LINK_LOST (R432): three consecutive slots without a valid message. -/
  | fieldLinkLost
  /-- OUT_SET (R434): `value` is written to FIO.OUT_SET. -/
  | outSet (value : Word)
  /-- SUPPLY_SAMPLE (R440): group `group` (0 A, 1 B) measures `mv` millivolt. -/
  | supplySample (group : Fin 2) (mv : Int)
  /-- SAG_RESTORED (R441): the supply of `group` has been at or above 17.0 V for 100 ms. -/
  | sagRestored (group : Fin 2)
  /-- SUP_RESTORE (R441): `value` is written to SUP_CMD. -/
  | supRestore (value : Word)
  /-- WDG_FEED (R438): `value` is written to WDG_FEED. -/
  | wdgFeed (value : Word)
  /-- WDG_EXPIRED (R438): TMO ms without a feed. -/
  | wdgExpired
  /-- CROSS_FEED_CHECK (R442): the procedure runs for suspect output `out`; bit j of `lowAt` says that `out` is sensed low
  during the pulse of output j. -/
  | crossFeedCheck (out : Fin 16) (lowAt : BitVec 16)
  /-- DIAG_OFF_PULSE (R442): the periodic off-pulse of `out`; `low` says whether it was sensed low at its end. -/
  | diagOffPulse (out : Fin 16) (low : Bool)
  /-- OUT_OVERLOAD (R444): `out` has been in current limit for OC_T ms. -/
  | outOverload (out : Fin 16)
  /-- OUT_OVERTEMP (R444): the junction of `out` reaches 175 degrees. -/
  | outOvertemp (out : Fin 16)
  /-- OPEN_LOAD (R444): the current of `out` has been below 5 mA for 100 ms. -/
  | openLoad (out : Fin 16)
  /-- REVERSE (R444): `out` has been above its VFIELD + 0.3 V for 1 ms. -/
  | reverse (out : Fin 16)
  /-- GROUP_CURRENT (R444): the current of `group` averaged over 1 s, `ma` mA, is above 3.0 A. -/
  | groupCurrent (group : Fin 2) (ma : Nat)
  /-- OUT_CLR (R443): `value` is written to OUT_CLR; bit k of `gone` says that the condition behind the latch of output k has
  gone (R444). -/
  | outClr (value : Word) (gone : BitVec 16)
  /-- INPUT_SAMPLE (R446): input `input` is sampled at `mv` millivolt. -/
  | inputSample (input : Fin 16) (mv : Int)
  /-- TEST_PULSE (R450): a pulse of source `source`; bit i of `high` is the check sample of input i. -/
  | testPulse (source : Fin 4) (high : BitVec 16)
  /-- AIN_CONVERSION (R451): a conversion of analogue input `ch` gives `count`; `overCurrent` marks 25 mA exceeded for 1 ms. -/
  | ainConversion (ch : Fin 8) (count : BitVec 16) (overCurrent : Bool)
  /-- AIN_SHUNT_RECLOSE (R451): 1 s after the shunt of `ch` opened. -/
  | ainShuntReclose (ch : Fin 8)
  /-- AOUT_SET (R452): `value` is written to AOUTo_SET. -/
  | aoutSet (out : Fin 4) (value : Word)
  /-- AOUT_FAULT (R452): output `out` has not reached its current, or has been in current limit, for 10 ms. -/
  | aoutFault (out : Fin 4)
  /-- ENC_COUNT (R453): a quadrature transition on channel `ch`. -/
  | encCount (ch : Fin 4) (stp : EncStep)
  /-- SSI_READ (R453): READ_PER microseconds are over on channel `ch`. -/
  | ssiRead (ch : Fin 4)
  /-- SSI_READ_COMPLETE (R453): the read of channel `ch` completes. -/
  | ssiReadComplete (ch : Fin 4) (obs : SsiObs)
  /-- ENC_INDEX (R454): an index edge on channel `ch`. -/
  | encIndex (ch : Fin 4)
  /-- ENC_RESTORED (R455): one second without a fault on channel `ch`. -/
  | encRestored (ch : Fin 4)
  /-- NARROW_WRITE (R460): `bytes` are written at data address `addr`; `poisoned` says whether the data carries a mark. -/
  | narrowWrite (addr : BitVec 48) (bytes : List Byte) (poisoned : Bool)
  /-- DEMAND_READ (R466, R14): an access reads. In memory the 256-bit word that holds it is read: `upset`
  lists bytes of its 40 that have changed since its last access, with the change (XOR); `newer` says that another agent wrote the word
  before the write-back. In a register page the register answers. -/
  | demandRead (access : ReadAccess) (upset : List (Fin 40 × Byte)) (newer : Bool) (usedBy : PoisonUse)
  /-- SCRUB_WORD (R467): the scrubber reads its next word, with `upset` as above. -/
  | scrubWord (upset : List (Fin 40 × Byte)) (newer : Bool)
  /-- LAP_ALARM (R468): LAP_RUN of `region` exceeds LAP_LIMIT. -/
  | lapAlarm (region : Fin 4)
  /-- INJ_ARM (R470): `value` is written to INJ_CTRL. -/
  | injArm (value : Word)
  /-- EVENT_ADMIT (R475): the earliest occurrence that waits reaches the recorder. -/
  | eventAdmit
  /-- GRANULE_COMMIT (R476): the recorder commits one granule. -/
  | granuleCommit
  /-- TOKEN_REFILL (R480): REFILL ms are over for the code table entry `entry` (1024: the default bucket). -/
  | tokenRefill (entry : Fin 1025)
  /-- FREEZE_START (R481): 1 is written to EVR.FREEZE. -/
  | freezeStart
  /-- FREEZE_END (R481): 0 is written to EVR.FREEZE. -/
  | freezeEnd
  /-- FREEZE_TIMEOUT (R481): FRZ_MAX seconds after the freeze began. -/
  | freezeTimeout
  /-- CLR_REQ (R482): `value` is written to EVR.CLR_REQ. -/
  | clrReq (value : Word)
  /-- CLR_CMD (R482): `value` is written to EVR.CLR_CMD. -/
  | clrCmd (value : Word)
  /-- NONCE_EXPIRY (R482): 60 s after the nonce was shown. -/
  | nonceExpiry
  /-- CLR_LOCK_EXPIRY (R482): 600 s after the third wrong answer. -/
  | clrLockExpiry
  /-- HACK_FIRE (R483): `value` is written to HCK.FIRE. -/
  | hackFire (value : Word)
  /-- HACK_LATCH (R484): trigger tick + 16 of the pending hack. -/
  | hackLatch
  /-- PARTNER_HACK (R487): a hack message with number `number` arrives from the partner. -/
  | partnerHack (number : Word)
  /-- SELF_TEST_START (R489): stages 1 and 2 of a full run; `range` is what stage 1 measures and `keysZero` what stage 2 reads
  back. -/
  | selfTestStart (range : RangeObs) (keysZero : Bool)
  /-- SELF_TEST_ABORT (R490): a rail or clock leaves its limits during `stage`. -/
  | selfTestAbort (stage : Fin 7) (range : RangeObs)
  /-- SELF_TEST_END (R498): the full run ends. -/
  | selfTestEnd (obs : SelfTestObs)
  /-- CL_TEST (R499): `value` is written to STU.CL_TEST; `range` is what the limits of R490 measure. -/
  | clTest (value : Word) (range : RangeObs)
  /-- CL_TEST_DONE (R499): the cluster test ends. -/
  | clTestDone (pass : Bool) (range : RangeObs)
  /-- SHADOW_WRITE (R502): `value` is written to the RWS register at `addr`. -/
  | shadowWrite (addr : Word) (value : Word)
  /-- REGISTER_WRITE (R14): an access of `size` bytes writes `value` at `addr`, a register without a row of its own. -/
  | registerWrite (addr : Word) (size : Nat) (value : Word)
  /-- COMMIT (R505): `value`, with COMMIT 1, is written to SHADOW_CTRL of the page at `page`. -/
  | commit (page : Word) (value : Word)
  /-- DISCARD (R506): `value`, with DISCARD 1, is written to SHADOW_CTRL. -/
  | discard (page : Word) (value : Word)
  /-- MARK (R511): `value`, without COMMIT and DISCARD, is written to SHADOW_CTRL. -/
  | mark (page : Word) (value : Word)
  /-- LOCK (R510): `value` is written to LOCK of the page at `page`. -/
  | lock (page : Word) (value : Word)
  /-- GLOBAL_COMMIT (R511): `value` is written to SYS.GLOBAL_COMMIT. -/
  | globalCommit (value : Word)
  /-- UART_MESSAGE (R520): characters received on UART `u` up to the end of a message. -/
  | uartMessage (u : Fin 12) (bytes : List RxByte) (start checkOk : Unit)
  /-- UART_TX (R520): `value` is written to UARTu_TX. -/
  | uartTx (u : Fin 12) (value : Word)
  /-- RAIL_WARN (R521): rail `rail` (Table 23.6 RAILr) measures `mv1` and `mv2` mV on the two bandgaps, outside its warning
  range. -/
  | railWarn (rail : Fin 10) (mv1 mv2 : BitVec 16)
  /-- RAIL_OK (R521): rail `rail` returns inside by the hysteresis. -/
  | railOk (rail : Fin 10) (mv1 mv2 : BitVec 16)
  /-- POWER_ON_RESET (R530): VIN passes its power-on release. -/
  | powerOnReset
  /-- BROWN_OUT (R523): VIN below 4.40 V for 2 microseconds. -/
  | brownOut
  /-- OVERVOLTAGE_RESET (R521): VIN above 5.60 V for 10 microseconds. -/
  | overvoltageReset
  /-- RAIL_RESET (R521): core rail `rail` outside 5 % for 10 microseconds. -/
  | railReset (rail : Fin 10)
  /-- THERMAL_RESET (R530): a die temperature above 140 degrees for 1 ms. -/
  | thermalReset
  /-- CLOCK_FAULT (R525): clock `clock` outside 1 % for 1 ms (`ppm` its deviation), or its PLL out of lock. -/
  | clockFault (clock : Fin 9) (ppm : BitVec 16) (unlocked : Bool)
  /-- PIN_RESET (R530): RESET_N low for at least 1 microsecond. -/
  | pinReset
  /-- SYS_WATCHDOG_EXPIRY (R531): TMO ms without a feed of the system watchdog. -/
  | sysWatchdogExpiry
  /-- JTAG_RESET (R530): a JTAG reset instruction. -/
  | jtagReset
  /-- RST_CMD (R530): `value` is written to SYS.RST_CMD. -/
  | rstCmd (value : Word)
  /-- WAKE (R529): the module wakes from Dormant or Shelf. -/
  | wake (cause : WakeCause)
  /-- WDT_FEED (R531): `value` is written to SYS.WDT_FEED. -/
  | wdtFeed (value : Word)
  /-- PHASE_1_COMPLETE (R533): boot phase 1 completes. -/
  | phase1Complete
  /-- BOOT_IMAGE (R534): boot phase 2. -/
  | bootImage (obs : Unit)
  /-- SERVICE_IMAGE (R538): in recovery, an image is written to LPDDR4X through the SPI service port. -/
  | serviceImage (image : ServiceImage)
  /-- TRY_A (R537): the word of `key` [31:16] and `cmd` [15:0], with CMD 1, is written to BOOT_CMD. -/
  | tryA (key cmd : BitVec 16)
  /-- TRY_B (R537): the same with CMD 2. -/
  | tryB (key cmd : BitVec 16)
  /-- CONFIRM (R537): `value`, with CMD 3, is written to BOOT_CMD. -/
  | confirm (value : Word)
  /-- RAISE_SECVER (R537): `value`, with CMD 4, is written to BOOT_CMD. -/
  | raiseSecver (value : Word)
  /-- CAL_INVALID (R526): VBAT falls below 1.8 V. -/
  | calInvalid
  /-- JTAG_AUTH (R539): a debugger answers the nonce with a signature, and its public key. -/
  | jtagAuth (key : PublicKey) (sig : Signature)
  /-- LPDDR4X_INITIALISED (R459): the hardware initialisation of region 1 completes. -/
  | lpddr4xInitialised
  /-- SEIZE_OUT_PULSE_END (R343): the module's own pulse on SEIZE_OUT ends. -/
  | seizeOutPulseEnd
  /-- OUT_OVERTEMP_COOLED (R444): the junction of `out` is at or below 160 degrees. -/
  | outOvertempCooled (out : Fin 16)
  /-- REVERSE_CLEARED (R444): `out` is below its VFIELD + 0.1 V. -/
  | reverseCleared (out : Fin 16)
  /-- OPEN_LOAD_CLEARED (R444): the current of `out` has been at least 10 mA for 100 ms. -/
  | openLoadCleared (out : Fin 16)
  /-- GROUP_CURRENT_CLEARED (R444): the current of `group` is `ma` mA, at or below 2.8 A. -/
  | groupCurrentCleared (group : Fin 2) (ma : Nat)
  /-- CROSS_FED_CLEARED (R442): `out` has been sensed low for 10 ms while commanded off. -/
  | crossFedCleared (out : Fin 16)
  /-- ENC_OPEN_WIRE (R455): an open wire on a pair of channel `ch`. -/
  | encOpenWire (ch : Fin 4)
  /-- ADDRESS_AGEING (R405): the learning table entry of `mac` has not been seen for 300 s. -/
  | addressAgeing (mac : BitVec 48)
  /-- JTAG_INSTRUCTION (R540): an instruction is shifted in. -/
  | jtagInstruction (instr : JtagInstr)
  deriving DecidableEq, Repr

end Sys2Proof
end

