-- ==== Sys2Proof/Decode.lean ====
section
/-! DEFINITION. The command a word spells by the bits of spec/opcode_table.json: the table gives no row a bit field, so no word spells
a command. -/
namespace Sys2Proof

/-- The command that the table's bits spell: none, for every word. -/
def decodeTableWord (_nbits _w : Nat) : Option Instr := none

end Sys2Proof
end

