-- ==== Sys2Proof/Machine/Sha.lean ====
section
/-! DEFINITION. SHA-256 and HMAC-SHA-256, which the digest (14_pairing.md R325), the configuration hash (R318), the clear of the recorder
(20_recorder_hack.md R482) and the boot images (23_power_clocks_boot.md R534) name. The spec names the functions; their definition is that of
FIPS 180-4 and FIPS 198-1 (PRESUMED, log 18). -/
namespace Sys2Proof.Machine

/-- Round constants. -/
def shaK : List Word :=
  [0x428a2f98, 0x71374491, 0xb5c0fbcf, 0xe9b5dba5, 0x3956c25b, 0x59f111f1, 0x923f82a4, 0xab1c5ed5,
   0xd807aa98, 0x12835b01, 0x243185be, 0x550c7dc3, 0x72be5d74, 0x80deb1fe, 0x9bdc06a7, 0xc19bf174]
  ++ [0xe49b69c1, 0xefbe4786, 0x0fc19dc6, 0x240ca1cc, 0x2de92c6f, 0x4a7484aa, 0x5cb0a9dc, 0x76f988da,
   0x983e5152, 0xa831c66d, 0xb00327c8, 0xbf597fc7, 0xc6e00bf3, 0xd5a79147, 0x06ca6351, 0x14292967]
  ++ [0x27b70a85, 0x2e1b2138, 0x4d2c6dfc, 0x53380d13, 0x650a7354, 0x766a0abb, 0x81c2c92e, 0x92722c85,
   0xa2bfe8a1, 0xa81a664b, 0xc24b8b70, 0xc76c51a3, 0xd192e819, 0xd6990624, 0xf40e3585, 0x106aa070]
  ++ [0x19a4c116, 0x1e376c08, 0x2748774c, 0x34b0bcb5, 0x391c0cb3, 0x4ed8aa4a, 0x5b9cca4f, 0x682e6ff3,
   0x748f82ee, 0x78a5636f, 0x84c87814, 0x8cc70208, 0x90befffa, 0xa4506ceb, 0xbef9a3f7, 0xc67178f2]

/-- The hash value before the first block. -/
def shaStart : List Word :=
  [0x6a09e667, 0xbb67ae85, 0x3c6ef372, 0xa54ff53a, 0x510e527f, 0x9b05688c, 0x1f83d9ab, 0x5be0cd19]

/-- The number that four bytes spell, the highest byte first. -/
def beWord (l : List Byte) : Word := BitVec.ofNat 32 (l.foldl (fun n b => n * 256 + b.toNat) 0)

/-- The bytes of a number, `n` of them, the highest first. -/
def beBytes (n v : Nat) : List Byte := ((List.range n).map (fun i => BitVec.ofNat 8 (v / 256 ^ i))).reverse

/-- A list cut into pieces of `n`. -/
def piecesOf {α : Type} (n fuel : Nat) (l : List α) : List (List α) :=
  match fuel with
  | 0 => []
  | k + 1 => if l.isEmpty then [] else l.take n :: piecesOf n k (l.drop n)

/-- One more word of the message schedule, which is held with its newest word first. -/
def shaExtend (w : List Word) : List Word :=
  let a := w.getD 14 0
  let b := w.getD 1 0
  let s0 := a.rotateRight 7 ^^^ a.rotateRight 18 ^^^ (a >>> 3)
  let s1 := b.rotateRight 17 ^^^ b.rotateRight 19 ^^^ (b >>> 10)
  (w.getD 15 0 + s0 + w.getD 6 0 + s1) :: w

/-- One round. -/
def shaRound (h : List Word) (kw : Word × Word) : List Word :=
  match h with
  | [a, b, c, d, e, f, g, x] =>
    let t1 := x + (e.rotateRight 6 ^^^ e.rotateRight 11 ^^^ e.rotateRight 25) + ((e &&& f) ^^^ (~~~e &&& g)) + kw.1 + kw.2
    let t2 := (a.rotateRight 2 ^^^ a.rotateRight 13 ^^^ a.rotateRight 22) + ((a &&& b) ^^^ (a &&& c) ^^^ (b &&& c))
    [t1 + t2, a, b, c, d + t1, e, f, g]
  | _ => h

/-- One block of 64 bytes. -/
def shaBlock (h : List Word) (block : List Byte) : List Word :=
  let w := (List.range 48).foldl (fun w _ => shaExtend w) ((piecesOf 4 16 block).map beWord).reverse
  ((shaK.zip w.reverse).foldl shaRound h).zipWith (· + ·) h

/-- SHA-256: 32 bytes. -/
def sha256 (m : List Byte) : List Byte :=
  let zeros := (55 + 64 - m.length % 64) % 64
  let padded := m ++ [0x80] ++ List.replicate zeros 0 ++ beBytes 8 (8 * m.length)
  ((piecesOf 64 (padded.length / 64) padded).foldl shaBlock shaStart).flatMap (fun w => beBytes 4 w.toNat)

/-- HMAC-SHA-256 under a key of at most 64 bytes. -/
def hmacSha256 (key m : List Byte) : List Byte :=
  let k := key ++ List.replicate (64 - key.length) 0
  sha256 (k.map (· ^^^ 0x5C) ++ sha256 (k.map (· ^^^ 0x36) ++ m))

end Sys2Proof.Machine
end

