-- ==== Sys2Proof/Machine/Ecdsa.lean ====
section
/-! DEFINITION. Verification of an ECDSA P-256 signature, which boot images and the JTAG port name (23_power_clocks_boot.md R536, R539). The
spec names the curve and the scheme; their definition is that of FIPS 186-4 (PRESUMED, log 18). Points are in Jacobian coordinates. -/
namespace Sys2Proof.Machine

/-- The field's prime, the order of the base point and the curve's constant b. -/
def p256 : Nat := 2 ^ 256 - 2 ^ 224 + 2 ^ 192 + 2 ^ 96 - 1
def p256Order : Nat := 0xFFFFFFFF00000000FFFFFFFFFFFFFFFFBCE6FAADA7179E84F3B9CAC2FC632551
def p256B : Nat := 0x5AC635D8AA3A93E7B3EBBD55769886BC651D06B0CC53B0F63BCE3C3E27D2604B

/-- A point X/Z², Y/Z³; Z = 0 is the point at infinity. -/
structure CurvePoint where
  x : Nat
  y : Nat
  z : Nat
  deriving DecidableEq, Repr

/-- The base point. -/
def p256Base : CurvePoint :=
  ⟨0x6B17D1F2E12C4247F8BCE6E563A440F277037D812DEB33A0F4A13945D898C296,
   0x4FE342E2FE1A7F9B8EE7EB4A7C0F9E162BCE33576B315ECECBB6406837BF51F5, 1⟩

def fieldMul (a b : Nat) : Nat := a * b % p256
def fieldSub (a b : Nat) : Nat := (a + p256 - b % p256) % p256

/-- Twice a point. -/
def CurvePoint.double (q : CurvePoint) : CurvePoint :=
  let yy := fieldMul q.y q.y
  let zz := fieldMul q.z q.z
  let s := fieldMul (4 * q.x) yy
  let m := fieldMul (3 * fieldSub q.x zz) ((q.x + zz) % p256)
  let x := fieldSub (fieldMul m m) (2 * s)
  ⟨x, fieldSub (fieldMul m (fieldSub s x)) (8 * fieldMul yy yy), fieldMul (2 * q.y) q.z⟩

/-- The sum of two points. -/
def CurvePoint.add (a b : CurvePoint) : CurvePoint :=
  if a.z = 0 then b
  else if b.z = 0 then a
  else
    let za := fieldMul a.z a.z
    let zb := fieldMul b.z b.z
    let u := fieldMul a.x zb
    let s := fieldMul a.y (fieldMul zb b.z)
    let h := fieldSub (fieldMul b.x za) u
    let r := fieldSub (fieldMul b.y (fieldMul za a.z)) s
    if h = 0 then (if r = 0 then a.double else ⟨1, 1, 0⟩)
    else
      let hh := fieldMul h h
      let hhh := fieldMul hh h
      let v := fieldMul u hh
      let x := fieldSub (fieldSub (fieldMul r r) hhh) (2 * v)
      ⟨x, fieldSub (fieldMul r (fieldSub v x)) (fieldMul s hhh), fieldMul h (fieldMul a.z b.z)⟩

/-- The bits of a 256-bit number, the highest first. -/
def bits256 (n : Nat) : List Bool := (List.range 256).map (fun i => n.testBit (255 - i))

/-- A multiple of a point. -/
def CurvePoint.times (k : Nat) (q : CurvePoint) : CurvePoint :=
  (bits256 k).foldl (fun a b => if b then a.double.add q else a.double) ⟨1, 1, 0⟩

/-- The inverse modulo the order, by Fermat. -/
def orderInverse (a : Nat) : Nat :=
  (bits256 (p256Order - 2)).foldl (fun r b => let r := r * r % p256Order; if b then r * a % p256Order else r) 1

/-- The signature (r, s) of a message holds under the public key (x, y). -/
def ecdsaHolds (x y r s : Nat) (message : List Byte) : Bool :=
  let onCurve := decide (x < p256) && decide (y < p256) && fieldMul y y = (x * x % p256 * x + p256B + 3 * (p256 - x)) % p256
  let e := (sha256 message).foldl (fun n b => n * 256 + b.toNat) 0
  let w := orderInverse s
  let q := (p256Base.times (e * w % p256Order)).add ((CurvePoint.mk x y 1).times (r * w % p256Order))
  let zz := fieldMul q.z q.z
  onCurve && decide (0 < r ∧ r < p256Order) && decide (0 < s ∧ s < p256Order) && q.z != 0
    && (q.x = fieldMul r zz || (decide (r + p256Order < p256) && q.x = fieldMul (r + p256Order) zz))

end Sys2Proof.Machine
end

