-- ==== Sys2Proof/Machine/Assoc.lean ====
section
/-! DEFINITION. Sparse tables by key: lists of (key, value) in one canonical form: keys strictly rising, no entry equal to the
default that an unlisted key reads as. -/
namespace Sys2Proof.Machine

/-- The value at `k`; an unlisted key reads as `dflt`. -/
def Assoc.get {α : Type} (dflt : α) (l : List (Nat × α)) (k : Nat) : α :=
  match l with
  | [] => dflt
  | (j, v) :: t => if j = k then v else Assoc.get dflt t k

/-- The table without an entry at `k`. -/
def Assoc.erase {α : Type} (l : List (Nat × α)) (k : Nat) : List (Nat × α) :=
  match l with
  | [] => []
  | (j, v) :: t => if j = k then Assoc.erase t k else (j, v) :: Assoc.erase t k

/-- `v` put before the first larger key. -/
def Assoc.insert {α : Type} (l : List (Nat × α)) (k : Nat) (v : α) : List (Nat × α) :=
  match l with
  | [] => [(k, v)]
  | (j, w) :: t => if k < j then (k, v) :: (j, w) :: t else (j, w) :: Assoc.insert t k v

/-- The table with `v` at `k`: the default removes the entry. -/
def Assoc.set {α : Type} [DecidableEq α] (dflt : α) (l : List (Nat × α)) (k : Nat) (v : α) : List (Nat × α) :=
  if v = dflt then Assoc.erase l k else Assoc.insert (Assoc.erase l k) k v

/-- Every key is greater than `lo`, and the keys rise strictly. -/
def Assoc.sortedFrom {α : Type} (l : List (Nat × α)) (lo : Nat) : Bool :=
  match l with
  | [] => true
  | (j, _) :: t => decide (lo ≤ j) && Assoc.sortedFrom t (j + 1)

/-- The canonical form of a table with one default for every key. -/
def Assoc.wf {α : Type} [DecidableEq α] (dflt : Nat → α) (l : List (Nat × α)) : Bool :=
  Assoc.sortedFrom l 0 && l.all (fun p => decide (p.2 ≠ dflt p.1))

end Sys2Proof.Machine
end

