-- ==== Sys2Proof/Config.lean ====
section
/-! DEFINITION. What one module fixes for itself (its identity, fixed buffer addresses) and the free values: results that the
spec leaves open. Each is an opaque constant without a body, so that no proof can see a value of it. -/
namespace Sys2Proof.Config

/-- A word the implementation fixes (log 6): 0 UID_LO, 1 UID_HI, 2 CANn.FS_BASE, 3 CANn.TXE_BASE, 4 CANn.RX_BASE,
5 ETHn.SL_BASE; the second argument is the controller or port. -/
opaque implWord : Nat → Nat → BitVec 32

/-- The port's own MAC address, low and high word (17_ethernet_discovery.md Table 17.5; log 6). -/
opaque macLo : Nat → BitVec 32
opaque macHi : Nat → BitVec 32

/-- The n-th free value of a run: nothing constrains it (log 5). The state's counter `free` names the next n. -/
opaque freeWord : Nat → BitVec 32

/-- The golden signature of a domain in OTP, by silicon step (R494; log 5). -/
opaque goldenSignature (step : BitVec 32) (domain : Nat) : BitVec 128

/-- Nominal voltage of the on-module core rails 2 to 6, mV (R521; log 6). -/
opaque railNominal : Nat → Nat

/-- The maintenance key of the recorder, as boot loads it (R482, R536; log 18). -/
opaque maintenanceKey : List (BitVec 8)

/-- offsetScaledLogVariance that the module announces for an estimated error in ns (R419; log 23). -/
opaque ptpVariance : Nat → BitVec 16

/-- The rule number a commit of UART reports when a FRAMING field is 3 (Table 22.9 refuses it, no table numbers it; log 41). -/
opaque uartFramingRule : BitVec 8

/-! ### The solver: what a Typefin image makes of a job's parameters (R216, R220; log 94) -/

/-- The quadratic program of a job: minimise 1/2 x'Hx + g'x with A x = b and G x + s = h, s ≥ 0; simple bounds of each variable
(R249); the stages of the tree as indices of the KKT system (variables, then equality multipliers) with the stage each leaves,
parents first (R218). -/
structure Program where
  cost : List (List (BitVec 64))
  lin : List (BitVec 64)
  eqRows : List (List (BitVec 64))
  eqRhs : List (BitVec 64)
  ineqRows : List (List (BitVec 64))
  ineqRhs : List (BitVec 64)
  bounds : List (Option (BitVec 64) × Option (BitVec 64))
  stages : List (List Nat × Option Nat)
  deriving Inhabited, DecidableEq, Repr

/-- The program that an image (header and body) makes of its parameter words. -/
opaque program (image : List (BitVec 8)) (params : List (BitVec 64)) : Program

/-- The exception flags that the operations of one iteration raise (R215), from the image, its parameters and the iterate it starts from. -/
opaque raisedFlags (image : List (BitVec 8)) (params iterate : List (BitVec 64)) : BitVec 4

/-! ### The positioning law (log 95) -/

/-- The thrust model of an actuator type: signed fraction of TMAX from shaft speed, pitch and azimuth (R184, R266). -/
opaque thrustFraction (type : Nat) (feedback : List (BitVec 64)) : BitVec 64

/-! ### The ranging baseband: algorithms and models that the spec names and does not give (log 90) -/

/-- C/N0 in UQ8.8 dB-Hz from the powers of prompt and noise taps summed over so many integrations of so many ms (R131). -/
opaque cn0Of (prompt noise count tInt : Nat) : BitVec 16

/-- The phase-lock indicator of the prompts of 100 ms, in 10^-6 (R131). -/
opaque lockIndicator : List (Int × Int) → Nat

/-- How far the code phase of a signal moves in so many ticks at a Doppler of 2^-8 Hz, 1/64 chip (R132). -/
opaque codeAhead (signal : Nat) (doppler : Int) (ticks : Nat) : Nat

/-- The residual PLL of a VECTOR channel: bandwidth (0.25 Hz), T_INT (ms), its output before (Hz), the phase error (cycles) (R145). -/
opaque residualPll (bw tInt : Nat) (out err : BitVec 64) : BitVec 64

/-- The solution of an antenna from its measurements, the corrections and the numbers carried over (R136, R138): north, east, down, their
rates, clock drift in ppb, HPL in m, the four inter-system offsets in ps, their variances. -/
opaque gnssSolve (rows : List (List (BitVec 64))) (corrections : List (Nat × List (BitVec 8))) (carried : List (BitVec 64)) :
  List (BitVec 64)

/-- The normalised residual of each measurement in that solution (R156). -/
opaque gnssResiduals (rows : List (List (BitVec 64))) (corrections : List (Nat × List (BitVec 8))) (carried : List (BitVec 64)) :
  List (BitVec 64)

/-- GPS time of an epoch in ns and its uncertainty in ns (R136, R95). -/
opaque gnssTime (rows : List (List (BitVec 64))) (corrections : List (Nat × List (BitVec 8))) (carried : List (BitVec 64)) : Int × Nat

/-- Whether the carrier corrections resolve no ambiguity, all, or there are code corrections only: 3 DGNSS, 4 RTK_FLOAT, 5 RTK_FIXED
(Table 5.10). -/
opaque gnssGrade (rows : List (List (BitVec 64))) (corrections : List (Nat × List (BitVec 8))) (carried : List (BitVec 64)) : Nat

/-- The inter-frequency bias of a signal (code × 16 + GLONASS frequency number + 7) after that solution, m (R138). -/
opaque gnssIfb (rows : List (List (BitVec 64))) (carried : List (BitVec 64)) (key : Nat) : BitVec 64

/-- The nominal difference in C/N0 of two signals, UQ8.8 dB (R160). -/
opaque nominalCn0 (a b : Nat) : Int

/-- The ideal correlation of a binary-offset-carrier signal at an offset of 1/64 chip (R162). -/
opaque bocCorrelation (signal : Nat) (offset : Int) : BitVec 64

/-- The sigma of a pseudorange from C/N0 (UQ8.8) and the sine of the elevation, m (R156). -/
opaque rangeSigma (cn0 : BitVec 16) (sinElevation : BitVec 64) : BitVec 64

/-- The baseline vector (north, east, down, m) of the integer search over double differences, and its ratio in 1/16 (R150, R151); `held`
marks satellites whose integers stand. -/
opaque baselineSolve (rows : List (List (BitVec 64))) (held : List Bool) : List (BitVec 64) × Nat

/-- Heading, pitch, roll and their sigmas of the rotation that best fits measured to body vectors (R152); `given` are pitch and roll where
only the heading is determined. -/
opaque attitudeFit (body measured : List (List (BitVec 64))) (given : List (BitVec 64)) : List (BitVec 64)

/-! ### The fusion engine: readings and models that the spec names and does not give (log 91) -/

/-- The numbers of a sensor's item in SI units, in the order of its class (R164, R166). -/
opaque itemNumbers (cls : Nat) (payload : List (BitVec 8)) : List (BitVec 64)

/-- The time that a self-timed item carries, ns since 1970 on its scale, and whether that scale is UTC (R172). -/
opaque itemTime (payload : List (BitVec 8)) : Int × Bool

/-- Variance at the start, and noise added per second, of each core state (R190). -/
opaque coreVariance (state : Nat) : BitVec 64
opaque coreNoise (state : Nat) : BitVec 64

/-- Variances of a clock model's offset (ticks^2) and rate as it starts (R172). -/
opaque clockVariance : Nat → BitVec 64

/-- Variances of a moving target's position and velocity as its filter starts (R206). -/
opaque targetVariance : Nat → BitVec 64

/-- One frame of the adaptive notch: the frequency before, the wave-frequency acceleration, WAVE_TAU in s (R194). -/
opaque notchStep (omega accel : BitVec 64) (tau : Nat) : BitVec 64

end Sys2Proof.Config
end

