-- ==== Sys2Proof/Machine/Regs.lean ====
section
/-! DEFINITION. Every register of the block by name and address (22_registers.md Table 22.7 and the register tables of
each chapter), its access type, the bits that exist and its reset value; the pages of Table 22.6 with their headers.
A register is named by its key: its byte address, plus the element number times 2^32 for a register that a window reaches. -/
namespace Sys2Proof.Machine

/-- The access types of 22_registers.md Table 22.4. `cnt` is an RW counter that any write clears (R35, R115 and others). -/
inductive Access where
  | ro | rw | rws | w1c | w1s | wo | cnt
  deriving DecidableEq, Repr

/-- How the reset value of a register is found: a number of the spec, or a rule that depends on the instance. -/
inductive ResetRule where
  | num (v : Nat)      -- the value the register's table states (0 where the table shows 0)
  | index              -- the register's own index (RBB.CHSELw reads w)
  | grp                -- LPE.GRPg_CFG: 0x4000 + 0x100 g
  | gcl                -- ETH.GCLk: the default gate list of 17_ethernet_discovery.md
  | macLo | macHi      -- the port's own MAC address (Config)
  | cfgWord (n : Nat)  -- a value each implementation fixes (Config.implWord n)
  deriving DecidableEq, Repr

/-- One row of a register table: offset in the page, number of registers, distance between them, access, reset, the bits
that exist. -/
structure RegRow where
  off : Nat
  count : Nat
  stride : Nat
  acc : Access
  reset : ResetRule
  mask : Nat
  deriving DecidableEq, Repr

/-- 02_modes.md Table 2.2 R37: CUR, PREV, MIRROR, MIRROR_VALID, CROWN, THRUST_HOLD, NEUTRAL_WAIT, CAUSE -/
def SYS.MODE : Nat := 0x40000100
/-- 02_modes.md Table 2.3 R40: TARGET, STATION, KEY -/
def SYS.MODE_REQ : Nat := 0x40000104
/-- 02_modes.md Table 2.4 R44: CODE, TARGET, PREC, COUNT -/
def SYS.MODE_RESULT : Nat := 0x40000108
/-- 02_modes.md after Table 2.4 R60: low 32 bits of the beat number of mode entry -/
def SYS.MODE_ENTRY : Nat := 0x4000010C
/-- 22_registers.md Table 22.8 R20: SEL -/
def SYS.CALIBRE : Nat := 0x40000110
/-- 22_registers.md Table 22.8 R27: CLASS_UNCHECKED -/
def SYS.STAT : Nat := 0x40000114
/-- 01_architecture.md R35: class 2 drops -/
def SYS.DROP2_CNT : Nat := 0x40000118
/-- 01_architecture.md R35: class 3 drops -/
def SYS.DROP3_CNT : Nat := 0x4000011C
/-- 22_registers.md Table 22.8 R511: GO, AT, WHEEL, KEY -/
def SYS.GLOBAL_COMMIT : Nat := 0x40000120
/-- 22_registers.md Table 22.8 R512: CODE, pages, RULE, RULE_PAGE, RULE_BLOCK -/
def SYS.GLOBAL_STAT : Nat := 0x40000124
/-- 23_power_clocks_boot.md Table 23.5: 0x6410, 0x4B4E -/
def SYS.ID_PART : Nat := 0x40000130
/-- 23_power_clocks_boot.md Table 23.5: step B1 -/
def SYS.ID_STEP : Nat := 0x40000134
/-- 23_power_clocks_boot.md Table 23.5: unique ID low (Config.uid) -/
def SYS.UID_LO : Nat := 0x40000138
/-- 23_power_clocks_boot.md Table 23.5: unique ID high (Config.uid) -/
def SYS.UID_HI : Nat := 0x4000013C
/-- 23_power_clocks_boot.md Table 23.5 R530: CAUSE, SEEN, wake class -/
def SYS.RST_CAUSE : Nat := 0x40000140
/-- 23_power_clocks_boot.md Table 23.5 R530: KEY -/
def SYS.RST_CMD : Nat := 0x40000144
/-- 23_power_clocks_boot.md Table 23.5 R531: TMO -/
def SYS.WDT_CFG : Nat := 0x40000148
/-- 23_power_clocks_boot.md Table 23.5 R531: KEY -/
def SYS.WDT_FEED : Nat := 0x4000014C
/-- 23_power_clocks_boot.md Table 23.5 R531: ms since feed, RUNNING -/
def SYS.WDT_STAT : Nat := 0x40000150
/-- 23_power_clocks_boot.md Table 23.5 R536: running, TRIAL, FALLBACK, reason, duration, MIN_SEC_VER -/
def SYS.BOOT_STAT : Nat := 0x40000154
/-- 23_power_clocks_boot.md Table 23.5 R537: CMD, KEY -/
def SYS.BOOT_CMD : Nat := 0x40000158
/-- 23_power_clocks_boot.md Table 23.5 R537: result -/
def SYS.BOOT_RES : Nat := 0x4000015C
/-- 23_power_clocks_boot.md Table 23.5: slot A SEC_VER -/
def SYS.IMGA_VER : Nat := 0x40000160
/-- 23_power_clocks_boot.md Table 23.5: slot A BUILD -/
def SYS.IMGA_BUILD : Nat := 0x40000164
/-- 23_power_clocks_boot.md Table 23.5: slot B SEC_VER -/
def SYS.IMGB_VER : Nat := 0x40000168
/-- 23_power_clocks_boot.md Table 23.5: slot B BUILD -/
def SYS.IMGB_BUILD : Nat := 0x4000016C
/-- 23_power_clocks_boot.md Table 23.5 R539: AUTH, LOCKED_OUT, debug slot -/
def SYS.JTAG_STAT : Nat := 0x40000170
/-- 23_power_clocks_boot.md Table 23.6: mV by bandgap 1 and 2 -/
def PWR.RAIL (i : Nat) : Nat := 0x40001100 + 0x4 * i
/-- 23_power_clocks_boot.md Table 23.6 R521: in range, VIO detected -/
def PWR.RAIL_STAT : Nat := 0x40001140
/-- 23_power_clocks_boot.md Table 23.6 R521: warnings -/
def PWR.RAIL_WARN : Nat := 0x40001144
/-- 23_power_clocks_boot.md Table 23.6 R525: deviation, LOCKED, FAULT -/
def PWR.CLK (i : Nat) : Nat := 0x40001150 + 0x4 * i
/-- 23_power_clocks_boot.md Table 23.6 R527: CAL_RUN -/
def PWR.SHELF_CFG : Nat := 0x40001180
/-- 23_power_clocks_boot.md Table 23.6 R528: ALARM_EN -/
def PWR.DORM_CFG : Nat := 0x40001184
/-- 23_power_clocks_boot.md Table 23.6 R528: TAI seconds low -/
def PWR.ALARM_LO : Nat := 0x40001188
/-- 23_power_clocks_boot.md Table 23.6 R528: TAI seconds high -/
def PWR.ALARM_HI : Nat := 0x4000118C
/-- 23_power_clocks_boot.md Table 23.6 R526: calendar seconds low -/
def PWR.CAL_LO : Nat := 0x40001190
/-- 23_power_clocks_boot.md Table 23.6 R526: seconds high, fraction, CAL_VALID -/
def PWR.CAL_HI : Nat := 0x40001194
/-- 23_power_clocks_boot.md Table 23.6 R529: wake source, CAN controller -/
def PWR.WAKE_SRC : Nat := 0x40001198
/-- 23_power_clocks_boot.md Table 23.6: mW -/
def PWR.POWER : Nat := 0x4000119C
/-- 03_escapement.md Table 3.3 R60: beat low -/
def ESC.BEAT_LO : Nat := 0x40002100
/-- 03_escapement.md Table 3.3 R60: beat high, latched -/
def ESC.BEAT_HI : Nat := 0x40002104
/-- 03_escapement.md Table 3.3 R60: signed slip -/
def ESC.BEAT_SLIP : Nat := 0x40002108
/-- 03_escapement.md Table 3.3 R79: STEP_CNT, FOLDED, ANNOUNCED -/
def ESC.STEP_STAT : Nat := 0x4000210C
/-- 03_escapement.md Table 3.3 R62: EN, DIR (axis 1 to 4) -/
def ESC.AX_CFG (i : Nat) : Nat := 0x40002110 + 0x10 * i
/-- 03_escapement.md Table 3.3 R62: INC -/
def ESC.AX_INC (i : Nat) : Nat := 0x40002114 + 0x10 * i
/-- 03_escapement.md Table 3.3 R65: MS -/
def ESC.AX_STALL (i : Nat) : Nat := 0x40002118 + 0x10 * i
/-- 03_escapement.md Table 3.3 R62: axis beat number -/
def ESC.AX_BEAT (i : Nat) : Nat := 0x4000211C + 0x10 * i
/-- 03_escapement.md Table 3.3 R65: STALLED, STALL_SEEN, OVERRUN_SEEN -/
def ESC.AX_STAT : Nat := 0x40002150
/-- 03_escapement.md Table 3.3 R73: late pallets -/
def ESC.PAL_LATE_CNT : Nat := 0x40002160
/-- 03_escapement.md Table 3.3 R76: merged pulses -/
def ESC.SYNC_OVL_CNT : Nat := 0x40002164
/-- 03_escapement.md Table 3.3 R62: skipped angle beats -/
def ESC.ANG_OVR_CNT : Nat := 0x40002168
/-- 03_escapement.md Table 3.5 R66: PERIOD, PHASE -/
def ESC.WHL_CFG (i : Nat) : Nat := 0x40002200 + 0x10 * i
/-- 03_escapement.md Table 3.6 R66: FIRST, COUNT, AXIS -/
def ESC.WHL_LIST (i : Nat) : Nat := 0x40002204 + 0x10 * i
/-- 03_escapement.md Table 3.3 R74: boundaries since entry to Configure -/
def ESC.WHL_TURNS (i : Nat) : Nat := 0x40002208 + 0x10 * i
/-- 03_escapement.md Table 3.7 R75: EN, POL, PAIR -/
def ESC.SYNC_CFG (i : Nat) : Nat := 0x40002400 + 0x4 * i
/-- 03_escapement.md Table 3.8 R69: ACTION, CLASS, OFFSET -/
def ESC.PAL_A (i : Nat) : Nat := 0x40002800 + 0x8 * i
/-- 03_escapement.md Table 3.1 R70: argument -/
def ESC.PAL_B (i : Nat) : Nat := 0x40002804 + 0x8 * i
/-- 04_timebase.md Table 4.3 R84: tick low -/
def TBU.TICK_LO : Nat := 0x40003100
/-- 04_timebase.md Table 4.3 R84: tick high, latched -/
def TBU.TICK_HI : Nat := 0x40003104
/-- 04_timebase.md Table 4.3 R84: fraction, latched -/
def TBU.FRAC : Nat := 0x40003108
/-- 04_timebase.md Table 4.3 R84: signed 2^-32 ns per tick -/
def TBU.RATE : Nat := 0x4000310C
/-- 04_timebase.md Table 4.4 R90: EN, PTP_PORT, CAN_CTL, REF_SEL, AUTO_ACCEPT -/
def TBU.SRC_CFG : Nat := 0x40003110
/-- 04_timebase.md Table 4.3 R97: ns -/
def TBU.JUMP_THR : Nat := 0x40003114
/-- 04_timebase.md Table 4.3 R92: PPM, LOOP_BW -/
def TBU.SLEW : Nat := 0x40003118
/-- 04_timebase.md Table 4.3 R95: A, B -/
def TBU.HOLD_CFG : Nat := 0x4000311C
/-- 04_timebase.md Table 4.3 R95: ns -/
def TBU.HOLD_LIMIT : Nat := 0x40003120
/-- 04_timebase.md Table 4.3 R105: seconds, VALID, LEAP61, LEAP59 -/
def TBU.UTC_OFS : Nat := 0x40003124
/-- 04_timebase.md Table 4.5 R90: STATE, SRC, EVER_LOCKED, JUMP_REFUSED, STEP_PENDING, REF_IN_OK, SPEC_EXCEEDED, CONSISTENT, CLOCK_CLASS, REFUSED_SRC -/
def TBU.STATE : Nat := 0x40003130
/-- 04_timebase.md Table 4.3 R95: ns -/
def TBU.EST_ERR : Nat := 0x40003134
/-- 04_timebase.md Table 4.3 R91: signed ns -/
def TBU.OFFSET : Nat := 0x40003138
/-- 04_timebase.md Table 4.3 R95: seconds in holdover -/
def TBU.HOLD_TIME : Nat := 0x4000313C
/-- 04_timebase.md Table 4.3 R99: ACCEPT, DECLINE, KEY -/
def TBU.JUMP_ACCEPT : Nat := 0x40003140
/-- 04_timebase.md Table 4.3 R102: delta low -/
def TBU.STEP_LO : Nat := 0x40003144
/-- 04_timebase.md Table 4.3 R102: delta high -/
def TBU.STEP_HI : Nat := 0x40003148
/-- 04_timebase.md Table 4.6 R106: MODE, POL, SQUELCH, WIDTH -/
def TBU.PPS_CFG (i : Nat) : Nat := 0x40003150 + 0x4 * i
/-- 04_timebase.md Table 4.3 R90: EN, POL, UART -/
def TBU.PPSIN_CFG : Nat := 0x40003158
/-- 04_timebase.md Table 4.3 R109: FIRED, LATE -/
def TBU.CMP_STAT : Nat := 0x40003160
/-- 04_timebase.md Table 4.7 R109: ARM, PERIODIC, OUT, IRQ, HACK, WIDTH -/
def TBU.CMP_CTRL (i : Nat) : Nat := 0x40003200 + 0x10 * i
/-- 04_timebase.md Table 4.3 R109: target low -/
def TBU.CMP_TGT_LO (i : Nat) : Nat := 0x40003204 + 0x10 * i
/-- 04_timebase.md Table 4.3 R109: target high -/
def TBU.CMP_TGT_HI (i : Nat) : Nat := 0x40003208 + 0x10 * i
/-- 04_timebase.md Table 4.3 R109: period -/
def TBU.CMP_PER (i : Nat) : Nat := 0x4000320C + 0x10 * i
/-- 20_recorder_hack.md Table 20.7 R483: SRC_EN, IN_SEL, IN_EDGE, PAIR_EN, HOLDOFF -/
def HCK.CFG : Nat := 0x40004100
/-- 20_recorder_hack.md Table 20.7 R483: KEY -/
def HCK.FIRE : Nat := 0x40004104
/-- 20_recorder_hack.md Table 20.7 R484: hack number -/
def HCK.NUM : Nat := 0x40004108
/-- 20_recorder_hack.md Table 20.7 R485: SRC -/
def HCK.LAST : Nat := 0x4000410C
/-- 20_recorder_hack.md Table 20.7 R484: latch tick low -/
def HCK.LAST_TICK_LO : Nat := 0x40004110
/-- 20_recorder_hack.md Table 20.7 R484: latch tick high -/
def HCK.LAST_TICK_HI : Nat := 0x40004114
/-- 20_recorder_hack.md Table 20.7 R485: merged triggers -/
def HCK.MERGED_CNT : Nat := 0x40004118
/-- 20_recorder_hack.md Table 20.7 R487: partner's hack number -/
def HCK.PARTNER_NUM : Nat := 0x4000411C
/-- 20_recorder_hack.md Table 20.7: page in the window -/
def HCK.PGSEL : Nat := 0x40004120
/-- 20_recorder_hack.md Table 20.7 R484: EN, word offset, per page -/
def HCK.SEL (i : Nat) (e : Nat) : Nat := 0x40004200 + 0x4 * i + 0x100000000 * e
/-- 20_recorder_hack.md Table 20.6 R481: IRQ_SEV, FRZ_MAX -/
def EVR.CFG : Nat := 0x40005100
/-- 20_recorder_hack.md Table 20.6 R481: FROZEN, KEY_OK, CLR_LOCKED, READY, held -/
def EVR.STAT : Nat := 0x40005104
/-- 20_recorder_hack.md Table 20.6 R477: next granule -/
def EVR.HEAD : Nat := 0x40005108
/-- 20_recorder_hack.md Table 20.6 R477: oldest granule -/
def EVR.TAIL : Nat := 0x4000510C
/-- 20_recorder_hack.md Table 20.6 R475: next SEQ -/
def EVR.SEQ_NEXT : Nat := 0x40005110
/-- 20_recorder_hack.md Table 20.6 R477: SEQ of the oldest record -/
def EVR.TAIL_SEQ : Nat := 0x40005114
/-- 22_registers.md Table 22.14 R560: ring base -/
def EVR.RING_BASE : Nat := 0x40005118
/-- 22_registers.md Table 22.14 R560: code table base -/
def EVR.CODE_BASE : Nat := 0x4000511C
/-- 20_recorder_hack.md Table 20.6 R481: freeze -/
def EVR.FREEZE : Nat := 0x40005120
/-- 20_recorder_hack.md Table 20.6 R481: dropped held records -/
def EVR.HOLD_DROP_CNT : Nat := 0x40005124
/-- 20_recorder_hack.md Table 20.6 R480: suppressed -/
def EVR.SUPP_TOTAL : Nat := 0x40005128
/-- 20_recorder_hack.md Table 20.6 R477: overwritten -/
def EVR.OVERWR_CNT : Nat := 0x4000512C
/-- 20_recorder_hack.md Table 20.6 R476: lost at intake -/
def EVR.LOST_CNT : Nat := 0x40005130
/-- 20_recorder_hack.md Table 20.6 R479: BURST, SEV, REFILL -/
def EVR.DEF_CFG : Nat := 0x40005134
/-- 20_recorder_hack.md Table 20.6 R482: KEY -/
def EVR.CLR_REQ : Nat := 0x40005140
/-- 20_recorder_hack.md Table 20.6 R482: nonce 0 to 3 -/
def EVR.CLR_NONCE_LO : Nat := 0x40005144
/-- 20_recorder_hack.md Table 20.6 R482: nonce 4 to 7 -/
def EVR.CLR_NONCE_HI : Nat := 0x40005148
/-- 20_recorder_hack.md Table 20.6 R482: answer 0 to 3 -/
def EVR.CLR_RESP_LO : Nat := 0x4000514C
/-- 20_recorder_hack.md Table 20.6 R482: answer 4 to 7 -/
def EVR.CLR_RESP_HI : Nat := 0x40005150
/-- 20_recorder_hack.md Table 20.6 R482: KEY -/
def EVR.CLR_CMD : Nat := 0x40005154
/-- 20_recorder_hack.md Table 20.6 R482: code, wrong answers -/
def EVR.CLR_RES : Nat := 0x40005158
/-- 20_recorder_hack.md Table 20.6 R474: operating time low -/
def EVR.OPTIME_LO : Nat := 0x4000515C
/-- 20_recorder_hack.md Table 20.6 R474: operating time high -/
def EVR.OPTIME_HI : Nat := 0x40005160
/-- 20_recorder_hack.md Table 20.6 R474: power cycles -/
def EVR.PWRCYC : Nat := 0x40005164
/-- 19_memory_integrity.md Table 19.3 R467: EN -/
def MEM.SCRUB_CFG : Nat := 0x40006100
/-- 19_memory_integrity.md Table 19.3 R468: LAP_ALARM, region, region 1 initialised -/
def MEM.STAT : Nat := 0x40006104
/-- 19_memory_integrity.md Table 19.3 R465: poison uses -/
def MEM.POISON_USE_CNT : Nat := 0x40006108
/-- 19_memory_integrity.md Table 19.3 R470: address low -/
def MEM.INJ_ADDR_LO : Nat := 0x40006110
/-- 19_memory_integrity.md Table 19.3 R470: address high -/
def MEM.INJ_ADDR_HI : Nat := 0x40006114
/-- 19_memory_integrity.md Table 19.3 R470: PATTERN -/
def MEM.INJ_PAT : Nat := 0x40006118
/-- 19_memory_integrity.md Table 19.3 R470: bytes 0 to 31 -/
def MEM.INJ_BYTES_LO : Nat := 0x4000611C
/-- 19_memory_integrity.md Table 19.3 R470: bytes 32 to 39 -/
def MEM.INJ_BYTES_HI : Nat := 0x40006120
/-- 19_memory_integrity.md Table 19.3 R470: ARM, KEY / ARMED, DONE, REFUSED -/
def MEM.INJ_CTRL : Nat := 0x40006124
/-- 19_memory_integrity.md Table 19.3 R466: corrected words -/
def MEM.CE_CNT (i : Nat) : Nat := 0x40006140 + 0x20 * i
/-- 19_memory_integrity.md Table 19.3 R465: uncorrectable words -/
def MEM.UE_CNT (i : Nat) : Nat := 0x40006144 + 0x20 * i
/-- 19_memory_integrity.md Table 19.3 R466: last error address -/
def MEM.LAST_LO (i : Nat) : Nat := 0x40006148 + 0x20 * i
/-- 19_memory_integrity.md Table 19.3 R466: address high, bytes, UE, scrubber -/
def MEM.LAST_HI (i : Nat) : Nat := 0x4000614C + 0x20 * i
/-- 19_memory_integrity.md Table 19.3 R468: last lap ms -/
def MEM.LAP (i : Nat) : Nat := 0x40006150 + 0x20 * i
/-- 19_memory_integrity.md Table 19.3 R468: lap running ms -/
def MEM.LAP_RUN (i : Nat) : Nat := 0x40006154 + 0x20 * i
/-- 19_memory_integrity.md Table 19.3 R468: limit ms -/
def MEM.LAP_LIMIT (i : Nat) : Nat := 0x40006158 + 0x20 * i
/-- 19_memory_integrity.md Table 19.3 R468: completed laps -/
def MEM.LAPS (i : Nat) : Nat := 0x4000615C + 0x20 * i
/-- 21_self_test.md Table 21.6 R498: result, KIND, first domain, duration -/
def STU.RESULT : Nat := 0x40007100
/-- 21_self_test.md Table 21.6 R498: items, DOM -/
def STU.FAIL_MASK : Nat := 0x40007104
/-- 21_self_test.md Table 21.6 R496: items skipped, groups -/
def STU.SKIP_MASK : Nat := 0x40007108
/-- 21_self_test.md Table 21.6 R490: worst deviations -/
def STU.RANGE : Nat := 0x4000710C
/-- 21_self_test.md Table 21.6 R492: CLEARED, READBACK_OK -/
def STU.KEYS : Nat := 0x40007110
/-- 21_self_test.md Table 21.6 R499: cluster, KEY -/
def STU.CL_TEST : Nat := 0x40007120
/-- 21_self_test.md Table 21.6 R499: result, cluster, refusal, passes -/
def STU.CL_RES : Nat := 0x40007124
/-- 21_self_test.md Table 21.6 R494: MISR words of domain d at 4d to 4d+3 -/
def STU.SIG (i : Nat) : Nat := 0x40007200 + 0x4 * i
/-- 15_safety.md Table 15.8 R360: SOUT, OP_EN, OP_WIDTH, OP_PERIOD -/
def SFM.CFG : Nat := 0x40008100
/-- 15_safety.md Table 15.8 R354: stop inputs -/
def SFM.STOPIN : Nat := 0x40008104
/-- 15_safety.md Table 15.8 R363: RST_IN, EN -/
def SFM.RST_CFG : Nat := 0x40008108
/-- 15_safety.md Table 15.8 R352: expected CRC -/
def SFM.CFG_CRC_EXP : Nat := 0x4000810C
/-- 15_safety.md Table 15.8 R352: live CRC -/
def SFM.CFG_CRC : Nat := 0x40008110
/-- 15_safety.md Table 15.8 R363: KEY -/
def SFM.RESET_ARM : Nat := 0x40008114
/-- 15_safety.md Table 15.8 R363: CODE, arm age, trailing edges -/
def SFM.RESET_RES : Nat := 0x40008118
/-- 15_safety.md Table 15.8 R358: TRIPPED, PERMIT, SOUT_ON, VIOL_LIVE, FAULT, ARMED, arm time left -/
def SFM.STAT : Nat := 0x4000811C
/-- 15_safety.md Table 15.8 R355: live violations -/
def SFM.VIOL : Nat := 0x40008120
/-- 15_safety.md Table 15.8 R358: violations seen -/
def SFM.VIOL_SEEN : Nat := 0x40008124
/-- 15_safety.md Table 15.8 R352: latched internal faults -/
def SFM.FAULT : Nat := 0x40008128
/-- 15_safety.md Table 15.8 R362: off-pulse tests passed -/
def SFM.OP_CNT : Nat := 0x4000812C
/-- 15_safety.md Table 15.8 R369: SRC_BASE, HB_MS -/
def SFM.OSI_CFG : Nat := 0x40008130
/-- 15_safety.md Table 15.8 R371: discarded PDUs -/
def SFM.OSI_DISC_CNT : Nat := 0x40008134
/-- 15_safety.md Table 15.4 R355: EN, ACT, ACT_IN, SRC, CH, MODE, WIN, FILT -/
def SFM.SLS_CFG (i : Nat) : Nat := 0x40008200 + 0x10 * i
/-- 15_safety.md Table 15.8 R355: counts per second -/
def SFM.SLS_LIMIT (i : Nat) : Nat := 0x40008204 + 0x10 * i
/-- 15_safety.md Table 15.8 R355: last speed -/
def SFM.SLS_VAL (i : Nat) : Nat := 0x40008208 + 0x10 * i
/-- 15_safety.md Table 15.4 R355: as SLS_CFG -/
def SFM.SLP_CFG (i : Nat) : Nat := 0x40008280 + 0x10 * i
/-- 15_safety.md Table 15.8 R355: signed counts -/
def SFM.SLP_MIN (i : Nat) : Nat := 0x40008284 + 0x10 * i
/-- 15_safety.md Table 15.8 R355: signed counts -/
def SFM.SLP_MAX (i : Nat) : Nat := 0x40008288 + 0x10 * i
/-- 15_safety.md Table 15.8 R355: counts per turn -/
def SFM.SLP_PER (i : Nat) : Nat := 0x4000828C + 0x10 * i
/-- 15_safety.md Table 15.4 R355: as SLS_CFG -/
def SFM.SDI_CFG (i : Nat) : Nat := 0x40008300 + 0x10 * i
/-- 15_safety.md Table 15.8 R355: counts -/
def SFM.SDI_TOL (i : Nat) : Nat := 0x40008304 + 0x10 * i
/-- 15_safety.md Table 15.8 R355: movement -/
def SFM.SDI_VAL (i : Nat) : Nat := 0x40008308 + 0x10 * i
/-- 15_safety.md Table 15.8 R355: position as evaluated -/
def SFM.SLP_VAL (i : Nat) : Nat := 0x40008400 + 0x4 * i
/-- 15_safety.md Table 15.8 R371: EN, DIR, STOP_EN, ECHO, CLASS, PORT, CONN_ID -/
def SFM.OSI_CONN_CFG (i : Nat) : Nat := 0x40008600 + 0x10 * i
/-- 15_safety.md Table 15.8 R365: identity -/
def SFM.OSI_IDENT (i : Nat) : Nat := 0x40008604 + 0x10 * i
/-- 15_safety.md Table 15.8 R368: TE, RUN_N, frame SLOT -/
def SFM.OSI_TE (i : Nat) : Nat := 0x40008608 + 0x10 * i
/-- 15_safety.md Table 15.8 R371: STATE, last reason, DISC -/
def SFM.OSI_STAT (i : Nat) : Nat := 0x4000860C + 0x10 * i
/-- 14_pairing.md Table 14.7 R330: EN, ROLE, SEIZE_TEST_EN, IN_STEP_BEATS -/
def PRC.CFG : Nat := 0x40009100
/-- 14_pairing.md Table 14.8 R316: LINK, PARTNER, PARTNER_CROWNED, CROWN, CROWN_IN, SEIZE_PENDING, SYNC, MISSES, CROWN_WIRE, SEIZE_WIRE, PMODE -/
def PRC.STAT : Nat := 0x40009104
/-- 14_pairing.md Table 14.7 R340: own epoch -/
def PRC.EPOCH : Nat := 0x40009108
/-- 14_pairing.md Table 14.7 R340: highest epoch met -/
def PRC.EPOCH_MAX : Nat := 0x4000910C
/-- 14_pairing.md Table 14.7 R319: own hash low -/
def PRC.CFG_HASH_LO : Nat := 0x40009110
/-- 14_pairing.md Table 14.7 R319: own hash high -/
def PRC.CFG_HASH_HI : Nat := 0x40009114
/-- 14_pairing.md Table 14.7 R318: partner hash low -/
def PRC.PCFG_HASH_LO : Nat := 0x40009118
/-- 14_pairing.md Table 14.7 R318: partner hash high -/
def PRC.PCFG_HASH_HI : Nat := 0x4000911C
/-- 14_pairing.md Table 14.7 R327: matches, lag -/
def PRC.DIGEST : Nat := 0x40009120
/-- 14_pairing.md Table 14.7 R327: mismatches -/
def PRC.MISMATCH_CNT : Nat := 0x40009124
/-- 14_pairing.md Table 14.7 R330: progress, reason, duration -/
def PRC.TRANSFER : Nat := 0x40009128
/-- 14_pairing.md Table 14.7 R321: last block, largest -/
def PRC.JOURNAL : Nat := 0x4000912C
/-- 14_pairing.md Table 14.7 R316: retransmissions -/
def PRC.LINK_ERR_CNT : Nat := 0x40009130
/-- 14_pairing.md Table 14.7 R324: orphaned beats -/
def PRC.ORPHAN_CNT : Nat := 0x40009134
/-- 14_pairing.md Table 14.7 R347: CMD, STATION, KEY -/
def PRC.CMD : Nat := 0x40009138
/-- 14_pairing.md Table 14.9 R347: result, writes -/
def PRC.CMD_RES : Nat := 0x4000913C
/-- 14_pairing.md Table 14.7 R343: beat of last crown acquisition -/
def PRC.TAKEOVER_BEAT : Nat := 0x40009140
/-- 14_pairing.md Table 14.7 R343: sent, received -/
def PRC.SEIZE_CNT : Nat := 0x40009144
/-- 14_pairing.md Table 14.7 R331: region address -/
def PRC.REPL_BASE : Nat := 0x40009148
/-- 14_pairing.md Table 14.7 R331: bytes -/
def PRC.REPL_SIZE : Nat := 0x4000914C
/-- 05_ranging_signals.md Table 5.12 R134: EN, RATE, AUTO_ACQ, SYS -/
def RBB.GCFG : Nat := 0x40010100
/-- 05_ranging_signals.md Table 5.12 R134: CH0, SOL -/
def RBB.SRC_BASE : Nat := 0x40010104
/-- 05_ranging_signals.md Table 5.12 R132: LOSS_CN0, HYST, LOSS_MS, REACQ_S -/
def RBB.TRK_CFG : Nat := 0x40010108
/-- 05_ranging_signals.md Table 5.12 R124: channel of window w, reset w -/
def RBB.CHSEL (i : Nat) : Nat := 0x40010110 + 0x4 * i
/-- 05_ranging_signals.md Table 5.12 R139: source, UART, UDP port -/
def RBB.CORR_SRC : Nat := 0x40010120
/-- 05_ranging_signals.md Table 5.12 R140: s -/
def RBB.CORR_AGE : Nat := 0x40010124
/-- 05_ranging_signals.md Table 5.12 R140: age, station -/
def RBB.CORR_STAT : Nat := 0x40010128
/-- 05_ranging_signals.md Table 5.12 R139: CRC, UNKNOWN -/
def RBB.CORR_BAD_CNT : Nat := 0x4001012C
/-- 05_ranging_signals.md Table 5.12 R136: FIX, satellites -/
def RBB.SOL_STAT (i : Nat) : Nat := 0x40010130 + 0x4 * i
/-- 05_ranging_signals.md Table 5.12 R138: signed ps -/
def RBB.ISB (i : Nat) : Nat := 0x40010140 + 0x4 * i
/-- 05_ranging_signals.md Table 5.12 R122: not IDLE, existing -/
def RBB.CH_ALLOC : Nat := 0x40010150
/-- 05_ranging_signals.md Table 5.12 R125: ignored writes -/
def RBB.CH_IGN_CNT : Nat := 0x40010154
/-- 05_ranging_signals.md Table 5.12 R115: BIAS_EN, PATH_U_EN, PATH_L_EN, OPEN_MA, SHORT_MA -/
def RBB.ANT_CFG (i : Nat) : Nat := 0x40011100 + 0x10 * i
/-- 05_ranging_signals.md Table 5.12 R115: BIAS, LATCHED, current, shorts -/
def RBB.ANT_STAT (i : Nat) : Nat := 0x40011104 + 0x10 * i
/-- 05_ranging_signals.md Table 5.12 R118: NOTCH_THR, BLANK_THR, NOTCH_EN, BLANK_EN, NOTCH_MAX -/
def RBB.PATH_CFG (i : Nat) : Nat := 0x40011140 + 0x10 * i
/-- 05_ranging_signals.md Table 5.12 R119: AGC, notches, DUTY -/
def RBB.PATH_STAT (i : Nat) : Nat := 0x40011144 + 0x10 * i
/-- 05_ranging_signals.md Table 5.12 R129: T_COH, N_NC, THR, COLD_DOP -/
def RBB.ACQ_CFG : Nat := 0x40012100
/-- 05_ranging_signals.md Table 5.12 R129: HOT_DOP, HOT_CODE -/
def RBB.ACQ_HOT : Nat := 0x40012104
/-- 05_ranging_signals.md Table 5.12 R129: BUSY, channel, dwells -/
def RBB.ENG_STAT (i : Nat) : Nat := 0x40012110 + 0x10 * i
/-- 05_ranging_signals.md Table 5.12 R129: waiting -/
def RBB.ACQ_QUEUE : Nat := 0x40012130
/-- 05_ranging_signals.md Table 5.12 R129: missed searches -/
def RBB.ACQ_MISS_CNT : Nat := 0x40012134
/-- 05_ranging_signals.md Table 5.12 R126: abandoned searches -/
def RBB.ACQ_ABANDON_CNT : Nat := 0x40012138
/-- 06_ranging_integrity.md Table 6.4 R142: EN, PLL_BW, MISS_MAX -/
def RBB.VEC_CFG : Nat := 0x40013100
/-- 06_ranging_integrity.md Table 6.4 R146: DISC_SRC -/
def RBB.VEC_DISC : Nat := 0x40013104
/-- 06_ranging_integrity.md Table 6.4 R142: AVAIL, HOLD, channels -/
def RBB.VEC_STAT : Nat := 0x40013108
/-- 06_ranging_integrity.md Table 6.4 R144: missed beats -/
def RBB.VEC_MISS_CNT : Nat := 0x4001310C
/-- 06_ranging_integrity.md Table 6.4 R149: baseline B x y z mm -/
def RBB.BL_B (i : Nat) : Nat := 0x40013110 + 0x4 * i
/-- 06_ranging_integrity.md Table 6.4 R149: baseline C x y z mm -/
def RBB.BL_C (i : Nat) : Nat := 0x4001311C + 0x4 * i
/-- 06_ranging_integrity.md Table 6.4 R150: EN, RATIO, LEN_TOL -/
def RBB.ATT_CFG : Nat := 0x40013128
/-- 06_ranging_integrity.md Table 6.4 R153: SOURCE_ID -/
def RBB.ATT_SRC : Nat := 0x4001312C
/-- 06_ranging_integrity.md Table 6.4 R152: FIX_B, FIX_C, PR_VALID, satellites -/
def RBB.ATT_STAT : Nat := 0x40013130
/-- 06_ranging_integrity.md Table 6.4 R156: PFA, FDE_MAX, EXCL_S -/
def RBB.RAIM_CFG : Nat := 0x40013140
/-- 06_ranging_integrity.md Table 6.4 R156: HPL, excluded, UNCHECKED -/
def RBB.SOL_INT (i : Nat) : Nat := 0x40013144 + 0x4 * i
/-- 06_ranging_integrity.md Table 6.4 R160: CN0_MAX, CN0_SD_MIN, CN0_XB -/
def RBB.CN0_CFG : Nat := 0x40013150
/-- 06_ranging_integrity.md Table 6.4 R161: AGC_DROP, DUTY_MAX -/
def RBB.AGC_CFG : Nat := 0x40013154
/-- 06_ranging_integrity.md Table 6.4 R161: reference gain, LEARNED (kept in MRAM) -/
def RBB.AGC_REF (i : Nat) : Nat := 0x40013158 + 0x4 * i
/-- 06_ranging_integrity.md Table 6.4 R158: SIG0, SIG1, RMIN, RMAX -/
def RBB.DOA_CFG : Nat := 0x40013170
/-- 06_ranging_integrity.md Table 6.4 R158: TOL, DOA_CLEAR_S, FRAC -/
def RBB.DOA_CFG2 : Nat := 0x40013174
/-- 06_ranging_integrity.md Table 6.4 R158: R_PRED, R_MEAS, n, MODE -/
def RBB.DOA_STAT : Nat := 0x40013178
/-- 06_ranging_integrity.md Table 6.4 R159: CLK_MIN, CLK_K, CLK_PPB -/
def RBB.CLK_CFG : Nat := 0x40013180
/-- 06_ranging_integrity.md Table 6.4 R162: THR -/
def RBB.SQM_CFG : Nat := 0x40013184
/-- 06_ranging_integrity.md Table 6.1 R155: live flags -/
def RBB.INT_FLAG : Nat := 0x40013190
/-- 06_ranging_integrity.md Table 6.4 R155: flags seen -/
def RBB.INT_SEEN : Nat := 0x40013194
/-- 05_ranging_signals.md Table 5.4 R125: SIG, SV, ANT, VECTOR, ROVE_EN, GLO_K -/
def RBB.CH_CFG (e : Nat) : Nat := 0x40014100 + 0x100000000 * e
/-- 05_ranging_signals.md Table 5.5 R125: T_INT, PLL_BW, FLL_BW, DLL_BW -/
def RBB.CH_LOOP (e : Nat) : Nat := 0x40014104 + 0x100000000 * e
/-- 05_ranging_signals.md Table 5.6 R125: SPACING, ROVE -/
def RBB.CH_CORR (e : Nat) : Nat := 0x40014108 + 0x100000000 * e
/-- 05_ranging_signals.md Table 5.3 R125: Doppler aid -/
def RBB.CH_AID_DOP (e : Nat) : Nat := 0x4001410C + 0x100000000 * e
/-- 05_ranging_signals.md Table 5.3 R125: code aid, AID_VALID -/
def RBB.CH_AID_CODE (e : Nat) : Nat := 0x40014110 + 0x100000000 * e
/-- 05_ranging_signals.md Table 5.3 R126: CMD -/
def RBB.CH_CMD (e : Nat) : Nat := 0x40014114 + 0x100000000 * e
/-- 05_ranging_signals.md Table 5.7 R131: STATE, RESULT, CN0, PLL_LOCK, SYNC, HALF_CYCLE, ANT_FAULT -/
def RBB.CH_STAT (e : Nat) : Nat := 0x40014118 + 0x100000000 * e
/-- 05_ranging_signals.md Table 5.3 R132: lock ms -/
def RBB.CH_LOCK_MS (e : Nat) : Nat := 0x4001411C + 0x100000000 * e
/-- 05_ranging_signals.md Table 5.3 R132: losses since START -/
def RBB.CH_LOSS_CNT (e : Nat) : Nat := 0x40014120 + 0x100000000 * e
/-- 07_fusion_tracks.md Table 7.6 R183: FB_EN, EXT_TRK, EXT_EN -/
def FUS.EGO_CFG : Nat := 0x40020100
/-- 22_registers.md Table 22.14 R560: state memory base -/
def FUS.SM_BASE : Nat := 0x40020104
/-- 07_fusion_tracks.md Table 7.6 R165: tracks, capacity -/
def FUS.TRK_ALLOC : Nat := 0x40020108
/-- 07_fusion_tracks.md Table 7.6 R179: late items -/
def FUS.LATE_CNT : Nat := 0x4002010C
/-- 07_fusion_tracks.md Table 7.6 R179: future items -/
def FUS.FUTURE_CNT : Nat := 0x40020110
/-- 07_fusion_tracks.md Table 7.6 R180: last depth, largest (cleared by a write), replays in last second -/
def FUS.REPLAY_STAT : Nat := 0x40020114
/-- 07_fusion_tracks.md Table 7.6 R174: CLK_TOL, READMIT, RATE_MAX -/
def FUS.OOS_CFG : Nat := 0x40020118
/-- 07_fusion_tracks.md Table 7.6 R186: WARM_MIN, RAMP_S -/
def FUS.WARM_CFG : Nat := 0x4002011C
/-- 07_fusion_tracks.md Table 7.6 R169: VALID bits LO, HI -/
def FUS.TRK_VALID (i : Nat) : Nat := 0x40020120 + 0x4 * i
/-- 07_fusion_tracks.md Table 7.6 R174: OUT_OF_STEP bits LO, HI -/
def FUS.TRK_OOS (i : Nat) : Nat := 0x40020128 + 0x4 * i
/-- 07_fusion_tracks.md Table 7.7: track window selector -/
def FUS.TRKSEL : Nat := 0x40021100
/-- 07_fusion_tracks.md Table 7.8 R164: CLASS, INST, TIMING, TRIG_WHEEL, SOURCE_ID -/
def FUS.TRK_CFG (e : Nat) : Nat := 0x40021110 + 0x100000000 * e
/-- 07_fusion_tracks.md Table 7.7 R170: us -/
def FUS.TRK_LAT (e : Nat) : Nat := 0x40021114 + 0x100000000 * e
/-- 07_fusion_tracks.md Table 7.7 R166: ms -/
def FUS.TRK_TMO (e : Nat) : Nat := 0x40021118 + 0x100000000 * e
/-- 07_fusion_tracks.md Table 7.7 R182: mm -/
def FUS.TRK_LEV_X (e : Nat) : Nat := 0x4002111C + 0x100000000 * e
/-- 07_fusion_tracks.md Table 7.7 R182: mm -/
def FUS.TRK_LEV_Y (e : Nat) : Nat := 0x40021120 + 0x100000000 * e
/-- 07_fusion_tracks.md Table 7.7 R182: mm -/
def FUS.TRK_LEV_Z (e : Nat) : Nat := 0x40021124 + 0x100000000 * e
/-- 07_fusion_tracks.md Table 7.7 R167: serial low -/
def FUS.TRK_SERIAL_LO (e : Nat) : Nat := 0x40021128 + 0x100000000 * e
/-- 07_fusion_tracks.md Table 7.7 R167: serial high -/
def FUS.TRK_SERIAL_HI (e : Nat) : Nat := 0x4002112C + 0x100000000 * e
/-- 07_fusion_tracks.md Table 7.7 R185: sigma -/
def FUS.TRK_NOISE (e : Nat) : Nat := 0x40021130 + 0x100000000 * e
/-- 07_fusion_tracks.md Table 7.7 R176: CMD, KEY -/
def FUS.TRK_CMD (e : Nat) : Nat := 0x40021134 + 0x100000000 * e
/-- 07_fusion_tracks.md Table 7.9 R168: STATE, VALID, CONSISTENT, WEIGHT -/
def FUS.TRK_STAT (e : Nat) : Nat := 0x40021138 + 0x100000000 * e
/-- 07_fusion_tracks.md Table 7.7 R173: last r, us -/
def FUS.TRK_CLK_RES (e : Nat) : Nat := 0x4002113C + 0x100000000 * e
/-- 07_fusion_tracks.md Table 7.7 R172: rho ppb -/
def FUS.TRK_CLK_RATE (e : Nat) : Nat := 0x40021140 + 0x100000000 * e
/-- 08_fusion_estimation.md Table 8.8 R194: WAVE_EN, WIND_EN, TGT_EN, TGT_TRK -/
def FUS.EST_CFG : Nat := 0x40022100
/-- 08_fusion_estimation.md Table 8.8 R194: W_MIN, W_MAX, ZETA, W_INIT -/
def FUS.WAVE_CFG : Nat := 0x40022104
/-- 08_fusion_estimation.md Table 8.8 R194: s -/
def FUS.WAVE_TAU : Nat := 0x40022108
/-- 08_fusion_estimation.md Table 8.8 R207: WIND_TAU, HOLD_S, DECAY_S, RHO_AIR -/
def FUS.WIND_CFG : Nat := 0x4002210C
/-- 08_fusion_estimation.md Table 8.8 R207: speed, direction -/
def FUS.WIND_DIFF : Nat := 0x40022110
/-- 08_fusion_estimation.md Table 8.8 R205: FIXED, TGT_Q -/
def FUS.REL_CFG : Nat := 0x40022114
/-- 08_fusion_estimation.md Table 8.8 R210: state, VALID, SUBSTITUTED, SUSPECT, candidates, sequence -/
def FUS.EST_STAT : Nat := 0x40022118
/-- 08_fusion_estimation.md Table 8.8 R194: peak frequencies (start at W_INIT) -/
def FUS.WAVE_W : Nat := 0x4002211C
/-- 08_fusion_estimation.md Table 8.8 R207: in use, DISAGREE, HELD, track -/
def FUS.WIND_STAT : Nat := 0x40022120
/-- 08_fusion_estimation.md Table 8.9 R196: GATE, GATE_N -/
def FUS.GATE_CFG : Nat := 0x40023100
/-- 08_fusion_estimation.md Table 8.9 R198: VOTE_GATE, AGREE, WMIN -/
def FUS.VOTE_CFG : Nat := 0x40023104
/-- 08_fusion_estimation.md Table 8.9 R195: FREEZE_TOL, FREEZE_S -/
def FUS.FREEZE_CFG : Nat := 0x40023108
/-- 08_fusion_estimation.md Table 8.9 R195: JUMP_MM, JUMP_HDG -/
def FUS.JUMP_CFG : Nat := 0x4002310C
/-- 08_fusion_estimation.md Table 8.9 R195: DRIFT_MM, WIN_S -/
def FUS.DRIFT_CFG : Nat := 0x40023110
/-- 08_fusion_estimation.md Table 8.9 R201: COAST_S, RECOVER_S -/
def FUS.COAST_CFG : Nat := 0x40023114
/-- 08_fusion_estimation.md Table 8.9 R200: ACTIVE, EXPIRED, COAST_LEFT -/
def FUS.SPLIT_STAT : Nat := 0x40023118
/-- 08_fusion_estimation.md Table 8.9 R200: SPLIT_SET LO, HI -/
def FUS.SPLIT_SET (i : Nat) : Nat := 0x4002311C + 0x4 * i
/-- 08_fusion_estimation.md Table 8.9 R203: TRK, KEY -/
def FUS.SPLIT_SEL : Nat := 0x40023124
/-- 08_fusion_estimation.md Table 8.9 R203: CODE, track, writes -/
def FUS.SEL_RESULT : Nat := 0x40023128
/-- 08_fusion_estimation.md Table 8.9 R197: excluded LO, HI -/
def FUS.EXCL (i : Nat) : Nat := 0x4002312C + 0x4 * i
/-- 08_fusion_estimation.md Table 8.9 R195: freeze, jump, drift, voted out -/
def FUS.TEST_CNT : Nat := 0x40023134
/-- 08_fusion_estimation.md Table 8.9 R196: gate rejections -/
def FUS.GATE_REJ_CNT : Nat := 0x40023138
/-- 08_fusion_estimation.md Table 8.9 R198: 0x1117 frames -/
def FUS.MISMATCH_CNT : Nat := 0x4002313C
/-- 09_solver_hardware.md Table 9.7 R228: EN, FW_QMAX -/
def SLV.CFG : Nat := 0x40030100
/-- 09_solver_hardware.md Table 9.7 R230: used, firmware, stream 2, largest (cleared by a write) -/
def SLV.QSTAT : Nat := 0x40030104
/-- 09_solver_hardware.md Table 9.7 R228: descriptor address -/
def SLV.SUBMIT : Nat := 0x40030108
/-- 09_solver_hardware.md Table 9.7 R228: SUB_CODE, stream -/
def SLV.SUBMIT_RES : Nat := 0x4003010C
/-- 09_solver_hardware.md Table 9.7 R228: refusals -/
def SLV.REFUSE_CNT : Nat := 0x40030110
/-- 09_solver_hardware.md Table 9.7 R237: stream, KEY -/
def SLV.CANCEL : Nat := 0x40030114
/-- 09_solver_hardware.md Table 9.7 R237: sequence -/
def SLV.CANCEL_SEQ : Nat := 0x40030118
/-- 09_solver_hardware.md Table 9.7 R237: result -/
def SLV.CANCEL_RES : Nat := 0x4003011C
/-- 09_solver_hardware.md Table 9.7 R223: overruns -/
def SLV.OVERRUN_CNT : Nat := 0x40030120
/-- 09_solver_hardware.md Table 9.7 R215: INVALID or DIVZERO jobs -/
def SLV.FP_CNT : Nat := 0x40030124
/-- 09_solver_hardware.md Table 9.7: per mille -/
def SLV.UTIL : Nat := 0x40030128
/-- 10_solver_deadline.md Table 10.5 R253: warm starts refused -/
def SLV.WARM_REJ_CNT : Nat := 0x4003012C
/-- 10_solver_deadline.md Table 10.5: DEADLINE jobs -/
def SLV.DEADLINE_CNT : Nat := 0x40030130
/-- 10_solver_deadline.md Table 10.5: NO_ITERATE jobs -/
def SLV.NOITER_CNT : Nat := 0x40030134
/-- 10_solver_deadline.md Table 10.5: CODE, stream, BEST_NOT_LAST, iterations, SEQ -/
def SLV.LAST_END : Nat := 0x40030138
/-- 09_solver_hardware.md Table 9.7 R224: image address low; a write stages -/
def SLV.SLOT_ADDR_LO (i : Nat) : Nat := 0x40031100 + 0x20 * i
/-- 09_solver_hardware.md Table 9.7 R224: image address high -/
def SLV.SLOT_ADDR_HI (i : Nat) : Nat := 0x40031104 + 0x20 * i
/-- 09_solver_hardware.md Table 9.8 R226: EN, LEVEL, OWNER -/
def SLV.SLOT_CFG (i : Nat) : Nat := 0x40031108 + 0x20 * i
/-- 09_solver_hardware.md Table 9.7 R224: PREP, WIDTH, KIND, queued, running -/
def SLV.SLOT_INFO (i : Nat) : Nat := 0x4003110C + 0x20 * i
/-- 09_solver_hardware.md Table 9.7 R221: hash low -/
def SLV.SLOT_HASH_LO (i : Nat) : Nat := 0x40031110 + 0x20 * i
/-- 09_solver_hardware.md Table 9.7 R221: hash high -/
def SLV.SLOT_HASH_HI (i : Nat) : Nat := 0x40031114 + 0x20 * i
/-- 09_solver_hardware.md Table 9.7 R223: live CYC_ITER -/
def SLV.SLOT_CYC_ITER (i : Nat) : Nat := 0x40031118 + 0x20 * i
/-- 09_solver_hardware.md Table 9.7 R223: last iteration cycles -/
def SLV.SLOT_CYC_LAST (i : Nat) : Nat := 0x4003111C + 0x20 * i
/-- 09_solver_hardware.md Table 9.7 R229: next SEQ -/
def SLV.STRM_NEXT (i : Nat) : Nat := 0x40032100 + 0x20 * i
/-- 09_solver_hardware.md Table 9.7 R236: last published -/
def SLV.STRM_PUB (i : Nat) : Nat := 0x40032104 + 0x20 * i
/-- 09_solver_hardware.md Table 9.7: held, queued, running -/
def SLV.STRM_STAT (i : Nat) : Nat := 0x40032108 + 0x20 * i
/-- 09_solver_hardware.md Table 9.7 R33: overtaken -/
def SLV.STRM_OVERTAKEN (i : Nat) : Nat := 0x4003210C + 0x20 * i
/-- 09_solver_hardware.md Table 9.10 R240: STATE, LEVELS, RUN_SLOT, RUNNING, SCRATCH_KIB -/
def SLV.CL_STAT (i : Nat) : Nat := 0x40033100 + 0x10 * i
/-- 09_solver_hardware.md Table 9.7: per mille -/
def SLV.CL_BUSY (i : Nat) : Nat := 0x40033104 + 0x10 * i
/-- 09_solver_hardware.md Table 9.7 R240: REQ, KEY -/
def SLV.CL_ISOLATE (i : Nat) : Nat := 0x40033108 + 0x10 * i
/-- 09_solver_hardware.md Table 9.7 R238: faults -/
def SLV.CL_FAULT_CNT (i : Nat) : Nat := 0x4003310C + 0x10 * i
/-- 11_positioning_law.md Table 11.10: EN, ROLL_EN, ACT_STAGES, MPC_DL_PCT, MPC_MAX_ITER, ALLOC_MAX_ITER -/
def LAW.CFG : Nat := 0x40038100
/-- 11_positioning_law.md Table 11.11: ALLOC_DL, REJ_MAX, BLEND_FRAMES, H_S, PWR_TMO -/
def LAW.CFG2 : Nat := 0x40038104
/-- 11_positioning_law.md Table 11.9: ALLOC_SLOT, MPC_SLOT, CQ_SLOT -/
def LAW.SLOTS : Nat := 0x40038108
/-- 11_positioning_law.md Table 11.9 R70: ALLOC_GRP, MPC_GRP, CQ_GRP -/
def LAW.GROUPS : Nat := 0x4003810C
/-- 11_positioning_law.md Table 11.9: FEEDBACK base -/
def LAW.FB_BASE : Nat := 0x40038110
/-- 11_positioning_law.md Table 11.9 R275: JOY_SRC, JOY_TMO, JOY_RAMP -/
def LAW.JOY_CFG : Nat := 0x40038114
/-- 22_registers.md Table 22.14 R560: parameter record -/
def LAW.PARAM_BASE : Nat := 0x40038118
/-- 22_registers.md Table 22.14 R560: plan record -/
def LAW.PLAN_BASE : Nat := 0x4003811C
/-- 11_positioning_law.md Table 11.9 R265: g, UQ2.30 -/
def LAW.G_USED : Nat := 0x40038120
/-- 11_positioning_law.md Table 11.9 R277: SOURCE, rejections, reason, BLENDING, SLACK, EXCURSION, INT_FROZEN, SEQ -/
def LAW.STAT : Nat := 0x40038124
/-- 11_positioning_law.md Table 11.9 R277: MPC rejections -/
def LAW.REJ_CNT : Nat := 0x40038128
/-- 11_positioning_law.md Table 11.9 R282: allocation rejections -/
def LAW.ALLOC_REJ_CNT : Nat := 0x4003812C
/-- 11_positioning_law.md Table 11.9 R284: late set-points -/
def LAW.SP_LATE_CNT : Nat := 0x40038130
/-- 11_positioning_law.md Table 11.9 R267: actuator, CMD, KEY -/
def LAW.ACT_CMD : Nat := 0x40038134
/-- 11_positioning_law.md Table 11.9 R268: code, actuator -/
def LAW.ACT_CMD_RES : Nat := 0x40038138
/-- 11_positioning_law.md Table 11.9 R269: PDEF, LIMIT_EN -/
def LAW.BUS_CFG (i : Nat) : Nat := 0x40038140 + 0x8 * i
/-- 11_positioning_law.md Table 11.9 R269: power, ONLINE, STALE (RO) -/
def LAW.BUS_PWR (i : Nat) : Nat := 0x40038144 + 0x8 * i
/-- 11_positioning_law.md Table 11.9 R267: AVAILABLE bits -/
def LAW.ACT_AVAIL (i : Nat) : Nat := 0x40038180 + 0x4 * i
/-- 12_consequence_analysis.md Table 12.4 R291: WARN, HYST, ENV_FLOOR -/
def LAW.CQ_CFG : Nat := 0x40038190
/-- 12_consequence_analysis.md Table 12.4 R289: MAX_ITER -/
def LAW.CQ_CFG2 : Nat := 0x40038194
/-- 12_consequence_analysis.md Table 12.4 R291: lowest case, counts -/
def LAW.CQ_STAT : Nat := 0x40038198
/-- 12_consequence_analysis.md Table 12.4 R290: run number -/
def LAW.CQ_RUN : Nat := 0x4003819C
/-- 12_consequence_analysis.md Table 12.4 R292: cases of branches -/
def LAW.CQ_BRANCH : Nat := 0x400381A0
/-- 22_registers.md Table 22.14 R560: consequence record -/
def LAW.CQ_BASE : Nat := 0x400381A4
/-- 11_positioning_law.md Table 11.13 R266: TYPE, BUS, LOOP, PORT, SLOT -/
def LAW.ACT_CFG (i : Nat) : Nat := 0x40039100 + 0x40 * i
/-- 11_positioning_law.md Table 11.13: mm -/
def LAW.ACT_POS_X (i : Nat) : Nat := 0x40039104 + 0x40 * i
/-- 11_positioning_law.md Table 11.13: mm -/
def LAW.ACT_POS_Y (i : Nat) : Nat := 0x40039108 + 0x40 * i
/-- 11_positioning_law.md Table 11.13: mm -/
def LAW.ACT_POS_Z (i : Nat) : Nat := 0x4003910C + 0x40 * i
/-- 11_positioning_law.md Table 11.13: TMAX, TREV or TMIN -/
def LAW.ACT_FORCE (i : Nat) : Nat := 0x40039110 + 0x40 * i
/-- 11_positioning_law.md Table 11.13: PMAX -/
def LAW.ACT_PWR (i : Nat) : Nat := 0x40039114 + 0x40 * i
/-- 11_positioning_law.md Table 11.13: omega_max, RUD_K -/
def LAW.ACT_RATE (i : Nat) : Nat := 0x40039118 + 0x40 * i
/-- 11_positioning_law.md Table 11.13: binary turn -/
def LAW.ACT_DIR (i : Nat) : Nat := 0x4003911C + 0x40 * i
/-- 11_positioning_law.md Table 11.13: sector -/
def LAW.ACT_SECT0_A (i : Nat) : Nat := 0x40039120 + 0x40 * i
/-- 11_positioning_law.md Table 11.13: sector -/
def LAW.ACT_SECT0_B (i : Nat) : Nat := 0x40039124 + 0x40 * i
/-- 11_positioning_law.md Table 11.13: sector -/
def LAW.ACT_SECT1_A (i : Nat) : Nat := 0x40039128 + 0x40 * i
/-- 11_positioning_law.md Table 11.13: sector -/
def LAW.ACT_SECT1_B (i : Nat) : Nat := 0x4003912C + 0x40 * i
/-- 11_positioning_law.md Table 11.13 R267: STATE, cause -/
def LAW.ACT_STAT (i : Nat) : Nat := 0x40039130 + 0x40 * i
/-- 11_positioning_law.md Table 11.13 R283: last azimuth -/
def LAW.ACT_SP_AZ (i : Nat) : Nat := 0x40039134 + 0x40 * i
/-- 11_positioning_law.md Table 11.13 R283: last demand -/
def LAW.ACT_SP_DEM (i : Nat) : Nat := 0x40039138 + 0x40 * i
/-- 12_consequence_analysis.md Table 12.1 R286: EN, BRANCH_OK -/
def LAW.CQ_CASE_CFG (i : Nat) : Nat := 0x40039B00 + 0x10 * i
/-- 12_consequence_analysis.md Table 12.1 R286: actuator mask -/
def LAW.CQ_ACT_LO (i : Nat) : Nat := 0x40039B04 + 0x10 * i
/-- 12_consequence_analysis.md Table 12.1 R286: actuator mask high, BUS mask -/
def LAW.CQ_ACT_HI (i : Nat) : Nat := 0x40039B08 + 0x10 * i
/-- 12_consequence_analysis.md Table 12.1 R290: MARGIN, STATE, STALE, BRANCH, run -/
def LAW.CQ_RES (i : Nat) : Nat := 0x40039B0C + 0x10 * i
/-- 13_loop_engine.md Table 13.1: EN -/
def LPE.CFG : Nat := 0x40040100
/-- 22_registers.md Table 22.14 R560: loop table -/
def LPE.TABLE_BASE : Nat := 0x40040104
/-- 13_loop_engine.md Table 13.1 R296: RATE, PACE, JOB; reset 0x4000 + 0x100 g -/
def LPE.GRP_CFG (i : Nat) : Nat := 0x40040110 + 0x4 * i
/-- 13_loop_engine.md Table 13.1 R299: last published sample -/
def LPE.GRP_SEQ (i : Nat) : Nat := 0x40040120 + 0x4 * i
/-- 13_loop_engine.md Table 13.1: slots in RUN -/
def LPE.RUN (i : Nat) : Nat := 0x40040130 + 0x4 * i
/-- 13_loop_engine.md Table 13.1: slots in HOLD, OPEN, TRIPPED -/
def LPE.VIOL (i : Nat) : Nat := 0x40040138 + 0x4 * i
/-- 13_loop_engine.md Table 13.1 R301: saturations -/
def LPE.SAT_TOTAL : Nat := 0x40040140
/-- 13_loop_engine.md Table 13.1 R300: skipped samples -/
def LPE.SKIP_CNT : Nat := 0x40040144
/-- 13_loop_engine.md Table 13.1 R310: outputs -/
def LPE.U (i : Nat) : Nat := 0x40040200 + 0x4 * i
/-- 13_loop_engine.md Table 13.1 R311: set-points -/
def LPE.SP (i : Nat) : Nat := 0x40040300 + 0x4 * i
/-- 13_loop_engine.md Table 13.1: slot window selector -/
def LPE.SLOTSEL : Nat := 0x40041100
/-- 13_loop_engine.md Table 13.2 R298: EN, DIV, WRAP, SP_SEL, SP_SRC, SP_SLOT -/
def LPE.SL_CFG (e : Nat) : Nat := 0x40041110 + 0x100000000 * e
/-- 13_loop_engine.md Table 13.1 R301: FSIG, FOUT, FGAIN -/
def LPE.SL_FMT (e : Nat) : Nat := 0x40041114 + 0x100000000 * e
/-- 13_loop_engine.md Table 13.1 R303: TYPE, CH, FB_SHL, FMT, OFS -/
def LPE.SL_FB (e : Nat) : Nat := 0x40041118 + 0x100000000 * e
/-- 13_loop_engine.md Table 13.1 R303: SOURCE_ID, FB_TMO -/
def LPE.SL_FB_SRC (e : Nat) : Nat := 0x4004111C + 0x100000000 * e
/-- 13_loop_engine.md Table 13.1 R303: offset -/
def LPE.SL_FB_OFS (e : Nat) : Nat := 0x40041120 + 0x100000000 * e
/-- 13_loop_engine.md Table 13.1 R310: DST, CH, PORT, SLOT, OFS -/
def LPE.SL_OUT (e : Nat) : Nat := 0x40041124 + 0x100000000 * e
/-- 13_loop_engine.md Table 13.1 R305: UMIN -/
def LPE.SL_UMIN (e : Nat) : Nat := 0x40041128 + 0x100000000 * e
/-- 13_loop_engine.md Table 13.1 R305: UMAX -/
def LPE.SL_UMAX (e : Nat) : Nat := 0x4004112C + 0x100000000 * e
/-- 13_loop_engine.md Table 13.1 R305: IMIN -/
def LPE.SL_IMIN (e : Nat) : Nat := 0x40041130 + 0x100000000 * e
/-- 13_loop_engine.md Table 13.1 R305: IMAX -/
def LPE.SL_IMAX (e : Nat) : Nat := 0x40041134 + 0x100000000 * e
/-- 13_loop_engine.md Table 13.1 R309: VCOMP_EN, VSRC, ACC_EN, V_NOM -/
def LPE.SL_FF (e : Nat) : Nat := 0x40041138 + 0x100000000 * e
/-- 13_loop_engine.md Table 13.1 R309: SOURCE_ID, OFS -/
def LPE.SL_VSRC (e : Nat) : Nat := 0x4004113C + 0x100000000 * e
/-- 13_loop_engine.md Table 13.1 R312: GSET_FIRST, NREG, SCHED, SCHED_CH -/
def LPE.SL_GAIN (e : Nat) : Nat := 0x40041140 + 0x100000000 * e
/-- 13_loop_engine.md Table 13.1 R312: SOURCE_ID, OFS, FMT -/
def LPE.SL_SCHED (e : Nat) : Nat := 0x40041144 + 0x100000000 * e
/-- 13_loop_engine.md Table 13.1 R313: EN, ACTION, DEAD, N -/
def LPE.SL_PLAUS (e : Nat) : Nat := 0x40041148 + 0x100000000 * e
/-- 13_loop_engine.md Table 13.1 R313: ALPHA, BETA -/
def LPE.SL_PMODEL (e : Nat) : Nat := 0x4004114C + 0x100000000 * e
/-- 13_loop_engine.md Table 13.1 R313: K_M -/
def LPE.SL_PGAIN (e : Nat) : Nat := 0x40041150 + 0x100000000 * e
/-- 13_loop_engine.md Table 13.1 R313: THR -/
def LPE.SL_PTHR (e : Nat) : Nat := 0x40041154 + 0x100000000 * e
/-- 13_loop_engine.md Table 13.1 R313: RESTART, KEY -/
def LPE.SL_CMD (e : Nat) : Nat := 0x40041160 + 0x100000000 * e
/-- 13_loop_engine.md Table 13.3: STATE, REGION, U_SAT, I_FROZEN, FB_STALE, V_LIMIT, MIRROR, NBAD -/
def LPE.SL_STAT (e : Nat) : Nat := 0x40041164 + 0x100000000 * e
/-- 13_loop_engine.md Table 13.1 R305: integral -/
def LPE.SL_I (e : Nat) : Nat := 0x40041168 + 0x100000000 * e
/-- 13_loop_engine.md Table 13.1 R313: residual -/
def LPE.SL_RES (e : Nat) : Nat := 0x4004116C + 0x100000000 * e
/-- 13_loop_engine.md Table 13.1 R301: saturations -/
def LPE.SL_SAT_CNT (e : Nat) : Nat := 0x40041170 + 0x100000000 * e
/-- 17_ethernet_discovery.md Table 17.7 R424: EN, CAN_EN, ETH_EN, PHASE -/
def NYM.CFG : Nat := 0x40068100
/-- 17_ethernet_discovery.md Table 17.7 R424: ROLE, SLOT, NODE -/
def NYM.OWN : Nat := 0x40068104
/-- 17_ethernet_discovery.md Table 17.7 R424: identifier base -/
def NYM.CAN_BASE : Nat := 0x40068108
/-- 17_ethernet_discovery.md Table 17.7 R424: port -/
def NYM.UDP : Nat := 0x4006810C
/-- 17_ethernet_discovery.md Table 17.7 R424: group -/
def NYM.GROUP : Nat := 0x40068110
/-- 17_ethernet_discovery.md Table 17.7 R427: entries, ADDR_CLASH, QUARANTINED -/
def NYM.STAT : Nat := 0x40068114
/-- 17_ethernet_discovery.md Table 17.7 R428: gated items -/
def NYM.GATED_CNT : Nat := 0x40068118
/-- 17_ethernet_discovery.md Table 17.7 R425: own announcements heard -/
def NYM.SELF_CNT : Nat := 0x4006811C
/-- 17_ethernet_discovery.md Table 17.7: roster window selector -/
def NYM.RSEL : Nat := 0x40068120
/-- 17_ethernet_discovery.md Table 17.7: serial low of RSEL -/
def NYM.RST_UID_LO : Nat := 0x40068124
/-- 17_ethernet_discovery.md Table 17.7: serial high of RSEL -/
def NYM.RST_UID_HI : Nat := 0x40068128
/-- 17_ethernet_discovery.md Table 17.7: ROLE, SLOT, NODE, STATE of RSEL -/
def NYM.RST_INFO : Nat := 0x4006812C
/-- 17_ethernet_discovery.md Table 17.7: last heard, sources of RSEL -/
def NYM.RST_SEEN : Nat := 0x40068130
/-- 17_ethernet_discovery.md Table 17.7: binding of RSEL -/
def NYM.RST_BIND : Nat := 0x40068134
/-- 17_ethernet_discovery.md Table 17.7 R429: r, e, CMD, KEY -/
def NYM.CMD : Nat := 0x40068138
/-- 17_ethernet_discovery.md Table 17.7 R429: result, writes -/
def NYM.CMD_RES : Nat := 0x4006813C
/-- 17_ethernet_discovery.md Table 17.7 R425: EN, ROLE, SLOT -/
def NYM.EXP_CFG (i : Nat) : Nat := 0x40068200 + 0x10 * i
/-- 17_ethernet_discovery.md Table 17.7 R425: serial low -/
def NYM.EXP_SER_LO (i : Nat) : Nat := 0x40068204 + 0x10 * i
/-- 17_ethernet_discovery.md Table 17.7 R425: serial high -/
def NYM.EXP_SER_HI (i : Nat) : Nat := 0x40068208 + 0x10 * i
/-- 17_ethernet_discovery.md Table 17.7: roster entry, BOUND, PRESENT -/
def NYM.EXP_STAT (i : Nat) : Nat := 0x4006820C + 0x10 * i
/-- 22_registers.md Table 22.9 R520: EN, FRAMING, PARITY, STOP2, CLASS, LEN or GAP -/
def UART.UCFG (i : Nat) : Nat := 0x4006A100 + 0x40 * i
/-- 22_registers.md Table 22.9 R520: bit/s -/
def UART.UBAUD (i : Nat) : Nat := 0x4006A104 + 0x40 * i
/-- 22_registers.md Table 22.9 R520: SOURCE_ID, TMO -/
def UART.USRC (i : Nat) : Nat := 0x4006A108 + 0x40 * i
/-- 22_registers.md Table 22.9 R520: transmit queued, receive pending -/
def UART.USTAT (i : Nat) : Nat := 0x4006A10C + 0x40 * i
/-- 22_registers.md Table 22.9 R520: byte to send -/
def UART.UTX (i : Nat) : Nat := 0x4006A110 + 0x40 * i
/-- 22_registers.md Table 22.9 R520: framing and parity, overruns -/
def UART.UERR_CNT (i : Nat) : Nat := 0x4006A114 + 0x40 * i
/-- 22_registers.md Table 22.7: mode, clock -/
def SPIM.SPI_CFG (i : Nat) : Nat := 0x4006B100 + 0x40 * i
/-- 22_registers.md Table 22.7: chip selects -/
def SPIM.CS_CFG (i : Nat) : Nat := 0x4006B104 + 0x40 * i
/-- 22_registers.md Table 22.7: descriptor address -/
def SPIM.XFER (i : Nat) : Nat := 0x4006B108 + 0x40 * i
/-- 22_registers.md Table 22.7: status -/
def SPIM.SSTAT (i : Nat) : Nat := 0x4006B10C + 0x40 * i
/-- 18_field_io.md Table 18.7 R434: EN, PAR, SRC, LK_HOLD, OL_EN, XF_PULSE, DIAG_OP, XF_ACT, OC_T -/
def FIO.OUT_CFG (i : Nat) : Nat := 0x40070100 + 0x4 * i
/-- 18_field_io.md Table 18.6 R434: commands -/
def FIO.OUT_SET : Nat := 0x40070140
/-- 18_field_io.md Table 18.6 R434: driven on -/
def FIO.OUT_DRIVEN : Nat := 0x40070144
/-- 18_field_io.md Table 18.6 R442: sensed high -/
def FIO.OUT_SENSE : Nat := 0x40070148
/-- 18_field_io.md Table 18.6 R442: WIDTH, PERIOD -/
def FIO.OP_DIAG : Nat := 0x4007014C
/-- 18_field_io.md Table 18.6 R434: STATE, OPEN_LOAD, SHORT_TO_SUPPLY, CROSS_FED, REVERSE, XF_PARTIAL, partner, current -/
def FIO.OUT_STAT (i : Nat) : Nat := 0x40070180 + 0x4 * i
/-- 18_field_io.md Table 18.6 R443: outputs, KEY -/
def FIO.OUT_CLR : Nat := 0x400701C0
/-- 18_field_io.md Table 18.6 R444: diagnostics seen -/
def FIO.DIAG_SEEN : Nat := 0x400701C4
/-- 18_field_io.md Table 18.8 R446: EN, TYPE, WET, PER, N, TP, EDGE_EN, PULSE -/
def FIO.IN_CFG (i : Nat) : Nat := 0x40071100 + 0x4 * i
/-- 18_field_io.md Table 18.6 R446: filt -/
def FIO.IN_FILT : Nat := 0x40071140
/-- 18_field_io.md Table 18.6 R446: last sample -/
def FIO.IN_RAW : Nat := 0x40071144
/-- 18_field_io.md Table 18.6 R450: TP_FAULT, RANGE -/
def FIO.IN_FAULT : Nat := 0x40071148
/-- 18_field_io.md Table 18.6 R447: SUSPECT, TP_CROSS -/
def FIO.IN_SUSPECT : Nat := 0x4007114C
/-- 18_field_io.md Table 18.6 R449: rising changes -/
def FIO.IN_CNT (i : Nat) : Nat := 0x40071180 + 0x4 * i
/-- 18_field_io.md Table 18.6 R448: MASK, CLASS, EN -/
def FIO.INGRP_CFG (i : Nat) : Nat := 0x400711C0 + 0x8 * i
/-- 18_field_io.md Table 18.6 R448: SOURCE_ID -/
def FIO.INGRP_SRC (i : Nat) : Nat := 0x400711C4 + 0x8 * i
/-- 18_field_io.md Table 18.6 R449: base SOURCE_ID, CLASS -/
def FIO.EDGE_BASE : Nat := 0x40071200
/-- 18_field_io.md Table 18.6 R450: EN, TP_WIDTH, TP_PERIOD, SETTLE -/
def FIO.TP_CFG : Nat := 0x40071204
/-- 18_field_io.md Table 18.6 R448: missed samples -/
def FIO.SAMPLE_MISS : Nat := 0x40071208
/-- 18_field_io.md Table 18.6 R441: AUTO_RESTORE -/
def FIO.SUP_CFG (i : Nat) : Nat := 0x40072100 + 0x4 * i
/-- 18_field_io.md Table 18.6 R440: voltage, WARN, UV, SAG_OFF, REVERSE_POL, GROUP_CURRENT, current -/
def FIO.SUP_STAT (i : Nat) : Nat := 0x40072108 + 0x4 * i
/-- 18_field_io.md Table 18.6 R441: RESTORE, KEY -/
def FIO.SUP_CMD : Nat := 0x40072110
/-- 18_field_io.md Table 18.6 R441: result -/
def FIO.SUP_RES : Nat := 0x40072114
/-- 18_field_io.md Table 18.6 R440: A, B -/
def FIO.SAG_CNT : Nat := 0x40072118
/-- 18_field_io.md Table 18.6 R438: EN, TMO -/
def FIO.WDG_CFG : Nat := 0x40073100
/-- 18_field_io.md Table 18.6 R438: KEY -/
def FIO.WDG_FEED : Nat := 0x40073104
/-- 18_field_io.md Table 18.6 R438: ARMED, EXPIRED, LINK_LOST, ms, NEXT_KEY -/
def FIO.WDG_STAT : Nat := 0x40073108
/-- 18_field_io.md Table 18.6 R438: bad feeds -/
def FIO.WDG_BAD_CNT : Nat := 0x4007310C
/-- 18_field_io.md Table 18.6 R432: link errors -/
def FIO.LINK_ERR_CNT : Nat := 0x40073110
/-- 18_field_io.md Table 18.9 R451: EN, MODE, FILT -/
def ANU.AIN_CFG (i : Nat) : Nat := 0x40074100 + 0x8 * i
/-- 18_field_io.md Table 18.9 R451: RLO, RHI -/
def ANU.AIN_RNG (i : Nat) : Nat := 0x40074104 + 0x8 * i
/-- 18_field_io.md Table 18.9 R451: value, RANGE, OVERLOAD, STALE -/
def ANU.AIN_VAL (i : Nat) : Nat := 0x40074140 + 0x4 * i
/-- 18_field_io.md Table 18.9 R451: MASK, CLASS, EN -/
def ANU.AGRP_CFG (i : Nat) : Nat := 0x40074160 + 0x8 * i
/-- 18_field_io.md Table 18.9 R451: SOURCE_ID -/
def ANU.AGRP_SRC (i : Nat) : Nat := 0x40074164 + 0x8 * i
/-- 18_field_io.md Table 18.9 R452: EN, MODE, LK_HOLD, SRC -/
def ANU.AOUT_CFG (i : Nat) : Nat := 0x400741A0 + 0x8 * i
/-- 18_field_io.md Table 18.9 R452: code -/
def ANU.AOUT_SET (i : Nat) : Nat := 0x400741A4 + 0x8 * i
/-- 18_field_io.md Table 18.9 R452: code applied, OPEN, OVERLOAD, GATED -/
def ANU.AOUT_STAT (i : Nat) : Nat := 0x400741C0 + 0x4 * i
/-- 18_field_io.md Table 18.9 R453: EN, TYPE, GLITCH, Z_EN, GRAY, PARITY, BITS, CLK, TM -/
def ENC.ENC_CFG (i : Nat) : Nat := 0x40075100 + 0x20 * i
/-- 18_field_io.md Table 18.9 R453: READ_PER, SPD_WIN -/
def ENC.ENC_TIME (i : Nat) : Nat := 0x40075104 + 0x20 * i
/-- 18_field_io.md Table 18.9 R454: position -/
def ENC.ENC_POS (i : Nat) : Nat := 0x40075108 + 0x20 * i
/-- 18_field_io.md Table 18.9 R454: speed -/
def ENC.ENC_SPEED (i : Nat) : Nat := 0x4007510C + 0x20 * i
/-- 18_field_io.md Table 18.9 R454: index position -/
def ENC.ENC_INDEX (i : Nat) : Nat := 0x40075110 + 0x20 * i
/-- 18_field_io.md Table 18.9 R455: REFERENCED, FAULT, causes, RANGE, faults -/
def ENC.ENC_STAT (i : Nat) : Nat := 0x40075114 + 0x20 * i
/-- 18_field_io.md Table 18.9 R455: latched position -/
def ENC.ENC_LATCH (i : Nat) : Nat := 0x40075118 + 0x20 * i
/-- 18_field_io.md Table 18.9 R455: SOURCE_ID, CLASS -/
def ENC.ENC_SRC (i : Nat) : Nat := 0x4007511C + 0x20 * i
/-- 23_power_clocks_boot.md Table 23.7: LINK, width, generation -/
def HIF.PCIE_STAT : Nat := 0x40090100
/-- 23_power_clocks_boot.md Table 23.7: window base -/
def HIF.BAR0_BASE : Nat := 0x40090104
/-- 23_power_clocks_boot.md Table 23.7: doorbells from host -/
def HIF.DB_IN (i : Nat) : Nat := 0x40090140 + 0x4 * i
/-- 23_power_clocks_boot.md Table 23.7: doorbells to host -/
def HIF.DB_OUT (i : Nat) : Nat := 0x40090150 + 0x4 * i
/-- 23_power_clocks_boot.md Table 23.7 R538: selected, recovery, frames -/
def HIF.SPI_STAT : Nat := 0x40090180
/-- 16_can.md Table 16.7 R379: EN, FD_EN, BO_AUTO, SILENT, LOOPBACK, PXHD, CLASH_ACT, ACC_NM -/
def CAN.CFG (n : Nat) : Nat := 0x40050100 + 0x1000 * n
/-- 16_can.md Table 16.6 R380: BRP, TSEG2, TSEG1, SJW -/
def CAN.NBTP (n : Nat) : Nat := 0x40050104 + 0x1000 * n
/-- 16_can.md Table 16.6 R380: BRP, TSEG2, TSEG1, SJW -/
def CAN.DBTP (n : Nat) : Nat := 0x40050108 + 0x1000 * n
/-- 16_can.md Table 16.6 R380: EN, TDCO, TDCF -/
def CAN.TDC (n : Nat) : Nat := 0x4005010C + 0x1000 * n
/-- 16_can.md Table 16.8: STATE, NO_LISTENER, SATURATED, ASLEEP, CROWN_GATE, CLASH, LOAD, TXQ, RXQ -/
def CAN.STAT (n : Nat) : Nat := 0x40050110 + 0x1000 * n
/-- 16_can.md Table 16.6 R381: TEC, REC, RP, ack errors -/
def CAN.ERR_CNT (n : Nat) : Nat := 0x40050114 + 0x1000 * n
/-- 16_can.md Table 16.6 R384: GATED, load peak -/
def CAN.STAT2 (n : Nat) : Nat := 0x40050118 + 0x1000 * n
/-- 16_can.md Table 16.6 R385: FW_MAX, RTX_LIM, RTX_INF, NL_RETRY -/
def CAN.TXF_CFG (n : Nat) : Nat := 0x40050120 + 0x1000 * n
/-- 16_can.md Table 16.6 R560: slot buffers (Config.canFsBase) -/
def CAN.FS_BASE (n : Nat) : Nat := 0x40050124 + 0x1000 * n
/-- 16_can.md Table 16.6 R396: ROLE, PERIOD -/
def CAN.REF_CFG (n : Nat) : Nat := 0x40050128 + 0x1000 * n
/-- 16_can.md Table 16.6 R396: identifier, XTD -/
def CAN.REF_ID (n : Nat) : Nat := 0x4005012C + 0x1000 * n
/-- 16_can.md Table 16.6 R396: identifier, XTD -/
def CAN.REF_FU_ID (n : Nat) : Nat := 0x40050130 + 0x1000 * n
/-- 16_can.md Table 16.6 R396: ns -/
def CAN.REF_CABLE (n : Nat) : Nat := 0x40050134 + 0x1000 * n
/-- 16_can.md Table 16.6 R396: last offset ns -/
def CAN.REF_OFS (n : Nat) : Nat := 0x40050138 + 0x1000 * n
/-- 16_can.md Table 16.6 R386: identifier, XTD, FDF, BRS -/
def CAN.TXF_ID (n : Nat) : Nat := 0x40050140 + 0x1000 * n
/-- 16_can.md Table 16.6 R386: DLC, CLASS -/
def CAN.TXF_HDR (n : Nat) : Nat := 0x40050144 + 0x1000 * n
/-- 16_can.md Table 16.6 R386: data -/
def CAN.TXF_DATA (n : Nat) (i : Nat) : Nat := 0x40050150 + 0x1000 * n + 0x4 * i
/-- 16_can.md Table 16.6 R386: push -/
def CAN.TXF_PUSH (n : Nat) : Nat := 0x40050190 + 0x1000 * n
/-- 16_can.md Table 16.2 R386: code, TAG -/
def CAN.TXF_RES (n : Nat) : Nat := 0x40050194 + 0x1000 * n
/-- 16_can.md Table 16.6 R391: tag -/
def CAN.TXF_CANCEL (n : Nat) : Nat := 0x40050198 + 0x1000 * n
/-- 16_can.md Table 16.6 R391: result -/
def CAN.CANCEL_RES (n : Nat) : Nat := 0x4005019C + 0x1000 * n
/-- 16_can.md Table 16.6 R560: event ring (Config.canTxeBase) -/
def CAN.TXE_BASE (n : Nat) : Nat := 0x400501A0 + 0x1000 * n
/-- 16_can.md Table 16.6 R390: write index, LOST -/
def CAN.TXE_WR (n : Nat) : Nat := 0x400501A4 + 0x1000 * n
/-- 16_can.md Table 16.6 R390: read index -/
def CAN.TXE_RD (n : Nat) : Nat := 0x400501A8 + 0x1000 * n
/-- 16_can.md Table 16.6 R560: receive ring (Config.canRxBase) -/
def CAN.RX_BASE (n : Nat) : Nat := 0x400501B0 + 0x1000 * n
/-- 16_can.md Table 16.6 R394: write index -/
def CAN.RX_WR (n : Nat) : Nat := 0x400501B4 + 0x1000 * n
/-- 16_can.md Table 16.6 R394: read index -/
def CAN.RX_RD (n : Nat) : Nat := 0x400501B8 + 0x1000 * n
/-- 16_can.md Table 16.6 R399: hushed -/
def CAN.HUSH_CNT (n : Nat) : Nat := 0x400501C0 + 0x1000 * n
/-- 16_can.md Table 16.6 R385: RTX, NOROOM -/
def CAN.TXFAIL_CNT (n : Nat) : Nat := 0x400501C4 + 0x1000 * n
/-- 16_can.md Table 16.6 R394: FULL, RTR -/
def CAN.RX_OVF_CNT (n : Nat) : Nat := 0x400501C8 + 0x1000 * n
/-- 16_can.md Table 16.6 R398: identifier, XTD, STOPPED -/
def CAN.CLASH_ID (n : Nat) : Nat := 0x400501CC + 0x1000 * n
/-- 16_can.md Table 16.6 R398: KEY -/
def CAN.CLASH_CLR (n : Nat) : Nat := 0x400501D0 + 0x1000 * n
/-- 16_can.md Table 16.6 R402: MODE, XTD, DLC, RATE -/
def CAN.WAKE_CFG (n : Nat) : Nat := 0x400501E0 + 0x1000 * n
/-- 16_can.md Table 16.6 R402: identifier -/
def CAN.WAKE_ID (n : Nat) : Nat := 0x400501E4 + 0x1000 * n
/-- 16_can.md Table 16.6 R402: mask -/
def CAN.WAKE_IDM (n : Nat) : Nat := 0x400501E8 + 0x1000 * n
/-- 16_can.md Table 16.6 R402: data -/
def CAN.WAKE_DATA (n : Nat) (i : Nat) : Nat := 0x400501EC + 0x1000 * n + 0x4 * i
/-- 16_can.md Table 16.6 R402: data mask -/
def CAN.WAKE_DM (n : Nat) (i : Nat) : Nat := 0x400501F4 + 0x1000 * n + 0x4 * i
/-- 16_can.md Table 16.6 R401: KEY -/
def CAN.SLEEP_CMD (n : Nat) : Nat := 0x400501FC + 0x1000 * n
/-- 16_can.md Table 16.6 R384: as TXF_ID -/
def CAN.FS_ID (n : Nat) (i : Nat) : Nat := 0x40050300 + 0x1000 * n + 0x8 * i
/-- 16_can.md Table 16.6 R384: EN, CLASS, OSI, DLC -/
def CAN.FS_CFG (n : Nat) (i : Nat) : Nat := 0x40050304 + 0x1000 * n + 0x8 * i
/-- 16_can.md Table 16.6 R387: as TXF_ID -/
def CAN.PRI_ID (n : Nat) (i : Nat) : Nat := 0x40050400 + 0x1000 * n + 0x10 * i
/-- 16_can.md Table 16.6 R387: EN, OWNER, FSLOT, DLC -/
def CAN.PRI_CFG (n : Nat) (i : Nat) : Nat := 0x40050404 + 0x1000 * n + 0x10 * i
/-- 16_can.md Table 16.6 R387: REQ, CANCEL -/
def CAN.PRI_REQ (n : Nat) (i : Nat) : Nat := 0x40050408 + 0x1000 * n + 0x10 * i
/-- 16_can.md Table 16.6 R387: state, outcome, sent -/
def CAN.PRI_STAT (n : Nat) (i : Nat) : Nat := 0x4005040C + 0x1000 * n + 0x10 * i
/-- 16_can.md Table 16.6 R392: EN, TYPE, XTD, ACTION, CLASS, SOURCE_ID -/
def CAN.FLT_CFG (n : Nat) (i : Nat) : Nat := 0x40050800 + 0x1000 * n + 0x10 * i
/-- 16_can.md Table 16.6 R392: identifier -/
def CAN.FLT_ID1 (n : Nat) (i : Nat) : Nat := 0x40050804 + 0x1000 * n + 0x10 * i
/-- 16_can.md Table 16.6 R392: second, bound or mask -/
def CAN.FLT_ID2 (n : Nat) (i : Nat) : Nat := 0x40050808 + 0x1000 * n + 0x10 * i
/-- 16_can.md Table 16.6 R393: LEN, TMO -/
def CAN.FLT_RX (n : Nat) (i : Nat) : Nat := 0x4005080C + 0x1000 * n + 0x10 * i
/-- 17_ethernet_discovery.md Table 17.5 R404: EN, IF, SPEED, PTP_EN, PHY_ADDR -/
def ETH.CFG (n : Nat) : Nat := 0x40060100 + 0x1000 * n
/-- 17_ethernet_discovery.md Table 17.5: LINK, speed, PTP state, gate entry, queue 7 -/
def ETH.STAT (n : Nat) : Nat := 0x40060104 + 0x1000 * n
/-- 17_ethernet_discovery.md Table 17.5: MAC low; reset from the SYS identity -/
def ETH.MAC_LO (n : Nat) : Nat := 0x40060108 + 0x1000 * n
/-- 17_ethernet_discovery.md Table 17.5: MAC high; reset from the SYS identity -/
def ETH.MAC_HI (n : Nat) : Nat := 0x4006010C + 0x1000 * n
/-- 17_ethernet_discovery.md Table 17.5: address -/
def ETH.IPV4 (n : Nat) : Nat := 0x40060110 + 0x1000 * n
/-- 17_ethernet_discovery.md Table 17.5 R421: EG_LAT, ING_LAT -/
def ETH.LAT (n : Nat) : Nat := 0x40060114 + 0x1000 * n
/-- 17_ethernet_discovery.md Table 17.5 R407: C1, C2, C3 -/
def ETH.QMAP (n : Nat) : Nat := 0x40060118 + 0x1000 * n
/-- 17_ethernet_discovery.md Table 17.5 R406: class per PCP -/
def ETH.PCP_MAP (n : Nat) : Nat := 0x4006011C + 0x1000 * n
/-- 17_ethernet_discovery.md Table 17.5 R408: COUNT, BASE_OFS -/
def ETH.GCL_CFG (n : Nat) : Nat := 0x40060120 + 0x1000 * n
/-- 17_ethernet_discovery.md Table 17.5 R560: slot buffers (Config.ethSlBase) -/
def ETH.SL_BASE (n : Nat) : Nat := 0x40060124 + 0x1000 * n
/-- 17_ethernet_discovery.md Table 17.5 R404: oversize -/
def ETH.OVERSIZE_CNT (n : Nat) : Nat := 0x40060128 + 0x1000 * n
/-- 17_ethernet_discovery.md Table 17.5 R412: class 0 drops -/
def ETH.Q7_DROP_CNT (n : Nat) : Nat := 0x4006012C + 0x1000 * n
/-- 17_ethernet_discovery.md Table 17.5 R409: held frames -/
def ETH.GATE_HOLD_CNT (n : Nat) : Nat := 0x40060130 + 0x1000 * n
/-- 17_ethernet_discovery.md Table 17.5 R408: GATES, PROT, INTERVAL; reset GCL0 0x1D4C0180, GCL1 0xD6D8007F, others 0 -/
def ETH.GCL (n : Nat) (i : Nat) : Nat := 0x40060200 + 0x1000 * n + 0x4 * i
/-- 17_ethernet_discovery.md Table 17.5 R413: EN, CLASS, OSI, LEN, DST_PORT -/
def ETH.SL_CFG (n : Nat) (i : Nat) : Nat := 0x40060400 + 0x1000 * n + 0x10 * i
/-- 17_ethernet_discovery.md Table 17.5 R413: destination IPv4 -/
def ETH.SL_IP (n : Nat) (i : Nat) : Nat := 0x40060404 + 0x1000 * n + 0x10 * i
/-- 17_ethernet_discovery.md Table 17.5 R413: destination MAC low -/
def ETH.SL_MAC_LO (n : Nat) (i : Nat) : Nat := 0x40060408 + 0x1000 * n + 0x10 * i
/-- 17_ethernet_discovery.md Table 17.5 R413: destination MAC high, VID -/
def ETH.SL_MAC_HI (n : Nat) (i : Nat) : Nat := 0x4006040C + 0x1000 * n + 0x10 * i
/-- 17_ethernet_discovery.md Table 17.6 R405: BRIDGE, TC_EN -/
def ETHSW.SW_CFG : Nat := 0x40064100
/-- 17_ethernet_discovery.md Table 17.6 R419: EN, P2P, TRANSPORT, DOMAIN, PRIO1, PRIO2 -/
def ETHSW.PTP_CFG : Nat := 0x40064104
/-- 17_ethernet_discovery.md Table 17.6 R419: LOG_SYNC, LOG_ANN, LOG_PDELAY, ANN_TMO -/
def ETHSW.PTP_INT : Nat := 0x40064108
/-- 17_ethernet_discovery.md Table 17.6 R405: OSI_UDP, DATA_SRC -/
def ETHSW.UDP_PORTS : Nat := 0x4006410C
/-- 17_ethernet_discovery.md Table 17.6 R418: CIR, CBS -/
def ETHSW.DEF_POL : Nat := 0x40064110
/-- 17_ethernet_discovery.md Table 17.6 R418: default drops -/
def ETHSW.DEF_DROP_CNT : Nat := 0x40064114
/-- 17_ethernet_discovery.md Table 17.6 R422: x, ports, EN, UDP port -/
def ETHSW.IEC_GRP (i : Nat) : Nat := 0x40064120 + 0x4 * i
/-- 17_ethernet_discovery.md Table 17.6 R422: characters 0 to 3 -/
def ETHSW.IEC_SRC_TF (i : Nat) : Nat := 0x40064140 + 0x10 * i
/-- 17_ethernet_discovery.md Table 17.6 R422: character 4, EN, CLASS, SOURCE_ID -/
def ETHSW.IEC_SRC_CFG (i : Nat) : Nat := 0x40064144 + 0x10 * i
/-- 17_ethernet_discovery.md Table 17.6 R423: ms -/
def ETHSW.IEC_SRC_TMO (i : Nat) : Nat := 0x40064148 + 0x10 * i
/-- 17_ethernet_discovery.md Table 17.6 R416: EN, IDTYPE, PORTS, CLASS, BLOCK_OVS, VID -/
def ETHSW.SF_CFG (i : Nat) : Nat := 0x40064400 + 0x20 * i
/-- 17_ethernet_discovery.md Table 17.6 R416: MAC low or IPv4 -/
def ETHSW.SF_A (i : Nat) : Nat := 0x40064404 + 0x20 * i
/-- 17_ethernet_discovery.md Table 17.6 R416: MAC high or UDP port -/
def ETHSW.SF_B (i : Nat) : Nat := 0x40064408 + 0x20 * i
/-- 17_ethernet_discovery.md Table 17.6 R417: MAX_SDU -/
def ETHSW.SF_SDU (i : Nat) : Nat := 0x4006440C + 0x20 * i
/-- 17_ethernet_discovery.md Table 17.6 R417: CIR, CBS -/
def ETHSW.SF_METER (i : Nat) : Nat := 0x40064410 + 0x20 * i
/-- 17_ethernet_discovery.md Table 17.6 R417: BLOCKED, drops -/
def ETHSW.SF_STAT (i : Nat) : Nat := 0x40064414 + 0x20 * i
/-- 17_ethernet_discovery.md Table 17.6 R417: drops -/
def ETHSW.SF_DROP_CNT (i : Nat) : Nat := 0x40064418 + 0x20 * i
/-- 17_ethernet_discovery.md Table 17.6 R417: KEY -/
def ETHSW.SF_UNBLOCK (i : Nat) : Nat := 0x4006441C + 0x20 * i

/-- The register rows of the page at 0x40000000. -/
def rows40000000 : List RegRow := [
  ⟨0x100, 1, 0x0, .ro, .num 0x10002, 0xFFFFFF⟩,
  ⟨0x104, 1, 0x0, .wo, .num 0x0, 0xFFFFFF0F⟩,
  ⟨0x108, 1, 0x0, .ro, .num 0x0, 0xFFFF0FFF⟩,
  ⟨0x10C, 1, 0x0, .ro, .num 0x0, 0xFFFFFFFF⟩,
  ⟨0x110, 1, 0x0, .rws, .num 0x0, 0x3⟩,
  ⟨0x114, 1, 0x0, .ro, .num 0x0, 0x1⟩,
  ⟨0x118, 1, 0x0, .cnt, .num 0x0, 0xFFFFFFFF⟩,
  ⟨0x11C, 1, 0x0, .cnt, .num 0x0, 0xFFFFFFFF⟩,
  ⟨0x120, 1, 0x0, .wo, .num 0x0, 0xFFFF1F31⟩,
  ⟨0x124, 1, 0x0, .ro, .num 0x0, 0xFFFFFFFF⟩,
  ⟨0x130, 1, 0x0, .ro, .num 0x4B4E6410, 0xFFFFFFFF⟩,
  ⟨0x134, 1, 0x0, .ro, .num 0x11, 0xFF⟩,
  ⟨0x138, 1, 0x0, .ro, .cfgWord 0, 0xFFFFFFFF⟩,
  ⟨0x13C, 1, 0x0, .ro, .cfgWord 1, 0xFFFFFFFF⟩,
  ⟨0x140, 1, 0x0, .ro, .num 0x0, 0x3FFFF⟩,
  ⟨0x144, 1, 0x0, .wo, .num 0x0, 0xFFFF0000⟩,
  ⟨0x148, 1, 0x0, .rws, .num 0x7D0, 0x3FFF⟩,
  ⟨0x14C, 1, 0x0, .wo, .num 0x0, 0xFFFF0000⟩,
  ⟨0x150, 1, 0x0, .ro, .num 0x0, 0x13FFF⟩,
  ⟨0x154, 1, 0x0, .ro, .num 0x0, 0xFFFFFF⟩,
  ⟨0x158, 1, 0x0, .wo, .num 0x0, 0xFFFF0007⟩,
  ⟨0x15C, 1, 0x0, .ro, .num 0x0, 0x3⟩,
  ⟨0x160, 1, 0x0, .ro, .num 0x0, 0xFFFFFFFF⟩,
  ⟨0x164, 1, 0x0, .ro, .num 0x0, 0xFFFFFFFF⟩,
  ⟨0x168, 1, 0x0, .ro, .num 0x0, 0xFFFFFFFF⟩,
  ⟨0x16C, 1, 0x0, .ro, .num 0x0, 0xFFFFFFFF⟩,
  ⟨0x170, 1, 0x0, .ro, .num 0x0, 0xF⟩]
/-- The register rows of the page at 0x40001000. -/
def rows40001000 : List RegRow := [
  ⟨0x100, 10, 0x4, .ro, .num 0x0, 0xFFFFFFFF⟩,
  ⟨0x140, 1, 0x0, .ro, .num 0x0, 0x303FF⟩,
  ⟨0x144, 1, 0x0, .w1c, .num 0x0, 0x3FF⟩,
  ⟨0x150, 11, 0x4, .ro, .num 0x0, 0x3FFFF⟩,
  ⟨0x180, 1, 0x0, .rws, .num 0x1, 0x1⟩,
  ⟨0x184, 1, 0x0, .rws, .num 0x0, 0x1⟩,
  ⟨0x188, 1, 0x0, .rws, .num 0x0, 0xFFFFFFFF⟩,
  ⟨0x18C, 1, 0x0, .rws, .num 0x0, 0xFFFF⟩,
  ⟨0x190, 1, 0x0, .ro, .num 0x0, 0xFFFFFFFF⟩,
  ⟨0x194, 1, 0x0, .ro, .num 0x0, 0xFFFFFFFF⟩,
  ⟨0x198, 1, 0x0, .ro, .num 0x0, 0x73⟩,
  ⟨0x19C, 1, 0x0, .ro, .num 0x0, 0xFFFF⟩]
/-- The register rows of the page at 0x40002000. -/
def rows40002000 : List RegRow := [
  ⟨0x100, 1, 0x0, .ro, .num 0x0, 0xFFFFFFFF⟩,
  ⟨0x104, 1, 0x0, .ro, .num 0x0, 0xFFFF⟩,
  ⟨0x108, 1, 0x0, .ro, .num 0x0, 0xFFFFFFFF⟩,
  ⟨0x10C, 1, 0x0, .ro, .num 0x0, 0x1FFFFFF⟩,
  ⟨0x110, 4, 0x10, .rws, .num 0x0, 0x3⟩,
  ⟨0x114, 4, 0x10, .rws, .num 0x200, 0xFFFFFF⟩,
  ⟨0x118, 4, 0x10, .rws, .num 0x3E8, 0x3FFF⟩,
  ⟨0x11C, 4, 0x10, .ro, .num 0x0, 0xFFFFFFFF⟩,
  ⟨0x150, 1, 0x0, .w1c, .num 0x0, 0xF0F0F⟩,
  ⟨0x160, 1, 0x0, .cnt, .num 0x0, 0xFFFFFFFF⟩,
  ⟨0x164, 1, 0x0, .cnt, .num 0x0, 0xFFFFFFFF⟩,
  ⟨0x168, 1, 0x0, .cnt, .num 0x0, 0xFFFFFFFF⟩,
  ⟨0x200, 32, 0x10, .rws, .num 0x0, 0xFFFFFFFF⟩,
  ⟨0x204, 32, 0x10, .rws, .num 0x0, 0x71FFFF⟩,
  ⟨0x208, 32, 0x10, .ro, .num 0x0, 0xFFFFFFFF⟩,
  ⟨0x400, 16, 0x4, .rws, .num 0x0, 0x7⟩,
  ⟨0x800, 256, 0x8, .rws, .num 0x30, 0x3FFFF3F⟩,
  ⟨0x804, 256, 0x8, .rws, .num 0x0, 0xFFFFFFFF⟩]
/-- The register rows of the page at 0x40003000. -/
def rows40003000 : List RegRow := [
  ⟨0x100, 1, 0x0, .ro, .num 0x0, 0xFFFFFFFF⟩,
  ⟨0x104, 1, 0x0, .ro, .num 0x0, 0xFFFFFFFF⟩,
  ⟨0x108, 1, 0x0, .ro, .num 0x0, 0xFFFFFFFF⟩,
  ⟨0x10C, 1, 0x0, .ro, .num 0x0, 0xFFFFFFFF⟩,
  ⟨0x110, 1, 0x0, .rws, .num 0x1, 0x1373F⟩,
  ⟨0x114, 1, 0x0, .rws, .num 0x3E8, 0x3FFFFFFF⟩,
  ⟨0x118, 1, 0x0, .rws, .num 0x10A, 0x37F⟩,
  ⟨0x11C, 1, 0x0, .rws, .num 0x51F0A00, 0xFFFFFFFF⟩,
  ⟨0x120, 1, 0x0, .rws, .num 0x2710, 0x3FFFFFFF⟩,
  ⟨0x124, 1, 0x0, .rws, .num 0x0, 0x7FFFF⟩,
  ⟨0x130, 1, 0x0, .ro, .num 0xF80050, 0x7FFFFF3⟩,
  ⟨0x134, 1, 0x0, .ro, .num 0xFFFFFFFF, 0xFFFFFFFF⟩,
  ⟨0x138, 1, 0x0, .ro, .num 0x0, 0xFFFFFFFF⟩,
  ⟨0x13C, 1, 0x0, .ro, .num 0x0, 0xFFFFFFFF⟩,
  ⟨0x140, 1, 0x0, .wo, .num 0x0, 0xFFFF0003⟩,
  ⟨0x144, 1, 0x0, .ro, .num 0x0, 0xFFFFFFFF⟩,
  ⟨0x148, 1, 0x0, .ro, .num 0x0, 0xFFFFFFFF⟩,
  ⟨0x150, 2, 0x4, .rws, .num 0x6400, 0xFF0F⟩,
  ⟨0x158, 1, 0x0, .rws, .num 0x0, 0x3F⟩,
  ⟨0x160, 1, 0x0, .w1c, .num 0x0, 0xFFFFFFFF⟩,
  ⟨0x200, 16, 0x10, .rw, .num 0x0, 0xFFFF003F⟩,
  ⟨0x204, 16, 0x10, .rw, .num 0x0, 0xFFFFFFFF⟩,
  ⟨0x208, 16, 0x10, .rw, .num 0x0, 0xFF⟩,
  ⟨0x20C, 16, 0x10, .rw, .num 0x0, 0xFFFFFFFF⟩]
/-- The register rows of the page at 0x40004000. -/
def rows40004000 : List RegRow := [
  ⟨0x100, 1, 0x0, .rws, .num 0xC8003B, 0xFFFF7F7F⟩,
  ⟨0x104, 1, 0x0, .wo, .num 0x0, 0xFFFF0000⟩,
  ⟨0x108, 1, 0x0, .ro, .num 0x0, 0xFFFFFFFF⟩,
  ⟨0x10C, 1, 0x0, .ro, .num 0x0, 0x7F⟩,
  ⟨0x110, 1, 0x0, .ro, .num 0x0, 0xFFFFFFFF⟩,
  ⟨0x114, 1, 0x0, .ro, .num 0x0, 0xFFFFFFFF⟩,
  ⟨0x118, 1, 0x0, .cnt, .num 0x0, 0xFFFFFFFF⟩,
  ⟨0x11C, 1, 0x0, .ro, .num 0x0, 0xFFFFFFFF⟩,
  ⟨0x120, 1, 0x0, .rw, .num 0x40004000, 0xFFFFF000⟩,
  ⟨0x200, 48, 0x4, .rws, .num 0x0, 0xFFD⟩]
/-- The register rows of the page at 0x40005000. -/
def rows40005000 : List RegRow := [
  ⟨0x100, 1, 0x0, .rws, .num 0xA03, 0x3F07⟩,
  ⟨0x104, 1, 0x0, .ro, .num 0x0, 0x1FF000F⟩,
  ⟨0x108, 1, 0x0, .ro, .num 0x0, 0x3FFFF⟩,
  ⟨0x10C, 1, 0x0, .ro, .num 0x0, 0x3FFFF⟩,
  ⟨0x110, 1, 0x0, .ro, .num 0x0, 0xFFFFFFFF⟩,
  ⟨0x114, 1, 0x0, .ro, .num 0x0, 0xFFFFFFFF⟩,
  ⟨0x118, 1, 0x0, .ro, .num 0x50000000, 0xFFFFFFFF⟩,
  ⟨0x11C, 1, 0x0, .ro, .num 0x201C9000, 0xFFFFFFFF⟩,
  ⟨0x120, 1, 0x0, .rw, .num 0x0, 0x1⟩,
  ⟨0x124, 1, 0x0, .cnt, .num 0x0, 0xFFFFFFFF⟩,
  ⟨0x128, 1, 0x0, .cnt, .num 0x0, 0xFFFFFFFF⟩,
  ⟨0x12C, 1, 0x0, .cnt, .num 0x0, 0xFFFFFFFF⟩,
  ⟨0x130, 1, 0x0, .cnt, .num 0x0, 0xFFFFFFFF⟩,
  ⟨0x134, 1, 0x0, .rws, .num 0x3E80208, 0xFFFF07FF⟩,
  ⟨0x140, 1, 0x0, .wo, .num 0x0, 0xFFFF0000⟩,
  ⟨0x144, 1, 0x0, .ro, .num 0x0, 0xFFFFFFFF⟩,
  ⟨0x148, 1, 0x0, .ro, .num 0x0, 0xFFFFFFFF⟩,
  ⟨0x14C, 1, 0x0, .rw, .num 0x0, 0xFFFFFFFF⟩,
  ⟨0x150, 1, 0x0, .rw, .num 0x0, 0xFFFFFFFF⟩,
  ⟨0x154, 1, 0x0, .wo, .num 0x0, 0xFFFF0000⟩,
  ⟨0x158, 1, 0x0, .ro, .num 0x0, 0x3F⟩,
  ⟨0x15C, 1, 0x0, .ro, .num 0x0, 0xFFFFFFFF⟩,
  ⟨0x160, 1, 0x0, .ro, .num 0x0, 0xFFFF⟩,
  ⟨0x164, 1, 0x0, .ro, .num 0x0, 0xFFFFFFFF⟩]
/-- The register rows of the page at 0x40006000. -/
def rows40006000 : List RegRow := [
  ⟨0x100, 1, 0x0, .rws, .num 0xF, 0xFFFFFFFF⟩,
  ⟨0x104, 1, 0x0, .ro, .num 0x0, 0x13F⟩,
  ⟨0x108, 1, 0x0, .cnt, .num 0x0, 0xFFFFFFFF⟩,
  ⟨0x110, 1, 0x0, .rw, .num 0x0, 0xFFFFFFE0⟩,
  ⟨0x114, 1, 0x0, .rw, .num 0x0, 0xFFFF⟩,
  ⟨0x118, 1, 0x0, .rw, .num 0x0, 0xFF⟩,
  ⟨0x11C, 1, 0x0, .rw, .num 0x0, 0xFFFFFFFF⟩,
  ⟨0x120, 1, 0x0, .rw, .num 0x0, 0xFF⟩,
  ⟨0x124, 1, 0x0, .wo, .num 0x0, 0xFFFF0007⟩,
  ⟨0x140, 4, 0x20, .cnt, .num 0x0, 0xFFFFFFFF⟩,
  ⟨0x144, 4, 0x20, .cnt, .num 0x0, 0xFFFFFFFF⟩,
  ⟨0x148, 4, 0x20, .ro, .num 0x0, 0xFFFFFFFF⟩,
  ⟨0x14C, 4, 0x20, .ro, .num 0x0, 0x37FFFF⟩,
  ⟨0x150, 4, 0x20, .ro, .num 0x0, 0xFFFFFFFF⟩,
  ⟨0x154, 4, 0x20, .ro, .num 0x0, 0xFFFFFFFF⟩,
  ⟨0x158, 4, 0x20, .rws, .num 0xEA60, 0xFFFFFF⟩,
  ⟨0x15C, 4, 0x20, .ro, .num 0x0, 0xFFFFFFFF⟩]
/-- The register rows of the page at 0x40007000. -/
def rows40007000 : List RegRow := [
  ⟨0x100, 1, 0x0, .ro, .num 0x0, 0xFFFF0F17⟩,
  ⟨0x104, 1, 0x0, .ro, .num 0x0, 0x7FF00FF⟩,
  ⟨0x108, 1, 0x0, .ro, .num 0x0, 0x3FF⟩,
  ⟨0x10C, 1, 0x0, .ro, .num 0x0, 0xFFFFFFFF⟩,
  ⟨0x110, 1, 0x0, .ro, .num 0x0, 0x3⟩,
  ⟨0x120, 1, 0x0, .wo, .num 0x0, 0xFFFF0003⟩,
  ⟨0x124, 1, 0x0, .ro, .num 0x0, 0xFFFF0F37⟩,
  ⟨0x200, 44, 0x4, .ro, .num 0x0, 0xFFFFFFFF⟩]
/-- The register rows of the page at 0x40008000. -/
def rows40008000 : List RegRow := [
  ⟨0x100, 1, 0x0, .rws, .num 0xA3200, 0xFFFF1F⟩,
  ⟨0x104, 1, 0x0, .rws, .num 0x0, 0x9F9F9F9F⟩,
  ⟨0x108, 1, 0x0, .rws, .num 0x0, 0x8F⟩,
  ⟨0x10C, 1, 0x0, .rws, .num 0x0, 0xFFFFFFFF⟩,
  ⟨0x110, 1, 0x0, .ro, .num 0x0, 0xFFFFFFFF⟩,
  ⟨0x114, 1, 0x0, .wo, .num 0x0, 0xFFFF0000⟩,
  ⟨0x118, 1, 0x0, .ro, .num 0x0, 0xFFFFFF0F⟩,
  ⟨0x11C, 1, 0x0, .ro, .num 0x0, 0xFF01FF⟩,
  ⟨0x120, 1, 0x0, .ro, .num 0x0, 0x1FFFFFFF⟩,
  ⟨0x124, 1, 0x0, .w1c, .num 0x0, 0x1FFFFFFF⟩,
  ⟨0x128, 1, 0x0, .ro, .num 0x0, 0x1FF⟩,
  ⟨0x12C, 1, 0x0, .cnt, .num 0x0, 0xFFFFFFFF⟩,
  ⟨0x130, 1, 0x0, .rws, .num 0x641500, 0xFFFFFF⟩,
  ⟨0x134, 1, 0x0, .cnt, .num 0x0, 0xFFFFFFFF⟩,
  ⟨0x200, 8, 0x10, .rws, .num 0x0, 0xFFFFFF⟩,
  ⟨0x204, 8, 0x10, .rws, .num 0x0, 0xFFFFFFFF⟩,
  ⟨0x208, 8, 0x10, .ro, .num 0x0, 0xFFFFFFFF⟩,
  ⟨0x280, 8, 0x10, .rws, .num 0x0, 0xFFFFFF⟩,
  ⟨0x284, 8, 0x10, .rws, .num 0x0, 0xFFFFFFFF⟩,
  ⟨0x288, 8, 0x10, .rws, .num 0x0, 0xFFFFFFFF⟩,
  ⟨0x28C, 8, 0x10, .rws, .num 0x0, 0xFFFFFFFF⟩,
  ⟨0x300, 8, 0x10, .rws, .num 0x0, 0xFFFFFF⟩,
  ⟨0x304, 8, 0x10, .rws, .num 0x0, 0xFFFFFFFF⟩,
  ⟨0x308, 8, 0x10, .ro, .num 0x0, 0xFFFFFFFF⟩,
  ⟨0x400, 8, 0x4, .ro, .num 0x0, 0xFFFFFFFF⟩,
  ⟨0x600, 32, 0x10, .rws, .num 0x0, 0xFFFF0F3F⟩,
  ⟨0x604, 32, 0x10, .rws, .num 0x0, 0xFFFFFFFF⟩,
  ⟨0x608, 32, 0x10, .rws, .num 0x300A0, 0xFFFFFFFF⟩,
  ⟨0x60C, 32, 0x10, .ro, .num 0x0, 0xFFFF00F3⟩]
/-- The register rows of the page at 0x40009000. -/
def rows40009000 : List RegRow := [
  ⟨0x100, 1, 0x0, .rws, .num 0x640004, 0x3FF0007⟩,
  ⟨0x104, 1, 0x0, .ro, .num 0x0, 0xFF77F⟩,
  ⟨0x108, 1, 0x0, .ro, .num 0x0, 0xFFFFFFFF⟩,
  ⟨0x10C, 1, 0x0, .ro, .num 0x0, 0xFFFFFFFF⟩,
  ⟨0x110, 1, 0x0, .ro, .num 0x0, 0xFFFFFFFF⟩,
  ⟨0x114, 1, 0x0, .ro, .num 0x0, 0xFFFFFFFF⟩,
  ⟨0x118, 1, 0x0, .ro, .num 0x0, 0xFFFFFFFF⟩,
  ⟨0x11C, 1, 0x0, .ro, .num 0x0, 0xFFFFFFFF⟩,
  ⟨0x120, 1, 0x0, .ro, .num 0x0, 0xFFFFFFFF⟩,
  ⟨0x124, 1, 0x0, .cnt, .num 0x0, 0xFFFFFFFF⟩,
  ⟨0x128, 1, 0x0, .ro, .num 0x0, 0xFFFFFFFF⟩,
  ⟨0x12C, 1, 0x0, .rw, .num 0x0, 0xFFFFFFFF⟩,
  ⟨0x130, 1, 0x0, .cnt, .num 0x0, 0xFFFFFFFF⟩,
  ⟨0x134, 1, 0x0, .cnt, .num 0x0, 0xFFFFFFFF⟩,
  ⟨0x138, 1, 0x0, .wo, .num 0x0, 0xFFFFFF03⟩,
  ⟨0x13C, 1, 0x0, .ro, .num 0x0, 0xFFFF000F⟩,
  ⟨0x140, 1, 0x0, .ro, .num 0x0, 0xFFFFFFFF⟩,
  ⟨0x144, 1, 0x0, .cnt, .num 0x0, 0xFFFFFFFF⟩,
  ⟨0x148, 1, 0x0, .rws, .num 0x0, 0xFFFFFFFF⟩,
  ⟨0x14C, 1, 0x0, .rws, .num 0x0, 0x3FFFFFF⟩]
/-- The register rows of the page at 0x40010000. -/
def rows40010000 : List RegRow := [
  ⟨0x100, 1, 0x0, .rws, .num 0x7F0131, 0x7F0171⟩,
  ⟨0x104, 1, 0x0, .rws, .num 0x11881000, 0xFFFFFFFF⟩,
  ⟨0x108, 1, 0x0, .rws, .num 0xA320319, 0xFFFFFFFF⟩,
  ⟨0x110, 4, 0x4, .rw, .index, 0x1FF⟩,
  ⟨0x120, 1, 0x0, .rws, .num 0x0, 0xFFFF003F⟩,
  ⟨0x124, 1, 0x0, .rws, .num 0x1E, 0x7F⟩,
  ⟨0x128, 1, 0x0, .ro, .num 0x0, 0xFFF00FF⟩,
  ⟨0x12C, 1, 0x0, .cnt, .num 0x0, 0xFFFFFFFF⟩,
  ⟨0x130, 3, 0x4, .ro, .num 0x0, 0xFF07⟩,
  ⟨0x140, 4, 0x4, .ro, .num 0x0, 0xFFFFFFFF⟩,
  ⟨0x150, 1, 0x0, .ro, .num 0x1000000, 0x1FF01FF⟩,
  ⟨0x154, 1, 0x0, .cnt, .num 0x0, 0xFFFFFFFF⟩]
/-- The register rows of the page at 0x40011000. -/
def rows40011000 : List RegRow := [
  ⟨0x100, 3, 0x10, .rws, .num 0x780507, 0xFFFF07⟩,
  ⟨0x104, 3, 0x10, .ro, .num 0x0, 0xFFFF07⟩,
  ⟨0x140, 6, 0x10, .rws, .num 0x83803C, 0xF3FFFF⟩,
  ⟨0x144, 6, 0x10, .ro, .num 0x0, 0xFF0FFF⟩]
/-- The register rows of the page at 0x40012000. -/
def rows40012000 : List RegRow := [
  ⟨0x100, 1, 0x0, .rws, .num 0x3C380141, 0xFFFF07FF⟩,
  ⟨0x104, 1, 0x0, .rws, .num 0x514, 0xFFFF⟩,
  ⟨0x110, 2, 0x10, .ro, .num 0x0, 0xFFFF03FF⟩,
  ⟨0x130, 1, 0x0, .ro, .num 0x0, 0x1FF⟩,
  ⟨0x134, 1, 0x0, .cnt, .num 0x0, 0xFFFFFFFF⟩,
  ⟨0x138, 1, 0x0, .cnt, .num 0x0, 0xFFFFFFFF⟩]
/-- The register rows of the page at 0x40013000. -/
def rows40013000 : List RegRow := [
  ⟨0x100, 1, 0x0, .rws, .num 0x51001, 0x7FF01⟩,
  ⟨0x104, 1, 0x0, .rws, .num 0x1200, 0xFFFF⟩,
  ⟨0x108, 1, 0x0, .ro, .num 0x0, 0x1FF0F⟩,
  ⟨0x10C, 1, 0x0, .cnt, .num 0x0, 0xFFFFFFFF⟩,
  ⟨0x110, 3, 0x4, .rws, .num 0x0, 0xFFFFFFFF⟩,
  ⟨0x11C, 3, 0x4, .rws, .num 0x0, 0xFFFFFFFF⟩,
  ⟨0x128, 1, 0x0, .rws, .num 0xA3000, 0xFFFF01⟩,
  ⟨0x12C, 1, 0x0, .rws, .num 0x1180, 0xFFFF⟩,
  ⟨0x130, 1, 0x0, .ro, .num 0x0, 0xFFFF1F⟩,
  ⟨0x140, 1, 0x0, .rws, .num 0x3C22, 0xFF37⟩,
  ⟨0x144, 3, 0x4, .ro, .num 0x0, 0x1FFFFFF⟩,
  ⟨0x150, 1, 0x0, .rws, .num 0xA0F37, 0xFFFFFF⟩,
  ⟨0x154, 1, 0x0, .rws, .num 0x2818, 0xFFFF⟩,
  ⟨0x158, 6, 0x4, .ro, .num 0x0, 0x1FFFF⟩,
  ⟨0x170, 1, 0x0, .rws, .num 0xF3B30003, 0xFFFF1F1F⟩,
  ⟨0x174, 1, 0x0, .rws, .num 0x553C26, 0xFFFFFF⟩,
  ⟨0x178, 1, 0x0, .ro, .num 0x0, 0x1FFFFFF⟩,
  ⟨0x180, 1, 0x0, .rws, .num 0x321014, 0xFFFFFF⟩,
  ⟨0x184, 1, 0x0, .rws, .num 0x1A, 0xFF⟩,
  ⟨0x190, 1, 0x0, .ro, .num 0x0, 0x7FFF⟩,
  ⟨0x194, 1, 0x0, .w1c, .num 0x0, 0x7FFF⟩]
/-- The register rows of the page at 0x40014000. -/
def rows40014000 : List RegRow := [
  ⟨0x100, 1, 0x0, .rw, .num 0x0, 0xFFFF1F⟩,
  ⟨0x104, 1, 0x0, .rw, .num 0x32103C01, 0xFFFFFF1F⟩,
  ⟨0x108, 1, 0x0, .rw, .num 0x40, 0xFF7F⟩,
  ⟨0x10C, 1, 0x0, .rw, .num 0x0, 0xFFFFFFFF⟩,
  ⟨0x110, 1, 0x0, .rw, .num 0x0, 0x800FFFFF⟩,
  ⟨0x114, 1, 0x0, .wo, .num 0x0, 0x3⟩,
  ⟨0x118, 1, 0x0, .ro, .num 0x0, 0xFFFFFFF⟩,
  ⟨0x11C, 1, 0x0, .ro, .num 0x0, 0xFFFFFFFF⟩,
  ⟨0x120, 1, 0x0, .ro, .num 0x0, 0xFFFFFFFF⟩]
/-- The register rows of the page at 0x40020000. -/
def rows40020000 : List RegRow := [
  ⟨0x100, 1, 0x0, .rws, .num 0x1, 0xFF⟩,
  ⟨0x104, 1, 0x0, .ro, .num 0x21000000, 0xFFFFFFFF⟩,
  ⟨0x108, 1, 0x0, .ro, .num 0x0, 0x7F007F⟩,
  ⟨0x10C, 1, 0x0, .cnt, .num 0x0, 0xFFFFFFFF⟩,
  ⟨0x110, 1, 0x0, .cnt, .num 0x0, 0xFFFFFFFF⟩,
  ⟨0x114, 1, 0x0, .rw, .num 0x0, 0xFFFFFFFF⟩,
  ⟨0x118, 1, 0x0, .rws, .num 0xC8020064, 0xFF03F3FF⟩,
  ⟨0x11C, 1, 0x0, .rws, .num 0xA012C, 0xFF03FF⟩,
  ⟨0x120, 2, 0x4, .ro, .num 0x0, 0xFFFFFFFF⟩,
  ⟨0x128, 2, 0x4, .ro, .num 0x0, 0xFFFFFFFF⟩]
/-- The register rows of the page at 0x40021000. -/
def rows40021000 : List RegRow := [
  ⟨0x100, 1, 0x0, .rw, .num 0x0, 0x3F⟩,
  ⟨0x110, 1, 0x0, .rws, .num 0x0, 0xFFFF7F7F⟩,
  ⟨0x114, 1, 0x0, .rws, .num 0x0, 0x1FFFFF⟩,
  ⟨0x118, 1, 0x0, .rws, .num 0x0, 0xFFFF⟩,
  ⟨0x11C, 1, 0x0, .rws, .num 0x0, 0xFFFFFFFF⟩,
  ⟨0x120, 1, 0x0, .rws, .num 0x0, 0xFFFFFFFF⟩,
  ⟨0x124, 1, 0x0, .rws, .num 0x0, 0xFFFFFFFF⟩,
  ⟨0x128, 1, 0x0, .rws, .num 0x0, 0xFFFFFFFF⟩,
  ⟨0x12C, 1, 0x0, .rws, .num 0x0, 0xFFFFFFFF⟩,
  ⟨0x130, 1, 0x0, .rws, .num 0x0, 0xFFFF⟩,
  ⟨0x134, 1, 0x0, .wo, .num 0x0, 0xFFFF0003⟩,
  ⟨0x138, 1, 0x0, .ro, .num 0x0, 0xFFFF0F⟩,
  ⟨0x13C, 1, 0x0, .ro, .num 0x0, 0xFFFFFFFF⟩,
  ⟨0x140, 1, 0x0, .ro, .num 0x0, 0xFFFFFFFF⟩]
/-- The register rows of the page at 0x40022000. -/
def rows40022000 : List RegRow := [
  ⟨0x100, 1, 0x0, .rws, .num 0x3, 0x3F7⟩,
  ⟨0x104, 1, 0x0, .rws, .num 0x501AA01E, 0xFFFFFFFF⟩,
  ⟨0x108, 1, 0x0, .rws, .num 0x3C, 0xFF⟩,
  ⟨0x10C, 1, 0x0, .rws, .num 0xF51E0A1E, 0xFFFFFFFF⟩,
  ⟨0x110, 1, 0x0, .rws, .num 0x1E32, 0xFFFF⟩,
  ⟨0x114, 1, 0x0, .rws, .num 0x500, 0xFF0F⟩,
  ⟨0x118, 1, 0x0, .ro, .num 0x0, 0xFFFFFF1F⟩,
  ⟨0x11C, 1, 0x0, .ro, .num 0x50505050, 0xFFFFFFFF⟩,
  ⟨0x120, 1, 0x0, .ro, .num 0x0, 0x3F07⟩]
/-- The register rows of the page at 0x40023000. -/
def rows40023000 : List RegRow := [
  ⟨0x100, 1, 0x0, .rws, .num 0x50DD2, 0xFFFFFF⟩,
  ⟨0x104, 1, 0x0, .rws, .num 0x80640DD2, 0xFFFFFFFF⟩,
  ⟨0x108, 1, 0x0, .rws, .num 0x301, 0xFFFF⟩,
  ⟨0x10C, 1, 0x0, .rws, .num 0x7D007D0, 0xFFFFFFFF⟩,
  ⟨0x110, 1, 0x0, .rws, .num 0x3C03E8, 0xFFFFFF⟩,
  ⟨0x114, 1, 0x0, .rws, .num 0x3003C, 0xFF03FF⟩,
  ⟨0x118, 1, 0x0, .ro, .num 0x0, 0xFFFF0003⟩,
  ⟨0x11C, 2, 0x4, .ro, .num 0x0, 0xFFFFFFFF⟩,
  ⟨0x124, 1, 0x0, .wo, .num 0x0, 0xFFFF003F⟩,
  ⟨0x128, 1, 0x0, .ro, .num 0x0, 0xFFFF3F0F⟩,
  ⟨0x12C, 2, 0x4, .ro, .num 0x0, 0xFFFFFFFF⟩,
  ⟨0x134, 1, 0x0, .cnt, .num 0x0, 0xFFFFFFFF⟩,
  ⟨0x138, 1, 0x0, .cnt, .num 0x0, 0xFFFFFFFF⟩,
  ⟨0x13C, 1, 0x0, .cnt, .num 0x0, 0xFFFFFFFF⟩]
/-- The register rows of the page at 0x40030000. -/
def rows40030000 : List RegRow := [
  ⟨0x100, 1, 0x0, .rws, .num 0x801, 0xF01⟩,
  ⟨0x104, 1, 0x0, .rw, .num 0x0, 0x3F1F3F3F⟩,
  ⟨0x108, 1, 0x0, .wo, .num 0x0, 0xFFFFFFC0⟩,
  ⟨0x10C, 1, 0x0, .ro, .num 0x0, 0xFF⟩,
  ⟨0x110, 1, 0x0, .cnt, .num 0x0, 0xFFFFFFFF⟩,
  ⟨0x114, 1, 0x0, .wo, .num 0x0, 0xFFFF0007⟩,
  ⟨0x118, 1, 0x0, .rw, .num 0x0, 0xFFFFFFFF⟩,
  ⟨0x11C, 1, 0x0, .ro, .num 0x0, 0x3⟩,
  ⟨0x120, 1, 0x0, .cnt, .num 0x0, 0xFFFFFFFF⟩,
  ⟨0x124, 1, 0x0, .cnt, .num 0x0, 0xFFFFFFFF⟩,
  ⟨0x128, 1, 0x0, .ro, .num 0x0, 0x3FF⟩,
  ⟨0x12C, 1, 0x0, .cnt, .num 0x0, 0xFFFFFFFF⟩,
  ⟨0x130, 1, 0x0, .cnt, .num 0x0, 0xFFFFFFFF⟩,
  ⟨0x134, 1, 0x0, .cnt, .num 0x0, 0xFFFFFFFF⟩,
  ⟨0x138, 1, 0x0, .ro, .num 0x0, 0xFFFFFFFF⟩]
/-- The register rows of the page at 0x40031000. -/
def rows40031000 : List RegRow := [
  ⟨0x100, 8, 0x20, .rws, .num 0x0, 0xFFFFFFFF⟩,
  ⟨0x104, 8, 0x20, .rws, .num 0x0, 0xFFFFFFFF⟩,
  ⟨0x108, 8, 0x20, .rws, .num 0x6, 0xF⟩,
  ⟨0x10C, 8, 0x20, .ro, .num 0x0, 0xFFFFFF⟩,
  ⟨0x110, 8, 0x20, .ro, .num 0x0, 0xFFFFFFFF⟩,
  ⟨0x114, 8, 0x20, .ro, .num 0x0, 0xFFFFFFFF⟩,
  ⟨0x118, 8, 0x20, .ro, .num 0x0, 0xFFFFFFFF⟩,
  ⟨0x11C, 8, 0x20, .ro, .num 0x0, 0xFFFFFFFF⟩]
/-- The register rows of the page at 0x40032000. -/
def rows40032000 : List RegRow := [
  ⟨0x100, 7, 0x20, .ro, .num 0x1, 0xFFFFFFFF⟩,
  ⟨0x104, 7, 0x20, .ro, .num 0x0, 0xFFFFFFFF⟩,
  ⟨0x108, 7, 0x20, .ro, .num 0x0, 0xFFFFFF⟩,
  ⟨0x10C, 7, 0x20, .cnt, .num 0x0, 0xFFFFFFFF⟩]
/-- The register rows of the page at 0x40033000. -/
def rows40033000 : List RegRow := [
  ⟨0x100, 4, 0x10, .ro, .num 0x0, 0xFFFF0FF3⟩,
  ⟨0x104, 4, 0x10, .ro, .num 0x0, 0x3FF⟩,
  ⟨0x108, 4, 0x10, .wo, .num 0x0, 0xFFFF0001⟩,
  ⟨0x10C, 4, 0x10, .cnt, .num 0x0, 0xFFFFFFFF⟩]
/-- The register rows of the page at 0x40038000. -/
def rows40038000 : List RegRow := [
  ⟨0x100, 1, 0x0, .rws, .num 0xC1E50A0, 0x7F7F7FF3⟩,
  ⟨0x104, 1, 0x0, .rws, .num 0x323C1431, 0xFFFFFFFF⟩,
  ⟨0x108, 1, 0x0, .rws, .num 0x210, 0x777⟩,
  ⟨0x10C, 1, 0x0, .rws, .num 0x121110, 0xFFFFFF⟩,
  ⟨0x110, 1, 0x0, .rws, .num 0x1400, 0xFFFF⟩,
  ⟨0x114, 1, 0x0, .rws, .num 0xA141480, 0xFFFFFFFF⟩,
  ⟨0x118, 1, 0x0, .ro, .num 0x201C0000, 0xFFFFFFFF⟩,
  ⟨0x11C, 1, 0x0, .ro, .num 0x201C1000, 0xFFFFFFFF⟩,
  ⟨0x120, 1, 0x0, .ro, .num 0x0, 0xFFFFFFFF⟩,
  ⟨0x124, 1, 0x0, .ro, .num 0x0, 0xFFFFFFFF⟩,
  ⟨0x128, 1, 0x0, .cnt, .num 0x0, 0xFFFFFFFF⟩,
  ⟨0x12C, 1, 0x0, .cnt, .num 0x0, 0xFFFFFFFF⟩,
  ⟨0x130, 1, 0x0, .cnt, .num 0x0, 0xFFFFFFFF⟩,
  ⟨0x134, 1, 0x0, .wo, .num 0x0, 0xFFFF033F⟩,
  ⟨0x138, 1, 0x0, .ro, .num 0x0, 0x3F07⟩,
  ⟨0x140, 8, 0x8, .rws, .num 0x0, 0x1FFFF⟩,
  ⟨0x144, 8, 0x8, .rw, .num 0x10000, 0x3FFFF⟩,
  ⟨0x180, 2, 0x4, .ro, .num 0x0, 0xFFFFFFFF⟩,
  ⟨0x190, 1, 0x0, .rws, .num 0x40D0140, 0xFFFFFFFF⟩,
  ⟨0x194, 1, 0x0, .rws, .num 0x14, 0x3F⟩,
  ⟨0x198, 1, 0x0, .ro, .num 0x0, 0xFFFFFF3F⟩,
  ⟨0x19C, 1, 0x0, .ro, .num 0x0, 0xFFFFFFFF⟩,
  ⟨0x1A0, 1, 0x0, .ro, .num 0x3F3F3F3F, 0x3F3F3F3F⟩,
  ⟨0x1A4, 1, 0x0, .ro, .num 0x201C5000, 0xFFFFFFFF⟩]
/-- The register rows of the page at 0x40039000. -/
def rows40039000 : List RegRow := [
  ⟨0x100, 40, 0x40, .rws, .num 0xFFF00, 0xFFFFF3F⟩,
  ⟨0x104, 40, 0x40, .rws, .num 0x0, 0xFFFFFFFF⟩,
  ⟨0x108, 40, 0x40, .rws, .num 0x0, 0xFFFFFFFF⟩,
  ⟨0x10C, 40, 0x40, .rws, .num 0x0, 0xFFFFFFFF⟩,
  ⟨0x110, 40, 0x40, .rws, .num 0x0, 0xFFFFFFFF⟩,
  ⟨0x114, 40, 0x40, .rws, .num 0x0, 0xFFFF⟩,
  ⟨0x118, 40, 0x40, .rws, .num 0x0, 0xFFFFFF⟩,
  ⟨0x11C, 40, 0x40, .rws, .num 0x0, 0xFFFFFFFF⟩,
  ⟨0x120, 40, 0x40, .rws, .num 0x0, 0xFFFFFFFF⟩,
  ⟨0x124, 40, 0x40, .rws, .num 0x0, 0xFFFFFFFF⟩,
  ⟨0x128, 40, 0x40, .rws, .num 0x0, 0xFFFFFFFF⟩,
  ⟨0x12C, 40, 0x40, .rws, .num 0x0, 0xFFFFFFFF⟩,
  ⟨0x130, 40, 0x40, .ro, .num 0x0, 0x707⟩,
  ⟨0x134, 40, 0x40, .ro, .num 0x0, 0xFFFFFFFF⟩,
  ⟨0x138, 40, 0x40, .ro, .num 0x0, 0xFFFF⟩,
  ⟨0xB00, 48, 0x10, .rws, .num 0x0, 0x3⟩,
  ⟨0xB04, 48, 0x10, .rws, .num 0x0, 0xFFFFFFFF⟩,
  ⟨0xB08, 48, 0x10, .rws, .num 0x0, 0xFF00FF⟩,
  ⟨0xB0C, 48, 0x10, .ro, .num 0x0, 0xFF1FFFFF⟩]
/-- The register rows of the page at 0x40040000. -/
def rows40040000 : List RegRow := [
  ⟨0x100, 1, 0x0, .rws, .num 0x0, 0x1⟩,
  ⟨0x104, 1, 0x0, .ro, .num 0x201C6000, 0xFFFFFFFF⟩,
  ⟨0x110, 4, 0x4, .rws, .grp, 0xFF07⟩,
  ⟨0x120, 4, 0x4, .ro, .num 0x0, 0xFFFFFFFF⟩,
  ⟨0x130, 2, 0x4, .ro, .num 0x0, 0xFFFFFFFF⟩,
  ⟨0x138, 2, 0x4, .ro, .num 0x0, 0xFFFFFFFF⟩,
  ⟨0x140, 1, 0x0, .cnt, .num 0x0, 0xFFFFFFFF⟩,
  ⟨0x144, 1, 0x0, .cnt, .num 0x0, 0xFFFFFFFF⟩,
  ⟨0x200, 64, 0x4, .ro, .num 0x0, 0xFFFFFFFF⟩,
  ⟨0x300, 64, 0x4, .rw, .num 0x0, 0xFFFFFFFF⟩]
/-- The register rows of the page at 0x40041000. -/
def rows40041000 : List RegRow := [
  ⟨0x100, 1, 0x0, .rw, .num 0x0, 0x3F⟩,
  ⟨0x110, 1, 0x0, .rws, .num 0x2, 0x3F7FF⟩,
  ⟨0x114, 1, 0x0, .rws, .num 0xF0F0F, 0x1F1F1F⟩,
  ⟨0x118, 1, 0x0, .rws, .num 0x4, 0xFF7F77⟩,
  ⟨0x11C, 1, 0x0, .rws, .num 0x640000, 0xFFFFFFFF⟩,
  ⟨0x120, 1, 0x0, .rws, .num 0x0, 0xFFFFFFFF⟩,
  ⟨0x124, 1, 0x0, .rws, .num 0x0, 0xFFFFFF7⟩,
  ⟨0x128, 1, 0x0, .rws, .num 0x80000000, 0xFFFFFFFF⟩,
  ⟨0x12C, 1, 0x0, .rws, .num 0x7FFFFFFF, 0xFFFFFFFF⟩,
  ⟨0x130, 1, 0x0, .rws, .num 0x80000000, 0xFFFFFFFF⟩,
  ⟨0x134, 1, 0x0, .rws, .num 0x7FFFFFFF, 0xFFFFFFFF⟩,
  ⟨0x138, 1, 0x0, .rws, .num 0x0, 0xFFFF000F⟩,
  ⟨0x13C, 1, 0x0, .rws, .num 0x0, 0xFFFFFF⟩,
  ⟨0x140, 1, 0x0, .rws, .num 0x100, 0x3F7FFF⟩,
  ⟨0x144, 1, 0x0, .rws, .num 0x0, 0x3FFFFFF⟩,
  ⟨0x148, 1, 0x0, .rws, .num 0x10000, 0xFF03F7⟩,
  ⟨0x14C, 1, 0x0, .rws, .num 0x0, 0xFFFFFFFF⟩,
  ⟨0x150, 1, 0x0, .rws, .num 0x0, 0xFFFFFFFF⟩,
  ⟨0x154, 1, 0x0, .rws, .num 0x7FFFFFFF, 0xFFFFFFFF⟩,
  ⟨0x160, 1, 0x0, .wo, .num 0x0, 0xFFFF0001⟩,
  ⟨0x164, 1, 0x0, .ro, .num 0x0, 0xFF0FF7⟩,
  ⟨0x168, 1, 0x0, .ro, .num 0x0, 0xFFFFFFFF⟩,
  ⟨0x16C, 1, 0x0, .ro, .num 0x0, 0xFFFFFFFF⟩,
  ⟨0x170, 1, 0x0, .cnt, .num 0x0, 0xFFFFFFFF⟩]
/-- The register rows of the page at 0x40050000. -/
def rows40050000 : List RegRow := [
  ⟨0x100, 1, 0x0, .rws, .num 0x6, 0xFF⟩,
  ⟨0x104, 1, 0x0, .rws, .num 0x407F2001, 0xFFFFFF3F⟩,
  ⟨0x108, 1, 0x0, .rws, .num 0xA1D0A01, 0x1F3F1F3F⟩,
  ⟨0x10C, 1, 0x0, .rws, .num 0x1E01, 0x7F7F01⟩,
  ⟨0x110, 1, 0x0, .ro, .num 0x0, 0x7F3FFF7F⟩,
  ⟨0x114, 1, 0x0, .ro, .num 0x0, 0xFFFFFFFF⟩,
  ⟨0x118, 1, 0x0, .ro, .num 0x0, 0xFFFFFFFF⟩,
  ⟨0x120, 1, 0x0, .rws, .num 0x640810, 0x3FFF1F3F⟩,
  ⟨0x124, 1, 0x0, .ro, .cfgWord 2, 0xFFFFFFFF⟩,
  ⟨0x128, 1, 0x0, .rws, .num 0x640000, 0xFFFF0003⟩,
  ⟨0x12C, 1, 0x0, .rws, .num 0x0, 0x3FFFFFFF⟩,
  ⟨0x130, 1, 0x0, .rws, .num 0x0, 0x3FFFFFFF⟩,
  ⟨0x134, 1, 0x0, .rws, .num 0x0, 0xFFFF⟩,
  ⟨0x138, 1, 0x0, .ro, .num 0x0, 0xFFFFFFFF⟩,
  ⟨0x140, 1, 0x0, .rw, .num 0x0, 0xFFFFFFFF⟩,
  ⟨0x144, 1, 0x0, .rw, .num 0x0, 0x3F⟩,
  ⟨0x150, 16, 0x4, .rw, .num 0x0, 0xFFFFFFFF⟩,
  ⟨0x190, 1, 0x0, .wo, .num 0x0, 0xFFFFFFFF⟩,
  ⟨0x194, 1, 0x0, .ro, .num 0x0, 0xFF0F⟩,
  ⟨0x198, 1, 0x0, .wo, .num 0x0, 0xFF⟩,
  ⟨0x19C, 1, 0x0, .ro, .num 0x0, 0x3⟩,
  ⟨0x1A0, 1, 0x0, .ro, .cfgWord 3, 0xFFFFFFFF⟩,
  ⟨0x1A4, 1, 0x0, .ro, .num 0x0, 0xFFFF001F⟩,
  ⟨0x1A8, 1, 0x0, .rw, .num 0x0, 0x1F⟩,
  ⟨0x1B0, 1, 0x0, .ro, .cfgWord 4, 0xFFFFFFFF⟩,
  ⟨0x1B4, 1, 0x0, .ro, .num 0x0, 0x3F⟩,
  ⟨0x1B8, 1, 0x0, .rw, .num 0x0, 0x3F⟩,
  ⟨0x1C0, 1, 0x0, .cnt, .num 0x0, 0xFFFFFFFF⟩,
  ⟨0x1C4, 1, 0x0, .cnt, .num 0x0, 0xFFFFFFFF⟩,
  ⟨0x1C8, 1, 0x0, .cnt, .num 0x0, 0xFFFFFFFF⟩,
  ⟨0x1CC, 1, 0x0, .ro, .num 0x0, 0xBFFFFFFF⟩,
  ⟨0x1D0, 1, 0x0, .wo, .num 0x0, 0xFFFF0000⟩,
  ⟨0x1E0, 1, 0x0, .rws, .num 0x320000, 0xFF0F07⟩,
  ⟨0x1E4, 1, 0x0, .rws, .num 0x0, 0x1FFFFFFF⟩,
  ⟨0x1E8, 1, 0x0, .rws, .num 0x0, 0x1FFFFFFF⟩,
  ⟨0x1EC, 2, 0x4, .rws, .num 0x0, 0xFFFFFFFF⟩,
  ⟨0x1F4, 2, 0x4, .rws, .num 0x0, 0xFFFFFFFF⟩,
  ⟨0x1FC, 1, 0x0, .wo, .num 0x0, 0xFFFF0000⟩,
  ⟨0x300, 32, 0x8, .rws, .num 0x0, 0xFFFFFFFF⟩,
  ⟨0x304, 32, 0x8, .rws, .num 0x6, 0xF0F⟩,
  ⟨0x400, 4, 0x10, .rws, .num 0x0, 0xFFFFFFFF⟩,
  ⟨0x404, 4, 0x10, .rws, .num 0x0, 0xF1F03⟩,
  ⟨0x408, 4, 0x10, .wo, .num 0x0, 0x3⟩,
  ⟨0x40C, 4, 0x10, .ro, .num 0x0, 0xFFFF00F3⟩,
  ⟨0x800, 128, 0x10, .rws, .num 0xC0, 0xFFFF00FF⟩,
  ⟨0x804, 128, 0x10, .rws, .num 0x0, 0x1FFFFFFF⟩,
  ⟨0x808, 128, 0x10, .rws, .num 0x0, 0x1FFFFFFF⟩,
  ⟨0x80C, 128, 0x10, .rws, .num 0x0, 0xFFFF007F⟩]
/-- The register rows of the page at 0x40060000. -/
def rows40060000 : List RegRow := [
  ⟨0x100, 1, 0x0, .rws, .num 0x0, 0x1F1F⟩,
  ⟨0x104, 1, 0x0, .ro, .num 0x0, 0xFF3FF7⟩,
  ⟨0x108, 1, 0x0, .rws, .macLo, 0xFFFFFFFF⟩,
  ⟨0x10C, 1, 0x0, .rws, .macHi, 0xFFFF⟩,
  ⟨0x110, 1, 0x0, .rws, .num 0x0, 0xFFFFFFFF⟩,
  ⟨0x114, 1, 0x0, .rws, .num 0x0, 0xFFFFFFFF⟩,
  ⟨0x118, 1, 0x0, .rws, .num 0x146, 0x777⟩,
  ⟨0x11C, 1, 0x0, .rws, .num 0x5AFF, 0xFFFF⟩,
  ⟨0x120, 1, 0x0, .rws, .num 0x2, 0xFFFFF07F⟩,
  ⟨0x124, 1, 0x0, .ro, .cfgWord 5, 0xFFFFFFFF⟩,
  ⟨0x128, 1, 0x0, .cnt, .num 0x0, 0xFFFFFFFF⟩,
  ⟨0x12C, 1, 0x0, .cnt, .num 0x0, 0xFFFFFFFF⟩,
  ⟨0x130, 1, 0x0, .cnt, .num 0x0, 0xFFFFFFFF⟩,
  ⟨0x200, 64, 0x4, .rws, .gcl, 0xFFFFF1FF⟩,
  ⟨0x400, 32, 0x10, .rws, .num 0x0, 0xFFFF7F0F⟩,
  ⟨0x404, 32, 0x10, .rws, .num 0x0, 0xFFFFFFFF⟩,
  ⟨0x408, 32, 0x10, .rws, .num 0x0, 0xFFFFFFFF⟩,
  ⟨0x40C, 32, 0x10, .rws, .num 0x0, 0xFFFFFFF⟩]
/-- The register rows of the page at 0x40064000. -/
def rows40064000 : List RegRow := [
  ⟨0x100, 1, 0x0, .rws, .num 0x0, 0x3⟩,
  ⟨0x104, 1, 0x0, .rws, .num 0x80800004, 0xFFFF7F0F⟩,
  ⟨0x108, 1, 0x0, .rws, .num 0x300D, 0xFFFF⟩,
  ⟨0x10C, 1, 0x0, .rws, .num 0x9DDB9DDA, 0xFFFFFFFF⟩,
  ⟨0x110, 1, 0x0, .rws, .num 0x40003E8, 0xFFFFFFFF⟩,
  ⟨0x114, 1, 0x0, .cnt, .num 0x0, 0xFFFFFFFF⟩,
  ⟨0x120, 8, 0x4, .rws, .num 0x0, 0xFFFF1FFF⟩,
  ⟨0x140, 32, 0x10, .rws, .num 0x0, 0xFFFFFFFF⟩,
  ⟨0x144, 32, 0x10, .rws, .num 0x0, 0xFFFF07FF⟩,
  ⟨0x148, 32, 0x10, .rws, .num 0x0, 0xFFFF⟩,
  ⟨0x400, 64, 0x20, .rws, .num 0x0, 0xFFF03FF⟩,
  ⟨0x404, 64, 0x20, .rws, .num 0x0, 0xFFFFFFFF⟩,
  ⟨0x408, 64, 0x20, .rws, .num 0x0, 0xFFFF⟩,
  ⟨0x40C, 64, 0x20, .rws, .num 0x5F2, 0x7FF⟩,
  ⟨0x410, 64, 0x20, .rws, .num 0x0, 0xFFFFFFFF⟩,
  ⟨0x414, 64, 0x20, .ro, .num 0x0, 0xFFFF0001⟩,
  ⟨0x418, 64, 0x20, .cnt, .num 0x0, 0xFFFFFFFF⟩,
  ⟨0x41C, 64, 0x20, .wo, .num 0x0, 0xFFFF0000⟩]
/-- The register rows of the page at 0x40068000. -/
def rows40068000 : List RegRow := [
  ⟨0x100, 1, 0x0, .rws, .num 0x0, 0x3FF0F7F⟩,
  ⟨0x104, 1, 0x0, .rws, .num 0x10001, 0xFFFFFF⟩,
  ⟨0x108, 1, 0x0, .rws, .num 0x700, 0x7FF⟩,
  ⟨0x10C, 1, 0x0, .rws, .num 0x9DD0, 0xFFFF⟩,
  ⟨0x110, 1, 0x0, .rws, .num 0xEFFF2801, 0xFFFFFFFF⟩,
  ⟨0x114, 1, 0x0, .ro, .num 0x0, 0xFF0101FF⟩,
  ⟨0x118, 1, 0x0, .cnt, .num 0x0, 0xFFFFFFFF⟩,
  ⟨0x11C, 1, 0x0, .cnt, .num 0x0, 0xFFFFFFFF⟩,
  ⟨0x120, 1, 0x0, .rw, .num 0x0, 0xFF⟩,
  ⟨0x124, 1, 0x0, .ro, .num 0x0, 0xFFFFFFFF⟩,
  ⟨0x128, 1, 0x0, .ro, .num 0x0, 0xFFFFFFFF⟩,
  ⟨0x12C, 1, 0x0, .ro, .num 0x0, 0x3FFFFFF⟩,
  ⟨0x130, 1, 0x0, .ro, .num 0x0, 0xF3FFFFF⟩,
  ⟨0x134, 1, 0x0, .ro, .num 0x0, 0x3BF⟩,
  ⟨0x138, 1, 0x0, .wo, .num 0x0, 0xFFFFFFFF⟩,
  ⟨0x13C, 1, 0x0, .ro, .num 0x0, 0xFFFF0007⟩,
  ⟨0x200, 64, 0x10, .rws, .num 0x0, 0xFFFF01⟩,
  ⟨0x204, 64, 0x10, .rws, .num 0x0, 0xFFFFFFFF⟩,
  ⟨0x208, 64, 0x10, .rws, .num 0x0, 0xFFFFFFFF⟩,
  ⟨0x20C, 64, 0x10, .ro, .num 0x0, 0x3FF⟩]
/-- The register rows of the page at 0x4006A000. -/
def rows4006A000 : List RegRow := [
  ⟨0x100, 12, 0x40, .rws, .num 0x0, 0xFFFF⟩,
  ⟨0x104, 12, 0x40, .rws, .num 0x1C200, 0xFFFFFF⟩,
  ⟨0x108, 12, 0x40, .rws, .num 0x0, 0xFFFFFFFF⟩,
  ⟨0x10C, 12, 0x40, .ro, .num 0x0, 0xFFFF⟩,
  ⟨0x110, 12, 0x40, .wo, .num 0x0, 0xFF⟩,
  ⟨0x114, 12, 0x40, .cnt, .num 0x0, 0xFFFFFFFF⟩]
/-- The register rows of the page at 0x4006B000. -/
def rows4006B000 : List RegRow := [
  ⟨0x100, 4, 0x40, .rws, .num 0x0, 0xFFFFFFFF⟩,
  ⟨0x104, 4, 0x40, .rws, .num 0x0, 0xFFFFFFFF⟩,
  ⟨0x108, 4, 0x40, .wo, .num 0x0, 0xFFFFFFFF⟩,
  ⟨0x10C, 4, 0x40, .ro, .num 0x0, 0xFFFFFFFF⟩]
/-- The register rows of the page at 0x40070000. -/
def rows40070000 : List RegRow := [
  ⟨0x100, 16, 0x4, .rws, .num 0xA0080, 0xFF03FF⟩,
  ⟨0x140, 1, 0x0, .rw, .num 0x0, 0xFFFF⟩,
  ⟨0x144, 1, 0x0, .ro, .num 0x0, 0xFFFF⟩,
  ⟨0x148, 1, 0x0, .ro, .num 0x0, 0xFFFF⟩,
  ⟨0x14C, 1, 0x0, .rws, .num 0xA14, 0xFFFF⟩,
  ⟨0x180, 16, 0x4, .ro, .num 0x0, 0xFFFF0FFF⟩,
  ⟨0x1C0, 1, 0x0, .wo, .num 0x0, 0xFFFFFFFF⟩,
  ⟨0x1C4, 1, 0x0, .w1c, .num 0x0, 0x3FFFF⟩]
/-- The register rows of the page at 0x40071000. -/
def rows40071000 : List RegRow := [
  ⟨0x100, 16, 0x4, .rws, .num 0x408, 0x1FFF3F⟩,
  ⟨0x140, 1, 0x0, .ro, .num 0x0, 0xFFFF⟩,
  ⟨0x144, 1, 0x0, .ro, .num 0x0, 0xFFFF⟩,
  ⟨0x148, 1, 0x0, .ro, .num 0x0, 0xFFFFFFFF⟩,
  ⟨0x14C, 1, 0x0, .ro, .num 0x0, 0xFFFFFFFF⟩,
  ⟨0x180, 16, 0x4, .ro, .num 0x0, 0xFFFFFFFF⟩,
  ⟨0x1C0, 8, 0x8, .rws, .num 0x30000, 0x8003FFFF⟩,
  ⟨0x1C4, 8, 0x8, .rws, .num 0x0, 0xFFFF⟩,
  ⟨0x200, 1, 0x0, .rws, .num 0x33000, 0x3FFFF⟩,
  ⟨0x204, 1, 0x0, .rws, .num 0xA0A1400, 0xFFFFFF0F⟩,
  ⟨0x208, 1, 0x0, .cnt, .num 0x0, 0xFFFFFFFF⟩]
/-- The register rows of the page at 0x40072000. -/
def rows40072000 : List RegRow := [
  ⟨0x100, 2, 0x4, .rws, .num 0x0, 0x1⟩,
  ⟨0x108, 2, 0x4, .ro, .num 0x0, 0xFF1FFFFF⟩,
  ⟨0x110, 1, 0x0, .wo, .num 0x0, 0xFFFF0003⟩,
  ⟨0x114, 1, 0x0, .ro, .num 0x0, 0x3⟩,
  ⟨0x118, 1, 0x0, .cnt, .num 0x0, 0xFFFFFFFF⟩]
/-- The register rows of the page at 0x40073000. -/
def rows40073000 : List RegRow := [
  ⟨0x100, 1, 0x0, .rws, .num 0x1401, 0xFF01⟩,
  ⟨0x104, 1, 0x0, .wo, .num 0x0, 0xFFFF0000⟩,
  ⟨0x108, 1, 0x0, .ro, .num 0x3A5C0000, 0xFFFFFF07⟩,
  ⟨0x10C, 1, 0x0, .cnt, .num 0x0, 0xFFFFFFFF⟩,
  ⟨0x110, 1, 0x0, .cnt, .num 0x0, 0xFFFFFFFF⟩]
/-- The register rows of the page at 0x40074000. -/
def rows40074000 : List RegRow := [
  ⟨0x100, 8, 0x8, .rws, .num 0x10, 0x3F⟩,
  ⟨0x104, 8, 0x8, .rws, .num 0x7FFF8000, 0xFFFFFFFF⟩,
  ⟨0x140, 8, 0x4, .ro, .num 0x0, 0x7FFFF⟩,
  ⟨0x160, 8, 0x8, .rws, .num 0x300, 0x800003FF⟩,
  ⟨0x164, 8, 0x8, .rws, .num 0x0, 0xFFFF⟩,
  ⟨0x1A0, 4, 0x8, .rws, .num 0x0, 0xF⟩,
  ⟨0x1A4, 4, 0x8, .rw, .num 0x0, 0xFFFF⟩,
  ⟨0x1C0, 4, 0x4, .ro, .num 0x0, 0x7FFFF⟩]
/-- The register rows of the page at 0x40075000. -/
def rows40075000 : List RegRow := [
  ⟨0x100, 4, 0x20, .rws, .num 0x14642004, 0xFFFF3F7F⟩,
  ⟨0x104, 4, 0x20, .rws, .num 0x3E8003C, 0xFFFFFFFF⟩,
  ⟨0x108, 4, 0x20, .ro, .num 0x0, 0xFFFFFFFF⟩,
  ⟨0x10C, 4, 0x20, .ro, .num 0x0, 0xFFFFFFFF⟩,
  ⟨0x110, 4, 0x20, .ro, .num 0x0, 0xFFFFFFFF⟩,
  ⟨0x114, 4, 0x20, .ro, .num 0x0, 0xFFFF007F⟩,
  ⟨0x118, 4, 0x20, .ro, .num 0x0, 0xFFFFFFFF⟩,
  ⟨0x11C, 4, 0x20, .rws, .num 0x10000, 0x3FFFF⟩]
/-- The register rows of the page at 0x40090000. -/
def rows40090000 : List RegRow := [
  ⟨0x100, 1, 0x0, .ro, .num 0x0, 0x37⟩,
  ⟨0x104, 1, 0x0, .rws, .num 0x0, 0xFFC00000⟩,
  ⟨0x140, 4, 0x4, .w1c, .num 0x0, 0xFFFFFFFF⟩,
  ⟨0x150, 4, 0x4, .w1s, .num 0x0, 0xFFFFFFFF⟩,
  ⟨0x180, 1, 0x0, .ro, .num 0x0, 0xFFFF0003⟩]

/-- The page a register key lies in: its address with the low 12 bits clear and no element number. -/
def keyPage (key : Nat) : Nat := key % 0x100000000 / 0x1000 * 0x1000

/-- The offset of a register key in its page. -/
def keyOff (key : Nat) : Nat := key % 0x1000

/-- The element number of a register key (0 for a register no window reaches). -/
def keyElem (key : Nat) : Nat := key / 0x100000000

/-- The rows of the page at `p` (the controllers CAN0 to CAN5 and the ports ETH0 to ETH3 share one table each, and
the four channel windows of RBB another). -/
def pageRows (p : Nat) : List RegRow :=
  if p = 0x40000000 then rows40000000 else
  if p = 0x40001000 then rows40001000 else
  if p = 0x40002000 then rows40002000 else
  if p = 0x40003000 then rows40003000 else
  if p = 0x40004000 then rows40004000 else
  if p = 0x40005000 then rows40005000 else
  if p = 0x40006000 then rows40006000 else
  if p = 0x40007000 then rows40007000 else
  if p = 0x40008000 then rows40008000 else
  if p = 0x40009000 then rows40009000 else
  if p = 0x40010000 then rows40010000 else
  if p = 0x40011000 then rows40011000 else
  if p = 0x40012000 then rows40012000 else
  if p = 0x40013000 then rows40013000 else
  if 0x40014000 ≤ p ∧ p ≤ 0x40017000 then rows40014000 else
  if p = 0x40020000 then rows40020000 else
  if p = 0x40021000 then rows40021000 else
  if p = 0x40022000 then rows40022000 else
  if p = 0x40023000 then rows40023000 else
  if p = 0x40030000 then rows40030000 else
  if p = 0x40031000 then rows40031000 else
  if p = 0x40032000 then rows40032000 else
  if p = 0x40033000 then rows40033000 else
  if p = 0x40038000 then rows40038000 else
  if p = 0x40039000 then rows40039000 else
  if p = 0x40040000 then rows40040000 else
  if p = 0x40041000 then rows40041000 else
  if 0x40050000 ≤ p ∧ p ≤ 0x40055000 then rows40050000 else
  if 0x40060000 ≤ p ∧ p ≤ 0x40063000 then rows40060000 else
  if p = 0x40064000 then rows40064000 else
  if p = 0x40068000 then rows40068000 else
  if p = 0x4006A000 then rows4006A000 else
  if p = 0x4006B000 then rows4006B000 else
  if p = 0x40070000 then rows40070000 else
  if p = 0x40071000 then rows40071000 else
  if p = 0x40072000 then rows40072000 else
  if p = 0x40073000 then rows40073000 else
  if p = 0x40074000 then rows40074000 else
  if p = 0x40075000 then rows40075000 else
  if p = 0x40090000 then rows40090000 else
  []

/-- The row of a page at an offset. -/
def findRow (rows : List RegRow) (off : Nat) : Option RegRow :=
  rows.find? (fun r => r.off ≤ off && (off - r.off) % 4 == 0 &&
    (if r.count = 1 then off == r.off
     else (off - r.off) % r.stride == 0 && (off - r.off) / r.stride < r.count))

/-- One page of 22_registers.md Table 22.6: base address, block ID (Table 0.2), page index, instance, pages of the block and
the number of rules in the block's consistency table (the fields of PAGE_ID and PAGE_CAP, R500). -/
structure Page where
  base : Nat
  block : Nat
  index : Nat
  inst : Nat
  pagesInBlock : Nat
  rules : Nat
  deriving DecidableEq, Repr

/-- The 51 pages of Table 22.6, in ascending address. -/
def pages : List Page := [
  ⟨0x40000000, 0x01, 0, 0, 1, 4⟩, ⟨0x40001000, 0x02, 0, 0, 1, 0⟩, ⟨0x40002000, 0x03, 0, 0, 1, 10⟩,
  ⟨0x40003000, 0x04, 0, 0, 1, 5⟩, ⟨0x40004000, 0x05, 0, 0, 1, 6⟩, ⟨0x40005000, 0x06, 0, 0, 1, 6⟩,
  ⟨0x40006000, 0x07, 0, 0, 1, 2⟩, ⟨0x40007000, 0x08, 0, 0, 1, 0⟩, ⟨0x40008000, 0x09, 0, 0, 1, 8⟩,
  ⟨0x40009000, 0x0A, 0, 0, 1, 3⟩,
  ⟨0x40010000, 0x10, 0, 0, 8, 8⟩, ⟨0x40011000, 0x10, 1, 0, 8, 8⟩, ⟨0x40012000, 0x10, 2, 0, 8, 8⟩,
  ⟨0x40013000, 0x10, 3, 0, 8, 7⟩, ⟨0x40014000, 0x10, 4, 0, 8, 8⟩, ⟨0x40015000, 0x10, 5, 0, 8, 8⟩,
  ⟨0x40016000, 0x10, 6, 0, 8, 8⟩, ⟨0x40017000, 0x10, 7, 0, 8, 8⟩,
  ⟨0x40020000, 0x11, 0, 0, 4, 9⟩, ⟨0x40021000, 0x11, 1, 0, 4, 9⟩, ⟨0x40022000, 0x11, 2, 0, 4, 7⟩,
  ⟨0x40023000, 0x11, 3, 0, 4, 7⟩] ++ [
  ⟨0x40030000, 0x12, 0, 0, 4, 7⟩, ⟨0x40031000, 0x12, 1, 0, 4, 7⟩, ⟨0x40032000, 0x12, 2, 0, 4, 7⟩,
  ⟨0x40033000, 0x12, 3, 0, 4, 7⟩,
  ⟨0x40038000, 0x13, 0, 0, 2, 13⟩, ⟨0x40039000, 0x13, 1, 0, 2, 13⟩,
  ⟨0x40040000, 0x14, 0, 0, 2, 10⟩, ⟨0x40041000, 0x14, 1, 0, 2, 10⟩,
  ⟨0x40050000, 0x20, 0, 0, 6, 11⟩, ⟨0x40051000, 0x20, 1, 1, 6, 11⟩, ⟨0x40052000, 0x20, 2, 2, 6, 11⟩,
  ⟨0x40053000, 0x20, 3, 3, 6, 11⟩, ⟨0x40054000, 0x20, 4, 4, 6, 11⟩, ⟨0x40055000, 0x20, 5, 5, 6, 11⟩,
  ⟨0x40060000, 0x21, 0, 0, 5, 10⟩, ⟨0x40061000, 0x21, 1, 1, 5, 10⟩, ⟨0x40062000, 0x21, 2, 2, 5, 10⟩,
  ⟨0x40063000, 0x21, 3, 3, 5, 10⟩, ⟨0x40064000, 0x21, 4, 4, 5, 10⟩] ++ [
  ⟨0x40068000, 0x22, 0, 0, 1, 4⟩, ⟨0x4006A000, 0x23, 0, 0, 1, 0⟩, ⟨0x4006B000, 0x24, 0, 0, 1, 0⟩,
  ⟨0x40070000, 0x30, 0, 0, 4, 10⟩, ⟨0x40071000, 0x30, 1, 0, 4, 10⟩, ⟨0x40072000, 0x30, 2, 0, 4, 10⟩,
  ⟨0x40073000, 0x30, 3, 0, 4, 10⟩, ⟨0x40074000, 0x31, 0, 0, 1, 10⟩, ⟨0x40075000, 0x32, 0, 0, 1, 10⟩,
  ⟨0x40090000, 0x40, 0, 0, 1, 0⟩]

/-- The page of the map at a base address. -/
def pageAt (base : Nat) : Option Page := pages.find? (fun p => p.base == base)

/-- 22_registers.md under Table 22.6: PAGE_CAP.GROUP is 1 on every page except STU. -/
def pageGroup (base : Nat) : Bool := base != 0x40007000

/-- 22_registers.md under Table 22.6: PAGE_CAP.JOURNALED is 1 on every page except PRC, SFM, HCK, EVR and STU. -/
def pageJournaled (base : Nat) : Bool :=
  !([0x40009000, 0x40008000, 0x40004000, 0x40005000, 0x40007000].contains base)

/-- PAGE_CAP.SHADOWED: the page has RWS registers. -/
def pageShadowed (base : Nat) : Bool := (pageRows base).any (fun r => r.acc == .rws)

/-- PAGE_ID (Table 22.1): block ID, page index, layout version 1, instance. -/
def pageId (p : Page) : Nat := p.block * 0x1000000 + p.index * 0x10000 + 0x100 + p.inst

/-- PAGE_CAP (Table 22.1) at step B1: SHADOWED, JOURNALED, GROUP, SNAP, pages, step letter 1, digit 1, rules. -/
def pageCap (p : Page) : Nat :=
  (if pageShadowed p.base then 1 else 0) + (if pageJournaled p.base then 2 else 0)
    + (if pageGroup p.base then 4 else 0) + 8 + p.pagesInBlock * 0x100 + 0x1000 + 0x10000 + p.rules * 0x100000

/-- Offsets of the common page header (Table 22.1). -/
def hdrCTRL (page : Nat) : Nat := page + 0x008
def hdrSTAT (page : Nat) : Nat := page + 0x00C
def hdrIRQ_RAW (page : Nat) : Nat := page + 0x010
def hdrIRQ_EN (page : Nat) : Nat := page + 0x014
def hdrIRQ_PEND (page : Nat) : Nat := page + 0x018
def hdrIRQ_SET (page : Nat) : Nat := page + 0x01C
def hdrSHADOW_CTRL (page : Nat) : Nat := page + 0x020
def hdrCOMMIT_STAT (page : Nat) : Nat := page + 0x024
def hdrLOCK (page : Nat) : Nat := page + 0x028
def hdrCFG_SEQ (page : Nat) : Nat := page + 0x02C
def hdrSNAP_CTRL (page : Nat) : Nat := page + 0x030
def hdrSNAP_SEQ (page : Nat) : Nat := page + 0x034
def hdrCOMMIT_BEAT (page : Nat) : Nat := page + 0x038
def hdrSNAP_DATA (page k : Nat) : Nat := page + 0x040 + 4 * k

/-- The row of a register key. -/
def keyRow (key : Nat) : Option RegRow := findRow (pageRows (keyPage key)) (keyOff key)

/-- The default gate control list of 17_ethernet_discovery.md: entry 0 the protected window, entry 1 the rest. -/
def gclReset (k : Nat) : Nat := if k = 0 then 0x1D4C0180 else if k = 1 then 0xD6D8007F else 0

/-- A reset rule as a word; `i` is the register's index in its row, `inst` the controller or port. -/
def ResetRule.word (r : ResetRule) (i inst : Nat) : Word :=
  match r with
  | .num v => BitVec.ofNat 32 v
  | .index => BitVec.ofNat 32 i
  | .grp => BitVec.ofNat 32 (0x4000 + 0x100 * i)
  | .gcl => BitVec.ofNat 32 (gclReset i)
  | .macLo => Config.macLo inst
  | .macHi => Config.macHi inst &&& 0xFFFF#32
  | .cfgWord n => Config.implWord n inst

/-- The reset value of a register key: the page header under Table 22.1, a block register under its own table. An
unassigned offset reads 0 (R15). -/
def regReset (key : Nat) : Word :=
  match pageAt (keyPage key) with
  | none => 0
  | some p =>
    if keyOff key = 0 then BitVec.ofNat 32 (pageId p)
    else if keyOff key = 4 then BitVec.ofNat 32 (pageCap p)
    else if keyOff key < 0x100 then 0
    else match keyRow key with
      | none => 0
      | some r => r.reset.word (if r.count = 1 then 0 else (keyOff key - r.off) / r.stride) p.inst

/-- The access type of a register key at an offset of 0x100 or more. -/
def keyAccess (key : Nat) : Option Access := (keyRow key).map (·.acc)

/-- The bits that exist in the register of a key; the others are reserved and read 0 (R15). -/
def keyMask (key : Nat) : Word :=
  match keyRow key with
  | none => 0
  | some r => BitVec.ofNat 32 r.mask

end Sys2Proof.Machine
end

