-- ==== Sys2Proof/Machine/State.lean ====
section
/-! DEFINITION. The state of the block as plain data (log 1): configuration, memory, devices, the queue of waiting commands, the
last bus reply. The default value of every field is its value after reset. Registers are kept by key (Regs.lean): a map lists
only the registers that differ from their reset value. -/
namespace Sys2Proof.Machine

/-- Why a step cannot answer a next state. No meaning of this model raises one: every command of the table has an effect the
spec describes (a refused or malformed access is a next state with the bus error in `State.bus`). The constructor is kept for
the interface; raising it would be safe. -/
inductive Fault where
  | none
  deriving DecidableEq, Repr

/-- Why a command has no meaning. `notModelled` is for an arm of the dispatch that has none yet (none is left); safe. -/
inductive Refusal where
  | notModelled (mnemonic : String)
  deriving DecidableEq, Repr

/-- How the last bus access ended (R14, R15): the model's own output, what the accessing core sees. -/
inductive BusReply where
  | idle                 -- no access yet
  | done (data : Word)   -- the access completed, with the word read (0 for a write)
  | error                -- it ended with a bus error and changed nothing
  deriving DecidableEq, Repr

/-- One occurrence on its way to the recorder (20_recorder_hack.md R475): its event code, the tick and beat of occurrence and
the parameters the owning chapter gives it. -/
structure Occurrence where
  code : Nat
  tick : Nat
  beat : Nat
  params : List Int
  deriving DecidableEq, Repr

/-- What one source's sequence check holds (R31): the last accepted SOURCE_SEQ, and the counters of the check. -/
structure SeqState where
  last : Option Nat := none
  lost : Nat := 0
  dup : Nat := 0
  reorder : Nat := 0
  deriving DecidableEq, Repr

/-- Items in flight (R29 to R35, R320). -/
structure FlowDev where
  /-- items captured in the beat in progress, oldest first; R320; reset none -/
  captured : List Item := []
  /-- items delivered at beat boundaries, in R29 order, with their delivery ticks, not yet taken by a frame close; R320, R191;
  reset none -/
  delivered : List (Nat × Item) := []
  /-- sequence check per source; R31; reset none accepted -/
  seqs : List (Nat × SeqState) := []
  /-- the last item of each source, which a timeout repeats; R393, R423, R520; reset none -/
  lastItem : List (Nat × Option Item) := []
  /-- the last VALID item of each source, which loop feedback reads; R303; reset none -/
  lastValid : List (Nat × Option Item) := []
  /-- the last SOURCE_SEQ given to a captured item, per source; R8; reset 65535, so that the first item takes 0 (DESIGN CHOICE,
  log 15) -/
  nums : List (Nat × Nat) := []
  /-- class 2 drops of the second in progress; R35; reset 0 -/
  drop2Sec : Nat := 0
  /-- class 3 drops of the second in progress; R35; reset 0 -/
  drop3Sec : Nat := 0
  /-- the second (tick div 200 000 000) those counts belong to; R35; reset 0 -/
  dropSecond : Nat := 0
  /-- credits the producer of a source holds from its consumer, none: not limited; R34, Table 1.4; reset none (log 72: no number of the
  spec limits a link) -/
  credits : List (Nat × Option Nat) := []
  /-- class 1 and class 2 items held back at their producer, with the tick they have been held since; R34; reset none -/
  held : List (Nat × Item) := []
  deriving DecidableEq, Repr

/-- An automatic transition whose cause stands and which waits for a beat boundary (R41): its cause code of Table 2.5. -/
structure WantedTransition where
  cause : Nat
  target : Nat
  deriving DecidableEq, Repr

/-- What the mode logic holds beside the SYS registers (02_modes.md). -/
structure ModeDev where
  /-- the SYS.MODE_REQ write held for the next boundary, 32 bits; R40; reset none -/
  request : Option Word := none
  /-- automatic transitions whose causes stand; R41; reset none -/
  wanted : List WantedTransition := []
  /-- the transition of the last boundary waits for the fusion frame that closes at it, for the swap evaluated at it; R41; reset false -/
  openFrame : Bool := false
  openSwap : Bool := false
  /-- the ramp beat of a 6 to 3 transition is in progress; R46; reset false -/
  rampBeat : Bool := false
  /-- every joystick axis has been within the band since the thrust hold began; R50; reset false -/
  holdBandSeen : Bool := false
  /-- the tick from which every joystick axis has been within the neutral band; R49, precondition 8; reset none -/
  neutralSince : Option Nat := none
  deriving DecidableEq, Repr

/-- A pallet scheduled and not yet fired: its instant, class, action, wheel, pallet, axis, argument (R66, R68 to R71). -/
structure DuePallet where
  tick : Nat
  cls : Nat
  action : Nat
  wheel : Nat
  pallet : Nat
  axis : Nat
  /-- PAL_B in effect when the wheel fired (R68) -/
  arg : Word
  /-- moved to the instant of a time step: ahead of every pallet of the new beat (R79) -/
  folded : Bool
  deriving DecidableEq, Repr

/-- One angle axis beside its registers (R62 to R65). -/
structure AxisDev where
  /-- the axis is enabled in the escapement; R62; reset false -/
  on : Bool := false
  /-- the next boundary position, 32 bits; R62; reset 0 (DESIGN CHOICE log 3) -/
  nextB : Word := 0
  /-- beats not yet served, in beat order; R62; reset none -/
  pend : List Word := []
  /-- the tick at which a beat was served last, at most one per microsecond; R62; reset none -/
  served : Option Nat := none
  /-- the tick of the last beat (or of the enable); R65; reset 0 -/
  lastBeat : Nat := 0
  /-- the tick at which the axis was judged stalled; R65; reset 0 -/
  stalledAt : Nat := 0
  deriving DecidableEq, Repr

/-- The level of one SYNC output (R75 to R77). -/
structure SyncDev where
  /-- the output is at its active level; R75; reset false -/
  active : Bool := false
  /-- the latest end of the pulse, in cycles of the timebase clock; R75, R76; reset 0 -/
  until_ : Nat := 0
  deriving DecidableEq, Repr

/-- The escapement beside its registers (03_escapement.md). -/
structure EscDev where
  /-- the axis 0 beat number, 48 bits; R60; reset 0 -/
  beat : Nat := 0
  /-- the beat number has been loaded since Self-test exited; R60; reset false -/
  loaded : Bool := false
  /-- a time step has been handled under R78 since the last load, so BEAT_SLIP is live; R60; reset false -/
  slipLive : Bool := false
  /-- pallets scheduled and not yet fired, in issue order; R66, R71; reset none -/
  due : List DuePallet := []
  /-- the tick at which the last pallet was issued, one pallet per tick; R71; reset none -/
  issued : Option Nat := none
  /-- the tick of the last axis 0 beat boundary; R59; reset 0 -/
  boundary : Nat := 0
  /-- the four angle axes, by axis - 1; R62; reset AxisDev -/
  axes : List (Nat × AxisDev) := []
  /-- angle beats skipped in the second in progress; R62; reset 0 -/
  ovrSec : Nat := 0
  /-- the axes concerned, bit axis - 1; R62; reset 0 -/
  ovrAxes : Nat := 0
  /-- the 16 SYNC outputs; R75; reset SyncDev -/
  syncs : List (Nat × SyncDev) := []
  /-- trigger edges a wheel has fired, newest first (wheel, tick); R171; reset none -/
  trigs : List (Nat × Nat) := []
  deriving DecidableEq, Repr

/-- One time source of Table 4.1 beside the registers (R90 to R100). -/
structure SourceDev where
  /-- consecutive good evaluations (PPS_IN: labelled edges); R90; reset 0 -/
  good : Nat := 0
  /-- consecutive failing evaluations; R90; reset 0 -/
  bad : Nat := 0
  /-- qualified; R90; reset false -/
  qualified : Bool := false
  /-- declined under R100 until it disqualifies and qualifies again; reset false -/
  excluded : Bool := false
  /-- refused under R97 and neither accepted nor disqualified since; reset false -/
  refused : Bool := false
  /-- the last measured offset, ns, and its reference instant, tick; R91, R92, R98; reset 0 -/
  offset : Int := 0
  refTick : Nat := 0
  /-- the source's uncertainty, ns; R95; reset 0 -/
  unc : Nat := 0
  /-- the last evaluation had an offset of this source; R91; reset false -/
  fresh : Bool := false
  deriving DecidableEq, Repr

/-- The timebase beside its registers (04_timebase.md). -/
structure TbuDev where
  /-- the frequency part f of RATE, in units of 10^-18; R92; reset 0 -/
  f : Int := 0
  /-- the phase correction left, in units of 10^-6 ns, at tick `leftTick`; R92; reset 0 -/
  left : Int := 0
  /-- the tick `left` was set; R92; reset 0 -/
  leftTick : Nat := 0
  /-- no offset has been taken since the source was taken or since a step; R92; reset true -/
  firstOffset : Bool := true
  /-- the four disciplining sources by priority 1 to 4; R90; reset SourceDev -/
  srcs : List (Nat × SourceDev) := []
  /-- EST_ERR at entry to holdover, ns; R95; reset 0 -/
  e0 : Nat := 0
  /-- the announced step, ticks; R99; reset 0 -/
  stepDelta : Int := 0
  /-- the rest of the offset under one tick, ns, slewed after the step; R99; reset 0 -/
  stepRest : Int := 0
  /-- the step instant on the old scale, ticks; R101; reset 0 -/
  stepAt : Nat := 0
  /-- the source the step was accepted for; R102; reset 0 -/
  stepSrc : Nat := 0
  /-- the announced step is the first step of R104; reset false -/
  stepFirst : Bool := false
  /-- REF_IN was recorded lost and has not returned; R89; reset false -/
  refLost : Bool := false
  /-- the two PPS outputs are at their active level; R106; reset false -/
  ppsActive : List (Nat × Bool) := []
  /-- the whole second at which a step omits the pulse; R107; reset none -/
  ppsOmit : Option Nat := none
  /-- the whole second of the last pulse of each PPS output, given or withheld, ticks; R106; reset none -/
  ppsAt : List (Nat × Option Nat) := []
  /-- the source taken last, kept through holdover; R93; reset 5 -/
  lastSrc : Nat := 5
  /-- outputs whose next pulse ends an altered interval, bit out; R107; reset 0 -/
  ppsAltered : Nat := 0
  /-- compare pulse ends per PPS output, tick; R108, R109; reset 0 -/
  cmpEnd : List (Nat × Nat) := []
  /-- units armed with their target already passed, bit c; R109; reset 0 -/
  cmpLate : Nat := 0
  /-- the last PPS_IN edge, tick and sub-tick; R86, R90; reset none -/
  ppsIn : Option (Nat × Nat) := none
  /-- the last PPS_IN edge that a ZDA sentence labelled: its tick, its whole second in TAI, the tick of the label; R90; reset none -/
  ppsLabel : Option (Nat × Nat × Nat) := none
  /-- a new UTC offset (the value of UTC_OFS) that waits for the end of the flagged day; R105; reset none -/
  utcNext : Option Word := none
  /-- timebase clock cycles since the last reset, on which pulse widths are timed; R75, R84; reset 0 -/
  cycles : Nat := 0
  /-- the last ANT_A time solution in TAI: source minus module, ns, its epoch, its uncertainty, ns; R90, R136; reset none -/
  gnss : Option (Int × Nat × Nat) := none
  /-- the selected grandmaster identity; R103; reset 0 -/
  gm : Nat := 0
  deriving DecidableEq, Repr

/-- One antenna input beside its registers (R115 to R117). -/
structure AntDev where
  /-- consecutive 10 ms averages below OPEN_MA; R115; reset 0 -/
  below : Nat := 0
  /-- consecutive 10 ms averages at or above OPEN_MA + 1 and below SHORT_MA; R115; reset 0 -/
  above : Nat := 0
  /-- the bias switch is closed; R116; reset true (BIAS_EN resets to 1) -/
  closed : Bool := true
  deriving DecidableEq, Repr

/-- One tracking channel beside its window registers (R121 to R133, R144 to R148). -/
structure ChanDev where
  /-- a CH_LOOP write waiting for the next integration boundary; R125; reset none -/
  pendLoop : Option Word := none
  /-- a CH_CORR write waiting; R125; reset none -/
  pendCorr : Option Word := none
  /-- ticks from which C/N0 has stayed at or above LOSS_CN0 + HYST, below LOSS_CN0, above CN0_MAX; R131, R132, Table 6.1; reset none -/
  goodSince : Option Nat := none
  lowSince : Option Nat := none
  highSince : Option Nat := none
  /-- ticks at which PULL_IN and LOST were entered; R131, R132; reset 0 -/
  pullTick : Nat := 0
  lostTick : Nat := 0
  /-- code phase (1/64 chip) and Doppler (2^-8 Hz) the channel tracks or searches from, and the tick they hold at; R126, R129, R132; reset
  0 -/
  codePhase : Nat := 0
  doppler : Word := 0
  codeTick : Nat := 0
  /-- pseudorange and carrier phase measured at the last integration, binary64; R134; reset 0 -/
  range : BitVec 64 := 0
  phase : BitVec 64 := 0
  /-- prompt I and Q and noise power of the last 200 ms, newest first, with their ticks; R131, R146; reset none -/
  prompts : List (Nat × Int × Int × Nat) := []
  /-- roving over prompt amplitude of the last second, newest first, with their ticks, binary64; R162; reset none -/
  rove : List (Nat × BitVec 64) := []
  /-- code and carrier rates applied, m/s in binary64, written by the fusion engine; R144; reset 0 -/
  codeRate : BitVec 64 := 0
  carrierRate : BitVec 64 := 0
  /-- rates written for the next boundary; R144; reset none -/
  nextRates : Option (BitVec 64 × BitVec 64) := none
  /-- consecutive beats missed; R144; reset 0 -/
  miss : Nat := 0
  /-- the residual PLL's output, Hz; R145; reset 0 -/
  pllOut : BitVec 64 := 0
  /-- the last code error, chips; the code rate the last frame added, m/s, and the beats it still acts; R145, R146; reset 0 -/
  codeErr : BitVec 64 := 0
  trim : BitVec 64 := 0
  trimBeats : Nat := 0
  /-- lock was lost since the previous epoch; R134; reset false -/
  lostSinceEpoch : Bool := false
  /-- a missed search re-enters the queue one second after this tick; R129; reset none -/
  requeue : Option Nat := none
  /-- the fusion engine keeps serving the channel after it left VECTOR through LOST; R148; reset false -/
  served : Bool := false
  /-- the PLL has engaged since PULL_IN was entered; R131; reset false -/
  pll : Bool := false
  deriving DecidableEq, Repr

/-- One acquisition engine (R129). -/
structure EngineDev where
  /-- the channel searched for; R129; reset none -/
  ch : Option Nat := none
  /-- the search is to be abandoned at its next dwell boundary; R126; reset false -/
  abandon : Bool := false
  /-- the tick at which the search began, and the aid it searches around; R129; reset 0, none -/
  start : Nat := 0
  aid : Option (Nat × Word) := none
  deriving DecidableEq, Repr

/-- The ranging baseband beside its registers. -/
structure RbbDev where
  /-- the three antenna inputs; R115; reset AntDev -/
  ants : List (Nat × AntDev) := []
  /-- engaged notches per path: offset in Hz and level in quarter dB; R118; reset none -/
  notches : List (Nat × List (Int × Nat)) := []
  /-- the channels; R121; reset ChanDev -/
  chans : List (Nat × ChanDev) := []
  /-- the acquisition queue, head first; R129; reset none -/
  queue : List Nat := []
  /-- the two engines; R129; reset idle -/
  engines : List (Nat × EngineDev) := []
  /-- satellites excluded, with the tick at which the exclusion ends; R156; reset none -/
  excluded : List (Sat × Nat) := []
  /-- the instances whose raising condition holds, by key, with the tick since which; Table 6.1; reset none -/
  holds : List (Nat × Option Nat) := []
  /-- consecutive passing evaluations of a flag, by bit; Table 6.1; reset 0 -/
  passes : List (Nat × Nat) := []
  /-- consecutive failing epochs: DOA per baseline, CN0_UNIFORM per antenna, CN0_XBAND per satellite; R158, R160; reset 0 -/
  runs : List (Nat × Nat) := []
  /-- the last tick at which some channel was above CN0_MAX - 3 dB; Table 6.1; reset none -/
  highTick : Option Nat := none
  /-- capture tick of the newest corrections; R140; reset none -/
  corrTick : Option Nat := none
  /-- the corrections have been recorded stale; R140; reset false -/
  corrStale : Bool := false
  /-- the last accepted frame of each RTCM message type; R139; reset none -/
  corrections : List (Nat × List Byte) := []
  /-- reference station and its position, 0.1 mm; R140; reset none -/
  station : Option (Nat × Int × Int × Int) := none
  /-- RTK ambiguities have been reset: the next solution is at best RTK_FLOAT; R140; reset true -/
  rtkFloat : Bool := true
  /-- inter-system offsets, Galileo, BeiDou, GLONASS, NavIC minus GPS: ps and variance (ps^2), and the tick they hold at; R138; reset none
  (then the prior of R138 applies) -/
  isb : List (Nat × Option (BitVec 64 × BitVec 64)) := []
  isbTick : Nat := 0
  /-- inter-frequency biases against the reference signal, m, by signal code × 16 + GLONASS frequency number + 7; R138; reset 0 -/
  ifb : List (Nat × BitVec 64) := []
  /-- the satellites in view at the last epoch; R134, R144; reset none -/
  views : List SatView := []
  /-- the reference attitude of the beat: heading, pitch, roll in rad; R157; reset none -/
  refAtt : Option (BitVec 64 × BitVec 64 × BitVec 64) := none
  /-- the satellites (system × 256 + number) and signals of each fixed baseline; R151; reset none -/
  baseSats : List (Nat × List (Nat × Nat)) := []
  /-- gains of each path over the flag-free epochs since `agcSince`, newest first; R161; reset none -/
  agcHist : List (Nat × List Nat) := []
  agcSince : Option Nat := none
  /-- consecutive fusion frames with no cause against steering; R142; reset 0 -/
  clearFrames : Nat := 0
  /-- steering has been stopped by misses; R144; reset false -/
  missStop : Bool := false
  /-- the TBU frequency estimate of each of the last 60 s, newest first, 10^-18; R159; reset none -/
  freqHist : List Int := []
  /-- the receiver clock drift of the last ANT_A solution, ppb; R159; reset 0 -/
  drift : BitVec 64 := 0
  deriving DecidableEq, Repr

/-- The header fields of a schedule image that the solver uses (R220, Table 9.1). -/
structure Schedule where
  hash : Nat
  kind : Nat
  width : Nat
  nVar : Nat
  nEq : Nat
  nIneq : Nat
  nParam : Nat
  scratch : Nat
  body : Nat
  cycSetup : Nat
  cycIter : Nat
  cycFact : Nat
  cycWb : Nat
  cycYield : Nat
  regP : BitVec 64
  regD : BitVec 64
  /-- the whole image, header and body, as it lies in the schedule store; R213, R224 -/
  image : List Byte
  deriving DecidableEq, Repr

/-- One problem slot beside its registers (R224, R225). -/
structure SlotDev where
  /-- the staged schedule, verified; R224; reset none -/
  staged : Option Schedule := none
  /-- the live schedule; R225; reset none -/
  live : Option Schedule := none
  /-- the image address the live schedule came from; R225; reset 0 -/
  liveAddr : Nat := 0
  deriving DecidableEq, Repr

/-- The phase of a job (R232 to R235, R245). -/
inductive JobPhase where
  | queued | reserved | setup | iterating | suspended | writeBack | held
  deriving DecidableEq, Repr

/-- The residuals, gap and objective of a point, in binary64 (R247 to R250). -/
structure PointVals where
  primal : BitVec 64
  dual : BitVec 64
  gap : BitVec 64
  objective : BitVec 64
  deriving DecidableEq, Repr

/-- An iterate: variables, equality multipliers, inequality multipliers, slacks, in binary64 (Table 9.6). -/
structure Iterate where
  x : List (BitVec 64)
  y : List (BitVec 64)
  z : List (BitVec 64)
  s : List (BitVec 64)
  deriving DecidableEq, Repr

/-- One job in the queue (R227 to R235, R242 to R260): the descriptor, where it stands, and what it has reached. `tag` is the
case or direction of a job of stream 2, `t0` the tick of the estimate a job of stream 1 was built from, `params` its parameter words (formed by
the law, or read during setup), `cur` the iterate in the scratch of its clusters. -/
structure Job where
  stream : Nat
  seq : Nat
  slot : Nat
  level : Nat
  width : Nat
  warm : Bool
  irq : Bool
  maxIter : Nat
  dlTick : Option Nat
  dlBeat : Option Nat
  tolPrimal : BitVec 64
  tolDual : BitVec 64
  tolGap : BitVec 64
  paramAddr : Nat
  warmAddr : Nat
  resultAddr : Nat
  phase : JobPhase
  clusters : List Nat
  yield : Bool
  deadlineHit : Bool
  k : Nat
  x0 : Option (PointVals × Iterate)
  best : Option (Nat × PointVals × BitVec 64 × Iterate)
  code : Nat
  warmUsed : Bool
  warmRejected : Bool
  flags : Nat
  cycles : Nat
  suspensions : Nat
  setupTick : Nat
  heldSince : Nat
  tag : Nat
  t0 : Nat
  dataPoison : Bool
  params : List (BitVec 64)
  cur : Iterate
  deriving DecidableEq, Repr

/-- The solver beside its registers. -/
structure SlvDev where
  /-- the eight problem slots; R224; reset empty -/
  slots : List (Nat × SlotDev) := []
  /-- the jobs in the queue, in acceptance order; R230; reset none -/
  jobs : List Job := []
  /-- iteration counts and codes the active journaled, (stream, seq, count, code, beat of the block); R260; reset none -/
  journal : List (Nat × Nat × Nat × Nat × Nat) := []
  deriving DecidableEq, Repr

/-- One loop slot beside its window registers (R305, R313). -/
structure LoopDev where
  /-- derivative state D, FOUT; R305; reset 0 -/
  d : Int := 0
  /-- set-points of the last two samples and the last derivative error; R305; reset 0 -/
  r1 : Int := 0
  r2 : Int := 0
  ed1 : Int := 0
  /-- outputs of the last 33 samples, newest first; R313; reset none -/
  hist : List Int := []
  /-- the prediction yh; R313; reset 0 -/
  yh : Int := 0
  /-- the slot enters RUN at its next sample (R306): its first sample takes ed1, r1, r2, yh from the signals; reset true -/
  fresh : Bool := true
  /-- the last feedback taken; R303; reset 0 -/
  y : Int := 0
  /-- the direction in which the last output was clamped, 1 up, -1 down, 0 none; R305, R308; reset 0 -/
  usat : Int := 0
  /-- the DST 3 output is commanded on; R310; reset false -/
  sent : Bool := false
  /-- a V_LIMIT run is recorded; R309; reset false -/
  vrun : Bool := false
  /-- the set-point held while in HOLD; R313; reset 0 -/
  rHeld : Int := 0
  deriving DecidableEq, Repr

/-- The loop engine beside its registers. -/
structure LpeDev where
  /-- the 64 slots; R305; reset LoopDev -/
  slots : List (Nat × LoopDev) := []
  deriving DecidableEq, Repr

/-- Traffic that waits for the pair link (R317): precedence (0 first), what it is (a record type of Table 14.2, 0xB1 a heartbeat, 0x20 the
state image, 0x21 a hack message), bytes left, and the tick since which it waits. -/
structure LinkTx where
  rank : Nat
  kind : Nat
  bytes : Nat
  since : Nat
  deriving DecidableEq, Repr

/-- A link frame that awaits its acknowledgement (R316): what it carries, its bytes, the tick it was sent last, its retransmissions. -/
structure LinkFlight where
  kind : Nat
  bytes : Nat
  tick : Nat
  retries : Nat
  deriving DecidableEq, Repr

/-- A swap journaled and waiting for its boundary (R347). -/
structure SwapDev where
  atBeat : Nat
  station : Nat
  deriving DecidableEq, Repr

/-- The pair controller and the field die's crown latch beside the PRC registers. -/
structure PrcDev where
  /-- the crown latch in the field die; R336; reset false -/
  latch : Bool := false
  /-- a seize is being received on SEIZE_IN; R336; reset false -/
  seizeIn : Bool := false
  /-- SEIZE_OUT is high: 0 low, 1 seize pulse, 2 test pulse; R343, R339; reset 0 -/
  seizeOut : Nat := 0
  /-- tick at which the latch was last set; R338; reset 0 -/
  latchTick : Nat := 0
  /-- FAIL is set in every heartbeat; R345; reset false -/
  fail : Bool := false
  /-- the last valid heartbeat, with its tick and beat; R318; reset none -/
  lastHb : Option (Heartbeat × Nat × Nat) := none
  /-- beat of the last crown heartbeat; R319; reset none -/
  crownHbBeat : Option Nat := none
  /-- a crown heartbeat of the beat in progress has arrived; R319; reset false -/
  crownHbSeen : Bool := false
  /-- a takeover trigger stands; R342, R343; reset false -/
  trigger : Bool := false
  /-- beats for which CROWN_IN has read low since a crown heartbeat; R342; reset 0 -/
  crownLowBeats : Nat := 0
  /-- beat of the last seize; R343; reset 0 -/
  seizeBeat : Nat := 0
  /-- the beat of the mode change by takeover, whose RELEASE pallets all fire once; R343; reset none -/
  takeoverBeat : Option Nat := none
  /-- a test pulse has been received and is reported in the next heartbeat; R334; reset false -/
  testSeen : Bool := false
  /-- consecutive own test pulses not reported; R339; reset 0 -/
  unreported : Nat := 0
  /-- a test pulse awaits its report; R339; reset false -/
  testSent : Bool := false
  /-- beats for which CROWN_IN disagreed with the partner's CROWNED bit; R339; reset 0 -/
  wireBeats : Nat := 0
  /-- the epoch in MRAM; R340; reset 0 (never held) -/
  epoch : Word := 0
  /-- journal records of the beat in progress, in order of capture; R321; reset none -/
  block : List JournalRecord := []
  /-- the last block sealed and sent, its records as they left; R321; reset none -/
  sealed : Option JournalBlock := none
  /-- heartbeats and link frames sent, newest first, at most 4 kept; R316, R318; reset none -/
  lastSent : Option Heartbeat := none
  /-- digest chain: own digests by beat, newest first, 16 kept; R325; reset none -/
  digests : List (Nat × BitVec 128) := []
  /-- the beat of the last digest compared; R327; reset 0 -/
  compared : Nat := 0
  /-- the captures of the last 16 beats, newest first; R324; reset none -/
  captures : List (Nat × List Item) := []
  /-- a beat has been orphaned since the last crown heartbeat; R324; reset false -/
  orphaned : Bool := false
  /-- last beat run from the journal; R324; reset 0 -/
  journalBeat : Nat := 0
  /-- next beat at or after which a transfer request may be sent (tick); R328; reset 0 -/
  askAfter : Nat := 0
  /-- a CONFIG mismatch waits for a commit before the next request; R328; reset false -/
  askBlocked : Bool := false
  /-- a transfer is requested or in progress, with its start tick; R329; reset none -/
  transferTick : Option Nat := none
  /-- the image loaded and not yet adopted; R330; reset none -/
  image : Option StateImage := none
  /-- journal blocks buffered by a joiner, oldest first; R330; reset none -/
  buffer : List JournalBlock := []
  /-- the joiner is level with the active; R330; reset false -/
  level : Bool := false
  /-- the image this active took last at a boundary s, and sends; R329; reset none -/
  sending : Option StateImage := none
  /-- a pending swap; R347; reset none -/
  swap : Option SwapDev := none
  /-- this former active is declared in step at the first digest match after h; R347; reset none -/
  swapMatch : Option Nat := none
  /-- the standby of a granted swap sets its latch once CROWN_IN reads low; R347; reset false -/
  swapTake : Bool := false
  /-- time from the partner is selected (SRC 6) and its clockClass; R332; reset none -/
  partnerTime : Option (Int × Nat) := none
  /-- a time-transfer frame came since the last evaluation; R91, R332; reset false -/
  partnerFresh : Bool := false
  /-- traffic that waits for the link; R317; reset none -/
  linkQueue : List LinkTx := []
  /-- frames sent and not yet acknowledged, the one sent longest ago first; R316; reset none -/
  flight : List LinkFlight := []
  /-- ticks from which the line is free, of the last frame sent, of the last valid frame received; R316; reset 0 -/
  lineFree : Nat := 0
  txTick : Nat := 0
  linkTick : Nat := 0
  /-- idle frames and acknowledgements sent since reset; R316; reset 0 -/
  idleSent : Nat := 0
  acksSent : Nat := 0
  /-- ticks of the last seize, of the last own test pulse, of the last change of CROWN_IN; R343, R339, R336; reset 0 -/
  seizeTick : Nat := 0
  testTick : Nat := 0
  crownInTick : Nat := 0
  /-- the beat of the last missed heartbeat; R319; reset none -/
  missBeat : Option Nat := none
  /-- beats spent in catch-up; R330; reset 0 -/
  catchBeats : Nat := 0
  deriving DecidableEq, Repr

/-- One instance of the safety functions (R355). -/
structure InstDev where
  nbad : Nat := 0
  ngood : Nat := 0
  viol : Bool := false
  deriving DecidableEq, Repr

/-- One Osiraka connection beside its registers (R368, R371). -/
structure ConnDev where
  /-- sequence number sent or accepted, 16 bits; R368, R371; reset 0 -/
  seq : Nat := 0
  /-- consecutive good PDUs in SAFE; R371; reset 0 -/
  good : Nat := 0
  /-- PDUs lost; R371; reset 0 -/
  lost : Nat := 0
  /-- tick of expiry while the time expectation runs; R371; reset none -/
  expire : Option Nat := none
  /-- tick of the last heartbeat outside the slot; R369; reset none -/
  hbTick : Option Nat := none
  /-- the payload was written after the previous release; R368; reset false -/
  written : Bool := false
  /-- a RESYNC is due; R368; reset true (due at a device reset) -/
  resync : Bool := true
  deriving DecidableEq, Repr

/-- The safety monitor beside its registers. -/
structure SfmDev where
  /-- cycles of its own 1 ms oscillator since reset; R353; reset 0 -/
  cycle : Nat := 0
  /-- the 24 instances: 0 to 7 SLS, 8 to 15 SLP, 16 to 23 SDI; R355; reset InstDev -/
  insts : List (Nat × InstDev) := []
  /-- counts of the last 8 cycles, newest first, of the encoders (0 to 3) and of the field inputs (4 to 19); R355; reset none -/
  hist : List (Nat × List Int) := []
  /-- cycle of the last off-pulse test per output; R362; reset none -/
  opCycle : List (Nat × Nat) := []
  /-- a commit of SFM has been applied since reset; R352; reset false -/
  committed : Bool := false
  /-- the program in SFM SRAM, bytes other than 0 by offset; R534; reset none -/
  program : List (Nat × Byte) := []
  /-- cycles for which an output commanded off has read high, per output; R352; reset 0 -/
  stuck : List (Nat × Nat) := []
  /-- trip requests of loop slots for the next cycle; R357; reset false -/
  loopTrip : Bool := false
  /-- cycle of the arm that no trailing edge has used, and of the last rise of the reset input; R363; reset none -/
  armCycle : Option Nat := none
  riseCycle : Option Nat := none
  /-- the connections; R364; reset ConnDev -/
  conns : List (Nat × ConnDev) := []
  /-- PDUs that left, newest first: port, bytes; R367, R370; reset none -/
  sent : List (Nat × List Byte) := []
  deriving DecidableEq, Repr

/-- One frame in a CAN transmit FIFO (R384 to R391). `kind`: 0 released slot, 1 firmware, 2 reference, 3 follow-up,
4 Nymyen announcement. -/
structure CanEntry where
  kind : Nat
  tag : Nat
  id : Nat
  xtd : Bool
  fdf : Bool
  brs : Bool
  cls : Nat
  data : List Byte
  attempts : Nat := 0
  sof : Bool := false
  cancelLate : Bool := false
  stamp : Nat := 0
  sub : Nat := 0
  deriving DecidableEq, Repr

/-- One priority slot beside PRIp_STAT (R387, R391). -/
structure PriDev where
  /-- the payload held for the frame; R387; reset none -/
  data : List Byte := []
  /-- its start of frame has been sent; R391; reset false -/
  sof : Bool := false
  deriving DecidableEq, Repr

/-- One CAN controller beside its registers (16_can.md). -/
structure CanDev where
  /-- the transmit FIFO, head first, at most 32; R382, R385; reset empty -/
  fifo : List CanEntry := []
  /-- the tag of the next queued firmware frame; R386; reset 0 -/
  nextTag : Nat := 0
  /-- what is on the bus: 0 nothing, 1 the FIFO head, 2 + p priority slot p; R382; reset 0 -/
  onBus : Nat := 0
  /-- bus-off recovery is under way; R381; reset false -/
  recover : Bool := false
  /-- the four priority slots; R387; reset PriDev -/
  pri : List (Nat × PriDev) := []
  /-- clashes per identifier key: the ticks of the last ones; R398; reset none -/
  clashes : List (Nat × List Nat) := []
  /-- stopped identifiers, by key; R398; reset none -/
  stopped : List Nat := []
  /-- loads of the last 50 windows of 10 ms, newest first; R399; reset none -/
  loads : List Nat := []
  /-- highest load of the second in progress and its second; Table 16.6 STAT2; reset 0 -/
  peak : Nat := 0
  peakSecond : Nat := 0
  /-- frames of the FIFO failed in the second in progress, and the second; R389; reset 0 -/
  failSec : Nat := 0
  failSecond : Nat := 0
  /-- the reference sequence number; R396; reset 0 -/
  refSeq : Nat := 0
  /-- client: sequence, tick and sub-tick of the reference waiting for its follow-up; R396; reset none -/
  refWait : Option (Nat × Nat × Nat) := none
  /-- client: the last offset formed, the stamp of its reference frame and the tick of its follow-up; R396; reset none -/
  refLast : Option (Int × Nat × Nat) := none
  /-- tick of the last reference frame queued (master), of the last matched pair or REF_LOST (client); R396; reset none -/
  refTick : Option Nat := none
  /-- tick of NO_LISTENER or of the last attempt under it, of the last bus load window; R397, R399; reset 0, none -/
  nlTick : Nat := 0
  loadTick : Option Nat := none
  /-- the transmit event ring, entry and its 16 bytes; R390; reset none -/
  txe : List (Nat × List Byte) := []
  /-- entries of the transmit event ring that firmware has not read, 0 to 32; R390; reset 0 -/
  txeUsed : Nat := 0
  /-- the receive ring, entry and its 96 bytes; R394; reset none -/
  rx : List (Nat × List Byte) := []
  deriving DecidableEq, Repr

/-- The addresses of a UDP frame that a slot, a stop or Nymyen builds (R413, R414, R424): MAC addresses, VLAN ID (0 untagged), IPv4 addresses,
ports. -/
structure UdpHead where
  srcMac : Nat
  dstMac : Nat
  vid : Nat
  srcIp : Nat
  dstIp : Nat
  srcPort : Nat
  dstPort : Nat
  deriving DecidableEq, Repr

/-- A frame in an egress queue (R407 to R415): its length on the wire and its payload. -/
structure EthTx where
  cls : Nat
  len : Nat
  payload : List Byte
  /-- a PTP event message in transit (R421): its correctionField and its ingress stamp in 0.625 ns; none for every other frame -/
  transit : Option (BitVec 64 × Int) := none
  /-- the addresses of a frame the module builds; R413 -/
  udp : Option UdpHead := none
  deriving DecidableEq, Repr

/-- One Ethernet port beside its registers. -/
structure EthDev where
  /-- egress queues 0 to 7, oldest first; R407; reset empty -/
  queues : List (Nat × List EthTx) := []
  /-- the gate entry open now ends at this tick; R408; reset 0 -/
  gateEnd : Nat := 0
  /-- the line is free from this tick; R409; reset 0 -/
  lineFree : Nat := 0
  /-- the last frame that left, and its PCP; R407, R409; reset none, 0 -/
  sent : Option EthTx := none
  sentPcp : Nat := 0
  /-- ticks of the last Sync (0), Announce (1) and Pdelay_Req (2) queued; R419; reset none -/
  ptpTicks : List (Nat × Nat) := []
  /-- the last PTP event frame as the port rewrote it, and its frame check sequence; R113; reset none -/
  egress : Option (PtpEgress × BitVec 32) := none
  /-- ingress stamp (tick, sub-tick) of the last Pdelay_Req, egress stamp of the last one sent; R113, R421; reset none -/
  pdelayIn : Option (Nat × Nat) := none
  pdelayOut : Option (Nat × Nat) := none
  /-- the PTP port: the announced grandmaster and its rank in the BMCA (smaller is better), tick of the last Announce; R419;
  reset none -/
  announce : Option (BitVec 64 × Nat) := none
  announceTick : Nat := 0
  /-- Sync offsets (ns, ingress tick) of the second in progress, newest first; R91; reset none -/
  syncs : List (Int × Nat) := []
  /-- tick of the last accepted Sync, and its interval in ticks; Table 4.1; reset none -/
  lastSync : Option (Nat × Nat) := none
  /-- the path delay measured, ns; R421; reset 0 -/
  pathDelay : Int := 0
  /-- tokens of the port's default meter, bits, and the tick they stood at; R418; reset full at first use -/
  defTokens : Option (Nat × Nat) := none
  deriving DecidableEq, Repr

/-- One stream filter beside its registers (R417). -/
structure FilterDev where
  /-- tokens in bits and the tick they stood at; R417; reset full at first use -/
  tokens : Option (Nat × Nat) := none
  /-- drops in the second in progress, and the second; Table 17.6; reset 0 -/
  dropSec : Nat := 0
  dropSecond : Nat := 0
  deriving DecidableEq, Repr

/-- The switch beside its registers. -/
structure SwDev where
  /-- the four ports; R404; reset EthDev -/
  ports : List (Nat × EthDev) := []
  /-- the learning address table: MAC address, (port, tick last seen), at most 4096; R405; reset empty -/
  table : List (Nat × Nat × Nat) := []
  /-- the stream filters; R417; reset FilterDev -/
  filters : List (Nat × FilterDev) := []
  /-- frames handed to port 4, and the last of them; R405; reset 0, none -/
  hostCount : Nat := 0
  hostLast : Option EthFrame := none
  /-- PTP frames sent since reset: Sync, Announce, Pdelay_Req; R419; reset 0 -/
  ptpSent : Nat × Nat × Nat := (0, 0, 0)
  deriving DecidableEq, Repr

/-- One roster entry (R425). -/
structure NymEntry where
  /-- 0 EMPTY, 1 QUARANTINED, 2 ACCEPTED, 3 GONE; R425; reset 0 -/
  st : Nat := 0
  uid : BitVec 64 := 0
  role : Nat := 0
  slot : Nat := 0
  node : Nat := 0
  /-- tick last heard, sources heard (bits 0 to 5 CAN, 8 to 11 ETH), and ticks last heard per CAN controller; R425, R427 -/
  last : Nat := 0
  heard : Nat := 0
  canLast : List (Nat × Nat) := []
  /-- bound expected entry and quarantine reason; R425; reset none, 0 -/
  bind : Option Nat := none
  reason : Nat := 0
  deriving DecidableEq, Repr

/-- Nymyen beside its registers. -/
structure NymDev where
  /-- the roster of 256 entries; R425; reset EMPTY -/
  roster : List (Nat × NymEntry) := []
  /-- own announcement sequence; Table 17.3; reset 0 -/
  seq : Nat := 0
  /-- tick of the last self-heard record; R425; reset none -/
  selfTick : Option Nat := none
  /-- tick at which an address clash was last heard; R427; reset 0 -/
  clashTick : Nat := 0
  /-- the last own UDP announcement; R424; reset none -/
  sent : List Byte := []
  deriving DecidableEq, Repr

/-- One field output in the field die (R434 to R444). -/
structure OutDev where
  /-- the command in force in the field die; R434; reset false -/
  cmd : Bool := false
  /-- the switch is driven on; R434; reset false -/
  driven : Bool := false
  /-- the last turn-off was fast; R436; reset true (reset turns off fast) -/
  fast : Bool := true
  /-- tick of the last turn-off; R442; reset 0 -/
  offTick : Nat := 0
  /-- tick of the last fast demagnetisation; R442; reset 0 -/
  fastTick : Nat := 0
  /-- latches OVERLOAD, OVERTEMP, FAULT_OFF; R443, R444; reset false -/
  overload : Bool := false
  overtempLatch : Bool := false
  faultOff : Bool := false
  /-- the junction is above its limit and has not cooled; R444; reset false -/
  hot : Bool := false
  /-- ticks of the overtemperature events of the last 10 s, newest first; R444; reset none -/
  hotTicks : List Nat := []
  /-- tick of the last diagnostic off-pulse; R442; reset none -/
  diagTick : Option Nat := none
  /-- the junction or load condition behind OPEN_LOAD, SHORT_TO_SUPPLY, CROSS_FED, REVERSE, XF_PARTIAL, and the partner;
  R442, R444; reset false, 0 -/
  openLoad : Bool := false
  short : Bool := false
  crossFed : Bool := false
  reverse : Bool := false
  xfPartial : Bool := false
  partner : Nat := 0
  /-- an off-pulse ended without the output sensed low: the output is suspect; R442; reset false -/
  suspect : Bool := false
  deriving DecidableEq, Repr

/-- One group supply (R440, R441). -/
structure SupDev where
  /-- consecutive 10 microsecond samples below 15.5 V; R440; reset 0 -/
  low : Nat := 0
  /-- tick from which the supply has been at or above 17.0 V; R440; reset none -/
  goodSince : Option Nat := none
  /-- the supply has been out of UV since power-up; R441; reset false -/
  risen : Bool := false
  /-- SAG_OFF is latched for the safety outputs of the group, for its other outputs; R441; reset false -/
  sagSafety : Bool := false
  sagOther : Bool := false
  deriving DecidableEq, Repr

/-- One field input beside its registers (R446 to R450). -/
structure InDev where
  /-- counter of the filter, and the filtered state before TP_FAULT forces it; R446, R450; reset 0 -/
  cnt : Nat := 0
  filt : Bool := false
  /-- tick of the last sample taken, of the last sample instant; R446, R447; reset none -/
  sampled : Option Nat := none
  instant : Option Nat := none
  /-- consecutive wrong check samples at pulses of its own source, of other sources; consecutive correct ones; R450; reset 0 -/
  ownWrong : Nat := 0
  crossWrong : Nat := 0
  right : Nat := 0
  deriving DecidableEq, Repr

/-- One analogue input beside its registers (R451). -/
structure AinDev where
  /-- conversions in the moving average, newest first, signed counts; R451; reset none -/
  window : List Int := []
  /-- the shunt is open; R451; reset false -/
  shuntOpen : Bool := false
  /-- tick of the last completed conversion, and at which the shunt opened; R451; reset none, 0 -/
  converted : Option Nat := none
  shuntTick : Nat := 0
  deriving DecidableEq, Repr

/-- One analogue output in the field die (R452). -/
structure AoutDev where
  /-- the code in force in the field die; R452; reset 0 -/
  code : Int := 0
  /-- the output is held at its zero value; R452; reset true -/
  zero : Bool := true
  deriving DecidableEq, Repr

/-- One encoder channel beside its registers (R453 to R455). -/
structure EncDev where
  /-- an SSI read is under way, started at this tick; the start of the last read; R453; reset none -/
  reading : Option Nat := none
  started : Option Nat := none
  /-- tick of the last completed SSI read; R455; reset none -/
  readTick : Option Nat := none
  /-- the last raw SSI value; R453; reset none (no read since enable) -/
  raw : Option Int := none
  /-- positions with their ticks over SPD_WIN, newest first; R454; reset none -/
  track : List (Nat × Int) := []
  /-- tick of the last fault; R455; reset 0 -/
  faultTick : Nat := 0
  /-- the last SSI read failed its frame check; R356; reset false -/
  badRead : Bool := false
  /-- a source fault of R356 stands; reset false -/
  source : Bool := false
  deriving DecidableEq, Repr

/-- The field die and the isolated link beside the FIO, ANU and ENC registers (18_field_io.md). -/
structure FieldDev where
  /-- the 16 outputs; R434; reset OutDev -/
  outs : List (Nat × OutDev) := []
  /-- the two group supplies; R440; reset SupDev -/
  sups : List (Nat × SupDev) := []
  /-- the 16 inputs; R446; reset InDev -/
  ins : List (Nat × InDev) := []
  /-- the 8 analogue inputs; R451; reset AinDev -/
  ains : List (Nat × AinDev) := []
  /-- the 4 analogue outputs; R452; reset AoutDev -/
  aouts : List (Nat × AoutDev) := []
  /-- the 4 encoder channels; R453; reset EncDev -/
  encs : List (Nat × EncDev) := []
  /-- commands of the main die waiting for the next link slot: outputs (mask, values), analogue codes; R432; reset none -/
  pendMask : Nat := 0
  pendBits : Nat := 0
  pendAout : List (Nat × Int) := []
  /-- commands of the safety monitor for the safety outputs in force in the field die, bits 12 to 15, and those that wait for the next link
  slot; R432, R434, R361; reset 0, none -/
  sfmBits : Nat := 0
  pendSfm : Option Nat := none
  /-- stop inputs make the field die remove the safety outputs by itself; R354; reset false -/
  stopRemoved : Bool := false
  /-- consecutive slots without a valid message; R432; reset 0 -/
  badSlots : Nat := 0
  /-- outputs are held off by a watchdog expiry or the logic-silent safe state; R432, R438; reset false -/
  silent : Bool := false
  /-- tick of the last feed of the field watchdog, or of its arming; R438; reset 0 -/
  fedTick : Nat := 0
  /-- the last test pulses, newest first: source and tick of its start; R450; reset none -/
  pulses : List (Nat × Nat) := []
  deriving DecidableEq, Repr

/-- The memory integrity block beside its registers (19_memory_integrity.md). -/
structure MemDev where
  /-- the region and word index the scrubber reads next; R467; reset 0, 0 -/
  region : Nat := 0
  word : Nat := 0
  /-- tick at which the lap under way began; R468; reset 0 -/
  lapStart : Nat := 0
  /-- the alarm of the lap under way has been raised; R468; reset false -/
  lapRaised : Bool := false
  /-- words the scrubber corrected in the lap under way, and in the last lap of each region; R469; reset none -/
  corrected : List Nat := []
  before : List (Nat × List Nat) := []
  deriving DecidableEq, Repr

/-- An admitted record on its way to the ring (R473 to R476). -/
structure EvrRecord where
  seq : Nat
  bytes : List Byte
  deriving DecidableEq, Repr

/-- The recorder beside its registers (20_recorder_hack.md). -/
structure EvrDev where
  /-- admitted records waiting for their commit, at most 64; R476; reset none -/
  intake : List EvrRecord := []
  /-- granules of the record at the head of the queue already written; R476; reset 0 -/
  written : Nat := 0
  /-- the 256-entry holding FIFO, oldest first; R481, R561; reset none -/
  holding : List EvrRecord := []
  /-- records in the ring, oldest first: SEQ, first granule, granules; R472, R477; reset as found in MRAM -/
  index : List (Nat × Nat × Nat) := []
  /-- tokens taken from a bucket (its BURST less the tokens it holds), by table entry, 1024 the default; R480; reset 0 -/
  spent : List (Nat × Nat) := []
  /-- occurrences suppressed since the last admitted record, by code; R480; reset 0 -/
  supp : List (Nat × Nat) := []
  /-- occurrences lost since the queue last had room; R476; reset 0 -/
  lost : Nat := 0
  /-- drops from the holding FIFO in the freeze under way; R481; reset 0 -/
  dropped : Nat := 0
  /-- tick at which the freeze began; R481; reset 0 -/
  freezeTick : Nat := 0
  /-- the nonce shown and its tick; R482; reset none -/
  nonce : Option (BitVec 64 × Nat) := none
  /-- tick of the third wrong answer; R482; reset 0 -/
  lockTick : Nat := 0
  /-- tick of the last granule commit; R476; reset none -/
  granTick : Option Nat := none
  /-- tick at which every bucket was last filled, and of the last token each got back; R480; reset 0, none -/
  filled : Nat := 0
  returned : List (Nat × Nat) := []
  deriving DecidableEq, Repr

/-- The hack unit beside its registers (R483 to R487). -/
structure HckDev where
  /-- the pending hack: trigger tick and sources; R484, R485; reset none -/
  pending : Option (Nat × Nat) := none
  /-- trigger tick of the last hack; R485; reset none -/
  lastTrigger : Option Nat := none
  /-- hack messages sent to the partner, newest first, at most 4 kept; R487; reset none -/
  sent : List Word := []
  deriving DecidableEq, Repr

/-- The self-test unit and the key registers beside the STU registers (21_self_test.md). -/
structure StuDev where
  /-- the full run under way: KIND and the tick it began; R489; reset none -/
  run : Option (Nat × Nat) := none
  /-- a run has ended and Configure is entered at the next boundary; R498; reset false -/
  ended : Bool := false
  /-- the next run was requested from Configure (KIND 1); R489; reset false -/
  requested : Bool := false
  /-- the cluster test under way: cluster; R499; reset none -/
  cluster : Option Nat := none
  /-- the secrets of the run under way failed their read-back; R491; reset false -/
  secretsBad : Bool := false
  /-- the key registers hold keys: recorder maintenance key, pair-link session keys, boot-verification state; R491, R534;
  reset false -/
  keys : Bool := false
  deriving DecidableEq, Repr

/-- One UART beside its registers (R520). -/
structure UartDev where
  /-- bytes queued for transmission, oldest first, with the tick at which the last stop bit of each ends; Table 22.9; reset none -/
  tx : List (Byte × Nat) := []
  /-- characters received that end no message yet; R520; reset none -/
  rx : List RxByte := []
  deriving DecidableEq, Repr

/-- Power, reset, boot and JTAG beside the SYS and PWR registers (23_power_clocks_boot.md). `prefB`, `trial*`, `booted*`,
`confirmed*` lie in MRAM, `minSecVer` and `secSteps` in OTP; the calendar lies in the VBAT domain. -/
structure PowerDev where
  /-- 0 held in reset (brown-out, Shelf or Dormant), 1 boot phase 1, 2 full self-test run or waiting for it, 3 phase 2 due,
  4 running, 5 recovery; R533, R534, R538; reset 1 -/
  phase : Nat := 1
  /-- the module is in Shelf (1) or Dormant (2), waiting to wake; R527; reset 0 -/
  asleep : Nat := 0
  /-- tick of the last feed of the system watchdog, or of its start; R531; reset 0 -/
  wdtTick : Nat := 0
  /-- the preferred image is B; R536; A after manufacture -/
  prefB : Bool := false
  /-- image on trial, started once on trial, confirmed, bit 0 A and bit 1 B; R536, R537; as manufactured 0 -/
  trial : BitVec 2 := 0
  booted : BitVec 2 := 0
  confirmed : BitVec 2 := 0
  /-- MIN_SEC_VER and the steps it has taken; R537; as manufactured 0 -/
  minSecVer : Nat := 0
  secSteps : Nat := 0
  /-- SEC_VER of the running image; R537; reset 0 -/
  runSecVer : Nat := 0
  /-- calendar: TAI seconds, 15-bit fraction, valid, and the tick it was last brought forward; R526; as shipped 0, not valid -/
  calSec : Nat := 0
  calFrac : Nat := 0
  calTick : Nat := 0
  /-- failures of JTAG authentication; R539; reset 0 -/
  jtagFails : Nat := 0
  /-- the nonce read from the JTAG AUTH register and not yet answered; R539; reset none -/
  jtagNonce : Option (BitVec 64) := none
  /-- OTP: SHA-256 of the public key of each image key slot, the slots revoked, SHA-256 of the key of each debug slot, each hash as the
  little-endian number of its bytes; R536, R539; as manufactured 0, none (log 102) -/
  keyHashes : List (BitVec 256) := []
  revoked : BitVec 4 := 0
  debugHashes : List (BitVec 256) := []
  /-- tick at which boot phase 2 began; R534; reset 0 -/
  phase2Tick : Nat := 0
  /-- the address at which the application cores were released; none while they are held; R534; reset none -/
  entry : Option Nat := none
  /-- an authenticated debugger holds a core, the safety monitor; R540; reset false -/
  coreHalted : Bool := false
  monitorHalted : Bool := false
  /-- EXTEST drives the boundary scan; R540; reset false -/
  extest : Bool := false
  /-- reset causes that coincide, bit code - 1; R530; reset 0 -/
  seen : Nat := 0
  /-- the bank VIO1, VIO2 was outside both ranges at power-up; R522; reset 0 -/
  vioOff : BitVec 2 := 0
  deriving DecidableEq, Repr

/-- Register values by key, ascending; a key that is not listed holds its reset value (R503). -/
abbrev RegMap := List (Nat × Word)

/-- A group commit that waits for its time (R511): AT 1 or 2 and the wheel. -/
structure GroupPending where
  at_ : Nat
  wheel : Nat
  deriving DecidableEq, Repr

/-- The configuration: what commits change. -/
structure Cfg where
  /-- live values of the RWS registers; R503; reset: every register at its reset value -/
  live : RegMap := []
  /-- shadow values of the RWS registers; R503; reset: equal to the live values -/
  shadow : RegMap := []
  /-- commit registers of the page headers (STAT, SHADOW_CTRL, COMMIT_STAT, CFG_SEQ, COMMIT_BEAT) and SYS.GLOBAL_STAT; R500;
  reset 0 -/
  hdr : RegMap := []
  /-- COMMIT_STAT before the pending commit was requested, by page; R506; reset none -/
  prior : RegMap := []
  /-- AT and WHEEL (AT + 256 WHEEL) of the pending commits, by page; R505, R516; reset none -/
  due : RegMap := []
  /-- the pending group commit; R511; reset none -/
  group : Option GroupPending := none
  /-- ESC register values in effect (live values take effect at the next beat boundary); R68; reset: at reset value -/
  esc : RegMap := []
  /-- staged contents of the image blocks: law parameter record, loop table, code table, model block, by address; R478, R314,
  log 9; reset 0 -/
  staged : List (Nat × Byte) := []
  /-- a signed configuration image has been committed, and it carries a passed class check; R27, R42 precondition 2, log 9;
  reset false -/
  imageOk : Bool := false
  classChecked : Bool := false
  /-- the neutral band of the image in percent of full scale, 1 to 20; R49, log 33; reset 5 -/
  neutralPct : Nat := 5
  deriving DecidableEq, Repr

/-- The memories (Table 22.13) with their integrity state (19_memory_integrity.md). -/
structure Store where
  /-- data bytes, canonical (Memory.wf); R459; reset nothing listed -/
  mem : List Host.Cell := []
  /-- error patterns standing in words: word address, then (byte of 40, XOR); R458, R470; reset none -/
  errs : List (Nat × List (Nat × Byte)) := []
  /-- words held as stored poison; R463; reset none -/
  poison : List Nat := []
  /-- words whose uncorrectable error has been counted at its detection; R465; reset none -/
  counted : List Nat := []
  deriving DecidableEq, Repr

/-- The units of the block: everything that is neither configuration nor memory. -/
structure Dev where
  /-- the tick count, 200 MHz TAI ticks; R84, R88; reset 0 (log 12: at boot the calendar loads it) -/
  tick : Nat := 0
  /-- the part of a tick accumulated, 2^-32 ns, below 5 ns; R84; reset 0 -/
  acc : Nat := 0
  /-- every register that is not RWS, and IRQ and SNAP registers of the page headers; R14, R500; reset: its reset value -/
  regs : RegMap := []
  /-- occurrences on their way to the recorder, in order of occurrence; R475; reset none -/
  occ : List Occurrence := []
  /-- once-per-second limits: event code and instance, with the second of the last record; R35 and others; reset none -/
  limits : List (Nat × Nat) := []
  /-- the next free value's number; the model's own field (log 5); reset 0 (DESIGN CHOICE log 5) -/
  free : Nat := 0
  flow : FlowDev := {}
  modes : ModeDev := {}
  esc : EscDev := {}
  tbu : TbuDev := {}
  rbb : RbbDev := {}
  fus : FusDev := {}
  slv : SlvDev := {}
  law : LawDev := {}
  lpe : LpeDev := {}
  prc : PrcDev := {}
  sfm : SfmDev := {}
  /-- the six CAN controllers; R379; reset CanDev -/
  can : List (Nat × CanDev) := []
  sw : SwDev := {}
  nym : NymDev := {}
  field : FieldDev := {}
  memd : MemDev := {}
  evr : EvrDev := {}
  hck : HckDev := {}
  stu : StuDev := {}
  /-- the twelve UARTs; R520; reset UartDev -/
  uarts : List (Nat × UartDev) := []
  pwr : PowerDev := {}
  deriving DecidableEq, Repr

/-- The state of the block. -/
structure State where
  /-- commands waiting, first in, first out; the model's own queue (log 2); reset empty -/
  pending : List Instr
  /-- how the last bus access ended; R14, R15; reset idle -/
  bus : BusReply
  cfg : Cfg
  store : Store
  dev : Dev
  deriving DecidableEq, Repr

/-- The block right after reset (R503, R530, R533): every register at its reset value, every unit in the state its chapter
gives after a device reset, boot phase 1 under way, no command waiting. -/
def State.reset : State :=
  { pending := [], bus := .idle, cfg := {}, store := {}, dev := {} }

end Sys2Proof.Machine
end

