-- ==== Sys2Proof/Machine/Ops.lean ====
section
/-! DEFINITION. The named operations every meaning uses: fields of words, reads and writes of registers by key, counters,
interrupt bits, recorded occurrences, captured items, journal records. -/
namespace Sys2Proof.Machine

/-! ### Fields of words -/

/-- Field of `n` bits from bit `lo` (R13). -/
def fld (w : Word) (lo n : Nat) : Nat := w.toNat / 2 ^ lo % 2 ^ n

/-- Bit `i` of a word. -/
def bit (w : Word) (i : Nat) : Bool := w.getLsbD i

/-- `v` of `n` bits read as two's complement. -/
def signed (n v : Nat) : Int := if v < 2 ^ (n - 1) then (v : Int) else (v : Int) - 2 ^ n

/-- `i` as `n` bits of two's complement. -/
def unsigned (n : Nat) (i : Int) : Nat := (i % (2 ^ n : Int)).toNat

/-- Signed field of `n` bits from bit `lo`. -/
def sfld (w : Word) (lo n : Nat) : Int := signed n (fld w lo n)

/-- The word with `v` (its low `n` bits) in the field of `n` bits from bit `lo`. -/
def setFld (w : Word) (lo n v : Nat) : Word :=
  BitVec.ofNat 32 (w.toNat - fld w lo n * 2 ^ lo + v % 2 ^ n * 2 ^ lo)

/-- The word with bit `i` set to `b`. -/
def setBit (w : Word) (i : Nat) (b : Bool) : Word := setFld w i 1 b.toNat

/-- `v` clamped to `n` unsigned bits. -/
def satU (n v : Nat) : Nat := min v (2 ^ n - 1)

/-- `i` clamped to the range of `n` bits of two's complement. -/
def satS (n : Nat) (i : Int) : Int := max (-(2 ^ (n - 1) : Int)) (min i (2 ^ (n - 1) - 1))

/-- A word from a number. -/
def wd (v : Nat) : Word := BitVec.ofNat 32 v

/-- `n` bytes of a number, little-endian (R8). -/
def leBytes (n v : Nat) : List Byte :=
  match n with
  | 0 => []
  | k + 1 => BitVec.ofNat 8 v :: leBytes k (v / 256)

/-- The number a little-endian byte list spells (R8). -/
def leNat (l : List Byte) : Nat :=
  match l with
  | [] => 0
  | b :: t => b.toNat + 256 * leNat t

/-- Bytes [i, i + n) of a list, as a little-endian number. -/
def leAt (l : List Byte) (i n : Nat) : Nat := leNat ((l.drop i).take n)

/-! ### Time: ticks of 5 ns (R16, R84) -/

/-- Ticks in a microsecond, a millisecond (one beat) and a second. -/
def ticksPerUs : Nat := 200
def ticksPerMs : Nat := 200000
def ticksPerSec : Nat := 200000000

/-- The second the module is in. -/
def Dev.second (d : Dev) : Nat := d.tick / ticksPerSec

/-! ### Registers by key (Regs.lean) -/

/-- Live value of an RWS register. -/
def Cfg.w (c : Cfg) (k : Nat) : Word := Assoc.get (regReset k) c.live k
def Cfg.f (c : Cfg) (k lo n : Nat) : Nat := fld (c.w k) lo n
def Cfg.s (c : Cfg) (k lo n : Nat) : Int := sfld (c.w k) lo n
def Cfg.b (c : Cfg) (k i : Nat) : Bool := bit (c.w k) i
/-- ESC value in effect (R68). -/
def Cfg.e (c : Cfg) (k : Nat) : Word := Assoc.get (regReset k) c.esc k
/-- Shadow value of an RWS register. -/
def Cfg.sh (c : Cfg) (k : Nat) : Word := Assoc.get (regReset k) c.shadow k
/-- A commit register of a page header, or GLOBAL_STAT. -/
def Cfg.h (c : Cfg) (k : Nat) : Word := Assoc.get 0 c.hdr k
def Cfg.putH (c : Cfg) (k : Nat) (v : Word) : Cfg := { c with hdr := Assoc.set 0 c.hdr k v }
/-- The shadow with `v` at `k`. -/
def Cfg.putShadow (c : Cfg) (k : Nat) (v : Word) : Cfg := { c with shadow := Assoc.set (regReset k) c.shadow k v }

/-- Current value of a register that is not shadowed. -/
def Dev.w (d : Dev) (k : Nat) : Word := Assoc.get (regReset k) d.regs k
def Dev.f (d : Dev) (k lo n : Nat) : Nat := fld (d.w k) lo n
def Dev.s (d : Dev) (k lo n : Nat) : Int := sfld (d.w k) lo n
def Dev.b (d : Dev) (k i : Nat) : Bool := bit (d.w k) i
/-- The register at `k` takes `v`. -/
def Dev.put (d : Dev) (k : Nat) (v : Word) : Dev := { d with regs := Assoc.set (regReset k) d.regs k v }
def Dev.putN (d : Dev) (k v : Nat) : Dev := d.put k (wd v)
def Dev.putI (d : Dev) (k : Nat) (i : Int) : Dev := d.put k (wd (unsigned 32 i))
/-- A field, or a bit, of the register at `k` takes a value. -/
def Dev.putF (d : Dev) (k lo n v : Nat) : Dev := d.put k (setFld (d.w k) lo n v)
def Dev.putB (d : Dev) (k i : Nat) (b : Bool) : Dev := d.put k (setBit (d.w k) i b)
/-- A field counts up by `m` and saturates. -/
def Dev.sat (d : Dev) (k lo n m : Nat) : Dev := d.putF k lo n (satU n (d.f k lo n + m))
/-- A field counts up by `m` and wraps. -/
def Dev.wrap (d : Dev) (k lo n m : Nat) : Dev := d.putF k lo n (d.f k lo n + m)
/-- A 32-bit counter counts up by one and saturates (R35). -/
def Dev.bump (d : Dev) (k : Nat) : Dev := d.sat k 0 32 1
/-- Two registers hold a 64-bit value. -/
def Dev.put64 (d : Dev) (lo hi v : Nat) : Dev := (d.putN lo v).putN hi (v / 2 ^ 32)

/-! ### The scale on the timebase clock (R84) -/

/-- What one cycle of the 200 MHz clock adds to the scale, in 2^-32 ns (R84). -/
def cycleStep (d : Dev) : Int := 5 * 2 ^ 32 + d.s TBU.RATE 0 32

/-- Cycles of the timebase clock, from now, at which the scale reaches tick `t` (negative for the past). -/
def cyclesTo (d : Dev) (t : Nat) : Int := (((t : Int) - d.tick) * (5 * 2 ^ 32) - d.acc + cycleStep d - 1) / cycleStep d

/-- The module's time carried forward to an instant held in state (log 8), the timebase clock with it; never back. -/
def Dev.advanceTo (d : Dev) (t : Nat) : Dev :=
  let n := (cyclesTo d t).toNat
  let rest : Int := d.acc + n * cycleStep d - (max d.tick t - d.tick : Nat) * (5 * 2 ^ 32)
  { d with tick := max d.tick t, acc := (rest % (5 * 2 ^ 32)).toNat, tbu := { d.tbu with cycles := d.tbu.cycles + n } }

/-- The module's time carried forward to a cycle of the timebase clock (R75). -/
def Dev.advanceCycles (d : Dev) (n : Nat) : Dev :=
  let sum : Int := d.acc + ((n - d.tbu.cycles : Nat) : Int) * cycleStep d
  { d with tick := d.tick + (sum / (5 * 2 ^ 32)).toNat, acc := (sum % (5 * 2 ^ 32)).toNat, tbu := { d.tbu with cycles := max d.tbu.cycles n } }

/-! ### Interrupts, occurrences and once-per-second limits -/

/-- An interrupt source sets its bit of IRQ_RAW whatever IRQ_EN holds (R501). -/
def Dev.irq (d : Dev) (page i : Nat) : Dev := d.putB (hdrIRQ_RAW page) i true

/-- The axis 0 beat number of an occurrence; all ones before it is loaded (Table 20.1, R60). -/
def Dev.eventBeat (d : Dev) : Nat := if d.esc.loaded then d.esc.beat else 2 ^ 48 - 1

/-- An event is recorded: it waits for the recorder (R475). -/
def Dev.event (d : Dev) (code : Nat) (params : List Int := []) : Dev :=
  { d with occ := d.occ ++ [⟨code, d.tick, d.eventBeat, params⟩] }

/-- An event that its block limits to once a second, per instance. -/
def Dev.eventSec (d : Dev) (code inst : Nat) (params : List Int := []) : Dev :=
  let key := code * 65536 + inst
  if Assoc.get 0 d.limits key = d.second + 1 then d
  else { d.event code params with limits := Assoc.set 0 d.limits key (d.second + 1) }

/-- The next free value (log 5): the state's counter names it. -/
def Dev.takeFree (d : Dev) : Word × Dev := (Config.freeWord d.free, { d with free := d.free + 1 })

/-! ### Time sources -/

/-- A time source disqualifies (Table 4.1, R90, R100). -/
def Dev.disqualify (d : Dev) (n : Nat) : Dev :=
  let x : SourceDev := Assoc.get {} d.tbu.srcs n
  { d with tbu := { d.tbu with srcs := Assoc.set {} d.tbu.srcs n { x with qualified := false, excluded := false, refused := false, good := 0 } } }

/-! ### Mode, crown, pair -/

/-- The current mode (R37). -/
def Dev.mode (d : Dev) : Nat := d.f SYS.MODE 0 4

/-- The mode whose law, loops and consequence analysis run: the mirrored mode in Standby and in a joiner's mirror (R42, R330),
mode 6 in the ramp beat (R46), else the current mode. -/
def Dev.runMode (d : Dev) : Nat :=
  if d.modes.rampBeat then 6
  else if (d.mode = 4 || d.mode = 5) && d.b SYS.MODE 12 then d.f SYS.MODE 8 4
  else d.mode

/-- The crown latch of the field die (R336). -/
def Dev.crown (d : Dev) : Bool := d.prc.latch

/-- The pair function is enabled (PRC.CFG.EN). -/
def Cfg.pair (c : Cfg) : Bool := c.b PRC.CFG 0

/-- The crown latch is set, or the pair function is disabled (R388, R396, R420). -/
def crownOrSingle (c : Cfg) (d : Dev) : Bool := d.crown || !c.pair

/-- An active module with a partner present journals its beat (R321). -/
def journaling (c : Cfg) (d : Dev) : Bool := c.pair && d.crown && d.b PRC.STAT 2

/-- LINK of PRC.STAT: 0 down, 1 training, 2 up (Table 14.8). -/
def linkState (d : Dev) : Nat := d.f PRC.STAT 0 2

/-- The traffic of highest precedence that waits, the oldest of it first (R317). -/
def linkFirst (q : List LinkTx) : Option LinkTx :=
  q.foldl (fun b x => match b with
    | none => some x
    | some y => if x.rank < y.rank then some x else b) none

/-- Ticks a frame of `n` bytes and its CRC-32C take on the link: 12.12 Gbit/s, 60.6 bit a tick (R316). -/
def linkTicks (n : Nat) : Nat := (80 * (n + 4) + 605) / 606

/-- Frames leave in the order of R317 while the line is free: each carries at most 2048 bytes (R316). -/
def linkPump (fuel : Nat) (d : Dev) : Dev :=
  match fuel with
  | 0 => d
  | k + 1 =>
    match linkFirst d.prc.linkQueue with
    | none => d
    | some x =>
      let start := max d.prc.lineFree x.since
      if d.tick < start then d
      else
        let n := min x.bytes 2048
        let q := d.prc.linkQueue.erase x
        linkPump k { d with prc := { d.prc with
          linkQueue := if x.bytes ≤ n then q else { x with bytes := x.bytes - n } :: q
          flight := d.prc.flight ++ [⟨x.kind, n, start, 0⟩], lineFree := start + linkTicks n, txTick := start } }

/-- What waits for the link goes as far as the line is free. -/
def Dev.linkGo (d : Dev) : Dev := linkPump (d.prc.linkQueue.foldl (fun n x => n + x.bytes / 2048 + 1) 0) d

/-- Traffic for the partner joins what waits for the link (R317); nothing waits for a link that is not up (log 96). -/
def Dev.linkPush (d : Dev) (rank kind bytes : Nat) : Dev :=
  if linkState d != 2 then d
  else
    let d := d.linkGo
    ({ d with prc := { d.prc with linkQueue := d.prc.linkQueue ++ [⟨rank, kind, bytes, d.tick⟩] } } : Dev).linkGo

/-- Traffic class of a journal record (R22, R321): an item's own; no other record is of class 0 (Table 1.3). -/
def recordClass (r : JournalRecord) : Nat :=
  match r with
  | .item i => i.cls
  | .loopFb _ _ _ | .jobEnd _ _ _ _ _ => 1
  | .control _ _ _ _ _ | .transition _ _ | .time _ _ => 2
  | .hack _ _ => 3

/-- Type of a journal record (Table 14.2). -/
def recordType (r : JournalRecord) : Nat :=
  match r with
  | .item _ => 0x10
  | .loopFb _ _ _ => 0x11
  | .control _ _ _ _ _ => 0x12
  | .jobEnd _ _ _ _ _ => 0x13
  | .transition _ _ => 0x14
  | .time _ _ => 0x15
  | .hack _ _ => 0x16

/-- Bytes of a journal record: its 4-byte header and its body (R321, Table 14.2; widths the table leaves open: log 96). -/
def recordSize (r : JournalRecord) : Nat :=
  4 + match r with
  | .item i => 16 + i.payload.length
  | .loopFb _ _ vals => 9 + 4 * vals.length
  | .control _ _ _ _ es => 10 + 8 * es.length
  | .jobEnd _ _ _ _ _ => 16
  | .transition _ _ => 2
  | .time _ _ => 16
  | .hack _ _ => 5

/-- A journal record leaves for the partner: class 0 ahead of the others (R317). -/
def Dev.sendRecord (d : Dev) (r : JournalRecord) : Dev :=
  d.linkPush (if recordClass r = 0 then 0 else 1) (recordType r) (recordSize r)

/-- One record enters the block of the beat in progress (R321). A LOOP_FB record leaves at once, for the standby waits for it (R322); the
others leave with the block. -/
def Dev.journal (d : Dev) (c : Cfg) (r : JournalRecord) : Dev :=
  if !journaling c d then d
  else
    let d := { d with prc := { d.prc with block := d.prc.block ++ [r] } }
    match r with
    | .loopFb _ _ _ => d.sendRecord r
    | _ => d

/-! ### Items (R8 to R11, R29 to R35, R428) -/

/-- Quality bits of Table 0.5. -/
def qSTALE : Nat := 2
def qRANGE : Nat := 4
def qSUSPECT : Nat := 8
def qOUT_OF_STEP : Nat := 16
def qSUBSTITUTED : Nat := 32
def qSPLIT : Nat := 64
def qPOISON : Nat := 128
/-- Not VALID for a reason that has no quality bit (R372). -/
def qINVALID : Nat := 256

/-- The quality byte of the given bits: VALID only when STALE, RANGE, OUT_OF_STEP and POISON are clear (R11). -/
def quality (bits : Nat) : Byte :=
  BitVec.ofNat 8 ((bits &&& 254) + (if bits &&& (qSTALE + qRANGE + qOUT_OF_STEP + qPOISON + qINVALID) = 0 then 1 else 0))

/-- An item may be used: VALID is set (R11). -/
def itemValid (i : Item) : Bool := i.quality.getLsbD 0

/-- The item order of R29. -/
def itemBefore (a b : Item) : Bool := a.tick < b.tick || (a.tick = b.tick && a.source ≤ b.source)

/-- Items put in the order of R29; items that compare equal keep their order. -/
def insertItem (i : Item) (l : List Item) : List Item :=
  match l with
  | [] => [i]
  | j :: t => if itemBefore j i then j :: insertItem i t else i :: j :: t

def sortItems (l : List Item) : List Item := l.foldl (fun acc i => insertItem i acc) []

/-- The signed difference of sequence numbers of `w` bits (R30). -/
def seqDiff (w new last : Nat) : Int := signed w (unsigned w ((new : Int) - (last : Int)))

/-- The check of a new SOURCE_SEQ against the last accepted one (R31): accepted or discarded, with the counters. -/
def SeqState.check (st : SeqState) (new : Nat) : Bool × SeqState :=
  match st.last with
  | none => (true, { st with last := some new })
  | some l =>
    let df := seqDiff 16 new l
    if df = 1 then (true, { st with last := some new })
    else if 1 < df then (true, { st with last := some new, lost := st.lost + (df - 1).toNat })
    else if df = 0 then (false, { st with dup := st.dup + 1 })
    else (false, { st with reorder := st.reorder + 1 })

/-- A roster entry with this unique ID is ACCEPTED (R425, R426). -/
def accepted (d : Dev) (uid : Nat) : Bool :=
  d.nym.roster.any (fun p => p.2.st = 2 && p.2.uid.toNat = uid)

/-- The serial a track is bound to; 0 for none (TRK_SERIAL). -/
def trackSerial (c : Cfg) (t : Nat) : Nat := (c.w (FUS.TRK_SERIAL_LO t)).toNat + (c.w (FUS.TRK_SERIAL_HI t)).toNat * 2 ^ 32

/-- The enabled tracks: those whose live TRK_CFG has a CLASS (R164, Table 7.8). -/
def enabledTracks (c : Cfg) : List Nat :=
  c.live.filterMap (fun p =>
    if p.1 % 2 ^ 32 = FUS.TRK_CFG 0 && fld p.2 0 4 != 0 then some (p.1 / 2 ^ 32) else none)

/-- The gate of R428: the source belongs to a track bound to a serial that is not ACCEPTED. -/
def gatedSource (c : Cfg) (d : Dev) (src : Nat) : Bool :=
  (enabledTracks c).any (fun t => c.f (FUS.TRK_CFG t) 16 16 = src && trackSerial c t != 0 && !accepted d (trackSerial c t))

/-- A dropped class 2 or class 3 item is counted, the first of each second recorded with the second's count (R35). DESIGN CHOICE
(log 73): each class has its own first drop of a second, and the event carries that class's count of the second so far. -/
def Dev.classDrop (d : Dev) (cls n : Nat) : Dev :=
  if n = 0 || (cls != 2 && cls != 3) then d else
  let fl := if d.flow.dropSecond = d.second then d.flow
    else { d.flow with dropSecond := d.second, drop2Sec := 0, drop3Sec := 0 }
  let fl := if cls = 2 then { fl with drop2Sec := fl.drop2Sec + n } else { fl with drop3Sec := fl.drop3Sec + n }
  let d := { d with flow := fl }
  let d := if cls = 2 then d.sat SYS.DROP2_CNT 0 32 n else d.sat SYS.DROP3_CNT 0 32 n
  d.eventSec 0x0111 cls [cls, if cls = 2 then fl.drop2Sec else fl.drop3Sec]

/-- The credit of a source's link that one item of class `cls` takes (R34, Table 1.4): 2 credits of a limited link are kept for class 0.
none: no credit is left for the class. -/
def takeCredit (credits : Option Nat) (cls : Nat) : Option (Option Nat) :=
  match credits with
  | none => some none
  | some n => if (if cls = 0 then 0 else 2) < n then some (some (n - 1)) else none

/-- An item leaves its producer (R29, R321): it waits for the boundary that delivers it, and an active module journals it. -/
def Dev.sendItem (d : Dev) (c : Cfg) (i : Item) : Dev :=
  let fl := { d.flow with
    captured := d.flow.captured ++ [i]
    lastItem := Assoc.set none d.flow.lastItem i.source (some i)
    lastValid := if itemValid i then Assoc.set none d.flow.lastValid i.source (some i) else d.flow.lastValid }
  Dev.journal { d with flow := fl } c (.item i)

/-- The track that takes a source's items is OUT_OF_STEP (R10, R174): TRK_STAT state 5. -/
def sourceOutOfStep (c : Cfg) (d : Dev) (src : Nat) : Bool :=
  (enabledTracks c).any (fun t => c.f (FUS.TRK_CFG t) 16 16 = src && d.f (FUS.TRK_STAT t) 0 3 = 5)

/-- An input becomes an item (R8, R22, R29, R34, R428): it takes the next SOURCE_SEQ of its source. It leaves at once while the link has a
credit for its class; else class 1 and 2 are held back and class 3 is dropped. The gate of R428 acts on a module's own captures, in Standby
only on those an orphaned beat runs (R428). DESIGN CHOICE (log 74): a base plus a number above 65535 wraps. -/
def Dev.capture (d : Dev) (c : Cfg) (src cls tick bits : Nat) (payload : List Byte) : Dev :=
  let src := src % 65536
  if gatedSource c d src && d.mode != 4 then d.bump NYM.GATED_CNT
  else
    let n := (Assoc.get 65535 d.flow.nums src + 1) % 65536
    let bits := if sourceOutOfStep c d src then bits ||| qOUT_OF_STEP else bits
    let i : Item := ⟨tick, src, n, quality bits, payload.take 255, cls⟩
    let d := { d with flow := { d.flow with nums := Assoc.set 65535 d.flow.nums src n } }
    match takeCredit (Assoc.get none d.flow.credits src) cls with
    | some left => ({ d with flow := { d.flow with credits := Assoc.set none d.flow.credits src left } } : Dev).sendItem c i
    | none =>
      if cls = 1 || cls = 2 then { d with flow := { d.flow with held := d.flow.held ++ [(d.tick, i)] } }
      else d.classDrop cls 1

/-- The items of a source return their credits as the boundary delivers them, and items held back for want of one follow (R34). -/
def Dev.returnCredits (d : Dev) (c : Cfg) (items : List Item) : Dev :=
  let back := items.foldl (fun cr i => Assoc.set none cr i.source ((Assoc.get none cr i.source).map (· + 1))) d.flow.credits
  let held := d.flow.held
  held.foldl (fun (d : Dev) p =>
    match takeCredit (Assoc.get none d.flow.credits p.2.source) p.2.cls with
    | some left => ({ d with flow := { d.flow with credits := Assoc.set none d.flow.credits p.2.source left } } : Dev).sendItem c p.2
    | none => { d with flow := { d.flow with held := d.flow.held ++ [p] } }) { d with flow := { d.flow with credits := back, held := [] } }

/-- A source's timeout repeats its last item with STALE (R393, R423, R520); without an item there is nothing to repeat. DESIGN CHOICE
(log 75): the repeated item carries the tick of the timeout as its CAPTURE_TICK. -/
def Dev.repeatStale (d : Dev) (c : Cfg) (src : Nat) : Dev :=
  match Assoc.get none d.flow.lastItem src with
  | none => d
  | some i => d.capture c src i.cls d.tick (i.quality.toNat ||| qSTALE) i.payload

/-- The last item of a source was found OUT_OF_STEP (R10, R11, R174): every consumer sees the bit, and it is no VALID item. -/
def Dev.markOutOfStep (d : Dev) (src : Nat) : Dev :=
  let q (i : Item) : Item := { i with quality := quality (i.quality.toNat ||| qOUT_OF_STEP) }
  { d with flow := { d.flow with
    lastItem := Assoc.set none d.flow.lastItem src ((Assoc.get none d.flow.lastItem src).map q)
    lastValid := Assoc.set none d.flow.lastValid src none } }

/-! ### Outcomes -/

/-- What a command answers. -/
abbrev Out := Host.Outcome State Fault Refusal

/-- A command whose effect is on the units alone. -/
def onDev (s : State) (f : Cfg → Dev → Dev) : Out := .next { s with dev := f s.cfg s.dev }

/-- A register write of the units: it also completes the bus access (R14). -/
def onWrite (s : State) (f : Cfg → Dev → Dev) : Out := .next { s with dev := f s.cfg s.dev, bus := .done 0 }

/-- A write that R502 or R323 ignores: it counts in STAT.IGNORED of its page, raises WRITE_IGNORED and is recorded at most once a
second. -/
def State.ignoreWrite (s : State) (page : Nat) : State :=
  let st := s.cfg.h (hdrSTAT page)
  let n := satU 8 (fld st 8 8 + 1)
  { s with
    cfg := s.cfg.putH (hdrSTAT page) (setFld st 8 8 n)
    dev := (s.dev.irq page 26).eventSec 0x0103 ((page - 0x40000000) / 4096) [page, n] }

/-- The page takes no shadow writes: it is LOCKED, or a commit of it is PENDING (R502). -/
def Cfg.closed (c : Cfg) (page : Nat) : Bool := bit (c.h (hdrSTAT page)) 3 || bit (c.h (hdrSTAT page)) 2

/-- A write to the bits `mask` of an RWS register (R502, R503): to the shadow, with DIRTY, or ignored. -/
def State.writeShadow (s : State) (key : Nat) (mask value : Word) : State :=
  let page := keyPage key
  if s.cfg.closed page then s.ignoreWrite page
  else
    let c := s.cfg.putShadow key ((s.cfg.sh key &&& ~~~mask) ||| (value &&& mask))
    { s with cfg := c.putH (hdrSTAT page) (setBit (c.h (hdrSTAT page)) 0 true) }

/-- A write by the module's own firmware to a journaled register (R323): ignored in Standby; an accepted one is journaled with its
station and element (Table 14.2). -/
def onControl (s : State) (addr : Nat) (value : Word) (station element : Nat) (f : Cfg → Dev → Bool × Dev) : Out :=
  if s.dev.mode = 4 then .next { s.ignoreWrite (keyPage addr) with bus := .done 0 }
  else onWrite s fun c d =>
    if (f c d).1 then
      (f c d).2.journal c (.control (wd addr) value (BitVec.ofNat 8 station) (BitVec.ofNat 8 element) [])
    else (f c d).2

/-- A register read that the units answer with a word. -/
def onRead (s : State) (f : Cfg → Dev → Word × Dev) : Out :=
  .next { s with dev := (f s.cfg s.dev).2, bus := .done (f s.cfg s.dev).1 }

/-- A command whose effect is on the units and the memories. -/
def onMem (s : State) (f : Cfg → Store → Dev → Store × Dev) : Out :=
  .next { s with store := (f s.cfg s.store s.dev).1, dev := (f s.cfg s.store s.dev).2 }

/-- A register write whose effect reaches the memories. -/
def onMemWrite (s : State) (f : Cfg → Store → Dev → Store × Dev) : Out :=
  .next { s with store := (f s.cfg s.store s.dev).1, dev := (f s.cfg s.store s.dev).2, bus := .done 0 }

/-- The access ends with a bus error and changes nothing (R14, R15). -/
def busError (s : State) : Out := .next { s with bus := .error }

end Sys2Proof.Machine
end

