-- ==== Sys2Proof/Machine/Memory.lean ====
section
/-! DEFINITION. The memories and their integrity (19_memory_integrity.md; address map 22_registers.md R560): bytes, narrow
writes, demand reads, the scrubber, error injection. A word is 32 data bytes at an aligned address; the store keeps its data,
the error pattern that stands in its 40 bytes, and its stored-poison mark. -/
namespace Sys2Proof.Machine

/-! ### Bytes -/

/-- Data byte at an address; an unlisted byte reads 0 (R459; log 14 for regions 2 and 3). -/
def Store.byte (st : Store) (a : Nat) : Byte := Assoc.get 0 st.mem a

/-- `n` bytes from an address. -/
def Store.bytes (st : Store) (a n : Nat) : List Byte :=
  match n with
  | 0 => []
  | k + 1 => st.byte a :: Store.bytes st (a + 1) k

/-- A memory with bytes written from an address on. -/
def memWrite (m : List Host.Cell) (a : Nat) (bs : List Byte) : List Host.Cell :=
  match bs with
  | [] => m
  | b :: t => memWrite (Assoc.set 0 m a b) (a + 1) t

/-- Bytes written by the block itself, whole words: what stood in the words is replaced (R461). -/
def Store.write (st : Store) (a : Nat) (bs : List Byte) : Store :=
  let touched := fun w => decide (a / 32 * 32 ≤ w) && decide (w < a + bs.length)
  { mem := memWrite st.mem a bs
    errs := st.errs.filter (fun p => !touched p.1)
    poison := st.poison.filter (fun w => !touched w)
    counted := st.counted.filter (fun w => !touched w) }

/-- The canonical form of a memory: addresses strictly rising, no entry equal to what an unlisted address reads as. -/
def Memory.wf (m : List Host.Cell) : Bool := Assoc.wf (fun _ => (0 : Byte)) m

/-! ### Regions (Table 19.1, Table 22.13) -/

/-- Fusion state memory with the estimate record at its head, and the model block (Table 22.14, R209). -/
def estBase : Nat := 0x21000000
def modelBase : Nat := 0x21002000

/-- First address and number of words of region `r`. Region 0 is three runs: general SRAM, fusion state memory, and the
solver's scratch and schedule store, which lie outside the map and take addresses of the model's own (log 16). -/
def regionWords (r : Nat) : Nat :=
  if r = 0 then 655360 else if r = 1 then 107374182 else if r = 2 then 419430 else 3355443

/-- The address of word `i` of region `r`. -/
def wordAddr (r i : Nat) : Nat :=
  if r = 0 then
    if i < 65536 then 0x20000000 + 32 * i
    else if i < 262144 then 0x21000000 + 32 * (i - 65536)
    else 0x30000000 + 32 * (i - 262144)
  else if r = 1 then 0x80000000 + 32 * i
  else if r = 2 then 0x50000000 + 32 * i
  else 0x10000000 + 32 * i

/-- The region an address lies in (Table 22.13), if any. -/
def regionOf (a : Nat) : Option Nat :=
  if (0x20000000 ≤ a ∧ a < 0x20200000) ∨ (0x21000000 ≤ a ∧ a < 0x21600000) then some 0
  else if 0x80000000 ≤ a ∧ a < 0x14CCCCCC0 then some 1
  else if 0x50000000 ≤ a ∧ a < 0x50CCCCC0 then some 2
  else if 0x10000000 ≤ a ∧ a < 0x16666660 then some 3
  else none

/-- Slot payload buffers that firmware may write: 64 bytes for each of 36 CAN slots and 32 Ethernet slots (R385, R413), as
PORT × 256 + SLOT and the offset in the buffer. -/
def slotBufferOf (a : Nat) : Option (Nat × Nat) :=
  let can := (List.range 6).findSome? (fun n =>
    let base := (Config.implWord 2 n).toNat
    if base ≤ a ∧ a < base + 64 * 36 then some (n * 256 + (a - base) / 64, (a - base) % 64) else none)
  match can with
  | some x => some x
  | none => (List.range 4).findSome? (fun n =>
      let base := (Config.implWord 5 n).toNat
      if base ≤ a ∧ a < base + 64 * 32 then some ((8 + n) * 256 + (a - base) / 64, (a - base) % 64) else none)

/-- Addresses a core may write (R560): the firmware area of general SRAM and LPDDR4X; the slot buffers of the system area. -/
def coreWritable (a : Nat) : Bool :=
  decide (0x20000000 ≤ a ∧ a < 0x201C0000) || decide (0x80000000 ≤ a ∧ a < 0x14CCCCCC0) || (slotBufferOf a).isSome

/-- Addresses a core may read (R560): every region but the retained state in MRAM. -/
def coreReadable (a : Nat) : Bool := (regionOf a).isSome && !decide (0x50C00000 ≤ a ∧ a < 0x50CCCCC0)

/-! ### Errors (R458 to R466) -/

/-- The error pattern that stands in a word. -/
def Store.err (st : Store) (w : Nat) : List (Nat × Byte) := Assoc.get [] st.errs w

/-- One more upset of one byte: the patterns add (XOR); a byte back at its value is no error. -/
def addErr (l : List (Nat × Byte)) (i : Nat) (x : Byte) : List (Nat × Byte) :=
  Assoc.set 0 l i (Assoc.get 0 l i ^^^ x)

/-- Upsets of a word since its last access. -/
def Store.upset (st : Store) (w : Nat) (u : List (Fin 40 × Byte)) : Store :=
  { st with errs := Assoc.set [] st.errs w (u.foldl (fun l p => addErr l p.1.val p.2) (st.err w)) }

/-- The word becomes stored poison with its data as received (R463). -/
def Store.toPoison (st : Store) (w : Nat) : Store :=
  let data := (st.err w).foldl (fun m p => if p.1 < 32 then Assoc.set 0 m (w + p.1) (Assoc.get 0 m (w + p.1) ^^^ p.2) else m)
    st.mem
  { st with mem := data, errs := Assoc.set [] st.errs w [], poison := if st.poison.contains w then st.poison else w :: st.poison }

/-- What the decoder delivers for a word (R458, R463). -/
inductive Decoded where
  | clean | corrected (n : Nat) | uncorrectable | poisoned
  deriving DecidableEq, Repr

def Store.decode (st : Store) (w : Nat) : Decoded :=
  let n := (st.err w).length
  if st.poison.contains w then .poisoned
  else if n = 0 then .clean
  else if n ≤ 4 then .corrected n
  else .uncorrectable

/-- LASTr takes the address, the bytes corrected and how the error was found (Table 19.3). -/
def Dev.lastError (d : Dev) (r a n : Nat) (ue scrub : Bool) : Dev :=
  (d.putN (MEM.LAST_LO r) a).putN (MEM.LAST_HI r)
    (a / 2 ^ 32 % 2 ^ 16 + n * 2 ^ 16 + ue.toNat * 2 ^ 20 + scrub.toNat * 2 ^ 21)

/-- A corrected word is counted and recorded (R466). -/
def Dev.countCE (d : Dev) (r a n : Nat) (scrub : Bool) : Dev :=
  ((d.bump (MEM.CE_CNT r)).lastError r a n false scrub).event 0x0701 [r, a, n]

/-- An uncorrectable error is counted once, at its detection, and recorded (R461, R465, R467). -/
def countUE (st : Store) (d : Dev) (r a : Nat) (scrub : Bool) : Store × Dev :=
  if st.counted.contains a then (st, d)
  else ({ st with counted := a :: st.counted }, ((d.bump (MEM.UE_CNT r)).lastError r a 0 true scrub).event 0x0702 [r, a])

/-- The item that the capture path took last from a source carries POISON, and is not VALID (R11, Table 19.2). -/
def Dev.poisonItem (d : Dev) (src : Nat) : Dev :=
  let n := Assoc.get 65535 d.flow.nums src
  let mark (i : Item) : Item := if i.source = src && i.seq = n then { i with quality := quality (i.quality.toNat ||| qPOISON) } else i
  let valid := (Assoc.get none d.flow.lastValid src).filter (fun i => i.seq != n)
  { d with
    flow := { d.flow with
      captured := d.flow.captured.map mark, held := d.flow.held.map (fun p => (p.1, mark p.2))
      lastItem := Assoc.set none d.flow.lastItem src ((Assoc.get none d.flow.lastItem src).map mark)
      lastValid := Assoc.set none d.flow.lastValid src valid }
    prc := { d.prc with block := d.prc.block.map (fun r => match r with | .item i => .item (mark i) | x => x) } }

/-- A consumer that uses poisoned data reports it (R464, R465, Table 19.2): a poisoned field command is not applied. -/
def Dev.poisonUse (d : Dev) (use_ : PoisonUse) : Dev :=
  match use_ with
  | .unused => d
  | .port p s => (d.bump MEM.POISON_USE_CNT).event 0x0705 [p, s]
  | .field => ({ d with field := { d.field with pendMask := 0, pendBits := 0, pendAout := [] } }.bump MEM.POISON_USE_CNT).event 0x0705 []
  | .item src => (d.poisonItem src).bump MEM.POISON_USE_CNT
  | .core | .fusion | .recorder => d.bump MEM.POISON_USE_CNT

/-- POISON in the severity byte of a record, where a read of `size` bytes from an address returns that byte (Table 19.2, Table 20.1). -/
def severityMark (d : Dev) (a size : Nat) : Nat :=
  let sev (b : Nat) : Bool := decide (0x50000000 ≤ b) && b % 64 = 2 && d.evr.index.any (fun r => r.2.1 = (b - 0x50000000) / 64)
  ((List.range size).filter (fun i => sev (a + i))).foldl (fun m i => m + 2 ^ (8 * i + 7)) 0

/-! ### Narrow writes (R460, R461) and injection (R470) -/

/-- The injection armed at a word: the bytes selected by INJ_BYTES. -/
def injBytes (d : Dev) : List Nat :=
  (List.range 40).filter (fun b => if b < 32 then d.b MEM.INJ_BYTES_LO b else d.b MEM.INJ_BYTES_HI (b - 32))

/-- The address of the word error injection names. -/
def injAddr (d : Dev) : Nat := ((d.w MEM.INJ_ADDR_LO).toNat + (d.f MEM.INJ_ADDR_HI 0 16) * 2 ^ 32) / 32 * 32

/-- A write to the armed word stores it with the selected bytes XORed, and disarms (R470). -/
def inject (st : Store) (d : Dev) (w : Nat) : Store × Dev :=
  if d.b MEM.INJ_CTRL 0 && decide (injAddr d = w) then
    let x : Byte := BitVec.ofNat 8 (d.f MEM.INJ_PAT 0 8)
    ({ st with errs := Assoc.set [] st.errs w ((injBytes d).foldl (fun l b => addErr l b x) (st.err w)) },
     (d.putB MEM.INJ_CTRL 0 false).putB MEM.INJ_CTRL 1 true)
  else (st, d)

/-- Bytes that the block itself writes; a write that reaches the armed word takes the injection (R470). -/
def Store.writeBy (st : Store) (d : Dev) (a : Nat) (bs : List Byte) : Store × Dev :=
  let w := injAddr d
  if a / 32 * 32 ≤ w ∧ w < a + bs.length then inject (st.write a bs) d w else (st.write a bs, d)

/-- Bytes of one word are written: a whole word replaces it, a narrower write is a read-modify-write (R460, R461, R463). -/
def writeWord (st : Store) (d : Dev) (r w off : Nat) (bs : List Byte) (poisoned : Bool) : Store × Dev :=
  let whole := decide (off = 0) && decide (bs.length = 32)
  let clear := fun (s : Store) => { s with errs := Assoc.set [] s.errs w [] }
  let unmark := fun (s : Store) => { s with poison := s.poison.filter (· != w), counted := s.counted.filter (· != w) }
  let (st, d) :=
    if whole then (unmark (clear st), d)
    else match st.decode w with
      | .clean => (st, d)
      | .corrected n => (clear st, d.countCE r w n false)
      | .uncorrectable => let (s, d) := countUE st d r w false; (s.toPoison w, d)
      | .poisoned => (clear st, d)
  let st := { st with mem := memWrite st.mem (w + off) bs }
  let st := if poisoned && !st.poison.contains w then { st with poison := w :: st.poison } else st
  inject st d w

/-- A write split at word boundaries. -/
def writeRun (fuel : Nat) (st : Store) (d : Dev) (r a : Nat) (bs : List Byte) (poisoned : Bool) : Store × Dev :=
  match fuel with
  | 0 => (st, d)
  | k + 1 =>
    match bs with
    | [] => (st, d)
    | _ =>
      let n := 32 - a % 32
      let (st, d) := writeWord st d r (a / 32 * 32) (a % 32) (bs.take n) poisoned
      writeRun k st d r (a + n) (bs.drop n) poisoned

/-- Bytes of slot buffers that a core writes also stand in the slots' payloads (R384, R387, R413). -/
def slotBytes (d : Dev) (a : Nat) (bs : List Byte) : Dev :=
  match bs with
  | [] => d
  | b :: t =>
    match slotBufferOf a with
    | none => slotBytes d (a + 1) t
    | some (k, i) =>
      let old := Assoc.get [] d.law.payloads k
      let padded := old ++ List.replicate (64 - old.length) 0
      slotBytes { d with law := { d.law with payloads := Assoc.set [] d.law.payloads k (padded.set i b) } } (a + 1) t

/-- NARROW_WRITE (R460): every byte must lie where a core may write; else the access ends with a bus error. -/
def execNarrowWrite (addr : BitVec 48) (bytes : List Byte) (poisoned : Bool) (s : State) : Out :=
  let a := addr.toNat
  let ok := (List.range bytes.length).all (fun i => coreWritable (a + i))
  match regionOf a with
  | none => busError s
  | some r =>
    if !ok then busError s
    else
      let (st, d) := writeRun (bytes.length + 1) s.store s.dev r a bytes poisoned
      .next { s with store := st, dev := slotBytes d a bytes, bus := .done 0 }

/-! ### Demand reads (R462, R464, R466) -/

/-- A byte of the system area of general SRAM that the CAN and Ethernet blocks keep: a slot buffer (R385, R413), the transmit event ring (R390),
the receive ring (R394). -/
def systemByte (d : Dev) (a : Nat) : Option Byte :=
  if a < 0x201C0000 ∨ 0x20200000 ≤ a then none
  else match slotBufferOf a with
    | some (k, i) => some ((Assoc.get [] d.law.payloads k : List Byte).getD i 0)
    | none => (List.range 6).findSome? (fun n =>
        let x : CanDev := Assoc.get {} d.can n
        let e := (Config.implWord 3 n).toNat
        let r := (Config.implWord 4 n).toNat
        if e ≤ a ∧ a < e + 512 then some ((Assoc.get [] x.txe ((a - e) / 16) : List Byte).getD ((a - e) % 16) 0)
        else if r ≤ a ∧ a < r + 6144 then some ((Assoc.get [] x.rx ((a - r) / 96) : List Byte).getD ((a - r) % 96) 0)
        else none)

/-- The bytes at an address as a reader finds them. -/
def State.shown (s : State) (st : Store) (a n : Nat) : List Byte :=
  (List.range n).map (fun i => (systemByte s.dev (a + i)).getD (st.byte (a + i)))

/-- The words of a slot buffer are read: corrected words are counted and written back, an uncorrectable one is counted once; the
first component says that the data are poisoned (R464 to R466). -/
def readBuffer (st : Store) (d : Dev) (base len : Nat) : Bool × Store × Dev :=
  match regionOf base with
  | none => (false, st, d)
  | some r =>
    ((List.range 3).filter (fun k => base / 32 * 32 + 32 * k < base + len)).foldl (fun (x : Bool × Store × Dev) k =>
      let w := base / 32 * 32 + 32 * k
      match x.2.1.decode w with
      | .clean => x
      | .corrected n => (x.1, { x.2.1 with errs := Assoc.set [] x.2.1.errs w [] }, x.2.2.countCE r w n false)
      | .uncorrectable =>
        let u := countUE x.2.1 x.2.2 r w false
        (true, u.1, u.2)
      | .poisoned => (true, x.2.1, x.2.2)) (false, st, d)

/-- A word of memory is read (R462, R466): a corrected word is written back (not in region 3, not over a newer write); an uncorrectable or
poisoned word is delivered poisoned and reported only where it is used. The accessing core sees the `size` bytes at the address. -/
def State.readMemory (s : State) (r a size : Nat) (upset : List (Fin 40 × Byte)) (newer : Bool) (usedBy : PoisonUse) : Out :=
  let w := a / 32 * 32
  let st := s.store.upset w upset
  let data : Word := wd (leNat (s.shown st a (min 4 size)))
  let poisoned (d : Dev) : BusReply :=
    if usedBy = .core then .error else if usedBy = .recorder then .done (data ||| wd (severityMark d a (min 4 size))) else s.bus
  match st.decode w with
  | .clean => .next { s with store := st, bus := .done data }
  | .corrected n =>
    let st := if newer || r = 3 then st else { st with errs := Assoc.set [] st.errs w [] }
    .next { s with store := st, dev := s.dev.countCE r w n false, bus := .done data }
  | .uncorrectable =>
    let (st, d) := countUE st s.dev r w false
    .next { s with store := st, dev := d.poisonUse usedBy, bus := poisoned d }
  | .poisoned => .next { s with store := st, dev := s.dev.poisonUse usedBy, bus := poisoned s.dev }

/-! ### The scrubber (R467 to R469) -/

/-- The next enabled region after `r` in the order 0 to 3 (R467), `r` itself last. -/
def nextRegion (c : Cfg) (r : Nat) : Nat :=
  match [(r + 1) % 4, (r + 2) % 4, (r + 3) % 4].find? (fun q => c.b MEM.SCRUB_CFG q) with
  | some q => q
  | none => r

/-- LAP_RUN of the lap under way, ms, saturating (Table 19.3). -/
def lapRun (d : Dev) : Nat := satU 32 ((d.tick - d.memd.lapStart) / ticksPerMs)

/-- A lap ends: LAPr, LAPS_r, the alarm's end, the next region (R468). -/
def Dev.endLap (d : Dev) (c : Cfg) : Dev :=
  let r := d.memd.region
  let ms := lapRun d
  let d := ((d.putN (MEM.LAP r) ms).putN (MEM.LAP_RUN r) 0).wrap (MEM.LAPS r) 0 32 1
  let lim := c.f (MEM.LAP_LIMIT r) 0 24
  let d := if d.b MEM.STAT r && !d.memd.lapRaised && decide (ms ≤ lim) then (d.putB MEM.STAT r false).event 0x0704 [r, ms] else d
  let q := nextRegion c r
  let m := { d.memd with
    region := q, word := 0, lapStart := d.tick, lapRaised := false
    before := Assoc.set [] d.memd.before r d.memd.corrected, corrected := [] }
  { d with memd := m }.putF MEM.STAT 4 2 q

/-- SCRUB_WORD (R467): the next word of the region under way is read; a correctable word is written back, an uncorrectable one
stored as poison and counted once, stored poison left as it is. -/
def execScrubWord (upset : List (Fin 40 × Byte)) (newer : Bool) (s : State) : Out :=
  onMem s fun c st d =>
    if c.f MEM.SCRUB_CFG 0 4 = 0 then (st, d)
    else
      let d := if c.b MEM.SCRUB_CFG d.memd.region then d
        else
          let q := nextRegion c d.memd.region
          { d with memd := { d.memd with region := q, word := 0, lapStart := d.tick, lapRaised := false } }.putF MEM.STAT 4 2 q
      let r := d.memd.region
      let w := wordAddr r d.memd.word
      let st := st.upset w upset
      let (st, d) := match st.decode w with
        | .clean | .poisoned => (st, d)
        | .corrected n =>
          let st := if newer || r = 3 then st else { st with errs := Assoc.set [] st.errs w [] }
          let d := d.countCE r w n true
          let d := if (Assoc.get [] d.memd.before r).contains w then d.event 0x0706 [w] else d
          (st, { d with memd := { d.memd with corrected := w :: d.memd.corrected } })
        | .uncorrectable =>
          let (st, d) := countUE st d r w true
          (if newer then st else st.toPoison w, d)
      let d := d.putN (MEM.LAP_RUN r) (lapRun d)
      let d := if d.memd.word + 1 < regionWords r then { d with memd := { d.memd with word := d.memd.word + 1 } } else d.endLap c
      (st, d)

/-- LAP_ALARM (R468): LAP_RUN has passed a LAP_LIMIT that is not 0; once for the lap. -/
def execLapAlarm (region : Fin 4) (s : State) : Out :=
  onDev s fun c d =>
    let lim := c.f (MEM.LAP_LIMIT region.val) 0 24
    if lim = 0 || d.memd.region != region.val || d.memd.lapRaised || !c.b MEM.SCRUB_CFG region.val then d
    else
      let d := d.advanceTo (d.memd.lapStart + (lim + 1) * ticksPerMs)
      let d := { d with memd := { d.memd with lapRaised := true } }
      ((d.putB MEM.STAT region.val true).putN (MEM.LAP_RUN region.val) (lapRun d)).event 0x0703 [region.val, lapRun d]

/-- INJ_ARM (R470): with ARM and KEY 0x7E31 in modes 2, 3 and 5 one injection is armed; elsewhere it is refused. -/
def execInjArm (value : Word) (s : State) : Out :=
  onWrite s fun _ d =>
    if fld value 16 16 != 0x7E31 || !bit value 0 then d
    else if d.mode = 2 || d.mode = 3 || d.mode = 5 then d.putN MEM.INJ_CTRL 1
    else d.putB MEM.INJ_CTRL 2 true

/-- LPDDR4X_INITIALISED (R459): region 1 is initialised. -/
def execLpddr4xInitialised (s : State) : Out :=
  onDev s fun _ d => d.putB MEM.STAT 8 true

end Sys2Proof.Machine
end

