-- ==== Sys2Proof/Machine/Operands.lean ====
section
/-! DEFINITION. The operand forms that are numbers: binary64 (R12, 09_solver_hardware.md R215) read exactly and rounded to
nearest, ties to even. -/
namespace Sys2Proof.Machine

/-- The value of a finite binary64 in units of 2^-1074; none for an infinity or a NaN. -/
def F64.val (x : BitVec 64) : Option Int :=
  let e := x.toNat / 2 ^ 52 % 2 ^ 11
  let m := x.toNat % 2 ^ 52
  if e = 2047 then none
  else
    let mag : Nat := if e = 0 then m else (2 ^ 52 + m) * 2 ^ (e - 1)
    some (if x.getLsbD 63 then -(mag : Int) else mag)

/-- The significand and scale of |n| / d: q of at most 53 bits with |n| / d ≈ q × 2^-k, k at most 1074. -/
def F64.scaled (n d k : Int) : Nat × Nat :=
  if 0 ≤ k then (n.toNat * 2 ^ k.toNat / d.toNat, n.toNat * 2 ^ k.toNat % d.toNat)
  else (n.toNat / (d.toNat * 2 ^ (-k).toNat), n.toNat % (d.toNat * 2 ^ (-k).toNat))

/-- The binary64 nearest to num / den (den > 0), ties to even; an overflow gives an infinity. -/
def F64.ofRatio (num : Int) (den : Nat) : BitVec 64 :=
  let n := num.natAbs
  let sign : Nat := if num < 0 then 2 ^ 63 else 0
  if n = 0 || den = 0 then BitVec.ofNat 64 sign
  else
    let k0 : Int := 52 - ((Nat.log2 n : Int) - (Nat.log2 den : Int))
    let k1 : Int := if (F64.scaled n den k0).1 < 2 ^ 52 then k0 + 1 else k0
    let k : Int := min k1 1074
    let (q, r) := F64.scaled n den k
    let dd := if 0 ≤ k then den else den * 2 ^ (-k).toNat
    let q := if dd < 2 * r || (2 * r = dd && q % 2 = 1) then q + 1 else q
    let bits := (1074 - k).toNat * 2 ^ 52 + q
    BitVec.ofNat 64 (sign + (if 0x7FF0000000000000 ≤ bits then 0x7FF0000000000000 else bits))

/-- The unit of `F64.val`. -/
def F64.unit : Nat := 2 ^ 1074

/-- |x| > num / den; a NaN or an infinity exceeds every limit. -/
def F64.absAbove (x : BitVec 64) (num den : Nat) : Bool :=
  match F64.val x with
  | none => true
  | some v => decide (num * F64.unit < v.natAbs * den)

/-- lo ≤ x ≤ hi for whole numbers; not for a NaN or an infinity. -/
def F64.within (x : BitVec 64) (lo hi : Int) : Bool :=
  match F64.val x with
  | none => false
  | some v => decide (lo * F64.unit ≤ v) && decide (v ≤ hi * F64.unit)

/-- x < y on finite values; a NaN is below nothing and above nothing, an infinity is above or below every finite value. -/
def F64.lt (x y : BitVec 64) : Bool :=
  let key (z : BitVec 64) : Option Int :=
    match F64.val z with
    | some v => some v
    | none => if z.toNat % 2 ^ 52 != 0 then none else some (if z.getLsbD 63 then -(2 ^ 2200 : Int) else 2 ^ 2200)
  match key x, key y with
  | some a, some b => decide (a < b)
  | _, _ => false

def F64.le (x y : BitVec 64) : Bool := F64.lt x y || (F64.val x == F64.val y && (F64.val x).isSome)

/-- x is neither an infinity nor a NaN. -/
def F64.finite (x : BitVec 64) : Bool := (F64.val x).isSome

/-- +0, +infinity and the default quiet NaN (R215). -/
def F64.zero : BitVec 64 := 0
def F64.inf : BitVec 64 := 0x7FF0000000000000#64
def F64.nan : BitVec 64 := 0x7FF8000000000000#64

def F64.isNaN (x : BitVec 64) : Bool := !F64.finite x && x.toNat % 2 ^ 52 != 0
/-- A zero or an infinity with a sign. -/
def F64.signed (neg : Bool) (x : BitVec 64) : BitVec 64 := if neg then x ||| BitVec.ofNat 64 (2 ^ 63) else x
def F64.neg (x : BitVec 64) : BitVec 64 := x ^^^ BitVec.ofNat 64 (2 ^ 63)

/-! Operations of IEEE 754 binary64, round to nearest, ties to even (R214): subnormals kept, a NaN result is the default one (R215). -/

def F64.add (x y : BitVec 64) : BitVec 64 :=
  match F64.val x, F64.val y with
  | some a, some b => if x = y && a = 0 then x else F64.ofRatio (a + b) F64.unit
  | a, b =>
    if F64.isNaN x || F64.isNaN y || (a.isNone && b.isNone && x != y) then F64.nan else if a.isNone then x else y

def F64.sub (x y : BitVec 64) : BitVec 64 := F64.add x (F64.neg y)

/-- x y + z with one rounding. -/
def F64.fma (x y z : BitVec 64) : BitVec 64 :=
  let neg := x.getLsbD 63 != y.getLsbD 63
  match F64.val x, F64.val y with
  | some a, some b =>
    match F64.val z with
    | none => if F64.isNaN z then F64.nan else z
    | some c =>
      if a * b = 0 && c = 0 then F64.add (F64.signed neg 0) z
      else F64.ofRatio (a * b + c * F64.unit) (F64.unit * F64.unit)
  | a, b =>
    if F64.isNaN x || F64.isNaN y || a = some 0 || b = some 0 then F64.nan else F64.add (F64.signed neg F64.inf) z

def F64.mul (x y : BitVec 64) : BitVec 64 := F64.fma x y (F64.signed (x.getLsbD 63 != y.getLsbD 63) 0)

/-- x / y correctly rounded. -/
def F64.div (x y : BitVec 64) : BitVec 64 :=
  let neg := x.getLsbD 63 != y.getLsbD 63
  match F64.val x, F64.val y with
  | some a, some b =>
    if b = 0 then (if a = 0 then F64.nan else F64.signed neg F64.inf)
    else if a = 0 then F64.signed neg 0
    else F64.ofRatio (if b < 0 then -a else a) b.natAbs
  | a, b =>
    if F64.isNaN x || F64.isNaN y || (a.isNone && b.isNone) then F64.nan else if a.isNone then F64.signed neg F64.inf else F64.signed neg 0

/-- x is a positive finite number. -/
def F64.positive (x : BitVec 64) : Bool := match F64.val x with | none => false | some v => decide (0 < v)

/-- The larger of two numbers; of a number and a NaN the NaN, so that a merit shows it. -/
def F64.max (x y : BitVec 64) : BitVec 64 := if F64.isNaN x then x else if F64.isNaN y || F64.lt x y then y else x

/-- x scaled by num / den. -/
def F64.scale (x : BitVec 64) (num : Int) (den : Nat) : BitVec 64 :=
  match F64.val x with
  | none => F64.mul x (F64.ofRatio num den)
  | some v => F64.ofRatio (v * num) (F64.unit * den)

/-- x rounded down to a whole number. -/
def F64.floor (x : BitVec 64) : Int := (F64.val x).getD 0 / (F64.unit : Int)

/-- The eight bytes of a binary64 (R8). -/
def F64.bytes (x : BitVec 64) : List Byte := leBytes 8 x.toNat

/-- The binary64 at offset `i` of a byte list. -/
def F64.at (l : List Byte) (i : Nat) : BitVec 64 := BitVec.ofNat 64 (leAt l i 8)

/-- One bit of CRC-32C, reflected. -/
def crc32cStep (r : Nat) : Nat := if r % 2 = 1 then (r / 2) ^^^ 0x82F63B78 else r / 2

/-- CRC-32C of a byte list with the shift register loaded with `init` (R365). -/
def crc32cFrom (init : Nat) (l : List Byte) : Nat :=
  l.foldl (fun r b =>
    let r := r ^^^ b.toNat
    crc32cStep (crc32cStep (crc32cStep (crc32cStep (crc32cStep (crc32cStep (crc32cStep (crc32cStep r)))))))) init ^^^ 0xFFFFFFFF

/-- Standard CRC-32C. -/
def crc32c (l : List Byte) : Nat := crc32cFrom 0xFFFFFFFF l

end Sys2Proof.Machine
end

