-- ==== Sys2Proof/Machine/Real.lean ====
section
/-! DEFINITION. Functions of a real argument and small linear algebra in binary64. The spec names the functions (sin, cos, atan2, exp, the
chi-square quantile) and gives them no accuracy: each is formed in fixed point of 2^-256 and rounded once to nearest, ties to even
(DESIGN CHOICE, log 88). Sums run in the order written. -/
namespace Sys2Proof.Machine

/-! ### Fixed point of 2^-256 -/

def fxOne : Int := 2 ^ 256
def fxPi : Int := 363771576891766324280234942777729862653393377328392429958772151117938894466185
def fxLn2 : Int := 80260960185991308862233904206310070533990667611589946606122867505419956976172

def fxMul (a b : Int) : Int := a * b / fxOne

/-- A finite binary64 in fixed point, and back. -/
def fxOf (x : BitVec 64) : Int := (F64.val x).getD 0 / 2 ^ 818
def F64.ofFx (i : Int) : BitVec 64 := F64.ofRatio i (2 ^ 256)

/-- Whole square root, by Newton's steps from above. -/
def sqrtNat (n : Nat) : Nat :=
  if n = 0 then 0 else (List.range 24).foldl (fun x _ => min x ((x + n / x) / 2)) (2 ^ (Nat.log2 n / 2 + 1))

/-- sin x, by its series after reduction to half a turn. -/
def fxSin (x : Int) : Int :=
  let r := (x + fxPi) % (2 * fxPi) - fxPi
  let r2 := fxMul r r
  ((List.range 50).foldl (fun (p : Int × Int) k =>
    let t := -(fxMul p.2 r2) / ((2 * k + 2) * (2 * k + 3) : Nat)
    (p.1 + t, t)) (r, r)).1

/-- The arc tangent of 0 ≤ z ≤ 1: three halvings of the angle, then its series. -/
def fxAtan (z : Int) : Int :=
  let z := (List.range 3).foldl (fun z _ => z * fxOne / (fxOne + (sqrtNat (fxOne * fxOne + z * z).toNat : Int))) z
  let z2 := fxMul z z
  8 * ((List.range 45).foldl (fun (p : Int × Int) k =>
    let t := -(fxMul p.2 z2)
    (p.1 + t / (2 * k + 3 : Nat), t)) (z, z)).1

/-- The angle of the point (x, y), from -π to π; 0 at the origin. -/
def fxAtan2 (y x : Int) : Int :=
  if x = 0 && y = 0 then 0
  else
    let a : Int := y.natAbs
    let b : Int := x.natAbs
    let q := if a ≤ b then fxAtan (a * fxOne / b) else fxPi / 2 - fxAtan (b * fxOne / a)
    let q := if x < 0 then fxPi - q else q
    if y < 0 then -q else q

/-- e^x as a number and a power of two. -/
def fxExp (x : Int) : Int × Int :=
  let n := x / fxLn2
  let r := x - n * fxLn2
  (((List.range 60).foldl (fun (p : Int × Int) k =>
    let t := fxMul p.2 r / (k + 1 : Nat)
    (p.1 + t, t)) (fxOne, fxOne)).1, n)

/-! ### Functions on binary64 -/

def F64.ofInt (i : Int) : BitVec 64 := F64.ofRatio i 1
def F64.pi : BitVec 64 := F64.ofFx fxPi
def F64.sin (x : BitVec 64) : BitVec 64 := F64.ofFx (fxSin (fxOf x))
def F64.cos (x : BitVec 64) : BitVec 64 := F64.ofFx (fxSin (fxOf x + fxPi / 2))
def F64.atan2 (y x : BitVec 64) : BitVec 64 := F64.ofFx (fxAtan2 ((F64.val y).getD 0) ((F64.val x).getD 0))

def F64.exp (x : BitVec 64) : BitVec 64 :=
  let i := fxOf x
  if 800 * fxOne < i then F64.inf
  else if i < -(800 * fxOne) then F64.zero
  else
    let (m, n) := fxExp i
    if 0 ≤ n then F64.ofRatio (m * 2 ^ n.toNat) (2 ^ 256) else F64.ofRatio m (2 ^ (256 + (-n).toNat))

def F64.abs (x : BitVec 64) : BitVec 64 := BitVec.ofNat 64 (x.toNat % 2 ^ 63)
def F64.min (x y : BitVec 64) : BitVec 64 := if F64.lt y x then y else x

/-- x clamped to lo .. hi. -/
def F64.clamp (lo hi x : BitVec 64) : BitVec 64 := F64.max lo (F64.min hi x)

/-- The square root, correctly rounded (R214); a NaN for a negative number. -/
def F64.sqrt (x : BitVec 64) : BitVec 64 :=
  match F64.val x with
  | none => if x = F64.inf then x else F64.nan
  | some v =>
    if v = 0 then x
    else if v < 0 then F64.nan
    else
      let n := v.toNat * F64.unit
      let s := sqrtNat n
      F64.ofRatio (2 * s + (if s * s = n then 0 else 1) : Nat) (2 * F64.unit)

/-- The whole number nearest to x × num / den, ties to even. -/
def F64.roundTo (x : BitVec 64) (num : Int) (den : Nat) : Int :=
  let n := (F64.val x).getD 0 * num
  let m : Int := F64.unit * den
  let q := n / m
  let r := n % m
  if m < 2 * r || (2 * r = m && q % 2 = 1) then q + 1 else q

/-- Degrees in radians. -/
def F64.deg (x : BitVec 64) : BitVec 64 := F64.ofRatio ((F64.val x).getD 0 * fxPi) (180 * 2 ^ 256 * F64.unit)

/-- An angle in radians brought into -π .. π. -/
def F64.wrapPi (x : BitVec 64) : BitVec 64 := F64.ofFx ((fxOf x + fxPi) % (2 * fxPi) - fxPi)

/-- 1 and a sum in order. -/
def F64.one : BitVec 64 := F64.ofInt 1
def F64.sum (l : List (BitVec 64)) : BitVec 64 := l.foldl F64.add F64.zero

/-! ### Vectors and matrices (lists, rows first) -/

abbrev Vec := List (BitVec 64)
abbrev Mat := List Vec

def Vec.zeros (n : Nat) : Vec := List.replicate n F64.zero
def Vec.add (a b : Vec) : Vec := a.zipWith F64.add b
def Vec.sub (a b : Vec) : Vec := a.zipWith F64.sub b
def Vec.smul (k : BitVec 64) (a : Vec) : Vec := a.map (F64.mul k)
/-- The inner product, a chain of fused multiply-adds (R214). -/
def Vec.dot (a b : Vec) : BitVec 64 := (a.zip b).foldl (fun s p => F64.fma p.1 p.2 s) F64.zero
def Vec.norm (a : Vec) : BitVec 64 := F64.sqrt (Vec.dot a a)
/-- Element `i`, 0 beyond the end. -/
def Vec.at (a : Vec) (i : Nat) : BitVec 64 := a.getD i F64.zero
def Vec.put (a : Vec) (i : Nat) (x : BitVec 64) : Vec := a.set i x

/-- The cross product of two vectors of three. -/
def Vec.cross (a b : Vec) : Vec :=
  let c (i j : Nat) : BitVec 64 := F64.sub (F64.mul (Vec.at a i) (Vec.at b j)) (F64.mul (Vec.at a j) (Vec.at b i))
  [c 1 2, c 2 0, c 0 1]

def Mat.mulVec (m : Mat) (v : Vec) : Vec := m.map (fun r => Vec.dot r v)

/-- The transpose of a matrix with `n` columns. -/
def Mat.transpose (n : Nat) (m : Mat) : Mat := (List.range n).map (fun j => m.map (fun r => Vec.at r j))

def Mat.mul (a b : Mat) : Mat :=
  let bt := Mat.transpose (b.head?.getD []).length b
  a.map (fun r => bt.map (fun c => Vec.dot r c))

def Mat.add (a b : Mat) : Mat := a.zipWith Vec.add b
def Mat.smul (k : BitVec 64) (a : Mat) : Mat := a.map (Vec.smul k)
/-- The diagonal matrix of a vector. -/
def Mat.diag (v : Vec) : Mat := (List.range v.length).map (fun i => (Vec.zeros v.length).set i (Vec.at v i))
def Mat.get (m : Mat) (i j : Nat) : BitVec 64 := Vec.at (m.getD i []) j

/-- LDLT of a symmetric matrix, row by row: the rows of L without their unit diagonal, and the pivots D. -/
def Mat.ldlt (m : Mat) : Mat × Vec :=
  m.zipIdx.foldl (fun (p : Mat × Vec) r =>
    let row := (List.range r.2).foldl (fun (l : Vec) j =>
      let s := F64.sum (List.zipWith F64.mul (l.zipWith F64.mul (p.1.getD j [])) p.2)
      l ++ [F64.div (F64.sub (Vec.at r.1 j) s) (Vec.at p.2 j)]) []
    let d := F64.sub (Vec.at r.1 r.2) (F64.sum (List.zipWith F64.mul (row.zipWith F64.mul row) p.2))
    (p.1 ++ [row], p.2 ++ [d])) ([], [])

/-- The solution of m x = b for a symmetric m by its LDLT. -/
def Mat.solve (m : Mat) (b : Vec) : Vec :=
  let (l, d) := Mat.ldlt m
  let y := l.zipIdx.foldl (fun (y : Vec) r => y ++ [F64.sub (Vec.at b r.2) (Vec.dot r.1 y)]) []
  let z := y.zipWith F64.div d
  let n := b.length
  (List.range n).foldl (fun (x : Vec) k =>
    let i := n - 1 - k
    let s := F64.sum ((List.range k).map (fun j => F64.mul (Vec.at (l.getD (n - k + j) []) i) (Vec.at x j)))
    F64.sub (Vec.at z i) s :: x) []

/-- The inverse of a symmetric matrix. -/
def Mat.inverse (m : Mat) : Mat :=
  (List.range m.length).map (fun i => Mat.solve m ((Vec.zeros m.length).set i F64.one))

/-- The rotation from body to north-east-down of heading, pitch and roll. -/
def rotation (heading pitch roll : BitVec 64) : Mat :=
  let (ch, sh) := (F64.cos heading, F64.sin heading)
  let (cp, sp) := (F64.cos pitch, F64.sin pitch)
  let (cr, sr) := (F64.cos roll, F64.sin roll)
  let m := F64.mul
  [ [m ch cp, F64.sub (m (m ch sp) sr) (m sh cr), F64.add (m (m ch sp) cr) (m sh sr)],
    [m sh cp, F64.add (m (m sh sp) sr) (m ch cr), F64.sub (m (m sh sp) cr) (m ch sr)],
    [F64.neg sp, m cp sr, m cp cr] ]

/-! ### The chi-square test (R156) -/

/-- t ≤ chi2_inverse(1 - 10^-(3 + pfa), dof): the upper tail of t is not below 10^-(3 + pfa). Both sides are multiplied by e^(t/2); above
1000 every t of at most 384 degrees of freedom fails. -/
def chi2Within (pfa dof : Nat) (t : BitVec 64) : Bool :=
  let tx := (F64.val t).getD (2 * 1000 * F64.unit) / 2 ^ 818
  let h := tx / 2
  let powers := (List.range 2048).foldl (fun (p : Int × Int) n => let q := fxMul p.2 h / (n + 1 : Nat); (p.1 + q, q)) (fxOne, fxOne)
  let upper : Int :=
    if dof % 2 = 0 then
      ((List.range (dof / 2)).foldl (fun (p : Int × Int) i => (p.1 + p.2, fxMul p.2 h / (i + 1 : Nat))) (0, fxOne)).1
    else
      let first := 2 * (sqrtNat (h * fxOne).toNat : Int) * fxOne / sqrtNat (fxPi * fxOne).toNat
      let erf := (List.range 2048).foldl (fun (p : Int × Int) n => (p.1 + p.2, fxMul p.2 (2 * h) / (2 * n + 3 : Nat))) (0, fxOne)
      let rest := (List.range ((dof - 1) / 2)).foldl (fun (p : Int × Int) i => (p.1 + p.2, fxMul p.2 (2 * h) / (2 * i + 3 : Nat))) (0, first)
      powers.1 - fxMul first erf.1 + rest.1
  decide (tx ≤ 1000 * fxOne) && decide (powers.1 ≤ upper * 10 ^ (3 + pfa))

end Sys2Proof.Machine
end

