-- ==== Sys2Proof/Machine/Track.lean ====
section
/-! DEFINITION. Fusion tracks: what is shown of them, their states and the moves between them (07_fusion_tracks.md R164 to R169, R185,
R186). TRK_STAT holds the state, the EXCL bits the exclusions. -/
namespace Sys2Proof.Machine

def Dev.trk (d : Dev) (t : Nat) : TrackDev := Assoc.get {} d.fus.tracks t
def Dev.putTrk (d : Dev) (t : Nat) (x : TrackDev) : Dev := { d with fus := { d.fus with tracks := Assoc.set {} d.fus.tracks t x } }

/-- State of Table 7.2. -/
def trkState (d : Dev) (t : Nat) : Nat := d.f (FUS.TRK_STAT t) 0 3
/-- The tests or a vote have excluded the track (R195 to R198). -/
def trkExcluded (d : Dev) (t : Nat) : Bool := d.b (FUS.EXCL (t / 32)) (t % 32)
/-- The class of Table 7.1. -/
def trkClass (c : Cfg) (t : Nat) : Nat := c.f (FUS.TRK_CFG t) 0 4
def trkInst (c : Cfg) (t : Nat) : Nat := c.f (FUS.TRK_CFG t) 4 3
def trkTiming (c : Cfg) (t : Nat) : Nat := c.f (FUS.TRK_CFG t) 8 2
def trkSource (c : Cfg) (t : Nat) : Nat := c.f (FUS.TRK_CFG t) 16 16

/-- Default timeout in ms and default noise sigma of a class (Table 7.1). -/
def classTmo (k : Nat) : Nat := [0, 300, 1000, 2000, 1000, 500, 50, 2000, 2000, 50].getD k 0
def classSigma (k : Nat) : Nat := [0, 50, 100, 100, 200, 100, 20, 50, 5, 10].getD k 0

/-- Timeout in ms and noise sigma in the class noise unit (R166, Table 7.7). -/
def trkTmo (c : Cfg) (t : Nat) : Nat := if c.f (FUS.TRK_TMO t) 0 16 = 0 then classTmo (trkClass c t) else c.f (FUS.TRK_TMO t) 0 16
def trkSigma (c : Cfg) (t : Nat) : Nat :=
  if c.f (FUS.TRK_NOISE t) 0 16 = 0 then classSigma (trkClass c t) else c.f (FUS.TRK_NOISE t) 0 16

/-- A position track: class 1, 2 or 4, or class 3 with a fixed target (R195). -/
def isPosition (c : Cfg) (t : Nat) : Bool :=
  let k := trkClass c t
  k = 1 || k = 2 || k = 4 || (k = 3 && trkInst c t < 4 && c.b FUS.REL_CFG (trkInst c t))

/-- Weights are counted in frames of the ramp (R186): full weight is `weightDen`. -/
def weightDen (c : Cfg) : Nat := max 1 (c.f FUS.WARM_CFG 16 8 * 100)
def trkWeight (c : Cfg) (d : Dev) (t : Nat) : Nat :=
  if trkExcluded d t then 0
  else if trkState d t = 4 then weightDen c
  else if trkState d t = 3 then min (d.trk t).rampFrames (weightDen c)
  else 0

/-- TRK_STAT, TRK_VALID and TRK_OOS follow (R169). -/
def Dev.showTrk (d : Dev) (c : Cfg) (t : Nat) : Dev :=
  let st := trkState d t
  let v := (st = 3 || st = 4) && (d.trk t).lastQuality.getLsbD 0 && !trkExcluded d t
  let d := (d.putB (FUS.TRK_STAT t) 3 v).putF (FUS.TRK_STAT t) 16 8 ((trkWeight c d t * 510 + weightDen c) / (2 * weightDen c))
  (d.putB (FUS.TRK_VALID (t / 32)) (t % 32) v).putB (FUS.TRK_OOS (t / 32)) (t % 32) (st = 5)

def Dev.setTrk (d : Dev) (c : Cfg) (t st : Nat) : Dev := (d.putF (FUS.TRK_STAT t) 0 3 st).showTrk c t

/-- Two tracks measure the same quantities (R186). -/
def sameQuantity (c : Cfg) (t u : Nat) : Bool :=
  let k := trkClass c t
  let l := trkClass c u
  if decide (1 ≤ k ∧ k ≤ 4) then decide (1 ≤ l ∧ l ≤ 4) else k = l && k != 9

/-- The track becomes ACTIVE (R186). -/
def Dev.trkActive (d : Dev) (c : Cfg) (t : Nat) : Dev := (d.setTrk c t 4).event 0x1107 [(t : Int)]

/-- WARM ends (R186): straight to ACTIVE where no other track carries weight for the same quantities, or RAMP_S is 0; else RAMP. -/
def Dev.leaveWarm (d : Dev) (c : Cfg) (t : Nat) : Dev :=
  let others := (enabledTracks c).any (fun u => u != t && sameQuantity c t u && trkWeight c d u != 0)
  if !others || c.f FUS.WARM_CFG 16 8 = 0 then d.trkActive c t
  else (d.putTrk t { d.trk t with rampFrames := 0 }).setTrk c t 3

/-- A track enters WARM (R185): 0 first item after its commit, 1 first item in WAIT, 2 readmission, 3 return of its partner,
4 RESTART, 5 a committed change. The bias is kept, its covariance starts at the prior; a first entry after the enabling commit starts it at zero. -/
def Dev.enterWarm (d : Dev) (c : Cfg) (t cause : Nat) : Dev :=
  let x := d.trk t
  let x := { x with warmIns := x.warmIns + 1, warmFrames := 0, passFrames := 0, warmedOnce := true
                    biasReset := if x.warmedOnce then max 1 x.biasReset else 2 }
  let d := ((d.putTrk t x).setTrk c t 2).event 0x1101 [(t : Int), (cause : Int)]
  if c.f FUS.WARM_CFG 0 10 = 0 then d.leaveWarm c t else d

/-- The sequence check of a source starts again: its next item is accepted whatever its number (R31). -/
def Dev.sourceAdmitted (d : Dev) (src : Nat) : Dev :=
  let st : SeqState := Assoc.get {} d.flow.seqs src
  { d with flow := { d.flow with seqs := Assoc.set {} d.flow.seqs src { st with last := none } } }

/-- A partner becomes accepted and present (R426): its sources are admitted; a return takes its tracks to WARM (R185). -/
def Dev.partnerPresent (d : Dev) (c : Cfg) (uid : Nat) (back : Bool) : Dev :=
  ((enabledTracks c).filter (fun t => trackSerial c t = uid && uid != 0)).foldl (fun d t =>
    let d := d.sourceAdmitted (trkSource c t)
    if back && decide (1 ≤ trkState d t ∧ trkState d t ≤ 4) then d.enterWarm c t 3 else d) d

end Sys2Proof.Machine
end

