-- ==== Sys2Proof/Machine/Estimator.lean ====
section
/-! DEFINITION. The core of the estimator (08_fusion_estimation.md R190 to R194, 07_fusion_tracks.md R182, R183): its 48 states and their
covariance, the vessel model between frames, the inertial state, lever arms, and the update by a measurement. The spec names the filter
and its states; the equations that it leaves to the reader (Euler steps, the strapdown equations, first-order Jacobians) are those of
log 89. -/
namespace Sys2Proof.Machine

/-! ### The model block (Table 8.7) -/

def modelNum (st : Store) (off : Nat) : BitVec 64 := F64.at (st.bytes (modelBase + off) 8) 0
def modelMat (st : Store) (off : Nat) : Mat :=
  (List.range 4).map (fun i => (List.range 4).map (fun j => modelNum st (off + 32 * i + 8 * j)))

/-! ### The states (Table 8.1) -/

def CoreDev.at (k : CoreDev) (i : Nat) : BitVec 64 := Vec.at k.x i
def CoreDev.full (k : CoreDev) : Vec := (List.range 48).map k.at

/-- The covariance; before the first update that of the start (log 89). States 46 and 47 have none. -/
def CoreDev.covMat (k : CoreDev) : Mat :=
  if k.cov.isEmpty then Mat.diag ((List.range 48).map (fun i => if i < 46 then Config.coreVariance i else F64.zero)) else k.cov

/-- Whole heading, pitch and roll: low frequency and oscillator (R193). -/
def CoreDev.heading (k : CoreDev) : BitVec 64 := F64.wrapPi (F64.add (k.at 2) (k.at 19))
def CoreDev.roll (k : CoreDev) : BitVec 64 := F64.add (k.at 6) (k.at 21)
def CoreDev.rollRate (k : CoreDev) : BitVec 64 := F64.add (k.at 7) (k.at 22)
def CoreDev.pose (k : CoreDev) : Mat := rotation k.heading (k.at 8) k.roll
/-- Roll, pitch and yaw rate, rad/s. -/
def CoreDev.rates (k : CoreDev) : Vec := [k.rollRate, k.at 9, F64.add (k.at 5) (k.at 20)]

/-- Whole north and east position (R193). -/
def CoreDev.place (k : CoreDev) : Vec :=
  let (ch, sh) := (F64.cos (k.at 2), F64.sin (k.at 2))
  [F64.add (k.at 0) (F64.sub (F64.mul ch (k.at 15)) (F64.mul sh (k.at 17))),
   F64.add (k.at 1) (F64.add (F64.mul sh (k.at 15)) (F64.mul ch (k.at 17)))]

/-- North and east velocity, low frequency. -/
def CoreDev.drift (k : CoreDev) : Vec :=
  let (ch, sh) := (F64.cos (k.at 2), F64.sin (k.at 2))
  [F64.sub (F64.mul ch (k.at 3)) (F64.mul sh (k.at 4)), F64.add (F64.mul sh (k.at 3)) (F64.mul ch (k.at 4))]

def CoreDev.filter (k : CoreDev) (t : Nat) : TrkFilter := Assoc.get {} k.filters t
def CoreDev.putFilter (k : CoreDev) (t : Nat) (f : TrkFilter) : CoreDev := { k with filters := Assoc.set {} k.filters t f }

/-! ### Prediction (R190, R193) -/

/-- What the prediction takes beside the states: the inverse mass matrix, damping, roll restoring coefficient, the known force X, Y, N, K,
and the oscillators' frequencies and damping. -/
structure CoreIn where
  mInv : Mat
  damp : Mat
  restore : BitVec 64
  tau : Vec
  omega : Vec
  zeta : BitVec 64
  wave : Bool

/-- Where u, v, r and p stand among the states. -/
def nuIndex : List Nat := [3, 4, 5, 7]

/-- Low-frequency accelerations: M ν̇ = τ + b - D ν, with the roll restoring moment (R190). -/
def CoreDev.accel (k : CoreDev) (i : CoreIn) : Vec :=
  let nu := nuIndex.map k.at
  let rest : Vec := [F64.zero, F64.zero, F64.zero, F64.mul i.restore (k.at 6)]
  Mat.mulVec i.mInv (Vec.sub (Vec.add i.tau [k.at 12, k.at 13, k.at 14, F64.zero]) (Vec.add (Mat.mulVec i.damp nu) rest))

/-- The rate of change of state `j`. -/
def CoreDev.rate (k : CoreDev) (i : CoreIn) (acc : Vec) (j : Nat) : BitVec 64 :=
  if j < 2 then Vec.at k.drift j
  else if j = 2 then k.at 5
  else if j < 6 then Vec.at acc (j - 3)
  else if j = 7 then Vec.at acc 3
  else if j = 6 || j = 8 || j = 10 || (decide (15 ≤ j ∧ j < 23) && j % 2 = 1) then k.at (j + 1)
  else if decide (15 ≤ j ∧ j < 23) then
    let w := Vec.at i.omega ((j - 16) / 2)
    F64.neg (F64.add (F64.mul (F64.scale (F64.mul i.zeta w) 2 1) (k.at j)) (F64.mul (F64.mul w w) (k.at (j - 1))))
  else if j = 36 then k.at 37
  else if decide (38 ≤ j ∧ j < 42) then k.at (j + 4)
  else F64.zero

/-- Row `j` of the Jacobian of those rates. -/
def CoreDev.slope (k : CoreDev) (i : CoreIn) (j : Nat) : List (Nat × BitVec 64) :=
  let (ch, sh) := (F64.cos (k.at 2), F64.sin (k.at 2))
  let vessel (m : Nat) : List (Nat × BitVec 64) :=
    let row := i.mInv.getD m []
    let damp := Mat.mulVec (Mat.transpose 4 i.damp) row
    nuIndex.zipIdx.map (fun p => (p.1, F64.neg (Vec.at damp p.2)))
      ++ [(12, Vec.at row 0), (13, Vec.at row 1), (14, Vec.at row 2), (6, F64.neg (F64.mul (Vec.at row 3) i.restore))]
  if j = 0 then [(2, F64.neg (Vec.at k.drift 1)), (3, ch), (4, F64.neg sh)]
  else if j = 1 then [(2, Vec.at k.drift 0), (3, sh), (4, ch)]
  else if j = 2 then [(5, F64.one)]
  else if j < 6 then vessel (j - 3)
  else if j = 7 then vessel 3
  else if j = 6 || j = 8 || j = 10 || (decide (15 ≤ j ∧ j < 23) && j % 2 = 1) then [(j + 1, F64.one)]
  else if decide (15 ≤ j ∧ j < 23) then
    let w := Vec.at i.omega ((j - 16) / 2)
    [(j - 1, F64.neg (F64.mul w w)), (j, F64.neg (F64.scale (F64.mul i.zeta w) 2 1))]
  else if j = 36 then [(37, F64.one)]
  else if decide (38 ≤ j ∧ j < 42) then [(j + 4, F64.one)]
  else []

/-- A row of 48 with the given elements. -/
def sparseRow (l : List (Nat × BitVec 64)) : Vec := l.foldl (fun r p => r.set p.1 (F64.add (Vec.at r p.1) p.2)) (Vec.zeros 48)

/-- A state is held at 0 with zero covariance: the spares, and the oscillators with WAVE_EN 0 (Table 8.1, R194). -/
def heldZero (wave : Bool) (j : Nat) : Bool := decide (46 ≤ j) || (!wave && decide (15 ≤ j ∧ j < 23))

/-- The states carried over `dt` seconds, with their covariance. -/
def CoreDev.predict (k : CoreDev) (i : CoreIn) (dt : BitVec 64) : CoreDev :=
  let acc := k.accel i
  let x := (List.range 48).map (fun j =>
    if heldZero i.wave j then F64.zero else F64.add (k.at j) (F64.mul dt (k.rate i acc j)))
  let f : Mat := (List.range 48).map (fun j => sparseRow ((j, F64.one) :: (k.slope i j).map (fun p => (p.1, F64.mul dt p.2))))
  let p := Mat.mul (Mat.mul f k.covMat) (Mat.transpose 48 f)
  let p := p.zipIdx.map (fun r => r.1.zipIdx.map (fun e =>
    if heldZero i.wave r.2 || heldZero i.wave e.2 then F64.zero
    else if r.2 = e.2 then F64.add e.1 (F64.mul dt (Config.coreNoise e.2)) else e.1))
  { k with x := x, cov := p, path := Vec.add [Vec.at k.path 0, Vec.at k.path 1] (Vec.smul dt k.drift) }

/-- The states carried from one tick to a later one, and the true time of each (5 ns a tick). -/
def secondsOf (ticks : Int) : BitVec 64 := F64.ofRatio ticks ticksPerSec
def CoreDev.carry (k : CoreDev) (i : CoreIn) (t0 t1 : Int) : CoreDev := if t1 ≤ t0 then k else k.predict i (secondsOf (t1 - t0))

/-! ### Updates -/

/-- One measurement against the core: its rows, innovation and noise variances. -/
structure Meas where
  h : Mat
  nu : Vec
  r : Vec

/-- S = H P Hᵀ + R. -/
def CoreDev.innovCov (k : CoreDev) (m : Meas) : Mat :=
  Mat.add (Mat.mul (Mat.mul m.h k.covMat) (Mat.transpose 48 m.h)) (Mat.diag m.r)

/-- NIS = νᵀ S⁻¹ ν (Table 8.2). -/
def CoreDev.nis (k : CoreDev) (m : Meas) : BitVec 64 := Vec.dot m.nu (Mat.solve (k.innovCov m) m.nu)

/-- The update of the extended Kalman filter (R190). -/
def CoreDev.update (k : CoreDev) (m : Meas) : CoreDev :=
  let p := k.covMat
  let s := k.innovCov m
  let ph := p.map (fun r => m.h.map (Vec.dot r))
  let x := k.full.zipWith F64.add (Mat.mulVec ph (Mat.solve s m.nu))
  let gain := ph.map (fun r => Mat.solve s r)
  let cov := p.zipWith (fun r g => r.zipIdx.map (fun e => F64.sub e.1 (Vec.dot g (ph.getD e.2 [])))) gain
  { k with x := x.set 2 (F64.wrapPi (Vec.at x 2)), cov := cov }

/-! ### Measurements of tracks (R182, R192, R193, R195) -/

/-- The class noise unit in SI units as a ratio: mm, 0.001 degree, 0.01 m/s, 0.1 % (Table 7.1). -/
def noiseUnit (k : Nat) : Int × Nat :=
  if k = 5 || k = 6 then (3141592653589793238462643, 180000 * 10 ^ 24) else if k = 7 || k = 8 then (1, 100) else (1, 1000)

/-- The track's noise sigma in SI units. -/
def sigmaSi (c : Cfg) (t : Nat) : BitVec 64 :=
  let u := noiseUnit (trkClass c t)
  F64.ofRatio (u.1 * trkSigma c t) u.2

/-- The lever arm in m. -/
def lever (c : Cfg) (t : Nat) : Vec := [FUS.TRK_LEV_X t, FUS.TRK_LEV_Y t, FUS.TRK_LEV_Z t].map (fun k => F64.ofRatio (c.s k 0 32) 1000)

/-- The fixed target of a REL_RANGE instance, north and east (Table 8.7). -/
def fixedTarget (st : Store) (inst : Nat) : Vec := [modelNum st (0x488 + 16 * inst), modelNum st (0x490 + 16 * inst)]

/-- How many numbers the core takes of a class. -/
def measLength (k : Nat) : Nat := if k = 5 then 1 else if k = 6 then 5 else 2

/-- A range and bearing as a vector to the target, north and east. -/
def rangeVector (heading : BitVec 64) (vals : Vec) : Vec :=
  let a := F64.add heading (Vec.at vals 1)
  [F64.mul (Vec.at vals 0) (F64.cos a), F64.mul (Vec.at vals 0) (F64.sin a)]

/-- A measurement brought to the vessel reference point with the attitude and rates of the core (R182). A range to a fixed target gives the
position, one to a moving target the target's place. -/
def atVrp (c : Cfg) (st : Store) (k : CoreDev) (t : Nat) (vals : Vec) : Vec :=
  let cls := trkClass c t
  let l := lever c t
  let arm := Mat.mulVec k.pose l
  let spin := Vec.cross k.rates l
  let flat : Vec := [Vec.at arm 0, Vec.at arm 1]
  if cls = 1 || cls = 2 || cls = 4 then Vec.sub [Vec.at vals 0, Vec.at vals 1] flat
  else if cls = 3 then
    let v := rangeVector k.heading vals
    if isPosition c t then Vec.sub (Vec.sub (fixedTarget st (trkInst c t)) v) flat else Vec.add (Vec.add k.place flat) v
  else if cls = 6 then
    [Vec.at vals 0, Vec.at vals 1, Vec.at vals 2, Vec.at vals 3,
     F64.sub (Vec.at vals 5) (F64.sub (Vec.at arm 2) (Vec.at l 2))]
  else if cls = 7 then
    let (v, g) := (Vec.at vals 0, Vec.at vals 1)
    Vec.sub [F64.mul v (F64.cos g), F64.mul v (F64.sin g)] [Vec.at spin 0, Vec.at spin 1]
  else if cls = 8 then Vec.sub [Vec.at vals 0, Vec.at vals 1] [Vec.at spin 0, Vec.at spin 1]
  else vals

/-- What the core predicts for the class, and the rows of the states it takes it from (R192, R193). -/
def predicted (k : CoreDev) (cls : Nat) : Vec × Mat :=
  let (ch, sh) := (F64.cos (k.at 2), F64.sin (k.at 2))
  if cls = 5 then ([k.heading], [sparseRow [(2, F64.one), (19, F64.one)]])
  else if cls = 6 then
    ([k.roll, k.rollRate, k.at 8, k.at 9, k.at 10],
     [sparseRow [(6, F64.one), (21, F64.one)], sparseRow [(7, F64.one), (22, F64.one)], sparseRow [(8, F64.one)],
      sparseRow [(9, F64.one)], sparseRow [(10, F64.one)]])
  else if cls = 8 then ([k.at 3, k.at 4], [sparseRow [(3, F64.one)], sparseRow [(4, F64.one)]])
  else (k.place, [sparseRow [(0, F64.one), (15, ch), (17, F64.neg sh)], sparseRow [(1, F64.one), (15, sh), (17, ch)]])

/-- The track's measurement with its bias removed (R195). -/
def trkMeas (c : Cfg) (st : Store) (k : CoreDev) (t : Nat) (vals : Vec) : Meas :=
  let cls := trkClass c t
  let z := atVrp c st k t vals
  let (p, h) := predicted k cls
  let nu := (List.range (measLength cls)).map (fun i =>
    F64.sub (F64.sub (Vec.at z i) (Vec.at p i)) (Vec.at (k.filter t).bias i))
  let nu := if cls = 5 then nu.map F64.wrapPi else nu
  let s := sigmaSi c t
  ⟨h, nu, List.replicate (measLength cls) (F64.mul s s)⟩

/-- The decoupled bias filter takes an innovation (R166, R186): each component by itself. -/
def TrkFilter.learn (f : TrkFilter) (nu : Vec) (s : Mat) : TrkFilter :=
  let gains := (List.range nu.length).map (fun i => F64.div (Vec.at f.biasVar i) (F64.add (Vec.at f.biasVar i) (Mat.get s i i)))
  { f with
    bias := (List.range nu.length).map (fun i => F64.add (Vec.at f.bias i) (F64.mul (Vec.at gains i) (Vec.at nu i)))
    biasVar := (List.range nu.length).map (fun i => F64.mul (F64.sub F64.one (Vec.at gains i)) (Vec.at f.biasVar i)) }

/-- The filter's record of an innovation, its covariance and its NIS (Table 7.5). -/
def TrkFilter.show (f : TrkFilter) (nu : Vec) (s : Mat) (nis : BitVec 64) : TrkFilter :=
  { f with innov := nu, innovVar := (List.range nu.length).map (fun i => Mat.get s i i), nis := nis }

/-! ### Moving targets (R206) -/

/-- A target's filter carried to a tick by the constant-velocity model with acceleration noise `q` (m/s²). -/
def TargetDev.carry (g : TargetDev) (q : BitVec 64) (t : Int) : TargetDev :=
  let dt := secondsOf (t - g.tick)
  let f : Mat := (List.range 4).map (fun i => (List.range 4).map (fun j => if i = j then F64.one else if j = i + 2 then dt else F64.zero))
  let n : Vec := [F64.scale (F64.mul dt dt) 1 2, dt]
  let noise : Mat := (List.range 4).map (fun i => (List.range 4).map (fun j =>
    if i % 2 = j % 2 then F64.mul (F64.mul q q) (F64.mul (Vec.at n (i / 2)) (Vec.at n (j / 2))) else F64.zero))
  { x := Mat.mulVec f g.x, cov := Mat.add (Mat.mul (Mat.mul f g.cov) (Mat.transpose 4 f)) noise, tick := t }

/-- The rows of a target's place among its states. -/
def targetRows : Mat := [[F64.one, F64.zero, F64.zero, F64.zero], [F64.zero, F64.one, F64.zero, F64.zero]]

/-- Innovation and its covariance of a target's place measured with noise variance `r`. -/
def TargetDev.innov (g : TargetDev) (z : Vec) (r : BitVec 64) : Vec × Mat :=
  ([F64.sub (Vec.at z 0) (Vec.at g.x 0), F64.sub (Vec.at z 1) (Vec.at g.x 1)],
   Mat.add (Mat.mul (Mat.mul targetRows g.cov) (Mat.transpose 4 targetRows)) (Mat.diag [r, r]))

def TargetDev.update (g : TargetDev) (z : Vec) (r : BitVec 64) : TargetDev :=
  let (nu, s) := g.innov z r
  let ph := g.cov.map (fun row => targetRows.map (Vec.dot row))
  { g with
    x := g.x.zipWith F64.add (Mat.mulVec ph (Mat.solve s nu))
    cov := g.cov.zipWith (fun row p => (row.zip ph).map (fun e => F64.sub e.1 (Vec.dot (Mat.solve s p) e.2))) ph }

/-- A new target at a place, at rest. -/
def targetStart (z : Vec) (t : Int) : TargetDev :=
  ⟨[Vec.at z 0, Vec.at z 1, F64.zero, F64.zero], Mat.diag ((List.range 4).map Config.targetVariance), t⟩

/-- Place and velocity of a track's target relative to the vessel, north and east, at a tick. -/
def CoreDev.relative (k : CoreDev) (q : BitVec 64) (t : Nat) (tick : Int) : Vec :=
  match Assoc.get none k.targets t with
  | none => Vec.zeros 4
  | some g => Vec.sub (g.carry q tick).x (k.place ++ k.drift)

/-! ### Measurements of satellites (R192) -/

/-- The speed of light, m/s. -/
def lightSpeed : BitVec 64 := F64.ofInt 299792458

/-- The core state that holds a system's offset from GPS time: Galileo, BeiDou, GLONASS, NavIC; none for GPS, QZSS, SBAS (R138). -/
def isbIndex (sys : Nat) : Option Nat :=
  if sys = 1 then some 0 else if sys = 2 then some 1 else if sys = 3 then some 2 else if sys = 5 then some 3 else none

/-- A satellite's rows: position along the line of sight, clock and inter-system offset in m. -/
def satRow (e : Vec) (sys : Nat) : Vec :=
  sparseRow ([(0, F64.neg (Vec.at e 0)), (1, F64.neg (Vec.at e 1)), (36, lightSpeed)]
    ++ (match isbIndex sys with | none => [] | some i => [(38 + i, lightSpeed)]))

/-- The range the core predicts from an antenna at lever arm `l` to a satellite. -/
def satRange (k : CoreDev) (range : BitVec 64) (e : Vec) (sys : Nat) (l : Vec) : BitVec 64 :=
  let ant := Vec.add (k.place ++ [F64.neg (k.at 10)]) (Mat.mulVec k.pose l)
  let clk := match isbIndex sys with | none => k.at 36 | some i => F64.add (k.at 36) (k.at (38 + i))
  F64.add (F64.sub range (Vec.dot e ant)) (F64.mul lightSpeed clk)

/-! ### The inertial state (R183) -/

/-- Gravity, m/s². -/
def gravity : BitVec 64 := F64.ofRatio 980665 100000

/-- A three-axis reading with scale factors, biases and the yaw misalignment of the core (Table 8.1). -/
def CoreDev.corrected (k : CoreDev) (bias scale : Nat) (v : Vec) : Vec :=
  let w := (List.range 3).map (fun i => F64.sub (F64.mul (F64.add F64.one (k.at (scale + i))) (Vec.at v i)) (k.at (bias + i)))
  let (cm, sm) := (F64.cos (k.at 35), F64.sin (k.at 35))
  [F64.sub (F64.mul cm (Vec.at w 0)) (F64.mul sm (Vec.at w 1)), F64.add (F64.mul sm (Vec.at w 0)) (F64.mul cm (Vec.at w 1)), Vec.at w 2]

/-- 0.5 ms: one step at 2 kHz. -/
def inertialDt : BitVec 64 := F64.ofRatio 1 2000

/-- Euler angles carried on by body rates. -/
def turnAngles (n : Vec) (w : Vec) : Vec :=
  let (cr, sr) := (F64.cos (Vec.at n 6), F64.sin (Vec.at n 6))
  let (cp, sp) := (F64.cos (Vec.at n 7), F64.sin (Vec.at n 7))
  let yaw := F64.div (F64.add (F64.mul sr (Vec.at w 1)) (F64.mul cr (Vec.at w 2))) cp
  let step (x r : BitVec 64) : BitVec 64 := F64.add x (F64.mul inertialDt r)
  [step (Vec.at n 6) (F64.add (Vec.at w 0) (F64.mul sp yaw)), step (Vec.at n 7) (F64.sub (F64.mul cr (Vec.at w 1)) (F64.mul sr (Vec.at w 2))),
   F64.wrapPi (step (Vec.at n 8) yaw)]

/-- One step on the internal unit: the strapdown equations. Also the accelerations of surge, sway, yaw and roll. -/
def inertialStep (k : CoreDev) (n gyro acc : Vec) : Vec × Vec :=
  let w := k.corrected 23 29 gyro
  let a := k.corrected 26 32 acc
  let pose := rotation (Vec.at n 8) (Vec.at n 7) (Vec.at n 6)
  let an := Vec.add (Mat.mulVec pose a) [F64.zero, F64.zero, gravity]
  let body := Mat.mulVec (Mat.transpose 3 pose) an
  let step (i : Nat) (r : BitVec 64) : BitVec 64 := F64.add (Vec.at n i) (F64.mul inertialDt r)
  let turn (i : Nat) : BitVec 64 := F64.div (F64.sub (Vec.at w i) (Vec.at n (9 + i))) inertialDt
  ((List.range 3).map (fun i => step i (Vec.at n (3 + i))) ++ (List.range 3).map (fun i => step (3 + i) (Vec.at an i)) ++ turnAngles n w ++ w,
   [Vec.at body 0, Vec.at body 1, turn 2, turn 0])

/-- One step without the internal unit: velocities of the core (the vessel model), rates of the held external sample or of the core. -/
def vesselStep (k : CoreDev) (n : Vec) (held : Option Vec) : Vec :=
  let v := k.drift
  let w : Vec := match held with
    | none => [k.at 7, k.at 9, k.at 5]
    | some s => [Vec.at s 1, Vec.at s 3, Vec.at s 4]
  let turned := turnAngles n w
  let att : Vec := match held with | none => turned | some s => [Vec.at s 0, Vec.at s 2, Vec.at turned 2]
  let down : BitVec 64 := match held with | none => F64.neg (k.at 10) | some s => F64.neg (Vec.at s 5)
  [F64.add (Vec.at n 0) (F64.mul inertialDt (Vec.at v 0)), F64.add (Vec.at n 1) (F64.mul inertialDt (Vec.at v 1)), down,
   Vec.at v 0, Vec.at v 1, F64.zero] ++ att ++ w

/-- The inertial state at a time within a frame: its opening and the increments over it (R178). -/
def nominalAt (opening incs : Vec) (t0 t1 t : Int) : Vec :=
  (List.range 12).map (fun i => F64.add (Vec.at opening i) (F64.scale (Vec.at incs i) (t - t0) (max 1 (t1 - t0).toNat)))

/-- North and east of a lever arm's point in an inertial state. -/
def leverPoint (n l : Vec) : Vec :=
  let arm := Mat.mulVec (rotation (Vec.at n 8) (Vec.at n 7) (Vec.at n 6)) l
  [F64.add (Vec.at n 0) (Vec.at arm 0), F64.add (Vec.at n 1) (Vec.at arm 1)]

/-- Velocity of a lever arm's point, north, east, down (R144). -/
def leverVelocity (n l : Vec) : Vec :=
  let spin := Vec.cross [Vec.at n 9, Vec.at n 10, Vec.at n 11] l
  Vec.add [Vec.at n 3, Vec.at n 4, Vec.at n 5] (Mat.mulVec (rotation (Vec.at n 8) (Vec.at n 7) (Vec.at n 6)) spin)

end Sys2Proof.Machine
end

