-- ==== Sys2Proof/Machine/Ranging.lean ====
section
/-! DEFINITION. The ranging baseband (05_ranging_signals.md, 06_ranging_integrity.md): antennas, notches, channels and their
windows, acquisition, tracking, measurement epochs, integrity checks, corrections, vector steering. -/
namespace Sys2Proof.Machine

/-! ### Antennas and paths (R115 to R119) -/

def Dev.ant (d : Dev) (a : Nat) : AntDev := Assoc.get {} d.rbb.ants a
def Dev.putAnt (d : Dev) (a : Nat) (x : AntDev) : Dev := { d with rbb := { d.rbb with ants := Assoc.set {} d.rbb.ants a x } }

/-- The antenna is OPEN or SHORT (R117). -/
def antFault (d : Dev) (a : Nat) : Bool := 2 ≤ d.f (RBB.ANT_STAT a) 0 2

/-- Path p = 2 a + b is enabled (Table 5.12). -/
def pathOn (c : Cfg) (p : Nat) : Bool := c.b (RBB.ANT_CFG (p / 2)) (1 + p % 2)

/-- The channels whose CH_STAT is not at its reset value, in ascending order: every channel that is not IDLE is one. -/
def shownChannels (d : Dev) : List Nat :=
  d.regs.filterMap (fun r => if r.1 % 2 ^ 32 = RBB.CH_STAT 0 then some (r.1 / 2 ^ 32) else none)

/-- The class of an antenna changes (R115): 0 OFF, 1 NORMAL, 2 OPEN, 3 SHORT. -/
def Dev.antClass (d : Dev) (a cls ma : Nat) : Dev :=
  let old := d.f (RBB.ANT_STAT a) 0 2
  let d := d.putF (RBB.ANT_STAT a) 0 2 cls
  if cls = old then d
  else if cls = 2 then d.event 0x1001 [a, ma]
  else if cls = 1 && 2 ≤ old then d.event 0x1004 [a, ma]
  else d

/-- A bias current at or above SHORT_MA opens the switch (R115, R116). -/
def Dev.antShort (d : Dev) (c : Cfg) (a ma : Nat) : Dev :=
  let x := d.ant a
  if !c.b (RBB.ANT_CFG a) 0 || !x.closed || ma < c.f (RBB.ANT_CFG a) 16 8 then d
  else
    let d := d.putAnt a { x with closed := false, below := 0, above := 0 }
    let d := (d.putF (RBB.ANT_STAT a) 8 8 ma).sat (RBB.ANT_STAT a) 16 8 1
    let d := (d.antClass a 3 ma).event 0x1002 [a, ma]
    if d.f (RBB.ANT_STAT a) 16 8 < 10 then d else (d.putB (RBB.ANT_STAT a) 2 true).event 0x1003 [a]

/-- ANT_SHORT (R115). -/
def execAntShort (ant : Fin 3) (ma : Fin 256) (s : State) : Out :=
  onDev s fun c d => d.antShort c ant.val ma.val

/-- ANT_BIAS_SAMPLE (R115): a 10 ms average; a class needs ten of them in a row. An open switch makes no test. DESIGN CHOICE (log 86):
the run of consecutive shorts of R116 ends when the class becomes NORMAL. -/
def execAntBiasSample (ant : Fin 3) (ma : Fin 256) (s : State) : Out :=
  onDev s fun c d =>
    let a := ant.val
    let x := d.ant a
    let low := c.f (RBB.ANT_CFG a) 8 8
    let short := c.f (RBB.ANT_CFG a) 16 8
    if !c.b (RBB.ANT_CFG a) 0 then (d.putF (RBB.ANT_STAT a) 8 8 0).antClass a 0 0
    else if !x.closed then d.putF (RBB.ANT_STAT a) 8 8 0
    else if short ≤ ma.val then d.antShort c a ma.val
    else
      let d := d.putF (RBB.ANT_STAT a) 8 8 ma.val
      if ma.val < low then
        let d := d.putAnt a { x with below := satU 8 (x.below + 1), above := 0 }
        if x.below + 1 < 10 then d else d.antClass a 2 ma.val
      else if low + 1 ≤ ma.val then
        let d := d.putAnt a { x with below := 0, above := satU 8 (x.above + 1) }
        if x.above + 1 < 10 then d else (d.putF (RBB.ANT_STAT a) 16 8 0).antClass a 1 ma.val
      else d.putAnt a { x with below := 0, above := 0 }

/-- ANT_BIAS_RETRY (R116): the switch closes again unless it is latched open. -/
def execAntBiasRetry (ant : Fin 3) (s : State) : Out :=
  onDev s fun c d =>
    let a := ant.val
    if d.b (RBB.ANT_STAT a) 2 || !c.b (RBB.ANT_CFG a) 0 then d
    else d.putAnt a { d.ant a with closed := true }

/-- PATH_STAT shows the notches of a path (R118). -/
def Dev.putNotches (d : Dev) (p : Nat) (l : List (Int × Nat)) : Dev :=
  { d with rbb := { d.rbb with notches := Assoc.set [] d.rbb.notches p l } }.putF (RBB.PATH_STAT p) 8 4 l.length

/-- A line put among the engaged ones, strongest first. -/
def insertNotch (x : Int × Nat) (l : List (Int × Nat)) : List (Int × Nat) :=
  match l with
  | [] => [x]
  | y :: t => if y.2 < x.2 then x :: y :: t else y :: insertNotch x t

/-- The engaged notch that a line falls into: within half of the 100 kHz width (R118; log 92). -/
def notchAt (off : Int) (l : List (Int × Nat)) : Option (Int × Nat) := l.find? (fun x => decide ((x.1 - off).natAbs ≤ 50000))

/-- NOTCH_ENGAGED (R118): at most NOTCH_MAX on a path, the strongest lines first. A line inside an engaged notch is that notch's own, which
follows it in frequency. -/
def execNotchEngaged (path : Fin 6) (offset : Int) (level : Nat) (s : State) : Out :=
  onDev s fun c d =>
    let p := path.val
    let k := RBB.PATH_CFG p
    let old := Assoc.get [] d.rbb.notches p
    if !c.b k 16 || !pathOn c p || level < c.f k 0 8 then d
    else match notchAt offset old with
      | some x => d.putNotches p (insertNotch (offset, level) (old.erase x))
      | none =>
        let l := (insertNotch (offset, level) old).take (c.f k 20 4)
        if l.contains (offset, level) then (d.putNotches p l).event 0x1005 [p, offset] else d

/-- NOTCH_DISENGAGED (R118): the line has fallen 3 dB below NOTCH_THR; until then the notch goes on at its new level. -/
def execNotchDisengaged (path : Fin 6) (line : SpectralLine) (s : State) : Out :=
  onDev s fun c d =>
    let l := Assoc.get [] d.rbb.notches path.val
    match notchAt line.offset l with
    | none => d
    | some x =>
      if line.level + 12 ≤ c.f (RBB.PATH_CFG path.val) 0 8 then d.putNotches path.val (l.erase x)
      else d.putNotches path.val (insertNotch (line.offset, line.level) (l.erase x))

/-- The notches of each path after a commit of its configuration: none while it or NOTCH_EN is off, else the NOTCH_MAX strongest of those
that stand at the new threshold (R118). -/
def Dev.notchesCommitted (d : Dev) (c : Cfg) : Dev :=
  (List.range 6).foldl (fun d p =>
    let k := RBB.PATH_CFG p
    let l := Assoc.get [] d.rbb.notches p
    let keep := if c.b k 16 && pathOn c p then (l.filter (fun x => decide (c.f k 0 8 < x.2 + 12))).take (c.f k 20 4) else []
    if keep = l then d else d.putNotches p keep) d

/-- A commit of the front-end page clears LATCHED whatever it writes (R116); a bias that is off has class OFF; the notches follow. -/
def Dev.frontEndCommitted (d : Dev) (c : Cfg) : Dev :=
  let d := (List.range 3).foldl (fun (d : Dev) a =>
    let d := if d.b (RBB.ANT_STAT a) 2 then
        ((d.putB (RBB.ANT_STAT a) 2 false).putF (RBB.ANT_STAT a) 16 8 0).putAnt a {}
      else d
    if c.b (RBB.ANT_CFG a) 0 then d else (d.putAnt a {}).antClass a 0 0) d
  d.notchesCommitted c

/-! ### Signals and channels (R120 to R128) -/

/-- Carrier frequency in Hz (Table 5.2); `k` is the GLONASS frequency number. -/
def sigCarrier (sig : Nat) (k : Int) : Int :=
  if sig = 12 then 1602000000 + 562500 * k
  else if sig = 13 then 1246000000 + 437500 * k
  else [1575420000, 1227600000, 1176450000, 1575420000, 1176450000, 1207140000, 1278750000, 1561098000, 1575420000, 1176450000, 1207140000,
    1268520000, 0, 0, 1575420000, 1227600000, 1176450000, 1176450000, 1575420000].getD sig 0

/-- Chip rate in chips a second (Table 5.2). -/
def sigChips (sig : Nat) : Nat :=
  [1023000, 1023000, 10230000, 1023000, 10230000, 10230000, 5115000, 2046000, 1023000, 10230000, 10230000, 10230000, 511000, 511000, 1023000,
    1023000, 10230000, 1023000, 1023000].getD sig 1

/-- The component tracked is a pilot (Table 5.2). -/
def sigPilot (sig : Nat) : Bool := [1, 2, 3, 4, 5, 6, 8, 9, 15, 16].contains sig

/-- The signal lies in upper L-band (Table 5.2). -/
def upperSignal (sig : Nat) : Bool := [0, 3, 7, 8, 12, 14, 18].contains sig

/-- The signal's chip rate is 5.115 Mchip/s or more (Table 5.2). -/
def wideSignal (sig : Nat) : Bool := [2, 4, 5, 6, 9, 10, 11, 16].contains sig

/-- The T_INT values Table 5.2 allows. -/
def tIntAllowed (sig sv : Nat) : List Nat :=
  let geo := decide (1 ≤ sv ∧ sv ≤ 5) || decide (59 ≤ sv ∧ sv ≤ 63)
  if sig = 1 || sig = 15 then [20]
  else if sig = 3 then [4, 8, 12, 16, 20]
  else if (sig = 7 || sig = 11) && geo then [1, 2]
  else if sig = 8 then [10, 20]
  else if sig = 10 then [1]
  else if sig = 12 || sig = 13 then [1, 2, 5, 10]
  else if sig = 18 then [1, 2, 4]
  else if sig ≤ 17 then [1, 2, 4, 5, 10, 20]
  else []

/-- The SV numbers of a signal's system (Table 5.4). -/
def svAllowed (sig sv : Nat) : Bool :=
  if sig = 12 || sig = 13 then decide (1 ≤ sv ∧ sv ≤ 24)
  else if sig = 18 then decide (120 ≤ sv ∧ sv ≤ 158)
  else decide (1 ≤ sv ∧ sv ≤ 63)

/-- The system of a signal (Table 5.2), numbered as GCFG.SYS numbers them. -/
def sigSystem (sig : Nat) : Nat :=
  if sig ≤ 2 then 0 else if sig ≤ 6 then 1 else if sig ≤ 11 then 2 else if sig ≤ 13 then 3
  else if sig ≤ 16 then 4 else if sig = 17 then 5 else 6

/-- The early-late spacing is allowed for the signal (R127). -/
def spacingOk (sig sp : Nat) : Bool := decide (1 ≤ sp ∧ sp ≤ 64) && (!wideSignal sig || decide (8 ≤ sp))

def Dev.chan (d : Dev) (n : Nat) : ChanDev := Assoc.get {} d.rbb.chans n
def Dev.putChan (d : Dev) (n : Nat) (x : ChanDev) : Dev := { d with rbb := { d.rbb with chans := Assoc.set {} d.rbb.chans n x } }

/-- CH_STAT.STATE (Table 5.8). -/
def chState (d : Dev) (n : Nat) : Nat := d.f (RBB.CH_STAT n) 0 4

/-- A channel's antenna, path and signal. -/
def chAnt (d : Dev) (n : Nat) : Nat := d.f (RBB.CH_CFG n) 16 2
def chSig (d : Dev) (n : Nat) : Nat := d.f (RBB.CH_CFG n) 0 5
def chPath (d : Dev) (n : Nat) : Nat := 2 * chAnt d n + (if upperSignal (chSig d n) then 0 else 1)
def chSv (d : Dev) (n : Nat) : Nat := d.f (RBB.CH_CFG n) 8 8
def chK (d : Dev) (n : Nat) : Int := d.s (RBB.CH_CFG n) 20 4
/-- The satellite as system × 256 + number. -/
def chSat (d : Dev) (n : Nat) : Nat := sigSystem (chSig d n) * 256 + chSv d n
/-- Wavelength and chip length, m. -/
def chWave (d : Dev) (n : Nat) : BitVec 64 := F64.div lightSpeed (F64.ofInt (sigCarrier (chSig d n) (chK d n)))
def chChip (d : Dev) (n : Nat) : BitVec 64 := F64.div lightSpeed (F64.ofInt (sigChips (chSig d n)))
/-- The channel's antenna is OPEN or SHORT: CH_STAT.ANT_FAULT (Table 5.7), formed where it is read. -/
def chAntFault (d : Dev) (n : Nat) : Bool := antFault d (chAnt d n)

/-- A channel changes state; CH_ALLOC and VEC_STAT count (Table 5.12, Table 6.4). -/
def Dev.chEnter (d : Dev) (n st : Nat) : Dev :=
  let old := chState d n
  let d := d.putF RBB.CH_ALLOC 0 9 (d.f RBB.CH_ALLOC 0 9 + (decide (st ≠ 0)).toNat - (decide (old ≠ 0)).toNat)
  let d := d.putF RBB.VEC_STAT 8 9 (d.f RBB.VEC_STAT 8 9 + (decide (st = 4)).toNat - (decide (old = 4)).toNat)
  d.putF (RBB.CH_STAT n) 0 4 st

/-- The channel a window shows (R124). -/
def windowChan (d : Dev) (w : Nat) : Nat := d.f (RBB.CHSEL w) 0 9

/-- CH_CFG_WRITE (R125): taken only while the channel is IDLE, else ignored and counted. -/
def execChCfgWrite (win : Fin 4) (reg : ChCfgReg) (value : Word) (s : State) : Out :=
  onWrite s fun _ d =>
    let n := windowChan d win.val
    let k := match reg with
      | .cfg => RBB.CH_CFG n
      | .aidDop => RBB.CH_AID_DOP n
      | .aidCode => RBB.CH_AID_CODE n
    if chState d n = 0 then d.put k (value &&& keyMask k) else d.bump RBB.CH_IGN_CNT

/-- The channel runs integrations: every state but IDLE and WAIT_ACQ. -/
def chIntegrates (d : Dev) (n : Nat) : Bool := 2 ≤ chState d n

/-- CH_LOOP_WRITE (R125, R127): taken at the next integration boundary; a channel that integrates nothing takes it at once. -/
def execChLoopWrite (win : Fin 4) (reg : ChLoopReg) (value : Word) (s : State) : Out :=
  onWrite s fun _ d =>
    let n := windowChan d win.val
    match reg with
    | .loop =>
      let v := value &&& keyMask (RBB.CH_LOOP n)
      if chIntegrates d n then d.putChan n { d.chan n with pendLoop := some v } else d.put (RBB.CH_LOOP n) v
    | .corr =>
      let v := value &&& keyMask (RBB.CH_CORR n)
      if chState d n != 0 && !spacingOk (chSig d n) (fld v 0 7) then d.bump RBB.CH_IGN_CNT
      else if chIntegrates d n then d.putChan n { d.chan n with pendCorr := some v }
      else d.put (RBB.CH_CORR n) v

/-- Pending loop writes are taken at the integration boundary (R125); a channel that stops integrating takes them there. -/
def Dev.takeLoop (d : Dev) (n : Nat) : Dev :=
  let x := d.chan n
  let d := match x.pendLoop with | none => d | some v => d.put (RBB.CH_LOOP n) v
  let d := match x.pendCorr with | none => d | some v => d.put (RBB.CH_CORR n) v
  d.putChan n { x with pendLoop := none, pendCorr := none }

/-- The result of a START (Table 5.9), tested in the table's order (log 21). -/
def startResult (c : Cfg) (d : Dev) (n : Nat) (aided : Bool) : Nat :=
  let cfg := d.w (RBB.CH_CFG n)
  let sig := fld cfg 0 5
  let sv := fld cfg 8 8
  let k := sfld cfg 20 4
  if chState d n != 0 then 1
  else if 19 ≤ sig || !svAllowed sig sv || fld cfg 16 2 = 3 || k < -7 || 6 < k then 2
  else if c.f SYS.CALIBRE 0 2 != 3 && (decide (256 ≤ n) || (bit cfg 18 && fld cfg 16 2 != 0)) then 3
  else if !spacingOk sig (d.f (RBB.CH_CORR n) 0 7) then 4
  else if !(tIntAllowed sig sv).contains (d.f (RBB.CH_LOOP n) 0 5) then 5
  else if !pathOn c (chPath d n) then 6
  else if aided && !d.b (RBB.CH_AID_CODE n) 31 then 7
  else 0

/-- The channel joins the acquisition queue at its tail (R129). -/
def Dev.enqueue (d : Dev) (n : Nat) : Dev :=
  let q := d.rbb.queue ++ [n]
  { d with rbb := { d.rbb with queue := q } }.putF RBB.ACQ_QUEUE 0 9 q.length

/-- The channel leaves the acquisition queue. -/
def Dev.dequeue (d : Dev) (n : Nat) : Dev :=
  let q := d.rbb.queue.filter (· != n)
  { d with rbb := { d.rbb with queue := q } }.putF RBB.ACQ_QUEUE 0 9 q.length

/-- The channel enters PULL_IN at a code phase and Doppler (R126, R129, R131, R132): the FLL runs alone, without carrier lock. -/
def Dev.pullIn (d : Dev) (n code : Nat) (dop : Word) : Dev :=
  ((d.putChan n { d.chan n with
    goodSince := none, lowSince := none, codePhase := code, doppler := dop, codeTick := d.tick, pullTick := d.tick, prompts := []
    requeue := none, served := false, pll := false }).putB (RBB.CH_STAT n) 24 false).chEnter n 2

/-- A START that is carried out measures anew: CH_STAT keeps STATE, the loss count and lock time restart. -/
def Dev.chStart (d : Dev) (n : Nat) : Dev :=
  let d := d.put (RBB.CH_STAT n) (wd (chState d n))
  ((d.putN (RBB.CH_LOSS_CNT n) 0).putN (RBB.CH_LOCK_MS n) 0).putChan n {}

/-- START_AIDED (R126). -/
def execStartAided (win : Fin 4) (s : State) : Out :=
  onWrite s fun c d =>
    let n := windowChan d win.val
    let r := startResult c d n true
    if r != 0 then d.putF (RBB.CH_STAT n) 4 4 r
    else (d.chStart n).pullIn n (d.f (RBB.CH_AID_CODE n) 0 20) (d.w (RBB.CH_AID_DOP n))

/-- START_ACQ (R126). -/
def execStartAcq (win : Fin 4) (s : State) : Out :=
  onWrite s fun c d =>
    let n := windowChan d win.val
    let r := startResult c d n false
    if r != 0 then d.putF (RBB.CH_STAT n) 4 4 r
    else ((d.chStart n).chEnter n 1).enqueue n

def Dev.engine (d : Dev) (e : Nat) : EngineDev := Assoc.get {} d.rbb.engines e
def Dev.putEngine (d : Dev) (e : Nat) (x : EngineDev) : Dev :=
  let d := { d with rbb := { d.rbb with engines := Assoc.set {} d.rbb.engines e x } }
  match x.ch with
  | none => d.putN (RBB.ENG_STAT e) 0
  | some n => d.putN (RBB.ENG_STAT e) (1 + n * 2)

/-- Dwells of the search of an engine so far, each T_COH × N_NC ms (ENGe_STAT, formed where it is read). -/
def engineDwells (c : Cfg) (d : Dev) (e : Nat) : Nat :=
  let x := d.engine e
  if x.ch.isNone then 0 else satU 16 ((d.tick - x.start) / (max 1 (c.f RBB.ACQ_CFG 0 5 * c.f RBB.ACQ_CFG 5 6) * ticksPerMs))

/-- STOP (R126): to IDLE from any state, out of the queue; a search under way for the channel is to be abandoned. In calibres A to C
channels 256 to 383 do not exist, and the command is refused (R122). -/
def execStop (win : Fin 4) (s : State) : Out :=
  onWrite s fun c d =>
    let n := windowChan d win.val
    if c.f SYS.CALIBRE 0 2 != 3 && decide (256 ≤ n) then d.putF (RBB.CH_STAT n) 4 4 3
    else
      let d := (((d.takeLoop n).dequeue n).chEnter n 0).putF (RBB.CH_STAT n) 4 4 0
      let d := d.putChan n { d.chan n with requeue := none, served := false, nextRates := none }
      (List.range 2).foldl (fun d e =>
        if (d.engine e).ch = some n then d.putEngine e { d.engine e with abandon := true } else d) d

/-! ### Acquisition (R129) -/

/-- ACQ_SEARCH_START (R129): a free engine takes the head of the queue. -/
def execAcqSearchStart (eng : Fin 2) (s : State) : Out :=
  onDev s fun _ d =>
    match (d.engine eng.val).ch, d.rbb.queue with
    | none, n :: rest =>
      let d := { d with rbb := { d.rbb with queue := rest } }.putF RBB.ACQ_QUEUE 0 9 rest.length
      let aid := if d.b (RBB.CH_AID_CODE n) 31 then some (d.f (RBB.CH_AID_CODE n) 0 20, d.w (RBB.CH_AID_DOP n)) else none
      d.putEngine eng.val { ch := some n, abandon := false, start := d.tick, aid := aid }
    | _, _ => d

/-- An abandoned search ends: its result is discarded and counted (R126). -/
def Dev.acqAbandon (d : Dev) (e : Nat) : Dev := (d.putEngine e {}).bump RBB.ACQ_ABANDON_CNT

/-- A cell lies in the range searched (R129): around the aid within HOT_CODE and HOT_DOP, else the whole code within COLD_DOP. -/
def inSearch (c : Cfg) (aid : Option (Nat × Word)) (code : Nat) (dop : Word) : Bool :=
  match aid with
  | none => decide (dop.toInt.natAbs ≤ c.f RBB.ACQ_CFG 24 8 * 100 * 256)
  | some (a, f) =>
    decide (((code : Int) - a).natAbs ≤ c.f RBB.ACQ_HOT 8 8 * 64)
      && decide ((dop.toInt - f.toInt).natAbs ≤ c.f RBB.ACQ_HOT 0 8 * 10 * 256)

/-- ACQ_DONE (R129): a cell of the range searched whose peak-to-noise ratio reaches THR. -/
def execAcqDone (eng : Fin 2) (cell : AcqCell) (ratio : BitVec 8) (s : State) : Out :=
  onDev s fun c d =>
    let x := d.engine eng.val
    match x.ch with
    | none => d
    | some n =>
      if x.abandon then d.acqAbandon eng.val
      else if ratio.toNat < c.f RBB.ACQ_CFG 16 8 || !inSearch c x.aid cell.code.toNat cell.dop then d
      else ((d.putEngine eng.val {}).pullIn n cell.code.toNat cell.dop).event 0x1006 [n, cell.code.toNat, cell.dop.toInt]

/-- ACQ_SEARCH_MISS (R129): the channel re-enters the queue after 1 s. -/
def execAcqSearchMiss (eng : Fin 2) (s : State) : Out :=
  onDev s fun _ d =>
    let x := d.engine eng.val
    match x.ch with
    | none => d
    | some n =>
      if x.abandon then d.acqAbandon eng.val
      else ((d.putEngine eng.val {}).bump RBB.ACQ_MISS_CNT).putChan n { d.chan n with requeue := some d.tick }

/-- ACQ_REQUEUE (R129). -/
def execAcqRequeue (ch : Fin 384) (s : State) : Out :=
  onDev s fun _ d =>
    let x := d.chan ch.val
    match x.requeue with
    | none => d
    | some t =>
      if chState d ch.val != 1 then d
      else ((d.advanceTo (t + ticksPerSec)).putChan ch.val { x with requeue := none }).enqueue ch.val

/-- ACQ_ABANDON (R126): a dwell boundary of a search whose channel was stopped. -/
def execAcqAbandon (eng : Fin 2) (s : State) : Out :=
  onDev s fun _ d =>
    if (d.engine eng.val).ch.isSome && (d.engine eng.val).abandon then d.acqAbandon eng.val else d

/-! ### Vector steering (R142 to R148) -/

/-- The cause that makes steering unavailable (R142, VEC_STAT.HOLD): 0 none, 1 estimate not VALID, 2 SPLIT, 3 MISSES, 4 DOA,
5 disabled. -/
def vecCause (c : Cfg) (d : Dev) : Nat :=
  if !c.b RBB.VEC_CFG 0 then 5
  else if d.b RBB.INT_FLAG 10 || d.b RBB.INT_FLAG 11 then 4
  else if d.b FUS.SPLIT_STAT 0 then 2
  else if !d.b FUS.EST_STAT 2 then 1
  else if d.rbb.missStop then 3
  else 0

/-- A cause ends steering (R143); while none is present the frames that close are counted elsewhere (R142). -/
def Dev.vecRefresh (d : Dev) (c : Cfg) : Dev :=
  let cause := vecCause c d
  if cause = 0 then d
  else
    let was := d.b RBB.VEC_STAT 0
    let d := { d with rbb := { d.rbb with clearFrames := 0 } }
    let d := (d.putB RBB.VEC_STAT 0 false).putF RBB.VEC_STAT 1 3 cause
    if was then d.event 0x100A [cause] else d

/-- A fusion frame closes (R142): it counts when no cause is present; the stop by misses ends with it. -/
def Dev.vecFrame (d : Dev) (c : Cfg) : Dev :=
  let d := d.vecRefresh c
  let d := { d with rbb := { d.rbb with missStop := false } }
  if vecCause c d != 0 then d
  else { d with rbb := { d.rbb with clearFrames := satU 8 (d.rbb.clearFrames + 1) } }

/-- VEC_RESUME (R142, R143): 100 consecutive fusion frames with no cause present. -/
def execVecResume (s : State) : Out :=
  onDev s fun c d =>
    if d.b RBB.VEC_STAT 0 || vecCause c d != 0 || d.rbb.clearFrames < 100 then d
    else ((d.putB RBB.VEC_STAT 0 true).putF RBB.VEC_STAT 1 3 0).event 0x100B

/-- A channel enters VECTOR (R131) on the rates last applied; the fusion engine's first rates are due a beat later (R144). -/
def Dev.vectorEntry (d : Dev) (n : Nat) : Dev :=
  let x := d.chan n
  (d.putChan n { x with nextRates := some (x.codeRate, x.carrierRate), miss := 0, pllOut := 0 }).chEnter n 4

/-- The phase-centre lever arm of an antenna: that of its GNSS_INT track (R144, R182); 0 without one. -/
def antLever (c : Cfg) (a : Nat) : Vec :=
  match (enabledTracks c).find? (fun t => trkClass c t = 1 && trkInst c t = a) with
  | none => Vec.zeros 3
  | some t => lever c t

/-- What is known of a channel's satellite. -/
def chView (d : Dev) (n : Nat) : Option SatView := d.rbb.views.find? (fun v => v.sat.sys.val * 256 + v.sat.sv.val = chSat d n)

/-- The predicted rate of change of range from a channel's antenna to its satellite, m/s (R144): the inertial state propagated at 2 kHz, the
lever arm, the receiver clock drift and, for a system that is not on GPS time, the drift of its offset. -/
def predictedRate (c : Cfg) (d : Dev) (n : Nat) (v : SatView) : BitVec 64 :=
  let k := d.fus.core
  let drift := match isbIndex v.sat.sys.val with | none => k.at 37 | some i => F64.add (k.at 37) (k.at (42 + i))
  F64.add (F64.sub v.rate (Vec.dot v.e (leverVelocity d.fus.nominal (antLever c (chAnt d n))))) (F64.mul lightSpeed drift)

/-- Doppler in 2^-8 Hz of a range rate. -/
def dopplerOf (d : Dev) (n : Nat) (rate : BitVec 64) : Word :=
  wd (unsigned 32 (F64.roundTo (F64.neg (F64.div rate (chWave d n))) 256 1))

/-- Code phase carried on to now at the channel's Doppler (R132). -/
def codeNow (d : Dev) (n : Nat) : Nat :=
  let x := d.chan n
  (x.codePhase + Config.codeAhead (chSig d n) x.doppler.toInt (d.tick - x.codeTick)) % 2 ^ 20

/-- VECTOR_STEERING_WRITE (R144): rates for the VECTOR channels; those it keeps serving take the prediction of R148. -/
def execVectorSteeringWrite (_ : Unit) (s : State) : Out :=
  onDev s fun c d =>
    (shownChannels d).foldl (fun d n =>
      match chView d n with
      | none => d
      | some v =>
        let rate := predictedRate c d n v
        if chState d n = 4 then d.putChan n { d.chan n with nextRates := some (rate, rate) }
        else if (d.chan n).served then
          d.putChan n { d.chan n with codePhase := codeNow d n, codeTick := d.tick, doppler := dopplerOf d n rate }
        else d) d

/-- A beat boundary at the VECTOR channels (R144, R145): written rates are applied, the code rate with the addition of the last frame; a
missed beat counts and keeps the last ones. -/
def Dev.vecBoundary (d : Dev) : Dev :=
  ((shownChannels d).filter (fun n => chState d n = 4)).foldl (fun d n =>
    let x := d.chan n
    let left := x.trimBeats - 1
    match x.nextRates with
    | some r =>
      let code := if 0 < x.trimBeats then F64.add r.1 x.trim else r.1
      d.putChan n { x with codeRate := code, carrierRate := r.2, nextRates := none, miss := 0, trimBeats := left, codeTick := d.tick
                           codePhase := codeNow d n, doppler := wd (unsigned 32 ((dopplerOf d n r.2).toInt + F64.roundTo x.pllOut 256 1)) }
    | none => (d.putChan n { x with miss := satU 8 (x.miss + 1), trimBeats := left }).bump RBB.VEC_MISS_CNT) d

/-- A fusion frame adds the estimated code-phase error over 10 ms to the code rate of the following 10 beats (R145). -/
def Dev.codeTrim (d : Dev) : Dev :=
  ((shownChannels d).filter (fun n => chState d n = 4)).foldl (fun d n =>
    let x := d.chan n
    d.putChan n { x with trim := F64.scale (F64.mul x.codeErr (chChip d n)) 100 1, trimBeats := 10 }) d

/-- VEC_MISS_LIMIT (R144): some channel has missed MISS_MAX beats in a row. -/
def execVecMissLimit (s : State) : Out :=
  onDev s fun c d =>
    if d.b RBB.VEC_STAT 0 && (shownChannels d).any (fun n => chState d n = 4 && c.f RBB.VEC_CFG 16 3 ≤ (d.chan n).miss) then
      { d with rbb := { d.rbb with missStop := true } }.vecRefresh c
    else d

/-! ### Tracking (R121, R131, R132, R146) -/

/-- The integration time in use, ms (R121): 1 ms until synchronisation, then T_INT. DESIGN CHOICE (log 83): a pilot component also
integrates over 1 ms before its secondary-code synchronisation, where the rule gives a time for data components only. -/
def chTInt (d : Dev) (n : Nat) : Nat := if d.b (RBB.CH_STAT n) 25 then d.f (RBB.CH_LOOP n) 0 5 else 1

/-- The early-late spacing in chips (Table 5.6). -/
def chSpacing (d : Dev) (n : Nat) : BitVec 64 :=
  let s := d.f (RBB.CH_CORR n) 0 7
  if s = 1 then F64.ofRatio 1 40 else F64.ofRatio s 64

def tapAmplitude (t : Tap) : BitVec 64 := F64.sqrt (F64.ofInt (t.i * t.i + t.q * t.q))
def tapPower (t : Tap) : Nat := (t.i * t.i + t.q * t.q).toNat

/-- An angle in cycles. -/
def inCycles (x : BitVec 64) : BitVec 64 := F64.div x (F64.scale F64.pi 2 1)

/-- Code error in chips: (1 - S/2)(|E| - |L|) / (|E| + |L|) (R146); 0 without a signal. -/
def codeError (d : Dev) (n : Nat) (o : IntegrationObs) : BitVec 64 :=
  let (e, l) := ((tapAmplitude o.early), (tapAmplitude o.late))
  let sum := F64.add e l
  if (F64.val sum).getD 0 = 0 then 0
  else F64.div (F64.mul (F64.sub F64.one (F64.scale (chSpacing d n) 1 2)) (F64.sub e l)) sum

/-- Carrier phase error in cycles: atan2(Q, I) on a pilot, atan(Q / I) on data (R146). -/
def phaseError (d : Dev) (n : Nat) (o : IntegrationObs) : BitVec 64 :=
  let flip : Int := if o.prompt.i < 0 && !sigPilot (chSig d n) then -1 else 1
  inCycles (F64.atan2 (F64.ofInt (flip * o.prompt.q)) (F64.ofInt (flip * o.prompt.i)))

/-- Frequency error in Hz over the two last prompts, the earlier one first (R146). -/
def freqError (tInt : Nat) (i1 q1 i2 q2 : Int) : BitVec 64 :=
  F64.scale (inCycles (F64.atan2 (F64.ofInt (i1 * q2 - q1 * i2)) (F64.ofInt (i1 * i2 + q1 * q2)))) 1000 (max 1 tInt)

/-- The discriminator item of a VECTOR channel (R146, R147); `last` is the prompt before this one. -/
def Dev.discItem (d : Dev) (c : Cfg) (n tInt : Nat) (last : Int × Int) (o : IntegrationObs) : Dev :=
  let st := d.w (RBB.CH_STAT n)
  let code := codeError d n o
  let freq := freqError tInt last.1 last.2 o.prompt.i o.prompt.q
  let bytes := F64.bytes code ++ F64.bytes (phaseError d n o) ++ F64.bytes freq ++ leBytes 2 (fld st 8 16) ++ leBytes 1 tInt
    ++ leBytes 1 ((bit st 24).toNat + (bit st 25).toNat * 2 + (chAntFault d n).toNat * 4) ++ leBytes 4 0
  let range := F64.absAbove code 1 2 || F64.absAbove freq 250 tInt
  let out := Config.residualPll (c.f RBB.VEC_CFG 8 8) tInt (d.chan n).pllOut (phaseError d n o)
  (d.putChan n { d.chan n with codeErr := code, pllOut := out }).capture c (c.f RBB.VEC_DISC 0 16 + n) 3 d.tick
    (if range then qRANGE else 0) bytes

/-- C/N0 at which a channel counts as good: LOSS_CN0 + HYST (R131, R132), UQ8.8. -/
def goodCn0 (c : Cfg) : Nat := (c.f RBB.TRK_CFG 0 8 + c.f RBB.TRK_CFG 8 8) * 256

/-- What an integration adds to the channel (R131, R162): its prompt of the last 200 ms, the roving ratio of the last second. -/
def Dev.takeTaps (d : Dev) (n : Nat) (o : IntegrationObs) : Dev :=
  let x := d.chan n
  let prompts := (d.tick, o.prompt.i, o.prompt.q, (tapPower o.noise)) :: x.prompts.filter (fun p => decide (d.tick < p.1 + 200 * ticksPerMs))
  let amp := (tapAmplitude o.prompt)
  let rove := if d.b (RBB.CH_CFG n) 19 && (F64.val amp).getD 0 != 0 then
      (d.tick, F64.div (tapAmplitude o.rove) amp) :: x.rove.filter (fun p => decide (d.tick < p.1 + ticksPerSec))
    else []
  d.putChan n { x with prompts := prompts, rove := rove }

/-- C/N0 of the prompts and noise of the last 200 ms (R131). -/
def cn0Now (d : Dev) (n tInt : Nat) : BitVec 16 :=
  let l := (d.chan n).prompts
  Config.cn0Of (l.foldl (fun s p => s + (p.2.1 * p.2.1 + p.2.2.1 * p.2.2.1).toNat) 0) (l.foldl (fun s p => s + p.2.2.2) 0) l.length tInt

/-- The phase-lock indicator of the prompts of the last 100 ms (R131), 10^-6. -/
def lockNow (d : Dev) (n : Nat) : Nat :=
  Config.lockIndicator (((d.chan n).prompts.filter (fun p => decide (d.tick < p.1 + 100 * ticksPerMs))).map (fun p => (p.2.1, p.2.2.1)))

/-- A condition that holds since a tick. -/
def sinceWhen (cond : Bool) (was : Option Nat) (now : Nat) : Option Nat := if cond then some (was.getD now) else none

/-- The lock indicators of an integration (R131, R132, Table 5.7, Table 6.1). -/
def Dev.lockState (d : Dev) (c : Cfg) (n tInt : Nat) (o : IntegrationObs) : Dev :=
  let k := RBB.CH_STAT n
  let was := d.b k 24
  let cn0 := (cn0Now d n tInt).toNat
  let ind := lockNow d n
  let lock := if chState d n = 2 && !(d.chan n).pll then false
    else if 800000 ≤ ind then true else if ind < 600000 then false else was
  let d := (((d.putF k 8 16 cn0).putB k 24 lock).putB k 25 o.sync).putB k 26 o.halfCycle
  let d := if lock then d.sat (RBB.CH_LOCK_MS n) 0 32 tInt else d.putN (RBB.CH_LOCK_MS n) 0
  let x := d.chan n
  let top := c.f RBB.CN0_CFG 0 8 * 256
  let d := d.putChan n { x with
    goodSince := sinceWhen (decide (goodCn0 c ≤ cn0)) x.goodSince d.tick
    lowSince := sinceWhen (decide (cn0 < c.f RBB.TRK_CFG 0 8 * 256)) x.lowSince d.tick
    highSince := sinceWhen (decide (top < cn0)) x.highSince d.tick
    range := o.range, phase := o.phase, lostSinceEpoch := x.lostSinceEpoch || (was && !lock) }
  if top < cn0 + 768 then { d with rbb := { d.rbb with highTick := some d.tick } } else d

/-- A channel in PULL_IN may enter TRACK (R131): PLL_LOCK set, or no PLL and C/N0 good for 200 ms. -/
def mayTrack (d : Dev) (n : Nat) : Bool :=
  d.b (RBB.CH_STAT n) 24 || (d.f (RBB.CH_LOOP n) 8 8 = 0 && match (d.chan n).goodSince with
    | none => false
    | some t => t + 200 * ticksPerMs ≤ d.tick)

/-- Code phase and Doppler of the channel's own NCOs, outside VECTOR and LOST. -/
def Dev.takeNco (d : Dev) (n : Nat) (o : IntegrationObs) : Dev :=
  d.putChan n { d.chan n with codePhase := o.code.toNat, doppler := o.doppler, codeTick := d.tick }

/-- What the taps of a LOST channel find lies around the prediction: within ±2 chips and ±100 Hz (R132). -/
def nearPrediction (d : Dev) (n : Nat) (o : IntegrationObs) : Bool :=
  decide (((o.code.toNat : Int) - codeNow d n).natAbs ≤ 128) && decide ((o.doppler.toInt - (d.chan n).doppler.toInt).natAbs ≤ 25600)

/-- INTEGRATION_END (R121, R131, R132, R143, R146). -/
def execIntegrationEnd (ch : Fin 384) (obs : IntegrationObs) (s : State) : Out :=
  onDev s fun c d =>
    let n := ch.val
    let st := chState d n
    if st < 2 then d
    else
      let tInt := chTInt d n
      let last := match (d.chan n).prompts with | [] => ((0 : Int), (0 : Int)) | p :: _ => (p.2.1, p.2.2.1)
      let d := (((d.takeTaps n obs).lockState c n tInt obs)).takeLoop n
      if st = 2 then
        let d := d.takeNco n obs
        if mayTrack d n then d.chEnter n 3 else d
      else if st = 3 then
        let d := d.takeNco n obs
        if d.b (RBB.CH_CFG n) 18 && d.b RBB.VEC_STAT 0 then d.vectorEntry n else d
      else if st = 4 then
        let d := d.discItem c n tInt last obs
        if d.b RBB.VEC_STAT 0 then d else d.chEnter n 3
      else if decide (goodCn0 c ≤ d.f (RBB.CH_STAT n) 8 16) && nearPrediction d n obs then d.pullIn n obs.code.toNat obs.doppler
      else d

/-- PLL_ENGAGE (R131): the FLL alone has run for 200 ms. -/
def execPllEngage (ch : Fin 384) (s : State) : Out :=
  onDev s fun _ d =>
    let n := ch.val
    if chState d n != 2 || d.f (RBB.CH_LOOP n) 8 8 = 0 then d
    else
      let d := d.advanceTo ((d.chan n).pullTick + 200 * ticksPerMs)
      let d := d.putChan n { d.chan n with pll := true }
      if mayTrack d n then d.chEnter n 3 else d

/-- CH_LOST (R132, R133, R148): C/N0 has been below LOSS_CN0 for LOSS_MS. -/
def execChLost (ch : Fin 384) (s : State) : Out :=
  onDev s fun c d =>
    let n := ch.val
    let st := chState d n
    match (d.chan n).lowSince with
    | none => d
    | some t =>
      if st != 3 && st != 4 then d
      else
        let d := d.advanceTo (t + c.f RBB.TRK_CFG 16 8 * 10 * ticksPerMs)
        let d := ((d.chEnter n 5).bump (RBB.CH_LOSS_CNT n)).putN (RBB.CH_LOCK_MS n) 0
        (d.putChan n { d.chan n with
          lostSinceEpoch := true, served := decide (st = 4), nextRates := none, lostTick := d.tick }).event 0x1007 [n]

/-- REACQ_TIMEOUT (R132): REACQ_S after the loss, WAIT_ACQ with the prediction as aid under AUTO_ACQ, else IDLE. -/
def execReacqTimeout (ch : Fin 384) (_ _ : Unit) (s : State) : Out :=
  onDev s fun c d =>
    let n := ch.val
    if chState d n != 5 then d
    else
      let d := d.advanceTo ((d.chan n).lostTick + c.f RBB.TRK_CFG 24 8 * ticksPerSec)
      let d := (d.putChan n { d.chan n with served := false }).takeLoop n
      if c.b RBB.GCFG 8 then
        (((d.put (RBB.CH_AID_DOP n) (d.chan n).doppler).putN (RBB.CH_AID_CODE n) (codeNow d n + 2 ^ 31)).chEnter n 1).enqueue n
      else d.chEnter n 0

/-! ### Integrity flags (R155 to R162, Table 6.1) -/

/-- Measurement epochs a second (GCFG.RATE), and beats from one to the next (R134). -/
def epochRate (c : Cfg) : Nat := [1, 2, 5, 10, 20].getD (c.f RBB.GCFG 4 3) 1
def epochBeats (c : Cfg) : Nat := 1000 / epochRate c

/-- A flag of Table 6.1 is raised with its test value. -/
def Dev.flagRaise (d : Dev) (b : Nat) (v : Int) : Dev :=
  if d.b RBB.INT_FLAG b then d
  else ((d.putB RBB.INT_FLAG b true).putB RBB.INT_SEEN b true).event 0x1010 [b, v]

/-- A flag is cleared. -/
def Dev.flagClear (d : Dev) (b : Nat) : Dev :=
  if d.b RBB.INT_FLAG b then (d.putB RBB.INT_FLAG b false).event 0x1011 [b] else d

/-- One evaluation of a flag: `fail` raises it; `need` passing evaluations in a row clear it (Table 6.1). -/
def Dev.flagEval (d : Dev) (b : Nat) (fail pass : Bool) (need : Nat) (v : Int) : Dev :=
  let n := if pass && !fail then satU 16 (Assoc.get 0 d.rbb.passes b + 1) else 0
  let d := { d with rbb := { d.rbb with passes := Assoc.set 0 d.rbb.passes b n } }
  if fail then d.flagRaise b v else if need ≤ n then d.flagClear b else d

/-- An instance's raising condition, by key (bit × 16 + instance), with the tick since which it holds. -/
def Dev.holdSince (d : Dev) (k : Nat) (cond : Bool) : Dev :=
  { d with rbb := { d.rbb with holds := Assoc.set none d.rbb.holds k (sinceWhen cond (Assoc.get none d.rbb.holds k) d.tick) } }

/-- That condition has held for a second. -/
def heldSecond (d : Dev) (since : Option Nat) : Bool :=
  match since with
  | none => false
  | some t => decide (t + ticksPerSec ≤ d.tick)

/-- A count of consecutive failures by key. -/
def Dev.countRun (d : Dev) (k : Nat) (fail : Bool) : Dev :=
  { d with rbb := { d.rbb with runs := Assoc.set 0 d.rbb.runs k (if fail then satU 8 (Assoc.get 0 d.rbb.runs k + 1) else 0) } }
def runOf (d : Dev) (k : Nat) : Nat := Assoc.get 0 d.rbb.runs k

/-- A satellite is excluded. -/
def isExcluded (d : Dev) (sat : Nat) : Bool := d.rbb.excluded.any (fun e => e.1.sys.val * 256 + e.1.sv.val = sat)

/-- Satellite `sat` (system × 256 + number) is excluded for EXCL_S seconds (R156, R158); while the cause stands the exclusion goes on, and is
recorded once. -/
def Dev.exclude (d : Dev) (c : Cfg) (sat signal : Nat) : Dev :=
  let x : Sat := ⟨⟨sat / 256 % 7, Nat.mod_lt _ (by decide)⟩, ⟨sat % 256, Nat.mod_lt _ (by decide)⟩⟩
  let until_ := d.tick + c.f RBB.RAIM_CFG 8 8 * ticksPerSec
  let was := d.rbb.excluded.any (fun e => e.1 == x)
  let d := { d with rbb := { d.rbb with excluded := (x, until_) :: d.rbb.excluded.filter (fun e => e.1 != x) } }
  if was then d else d.event 0x100E [x.sys.val, x.sv.val, signal]

/-- RAIM_EXCLUSION_EXPIRY (R156): the exclusion ends EXCL_S seconds after it began. -/
def execRaimExclusionExpiry (sat : Sat) (s : State) : Out :=
  onDev s fun _ d =>
    match d.rbb.excluded.find? (fun e => e.1 == sat) with
    | none => d
    | some e =>
      let d := { d.advanceTo e.2 with rbb := { d.rbb with excluded := d.rbb.excluded.filter (fun e => e.1 != sat) } }
      (List.range 3).foldl (fun d a => d.putF (RBB.SOL_INT a) 16 8 d.rbb.excluded.length) d

/-! ### Which channels a solution, the attitude and the DOA test use (R123, R136, R150, R156) -/

/-- TRACK or VECTOR with SYNC set. -/
def chMeasures (d : Dev) (n : Nat) : Bool := (chState d n = 3 || chState d n = 4) && d.b (RBB.CH_STAT n) 25

/-- The channels an antenna's solution uses: they measure, their system is enabled, their satellite is known and not excluded, and no
lower-numbered channel carries the same antenna, signal and satellite. -/
def usedChannels (c : Cfg) (d : Dev) (a : Nat) : List Nat :=
  let l := (shownChannels d).filter (fun n => chMeasures d n && chAnt d n = a && c.b RBB.GCFG (16 + sigSystem (chSig d n))
    && (chView d n).isSome && !isExcluded d (chSat d n))
  l.filter (fun n => !l.any (fun m => decide (m < n) && chSig d m = chSig d n && chSat d m = chSat d n))

/-- Key of an inter-frequency bias (R138). -/
def ifbKey (d : Dev) (n : Nat) : Nat :=
  chSig d n * 16 + (if chSig d n = 12 || chSig d n = 13 then (chK d n + 7).toNat else 0)
/-- The reference signals of R138: L1 C/A, E1, B1I, G1, L5 SPS. GLONASS biases stand per frequency number on both signals. -/
def ifbReference (sig : Nat) : Bool := sig = 0 || sig = 3 || sig = 7 || sig = 17

/-- The numbers of one measurement: system, satellite, signal, pseudorange less its inter-frequency bias, Doppler, carrier phase, C/N0,
PLL_LOCK, sigma, the unit vector, range and rate of the satellite. -/
def solutionRow (d : Dev) (n : Nat) : Vec :=
  match chView d n with
  | none => []
  | some v =>
    let x := d.chan n
    let cn0 := d.f (RBB.CH_STAT n) 8 16
    [F64.ofInt (sigSystem (chSig d n)), F64.ofInt (chSv d n), F64.ofInt (chSig d n),
     F64.sub x.range (Assoc.get 0 d.rbb.ifb (ifbKey d n)), F64.ofRatio x.doppler.toInt 256, x.phase, F64.ofRatio cn0 256,
     F64.ofInt (d.b (RBB.CH_STAT n) 24).toNat, Config.rangeSigma (BitVec.ofNat 16 cn0) (F64.neg (Vec.at v.e 2))] ++ v.e ++ [v.range, v.rate]

/-- The unknowns that measurements estimate (R156, R138): position, clock, an offset for each other time scale, a bias for each signal that
is no reference. -/
def unknowns (d : Dev) (l : List Nat) : Nat :=
  4 + (l.filterMap (fun n => isbIndex (sigSystem (chSig d n)))).eraseDups.length
    + ((l.filter (fun n => !ifbReference (chSig d n))).map (ifbKey d)).eraseDups.length

/-- The prior of an inter-system offset (R138): 10 ns about its broadcast value, 1 ms without one; in ps and ps². -/
def isbPrior (broadcast : Option Int) : BitVec 64 × BitVec 64 :=
  match broadcast with
  | some v => (F64.ofInt v, F64.ofInt (10000 * 10000))
  | none => (0, F64.ofInt (1000000000 * 1000000000))

/-- The offsets at an epoch (R138): each starts from its prior, then its variance grows by (0.1 ns)² a second. -/
def Dev.isbWalk (d : Dev) (broadcast : List (Option Int)) : Dev :=
  let dt := secondsOf ((d.tick : Int) - d.rbb.isbTick)
  let isb := (List.range 4).foldl (fun l i =>
    let v := match Assoc.get none l i with
      | none => isbPrior (broadcast.getD i none)
      | some (v, p) => (v, F64.add p (F64.mul (F64.ofInt 10000) dt))
    Assoc.set none l i (some v)) d.rbb.isb
  { d with rbb := { d.rbb with isb := isb, isbTick := d.tick } }

/-- The numbers that a solution carries over: PFA, the offsets with their variances, the station's position. -/
def carried (c : Cfg) (d : Dev) : Vec :=
  let isb := (List.range 4).map (fun i => (Assoc.get none d.rbb.isb i).getD (0, 0))
  let st : Vec := match d.rbb.station with | none => [] | some (_, x, y, z) => [x, y, z].map (fun v => F64.ofRatio v 10000)
  F64.ofInt (c.f RBB.RAIM_CFG 0 3) :: (isb.map (·.1) ++ isb.map (·.2) ++ st)

/-- The corrections may be used (R140). -/
def corrUsable (c : Cfg) (d : Dev) : Bool :=
  match d.rbb.corrTick with
  | none => false
  | some t => decide (d.tick ≤ t + c.f RBB.CORR_AGE 0 7 * ticksPerSec)

/-- The correction frames that a solution may use. -/
def corrData (c : Cfg) (d : Dev) : List (Nat × List Byte) := if corrUsable c d then d.rbb.corrections else []

/-- The position of the largest number of a list. -/
def largestAt (l : Vec) : Nat :=
  (l.zipIdx.foldl (fun (b : Nat × BitVec 64) p => if F64.lt b.2 p.1 then (p.2, p.1) else b) (0, F64.neg F64.one)).1

/-- The residual procedure of R156 over the channels used: how it ends (0 published, 1 unchecked, 2 failed), the channels left, t. -/
def Dev.raim (d : Dev) (c : Cfg) (used : List Nat) (excl fuel : Nat) : Nat × List Nat × BitVec 64 × Dev :=
  let res := Config.gnssResiduals (used.map (solutionRow d)) (corrData c d) (carried c d)
  let t := F64.sum (res.map (fun r => F64.mul r r))
  let k := unknowns d used
  if used.length < k + 1 then (1, used, t, d)
  else if chi2Within (c.f RBB.RAIM_CFG 0 3) (used.length - k) t then (0, used, t, d)
  else if excl = c.f RBB.RAIM_CFG 4 2 || used.length < k + 2 then (2, used, t, d)
  else match fuel with
    | 0 => (2, used, t, d)
    | f + 1 =>
      let worst := used.getD (largestAt (res.map F64.abs)) 0
      let d := d.exclude c (chSat d worst) (chSig d worst)
      d.raim c (used.filter (fun n => chSat d n != chSat d worst)) (excl + 1) f

/-- A baseline vector is not all 0 (R149). -/
def baselineOn (c : Cfg) (k : Nat) : Bool :=
  (List.range 3).any (fun i => c.w (if k = 0 then RBB.BL_B i else RBB.BL_C i) != 0)

/-- The body-frame vector of a baseline, m (R149). -/
def baselineVec (c : Cfg) (k : Nat) : Vec := (List.range 3).map (fun i => F64.ofRatio (c.s (if k = 0 then RBB.BL_B i else RBB.BL_C i) 0 32) 1000)

/-- The channel pairs (ANT_A, other antenna) that R150 admits: carrier lock on both, half cycles resolved on both for a data component, the
satellite not excluded, no GLONASS. -/
def baselinePairs (c : Cfg) (d : Dev) (k : Nat) : List (Nat × Nat) :=
  let fit (n : Nat) : Bool := d.b (RBB.CH_STAT n) 24 && (sigPilot (chSig d n) || d.b (RBB.CH_STAT n) 26)
  let other := usedChannels c d (k + 1)
  ((usedChannels c d 0).filter (fun n => fit n && sigSystem (chSig d n) != 3)).filterMap (fun n =>
    (other.find? (fun m => fit m && chSig d m = chSig d n && chSat d m = chSat d n)).map (fun m => (n, m)))

/-! ### Direction of arrival (R157, R158) -/

/-- x - floor(x). -/
def F64.frac (x : BitVec 64) : BitVec 64 := F64.ofRatio ((F64.val x).getD 0 % F64.unit) F64.unit
/-- x brought into -0.5 .. 0.5. -/
def wrapCycle (x : BitVec 64) : BitVec 64 := F64.sub (F64.frac (F64.add x (F64.ofRatio 1 2))) (F64.ofRatio 1 2)

/-- The mean of exp(j 2π x): its modulus, and its argument in cycles. -/
def phasorMean (l : Vec) : BitVec 64 × BitVec 64 :=
  let turn (x : BitVec 64) : BitVec 64 := F64.mul (F64.scale F64.pi 2 1) x
  let (re, im) := (F64.sum (l.map (fun x => F64.cos (turn x))), F64.sum (l.map (fun x => F64.sin (turn x))))
  (F64.div (Vec.norm [re, im]) (F64.ofInt (max 1 l.length)), inCycles (F64.atan2 im re))

/-- A number of 0 to 1 as UQ0.8. -/
def uq8 (x : BitVec 64) : Nat := satU 8 (F64.floor (F64.scale x 256 1)).toNat

/-- The heading track whose attitude the reference takes (R157): VALID, and not the baseline attitude. -/
def refTrack (c : Cfg) (d : Dev) : Option Nat :=
  (enabledTracks c).find? (fun t => trkClass c t = 5 && trkSource c t != c.f RBB.ATT_SRC 0 16 && d.b (FUS.TRK_STAT t) 3)

/-- The reference attitude of a beat (R157): the heading of that track, pitch and roll of the inertial state; DOA_STAT.MODE shows whether
there is none. -/
def Dev.referAttitude (d : Dev) (c : Cfg) : Dev :=
  let att := (refTrack c d).bind (fun t => (d.trk t).last.map (fun p =>
    (Vec.at p.2 0, Vec.at d.fus.nominal 7, Vec.at d.fus.nominal 6)))
  ({ d with rbb := { d.rbb with refAtt := att } } : Dev).putB RBB.DOA_STAT 24 att.isNone

/-- One run of the direction-of-arrival test on a baseline and a signal (R158): whether it ran, and failed. -/
def Dev.doaTest (d : Dev) (c : Cfg) (k sig : Nat) : Option Bool × Dev :=
  let cfg := c.w RBB.DOA_CFG
  let cfg2 := c.w RBB.DOA_CFG2
  let pairs := (baselinePairs c d k).filter (fun p => chSig d p.1 = sig)
  let n := pairs.length
  if n < 5 || !baselineOn c k then (none, d)
  else
    let m := pairs.map (fun p => F64.frac (F64.sub (d.chan p.2).phase (d.chan p.1).phase))
    let rMeas := (phasorMean m).1
    let failR := F64.lt (F64.ofRatio (fld cfg 24 8) 256) rMeas
    let test : Bool × BitVec 64 × List Nat := match d.rbb.refAtt with
      | none => (failR, 0, [])
      | some (h, p, r) =>
        let b := Mat.mulVec (rotation h p r) (baselineVec c k)
        let pred := pairs.map (fun q => F64.frac (F64.div (Vec.dot b (((chView d q.1).map (·.e)).getD [])) (chWave d q.1)))
        let res := Vec.sub m pred
        let (rPred, beta) := phasorMean res
        let outs := (pairs.zip res).filterMap (fun q =>
          if F64.lt (F64.ofRatio (fld cfg2 0 8) 256) (F64.abs (wrapCycle (F64.sub q.2 beta))) then some (chSat d q.1.1) else none)
        (failR || F64.lt rPred (F64.ofRatio (fld cfg 16 8) 256) || decide (fld cfg2 16 8 * n < outs.length * 256), rPred, outs)
    let d := d.put RBB.DOA_STAT (wd (uq8 test.2.1 + uq8 rMeas * 2 ^ 8 + satU 8 n * 2 ^ 16 + d.rbb.refAtt.isNone.toNat * 2 ^ 24))
    let d := if test.1 then d else test.2.2.foldl (fun d x => d.exclude c x sig) d
    (some test.1, d.countRun k test.1)

/-- The direction-of-arrival tests of an epoch (R158): DOA_k rises at 3 failing runs in a row, and clears after DOA_CLEAR_S seconds of
passing epochs. -/
def Dev.doaTests (d : Dev) (c : Cfg) : Dev :=
  let sigs := [c.f RBB.DOA_CFG 0 5, c.f RBB.DOA_CFG 8 5].eraseDups
  let d := [0, 1].foldl (fun d k =>
    let a := sigs.foldl (fun (a : List Bool × Dev) sig =>
      let r := a.2.doaTest c k sig
      ((match r.1 with | none => a.1 | some f => f :: a.1), r.2)) ([], d)
    if a.1.isEmpty then a.2
    else a.2.flagEval (10 + k) (decide (3 ≤ runOf a.2 k)) (!a.1.any id) (c.f RBB.DOA_CFG2 8 8 * epochRate c) (a.2.f RBB.DOA_STAT 0 8)) d
  d.vecRefresh c

/-! ### Power and signal monitors (R155, R160 to R162) -/

/-- 100 ms of samples: each burst above BLANK_THR is blanked with the 1 µs that follows it, in counts of 0.5 % (R119). -/
def blankedDuty (c : Cfg) (p : Nat) (bursts : List (Nat × Nat)) : Nat :=
  let k := RBB.PATH_CFG p
  if !c.b k 17 then 0
  else
    let ns := (bursts.filter (fun b => decide (c.f k 8 8 < b.1))).foldl (fun s b => s + b.2 + 1000) 0
    min 200 (ns * 200 / 100000000)

/-- What the front ends show of the paths (R119, Table 5.12). -/
def Dev.showPaths (d : Dev) (c : Cfg) (o : EpochObs) : Dev :=
  let d := (o.agc.take 6).zipIdx.foldl (fun (d : Dev) p => d.putF (RBB.PATH_STAT p.2) 0 8 (p.1.toNat / 256)) d
  (o.bursts.take 6).zipIdx.foldl (fun (d : Dev) p => d.putF (RBB.PATH_STAT p.2) 16 8 (blankedDuty c p.2 p.1)) d

/-- sin 20°: a satellite stands above 20° elevation when its unit vector points up by more. -/
def sin20 : BitVec 64 := F64.sin (F64.deg (F64.ofInt 20))
def chHigh (d : Dev) (n : Nat) : Bool := match chView d n with | none => false | some v => F64.lt sin20 (F64.neg (Vec.at v.e 2))

/-- CN0_UNIFORM of an antenna (R160): at least 8 channels, and a standard deviation below CN0_SD_MIN. -/
def cn0Uniform (c : Cfg) (d : Dev) (a : Nat) : Bool :=
  let l := ((shownChannels d).filter (fun n => chAnt d n = a && chMeasures d n && chHigh d n)).map (fun n => d.f (RBB.CH_STAT n) 8 16)
  let n := l.length
  let s := l.foldl (· + ·) 0
  let q := l.foldl (fun s x => s + x * x) 0
  decide (8 ≤ n) && decide (100 * (n * q - s * s) < (256 * c.f RBB.CN0_CFG 8 8 * n) ^ 2)

/-- The channels that depart on two bands of one antenna by more than CN0_XB from the pair's nominal difference (R160). -/
def cn0Cross (c : Cfg) (d : Dev) : List Nat :=
  let l := (shownChannels d).filter (chMeasures d)
  l.filter (fun n => upperSignal (chSig d n) && l.any (fun m =>
    !upperSignal (chSig d m) && chAnt d m = chAnt d n && chSat d m = chSat d n &&
      decide (c.f RBB.CN0_CFG 16 8 * 256 < ((d.f (RBB.CH_STAT n) 8 16 : Int) - d.f (RBB.CH_STAT m) 8 16
        - Config.nominalCn0 (chSig d n) (chSig d m)).natAbs)))

/-- Counts by which a path's gain lies below its reference, UQ8.8 (R161); 0 without one. -/
def agcGap (d : Dev) (o : EpochObs) (p : Nat) : Nat :=
  match o.agc[p]? with
  | none => 0
  | some g => if d.b (RBB.AGC_REF p) 16 then d.f (RBB.AGC_REF p) 0 16 - g.toNat else 0

/-- D of a channel, averaged over a second, and the ideal correlation at its roving offset (R162): a triangle for a plain code. -/
def roveMean (d : Dev) (n : Nat) : BitVec 64 :=
  let l := (d.chan n).rove
  F64.div (F64.sum (l.map (·.2))) (F64.ofInt (max 1 l.length))
def roveIdeal (d : Dev) (n : Nat) : BitVec 64 :=
  let off := d.s (RBB.CH_CORR n) 8 8
  if chSig d n = 3 || chSig d n = 8 then Config.bocCorrelation (chSig d n) off else F64.ofRatio (64 - off.natAbs : Nat) 64

/-- SQM fails on a channel (R162). -/
def sqmFails (c : Cfg) (d : Dev) (n : Nat) : Bool :=
  d.b (RBB.CH_CFG n) 19 && !(d.chan n).rove.isEmpty
    && F64.lt (F64.ofRatio (c.f RBB.SQM_CFG 0 8) 256) (F64.abs (F64.sub (roveMean d n) (roveIdeal d n)))

/-- The power and signal monitors of an epoch (R155, R160, R161, R162). -/
def Dev.monitors (d : Dev) (c : Cfg) (o : EpochObs) : Dev :=
  let rate := epochRate c
  let live := (shownChannels d).filter (chIntegrates d)
  -- CN0_HIGH: a channel for 1 s; no channel near the limit for 5 s
  let high := live.filter (fun n => heldSecond d (d.chan n).highSince)
  let quiet := match d.rbb.highTick with | none => true | some t => decide (t + 5 * ticksPerSec ≤ d.tick)
  let d := d.flagEval 3 (!high.isEmpty) quiet 1 (match high with | [] => 0 | n :: _ => d.f (RBB.CH_STAT n) 8 16)
  -- CN0_UNIFORM per antenna, three epochs
  let low := [0, 1, 2].filter (cn0Uniform c d)
  let d := [0, 1, 2].foldl (fun d a => d.countRun (1024 + a) (low.contains a)) d
  let d := d.flagEval 4 ([0, 1, 2].any (fun a => decide (3 ≤ runOf d (1024 + a)))) low.isEmpty (10 * rate) (low.headD 0)
  -- CN0_XBAND per satellite and antenna, three epochs
  let far := cn0Cross c d
  let key (n : Nat) : Nat := 2048 + chAnt d n * 4096 + chSat d n
  let d := { d with rbb := { d.rbb with runs := d.rbb.runs.filter (fun r => r.1 < 2048 || far.any (fun n => key n = r.1)) } }
  let d := (far.map key).eraseDups.foldl (fun d k => d.countRun k true) d
  let late := far.filter (fun n => decide (3 ≤ runOf d (2048 + chAnt d n * 4096 + chSat d n)))
  let d := d.flagEval 5 (!late.isEmpty) far.isEmpty (10 * rate) (match late with | [] => 0 | n :: _ => (chSat d n : Int))
  let d := late.foldl (fun d n => d.exclude c (chSat d n) (chSig d n)) d
  -- AGC gain per path, by antenna
  let drop := c.f RBB.AGC_CFG 0 8 * 64
  let d := (List.range 6).foldl (fun d p => d.holdSince (96 + p) (decide (drop < agcGap d o p))) d
  let d := [0, 1, 2].foldl (fun d a =>
    let fail := [2 * a, 2 * a + 1].any (fun p => heldSecond d (Assoc.get none d.rbb.holds (96 + p)))
    let worst := max (agcGap d o (2 * a)) (agcGap d o (2 * a + 1))
    d.flagEval (6 + a) fail (decide (worst + 512 ≤ drop)) (5 * rate) worst) d
  -- blanked fraction of each path
  let dmax := c.f RBB.AGC_CFG 8 8
  let duty (d : Dev) (p : Nat) : Nat := d.f (RBB.PATH_STAT p) 16 8
  let d := (List.range 6).foldl (fun d p => d.holdSince (144 + p) (decide (dmax < duty d p))) d
  let over_ := (List.range 6).filter (fun p => heldSecond d (Assoc.get none d.rbb.holds (144 + p)))
  let calm := (List.range 6).all (fun p => decide (duty d p + 10 ≤ dmax))
  let d := d.flagEval 9 (!over_.isEmpty) calm (5 * rate) (match over_ with | [] => 0 | p :: _ => (duty d p : Int))
  -- signal deformation
  let odd := live.filter (sqmFails c d)
  let d := d.flagEval 14 (!odd.isEmpty) odd.isEmpty rate (match odd with | [] => 0 | n :: _ => (chSat d n : Int))
  odd.foldl (fun d n => d.exclude c (chSat d n) (chSig d n)) d

/-- An epoch of the 600 s over which the gains are learnt (R161): a raised flag starts them anew; a path counts with 6 satellites. -/
def Dev.agcEpoch (d : Dev) (o : EpochObs) : Dev :=
  if (d.w RBB.INT_FLAG).toNat % 2 ^ 15 != 0 then { d with rbb := { d.rbb with agcHist := [], agcSince := none } }
  else
    let hist := (o.agc.take 6).zipIdx.foldl (fun l p =>
      let sats := ((shownChannels d).filter (fun n => (chState d n = 3 || chState d n = 4) && chPath d n = p.2)).map (chSat d)
      let old := Assoc.get [] l p.2
      Assoc.set [] l p.2 (if 6 ≤ sats.eraseDups.length then (p.1.toNat :: old).take 12000 else [])) d.rbb.agcHist
    { d with rbb := { d.rbb with agcHist := hist, agcSince := some (d.rbb.agcSince.getD d.tick) } }

def insertNat (x : Nat) (l : List Nat) : List Nat :=
  match l with
  | [] => [x]
  | y :: t => if x ≤ y then x :: y :: t else y :: insertNat x t

/-- AGC_REF_LEARNED (R161): 600 s of epochs without a flag, all with 6 satellites on the path; the median gain is the reference. -/
def execAgcRefLearned (path : Fin 6) (_ : Unit) (s : State) : Out :=
  onDev s fun c d =>
    let l := (Assoc.get [] d.rbb.agcHist path.val).foldr insertNat []
    if (d.w RBB.INT_FLAG).toNat % 2 ^ 15 != 0 || l.length < 600 * epochRate c then d
    else d.putN (RBB.AGC_REF path.val) (l.getD ((l.length - 1) / 2) 0 + 2 ^ 16)

/-- A commit of AGC_CFG makes the references be learnt again (R161). -/
def Dev.agcCommitted (d : Dev) : Dev :=
  let d := { d with rbb := { d.rbb with agcHist := [], agcSince := none } }
  (List.range 6).foldl (fun d p => d.putN (RBB.AGC_REF p) 0) d

/-! ### Items of an epoch (R134 to R136, R153) -/

/-- Observables or solutions of the antenna carry SUSPECT (R117, Table 6.1 bits 0 to 2 and 6 to 8). -/
def antSuspect (d : Dev) (a : Nat) : Bool := antFault d a || d.b RBB.INT_FLAG (6 + a)

/-- A DOA flag is raised. -/
def doaRaised (d : Dev) : Bool := d.b RBB.INT_FLAG 10 || d.b RBB.INT_FLAG 11

/-- One observable item (R134, R135). -/
def Dev.observable (d : Dev) (c : Cfg) (n : Nat) : Dev :=
  let st := d.w (RBB.CH_STAT n)
  let x := d.chan n
  let a := chAnt d n
  let lock := bit st 24
  let doppler := F64.ofRatio x.doppler.toInt 256
  let flags := a + lock.toNat * 4 + (bit st 26).toNat * 8 + (decide (fld st 0 4 = 4)).toNat * 16 + x.lostSinceEpoch.toNat * 32
  let bytes := F64.bytes x.range ++ F64.bytes (if lock then x.phase else 0) ++ F64.bytes doppler
    ++ leBytes 2 (fld st 8 16) ++ leBytes 1 (chSig d n) ++ leBytes 1 (chSv d n) ++ leBytes 1 flags ++ leBytes 3 0
    ++ leBytes 4 (d.w (RBB.CH_LOCK_MS n)).toNat ++ leBytes 4 0
  let range := !F64.within x.range 18000000 45000000 || !F64.within doppler (-10000) 10000
  let blanked := d.b RBB.INT_FLAG 9 && decide (c.f RBB.AGC_CFG 8 8 < d.f (RBB.PATH_STAT (chPath d n)) 16 8 + 10)
  let sus := antSuspect d a || d.b RBB.INT_FLAG a || blanked
  d.capture c (c.f RBB.SRC_BASE 0 16 + n) 3 d.esc.boundary ((if range then qRANGE else 0) + (if sus then qSUSPECT else 0)) bytes

/-- The offsets and biases that a solution leaves (R138). While channels run in VECTOR the fusion engine's core holds the offsets and the RBB
keeps the inter-frequency biases alone; ISBn shows the offset in use. -/
def Dev.takeBiases (d : Dev) (c : Cfg) (used : List Nat) (sol : Vec) : Dev :=
  let rows := used.map (solutionRow d)
  let ifb := ((used.filter (fun n => !ifbReference (chSig d n))).map (ifbKey d)).eraseDups.foldl
    (fun l k => Assoc.set 0 l k (Config.gnssIfb rows (carried c d) k)) d.rbb.ifb
  let vector := (shownChannels d).any (fun n => chState d n = 4)
  let isb := if vector then d.rbb.isb else
    (List.range 4).foldl (fun l i => Assoc.set none l i (some (Vec.at sol (8 + i), Vec.at sol (12 + i)))) d.rbb.isb
  let d := { d with rbb := { d.rbb with ifb := ifb, isb := isb, drift := Vec.at sol 6 } }
  (List.range 4).foldl (fun d i =>
    let ps := if vector then F64.scale (d.fus.core.at (38 + i)) (10 ^ 12) 1 else ((Assoc.get none d.rbb.isb i).getD (0, 0)).1
    d.putI (RBB.ISB i) (satS 32 (F64.roundTo ps 1 1))) d

/-- The solution of an antenna (R136, R138, R140, R156): FIX, SOL_INT, the item, and ANT_A's time. DESIGN CHOICES: an antenna counts as one
whose paths are enabled when one of them is (log 84); stale corrections leave SBAS where SBAS is enabled and one of its signals is tracked, else
SINGLE (log 85). -/
def Dev.solution (d : Dev) (c : Cfg) (a : Nat) : Dev :=
  if !pathOn c (2 * a) && !pathOn c (2 * a + 1) then d
  else
    let (res, used, t, d) := d.raim c (usedChannels c d a) 0 4
    let d := d.flagEval a (decide (res = 2)) (res != 2) 1 (F64.floor t)
    let rows := used.map (solutionRow d)
    let sol := Config.gnssSolve rows (corrData c d) (carried c d)
    let sats := (used.map (chSat d)).eraseDups.length
    let sbas := c.b RBB.GCFG 22 && (shownChannels d).any (fun n => chMeasures d n && chSig d n = 18)
    let grade := Config.gnssGrade rows (corrData c d) (carried c d)
    let fix := if res = 2 || doaRaised d || sats < 4 then 0
      else if (corrData c d).isEmpty then (if sbas then 2 else 1)
      else if grade ≤ 3 then 3 else if grade = 4 || d.rbb.rtkFloat then 4 else 5
    let d := if fix = 4 then { d with rbb := { d.rbb with rtkFloat := false } } else d
    let d := if a = 0 && fix != 0 then d.takeBiases c used sol else d
    let d := d.putN (RBB.SOL_STAT a) (fix % 8 + satU 8 sats * 256)
    let hpl := satU 16 (F64.roundTo (Vec.at sol 7) 100 1).toNat
    let d := d.putN (RBB.SOL_INT a) (hpl + satU 8 d.rbb.excluded.length * 2 ^ 16 + (decide (res = 1)).toNat * 2 ^ 24)
    let sus := antSuspect d a || decide (res = 1) || d.b RBB.INT_FLAG 3 || d.b RBB.INT_FLAG 4 || d.b RBB.INT_FLAG 12 || d.b RBB.INT_FLAG 13
    let src := c.f RBB.SRC_BASE 16 16 + a
    let bits := (if sus then qSUSPECT else 0) + (if fix = 0 then qSTALE else 0)
    let (ns, unc) := Config.gnssTime rows (corrData c d) (carried c d)
    let d := if a = 0 && fix != 0 then
        { d with tbu := { d.tbu with gnss := some (ns + 19 * 10 ^ 9 - 5 * d.esc.boundary, d.esc.boundary, unc) } }
      else d
    if fix != 0 then d.capture c src 3 d.esc.boundary bits ((List.range 6).flatMap (fun i => F64.bytes (Vec.at sol i)))
    else match Assoc.get none d.flow.lastItem (src % 65536) with
      | none => d
      | some i => d.capture c src 3 d.esc.boundary bits i.payload

/-! ### Baseline attitude (R149 to R153) -/

/-- The numbers of one pair: signal, satellite, both phases, wavelength, unit vector (R150). -/
def baselineRow (d : Dev) (p : Nat × Nat) : Vec :=
  [F64.ofInt (chSig d p.1), F64.ofInt (chSat d p.1), (d.chan p.1).phase, (d.chan p.2).phase, chWave d p.1] ++ ((chView d p.1).map (·.e)).getD []

/-- A baseline at an epoch (R150, R151): ATT_STAT 0 none, 1 float, 2 fixed, and its vector. A fixed one loses its fix with three satellites or
its length; one or two lost are searched again by themselves. -/
def Dev.baseline (d : Dev) (c : Cfg) (k : Nat) : Vec × Dev :=
  let pairs := baselinePairs c d k
  let ids := pairs.map (fun p => (chSat d p.1, chSig d p.1))
  let held := Assoc.get [] d.rbb.baseSats k
  let sats := (pairs.map (fun p => chSat d p.1)).eraseDups.length
  let kept (p : Nat × Nat) : Bool := held.contains (chSat d p.1, chSig d p.1) && !(d.chan p.1).lostSinceEpoch && !(d.chan p.2).lostSinceEpoch
  let lost := ((held.filter (fun i => !(pairs.any (fun p => kept p && (chSat d p.1, chSig d p.1) = i)))).map (·.1)).eraseDups.length
  let old := d.f RBB.ATT_STAT (2 * k) 2
  let (v, ratio) := Config.baselineSolve (pairs.map (baselineRow d)) (pairs.map (fun p => decide (old = 2) && kept p))
  let lenOk := !F64.lt (F64.ofRatio (c.f RBB.ATT_CFG 16 8) 1000) (F64.abs (F64.sub (Vec.norm v) (Vec.norm (baselineVec c k))))
  let new := if !baselineOn c k then 0
    else if old = 2 then (if 3 ≤ lost || !lenOk then 1 else 2)
    else if sats < 5 then 0
    else if c.f RBB.ATT_CFG 8 8 ≤ ratio && lenOk then 2 else 1
  let d := (d.putF RBB.ATT_STAT (2 * k) 2 new).putF RBB.ATT_STAT (8 + 8 * k) 8 (satU 8 sats)
  let d := { d with rbb := { d.rbb with baseSats := Assoc.set [] d.rbb.baseSats k (if new = 2 then ids else []) } }
  if new = 2 && old != 2 then (v, d.event 0x100C [k, ratio])
  else if old = 2 && new != 2 then (v, d.event 0x100D [k])
  else (v, d)

/-- The horizontal projections of two vectors stand 30° to 150° apart (R152): the cosine's square is at most 3/4. -/
def crossed (a b : Vec) : Bool :=
  let flat (v : Vec) : Vec := [Vec.at v 0, Vec.at v 1]
  let dot := Vec.dot (flat a) (flat b)
  !F64.lt (F64.scale (F64.mul (Vec.dot (flat a) (flat a)) (Vec.dot (flat b) (flat b))) 3 4) (F64.mul dot dot)

/-- The attitude item (R152, R153). -/
def Dev.attitude (d : Dev) (c : Cfg) : Dev :=
  if !c.b RBB.ATT_CFG 0 then d
  else
    let (vb, d) := d.baseline c 0
    let (vc, d) := d.baseline c 1
    let fb := d.f RBB.ATT_STAT 0 2 = 2
    let fc := d.f RBB.ATT_STAT 2 2 = 2
    let pr := fb && fc && crossed vb vc
    let d := d.putB RBB.ATT_STAT 4 pr
    let used := (if fb then [(baselineVec c 0, vb)] else []) ++ (if fc then [(baselineVec c 1, vc)] else [])
    let given : Vec := match d.rbb.refAtt with | none => [0, 0] | some (_, p, r) => [p, r]
    let fit := Config.attitudeFit (used.map (·.1)) (used.map (·.2)) (if pr then [] else given)
    let (pitch, roll) := if pr then (Vec.at fit 1, Vec.at fit 2) else (Vec.at given 0, Vec.at given 1)
    let sig (i : Nat) : BitVec 64 := if pr then Vec.at fit i else F64.inf
    let nums : Vec := [Vec.at fit 0, pitch, roll, Vec.at fit 3, sig 4, sig 5, if fb then Vec.norm vb else 0, if fc then Vec.norm vc else 0]
    let bytes := nums.flatMap F64.bytes ++ leBytes 1 ((decide fb).toNat + (decide fc).toNat * 2 + pr.toNat * 4)
    let sus := d.b RBB.INT_FLAG 3 || d.b RBB.INT_FLAG 4 || d.b RBB.INT_FLAG 6 || (fb && d.b RBB.INT_FLAG 7) || (fc && d.b RBB.INT_FLAG 8)
      || d.b RBB.INT_FLAG 12 || d.b RBB.INT_FLAG 13
    d.capture c (c.f RBB.ATT_SRC 0 16) 3 d.esc.boundary
      ((if (!fb && !fc) || doaRaised d then qSTALE else 0) + (if sus then qSUSPECT else 0)) bytes

/-- The epoch has told of the losses of lock before it (R134). -/
def Dev.epochTaken (d : Dev) : Dev :=
  (d.rbb.chans.filter (fun (p : Nat × ChanDev) => p.2.lostSinceEpoch)).foldl
    (fun d p => d.putChan p.1 { d.chan p.1 with lostSinceEpoch := false }) d

/-- MEASUREMENT_EPOCH (R134, R136, R138, R150 to R162): a beat boundary of the chosen rate. The checks come first, so that a flag acts on the
epoch that raises it (Table 6.3). What the front ends show is taken whatever GCFG holds. -/
def execMeasurementEpoch (obs : EpochObs) (s : State) : Out :=
  onDev s fun c d =>
    let d := d.showPaths c obs
    if !c.b RBB.GCFG 0 || d.esc.beat % epochBeats c != 0 then d
    else
      let d := { d with rbb := { d.rbb with views := obs.views } }.isbWalk obs.isb
      let d := ((d.doaTests c).monitors c obs).agcEpoch obs
      let d := [0, 1, 2].foldl (fun d a => d.solution c a) d
      let d := if doaRaised d then d else ((shownChannels d).filter (chMeasures d)).foldl (fun d n => d.observable c n) d
      (d.attitude c).epochTaken

/-- The clock tests of a once-per-second evaluation (R159), on the last ANT_A time solution. -/
def Dev.clockTests (d : Dev) (c : Cfg) : Dev :=
  let cfg := c.w RBB.CLK_CFG
  let past := d.rbb.freqHist[59]?
  let d := { d with rbb := { d.rbb with freqHist := (d.tbu.f :: d.rbb.freqHist).take 60 } }
  match d.tbu.gnss with
  | none => d
  | some (offset, t, _) =>
    if !d.b TBU.STATE 7 || t + ticksPerSec + ticksPerMs ≤ d.tick then d
    else
      let phase := decide (fld cfg 0 8 * 160 + fld cfg 8 8 * (d.w TBU.EST_ERR).toNat < offset.natAbs * 16)
      let d := d.flagEval 12 phase (!phase) 10 offset
      match past with
      | none => d
      | some f =>
        let drift := F64.roundTo d.rbb.drift (10 ^ 9) 1
        let freq := decide (fld cfg 16 8 * 10 ^ 9 < (drift - f).natAbs)
        d.flagEval 13 freq (!freq) 10 (drift / 10 ^ 9)

/-! ### Corrections (R139, R140) -/

/-- One bit of CRC-24Q (RTCM 10403.3). -/
def crc24Step (r : Nat) : Nat :=
  let r2 := r * 2
  if r2 / 2 ^ 24 % 2 = 1 then (r2 ^^^ 0x1864CFB) % 2 ^ 24 else r2 % 2 ^ 24

/-- CRC-24Q of a byte list. -/
def crc24q (l : List Byte) : Nat :=
  l.foldl (fun r b =>
    let r := r ^^^ (b.toNat * 2 ^ 16)
    crc24Step (crc24Step (crc24Step (crc24Step (crc24Step (crc24Step (crc24Step (crc24Step r)))))))) 0

/-- The number a big-endian byte list spells. -/
def beNat (l : List Byte) : Nat := l.foldl (fun n b => n * 256 + b.toNat) 0

/-- MSM4 to MSM7 of the five systems of Table 5.11. -/
def isMsm (t : Nat) : Bool := [1074, 1084, 1094, 1114, 1124].any (fun b => decide (b ≤ t ∧ t ≤ b + 3))

/-- The accepted message types (Table 5.11). -/
def rtcmKnown (t : Nat) : Bool :=
  isMsm t || [1005, 1006, 1007, 1008, 1033, 1230, 1019, 1020, 1042, 1044, 1045, 1046].contains t

/-- Two positions in 0.1 mm lie more than 1 m apart (R140). -/
def movedFar (p q : Int × Int × Int) : Bool :=
  decide (100000000 < (p.1 - q.1) * (p.1 - q.1) + (p.2.1 - q.2.1) * (p.2.1 - q.2.1) + (p.2.2 - q.2.2) * (p.2.2 - q.2.2))

/-- A signed field of a message, most significant bit first. -/
def rtcmField (l : List Byte) (start n : Nat) : Int := signed n (beNat l / 2 ^ (8 * l.length - start - n) % 2 ^ n)

/-- The station's position of a 1005 or 1006 (RTCM 10403.3, log 93), 0.1 mm. -/
def rtcmPosition (l : List Byte) : Int × Int × Int := (rtcmField l 34 38, rtcmField l 74 38, rtcmField l 114 38)

/-- The corrections source that CORR_SRC chooses (R139). -/
def corrVia (c : Cfg) (via : RtcmPort) : Bool :=
  match via with
  | .udp p => decide (c.f RBB.CORR_SRC 0 2 = 1 ∧ c.f RBB.CORR_SRC 16 16 = p.val)
  | .uart u => decide (c.f RBB.CORR_SRC 0 2 = 2 ∧ c.f RBB.CORR_SRC 2 4 = u.val)

/-- RTCM_FRAME (R139, R140). -/
def execRtcmFrame (bytes : List Byte) (via : RtcmPort) (s : State) : Out :=
  onDev s fun c d =>
    if !corrVia c via || bytes.head? != some 0xD3 then d
    else
      let len := beNat ((bytes.drop 1).take 2) % 1024
      if bytes.length != len + 6 || crc24q (bytes.take (len + 3)) != beNat (bytes.drop (len + 3)) then d.sat RBB.CORR_BAD_CNT 0 16 1
      else
        let body := (bytes.drop 3).take len
        let t := beNat (body.take 2) / 16
        let station := beNat ((body.drop 1).take 2) % 4096
        if len < 3 || !rtcmKnown t then d.sat RBB.CORR_BAD_CNT 16 16 1
        else
          let d := { d with rbb := { d.rbb with corrections := Assoc.set [] d.rbb.corrections t body } }
          if isMsm t then { d with rbb := { d.rbb with corrTick := some d.tick, corrStale := false } }
          else if t = 1005 || t = 1006 then
            let pos := rtcmPosition body
            let fresh := match d.rbb.station with
              | none => false
              | some (i, p) => i != station || movedFar p pos
            let d := { d with rbb := { d.rbb with station := some (station, pos), rtkFloat := d.rbb.rtkFloat || fresh } }
            let d := d.putF RBB.CORR_STAT 16 12 station
            if fresh then d.event 0x1009 [station] else d
          else d

/-- CORR_STALE (R140): the corrections are older than CORR_AGE. -/
def execCorrStale (s : State) : Out :=
  onDev s fun c d =>
    match d.rbb.corrTick with
    | none => d
    | some t =>
      if d.rbb.corrStale then d
      else
        let d := d.advanceTo (t + c.f RBB.CORR_AGE 0 7 * ticksPerSec + 1)
        { d with rbb := { d.rbb with corrStale := true } }.event 0x1008

/-- The age of the corrections, s (CORR_STAT, formed where it is read). -/
def corrAge (d : Dev) : Nat :=
  match d.rbb.corrTick with
  | none => 0
  | some t => satU 8 ((d.tick - t) / ticksPerSec)

end Sys2Proof.Machine
end

