-- ==== Sys2Proof/Machine/Recorder.lean ====
section
/-! DEFINITION. The event recorder and the hack unit (20_recorder_hack.md), and the side-effect-free read of a register that
both use (R479, R484). -/
namespace Sys2Proof.Machine

/-! ### Reading registers without side effects -/

/-- The element a window page's selector names: FUS page 1 (TRKSEL), LPE page 1 (SLOTSEL), RBB pages 4 to 7 (CHSELw), the HCK
selection registers (PGSEL). -/
def windowElem (d : Dev) (a : Nat) : Nat :=
  let page := a / 4096 * 4096
  let off := a % 4096
  if page = 0x40021000 && decide (0x110 ≤ off) then d.f FUS.TRKSEL 0 6
  else if page = 0x40041000 && decide (0x110 ≤ off) then d.f LPE.SLOTSEL 0 6
  else if decide (0x40014000 ≤ page) && decide (page ≤ 0x40017000) then d.f (RBB.CHSEL ((page - 0x40014000) / 4096)) 0 9
  else if page = 0x40004000 && decide (0x200 ≤ off) then ((d.w HCK.PGSEL).toNat - 0x40000000) / 4096
  else 0

/-- The key of the register at an address: window registers of the four channel windows share one page. -/
def regKey (d : Dev) (a : Nat) : Nat :=
  let page := a / 4096 * 4096
  let base := if 0x40014000 ≤ page ∧ page ≤ 0x40017000 then a % 4096 + 0x40014000 else a
  base + windowElem d a * 2 ^ 32

/-- The roster entry in the NYM window. -/
def rosterSel (d : Dev) : NymEntry := Assoc.get {} d.nym.roster (d.f NYM.RSEL 0 8)

/-- The roster window registers (Table 17.7). -/
def rosterWord (d : Dev) (a : Nat) : Word :=
  let r := rosterSel d
  if a = NYM.RST_UID_LO then r.uid.setWidth 32
  else if a = NYM.RST_UID_HI then (r.uid >>> 32).setWidth 32
  else if a = NYM.RST_INFO then wd (r.role + r.slot * 2 ^ 8 + r.node * 2 ^ 16 + r.st * 2 ^ 24)
  else if a = NYM.RST_SEEN then
    wd ((if r.st = 0 then 0 else satU 16 ((d.tick - r.last) / ticksPerSec)) + r.heard % 2 ^ 6 * 2 ^ 16 + r.heard / 2 ^ 8 % 2 ^ 4 * 2 ^ 24)
  else wd ((r.bind.getD 0) + (if r.bind.isSome then 2 ^ 7 else 0) + r.reason * 2 ^ 8)

/-- EXPk_STAT (Table 17.7): the roster entry bound to expected entry `k`, BOUND, PRESENT. -/
def expectedWord (d : Dev) (k : Nat) : Word :=
  match d.nym.roster.find? (fun p => p.2.bind = some k && p.2.st != 0) with
  | none => 0
  | some (r, e) => wd (r + 2 ^ 8 + (decide (e.st = 2)).toNat * 2 ^ 9)

/-- No conversion of analogue input `ch` has completed for 100 microseconds (R451). -/
def ainStale (d : Dev) (ch : Nat) : Bool :=
  match (Assoc.get {} d.field.ains ch : AinDev).converted with
  | none => true
  | some t => decide (t + 100 * ticksPerUs < d.tick)

/-- Bytes that a UART has still to send (Table 22.9). -/
def uartQueued (d : Dev) (u : Nat) : Nat := satU 8 ((Assoc.get {} d.uarts u : UartDev).tx.filter (fun p => decide (d.tick < p.2))).length

/-- What a read of a page header register gives (Table 22.1). -/
def readHeader (c : Cfg) (d : Dev) (page off : Nat) : Word :=
  if off = 0x00C then c.h (page + off)
  else if off = 0x018 then d.w (hdrIRQ_RAW page) &&& d.w (hdrIRQ_EN page)
  else if off = 0x01C then 0
  else if off = 0x020 then c.h (page + off) &&& wd 0x1F34
  else if off = 0x024 || off = 0x02C || off = 0x038 then c.h (page + off)
  else if off = 0x028 then (if bit (c.h (hdrSTAT page)) 3 then wd 0x10000 else 0)
  else if off = 0x030 then
    (d.w (page + off) &&& wd 0xFFFF3F02) ||| ((if bit (d.w (hdrCTRL page)) 1 then c.sh (page + off) else c.w (page + off)) &&& wd 5)
  else d.w (page + off)

/-- Registers with fields that are formed where they are read: CH_STAT.ANT_FAULT (Table 5.7), ENGe_STAT dwells (Table 5.12), CORR_STAT age
(R140), AIN_VAL.STALE (R451), LAP_RUN of the region under way (R468), UARTu_STAT
(Table 22.9). -/
def formed (c : Cfg) (d : Dev) (a k : Nat) (w : Word) : Word :=
  if k % 2 ^ 32 = RBB.CH_STAT 0 then setBit w 27 (chAntFault d (k / 2 ^ 32))
  else if a = RBB.ENG_STAT 0 then setFld w 16 16 (engineDwells c d 0)
  else if a = RBB.ENG_STAT 1 then setFld w 16 16 (engineDwells c d 1)
  else if UART.USTAT 0 ≤ a ∧ a ≤ UART.USTAT 11 ∧ (a - UART.USTAT 0) % 0x40 = 0 then
    setFld w 0 8 (uartQueued d ((a - UART.USTAT 0) / 0x40))
  else if a = MEM.LAP_RUN d.memd.region && c.b MEM.SCRUB_CFG d.memd.region then wd (lapRun d)
  else if a = RBB.CORR_STAT then setFld w 0 8 (corrAge d)
  else if ANU.AIN_VAL 0 ≤ a ∧ a ≤ ANU.AIN_VAL 7 then setBit w 18 (ainStale d ((a - ANU.AIN_VAL 0) / 4))
  else w

/-- What a read of the register at an aligned address in a page gives (R15, Table 22.4); it changes nothing. -/
def peek (c : Cfg) (d : Dev) (a : Nat) : Word :=
  let page := a / 4096 * 4096
  match pageAt page with
  | none => 0
  | some _ =>
    if a % 4096 < 0x100 then readHeader c d page (a % 4096)
    else if a = SYS.GLOBAL_STAT then c.h a
    else if a = ESC.BEAT_LO then wd d.esc.beat
    else if a = TBU.TICK_LO then wd d.tick
    else if NYM.RST_UID_LO ≤ a ∧ a ≤ NYM.RST_BIND then rosterWord d a
    else if NYM.EXP_STAT 0 ≤ a ∧ a ≤ NYM.EXP_STAT 63 ∧ (a - NYM.EXP_STAT 0) % 16 = 0 then expectedWord d ((a - NYM.EXP_STAT 0) / 16)
    else
      let k := regKey d a
      match keyAccess k with
      | none => 0
      | some .wo => 0
      | some .rws => if bit (d.w (hdrCTRL page)) 1 then c.sh k else c.w k
      | some _ => formed c d a k (d.w k)

/-! ### Hack triggers (R483 to R487) -/

/-- A trigger of source `src` (1 to 7) at the present tick: ignored when SRC_EN disables it, joined to a hack less than HOLDOFF ticks
old, else a new pending hack. -/
def Dev.hackTrigger (d : Dev) (c : Cfg) (src : Nat) : Dev :=
  if !c.b HCK.CFG (src - 1) then d
  else
    let b := 2 ^ (src - 1)
    let hold := c.f HCK.CFG 16 16
    match d.hck.pending with
    | some (t, srcs) =>
      { d with hck := { d.hck with pending := some (t, srcs ||| b) } }.bump HCK.MERGED_CNT
    | none =>
      match d.hck.lastTrigger with
      | some t =>
        if d.tick ≤ t + hold then (d.putF HCK.LAST 0 7 (d.f HCK.LAST 0 7 ||| b)).bump HCK.MERGED_CNT
        else { d with hck := { d.hck with pending := some (d.tick, b) } }
      | none => { d with hck := { d.hck with pending := some (d.tick, b) } }

/-- Element number of a page in the HCK selection window. -/
def hackElem (page : Nat) : Nat := (page - 0x40000000) / 4096

/-- One page takes part in the hack of number `num` (R484, R486). -/
def Dev.latchPage (d : Dev) (c : Cfg) (num page : Nat) : Dev :=
  let snap := hdrSNAP_CTRL page
  if !c.b snap 0 then d
  else if d.b snap 1 then d.sat snap 16 16 1
  else
    let sels := (List.range 48).map (fun k => c.w (HCK.SEL k (hackElem page)))
    let words := sels.map (fun w => if bit w 0 then peek c d (page + fld w 2 10 * 4) else 0)
    let d := (words.zipIdx).foldl (fun d p => d.put (hdrSNAP_DATA page p.2) p.1) d
    let d := (d.putN (hdrSNAP_SEQ page) num).putF snap 8 6 (sels.filter (bit · 0)).length
    let d := if c.b snap 2 then d.putB snap 1 true else d
    d.irq page 27

/-- HACK_FIRE (R483): KEY 0x4A5C triggers a hack with source REGISTER. -/
def execHackFire (value : Word) (s : State) : Out :=
  onWrite s fun c d => if fld value 16 16 = 0x4A5C then d.hackTrigger c 1 else d

/-- HACK_LATCH (R484, R487): the pending hack latches every enabled page that is not on HOLD, at trigger tick + 16. -/
def execHackLatch (s : State) : Out :=
  onDev s fun c d =>
    match d.hck.pending with
    | none => d
    | some (t, srcs) =>
      let d := d.advanceTo (t + 16)
      let n := (d.w HCK.NUM).toNat
      let num := if n + 1 = 2 ^ 32 then 1 else n + 1
      let d := ((d.putN HCK.NUM num).putN HCK.LAST srcs).put64 HCK.LAST_TICK_LO HCK.LAST_TICK_HI (t + 16)
      let d := pages.foldl (fun d p => d.latchPage c num p.base) d
      let send := c.b HCK.CFG 14 && !(srcs.testBit 6)
      let h := { d.hck with
        pending := none, lastTrigger := some t
        sent := if send then (wd num :: d.hck.sent).take 4 else d.hck.sent }
      let d := ({ d with hck := h }.event 0x0501 [num, srcs]).journal c (.hack num srcs)
      if send then d.linkPush 3 0x21 8 else d

/-- PARTNER_HACK (R487): the partner's number is kept and a hack with source PARTNER fires. -/
def execPartnerHack (number : Word) (s : State) : Out :=
  onDev s fun c d => (d.put HCK.PARTNER_NUM number).hackTrigger c 7

/-! ### Code table and admission (R475, R478 to R480) -/

/-- A code table entry (Table 20.3). -/
structure CodeEntry where
  idx : Nat
  code : Nat
  sev : Nat
  flags : Nat
  burst : Nat
  set_ : Nat
  refill : Nat
  deriving DecidableEq, Repr

def codeBase : Nat := 0x201C9000

/-- Entry `i` of the code table. -/
def codeEntry (st : Store) (i : Nat) : CodeEntry :=
  let b := st.bytes (codeBase + 8 * i) 8
  ⟨i, leAt b 0 2, leAt b 2 1, leAt b 3 1, leAt b 4 1, leAt b 5 1, leAt b 6 2⟩

/-- The entries of the code table that hold a byte other than 0, in ascending index. -/
def codeEntries (st : Store) : List CodeEntry :=
  let idx := st.mem.filterMap (fun p => if codeBase ≤ p.1 ∧ p.1 < codeBase + 0x2000 then some ((p.1 - codeBase) / 8) else none)
  (idx.foldl (fun acc i => if acc.contains i then acc else acc ++ [i]) []).map (codeEntry st)

/-- The snapshot addresses of set `n` (R478): up to the first 0. -/
def snapshotSet (st : Store) (n : Nat) : List Nat :=
  if n = 0 then []
  else ((List.range 48).map (fun k => leNat (st.bytes (codeBase + 0x2000 + 0xC0 * (n - 1) + 4 * k) 4))).takeWhile (· != 0)

/-- Parameter bytes of a record: each parameter as a 32-bit little-endian word, at most 8 (R473; log 17). -/
def paramBytes (ps : List Int) : List Byte := (ps.take 8).flatMap (fun p => leBytes 4 (unsigned 32 p))

/-- The bytes of a record: header of Table 20.1 with the operating time at the occurrence, parameters, snapshot words, zeros to the end
of its last granule (R473). -/
def recordBytes (d : Dev) (o : Occurrence) (sev seq supp : Nat) (snap : List Word) : List Byte :=
  let ps := paramBytes o.params
  let len := 32 + ps.length + 4 * snap.length
  let gran := (len + 63) / 64
  let opt := (d.w EVR.OPTIME_LO).toNat + d.f EVR.OPTIME_HI 0 16 * 2 ^ 32 - (d.tick / ticksPerMs - o.tick / ticksPerMs)
  let body := leBytes 2 o.code ++ leBytes 1 sev ++ leBytes 1 gran ++ leBytes 4 seq ++ leBytes 6 opt ++ leBytes 2 supp
    ++ leBytes 4 (d.w EVR.PWRCYC).toNat ++ leBytes 6 o.beat ++ leBytes 4 (d.w HCK.NUM).toNat
    ++ leBytes 1 ps.length ++ leBytes 1 snap.length ++ ps ++ snap.flatMap (fun w => leBytes 4 w.toNat)
  body ++ List.replicate (gran * 64 - len) 0

/-- The earliest occurrence that waits: by tick, among equal ticks the lower code (R475). -/
def firstOccurrence (l : List Occurrence) : Option Occurrence :=
  l.foldl (fun best o => match best with
    | none => some o
    | some b => if o.tick < b.tick ∨ (o.tick = b.tick ∧ o.code < b.code) then some o else some b) none

/-- Admitted records go to the holding FIFO while the ring is frozen, in mode 2, before the recorder is ready, and behind records that
still wait there (R475, R481, R561). -/
def holds (d : Dev) : Bool :=
  d.b EVR.FREEZE 0 || d.mode = 2 || !d.b EVR.STAT 3 || !d.evr.holding.isEmpty

/-- A record enters the holding FIFO of 256 entries; the oldest is dropped when it is full (R481). -/
def Dev.hold (d : Dev) (r : EvrRecord) : Dev :=
  let full := decide (256 ≤ d.evr.holding.length)
  let h := (if full then d.evr.holding.drop 1 else d.evr.holding) ++ [r]
  let d := { d with evr := { d.evr with holding := h, dropped := d.evr.dropped + full.toNat } }
  (if full then d.bump EVR.HOLD_DROP_CNT else d).putF EVR.STAT 16 9 h.length

/-- Admission of one occurrence: the token, SEQ and the snapshot are taken at this instant (R475, R479, R480). -/
def takeIn (c : Cfg) (st : Store) (d : Dev) (o : Occurrence) : Dev :=
  let es := (codeEntries st).filter (fun e => e.code = o.code)
  let entry := es.find? (fun e => e.flags.testBit 0)
  if entry.isNone && !es.isEmpty then d
  else if !holds d && decide (64 ≤ d.evr.intake.length) then
    { d with evr := { d.evr with lost := d.evr.lost + 1 } }.bump EVR.LOST_CNT
  else
    let (idx, sev, burst, flags, snap) := match entry with
      | some e => (e.idx, e.sev, e.burst, e.flags, (snapshotSet st e.set_).map (peek c d))
      | none => (1024, c.f EVR.DEF_CFG 8 3, c.f EVR.DEF_CFG 0 8, 0, [])
    let spent := Assoc.get 0 d.evr.spent idx
    let supp := Assoc.get 0 d.evr.supp o.code
    if burst ≤ spent then
      { d with evr := { d.evr with supp := Assoc.set 0 d.evr.supp o.code (supp + 1) } }.bump EVR.SUPP_TOTAL
    else
      let seq := (d.w EVR.SEQ_NEXT).toNat
      let r : EvrRecord := ⟨seq, recordBytes d o sev seq (satU 16 supp) snap⟩
      let d := { d with evr := { d.evr with
        spent := Assoc.set 0 d.evr.spent idx (spent + 1), supp := Assoc.set 0 d.evr.supp o.code 0 } }
      let d := d.wrap EVR.SEQ_NEXT 0 32 1
      let d := if holds d then d.hold r else { d with evr := { d.evr with intake := d.evr.intake ++ [r] } }
      let d := if c.f EVR.CFG 0 3 ≤ sev || flags.testBit 2 then d.irq 0x40005000 0 else d
      if flags.testBit 1 then d.hackTrigger c 2 else d

/-- EVENT_ADMIT (R475): the earliest waiting occurrence is admitted, suppressed or lost. -/
def execEventAdmit (s : State) : Out :=
  onDev s fun c d =>
    match firstOccurrence d.occ with
    | none => d
    | some o => takeIn c s.store { d with occ := d.occ.erase o } o

/-! ### The ring (R472, R476, R477) -/

def ringBase : Nat := 0x50000000
def ringSize : Nat := 196608

/-- Granules that hold records. -/
def ringUsed (e : EvrDev) : Nat := e.index.foldl (fun n p => n + p.2.2) 0

/-- The oldest records are removed whole until `need` granules and the one that stays free fit (R477). -/
def removeOldest (fuel : Nat) (d : Dev) (need : Nat) : Dev :=
  match fuel with
  | 0 => d
  | k + 1 =>
    if ringUsed d.evr + need + 1 ≤ ringSize then d
    else match d.evr.index with
      | [] => d
      | (_, g, n) :: rest =>
        let d := { d with evr := { d.evr with index := rest } }
        let d := ((d.putN EVR.TAIL ((g + n) % ringSize)).bump EVR.OVERWR_CNT).irq 0x40005000 2
        let d := match rest with | [] => d | (q, _, _) :: _ => d.putN EVR.TAIL_SEQ q
        removeOldest k d need

/-- The record whose granules are committed next: the intake queue, then the holding FIFO once nothing holds it back. -/
def nextRecord (d : Dev) : Option (EvrRecord × Bool) :=
  if d.b EVR.FREEZE 0 || d.mode = 2 || !d.b EVR.STAT 3 then none
  else match d.evr.intake, d.evr.holding with
    | r :: _, _ => some (r, true)
    | [], r :: _ => some (r, false)
    | [], [] => none

/-- One granule of a record is written at HEAD + the granules written; the record is in the ring with its last granule and HEAD
(R476). -/
def commitGranule (st : Store) (d : Dev) (r : EvrRecord) (fromIntake : Bool) : Store × Dev :=
  let gran := r.bytes.length / 64
  let d := if d.evr.written = 0 then removeOldest ringSize d gran else d
  let head := (d.w EVR.HEAD).toNat
  let g := (head + d.evr.written) % ringSize
  let (st, d) := st.writeBy d (ringBase + 64 * g) ((r.bytes.drop (64 * d.evr.written)).take 64)
  if d.evr.written + 1 < gran then (st, { d with evr := { d.evr with written := d.evr.written + 1 } })
  else
    let empty := d.evr.index.isEmpty
    let d := { d with evr := { d.evr with
      written := 0, index := d.evr.index ++ [(r.seq, head, gran)]
      intake := if fromIntake then d.evr.intake.drop 1 else d.evr.intake
      holding := if fromIntake then d.evr.holding else d.evr.holding.drop 1 } }
    let d := (d.putN EVR.HEAD ((head + gran) % ringSize)).putF EVR.STAT 16 9 d.evr.holding.length
    let d := if empty then (d.putN EVR.TAIL head).putN EVR.TAIL_SEQ r.seq else d
    if d.evr.lost = 0 then (st, d)
    else (st, { d with evr := { d.evr with lost := 0 } }.event 0x0602 [d.evr.lost])

/-- GRANULE_COMMIT (R476): at least 2 microseconds after the last. -/
def execGranuleCommit (s : State) : Out :=
  onMem s fun _ st d =>
    match nextRecord d with
    | none => (st, d)
    | some (r, fromIntake) =>
      let d := match d.evr.granTick with | none => d | some t => d.advanceTo (t + 2 * ticksPerUs)
      commitGranule st { d with evr := { d.evr with granTick := some d.tick } } r fromIntake

/-- REFILL of a bucket, ms. -/
def refillMs (c : Cfg) (st : Store) (entry : Nat) : Nat := if entry = 1024 then c.f EVR.DEF_CFG 16 16 else (codeEntry st entry).refill

/-- TOKEN_REFILL (R480): one token returns to the bucket, up to BURST, at the next multiple of REFILL after the buckets were filled
(log 101). -/
def execTokenRefill (entry : Fin 1025) (s : State) : Out :=
  onMem s fun c st d =>
    let e := entry.val
    let at_ := Assoc.get d.evr.filled d.evr.returned e + refillMs c st e * ticksPerMs
    let d := d.advanceTo at_
    (st, { d with evr := { d.evr with
      spent := Assoc.set 0 d.evr.spent e (Assoc.get 0 d.evr.spent e - 1), returned := Assoc.set d.evr.filled d.evr.returned e at_ } })

/-! ### Freeze (R481) -/

/-- FREEZE_START (R481): 1 is written to FREEZE. -/
def execFreezeStart (s : State) : Out :=
  onWrite s fun _ d =>
    if d.b EVR.FREEZE 0 then d
    else { (d.putN EVR.FREEZE 1).putB EVR.STAT 0 true with evr := { d.evr with freezeTick := d.tick, dropped := 0 } }

/-- The freeze ends: held records may be committed; a drop is recorded with its count, behind them. -/
def Dev.endFreeze (d : Dev) : Dev :=
  let n := d.evr.dropped
  let d := { (d.putN EVR.FREEZE 0).putB EVR.STAT 0 false with evr := { d.evr with dropped := 0 } }
  if n = 0 then d else d.event 0x0601 [n]

/-- FREEZE_END (R481): 0 is written to FREEZE. -/
def execFreezeEnd (s : State) : Out :=
  onWrite s fun _ d => if d.b EVR.FREEZE 0 then d.endFreeze else d

/-- FREEZE_TIMEOUT (R481): the freeze ends by itself after FRZ_MAX seconds. -/
def execFreezeTimeout (s : State) : Out :=
  onDev s fun c d =>
    if d.b EVR.FREEZE 0 then
      ((d.advanceTo (d.evr.freezeTick + c.f EVR.CFG 8 6 * ticksPerSec)).event 0x0605).endFreeze
    else d

/-! ### Clearing (R482) -/

/-- A refused clear: its code, and event CLEAR_REFUSED. -/
def Dev.clearRefused (d : Dev) (code : Nat) : Dev := (d.putF EVR.CLR_RES 0 4 code).event 0x0604 [code]

/-- CLR_REQ (R482): a nonce is shown, or the request refused with its code. -/
def execClrReq (value : Word) (s : State) : Out :=
  onWrite s fun _ d =>
    if fld value 16 16 != 0x6C1E then d.clearRefused 9
    else if d.mode != 3 then d.clearRefused 3
    else if d.b EVR.FREEZE 0 then d.clearRefused 4
    else if !d.b EVR.STAT 1 then d.clearRefused 5
    else if d.b EVR.STAT 2 then d.clearRefused 6
    else
      let (lo, d) := d.takeFree
      let (hi, d) := d.takeFree
      let d := { d with evr := { d.evr with nonce := some (hi ++ lo, d.tick) } }
      ((d.put EVR.CLR_NONCE_LO lo).put EVR.CLR_NONCE_HI hi).putF EVR.CLR_RES 0 4 1

/-- The CLEARED record is committed as the only record of the ring (R482); its station is 0, firmware (log 101). -/
def clearRing (c : Cfg) (st : Store) (d : Dev) : Store × Dev :=
  let first := (d.w EVR.TAIL_SEQ).toNat
  let last := match d.evr.index.getLast? with | some p => p.1 | none => first
  let o : Occurrence := ⟨0x0603, d.tick, d.eventBeat, [first, last, d.evr.index.length, 0]⟩
  let seq := (d.w EVR.SEQ_NEXT).toNat
  let sev := (((codeEntries st).find? (fun e => e.code = 0x0603 && e.flags.testBit 0)).map (·.sev)).getD (c.f EVR.DEF_CFG 8 3)
  let r : EvrRecord := ⟨seq, recordBytes d o sev seq 0 []⟩
  let head := (d.w EVR.HEAD).toNat
  let gran := r.bytes.length / 64
  let (st, d) := (List.range gran).foldl (fun (x : Store × Dev) i =>
    x.1.writeBy x.2 (ringBase + 64 * ((head + i) % ringSize)) ((r.bytes.drop (64 * i)).take 64)) (st, d)
  let d := { d with evr := { d.evr with index := [(seq, head, gran)], nonce := none, written := 0 } }
  let d := ((d.wrap EVR.SEQ_NEXT 0 32 1).putN EVR.TAIL head).putN EVR.TAIL_SEQ seq
  (st, (d.putN EVR.HEAD ((head + gran) % ringSize)).putN EVR.CLR_RES 2)

/-- CLR_CMD (R482): the answer is compared with the keyed hash of nonce and unique ID; three wrong answers lock the clear. Refused too while
the ring is frozen, whose HEAD and TAIL stay fixed (R481; log 101). -/
def execClrCmd (value : Word) (s : State) : Out :=
  onMemWrite s fun c st d =>
    if fld value 16 16 != 0x6C1E then (st, d.clearRefused 9)
    else if d.mode != 3 then (st, d.clearRefused 3)
    else if d.b EVR.FREEZE 0 then (st, d.clearRefused 4)
    else match d.evr.nonce with
      | none => (st, d.clearRefused 7)
      | some (n, _) =>
        let uid := d.w SYS.UID_HI ++ d.w SYS.UID_LO
        let m := hmacSha256 Config.maintenanceKey (leBytes 8 n.toNat ++ leBytes 8 uid.toNat)
        if leBytes 8 (d.w EVR.CLR_RESP_HI ++ d.w EVR.CLR_RESP_LO).toNat != m.take 8 then
          let fails := d.f EVR.CLR_RES 4 2 + 1
          let d := (d.clearRefused 8).putF EVR.CLR_RES 4 2 (if fails = 3 then 0 else fails)
          if fails = 3 then (st, { d.putB EVR.STAT 2 true with evr := { d.evr with lockTick := d.tick } }) else (st, d)
        else clearRing c st d

/-- NONCE_EXPIRY (R482): the nonce is invalid 60 s after it was shown. -/
def execNonceExpiry (s : State) : Out :=
  onDev s fun _ d =>
    match d.evr.nonce with
    | none => d
    | some (_, t) =>
      let d := d.advanceTo (t + 60 * ticksPerSec)
      { d with evr := { d.evr with nonce := none } }

/-- CLR_LOCK_EXPIRY (R482): the lock of 600 s ends. -/
def execClrLockExpiry (s : State) : Out :=
  onDev s fun _ d =>
    if d.b EVR.STAT 2 then (d.advanceTo (d.evr.lockTick + 600 * ticksPerSec)).putB EVR.STAT 2 false else d

end Sys2Proof.Machine
end

