-- ==== Sys2Proof/Machine/Field.lean ====
section
/-! DEFINITION. The field die (18_field_io.md): outputs and their demagnetisation, diagnostics, supplies, inputs, test pulses,
analogue channels, encoders. What clears the crown latch (watchdog, link loss) is in Pair.lean. -/
namespace Sys2Proof.Machine

/-- The module's time comes to an instant a period after the last one, when there was one. -/
def Dev.nextAfter (d : Dev) (last : Option Nat) (period : Nat) : Dev :=
  match last with
  | none => d
  | some t => d.advanceTo (t + period)

/-! ### Outputs (R433 to R439) -/

/-- The field die's record of output `k`. -/
def Dev.out (d : Dev) (k : Nat) : OutDev := Assoc.get {} d.field.outs k
def Dev.putOut (d : Dev) (k : Nat) (o : OutDev) : Dev := { d with field := { d.field with outs := Assoc.set {} d.field.outs k o } }
def Dev.sup (d : Dev) (g : Nat) : SupDev := Assoc.get {} d.field.sups g
def Dev.putSup (d : Dev) (g : Nat) (x : SupDev) : Dev := { d with field := { d.field with sups := Assoc.set {} d.field.sups g x } }

/-- The lowest member of output `k`'s parallel group (R435). -/
def outLead (c : Cfg) (k : Nat) : Nat :=
  let par := c.f (FIO.OUT_CFG k) 1 2
  if par = 1 then k / 2 * 2 else if par = 2 then k / 4 * 4 else k

/-- The members of the parallel group that `lead` leads (R435). -/
def outMembers (c : Cfg) (lead : Nat) : List Nat := (List.range 16).filter (fun k => outLead c k = lead)

/-- SFM.CFG.SOUT designates output `k` a safety output (R360). -/
def isSafety (c : Cfg) (k : Nat) : Bool := decide (12 ≤ k) && c.b SFM.CFG (k - 12)

/-- Modes in which Table 2.9 drives field outputs; the ramp beat continues as in Manual (R46). -/
def outputsDriven (d : Dev) : Bool := d.modes.rampBeat || (decide (6 ≤ d.mode) && decide (d.mode ≤ 10))

/-- Condition GATED of R434: the crown latch is clear, or Table 2.9 holds the output off in the current mode; in Lock-out an output
with LK_HOLD that is not a safety output is held (R439). -/
def outGated (c : Cfg) (d : Dev) (k : Nat) : Bool :=
  !d.crown || !(outputsDriven d || (decide (d.mode = 11) && c.b (FIO.OUT_CFG k) 5 && !isSafety c k))

/-- SAG_OFF is latched for output `k` (R440, R441). -/
def outSag (c : Cfg) (d : Dev) (k : Nat) : Bool :=
  let x := d.sup (k / 8)
  if isSafety c k then x.sagSafety else x.sagOther

/-- The output is latched off by a diagnostic (R443, R444), or its junction has not cooled. -/
def outLatched (o : OutDev) : Bool := o.overload || o.overtempLatch || o.hot || o.faultOff

/-- Whether the switch of the group led by `k` is to be on (R434, R439, R444). -/
def outWanted (c : Cfg) (d : Dev) (k : Nat) : Bool :=
  let o := d.out k
  let cmd := if isSafety c k then d.field.sfmBits.testBit k else o.cmd
  let cmd := if d.mode = 11 && !d.modes.rampBeat then o.driven else cmd
  c.b (FIO.OUT_CFG k) 0 && cmd && !outGated c d k && !outSag c d k && !outLatched o && !o.reverse
    && !d.b (FIO.SUP_STAT (k / 8)) 19 && !(isSafety c k && d.field.stopRemoved)

/-- `OUT_STATk.STATE`: the first of GATED, SAG_OFF, FAULT_OFF, OVERTEMP, OVERLOAD that holds, else ON or OFF (R434). -/
def outState (c : Cfg) (d : Dev) (k : Nat) : Nat :=
  let o := d.out k
  if outGated c d k then 5
  else if outSag c d k then 4
  else if o.faultOff then 6
  else if o.hot || o.overtempLatch then 3
  else if o.overload then 2
  else if o.driven then 1 else 0

/-- The registers that show output `k` of the group led by `lead` (R434, R435). -/
def Dev.showOut (d : Dev) (c : Cfg) (lead k : Nat) : Dev :=
  let o := d.out lead
  let w := setFld (d.w (FIO.OUT_STAT k)) 0 12
    (outState c d lead + o.openLoad.toNat * 8 + o.short.toNat * 16 + o.crossFed.toNat * 32 + o.reverse.toNat * 64
      + o.xfPartial.toNat * 128 + o.partner * 256)
  ((d.put (FIO.OUT_STAT k) w).putB FIO.OUT_DRIVEN k o.driven).putB FIO.OUT_SENSE k
    (o.driven || o.short || o.crossFed || o.suspect || o.reverse)

/-- One group is brought to its wanted state. A turn-off is slow for a command off or where `slow` says so (the end of a ramp
beat, R46), else fast (Table 18.2). -/
def Dev.driveGroup (d : Dev) (c : Cfg) (slow : Bool) (lead : Nat) : Dev :=
  let o := d.out lead
  let want := outWanted c d lead
  let o' :=
    if o.driven && !want then
      let fast := !slow && (outGated c d lead || outSag c d lead || outLatched o || d.b (FIO.SUP_STAT (lead / 8)) 19)
      { o with driven := false, fast := fast, offTick := d.tick, fastTick := if fast then d.tick else o.fastTick }
    else { o with driven := want }
  let d := d.putOut lead o'
  (outMembers c lead).foldl (fun d k => d.showOut c lead k) d

/-- Every output is brought to its wanted state; the members of a group switch together (R435). -/
def Dev.driveOutputs (d : Dev) (c : Cfg) (slow : Bool) : Dev :=
  ((List.range 16).filter (fun k => outLead c k = k)).foldl (fun d k => d.driveGroup c slow k) d

/-! ### Analogue outputs (R452) -/

def Dev.aout (d : Dev) (o : Nat) : AoutDev := Assoc.get {} d.field.aouts o

/-- Every analogue output takes its code, or its zero value while it may not be driven; in Lock-out an output with LK_HOLD keeps its
value (R452). -/
def Dev.driveAouts (d : Dev) (c : Cfg) : Dev :=
  (List.range 4).foldl (fun d o =>
    let x := d.aout o
    let hold := decide (d.mode = 11) && c.b (ANU.AOUT_CFG o) 2 && !x.zero
    let zero := !d.crown || !(outputsDriven d || hold) || !c.b (ANU.AOUT_CFG o) 0
    let x' := { x with zero := zero }
    let d := { d with field := { d.field with aouts := Assoc.set {} d.field.aouts o x' } }
    (d.putF (ANU.AOUT_STAT o) 0 16 (if zero then 0 else unsigned 16 x.code)).putB (ANU.AOUT_STAT o) 18 zero) d

/-- Outputs and analogue outputs together follow the crown latch and the mode. -/
def Dev.driveField (d : Dev) (c : Cfg) (slow : Bool) : Dev := (d.driveOutputs c slow).driveAouts c

/-- AOUT_SET (R452): the code goes to the field die at the next link slot. -/
def execAoutSet (out : Fin 4) (value : Word) (s : State) : Out :=
  onWrite s fun c d =>
    let d := d.putN (ANU.AOUT_SET out.val) (fld value 0 16)
    if c.b (ANU.AOUT_CFG out.val) 3 then d
    else { d with field := { d.field with pendAout := d.field.pendAout ++ [(out.val, sfld value 0 16)] } }

/-- AOUT_FAULT (R452): OPEN for MODE 1, OVERLOAD for MODE 0, with event 0x3103. -/
def execAoutFault (out : Fin 4) (s : State) : Out :=
  onDev s fun c d =>
    let m := c.b (ANU.AOUT_CFG out.val) 1
    if !c.b (ANU.AOUT_CFG out.val) 0 then d
    else (d.putB (ANU.AOUT_STAT out.val) (if m then 16 else 17) true).event 0x3103 [out.val, if m then 0 else 1]

/-! ### The isolated link (R432) -/

/-- OUT_SET (R434): the command of the outputs with SRC 0 leaves in the next link slot. -/
def execOutSet (value : Word) (s : State) : Out :=
  onWrite s fun c d =>
    let d := d.putN FIO.OUT_SET (fld value 0 16)
    let src0 := (List.range 16).foldl (fun m k => if c.f (FIO.OUT_CFG k) 3 2 = 0 && !isSafety c k then m + 2 ^ k else m) 0
    { d with field := { d.field with
        pendMask := d.field.pendMask ||| src0
        pendBits := (d.field.pendBits &&& (65535 - src0)) ||| (fld value 0 16 &&& src0) } }

/-- Output `k` is held in Lock-out, where commands to it are ignored (R439). -/
def heldInLockout (c : Cfg) (d : Dev) (k : Nat) : Bool := decide (d.mode = 11) && c.b (FIO.OUT_CFG k) 5 && !isSafety c k

/-- The commands that wait reach the field die (R432); in Lock-out commands to held outputs are ignored (R439, R452). -/
def Dev.deliverCommands (d : Dev) (c : Cfg) : Dev :=
  let f := d.field
  let outs := (List.range 16).foldl (fun l k =>
    if f.pendMask.testBit k && !heldInLockout c d k then
      Assoc.set {} l k { (Assoc.get {} l k : OutDev) with cmd := f.pendBits.testBit k } else l) f.outs
  let codes := f.pendAout.filter (fun p => !(decide (d.mode = 11) && c.b (ANU.AOUT_CFG p.1) 2))
  let aouts := codes.foldl (fun l p => Assoc.set {} l p.1 { (Assoc.get {} l p.1 : AoutDev) with code := p.2 }) f.aouts
  let regs := codes.foldl (fun d p => d.putF (ANU.AOUT_STAT p.1) 16 2 0) d
  let d := { regs with field := { f with outs := outs, aouts := aouts, pendMask := 0, pendBits := 0, pendAout := [] } }
  d.driveField c false

/-- The message of a slot: a command of the safety monitor is class 0 and goes ahead of every other (R432, R23). -/
def Dev.deliverSlot (d : Dev) (c : Cfg) : Dev :=
  match d.field.pendSfm with
  | some b => { d with field := { d.field with sfmBits := b, pendSfm := none } }.driveOutputs c false
  | none => d.deliverCommands c

/-- FIELD_LINK_SLOT (R432): a valid slot carries the commands that wait; an invalid one is counted. -/
def execFieldLinkSlot (valid : Bool) (s : State) : Out :=
  onDev s fun c d =>
    if valid then { d with field := { d.field with badSlots := 0 } }.deliverSlot c
    else { d with field := { d.field with badSlots := d.field.badSlots + 1 } }.bump FIO.LINK_ERR_CNT

/-! ### Supplies (R440, R441) -/

/-- SUPg_STAT bits of the sag latch. -/
def Dev.showSag (d : Dev) (g : Nat) : Dev := d.putB (FIO.SUP_STAT g) 18 ((d.sup g).sagSafety || (d.sup g).sagOther)

/-- SUPPLY_SAMPLE (R440): the supply is measured and classified by Table 18.3. -/
def execSupplySample (group : Fin 2) (mv : Int) (s : State) : Out :=
  onDev s fun c d =>
    let g := group.val
    let k := FIO.SUP_STAT g
    let d := d.putF k 0 16 (satU 16 (mv / 10).toNat)
    let d := if d.b k 16 then (if 19700 ≤ mv then d.putB k 16 false else d)
      else if mv < 19200 then (d.putB k 16 true).event 0x3007 [g] else d
    let d := if d.b k 19 then d.putB k 19 (decide (mv < -500)) else d.putB k 19 (decide (mv < -1000))
    let x := d.sup g
    let x := { x with low := if mv < 15500 then x.low + 1 else 0
                      goodSince := if 17000 ≤ mv then (match x.goodSince with | some t => some t | none => some d.tick) else none }
    let uv := d.b k 17
    let x := { x with risen := x.risen || (!uv && decide (15500 ≤ mv)) }
    let d := d.putSup g x
    if !uv && decide (3 ≤ x.low) then
      let d := d.putB k 17 true
      if x.risen then
        let d := d.putSup g { x with sagSafety := true, sagOther := true, risen := false }
        ((((d.sat FIO.SAG_CNT (16 * g) 16 1).showSag g).event 0x3008 [g])).driveOutputs c false
      else d.driveOutputs c false
    else d.driveOutputs c false

/-- SAG_RESTORED (R441): UV ends; with AUTO_RESTORE the sag latch clears for the outputs that are not safety outputs. -/
def execSagRestored (group : Fin 2) (s : State) : Out :=
  onDev s fun c d =>
    let g := group.val
    let x := d.sup g
    match x.goodSince with
    | none => d
    | some t =>
      if !d.b (FIO.SUP_STAT g) 17 then d
      else
        let d := (d.advanceTo (t + 100 * ticksPerMs)).putB (FIO.SUP_STAT g) 17 false
        let restore := c.b (FIO.SUP_CFG g) 0 && x.sagOther
        let safe := (List.range 16).any (fun k => isSafety c k && decide (k / 8 = g))
        let d := d.putSup g { x with risen := true, sagOther := x.sagOther && !restore, sagSafety := x.sagSafety && (!restore || safe) }
        let d := (d.showSag g).driveOutputs c false
        if restore then d.event 0x3009 [g] else d

/-- SUP_RESTORE (R441): KEY 0x5AC0 and RESTORE clear the sag latch of the groups named, safety outputs included. -/
def execSupRestore (value : Word) (s : State) : Out :=
  onWrite s fun c d =>
    let gs := (List.range 2).filter (bit value ·)
    if fld value 16 16 != 0x5AC0 then d.putN FIO.SUP_RES 1
    else if gs.any (fun g => d.b (FIO.SUP_STAT g) 17) then d.putN FIO.SUP_RES 2
    else if gs.all (fun g => !d.b (FIO.SUP_STAT g) 18) then d.putN FIO.SUP_RES 3
    else
      let d := gs.foldl (fun d g => (d.putSup g { d.sup g with sagSafety := false, sagOther := false }).showSag g) d
      (d.putN FIO.SUP_RES 0).driveOutputs c false

/-! ### Output diagnostics (R442 to R444) -/

/-- DIAG_SEEN takes the members of a group. -/
def Dev.diagSeen (d : Dev) (c : Cfg) (lead : Nat) : Dev :=
  (outMembers c lead).foldl (fun d k => d.putB FIO.DIAG_SEEN k true) d

/-- A change of the group led by `lead`, seen and driven. -/
def Dev.diagOut (d : Dev) (c : Cfg) (lead : Nat) (f : OutDev → OutDev) : Dev :=
  ((d.putOut lead (f (d.out lead))).diagSeen c lead).driveGroup c false lead

/-- The identification procedure of R442 over the outputs driven on, ascending: the first whose pulse makes `k` low explains it. -/
def crossFeed (c : Cfg) (d : Dev) (k : Nat) (lowAt : Nat) (js : List Nat) (partial_ : Bool) : Dev :=
  match js with
  | [] =>
    let d := d.diagOut c k (fun o => { o with short := true, xfPartial := partial_, suspect := false })
    d.event 0x3003 [k, partial_.toNat]
  | j :: rest =>
    if !c.b (FIO.OUT_CFG j) 7 || isSafety c j then crossFeed c d k lowAt rest true
    else if lowAt.testBit j then
      let lj := outLead c j
      let d := d.diagOut c k (fun o => { o with crossFed := true, partner := j, suspect := false })
      let d := d.diagOut c lj (fun o => { o with crossFed := true, partner := k })
      let d := d.event 0x3004 [k, j]
      if c.b (FIO.OUT_CFG j) 9 then d.diagOut c lj (fun o => { o with faultOff := true }) else d
    else crossFeed c d k lowAt rest partial_

/-- CROSS_FEED_CHECK (R442): not in modes 0 to 2, not within 10 ms of a fast demagnetisation, not while a group warns, and only for an
output that is suspect: by its own off-pulse, or commanded off and sensed high for 1 ms from 1 ms after its turn-off. -/
def execCrossFeedCheck (out : Fin 16) (lowAt : BitVec 16) (s : State) : Out :=
  onDev s fun c d =>
    let k := outLead c out.val
    let d := if (d.out k).driven || (d.out k).offTick = 0 then d else d.advanceTo ((d.out k).offTick + 2 * ticksPerMs)
    let recent := d.field.outs.any (fun p => p.2.fastTick != 0 && decide (d.tick < p.2.fastTick + 10 * ticksPerMs))
    let warn := d.b (FIO.SUP_STAT 0) 16 || d.b (FIO.SUP_STAT 1) 16
    if d.mode ≤ 2 || recent || warn || ((d.out k).driven && !(d.out k).suspect) then d
    else
      let js := (List.range 16).filter (fun j => (d.out (outLead c j)).driven && outLead c j != k)
      crossFeed c d k lowAt.toNat js false

/-- DIAG_OFF_PULSE (R442), OP_DIAG.PERIOD after the output's last: an output that is still not low at the end of its own off-pulse becomes
suspect. -/
def execDiagOffPulse (out : Fin 16) (low : Bool) (s : State) : Out :=
  onDev s fun c d =>
    let k := outLead c out.val
    if !c.b (FIO.OUT_CFG k) 8 || isSafety c k || !(d.out k).driven then d
    else
      let d := d.nextAfter (d.out k).diagTick (c.f FIO.OP_DIAG 8 8 * ticksPerSec)
      (d.putOut k { d.out k with suspect := !low, diagTick := some d.tick }).driveGroup c false k

/-- OUT_OVERLOAD (R444): off, fast, latched. -/
def execOutOverload (out : Fin 16) (s : State) : Out :=
  onDev s fun c d =>
    let k := outLead c out.val
    if !(d.out k).driven then d
    else (d.diagOut c k (fun o => { o with overload := true })).event 0x3001 [k]

/-- OUT_OVERTEMP (R444): off, fast; latched at the third event in 10 s. -/
def execOutOvertemp (out : Fin 16) (s : State) : Out :=
  onDev s fun c d =>
    let k := outLead c out.val
    let ticks := d.tick :: (d.out k).hotTicks.filter (fun t => d.tick < t + 10 * ticksPerSec)
    (d.diagOut c k (fun o => { o with hot := true, hotTicks := ticks,
                                      overtempLatch := o.overtempLatch || decide (3 ≤ ticks.length) })).event 0x3002 [k]

/-- OUT_OVERTEMP_COOLED (R444): on again unless latched. -/
def execOutOvertempCooled (out : Fin 16) (s : State) : Out :=
  onDev s fun c d =>
    let k := outLead c out.val
    (d.putOut k { d.out k with hot := false }).driveGroup c false k

/-- OPEN_LOAD (R444): a flag, with OL_EN on an output driven on. -/
def execOpenLoad (out : Fin 16) (s : State) : Out :=
  onDev s fun c d =>
    let k := outLead c out.val
    if !c.b (FIO.OUT_CFG k) 6 || !(d.out k).driven || (d.out k).openLoad then d
    else (d.diagOut c k (fun o => { o with openLoad := true })).event 0x3006 [k]

/-- OPEN_LOAD_CLEARED (R444). -/
def execOpenLoadCleared (out : Fin 16) (s : State) : Out :=
  onDev s fun c d =>
    let k := outLead c out.val
    (d.putOut k { d.out k with openLoad := false }).driveGroup c false k

/-- REVERSE (R444): reverse-current blocking opens the switch. -/
def execReverse (out : Fin 16) (s : State) : Out :=
  onDev s fun c d =>
    let k := outLead c out.val
    if (d.out k).reverse then d
    else (d.diagOut c k (fun o => { o with reverse := true })).event 0x3005 [k]

/-- REVERSE_CLEARED (R444): a commanded-on output is driven again. -/
def execReverseCleared (out : Fin 16) (s : State) : Out :=
  onDev s fun c d =>
    let k := outLead c out.val
    (d.putOut k { d.out k with reverse := false }).driveGroup c false k

/-- GROUP_CURRENT (R444): a flag and an event only, above 3.0 A. -/
def execGroupCurrent (group : Fin 2) (ma : Nat) (s : State) : Out :=
  onDev s fun _ d =>
    let k := FIO.SUP_STAT group.val
    let d := d.putF k 24 8 (satU 8 (ma / 20))
    if ma ≤ 3000 || d.b k 20 then d
    else ((d.putB k 20 true).putB FIO.DIAG_SEEN (16 + group.val) true).event 0x300F [group.val, ma]

/-- GROUP_CURRENT_CLEARED (R444): at or below 2.8 A. -/
def execGroupCurrentCleared (group : Fin 2) (ma : Nat) (s : State) : Out :=
  onDev s fun _ d =>
    let k := FIO.SUP_STAT group.val
    let d := d.putF k 24 8 (satU 8 (ma / 20))
    if ma ≤ 2800 then d.putB k 20 false else d

/-- CROSS_FED_CLEARED (R442): both flags clear on an output sensed low for 10 ms while commanded off, and CROSS_FED on its partner (DEDUCED,
log 100). -/
def execCrossFedCleared (out : Fin 16) (s : State) : Out :=
  onDev s fun c d =>
    let k := outLead c out.val
    let o := d.out k
    if o.driven then d
    else
      let j := outLead c o.partner
      let d := if o.crossFed && (d.out j).crossFed && outLead c (d.out j).partner = k then
          (d.putOut j { d.out j with crossFed := false, partner := 0 }).driveGroup c false j
        else d
      (d.putOut k { o with crossFed := false, short := false, xfPartial := false, partner := 0, suspect := false }).driveGroup c false k

/-- OUT_CLR (R443, R444): KEY 0x3E07 clears the latches of the outputs named whose condition has gone: OVERLOAD where `gone` says so,
OVERTEMP on a cool junction, FAULT_OFF without CROSS_FED. -/
def execOutClr (value : Word) (gone : BitVec 16) (s : State) : Out :=
  onWrite s fun c d =>
    if fld value 16 16 != 0x3E07 then d
    else
      (List.range 16).foldl (fun d k =>
        let l := outLead c k
        let o := d.out l
        if bit value k then
          (d.putOut l { o with
            overload := o.overload && !gone.getLsbD k, overtempLatch := o.overtempLatch && o.hot
            faultOff := o.faultOff && o.crossFed }).driveGroup c false l
        else d) d

/-! ### Inputs (R445 to R449) -/

def Dev.inp (d : Dev) (i : Nat) : InDev := Assoc.get {} d.field.ins i
def Dev.putInp (d : Dev) (i : Nat) (x : InDev) : Dev := { d with field := { d.field with ins := Assoc.set {} d.field.ins i x } }

/-- The stop inputs (SFM.STOPIN): input number and LEVEL of every enabled one (R354). -/
def stopInputs (c : Cfg) : List (Nat × Bool) :=
  ((List.range 4).filter (fun k => c.b SFM.STOPIN (8 * k + 7))).map (fun k => (c.f SFM.STOPIN (8 * k) 4, c.b SFM.STOPIN (8 * k + 4)))

/-- Input `i` is a stop input, and its stop level. -/
def stopLevel (c : Cfg) (i : Nat) : Option Bool := ((stopInputs c).find? (fun p => p.1 = i)).map (·.2)

/-- A stop input reads its stop level now (R354). -/
def stopActive (c : Cfg) (d : Dev) : Bool := (stopInputs c).any (fun p => d.b FIO.IN_FILT p.1 = p.2)

/-- The period of an input in ticks (Table 18.8 PER). -/
def inPeriod (c : Cfg) (i : Nat) : Nat := 25000 * 2 ^ (c.f (FIO.IN_CFG i) 3 3)

/-- The filtered state of input `i` as consumers see it: TP_FAULT forces it to the stop level of a stop input, to 0 of another
(R450). -/
def inLevel (c : Cfg) (d : Dev) (i : Nat) : Bool :=
  if d.b FIO.IN_FAULT i then (match stopLevel c i with | some l => l | none => false) else (d.inp i).filt

/-- filt of input `i` takes its level; a change makes an edge item, counts, may trigger a hack, and a stop input at its stop level
makes the field die remove the safety outputs by itself (R354, R449, R483). -/
def Dev.setFilt (d : Dev) (c : Cfg) (i : Nat) : Dev :=
  let l := inLevel c d i
  if d.b FIO.IN_FILT i = l then d
  else
    let d := d.putB FIO.IN_FILT i l
    let bits := (if d.b FIO.IN_FAULT i || d.b FIO.IN_FAULT (16 + i) then qRANGE else 0) + (if d.b FIO.IN_SUSPECT i then qSUSPECT else 0)
    let d := if c.b (FIO.IN_CFG i) 19 then d.capture c (c.f FIO.EDGE_BASE 0 16 + 2 * i + l.toNat) (c.f FIO.EDGE_BASE 16 2) d.tick bits [] else d
    let d := if c.b (FIO.IN_CFG i) 20 && l then d.wrap (FIO.IN_CNT i) 0 32 1 else d
    let edge := c.f HCK.CFG 12 2
    let d := if c.f HCK.CFG 8 4 = i && (edge = 2 || edge = (!l).toNat) then d.hackTrigger c 3 else d
    if stopLevel c i = some l then { d with field := { d.field with stopRemoved := true } }.driveOutputs c false else d

/-- One sample through the counter filter (R446). -/
def countFilter (n : Nat) (high : Bool) (x : InDev) : InDev :=
  let cnt := if high then min (x.cnt + 1) n else x.cnt - 1
  { x with cnt := cnt, filt := if cnt = n then true else if cnt = 0 then false else x.filt }

/-- The next sample instant of input `i` (R446): a multiple of PER on the scale, whose multiples of 1 ms are the boundaries; with a period above
1 ms the boundary of a beat whose number is a multiple. The present instant, when none has been at it. -/
def sampleInstant (c : Cfg) (d : Dev) (i : Nat) : Nat :=
  let per := inPeriod c i
  let last := (d.inp i).instant
  if per ≤ ticksPerMs then
    let t := (d.tick + per - 1) / per * per
    if last = some t then t + per else t
  else
    let n := per / ticksPerMs
    let wait := (n - d.esc.beat % n) % n
    let t := d.esc.boundary + wait * ticksPerMs
    if last = some t || decide (t < d.tick) then t + per else t

/-- The test pulse window runs (R450): from the start of a pulse of an enabled source to SETTLE after its end. -/
def inPulseWindow (c : Cfg) (d : Dev) : Bool :=
  d.field.pulses.any (fun p =>
    c.b FIO.TP_CFG p.1 && decide (p.2 ≤ d.tick ∧ d.tick < p.2 + (c.f FIO.TP_CFG 8 8 + c.f FIO.TP_CFG 24 8) * 10 * ticksPerUs))

/-- INPUT_SAMPLE (R445 to R447) at the input's next instant: threshold, RANGE, SUSPECT, the counter filter. A sample inside a test pulse window
is not taken. -/
def execInputSample (input : Fin 16) (mv : Int) (s : State) : Out :=
  onDev s fun c d =>
    let i := input.val
    let cfg := FIO.IN_CFG i
    if !c.b cfg 0 then d
    else
      let t := sampleInstant c d i
      let d := (d.advanceTo t).putInp i { d.inp i with instant := some t }
      if inPulseWindow c d then d
      else
        let (hi, lo) : Int × Int := if c.b cfg 1 then (8500, 7000) else (12000, 10000)
        let high := if hi ≤ mv then true else if mv ≤ lo then false else d.b FIO.IN_RAW i
        let d := (d.putB FIO.IN_RAW i high).putB FIO.IN_FAULT (16 + i) (decide (32000 < mv) || decide (mv < -3000))
        let d := d.putB FIO.IN_SUSPECT i (d.b (FIO.SUP_STAT (i / 8)) 16)
        let x := countFilter (c.f cfg 8 8) high (d.inp i)
        (d.putInp i { x with sampled := some d.tick }).setFilt c i

/-! ### Test pulses (R450) -/

/-- The check sample of input `i` at a pulse of source `src` (R450). -/
def Dev.checkSample (d : Dev) (c : Cfg) (src : Nat) (high : Bool) (i : Nat) : Dev :=
  let tp := c.f (FIO.IN_CFG i) 16 3
  let x := d.inp i
  if !c.b (FIO.IN_CFG i) 0 || tp = 0 || decide (4 < tp) || !x.filt then d
  else if tp = src + 1 then
    if high then
      let d := d.putInp i { x with ownWrong := x.ownWrong + 1, right := 0 }
      if x.ownWrong + 1 = 2 then ((d.putB FIO.IN_FAULT i true).event 0x300C [i]).setFilt c i else d
    else
      let d := d.putInp i { x with ownWrong := 0, right := x.right + 1 }
      if 10 ≤ x.right + 1 && d.b FIO.IN_FAULT i then
        ((d.putB FIO.IN_FAULT i false).putB FIO.IN_SUSPECT (16 + i) false).setFilt c i
      else d
  else
    if high then d.putInp i { x with crossWrong := 0 }
    else
      let d := d.putInp i { x with crossWrong := x.crossWrong + 1 }
      if x.crossWrong + 1 = 2 then
        (((d.putB FIO.IN_FAULT i true).putB FIO.IN_SUSPECT (16 + i) true).event 0x300D [i]).setFilt c i
      else d

/-- The start of a source's next pulse (R450): TP_PERIOD after its last, or its quarters of TP_PERIOD after the last of another. -/
def pulseStart (c : Cfg) (d : Dev) (src : Nat) : Nat :=
  let period := c.f FIO.TP_CFG 16 8 * 10 * ticksPerMs
  match d.field.pulses with
  | [] => d.tick
  | (k, t) :: _ =>
    let quarters := (src + 3 - k) % 4 + 1
    max d.tick (t + quarters * period / 4)

/-- TEST_PULSE (R450): the inputs it feeds, and those it must not feed, are checked 16 microseconds before the pulse ends. -/
def execTestPulse (source : Fin 4) (high : BitVec 16) (s : State) : Out :=
  onDev s fun c d =>
    if !c.b FIO.TP_CFG source.val then d
    else
      let t := pulseStart c d source.val
      let d := { d with field := { d.field with pulses := ((source.val, t) :: d.field.pulses).take 4 } }.advanceTo
        (t + c.f FIO.TP_CFG 8 8 * 10 * ticksPerUs - 16 * ticksPerUs)
      (List.range 16).foldl (fun d i => d.checkSample c source.val (high.getLsbD i) i) d

/-! ### Analogue inputs (R451) -/

def Dev.ain (d : Dev) (ch : Nat) : AinDev := Assoc.get {} d.field.ains ch
def Dev.putAin (d : Dev) (ch : Nat) (x : AinDev) : Dev := { d with field := { d.field with ains := Assoc.set {} d.field.ains ch x } }

/-- The moving average over at most 2^FILT conversions, toward minus infinity (log 19). -/
def average (l : List Int) : Int := l.foldl (· + ·) 0 / (max 1 l.length : Nat)

/-- The registers of an analogue input follow its filtered value (R451). -/
def Dev.showAin (d : Dev) (c : Cfg) (ch : Nat) : Dev :=
  let x := d.ain ch
  let v := average x.window
  let range := decide (v < c.s (ANU.AIN_RNG ch) 0 16) || decide (c.s (ANU.AIN_RNG ch) 16 16 < v) || x.shuntOpen
  d.putN (ANU.AIN_VAL ch) (unsigned 16 v + range.toNat * 2 ^ 16 + x.shuntOpen.toNat * 2 ^ 17)

/-- AIN_CONVERSION (R451): filter and range check; in MODE 1 a current above 25 mA for 1 ms opens the shunt. -/
def execAinConversion (ch : Fin 8) (count : BitVec 16) (overCurrent : Bool) (s : State) : Out :=
  onDev s fun c d =>
    let i := ch.val
    let cfg := ANU.AIN_CFG i
    if !c.b cfg 0 then d
    else
      let d := d.nextAfter (d.ain i).converted (50 * ticksPerUs)
      let x := d.ain i
      let open_ := overCurrent && c.b cfg 1 && !x.shuntOpen
      let x := { x with window := ((signed 16 count.toNat) :: x.window).take (2 ^ (c.f cfg 2 4))
                        converted := some d.tick, shuntOpen := x.shuntOpen || open_
                        shuntTick := if open_ then d.tick else x.shuntTick }
      let d := (d.putAin i x).showAin c i
      if open_ then d.event 0x3102 [i] else d

/-- AIN_SHUNT_RECLOSE (R451): 1 s after the shunt opened. -/
def execAinShuntReclose (ch : Fin 8) (s : State) : Out :=
  onDev s fun c d =>
    if (d.ain ch.val).shuntOpen then
      let d := d.advanceTo ((d.ain ch.val).shuntTick + ticksPerSec)
      (d.putAin ch.val { d.ain ch.val with shuntOpen := false }).showAin c ch.val else d

/-! ### Encoders (R453 to R455) -/

def Dev.enc (d : Dev) (ch : Nat) : EncDev := Assoc.get {} d.field.encs ch
def Dev.putEnc (d : Dev) (ch : Nat) (x : EncDev) : Dev := { d with field := { d.field with encs := Assoc.set {} d.field.encs ch x } }

/-- The position at the start of the speed window: the newest one at or before it, else the oldest known (R454). -/
def encStart (l : List (Nat × Int)) (t : Nat) (dflt : Int) : Int :=
  match l with
  | [] => dflt
  | (u, p) :: rest => if u ≤ t then p else encStart rest t p

/-- History kept for the speed: entries inside the window and one before it. -/
def encKeep (l : List (Nat × Int)) (t : Nat) : List (Nat × Int) :=
  match l with
  | [] => []
  | (u, p) :: rest => if u ≤ t then [(u, p)] else (u, p) :: encKeep rest t

/-- The channel takes a position: POS, SPEED over the last SPD_WIN (R454). -/
def Dev.encMove (d : Dev) (c : Cfg) (ch : Nat) (p : Int) : Dev :=
  let win := c.f (ENC.ENC_TIME ch) 16 16
  let t0 := d.tick - win * ticksPerUs
  let x := d.enc ch
  let start := encStart x.track t0 p
  let speed := (signed 32 (unsigned 32 (p - start)) * 1000000).tdiv (max 1 win : Nat)
  let d := d.putEnc ch { x with track := encKeep ((d.tick, p) :: x.track) t0 }
  (d.putI (ENC.ENC_POS ch) p).putI (ENC.ENC_SPEED ch) (satS 32 speed)

/-- A channel fault: FAULT, RANGE, its cause bit, event 0x3201 (R455). Causes: 2 quadrature, 3 frame, 4 open wire, 5 over-rate. -/
def Dev.encFault (d : Dev) (ch cause : Nat) : Dev :=
  let k := ENC.ENC_STAT ch
  let d := d.putEnc ch { d.enc ch with faultTick := d.tick, source := (d.enc ch).source || [2, 3, 6].contains cause }
  let first := !d.b k 1
  let d := (((d.putB k 1 true).putB k 6 true).putB k cause true).sat k 16 16 1
  if first then d.event 0x3201 [ch, cause] else d

/-- ENC_COUNT (R453, R455): one count; a change of both lines, or a rate above 10 MHz, is a fault. -/
def execEncCount (ch : Fin 4) (stp : EncStep) (s : State) : Out :=
  onDev s fun c d =>
    let i := ch.val
    if !c.b (ENC.ENC_CFG i) 0 || c.b (ENC.ENC_CFG i) 1 then d
    else
      let d := if stp.invalid then d.encFault i 2
        else d.encMove c i (signed 32 (d.w (ENC.ENC_POS i)).toNat + (if 0 ≤ stp.delta then 1 else -1))
      if stp.tooFast then d.encFault i 5 else d

/-- SSI_READ (R453): an enabled SSI channel starts a read, READ_PER after the start of the last. -/
def execSsiRead (ch : Fin 4) (s : State) : Out :=
  onDev s fun c d =>
    let i := ch.val
    if c.b (ENC.ENC_CFG i) 0 && c.b (ENC.ENC_CFG i) 1 then
      let d := d.nextAfter (d.enc i).started (c.f (ENC.ENC_TIME i) 0 16 * ticksPerUs)
      d.putEnc i { d.enc i with reading := some d.tick, started := some d.tick }
    else d

/-- Gray code of `n` bits to binary. -/
def grayToNat (n v : Nat) : Nat := (List.range n).foldl (fun acc i => acc ^^^ (v >>> i)) 0 % 2 ^ n

/-- SSI_READ_COMPLETE (R453, R454, R356): frame check, Gray decoding, the absolute position at the first read, unwrapping afterwards;
two successive failures, or a jump of more than a quarter of the range, are source faults. -/
def execSsiReadComplete (ch : Fin 4) (obs : SsiObs) (s : State) : Out :=
  onDev s fun c d =>
    let i := ch.val
    let cfg := ENC.ENC_CFG i
    let x := d.enc i
    match x.reading with
    | none => d
    | some _ =>
      let bad := !obs.preHigh || !obs.postHigh || (c.b cfg 6 && !obs.parityOk)
      let d := d.putEnc i { x with reading := none, badRead := bad }
      if bad then (if x.badRead then d.encFault i 3 else d)
      else
        let n := c.f cfg 8 6
        let v0 := obs.raw.toNat % 2 ^ n
        let v : Int := if c.b cfg 5 then grayToNat n v0 else v0
        let pos := signed 32 (d.w (ENC.ENC_POS i)).toNat
        let p := match x.raw with
          | none => if n = 32 then signed 32 v.toNat else v
          | some r =>
            let df := v - r
            pos + (if 2 ^ n < 2 * df then df - 2 ^ n else if 2 * df < -(2 ^ n) then df + 2 ^ n else df)
        let jump := x.raw.isSome && decide (2 ^ n < 4 * (p - pos).natAbs)
        let d := (d.putEnc i { d.enc i with raw := some v, readTick := some d.tick }).encMove c i p
        if jump then d.encFault i 6 else d

/-- ENC_INDEX (R454): the position is latched; the first index edge since reset references the channel. -/
def execEncIndex (ch : Fin 4) (s : State) : Out :=
  onDev s fun c d =>
    let i := ch.val
    if !c.b (ENC.ENC_CFG i) 0 || !c.b (ENC.ENC_CFG i) 4 then d
    else
      let d := d.put (ENC.ENC_INDEX i) (d.w (ENC.ENC_POS i))
      if d.b (ENC.ENC_STAT i) 0 then d else (d.putB (ENC.ENC_STAT i) 0 true).event 0x3202 [i]

/-- ENC_RESTORED (R455): FAULT clears after one second without a fault. -/
def execEncRestored (ch : Fin 4) (s : State) : Out :=
  onDev s fun _ d =>
    let k := ENC.ENC_STAT ch.val
    if d.b k 1 then
      let d := (d.advanceTo ((d.enc ch.val).faultTick + ticksPerSec)).putF k 1 6 0
      (d.putEnc ch.val { d.enc ch.val with source := false }).event 0x3203 [ch.val]
    else d

/-- ENC_OPEN_WIRE (R455). -/
def execEncOpenWire (ch : Fin 4) (s : State) : Out :=
  onDev s fun c d => if c.b (ENC.ENC_CFG ch.val) 0 then d.encFault ch.val 4 else d

/-! ### Captures that pallets command (R448, R451, R455) -/

/-- A SAMPLE of FIO input group `g` (R448). -/
def Dev.sampleInputs (d : Dev) (c : Cfg) (g : Nat) : Dev :=
  let cfg := FIO.INGRP_CFG g
  if !c.b cfg 31 then d.bump FIO.SAMPLE_MISS
  else
    let mask := c.f cfg 0 16
    let filt := d.f FIO.IN_FILT 0 16 &&& mask
    let sus := d.f FIO.IN_SUSPECT 0 16
    let bad := d.f FIO.IN_FAULT 0 16 ||| d.f FIO.IN_FAULT 16 16
    let stale := (List.range 16).any (fun i => mask.testBit i && (match (d.inp i).sampled with
      | none => true
      | some t => decide (t + 2 * inPeriod c i < d.tick)))
    let bits := (if bad &&& mask != 0 then qRANGE else 0) + (if sus &&& mask != 0 then qSUSPECT else 0) + (if stale then qSTALE else 0)
    d.capture c (c.f (FIO.INGRP_SRC g) 0 16) (c.f cfg 16 2) d.tick bits (leBytes 2 filt ++ leBytes 2 mask ++ leBytes 2 sus ++ leBytes 2 bad)

/-- A SAMPLE of ANU group `g` (R451). -/
def Dev.sampleAnalogue (d : Dev) (c : Cfg) (g : Nat) : Dev :=
  let cfg := ANU.AGRP_CFG g
  if !c.b cfg 31 then d.bump FIO.SAMPLE_MISS
  else
    let chs := (List.range 8).filter (fun i => c.b cfg i)
    let range := chs.any (fun i => d.b (ANU.AIN_VAL i) 16)
    let staleOf := fun i => ainStale d i
    let d := chs.foldl (fun d i => d.putB (ANU.AIN_VAL i) 18 (staleOf i)) d
    let bits := (if range then qRANGE else 0) + (if chs.any staleOf then qSTALE else 0)
    d.capture c (c.f (ANU.AGRP_SRC g) 0 16) (c.f cfg 8 2) d.tick bits (chs.flatMap (fun i => leBytes 2 (d.f (ANU.AIN_VAL i) 0 16)))

/-- A SAMPLE pallet's group: 0 to 7 FIO, 16 to 23 ANU, any other is missed (R448). -/
def Dev.sampleGroup (d : Dev) (c : Cfg) (g : Nat) : Dev :=
  if g < 8 then d.sampleInputs c g
  else if 16 ≤ g ∧ g < 24 then d.sampleAnalogue c (g - 16)
  else d.bump FIO.SAMPLE_MISS

/-- A LATCH of encoder channel `ch` (R455). -/
def Dev.latchEncoder (d : Dev) (c : Cfg) (ch : Nat) : Dev :=
  let cfg := ENC.ENC_CFG ch
  let x := d.enc ch
  let d := d.encMove c ch (signed 32 (d.w (ENC.ENC_POS ch)).toNat)
  let d := d.put (ENC.ENC_LATCH ch) (d.w (ENC.ENC_POS ch))
  let ssi := c.b cfg 1
  let tick := if ssi then x.readTick.getD d.tick else d.tick
  let stale := ssi && (match x.readTick with
    | none => true
    | some t => decide (t + 2 * c.f (ENC.ENC_TIME ch) 0 16 * ticksPerUs < d.tick))
  let bits := (if d.b (ENC.ENC_STAT ch) 1 then qRANGE else 0) + (if stale then qSTALE else 0)
  d.capture c (c.f (ENC.ENC_SRC ch) 0 16) (c.f (ENC.ENC_SRC ch) 16 2) tick bits
    (leBytes 4 (d.w (ENC.ENC_POS ch)).toNat ++ leBytes 4 (d.w (ENC.ENC_SPEED ch)).toNat ++ leBytes 1 (d.f (ENC.ENC_STAT ch) 0 8) ++ [0, 0, 0])

end Sys2Proof.Machine
end

