-- ==== Sys2Proof/Machine/Can.lean ====
section
/-! DEFINITION. The CAN FD controllers (16_can.md): transmit FIFO and priority slots, errors, reception into items, reference
frames, bus load, sleep. Reception that reaches Nymyen or the Osiraka layer is completed in Osiraka.lean, release in
Escapement.lean. -/
namespace Sys2Proof.Machine

/-- The page of controller `n`. -/
def canPage (n : Nat) : Nat := 0x40050000 + 0x1000 * n

def Dev.canOf (d : Dev) (n : Nat) : CanDev := Assoc.get {} d.can n
def Dev.putCan (d : Dev) (n : Nat) (x : CanDev) : Dev := { d with can := Assoc.set {} d.can n x }
def Dev.priOf (d : Dev) (n p : Nat) : PriDev := Assoc.get {} (d.canOf n).pri p
def Dev.putPri (d : Dev) (n p : Nat) (x : PriDev) : Dev :=
  d.putCan n { d.canOf n with pri := Assoc.set {} (d.canOf n).pri p x }

/-- The arbitration key of an identifier (R383). -/
def idKey (id : Nat) (xtd : Bool) : Nat := if xtd then id else id % 2 ^ 11 * 2 ^ 18 + (2 ^ 18 - 1)

/-- The arbitration key of an identifier register (TXF_ID layout). -/
def idKeyOf (w : Word) : Nat := idKey (fld w 0 29) (bit w 29)

/-- Data bytes of a DLC (ISO 11898-1). -/
def dlcLen (dlc : Nat) : Nat :=
  if dlc ≤ 8 then dlc
  else if dlc ≤ 12 then 8 + 4 * (dlc - 8)
  else if dlc = 13 then 32 else if dlc = 14 then 48 else 64

def CanEntry.key (e : CanEntry) : Nat := idKey e.id e.xtd

/-- The identifier word of a frame (Table 16.3). -/
def idWord (id : Nat) (xtd fdf brs : Bool) : Nat := id + xtd.toNat * 2 ^ 29 + fdf.toNat * 2 ^ 30 + brs.toNat * 2 ^ 31

/-- An entry for the FIFO from an identifier register and data. -/
def canEntry (kind tag : Nat) (w : Word) (cls : Nat) (data : List Byte) : CanEntry :=
  { kind := kind, tag := tag, id := fld w 0 29, xtd := bit w 29, fdf := bit w 30, brs := bit w 31, cls := cls, data := data }

/-- The payload held in a slot buffer, PORT × 256 + SLOT, at a length (R384). -/
def Dev.payload (d : Dev) (k len : Nat) : List Byte :=
  let p := Assoc.get [] d.law.payloads k
  (p ++ List.replicate (len - p.length) 0).take len

/-- A slot buffer takes a payload. -/
def Dev.putPayload (d : Dev) (k : Nat) (p : List Byte) : Dev :=
  { d with law := { d.law with payloads := Assoc.set [] d.law.payloads k p } }

/-- The set-point slots: slots that an actuator entry names by PORT and SLOT (R384). -/
def isSetpointSlot (c : Cfg) (port slot : Nat) : Bool :=
  (List.range 40).any (fun i => c.f (LAW.ACT_CFG i) 0 3 != 0 && c.f (LAW.ACT_CFG i) 16 4 = port && c.f (LAW.ACT_CFG i) 20 8 = slot)

/-! ### The FIFO (R382, R384, R385, R390) -/

/-- STAT.TXQ shows the FIFO entries used. -/
def Dev.showFifo (d : Dev) (n : Nat) : Dev := d.putF (CAN.STAT n) 16 6 (d.canOf n).fifo.length

/-- One transmit event entry (R390, Table 16.3); a full ring overwrites its oldest entry. -/
def Dev.txEvent (d : Dev) (n : Nat) (e : CanEntry) (outcome : Nat) : Dev :=
  let wr := d.f (CAN.TXE_WR n) 0 5
  let flags := e.cancelLate.toNat + (decide (e.kind = 0)).toNat * 2 + e.sub * 16
  let bytes := leBytes 1 e.tag ++ leBytes 1 outcome ++ leBytes 1 (satU 8 e.attempts) ++ leBytes 1 flags
    ++ leBytes 4 (idWord e.id e.xtd e.fdf e.brs) ++ leBytes 8 e.stamp
  let x := d.canOf n
  let d := d.putCan n { x with txe := Assoc.set [] x.txe wr bytes, txeUsed := min 32 (x.txeUsed + 1) }
  let d := if 32 ≤ x.txeUsed then d.sat (CAN.TXE_WR n) 16 16 1 else d
  d.putF (CAN.TXE_WR n) 0 5 ((wr + 1) % 32)

/-- Frames leave the FIFO with an outcome. -/
def Dev.fifoLeave (d : Dev) (n : Nat) (p : CanEntry → Bool) (outcome : Nat) : Dev :=
  let x := d.canOf n
  let gone := x.fifo.filter p
  let headGone := match x.fifo with | [] => false | e :: _ => p e
  let d := d.putCan n { x with fifo := x.fifo.filter (fun e => !p e), onBus := if headGone && x.onBus = 1 then 0 else x.onBus }
  (gone.foldl (fun d e => d.txEvent n e outcome) d).showFifo n

/-- A failure is recorded at most once a second, with that second's count (R385, R389). -/
def Dev.txFailed (d : Dev) (n : Nat) : Dev :=
  let x := d.canOf n
  let cnt := if x.failSecond = d.second then x.failSec + 1 else 1
  (d.putCan n { x with failSec := cnt, failSecond := d.second }).eventSec 0x2009 n [n, cnt]

/-- The controller takes part in the bus: enabled and not asleep (STAT.STATE). -/
def canOn (d : Dev) (n : Nat) : Bool := d.f (CAN.STAT n) 0 2 != 0

/-- Class 2 and 3 frames leave the FIFO of a hushing controller (R399, R35). -/
def Dev.hushFifo (d : Dev) (n : Nat) : Dev :=
  let hushed := fun (k : Nat) => ((d.canOf n).fifo.filter (fun e => e.cls = k)).length
  let n2 := hushed 2
  let n3 := hushed 3
  (((d.fifoLeave n (fun e => e.cls = 2 || e.cls = 3) 4).sat (CAN.HUSH_CNT n) 0 32 (n2 + n3)).classDrop 2 n2).classDrop 3 n3

/-- A frame that is not firmware's enters the FIFO tail: FW_MAX entries are kept free of it (R385); a stopped identifier is refused
(R398); while the controller hushes, a class 2 or 3 frame leaves at once (R399). -/
def Dev.fifoPut (d : Dev) (c : Cfg) (n : Nat) (e : CanEntry) : Dev :=
  let x := d.canOf n
  let kept := 32 - min 32 (c.f (CAN.TXF_CFG n) 0 6)
  if !canOn d n || x.stopped.contains e.key then d
  else if kept ≤ (x.fifo.filter (fun f => f.kind != 1)).length || decide (32 ≤ x.fifo.length) then
    (d.sat (CAN.TXFAIL_CNT n) 16 16 1).txFailed n
  else
    let d := (d.putCan n { x with fifo := x.fifo ++ [e] }).showFifo n
    if d.b (CAN.STAT n) 3 && decide (2 ≤ e.cls) then d.hushFifo n else d

/-! ### Arbitration and outcomes (R382, R387 to R390, R397) -/

/-- Priority slot `p` waits with a frame it may send (R387, R388); a stopped identifier holds an OWNER 0 slot back (R398). -/
def priReady (c : Cfg) (d : Dev) (n p : Nat) : Bool :=
  c.b (CAN.PRI_CFG n p) 0 && d.f (CAN.PRI_STAT n p) 0 2 != 0
    && (c.b (CAN.PRI_CFG n p) 1 || (crownOrSingle c d && !(d.canOf n).stopped.contains (idKeyOf (c.w (CAN.PRI_ID n p)))))

/-- The pending priority slot whose identifier comes first (R382). -/
def firstPri (c : Cfg) (d : Dev) (n : Nat) : Option Nat :=
  ((List.range 4).filter (priReady c d n)).foldl (fun best p => match best with
    | none => some p
    | some q => if idKeyOf (c.w (CAN.PRI_ID n p)) < idKeyOf (c.w (CAN.PRI_ID n q)) then some p else some q) none

/-- The frame the controller offers: 1 the FIFO head, 2 + p priority slot p, 0 none (R382). -/
def offered (c : Cfg) (d : Dev) (n : Nat) : Nat :=
  match firstPri c d n, (d.canOf n).fifo with
  | none, [] => 0
  | some p, [] => 2 + p
  | none, _ :: _ => 1
  | some p, e :: _ => if idKeyOf (c.w (CAN.PRI_ID n p)) ≤ e.key then 2 + p else 1

/-- The offered frame starts: its start of frame is stamped (R395); a won arbitration is an attempt (R389). -/
def Dev.canStart (d : Dev) (c : Cfg) (n : Nat) (won : Bool) (sub : Nat) : Dev :=
  let x := d.canOf n
  let o := offered c d n
  if !(d.f (CAN.STAT n) 0 2 = 1 || d.f (CAN.STAT n) 0 2 = 2) || x.onBus != 0 || c.b (CAN.CFG n) 3 || o = 0 then d
  else if o = 1 then
    match x.fifo with
    | [] => d
    | e :: rest =>
      d.putCan n { x with
        fifo := { e with sof := true, stamp := d.tick, sub := sub, attempts := e.attempts + won.toNat } :: rest
        onBus := if won then 1 else 0 }
  else
    let p := o - 2
    let d := (d.putPri n p { d.priOf n p with sof := true }).putF (CAN.PRI_STAT n p) 0 2 (if won then 2 else 1)
    if won then d.putCan n { d.canOf n with onBus := o } else d

/-- CAN_ARBITRATION (R382): not while NO_LISTENER, whose attempts come every NL_RETRY ms (R397). -/
def execCanArbitration (ctrl : Fin 6) (won : Bool) (sub : Fin 8) (s : State) : Out :=
  onDev s fun c d => if d.b (CAN.STAT ctrl.val) 2 then d else d.canStart c ctrl.val won sub.val

/-- NL_RETRY_ATTEMPT (R397): NL_RETRY ms after NO_LISTENER, and after the last attempt. -/
def execNlRetryAttempt (ctrl : Fin 6) (sub : Fin 8) (s : State) : Out :=
  onDev s fun c d =>
    let n := ctrl.val
    if !d.b (CAN.STAT n) 2 then d
    else
      let d := d.advanceTo ((d.canOf n).nlTick + c.f (CAN.TXF_CFG n) 16 14 * ticksPerMs)
      (d.putCan n { d.canOf n with nlTick := d.tick }).canStart c n true sub.val

/-- The follow-up of a reference frame (R396, Table 16.4). -/
def followUp (c : Cfg) (d : Dev) (n : Nat) (e : CanEntry) : CanEntry :=
  let utc := c.w TBU.UTC_OFS
  let flags := (bit utc 16).toNat + (bit utc 17).toNat * 2 + (bit utc 18).toNat * 4
  let data := e.data ++ leBytes 1 (d.f TBU.STATE 16 8) ++ leBytes 1 e.sub ++ [0] ++ leBytes 8 e.stamp
    ++ leBytes 2 (fld utc 0 16) ++ leBytes 1 flags ++ [0]
  { (canEntry 3 255 (c.w (CAN.REF_FU_ID n)) 1 data) with fdf := true, brs := false }

/-- The error state follows the counters (R381): a change is recorded. -/
def Dev.canErrorState (d : Dev) (n : Nat) : Dev :=
  let st := d.f (CAN.STAT n) 0 2
  let passive := decide (128 ≤ d.f (CAN.ERR_CNT n) 0 8) || d.b (CAN.ERR_CNT n) 15
  if st = 1 && passive then (d.putF (CAN.STAT n) 0 2 2).event 0x2002 [n]
  else if st = 2 && !passive then (d.putF (CAN.STAT n) 0 2 1).event 0x2003 [n]
  else d

/-- The frame of priority slot `p` has been sent. -/
def Dev.priSent (d : Dev) (n p : Nat) : Dev :=
  let d := d.putPri n p {}
  let d := d.putCan n { d.canOf n with onBus := 0 }
  ((d.putF (CAN.PRI_STAT n p) 0 2 0).putF (CAN.PRI_STAT n p) 4 4 1).wrap (CAN.PRI_STAT n p) 16 16 1

/-- The frame on the bus is acknowledged and leaves with outcome SENT (R390, R396, R397). -/
def Dev.canSent (d : Dev) (c : Cfg) (n : Nat) : Dev :=
  let x := d.canOf n
  if x.onBus = 0 then d
  else
    let d := (d.putF (CAN.ERR_CNT n) 0 8 (d.f (CAN.ERR_CNT n) 0 8 - 1)).putF (CAN.ERR_CNT n) 16 16 0
    let d := if d.b (CAN.STAT n) 2 then (d.putB (CAN.STAT n) 2 false).event 0x2005 [n] else d
    let d := d.canErrorState n
    if x.onBus = 1 then
      match x.fifo with
      | [] => d.putCan n { d.canOf n with onBus := 0 }
      | e :: rest =>
        let d := ((d.putCan n { d.canOf n with fifo := rest, onBus := 0 }).txEvent n e 1).showFifo n
        if e.kind = 2 && crownOrSingle c d then d.fifoPut c n (followUp c d n e) else d
    else d.priSent n (x.onBus - 2)

/-- The frame on the bus, as a receiver sees it (R379: ESI is the sender's error state). -/
def busFrame (c : Cfg) (d : Dev) (n : Nat) : Option CanFrame :=
  let x := d.canOf n
  let frame (id : Nat) (xtd fdf brs : Bool) (data : List Byte) (sub : Nat) : CanFrame :=
    { id := BitVec.ofNat 29 id, xtd := xtd, fdf := fdf, brs := brs, rtr := false, esi := d.f (CAN.STAT n) 0 2 = 2, exception := false
      data := data, sub := Fin.ofNat 8 sub }
  if x.onBus = 0 then none
  else if x.onBus = 1 then x.fifo.head?.map (fun e => frame e.id e.xtd e.fdf e.brs e.data e.sub)
  else
    let w := c.w (CAN.PRI_ID n (x.onBus - 2))
    some (frame (fld w 0 29) (bit w 29) (bit w 30) (bit w 31) (d.priOf n (x.onBus - 2)).data 0)

/-! ### Errors (R381, R389, R397, R398) -/

/-- The attempt on the bus has failed: a FIFO frame competes again unless its limit is passed (R389); a priority slot is retransmitted
without limit (R388). -/
def Dev.attemptFailed (d : Dev) (c : Cfg) (n : Nat) : Dev :=
  let x := d.canOf n
  let d := d.putCan n { x with onBus := 0 }
  if x.onBus = 0 then d
  else if x.onBus = 1 then
    match x.fifo with
    | [] => d
    | e :: rest =>
      if !c.b (CAN.TXF_CFG n) 12 && decide (c.f (CAN.TXF_CFG n) 8 4 < e.attempts) then
        ((((d.putCan n { d.canOf n with fifo := rest }).txEvent n e 3).showFifo n).sat (CAN.TXFAIL_CNT n) 0 16 1).txFailed n
      else d
  else d.putF (CAN.PRI_STAT n (x.onBus - 2)) 0 2 1

/-- The identifier key, register word and OWNER 1 mark of the frame on the bus. -/
def onBusId (c : Cfg) (d : Dev) (n : Nat) : Nat × Nat × Bool :=
  let x := d.canOf n
  if x.onBus = 1 then
    match x.fifo with
    | [] => (0, 0, false)
    | e :: _ => (e.key, idWord e.id e.xtd false false, false)
  else
    let w := c.w (CAN.PRI_ID n (x.onBus - 2))
    (idKeyOf w, w.toNat % 2 ^ 30, c.b (CAN.PRI_CFG n (x.onBus - 2)) 1)

/-- Three clashes on one identifier within 1 s raise CLASH; with CLASH_ACT 1 the identifier is stopped, a priority slot of OWNER 1
never (R398). -/
def Dev.clash (d : Dev) (c : Cfg) (n : Nat) : Dev :=
  let (key, w, owner1) := onBusId c d n
  let x := d.canOf n
  let ticks := d.tick :: (Assoc.get [] x.clashes key).filter (fun t => d.tick < t + ticksPerSec)
  if ticks.length < 3 then d.putCan n { x with clashes := Assoc.set [] x.clashes key ticks }
  else
    let act := c.b (CAN.CFG n) 6 && !owner1
    let d := d.putCan n { x with
      clashes := Assoc.set [] x.clashes key []
      stopped := if act && !x.stopped.contains key then key :: x.stopped else x.stopped }
    let d := ((d.putN (CAN.CLASH_ID n) (w + act.toNat * 2 ^ 31)).irq (canPage n) 0).event 0x2006 [n, w, act.toNat]
    if act then (d.putB (CAN.STAT n) 6 true).fifoLeave n (fun e => e.key = key) 5 else d

/-- The transmit error counter rises by 8; above 255 the controller is bus-off (R381). -/
def Dev.tecUp (d : Dev) (c : Cfg) (n : Nat) : Dev :=
  let t := d.f (CAN.ERR_CNT n) 0 8 + 8
  if 255 < t then
    let d := ((d.putF (CAN.ERR_CNT n) 0 8 255).putF (CAN.STAT n) 0 2 3).event 0x2001 [n]
    d.putCan n { d.canOf n with onBus := 0, recover := c.b (CAN.CFG n) 2 }
  else (d.putF (CAN.ERR_CNT n) 0 8 t).canErrorState n

/-- The receive error counter rises; at 128 the controller is error-passive as a receiver (R381, log 22). -/
def Dev.recUp (d : Dev) (n m : Nat) : Dev :=
  let r := d.f (CAN.ERR_CNT n) 8 7 + m
  let d := if 128 ≤ r then (d.putF (CAN.ERR_CNT n) 8 7 127).putB (CAN.ERR_CNT n) 15 true else d.putF (CAN.ERR_CNT n) 8 7 r
  d.canErrorState n

/-- A good reception lowers the receive error counter (ISO 11898-1; log 22). -/
def Dev.recDown (d : Dev) (n : Nat) : Dev :=
  let d := if d.b (CAN.ERR_CNT n) 15 then d.putB (CAN.ERR_CNT n) 15 false else d.putF (CAN.ERR_CNT n) 8 7 (d.f (CAN.ERR_CNT n) 8 7 - 1)
  d.canErrorState n

/-- A missing acknowledgement (R397): an error-passive controller does not raise its counter; the 16th in a row sets NO_LISTENER. -/
def Dev.ackError (d : Dev) (c : Cfg) (n : Nat) : Dev :=
  let d := d.sat (CAN.ERR_CNT n) 16 16 1
  let run := d.f (CAN.ERR_CNT n) 16 16
  let d := if d.f (CAN.STAT n) 0 2 = 2 then d else d.tecUp c n
  if run = 16 && !d.b (CAN.STAT n) 2 then
    ((d.putCan n { d.canOf n with nlTick := d.tick }).putB (CAN.STAT n) 2 true).event 0x2004 [n]
  else d

/-- CAN_ERROR (R381, R389, R397, R398). -/
def execCanError (ctrl : Fin 6) (kind : CanErrorKind) (s : State) : Out :=
  onDev s fun c d =>
    let n := ctrl.val
    let tx := (d.canOf n).onBus != 0
    if !canOn d n || d.f (CAN.STAT n) 0 2 = 3 then d
    else match kind with
      | .ack => if tx then (d.attemptFailed c n).ackError c n else d
      | .bitAfterArbitration => if tx then (((d.clash c n).putF (CAN.ERR_CNT n) 16 16 0).attemptFailed c n).tecUp c n else d
      | .transmit => if tx then ((d.putF (CAN.ERR_CNT n) 16 16 0).attemptFailed c n).tecUp c n else d
      | .receive => d.recUp n 1
      | .receiveDominant => d.recUp n 8

/-- BUS_OFF_RECOVERY (R381): 128 occurrences of 11 recessive bits after the start of recovery; the waiting frames compete again. -/
def execBusOffRecovery (ctrl : Fin 6) (s : State) : Out :=
  onDev s fun _ d =>
    let n := ctrl.val
    if d.f (CAN.STAT n) 0 2 = 3 && (d.canOf n).recover then
      let d := (d.putN (CAN.ERR_CNT n) 0).putF (CAN.STAT n) 0 2 1
      (d.putCan n { d.canOf n with recover := false }).event 0x2003 [n]
    else d

/-- CLASH_CLR (R398): KEY 0x5C0A releases every stopped identifier. -/
def execClashClr (ctrl : Fin 6) (value : Word) (s : State) : Out :=
  onWrite s fun _ d =>
    let n := ctrl.val
    if fld value 16 16 = 0x5C0A then
      ((d.putCan n { d.canOf n with stopped := [] }).putB (CAN.STAT n) 6 false).putB (CAN.CLASH_ID n) 31 false
    else d

/-! ### Firmware frames, priority slots, cancellation (R386, R387, R391) -/

/-- The result of a push (Table 16.2), checked in the order of log 21: DISABLED, BAD_FRAME, CLASS, CLASH_STOPPED, HUSHED, FULL. -/
def pushResult (c : Cfg) (d : Dev) (n : Nat) : Nat :=
  let w := d.w (CAN.TXF_ID n)
  let dlc := d.f (CAN.TXF_HDR n) 0 4
  let cls := d.f (CAN.TXF_HDR n) 4 2
  let class0 := (List.range 4).filter (fun p => c.b (CAN.PRI_CFG n p) 0)
  if !c.b (CAN.CFG n) 0 || !canOn d n then 6
  else if (bit w 30 && !c.b (CAN.CFG n) 1) || (bit w 31 && !bit w 30) || (decide (8 < dlc) && !bit w 30) then 5
  else if cls = 0 || class0.any (fun p => decide (idKeyOf w < idKeyOf (c.w (CAN.PRI_ID n p)))) then 2
  else if (d.canOf n).stopped.contains (idKeyOf w) then 4
  else if decide (2 ≤ cls) && d.b (CAN.STAT n) 3 then 3
  else if decide (c.f (CAN.TXF_CFG n) 0 6 ≤ ((d.canOf n).fifo.filter (fun e => e.kind = 1)).length)
      || decide (32 ≤ (d.canOf n).fifo.length) then 1
  else 0

/-- The data bytes of TXF_DATA0 to 15. -/
def txfData (d : Dev) (n len : Nat) : List Byte :=
  ((List.range 16).flatMap (fun i => leBytes 4 (d.w (CAN.TXF_DATA n i)).toNat)).take len

/-- TXF_PUSH (R386): any value pushes the frame. -/
def execTxfPush (ctrl : Fin 6) (_value : Word) (s : State) : Out :=
  onWrite s fun c d =>
    let n := ctrl.val
    let r := pushResult c d n
    if r != 0 then d.putN (CAN.TXF_RES n) r
    else
      let x := d.canOf n
      let e := canEntry 1 x.nextTag (d.w (CAN.TXF_ID n)) (d.f (CAN.TXF_HDR n) 4 2) (txfData d n (dlcLen (d.f (CAN.TXF_HDR n) 0 4)))
      ((d.putCan n { x with fifo := x.fifo ++ [e], nextTag := (x.nextTag + 1) % 256 }).showFifo n).putN (CAN.TXF_RES n)
        (x.nextTag * 2 ^ 8)

/-- TXF_CANCEL (R391): a queued frame that has not started leaves with CANCELLED; one that has started carries CANCEL_LATE. -/
def execTxfCancel (ctrl : Fin 6) (value : Word) (s : State) : Out :=
  onWrite s fun _ d =>
    let n := ctrl.val
    let tag := fld value 0 8
    let x := d.canOf n
    match x.fifo.find? (fun e => e.kind = 1 && e.tag = tag) with
    | none => d.putN (CAN.CANCEL_RES n) 2
    | some e =>
      if e.sof then
        (d.putCan n { x with fifo := x.fifo.map (fun f => if f.kind = 1 && f.tag = tag then { f with cancelLate := true } else f) }).putN
          (CAN.CANCEL_RES n) 1
      else (d.fifoLeave n (fun f => f.kind = 1 && f.tag = tag) 2).putN (CAN.CANCEL_RES n) 0

/-- A priority slot takes a payload and is pending; a frame whose start of frame has been sent keeps its payload (R387). A NO_LISTENER
controller makes one attempt at once (R397). -/
def Dev.priRequest (d : Dev) (c : Cfg) (n p : Nat) (data : List Byte) : Dev :=
  if d.f (CAN.PRI_STAT n p) 0 2 != 0 && (d.priOf n p).sof then d
  else
    let d := (d.putPri n p { data := data, sof := false }).putF (CAN.PRI_STAT n p) 0 2 1
    if d.b (CAN.STAT n) 2 then d.canStart c n true 0 else d

/-- PRI_REQ (R387): OWNER 0 slots only. A payload buffer that delivers poison suppresses the frame (R464): outcome FAILED. -/
def execPriReq (ctrl : Fin 6) (slot : Fin 4) (s : State) : Out :=
  onMemWrite s fun c st d =>
    let n := ctrl.val
    let p := slot.val
    let cfg := CAN.PRI_CFG n p
    if !c.b cfg 0 || c.b cfg 1 || !canOn d n then (st, d)
    else
      let len := dlcLen (c.f cfg 16 4)
      let r := readBuffer st d ((Config.implWord 2 n).toNat + 64 * (32 + p)) len
      if r.1 then (r.2.1, (r.2.2.putF (CAN.PRI_STAT n p) 4 4 3).poisonUse (.port n (32 + p)))
      else (r.2.1, r.2.2.priRequest c n p (r.2.2.payload (n * 256 + 32 + p) len))

/-- PRI_CANCEL (R391): the rule of TXF_CANCEL on an OWNER 0 slot; no effect on an OWNER 1 slot. -/
def execPriCancel (ctrl : Fin 6) (slot : Fin 4) (s : State) : Out :=
  onWrite s fun c d =>
    let n := ctrl.val
    let p := slot.val
    if c.b (CAN.PRI_CFG n p) 1 then d
    else if d.f (CAN.PRI_STAT n p) 0 2 = 0 then d.putN (CAN.CANCEL_RES n) 2
    else if (d.priOf n p).sof then d.putN (CAN.CANCEL_RES n) 1
    else (((d.putPri n p {}).putF (CAN.PRI_STAT n p) 0 2 0).putF (CAN.PRI_STAT n p) 4 4 2).putN (CAN.CANCEL_RES n) 0

/-! ### Reception (R392 to R394) -/

/-- Filter element `k` matches (R392). -/
def filterMatch (c : Cfg) (n k : Nat) (f : CanFrame) : Bool :=
  let cfg := CAN.FLT_CFG n k
  let id := f.id.toNat
  let i1 := c.f (CAN.FLT_ID1 n k) 0 29
  let i2 := c.f (CAN.FLT_ID2 n k) 0 29
  let ty := c.f cfg 1 2
  c.b cfg 0 && c.b cfg 3 = f.xtd
    && (if ty = 0 then id &&& i2 = i1 &&& i2 else if ty = 1 then decide (i1 ≤ id) && decide (id ≤ i2) else id = i1 || id = i2)

/-- The elements enabled in the live filter, ascending. -/
def firstFilter (c : Cfg) (n : Nat) (f : CanFrame) : Option Nat := (List.range 128).find? (fun k => filterMatch c n k f)

/-- Entries of the receive ring in use, 0 to 64: STAT.RXQ. -/
def rxUsed (d : Dev) (n : Nat) : Nat := d.f (CAN.STAT n) 24 7

/-- Firmware has written RX_RD: the entries from it to the write index are in use. -/
def Dev.rxRead (d : Dev) (n : Nat) : Dev :=
  d.putF (CAN.STAT n) 24 7 ((d.f (CAN.RX_WR n) 0 6 + 64 - d.f (CAN.RX_RD n) 0 6) % 64)

/-- Firmware has written TXE_RD: the entries from it to the write index are not read. -/
def Dev.txeRead (d : Dev) (n : Nat) : Dev :=
  d.putCan n { d.canOf n with txeUsed := (d.f (CAN.TXE_WR n) 0 5 + 32 - d.f (CAN.TXE_RD n) 0 5) % 32 }

/-- A frame becomes an item of the receive FIFO (R393, R394): the last 8 free entries are for classes 0 and 1, the last 2 for class 0. -/
def Dev.canItem (d : Dev) (c : Cfg) (n src cls len : Nat) (f : CanFrame) : Dev :=
  let free := 64 - rxUsed d n
  let room := if cls = 0 then 0 < free else if cls = 1 then 2 < free else 8 < free
  if !room then
    ((d.sat (CAN.RX_OVF_CNT n) 0 16 1).eventSec 0x200A n [n]).classDrop cls 1
  else
    let range := len != 0 && f.data.length != len
    let bits := (if range then qRANGE else 0) ||| (if sourceOutOfStep c d src then qOUT_OF_STEP else 0)
    let wr := d.f (CAN.RX_WR n) 0 6
    let seq := (Assoc.get 65535 d.flow.nums src + 1) % 65536
    let hdr := leBytes 8 d.tick ++ leBytes 2 src ++ leBytes 2 seq ++ [quality bits]
      ++ leBytes 1 f.data.length ++ [0, 0]
    let entry := hdr ++ leBytes 4 (idWord f.id.toNat f.xtd f.fdf f.brs) ++ leBytes 4 (f.esi.toNat + f.exception.toNat * 2) ++ f.data
    let d := d.putCan n { d.canOf n with rx := Assoc.set [] (d.canOf n).rx wr entry }
    let d := d.putF (CAN.RX_WR n) 0 6 ((wr + 1) % 64)
    let d := d.putF (CAN.STAT n) 24 7 (rxUsed d n + 1)
    d.capture c src cls d.tick bits f.data

/-- The timeout in ticks that a register's live value gives a source: an enabled filter element of CAN (R393), an enabled IEC sentence (R423),
an enabled UART (R520); 0 leaves it to the consumer. -/
def entryTimeout (c : Cfg) (src key : Nat) (v : Word) : Option Nat :=
  let off := key % 0x1000
  let ms (n : Nat) : Option Nat := if n = 0 then none else some (n * ticksPerMs)
  if 0x40050000 ≤ key ∧ key < 0x40056000 ∧ 0x800 ≤ off ∧ off % 0x10 = 0 then
    if bit v 0 && fld v 16 16 = src then ms (c.f (key + 12) 16 16) else none
  else if 0x40064144 ≤ key ∧ key < 0x40064340 ∧ (key - 0x40064144) % 0x10 = 0 then
    if bit v 8 && fld v 16 16 = src then ms (c.f (key + 4) 0 16) else none
  else if 0x4006A108 ≤ key ∧ key < 0x4006A408 ∧ (key - 0x4006A108) % 0x40 = 0 then
    if c.b (key - 8) 0 && fld v 0 16 = src then ms (fld v 16 16) else none
  else none

/-- The timeout of a source at its interface, ticks: those of R393, R423, R520, and T_INT plus 1 beat for a discriminator source (R147). -/
def interfaceTmo (c : Cfg) (d : Dev) (src : Nat) : Option Nat :=
  let disc := c.f RBB.VEC_DISC 0 16
  if disc ≤ src && decide (src < disc + 384) then some ((chTInt d (src - disc) + 1) * ticksPerMs)
  else c.live.findSome? (fun p => entryTimeout c src p.1 p.2)

/-- SOURCE_TIMEOUT (R393, R423, R520, R147): its timeout after the last item of the source, that item is repeated with STALE. -/
def execSourceTimeout (source : Fin 65536) (s : State) : Out :=
  onDev s fun c d =>
    match interfaceTmo c d source.val, Assoc.get none d.flow.lastItem source.val with
    | some t, some i => (d.advanceTo (i.tick + t)).repeatStale c source.val
    | _, _ => d

/-! ### Reference frames (R396) -/

/-- REF_FRAME_SEND (R396): PERIOD ms after the last one the time master queues a reference frame, while the crown latch is set or the pair
function disabled. -/
def execRefFrameSend (ctrl : Fin 6) (s : State) : Out :=
  onDev s fun c d =>
    let n := ctrl.val
    if c.f (CAN.REF_CFG n) 0 2 != 1 || !crownOrSingle c d || !canOn d n then d
    else
      let x := d.canOf n
      let d := d.nextAfter x.refTick (c.f (CAN.REF_CFG n) 16 16 * ticksPerMs)
      let e := { canEntry 2 255 (c.w (CAN.REF_ID n)) 1 (leBytes 1 x.refSeq) with fdf := false, brs := false }
      (d.putCan n { x with refSeq := (x.refSeq + 1) % 256, refTick := some d.tick }).fifoPut c n e

/-- A client's reference or follow-up frame (R396): the offset is master stamp less own stamp plus CABLE_NS, in ns. -/
def Dev.refReceive (d : Dev) (c : Cfg) (n : Nat) (f : CanFrame) : Dev :=
  let isId := fun (k : Nat) => f.id.toNat = c.f k 0 29 && f.xtd = c.b k 29
  if c.f (CAN.REF_CFG n) 0 2 != 2 then d
  else if isId (CAN.REF_ID n) && !f.fdf && f.data.length = 1 then
    d.putCan n { d.canOf n with refWait := some (leAt f.data 0 1, d.tick, f.sub.val) }
  else if isId (CAN.REF_FU_ID n) && f.data.length = 16 then
    match (d.canOf n).refWait with
    | none => d
    | some (seq, t, sub) =>
      let half := c.f (CAN.REF_CFG n) 16 16 * ticksPerMs / 2
      let d := d.putCan n { d.canOf n with refWait := none }
      if leAt f.data 0 1 != seq || decide (t + half < d.tick) then d
      else
        let eighths : Int := ((leAt f.data 4 8 : Int) - t) * 8 + ((leAt f.data 2 1 % 8 : Nat) : Int) - sub
        let ofs := eighths * 5 / 8 + c.f (CAN.REF_CABLE n) 0 16
        (d.putCan n { d.canOf n with refLast := some (ofs, t, d.tick), refTick := some d.tick }).putI (CAN.REF_OFS n) (satS 32 ofs)
  else d

/-- REF_LOST (R396, Table 4.1): three periods after the last matched pair. -/
def execRefLost (ctrl : Fin 6) (s : State) : Out :=
  onDev s fun c d =>
    let n := ctrl.val
    if c.f (CAN.REF_CFG n) 0 2 != 2 then d
    else
      let d := d.nextAfter (d.canOf n).refTick (3 * c.f (CAN.REF_CFG n) 16 16 * ticksPerMs)
      let d := (d.putCan n { d.canOf n with refTick := some d.tick }).event 0x200C [n]
      if c.f TBU.SRC_CFG 8 3 = ctrl.val then d.disqualify 4 else d

/-! ### Bus load, sleep, commit (R399, R401, R381) -/

/-- BUS_LOAD_WINDOW (R399), 10 ms after the last: five windows above 95 % saturate and hush; fifty below 80 % end it. -/
def execBusLoadWindow (ctrl : Fin 6) (load : Fin 101) (s : State) : Out :=
  onDev s fun _ d =>
    let n := ctrl.val
    if !canOn d n then d
    else
      let d := d.nextAfter (d.canOf n).loadTick (10 * ticksPerMs)
      let x := { d.canOf n with loadTick := some d.tick }
      let newSec := x.peakSecond != d.second
      let d := if newSec then d.putF (CAN.STAT2 n) 16 16 x.peak else d
      let x := { x with loads := (load.val :: x.loads).take 50
                        peak := if newSec then load.val else max x.peak load.val, peakSecond := d.second }
      let d := (d.putCan n x).putF (CAN.STAT n) 8 8 load.val
      let last5 := x.loads.take 5
      if !d.b (CAN.STAT n) 3 && last5.length = 5 && last5.all (fun l => decide (95 < l)) then
        ((d.putB (CAN.STAT n) 3 true).event 0x2007 [n]).hushFifo n
      else if d.b (CAN.STAT n) 3 && x.loads.length = 50 && x.loads.all (fun l => decide (l < 80)) then
        (d.putB (CAN.STAT n) 3 false).event 0x2008 [n]
      else d

/-- The controller leaves the bus: its FIFO is flushed (R390). -/
def Dev.canOff (d : Dev) (n : Nat) : Dev :=
  let o := (d.canOf n).onBus
  let d := if 2 ≤ o then d.putF (CAN.PRI_STAT n (o - 2)) 0 2 1 else d
  let d := d.putCan n { d.canOf n with onBus := 0, loadTick := none, refTick := none }
  (d.fifoLeave n (fun _ => true) 6).putF (CAN.STAT n) 0 2 0

/-- The controller goes to sleep (R401): the frame on the bus is finished, the rest flushed. -/
def Dev.canSleep (d : Dev) (n : Nat) : Dev :=
  let x := d.canOf n
  let d := if x.onBus = 1 then
      match x.fifo with
      | [] => d
      | e :: rest => (d.putCan n { x with fifo := rest, onBus := 0 }).txEvent n e 1
    else if 2 ≤ x.onBus then d.priSent n (x.onBus - 2)
    else d
  (d.canOff n).putB (CAN.STAT n) 4 true

/-- SLEEP_CMD (R401): KEY 0x5C0A, in Configure only. -/
def execSleepCmd (ctrl : Fin 6) (value : Word) (s : State) : Out :=
  onWrite s fun _ d =>
    if fld value 16 16 = 0x5C0A && d.mode = 3 && canOn d ctrl.val then d.canSleep ctrl.val else d

/-- What a commit of a CAN page does beside its values (R381, R401, R504): it wakes a sleeping controller, joins or leaves the bus, and
starts the recovery of a bus-off controller. -/
def Dev.canCommitted (d : Dev) (c : Cfg) (n : Nat) : Dev :=
  let d := d.putB (CAN.STAT n) 4 false
  let d := d.putB (CAN.STAT n) 5 (c.b (CAN.CFG n) 0 && !d.crown)
  if !c.b (CAN.CFG n) 0 then d.canOff n
  else if d.f (CAN.STAT n) 0 2 = 0 then (d.putF (CAN.STAT n) 0 2 1).putN (CAN.ERR_CNT n) 0
  else if d.f (CAN.STAT n) 0 2 = 3 then d.putCan n { d.canOf n with recover := true }
  else d

end Sys2Proof.Machine
end

