-- ==== Sys2Proof/Machine/Eth.lean ====
section
/-! DEFINITION. The Ethernet ports and the time-aware switch, PTP, IEC 61162-450 and Nymyen discovery
(17_ethernet_discovery.md). What reaches the Osiraka layer is completed in Osiraka.lean, release of slots in Escapement.lean. -/
namespace Sys2Proof.Machine

def ethPage (n : Nat) : Nat := 0x40060000 + 0x1000 * n

def Dev.port (d : Dev) (n : Nat) : EthDev := Assoc.get {} d.sw.ports n
def Dev.putPort (d : Dev) (n : Nat) (x : EthDev) : Dev := { d with sw := { d.sw with ports := Assoc.set {} d.sw.ports n x } }
def Dev.queue (d : Dev) (n q : Nat) : List EthTx := Assoc.get [] (d.port n).queues q
def Dev.putQueue (d : Dev) (n q : Nat) (l : List EthTx) : Dev :=
  let d := d.putPort n { d.port n with queues := Assoc.set [] (d.port n).queues q l }
  if q = 7 then d.putF (ETH.STAT n) 16 8 (satU 8 l.length) else d

/-- The port's link is up. -/
def linkUp (d : Dev) (n : Nat) : Bool := d.b (ETH.STAT n) 0

/-- Speed in Mbit/s of a SPEED code. -/
def mbits (code : Nat) : Nat := if code = 1 then 10 else if code = 2 then 100 else 1000

/-! ### Egress (R406 to R412) -/

def portMac (c : Cfg) (n : Nat) : Nat := c.f (ETH.MAC_LO n) 0 32 + c.f (ETH.MAC_HI n) 0 16 * 2 ^ 32

/-- The addresses of the frames of a slot (R413). -/
def slotHead (c : Cfg) (n k : Nat) : UdpHead :=
  { srcMac := portMac c n, dstMac := c.f (ETH.SL_MAC_LO n k) 0 32 + c.f (ETH.SL_MAC_HI n k) 0 16 * 2 ^ 32, vid := c.f (ETH.SL_MAC_HI n k) 16 12
    srcIp := c.f (ETH.IPV4 n) 0 32, dstIp := c.f (ETH.SL_IP n k) 0 32
    srcPort := c.f ETHSW.UDP_PORTS 16 16, dstPort := c.f (ETH.SL_CFG n k) 16 16 }

/-- The addresses of the module's announcements on a port (R424): the group's MAC address is that of RFC 1112 (PRESUMED, log 99). -/
def nymHead (c : Cfg) (n : Nat) : UdpHead :=
  let g := c.f NYM.GROUP 0 32
  { srcMac := portMac c n, dstMac := 0x01005E000000 + g % 2 ^ 23, vid := 0, srcIp := c.f (ETH.IPV4 n) 0 32, dstIp := g
    srcPort := c.f NYM.UDP 0 16, dstPort := c.f NYM.UDP 0 16 }

/-- The egress queue of a class (R407). -/
def egressQueue (c : Cfg) (n cls : Nat) : Nat :=
  if cls = 0 then 7 else c.f (ETH.QMAP n) (4 * (cls - 1)) 3

/-- A frame enters its egress queue; while the link is down a class 0 frame is dropped at once (R412). -/
def Dev.ethSend (d : Dev) (c : Cfg) (n : Nat) (f : EthTx) : Dev :=
  if f.cls = 0 && !linkUp d n then (d.bump (ETH.Q7_DROP_CNT n)).event 0x2106 [n]
  else
    let q := egressQueue c n f.cls
    d.putQueue n q (d.queue n q ++ [f])

/-- Ticks from the last cycle start of the beat's grid, boundary + BASE_OFS, to `t` (R408). -/
def gatePhase (c : Cfg) (n t : Nat) : Nat := (t + ticksPerMs - c.f (ETH.GCL_CFG n) 12 20 / 5 % ticksPerMs) % ticksPerMs

/-- Ticks an entry lasts. -/
def gateTicks (c : Cfg) (n i : Nat) : Nat := c.f (ETH.GCL n i) 12 20 / 5

/-- The end of entry `i` begun at `t`: its interval, and not past the next boundary + BASE_OFS, where a cycle starts (R408, R411). -/
def gateEndOf (c : Cfg) (n t i : Nat) : Nat := min (t + gateTicks c n i) (t + ticksPerMs - gatePhase c n t)

/-- The entry in progress `x` ticks after the start of a cycle and the ticks left of it, from entry `i` on. -/
def gateWalk (c : Cfg) (n : Nat) (i : Nat) (x : Nat) : Nat → Nat × Nat
  | 0 => (i, gateTicks c n i)
  | k + 1 => if x < gateTicks c n i then (i, gateTicks c n i - x) else gateWalk c n (i + 1) (x - gateTicks c n i) k

/-- The entry in progress at the present instant and its end, of a list that starts to run (R408). -/
def gateNow (c : Cfg) (d : Dev) (n : Nat) : Nat × Nat :=
  let count := c.f (ETH.GCL_CFG n) 0 7
  let cycle := ((List.range count).map (gateTicks c n)).foldl (· + ·) 0
  let r := gateWalk c n 0 (if cycle = 0 then 0 else gatePhase c n d.tick % cycle) (count - 1)
  (r.1, d.tick + r.2)

/-- Entry `i` of a port is in progress until `t`. -/
def Dev.putGate (d : Dev) (n i t : Nat) : Dev := (d.putPort n { d.port n with gateEnd := t }).putF (ETH.STAT n) 8 6 i

/-- GATE_ENTRY_START (R408): the entry after the one in progress begins when that ends; entry 0 begins at every boundary + BASE_OFS. A
list that starts to run takes the entry of the present instant. -/
def execGateEntryStart (port : Fin 4) (s : State) : Out :=
  onDev s fun c d =>
    let n := port.val
    let count := c.f (ETH.GCL_CFG n) 0 7
    let start := (d.port n).gateEnd
    if count = 0 then d
    else if start = 0 then d.putGate n (gateNow c d n).1 (gateNow c d n).2
    else
      let i := if gatePhase c n start = 0 then 0 else (d.f (ETH.STAT n) 8 6 + 1) % count
      (d.advanceTo start).putGate n i (gateEndOf c n start i)

/-- Gate lists at a boundary: one whose entry ended before it runs on from the entry of the next start (R408). -/
def Dev.restartGates (d : Dev) : Dev :=
  (List.range 4).foldl (fun (d : Dev) n =>
    if (d.port n).gateEnd < d.tick then d.putPort n { d.port n with gateEnd := 0 } else d) d

/-- A time step ends the cycle in progress; a new one starts at the step instant (R411). -/
def Dev.stepGates (d : Dev) (c : Cfg) : Dev :=
  (List.range 4).foldl (fun (d : Dev) n =>
    if c.f (ETH.GCL_CFG n) 0 7 = 0 then d else d.putGate n 0 (gateEndOf c n d.tick 0)) d

/-- Ticks a frame takes with preamble and inter-frame gap. -/
def wireTicks (d : Dev) (n len : Nat) : Nat :=
  let r := mbits (d.f (ETH.STAT n) 1 2)
  ((len + 20) * 8 * 200 + r - 1) / r

/-- An event message leaves a transparent clock (R421): its correctionField grows by egress stamp less ingress stamp, in 2^-16 ns; the egress
stamp falls 8 bytes, preamble and delimiter, after the start of the frame, plus EG_LAT. -/
def transitFix (c : Cfg) (d : Dev) (n : Nat) (f : EthTx) : EthTx :=
  match f.transit with
  | none => f
  | some (corr, t) =>
    let out : Int := ((d.tick + 8 * 8 * 200 / mbits (d.f (ETH.STAT n) 1 2)) * 8 : Nat) + (c.f (ETH.LAT n) 0 16 * 8 / 5 : Nat)
    { f with transit := some (BitVec.ofNat 64 (unsigned 64 (signed 64 corr.toNat + (out - t) * 40960)), t) }

/-- The first of the queues, highest first, whose gate is open and whose frame ends before the gate closes; a frame held back is counted
(R407, R409). -/
def startFrame (c : Cfg) (d : Dev) (n gates : Nat) (qs : List Nat) : Dev :=
  match qs with
  | [] => d
  | q :: rest =>
    match d.queue n q with
    | [] => startFrame c d n gates rest
    | f :: more =>
      if !gates.testBit q then startFrame c d n gates rest
      else
        let t := wireTicks d n f.len
        if d.tick + t ≤ (d.port n).gateEnd then
          let d := d.putQueue n q more
          d.putPort n { d.port n with lineFree := d.tick + t, sent := some (transitFix c d n f), sentPcp := q }
        else startFrame c (d.bump (ETH.GATE_HOLD_CNT n)) n gates rest

/-- ETH_EGRESS_FRAME (R409). -/
def execEthEgressFrame (port : Fin 4) (s : State) : Out :=
  onDev s fun c d =>
    let n := port.val
    if !linkUp d n || !c.b (ETH.CFG n) 0 then d
    else
      let d := d.advanceTo (d.port n).lineFree
      startFrame c d n (c.f (ETH.GCL n (d.f (ETH.STAT n) 8 6)) 0 8) [7, 6, 5, 4, 3, 2, 1, 0]

/-! ### Ingress: filters and meters (R416 to R418) -/

/-- A single token bucket in units of 1/2000 bit: `rate` units a tick, `cap` units at most. Tokens now, from the last level. -/
def bucketNow (level : Option (Nat × Nat)) (rate cap now : Nat) : Nat :=
  match level with
  | none => cap
  | some (v, t) => min cap (v + (now - t) * rate)

/-- Whether a frame of `len` bytes finds its tokens, and the level after it (R417). -/
def meter (level : Option (Nat × Nat)) (cir cbs now len : Nat) : Bool × Option (Nat × Nat) :=
  let v := bucketNow level cir (cbs * 64 * 8 * 2000) now
  let need := len * 8 * 2000
  if need ≤ v then (true, some (v - need, now)) else (false, some (v, now))

/-- Stream filter `f` identifies the frame (R416). -/
def streamMatch (c : Cfg) (f port : Nat) (fr : EthFrame) : Bool :=
  let cfg := ETHSW.SF_CFG f
  let mac := c.f (ETHSW.SF_A f) 0 32 + c.f (ETHSW.SF_B f) 0 16 * 2 ^ 32
  let vid := match fr.vlan with | some (v, _) => v.toNat | none => 0
  let ty := c.f cfg 1 2
  c.b cfg 0 && (c.f cfg 3 4).testBit port
    && (if ty = 0 then fr.dst.toNat = mac && vid = c.f cfg 16 12
        else if ty = 1 then fr.src.toNat = mac && vid = c.f cfg 16 12
        else match fr.ip, fr.udp with
          | some (_, dst), some (_, dp) => dst = c.w (ETHSW.SF_A f) && dp.toNat = c.f (ETHSW.SF_B f) 0 16
          | _, _ => false)

/-- A drop by stream filter `f` (R417). -/
def Dev.policed (d : Dev) (f : Nat) : Dev :=
  let x := Assoc.get ({} : FilterDev) d.sw.filters f
  let n := if x.dropSecond = d.second then x.dropSec + 1 else 1
  let x := { x with dropSec := n, dropSecond := d.second }
  let d := { d with sw := { d.sw with filters := Assoc.set {} d.sw.filters f x } }
  ((d.bump (ETHSW.SF_DROP_CNT f)).putF (ETHSW.SF_STAT f) 16 16 (satU 16 n)).eventSec 0x2104 f [f]

/-- A frame that filter `f` decides: dropped when too long or blocked or without tokens (R417). -/
def Dev.filterFrame (d : Dev) (c : Cfg) (f len : Nat) : Bool × Dev :=
  if c.f (ETHSW.SF_SDU f) 0 11 < len then
    let d := d.policed f
    if c.b (ETHSW.SF_CFG f) 9 && !d.b (ETHSW.SF_STAT f) 0 then (false, (d.putB (ETHSW.SF_STAT f) 0 true).event 0x2105 [f]) else (false, d)
  else if d.b (ETHSW.SF_STAT f) 0 then (false, d.policed f)
  else
    let cir := c.f (ETHSW.SF_METER f) 0 16
    if cir = 0 then (true, d)
    else
      let x := Assoc.get ({} : FilterDev) d.sw.filters f
      let (ok, lvl) := meter x.tokens cir (c.f (ETHSW.SF_METER f) 16 16) d.tick len
      let d := { d with sw := { d.sw with filters := Assoc.set {} d.sw.filters f { x with tokens := lvl } } }
      if ok then (true, d) else (false, d.policed f)

/-- A frame that matches no filter is metered per ingress port by DEF_POL (R418). -/
def Dev.defaultMeter (d : Dev) (c : Cfg) (n len : Nat) : Bool × Dev :=
  let cir := c.f ETHSW.DEF_POL 0 16
  if cir = 0 then (true, d)
  else
    let (ok, lvl) := meter (d.port n).defTokens cir (c.f ETHSW.DEF_POL 16 16) d.tick len
    let d := d.putPort n { d.port n with defTokens := lvl }
    if ok then (true, d) else (false, d.bump ETHSW.DEF_DROP_CNT)

/-- The class of a frame (R406): of its filter, else of its PCP, an untagged frame as PCP 0. -/
def frameClass (c : Cfg) (n : Nat) (filter : Option Nat) (fr : EthFrame) : Nat :=
  match filter with
  | some f => c.f (ETHSW.SF_CFG f) 7 2
  | none =>
    let pcp := match fr.vlan with | some (_, p) => p.toNat | none => 0
    c.f (ETH.PCP_MAP n) (2 * pcp) 2

/-- SF_UNBLOCK (R417): KEY 0x51F0. -/
def execSfUnblock (filter : Fin 64) (value : Word) (s : State) : Out :=
  onWrite s fun _ d => if fld value 16 16 = 0x51F0 then d.putB (ETHSW.SF_STAT filter.val) 0 false else d

/-! ### Bridging and the host port (R405) -/

/-- The learning table takes a source address; a full table learns no new one. -/
def Dev.learn (d : Dev) (port : Nat) (mac : Nat) : Dev :=
  let known := d.sw.table.any (fun p => p.1 = mac)
  if !known && decide (4096 ≤ d.sw.table.length) then d
  else { d with sw := { d.sw with table := (mac, port, d.tick) :: d.sw.table.filter (fun p => p.1 != mac) } }

/-- A frame goes to port 4, where firmware's stack answers. -/
def Dev.toHost (d : Dev) (fr : EthFrame) : Dev :=
  { d with sw := { d.sw with hostCount := d.sw.hostCount + 1, hostLast := some fr } }

/-- A frame that no hardware function takes: with BRIDGE 0 to port 4 only; with BRIDGE 1 to the learned port, or to all others
(R405). -/
def Dev.bridge (d : Dev) (c : Cfg) (n cls : Nat) (fr : EthFrame) : Dev :=
  if !c.b ETHSW.SW_CFG 0 then d.toHost fr
  else
    let own := (d.sw.table.find? (fun p => p.1 = fr.dst.toNat)).map (fun p => p.2.1)
    let f : EthTx := ⟨cls, fr.length, fr.payload, none, none⟩
    match own with
    | some q => if q = n then d else if q = 4 then d.toHost fr else d.ethSend c q f
    | none => ((List.range 4).filter (fun q => q != n && c.b (ETH.CFG q) 0)).foldl (fun d q => d.ethSend c q f) (d.toHost fr)

/-- ADDRESS_AGEING (R405): an address not seen for 300 s leaves the table. -/
def execAddressAgeing (mac : BitVec 48) (s : State) : Out :=
  onDev s fun _ d =>
    match d.sw.table.find? (fun p => p.1 = mac.toNat) with
    | none => d
    | some (_, _, t) =>
      let d := d.advanceTo (t + 300 * ticksPerSec)
      { d with sw := { d.sw with table := d.sw.table.filter (fun p => p.1 != mac.toNat) } }

/-! ### IEC 61162-450 (R422, R423) -/

/-- The value of a hexadecimal digit. -/
def hexDigit (b : Byte) : Option Nat :=
  let n := b.toNat
  if 48 ≤ n ∧ n ≤ 57 then some (n - 48)
  else if 65 ≤ n ∧ n ≤ 70 then some (n - 55)
  else if 97 ≤ n ∧ n ≤ 102 then some (n - 87)
  else none

/-- A text whose checksum, two hexadecimal digits after `*`, equals the XOR of the characters before it. -/
def checksumOk (l : List Byte) : Bool :=
  let body := l.takeWhile (· != 0x2A)
  match (l.drop (body.length + 1)).map hexDigit with
  | some h :: some o :: _ => body.foldl (fun a b => a ^^^ b) 0 = BitVec.ofNat 8 (16 * h + o)
  | _ => false

/-- The lines of a datagram: cut at CR and LF. -/
def lines (l : List Byte) (cur : List Byte) : List (List Byte) :=
  match l with
  | [] => if cur.isEmpty then [] else [cur]
  | b :: t =>
    if b = 0x0D || b = 0x0A then (if cur.isEmpty then lines t [] else cur :: lines t [])
    else lines t (cur ++ [b])

/-- The sentence of a line and whether its tag block's checksum holds: from `$` or `!` to its checksum. -/
def sentenceOf (l : List Byte) : Option (List Byte × Bool) :=
  let (rest, tagOk) := match l with
    | 0x5C :: t =>
      let tag := t.takeWhile (· != 0x5C)
      (t.drop (tag.length + 1), checksumOk tag)
    | _ => (l, true)
  match rest with
  | [] => none
  | b :: body =>
    if b = 0x24 || b = 0x21 then
      let n := (body.takeWhile (· != 0x2A)).length
      some ((b :: body).take (n + 4), tagOk)
    else none

/-- The enabled source entry whose 5 characters a sentence carries (R422). -/
def iecEntry (c : Cfg) (sentence : List Byte) : Option Nat :=
  let five := (sentence.drop 1).take 5
  (List.range 32).find? (fun i => c.b (ETHSW.IEC_SRC_CFG i) 8
    && five = leBytes 4 (c.w (ETHSW.IEC_SRC_TF i)).toNat ++ leBytes 1 (c.f (ETHSW.IEC_SRC_CFG i) 0 8))

/-- One line of a UdPbC datagram (R422, R423). -/
def Dev.iecLine (d : Dev) (c : Cfg) (tick : Nat) (fr : EthFrame) (l : List Byte) : Dev :=
  match sentenceOf l with
  | none => d.toHost fr
  | some (sen, tagOk) =>
    match iecEntry c sen with
    | none => d.toHost fr
    | some i =>
      if !tagOk || !checksumOk (sen.drop 1) then d
      else d.capture c (c.f (ETHSW.IEC_SRC_CFG i) 16 16) (c.f (ETHSW.IEC_SRC_CFG i) 9 2) tick (if 82 < sen.length then qRANGE else 0) (sen.take 255)

/-- The frame belongs to an enabled IEC group on this port (R422). -/
def iecGroup (c : Cfg) (n : Nat) (fr : EthFrame) : Bool :=
  match fr.ip, fr.udp with
  | some (_, dst), some (_, dp) => (List.range 8).any (fun g =>
      let w := c.w (ETHSW.IEC_GRP g)
      bit w 12 && (fld w 8 4).testBit n && dst.toNat = 0xEFC00000 + fld w 0 8 && dp.toNat = fld w 16 16)
  | _, _ => false

/-- A datagram of a joined group: only UdPbC datagrams are parsed (R422). -/
def Dev.iecDatagram (d : Dev) (c : Cfg) (n : Nat) (fr : EthFrame) : Dev :=
  if fr.payload.take 6 = [0x55, 0x64, 0x50, 0x62, 0x43, 0] then
    let tick := d.tick - c.f (ETH.LAT n) 16 16 / 5
    (lines (fr.payload.drop 6) []).foldl (fun d l => d.iecLine c tick fr l) d
  else d.toHost fr

/-! ### PTP (R419 to R421) -/

/-- clockAccuracy of IEEE 1588 for an estimated error in ns (log 23). -/
def clockAccuracy (ns : Nat) : Nat :=
  let steps := [25, 100, 250, 1000, 2500, 10000, 25000, 100000, 250000, 1000000, 2500000, 10000000, 25000000, 100000000, 250000000,
    1000000000]
  match steps.zipIdx.find? (fun p => decide (ns ≤ p.1)) with
  | some (_, i) => 0x20 + i
  | none => if ns = 0xFFFFFFFF then 0xFE else 0x30

/-- The rank of a clock in the BMCA, as one number: smaller is better (IEEE 1588 data set comparison). -/
def clockRank (prio1 cls acc var prio2 gm steps : Nat) : Nat :=
  ((((((prio1 * 2 ^ 8 + cls) * 2 ^ 8 + acc) * 2 ^ 16 + var) * 2 ^ 8 + prio2) * 2 ^ 64 + gm) * 2 ^ 16 + steps)

/-- The module's own clock identity: EUI-64 of ETH0's MAC address. -/
def ownClockId (c : Cfg) : Nat :=
  let mac := c.f (ETH.MAC_LO 0) 0 32 + c.f (ETH.MAC_HI 0) 0 16 * 2 ^ 32
  mac / 2 ^ 24 * 2 ^ 40 + 0xFFFE * 2 ^ 24 + mac % 2 ^ 24

/-- The module's own rank: its clock class when PTP is not what it follows, else that of a free clock (log 23). -/
def ownRank (c : Cfg) (d : Dev) : Nat :=
  let err := (d.w TBU.EST_ERR).toNat
  let cls := if d.f TBU.STATE 4 3 = 2 then 248 else d.f TBU.STATE 16 8
  clockRank (c.f ETHSW.PTP_CFG 16 8) cls (clockAccuracy err) (Config.ptpVariance err).toNat (c.f ETHSW.PTP_CFG 24 8) (ownClockId c) 0

/-- The state the BMCA and R420 give port `n`: 0 not in PTP, 6 MASTER, 7 PASSIVE, 9 SLAVE. -/
def ptpPortState (c : Cfg) (d : Dev) (n : Nat) : Nat :=
  if !c.b ETHSW.PTP_CFG 0 || !c.b (ETH.CFG n) 4 || !c.b (ETH.CFG n) 0 || !linkUp d n then 0
  else
    let ranks := (List.range 4).filterMap (fun p => (d.port p).announce.map (fun a => (a.2, p)))
    let best := ranks.foldl (fun (b : Option (Nat × Nat)) r => match b with
      | none => some r
      | some q => if r.1 < q.1 then some r else b) none
    match best with
    | none => if crownOrSingle c d then 6 else 7
    | some (r, p) =>
      if r < ownRank c d then (if p = n then (if c.f TBU.SRC_CFG 4 2 = n then 9 else 7) else if (d.port n).announce.isSome then 7
        else if crownOrSingle c d then 6 else 7)
      else if crownOrSingle c d then 6 else 7

/-- Every port takes its PTP state; each change is recorded (R420). -/
def Dev.ptpStates (d : Dev) (c : Cfg) : Dev :=
  (List.range 4).foldl (fun d n =>
    let st := ptpPortState c d n
    if d.f (ETH.STAT n) 4 4 = st then d else (d.putF (ETH.STAT n) 4 4 st).event 0x2107 [n, st]) d

/-- ETH_LINK_UP (R404). -/
def execEthLinkUp (port : Fin 4) (speed : Fin 3) (s : State) : Out :=
  onDev s fun c d =>
    let n := port.val
    if !c.b (ETH.CFG n) 0 then d
    else
      let forced := c.f (ETH.CFG n) 2 2
      let sp := if forced = 0 then speed.val + 1 else forced
      (((d.putB (ETH.STAT n) 0 true).putF (ETH.STAT n) 1 2 sp).event 0x2101 [n, sp]).ptpStates c

/-- ETH_LINK_DOWN (R412): class 0 frames that wait are dropped. -/
def execEthLinkDown (port : Fin 4) (s : State) : Out :=
  onDev s fun c d =>
    let n := port.val
    if !linkUp d n then d
    else
      let d := (d.putB (ETH.STAT n) 0 false).event 0x2102 [n]
      let waiting := d.queue n 7
      (waiting.foldl (fun (d : Dev) _ => (d.bump (ETH.Q7_DROP_CNT n)).event 0x2106 [n]) (d.putQueue n 7 [])).ptpStates c

/-- Length of a PTP message on the wire, by its transport (log 23). -/
def ptpLen (c : Cfg) (body : Nat) : Nat :=
  let t := c.f ETHSW.PTP_CFG 2 2
  max 64 (body + (if t = 0 then 18 else if t = 1 then 46 else 66))

/-- 2^n seconds in ticks. -/
def logTicks (n : Int) : Nat := if 0 ≤ n then ticksPerSec * 2 ^ n.toNat else ticksPerSec / 2 ^ (-n).toNat

/-- A PTP message of a kind is due an interval of PTP_INT after the last one the port queued (R419). -/
def Dev.ptpDue (d : Dev) (c : Cfg) (n kind : Nat) : Dev :=
  let p := d.port n
  let d := match p.ptpTicks.find? (fun x => x.1 = kind) with
    | none => d
    | some x => d.advanceTo (x.2 + logTicks (c.s ETHSW.PTP_INT (4 * kind) 4))
  d.putPort n { p with ptpTicks := (kind, d.tick) :: p.ptpTicks.filter (fun x => x.1 != kind) }

/-- PTP_SYNC_SEND (R419): a MASTER port sends a one-step Sync every 2^LOG_SYNC s. -/
def execPtpSyncSend (port : Fin 4) (_sub : Fin 8) (s : State) : Out :=
  onDev s fun c d =>
    if d.f (ETH.STAT port.val) 4 4 != 6 then d
    else
      let d := d.ptpDue c port.val 0
      let d := { d with sw := { d.sw with ptpSent := (d.sw.ptpSent.1 + 1, d.sw.ptpSent.2) } }
      d.ethSend c port.val ⟨1, ptpLen c 44, [], none, none⟩

/-- The fields of an Announce (R96, R419, IEEE 1588-2019; PRESUMED log 87): its origin left 0, the UTC offset, priorities, the clock's class,
accuracy and variance, identity, no steps removed, and the time source. -/
def announceBody (c : Cfg) (d : Dev) : List Byte :=
  let err := (d.w TBU.EST_ERR).toNat
  let be (n v : Nat) : List Byte := (leBytes n v).reverse
  be 10 0 ++ be 2 (c.f TBU.UTC_OFS 0 16) ++ be 1 0 ++ be 1 (c.f ETHSW.PTP_CFG 16 8) ++ be 1 (d.f TBU.STATE 16 8) ++ be 1 (clockAccuracy err)
    ++ be 2 (Config.ptpVariance err).toNat ++ be 1 (c.f ETHSW.PTP_CFG 24 8) ++ be 8 (ownClockId c) ++ be 2 0 ++ be 1 0xA0

/-- PTP_ANNOUNCE_SEND (R419, R96): every 2^LOG_ANN s. -/
def execPtpAnnounceSend (port : Fin 4) (s : State) : Out :=
  onDev s fun c d =>
    if d.f (ETH.STAT port.val) 4 4 != 6 then d
    else
      let d := d.ptpDue c port.val 1
      let d := { d with sw := { d.sw with ptpSent := (d.sw.ptpSent.1, d.sw.ptpSent.2.1 + 1, d.sw.ptpSent.2.2) } }
      d.ethSend c port.val ⟨1, ptpLen c 64, announceBody c d, none, none⟩

/-- PTP_PDELAY_SEND (R419): in the peer-to-peer profile, on a port that takes part, every 2^LOG_PDELAY s. -/
def execPtpPdelaySend (port : Fin 4) (_sub : Fin 8) (s : State) : Out :=
  onDev s fun c d =>
    if d.f (ETH.STAT port.val) 4 4 = 0 || !c.b ETHSW.PTP_CFG 1 then d
    else
      let d := d.ptpDue c port.val 2
      let d := { d with sw := { d.sw with ptpSent := (d.sw.ptpSent.1, d.sw.ptpSent.2.1, d.sw.ptpSent.2.2 + 1) } }
      d.ethSend c port.val ⟨1, ptpLen c 54, [], none, none⟩

/-- A frame goes to port 4 of which only the arrival is kept. -/
def Dev.hostFrame (d : Dev) : Dev := { d with sw := { d.sw with hostCount := d.sw.hostCount + 1 } }

/-- A received PTP message changes the port's data (R419 to R421); Pdelay_Req is answered in every state; a transparent clock passes
event messages between external ports. On a port without PTP it goes to port 4 (R405). -/
def Dev.ptpReceive (d : Dev) (c : Cfg) (n : Nat) (m : PtpMessage) : Dev :=
  if !c.b ETHSW.PTP_CFG 0 || !c.b (ETH.CFG n) 4 then d.hostFrame
  else match m with
  | .announce gm prio1 cls acc var prio2 steps _ _ _ _ =>
    (d.putPort n { d.port n with
      announce := some (gm, clockRank prio1.toNat cls.toNat acc.toNat var.toNat prio2.toNat gm.toNat steps.toNat)
      announceTick := d.tick }).ptpStates c
  | .sync gm origin corr log sub =>
    let p := d.port n
    if d.f (ETH.STAT n) 4 4 = 9 && p.announce.any (fun a => a.1 = gm) then
      let own : Int := (d.tick * 5 + 5 * sub.val / 8 : Nat) - c.f (ETH.LAT n) 16 16
      let ofs := (origin : Int) + signed 64 corr.toNat / 65536 + p.pathDelay - own
      d.putPort n { p with syncs := (ofs, d.tick) :: p.syncs, lastSync := some (d.tick, logTicks log) }
    else d
  | .pdelayReq sub => (d.putPort n { d.port n with pdelayIn := some (d.tick, sub.val) }).ethSend c n ⟨1, ptpLen c 54, [], none, none⟩
  | .pdelayResp corr sub =>
    match (d.port n).pdelayOut with
    | none => d
    | some (t, s0) =>
      let trip : Int := (((d.tick : Int) - t) * 8 + sub.val - s0) * 5 / 8 - c.f (ETH.LAT n) 16 16 - c.f (ETH.LAT n) 0 16
      d.putPort n { d.port n with pathDelay := (trip - signed 64 corr.toNat / 65536) / 2 }
  | .delayResp receipt request =>
    let p := d.port n
    let down := match p.syncs with | [] => 0 | x :: _ => p.pathDelay - x.1
    d.putPort n { p with pathDelay := (down + ((receipt : Int) - request)) / 2 }
  | .transparent corr sub =>
    if c.b ETHSW.SW_CFG 0 && c.b ETHSW.SW_CFG 1 then
      let stamp : Int := (d.tick * 8 + sub.val : Nat) - (c.f (ETH.LAT n) 16 16 * 8 / 5 : Nat)
      ((List.range 4).filter (fun q => q != n && c.b (ETH.CFG q) 0)).foldl
        (fun d q => d.ethSend c q ⟨1, ptpLen c 44, [], some (corr, stamp), none⟩) d
    else d.hostFrame
  | .other => d.hostFrame

/-- ANNOUNCE_RECEIPT_TIMEOUT (R419, Table 4.1): ANN_TMO Announce intervals after the last Announce the port forgets its master; on the
client port PTP is disqualified. -/
def execAnnounceReceiptTimeout (port : Fin 4) (s : State) : Out :=
  onDev s fun c d =>
    let n := port.val
    let d := if (d.port n).announce.isSome then
        d.advanceTo ((d.port n).announceTick + c.f ETHSW.PTP_INT 12 4 * logTicks (c.s ETHSW.PTP_INT 4 4)) else d
    let d := (d.putPort n { d.port n with announce := none }).ptpStates c
    if c.f TBU.SRC_CFG 4 2 = n then d.disqualify 2 else d

/-! ### Nymyen (R424 to R429) -/

def Dev.roster (d : Dev) (r : Nat) : NymEntry := Assoc.get {} d.nym.roster r
def Dev.putRoster (d : Dev) (r : Nat) (e : NymEntry) : Dev := { d with nym := { d.nym with roster := Assoc.set {} d.nym.roster r e } }

/-- NYM.STAT shows the entries in use and those QUARANTINED. -/
def Dev.showNym (d : Dev) : Dev :=
  let used := (d.nym.roster.filter (fun p => p.2.st != 0)).length
  let quar := (d.nym.roster.filter (fun p => p.2.st = 1)).length
  (d.putF NYM.STAT 0 9 used).putF NYM.STAT 24 8 (satU 8 quar)

/-- The serial of expected entry `k`. -/
def expSerial (c : Cfg) (k : Nat) : Nat := c.f (NYM.EXP_SER_LO k) 0 32 + c.f (NYM.EXP_SER_HI k) 0 32 * 2 ^ 32

/-- The roster entry, other than `r`, bound to expected entry `k` in state `st`. -/
def boundTo (d : Dev) (k r st : Nat) : Option Nat :=
  (d.nym.roster.find? (fun p => p.1 != r && p.2.bind = some k && p.2.st = st)).map (·.1)

/-- A GONE entry bound to `k` is unbound (R425). -/
def Dev.unbindGone (d : Dev) (k r : Nat) : Dev :=
  match boundTo d k r 3 with
  | none => d
  | some g => d.putRoster g { d.roster g with bind := none }

/-- match(r) of R425. -/
def Dev.nymMatch (d : Dev) (c : Cfg) (r : Nat) : Option Nat × Dev :=
  let e := d.roster r
  let enabled := (List.range 64).filter (fun k => c.b (NYM.EXP_CFG k) 0)
  let k? := match enabled.find? (fun k => expSerial c k = e.uid.toNat && expSerial c k != 0) with
    | some k => some k
    | none => enabled.find? (fun k => expSerial c k = 0 && c.f (NYM.EXP_CFG k) 8 8 = e.role && c.f (NYM.EXP_CFG k) 16 8 = e.slot)
  match k? with
  | none => (none, d.putRoster r { e with reason := 1 })
  | some k =>
    if (boundTo d k r 2).isSome then (none, (d.putRoster r { e with reason := 2 }).event 0x2207 [r, k])
    else (some k, d.unbindGone k r)

/-- depart(r) of R425. -/
def Dev.nymDepart (d : Dev) (r : Nat) : Dev :=
  let e := d.roster r
  if e.st = 2 then (d.putRoster r { e with st := 3 }).event 0x2204 [r]
  else if e.st = 1 then d.putRoster r {}
  else d

/-- The entry an announcement goes to: its own, else an EMPTY one, else the GONE one silent longest (R425); whether it is new. -/
def nymEntryFor (d : Dev) (uid : BitVec 64) : Option (Nat × Bool) :=
  match d.nym.roster.find? (fun p => p.2.st != 0 && p.2.uid = uid) with
  | some p => some (p.1, false)
  | none =>
    match (List.range 256).find? (fun r => (d.roster r).st = 0) with
    | some r => some (r, true)
    | none =>
      ((d.nym.roster.filter (fun p => p.2.st = 3)).foldl (fun (b : Option (Nat × Nat)) p => match b with
        | none => some (p.1, p.2.last)
        | some q => if p.2.last < q.2 then some (p.1, p.2.last) else b) none).map (fun q => (q.1, true))

/-- An address clash (R427): two entries, or an entry and the module itself, heard on one CAN controller within 3 s with one node
address. -/
def Dev.addrClash (d : Dev) (c : Cfg) (n r : Nat) : Dev :=
  let e := d.roster r
  let recent := fun (x : NymEntry) => match Assoc.get 0 x.canLast n with
    | 0 => false
    | t => decide (d.tick ≤ t - 1 + 3 * ticksPerSec)
  let other := d.nym.roster.find? (fun p => p.1 != r && p.2.st != 0 && p.2.node = e.node && recent p.2)
  let serial? : Option Nat := match other with
    | some p => some p.2.uid.toNat
    | none => if c.f NYM.OWN 16 8 = e.node then some ((d.w SYS.UID_LO).toNat + (d.w SYS.UID_HI).toNat * 2 ^ 32) else none
  match serial? with
  | none => d
  | some u =>
    let d := { d with nym := { d.nym with clashTick := d.tick } }
    if d.b NYM.STAT 16 then d
    else (d.putB NYM.STAT 16 true).event 0x2206
      [(e.uid.toNat % 2 ^ 32 : Nat), (e.uid.toNat / 2 ^ 32 : Nat), (u % 2 ^ 32 : Nat), (u / 2 ^ 32 : Nat)]

/-- The procedure of R425 on one announcement. -/
def Dev.nymHear (d : Dev) (c : Cfg) (src : NymSource) (a : Announcement) : Dev :=
  let own := d.w SYS.UID_HI ++ d.w SYS.UID_LO
  if a.uid = own then
    let d := d.bump NYM.SELF_CNT
    match d.nym.selfTick with
    | some t => if d.tick < t + 10 * ticksPerSec then d else { d with nym := { d.nym with selfTick := some d.tick } }.event 0x2209
    | none => { d with nym := { d.nym with selfTick := some d.tick } }.event 0x2209
  else
    match nymEntryFor d a.uid with
    | none => d.event 0x2208
    | some (r, isNew) =>
      let e0 : NymEntry := if isNew then { uid := a.uid } else d.roster r
      let (bitNo, can?) : Nat × Option Nat := match src with | .can n => (n.val, some n.val) | .eth p => (8 + p.val, none)
      let e := { e0 with role := a.role.toNat, slot := a.slot.toNat, node := a.node.toNat, last := d.tick
                         heard := e0.heard ||| 2 ^ bitNo
                         canLast := match can? with | some n => Assoc.set 0 e0.canLast n (d.tick + 1) | none => e0.canLast }
      let d := if isNew then d else d.putRoster r e
      if a.leaving then (if isNew then d else (d.nymDepart r).showNym)
      else
        let d := if isNew then d.putRoster r { e with st := 1 } else d
        let d := match can? with | some n => d.addrClash c n r | none => d
        let stop := !isNew && (e0.st = 2 || (e0.st = 1 && e0.bind.isNone))
        if stop then d.showNym
        else
          let (b, d) := if e0.bind.isSome then (e0.bind, d) else d.nymMatch c r
          match b with
          | none => ((d.putRoster r { d.roster r with st := 1 }).event 0x2202 [r, (d.roster r).reason]).showNym
          | some k =>
            let d := d.event (if e0.st = 3 then 0x2205 else 0x2201) [r, k]
            ((d.putRoster r { d.roster r with st := 2, bind := some k, reason := 0 }).showNym).partnerPresent c a.uid.toNat (e0.st = 3)

/-- NYM_ANNOUNCEMENT (R425): while discovery is enabled. -/
def execNymAnnouncement (src : NymSource) (ann : Announcement) (s : State) : Out :=
  onDev s fun c d => if c.b NYM.CFG 0 then d.nymHear c src ann else d

/-- NYM_DEPART (R425): an entry not heard on any source for 3 s. -/
def execNymDepart (entry : Fin 256) (s : State) : Out :=
  onDev s fun _ d =>
    let e := d.roster entry.val
    if e.st = 1 || e.st = 2 then ((d.advanceTo (e.last + 3 * ticksPerSec)).nymDepart entry.val).showNym else d

/-- ADDR_CLASH_CLEAR (R427). -/
def execAddrClashClear (s : State) : Out :=
  onDev s fun _ d =>
    if d.b NYM.STAT 16 then (d.advanceTo (d.nym.clashTick + 3 * ticksPerSec)).putB NYM.STAT 16 false else d

/-- NYM.CMD_RES: the result and the count of writes (R429). -/
def Dev.nymResult (d : Dev) (code : Nat) : Dev := (d.putF NYM.CMD_RES 0 3 code).wrap NYM.CMD_RES 16 16 1

/-- NYM_ACCEPT (R429): a QUARANTINED entry is bound to expected entry e, whatever its role, and ACCEPTED. -/
def execNymAccept (value : Word) (s : State) : Out :=
  onWrite s fun c d =>
    let r := fld value 0 8
    let e := fld value 8 6
    if fld value 16 16 != 0x6E3A then d.nymResult 1
    else if !c.b (NYM.EXP_CFG e) 0 then d.nymResult 2
    else if (d.roster r).st != 1 then d.nymResult 3
    else if (boundTo d e r 2).isSome then d.nymResult 4
    else
      let d := d.unbindGone e r
      let d := (d.putRoster r { d.roster r with st := 2, bind := some e, reason := 0 }).event 0x2203 [r, e]
      (d.showNym.partnerPresent c (d.roster r).uid.toNat false).nymResult 0

/-- NYM_FORGET (R429): the entry becomes EMPTY. -/
def execNymForget (value : Word) (s : State) : Out :=
  onWrite s fun _ d =>
    if fld value 16 16 != 0x6E3A then d.nymResult 1
    else ((d.putRoster (fld value 0 8) {}).showNym).nymResult 0

/-- Every commit of NYM re-runs match() for each QUARANTINED entry (R425). -/
def Dev.nymCommitted (d : Dev) (c : Cfg) : Dev :=
  let quar := (d.nym.roster.filter (fun p => p.2.st = 1)).map (·.1)
  (quar.foldl (fun d r =>
    match d.nymMatch c r with
    | (none, d) => d
    | (some k, d) =>
      let d := (d.event 0x2201 [r, k]).putRoster r { d.roster r with st := 2, bind := some k, reason := 0 }
      d.partnerPresent c (d.roster r).uid.toNat false) d).showNym

/-- The module's own announcements (R424, Table 17.3). -/
def Dev.nymAnnounce (d : Dev) (c : Cfg) : Dev :=
  let uid := leBytes 4 (d.w SYS.UID_LO).toNat ++ leBytes 4 (d.w SYS.UID_HI).toNat
  let cap := c.f SYS.CALIBRE 0 2 + c.pair.toNat * 4 + 0x11 * 2 ^ 8
  let body := uid ++ leBytes 1 (c.f NYM.OWN 0 8) ++ leBytes 1 (c.f NYM.OWN 8 8) ++ leBytes 2 cap ++ leBytes 1 (c.f NYM.OWN 16 8)
    ++ leBytes 1 (d.crown.toNat * 2)
  let id := wd (c.f NYM.CAN_BASE 0 11 + c.f NYM.OWN 16 8 + 2 ^ 30 + 2 ^ 31)
  let can := body ++ leBytes 1 d.nym.seq ++ [1]
  let d := ((List.range 6).filter (fun n => c.b NYM.CFG (1 + n) && !d.b (CAN.STAT n) 3)).foldl
    (fun d n => d.fifoPut c n (canEntry 4 255 id 2 can)) d
  let d := ((List.range 4).filter (fun n => c.b NYM.CFG (8 + n))).foldl (fun d n =>
    let p := [0x4E, 0x59, 0x4D, 0x31] ++ body ++ leBytes 2 d.nym.seq ++ leBytes 4 (c.f (ETH.IPV4 n) 0 32)
    ({ d with nym := { d.nym with sent := p } }).ethSend c n ⟨2, 70, p, none, some (nymHead c n)⟩) d
  { d with nym := { d.nym with seq := (d.nym.seq + 1) % 65536 } }

/-! ### Where an ingress frame goes (R405, R416, R424) -/

/-- The hardware function an admitted frame goes to. -/
inductive EthFate where
  | dropped | osiraka | nymyen | iec | other (cls : Nat)
  deriving DecidableEq, Repr

/-- Classification of an ingress frame: oversize, learning, filter, meter, function (R404 to R406, R416 to R418, R422, R424). -/
def Dev.ingress (d : Dev) (c : Cfg) (n : Nat) (fr : EthFrame) : EthFate × Dev :=
  if !c.b (ETH.CFG n) 0 then (.dropped, d)
  else if 1522 < fr.length then (.dropped, (d.bump (ETH.OVERSIZE_CNT n)).eventSec 0x2103 n [n])
  else
    let d := d.learn n fr.src.toNat
    let filter := (List.range 64).find? (fun f => streamMatch c f n fr)
    let (ok, d) := match filter with
      | some f => d.filterFrame c f fr.length
      | none => d.defaultMeter c n fr.length
    if !ok then (.dropped, d)
    else
      let fate := match fr.ip, fr.udp with
        | some (_, dst), some (_, dp) =>
          if dp.toNat = c.f ETHSW.UDP_PORTS 0 16 then EthFate.osiraka
          else if c.b NYM.CFG 0 && dst = c.w NYM.GROUP && dp.toNat = c.f NYM.UDP 0 16 then .nymyen
          else if iecGroup c n fr then .iec
          else .other (frameClass c n filter fr)
        | _, _ => .other (frameClass c n filter fr)
      (fate, d)

/-- A UDP announcement (Table 17.3), if the payload is one. -/
def parseAnnouncement (p : List Byte) : Option Announcement :=
  if p.length = 24 && p.take 4 = [0x4E, 0x59, 0x4D, 0x31] then
    some { uid := BitVec.ofNat 64 (leAt p 4 8), role := BitVec.ofNat 8 (leAt p 12 1), slot := BitVec.ofNat 8 (leAt p 13 1)
           capability := BitVec.ofNat 16 (leAt p 14 2), node := BitVec.ofNat 8 (leAt p 16 1)
           leaving := (leAt p 17 1).testBit 0, crowned := (leAt p 17 1).testBit 1, seq := BitVec.ofNat 16 (leAt p 18 2) }
  else none

/-- A CAN announcement (Table 17.3) in the data of a frame. -/
def parseCanAnnouncement (p : List Byte) : Announcement :=
  { uid := BitVec.ofNat 64 (leAt p 0 8), role := BitVec.ofNat 8 (leAt p 8 1), slot := BitVec.ofNat 8 (leAt p 9 1)
    capability := BitVec.ofNat 16 (leAt p 10 2), node := BitVec.ofNat 8 (leAt p 12 1)
    leaving := (leAt p 13 1).testBit 0, crowned := (leAt p 13 1).testBit 1, seq := BitVec.ofNat 16 (leAt p 14 1) }

end Sys2Proof.Machine
end

