-- ==== Sys2Proof/Machine/Method.lean ====
section
/-! DEFINITION. The method of the solver (09_solver_hardware.md R214 to R219, 10_solver_deadline.md R249): Mehrotra's predictor-corrector
interior-point method on the program that a schedule image makes of its parameters. Everything is a function of image, parameters and
start, so that equal runs agree to the bit (R216). The spec does not give the order of a schedule's reductions: sums run in the order
written (log 94). -/
namespace Sys2Proof.Machine

open Config (Program)

/-- Its numbers in the order of a result record, and the iterate that `l` holds. -/
def Iterate.flat (i : Iterate) : Vec := i.x ++ i.y ++ i.z ++ i.s
def Iterate.ofFlat (nVar nEq nIneq : Nat) (l : Vec) : Iterate :=
  ⟨l.take nVar, (l.drop nVar).take nEq, (l.drop (nVar + nEq)).take nIneq, (l.drop (nVar + nEq + nIneq)).take nIneq⟩

def Vec.negate (a : Vec) : Vec := a.map F64.neg
def Vec.mulV (a b : Vec) : Vec := a.zipWith F64.mul b
def Vec.divV (a b : Vec) : Vec := a.zipWith F64.div b
/-- The infinity norm. -/
def Vec.maxAbs (a : Vec) : BitVec 64 := a.foldl (fun m v => F64.max m (F64.abs v)) F64.zero
/-- The transpose of `m` with `n` columns times a vector. -/
def Mat.mulT (n : Nat) (m : Mat) (v : Vec) : Vec := Mat.mulVec (Mat.transpose n m) v

/-! ### Residuals (R217 step 1, R247) -/

/-- Dual, equality and inequality residuals. -/
def dualRes (p : Program) (i : Iterate) : Vec :=
  let n := p.lin.length
  Vec.add (Vec.add (Vec.add (Mat.mulVec p.cost i.x) p.lin) (Mat.mulT n p.eqRows i.y)) (Mat.mulT n p.ineqRows i.z)
def eqRes (p : Program) (i : Iterate) : Vec := Vec.sub (Mat.mulVec p.eqRows i.x) p.eqRhs
def ineqRes (p : Program) (i : Iterate) : Vec := Vec.sub (Vec.add (Mat.mulVec p.ineqRows i.x) i.s) p.ineqRhs

/-- Primal and dual residual in the infinity norm, complementarity gap, objective. -/
def measureOf (p : Program) (i : Iterate) : Vec :=
  [F64.max (Vec.maxAbs (eqRes p i)) (Vec.maxAbs (ineqRes p i)), Vec.maxAbs (dualRes p i), Vec.dot i.s i.z,
   F64.add (F64.scale (Vec.dot i.x (Mat.mulVec p.cost i.x)) 1 2) (Vec.dot p.lin i.x)]

/-! ### The KKT system (R218) -/

/-- The reduced KKT matrix: H + G'WG + REG_P on the primal block, -REG_D on the dual block; `w` is multiplier over slack. -/
def kktOf (p : Program) (regP regD : BitVec 64) (w : Vec) : Mat :=
  let n := p.lin.length
  let m := p.eqRows.length
  let wg := p.ineqRows.zipWith (fun r k => Vec.smul k r) w
  let gt := Mat.transpose n p.ineqRows
  let wgt := Mat.transpose n wg
  let at_ := Mat.transpose n p.eqRows
  let top := (List.range n).map (fun i =>
    (List.range n).map (fun j =>
      let e := F64.add (Mat.get p.cost i j) (Vec.dot (gt.getD i []) (wgt.getD j []))
      if i = j then F64.add e regP else e) ++ at_.getD i [])
  let bottom := (List.range m).map (fun i => p.eqRows.getD i [] ++ (List.range m).map (fun j => if i = j then F64.neg regD else F64.zero))
  top ++ bottom

/-- Elements of a matrix at rows and columns. -/
def Mat.pick (m : Mat) (rows cols : List Nat) : Mat := rows.map (fun i => cols.map (Mat.get m i))
def Vec.pick (v : Vec) (rows : List Nat) : Vec := rows.map (Vec.at v)

/-- A block is taken from the elements at rows and columns. -/
def Mat.subAt (m : Mat) (rows : List Nat) (b : Mat) : Mat :=
  (rows.zip b).foldl (fun m r => m.modify r.1 (fun row => (rows.zip r.2).foldl (fun row c => row.modify c.1 (fun e => F64.sub e c.2)) row)) m
def Vec.subAt (v : Vec) (rows : List Nat) (b : Vec) : Vec := (rows.zip b).foldl (fun v r => v.modify r.1 (fun e => F64.sub e r.2)) v

/-- The inverse of a stage's block times each column of a matrix, as rows of the transpose. -/
def blockSolve (block : Mat) (cols : Mat) : Mat := cols.map (Mat.solve block)

/-- One stage of the backward recursion: the stage's block is eliminated into the stage it leaves (R218). -/
def eliminateStage (q : Mat × Vec × List (Mat × Mat × List Nat × List Nat)) (stage parent : List Nat) :
    Mat × Vec × List (Mat × Mat × List Nat × List Nat) :=
  let block := q.1.pick stage stage
  let link := q.1.pick parent stage
  let gain := blockSolve block link
  let schur := link.map (fun r => gain.map (Vec.dot r))
  (q.1.subAt parent schur, q.2.1.subAt parent (gain.map (Vec.dot (q.2.1.pick stage))), (block, link, stage, parent) :: q.2.2)

/-- The pivots that a factorisation meets, those of dual rows with their sign changed: every one must be positive (Table 10.2). -/
def pivotsGood (n : Nat) (rows : List Nat) (block : Mat) : Bool :=
  (rows.zip (Mat.ldlt block).2).all (fun e => F64.lt F64.zero (if e.1 < n then e.2 else F64.neg e.2))

/-- The stages of the tree with the rows of the stage each leaves. -/
def stagePairs (p : Program) : List (List Nat × List Nat) :=
  p.stages.map (fun s => (s.1, match s.2 with | none => [] | some k => ((p.stages[k]?).map (·.1)).getD []))

/-- The solution of the KKT system and whether its pivots were positive: KIND 0 by the Riccati recursion over the stage tree, backward
from the leaves and out again, KIND 1 by dense LDLT without pivoting (R218). -/
def kktSolve (p : Program) (kind : Nat) (k : Mat) (rhs : Vec) : Vec × Bool :=
  let n := p.lin.length
  if kind = 0 then
    let (_, r, stages) := (stagePairs p).reverse.foldl (fun q s => eliminateStage q s.1 s.2) (k, rhs, [])
    let x := stages.foldl (fun (x : Vec) (e : Mat × Mat × List Nat × List Nat) =>
      let b := Vec.sub (r.pick e.2.2.1) ((List.range e.2.2.1.length).map (fun i => Vec.dot (e.2.1.map (fun l => Vec.at l i)) (x.pick e.2.2.2)))
      (e.2.2.1.zip (Mat.solve e.1 b)).foldl (fun x v => x.set v.1 v.2) x) (Vec.zeros rhs.length)
    (x, stages.all (fun e => pivotsGood n e.2.2.1 e.1))
  else (Mat.solve k rhs, pivotsGood n (List.range rhs.length) k)

/-! ### One iteration (R217) -/

/-- The largest step of at most 1 that keeps slacks and multipliers from falling below 0. -/
def stepLength (v dv : Vec) : BitVec 64 :=
  (v.zip dv).foldl (fun a e => if F64.lt e.2 F64.zero then F64.min a (F64.div e.1 (F64.neg e.2)) else a) F64.one

/-- The direction for the complementarity term `rc`: with s dz + z ds = rc. -/
def direction (p : Program) (kind : Nat) (k : Mat) (i : Iterate) (rc : Vec) : Iterate × Bool :=
  let n := p.lin.length
  let w := Vec.divV i.z i.s
  let ri := ineqRes p i
  let t := Vec.add (Vec.divV rc i.s) (Vec.mulV w ri)
  let top := Vec.negate (Vec.add (dualRes p i) (Mat.mulT n p.ineqRows t))
  let (sol, ok) := kktSolve p kind k (top ++ Vec.negate (eqRes p i))
  let dx := sol.take n
  let ds := Vec.negate (Vec.add ri (Mat.mulVec p.ineqRows dx))
  (⟨dx, sol.drop n, Vec.divV (Vec.sub rc (Vec.mulV i.z ds)) i.s, ds⟩, ok)

def Iterate.move (i d : Iterate) (a : BitVec 64) : Iterate :=
  let f (u v : Vec) : Vec := u.zipWith (fun p q => F64.fma a q p) v
  ⟨f i.x d.x, f i.y d.y, f i.z d.z, f i.s d.s⟩

/-- Equal bounds hold their variable at the bound (R255). -/
def holdFixed (p : Program) (x : Vec) : Vec :=
  x.zipIdx.map (fun e => match p.bounds.getD e.2 (none, none) with
    | (some lo, some hi) => if lo = hi then lo else e.1
    | _ => e.1)

/-- Steps 2 to 7 of R217: the affine step, the centring parameter, the corrector step with the same factor, 0.995 of the largest step. -/
def iterateOnce (p : Program) (kind : Nat) (regP regD : BitVec 64) (i : Iterate) : Iterate × Bool :=
  let m := F64.ofInt (max 1 i.s.length)
  let k := kktOf p regP regD (Vec.divV i.z i.s)
  let sz := Vec.mulV i.s i.z
  let (aff, ok) := direction p kind k i (Vec.negate sz)
  let a := F64.min (stepLength i.s aff.s) (stepLength i.z aff.z)
  let far := i.move aff a
  let mu := F64.div (Vec.dot i.s i.z) m
  let ratio := F64.div (F64.div (Vec.dot far.s far.z) m) mu
  let sigma := F64.mul ratio (F64.mul ratio ratio)
  let target := if i.s.isEmpty then F64.zero else F64.mul sigma mu
  let rc := (Vec.sub (Vec.negate sz) (Vec.mulV aff.s aff.z)).map (F64.add target)
  let (cor, ok2) := direction p kind k i rc
  let step := F64.min F64.one (F64.mul (F64.ofRatio 995 1000) (F64.min (stepLength i.s cor.s) (stepLength i.z cor.z)))
  let far := i.move cor (if i.s.isEmpty then F64.one else step)
  ({ far with x := holdFixed p far.x }, ok && ok2)

/-! ### The start (R219, R249) -/

/-- 10^-6. -/
def startFloor : BitVec 64 := F64.ofRatio 1 1000000

/-- Slacks, or multipliers, shifted until none is negative (Mehrotra's initial point). -/
def shifted (v : Vec) : Vec :=
  let low := v.foldl (fun m e => F64.max m (F64.neg e)) (F64.neg F64.inf)
  if F64.lt low F64.zero then v else v.map (F64.add (F64.add F64.one low))

/-- Mehrotra's initial point from the problem data: the least-squares solution with unit weights. -/
def coldStart (p : Program) (kind : Nat) (regP regD : BitVec 64) : Iterate :=
  let n := p.lin.length
  let k := kktOf p regP regD (p.ineqRhs.map (fun _ => F64.one))
  let (sol, _) := kktSolve p kind k (Vec.sub (Mat.mulT n p.ineqRows p.ineqRhs) p.lin ++ p.eqRhs)
  let x := sol.take n
  let s := Vec.sub p.ineqRhs (Mat.mulVec p.ineqRows x)
  ⟨x, sol.drop n, shifted (Vec.negate s), shifted s⟩

/-- A variable brought within its simple bounds. -/
def clipTo (b : Option (BitVec 64) × Option (BitVec 64)) (x : BitVec 64) : BitVec 64 :=
  let x := match b.1 with | none => x | some lo => F64.max lo x
  match b.2 with | none => x | some hi => F64.min hi x

/-- x0 (R249): clipped, with slacks and multipliers of at least 10^-6. -/
def startPoint (p : Program) (i : Iterate) : Iterate :=
  { i with
    x := i.x.zipIdx.map (fun e => clipTo (p.bounds.getD e.2 (none, none)) e.1)
    z := i.z.map (F64.max startFloor), s := i.s.map (F64.max startFloor) }

end Sys2Proof.Machine
end

