-- ==== Sys2Proof/Machine/Solver.lean ====
section
/-! DEFINITION. The solver (09_solver_hardware.md, 10_solver_deadline.md): slots and staging, the queue, dispatch and suspension,
the course of a job, deadlines, results in sequence, cancellation, cluster faults and isolation. What the law does with the
results of streams 0 to 2 is Law.lean. -/
namespace Sys2Proof.Machine

/-! ### Slots (R220 to R226) -/

def Dev.slot (d : Dev) (n : Nat) : SlotDev := Assoc.get {} d.slv.slots n
def Dev.putSlot (d : Dev) (n : Nat) (x : SlotDev) : Dev := { d with slv := { d.slv with slots := Assoc.set {} d.slv.slots n x } }

/-- SLOTn_INFO.PREP (Table 9.3). -/
def prep (d : Dev) (n : Nat) : Nat := d.f (SLV.SLOT_INFO n) 0 4

/-- The header of a schedule image (Table 9.1). -/
def scheduleOf (h : List Byte) : Schedule :=
  { hash := leAt h 0x08 8, kind := leAt h 0x10 1, width := leAt h 0x11 1, nVar := leAt h 0x14 4, nEq := leAt h 0x18 4
    nIneq := leAt h 0x1C 4, nParam := leAt h 0x20 4, scratch := leAt h 0x24 4, body := leAt h 0x28 4
    cycSetup := leAt h 0x2C 4, cycIter := leAt h 0x30 4, cycFact := leAt h 0x34 4, cycWb := leAt h 0x38 4
    cycYield := leAt h 0x3C 4, regP := F64.at h 0x40, regD := F64.at h 0x48, image := h }

/-- Every field lies in its range of Table 9.1, and the cycle rules of R224 hold. -/
def scheduleOk (h : List Byte) : Bool :=
  let x := scheduleOf h
  let stages := leAt h 0x12 2
  decide (x.kind ≤ 1) && decide (1 ≤ x.width ∧ x.width ≤ 4)
    && (if x.kind = 0 then decide (1 ≤ stages ∧ stages ≤ 320) && decide (1 ≤ x.nVar ∧ x.nVar ≤ 16384)
        else decide (stages = 0) && decide (1 ≤ x.nVar ∧ x.nVar ≤ 256))
    && decide (x.nEq ≤ 16384) && decide (x.nIneq ≤ 32768) && decide (x.nParam ≤ 65536)
    && decide (1 ≤ x.scratch ∧ x.scratch ≤ 2097152) && decide (x.body % 64 = 0) && ((h.drop 0x54).take 40).all (· == 0)
    && decide (x.cycSetup ≠ 0) && decide (x.cycIter ≠ 0) && decide (x.cycFact ≠ 0) && decide (x.cycWb ≠ 0)
    && decide (x.cycYield ≠ 0) && decide (x.cycFact ≤ x.cycIter)

/-- A poison mark stands in the words that hold `n` bytes from an address. -/
def Store.poisoned (st : Store) (a n : Nat) : Bool := st.poison.any (fun w => decide (a < w + 32) && decide (w < a + n))

/-- A word that holds one of `n` bytes from an address is read with a poison mark: stored poison, or an uncorrectable error (R463). -/
def Store.readsPoison (st : Store) (a n : Nat) : Bool :=
  st.poisoned a n || st.errs.any (fun p => decide (4 < p.2.length) && decide (a < p.1 + 32) && decide (p.1 < a + n))

/-- The result of staging the image at an address (Table 9.3), with its schedule. `others` are the bytes staged already. -/
def stagingResult (st : Store) (a others : Nat) : Nat × Option Schedule :=
  let h := st.bytes a 128
  let x := scheduleOf h
  if st.readsPoison a (128 + x.body) then (7, none)
  else if (regionOf a).isNone || leAt h 0 4 != 0x4E465954 || leAt h 4 2 != 3 then (3, none)
  else if crc32c (h.take 0x7C) != leAt h 0x7C 4 || crc32c (st.bytes (a + 128) x.body) != leAt h 0x50 4 then (4, none)
  else if !scheduleOk h then (5, none)
  else if 2097152 < others + x.body then (6, none)
  else (2, some { x with image := st.bytes a (128 + x.body) })

/-- SLOT_STAGE (R224, R502): the write goes to the shadow and starts staging anew; a write that R502 ignores starts nothing. -/
def execSlotStage (slot : Fin 8) (value : Word) (s : State) : Out :=
  let n := slot.val
  let key := SLV.SLOT_ADDR_LO n
  let t := s.writeShadow key (keyMask key) value
  if s.cfg.closed (keyPage key) then .next { t with bus := .done 0 }
  else .next { t with
    dev := (t.dev.putSlot n { t.dev.slot n with staged := none }).putF (SLV.SLOT_INFO n) 0 4 1
    bus := .done 0 }

/-- STAGING_DONE (R224): the copy and check end, for the address the shadow names. -/
def execStagingDone (slot : Fin 8) (s : State) : Out :=
  onMem s fun c st d =>
    let n := slot.val
    if prep d n != 1 then (st, d)
    else
      let a := (c.sh (SLV.SLOT_ADDR_LO n)).toNat + (c.sh (SLV.SLOT_ADDR_HI n)).toNat * 2 ^ 32
      let others := ((List.range 8).filter (· != n)).foldl (fun sum k => sum + match (d.slot k).staged with
        | none => 0
        | some x => x.body) 0
      let (res, x) := stagingResult st a others
      (st, (d.putSlot n { d.slot n with staged := x }).putF (SLV.SLOT_INFO n) 0 4 res)

/-- A slot shows its live schedule (Table 9.7). -/
def Dev.showSlot (d : Dev) (n : Nat) : Dev :=
  match (d.slot n).live with
  | none => ((((d.putF (SLV.SLOT_INFO n) 4 4 0).putN (SLV.SLOT_HASH_LO n) 0).putN (SLV.SLOT_HASH_HI n) 0).putN (SLV.SLOT_CYC_ITER n) 0)
  | some x => ((((d.putF (SLV.SLOT_INFO n) 4 4 (x.width % 8 + x.kind * 8)).putN (SLV.SLOT_HASH_LO n) x.hash).putN
      (SLV.SLOT_HASH_HI n) (x.hash / 2 ^ 32)).putN (SLV.SLOT_CYC_ITER n) x.cycIter)

/-- A commit of the slot page (R225, R226): a slot whose address changed, or that held nothing, takes its verified schedule; EN 0
empties a slot; nothing is staged any more. `addr` is the image address before the commit. -/
def Dev.slotsCommitted (d : Dev) (c : Cfg) : Dev :=
  (List.range 8).foldl (fun d n =>
    let x := d.slot n
    let a := (c.w (SLV.SLOT_ADDR_LO n)).toNat + (c.w (SLV.SLOT_ADDR_HI n)).toNat * 2 ^ 32
    let live := if !c.b (SLV.SLOT_CFG n) 0 then none
      else if (a != x.liveAddr || x.live.isNone) && prep d n = 2 then x.staged
      else x.live
    ((d.putSlot n { staged := none, live := live, liveAddr := a }).putF (SLV.SLOT_INFO n) 0 4 0).showSlot n) d

/-! ### Clusters and jobs (R227 to R234) -/

/-- CLc_STAT.STATE: 0 in dispatch, 1 isolation requested, 2 isolated, 3 faulted. -/
def clState (d : Dev) (c : Nat) : Nat := d.f (SLV.CL_STAT c) 0 2

def inDispatch (d : Dev) : Nat := ((List.range 4).filter (fun c => clState d c = 0)).length

/-- The job waits in the queue: not dispatched, or with clusters reserved. -/
def Job.waits (j : Job) : Bool := j.phase = .queued || j.phase = .reserved

/-- The job occupies its clusters at its level. A faulted job has released them (R238). -/
def Job.present (j : Job) : Bool := !(j.phase = .queued || j.phase = .held || (j.phase = .writeBack && j.code = 6))

/-- The job runs: setup, iterations or write-back. -/
def Job.runs (j : Job) : Bool := j.phase = .setup || j.phase = .iterating || (j.phase = .writeBack && j.code != 6)

def Job.on (j : Job) (c : Nat) : Bool := j.present && j.clusters.contains c

/-- `a` comes before `b` in a job stream (R30). -/
def seqBefore (a b : Nat) : Bool := decide (seqDiff 32 a b < 0)

/-- The queue, slots, streams and clusters show their jobs (Tables 9.7 and 9.10). -/
def Dev.showSolver (d : Dev) : Dev :=
  let js := d.slv.jobs
  let cnt (p : Job → Bool) : Nat := (js.filter p).length
  let used := cnt (fun j => j.phase != .held)
  let d := d.putN SLV.QSTAT (used + cnt (fun j => j.phase != .held && 3 ≤ j.stream) * 2 ^ 8
    + cnt (fun j => j.phase != .held && j.stream = 2) * 2 ^ 16 + max used (d.f SLV.QSTAT 24 6) * 2 ^ 24)
  let d := (List.range 8).foldl (fun d n => d.putF (SLV.SLOT_INFO n) 8 16
    (cnt (fun j => j.slot = n && j.waits) + cnt (fun j => j.slot = n && (j.runs || j.phase = .suspended)) * 2 ^ 8)) d
  let d := (List.range 7).foldl (fun d s => d.putN (SLV.STRM_STAT s)
    (cnt (fun j => j.stream = s && j.phase = .held) + cnt (fun j => j.stream = s && j.waits) * 2 ^ 8
      + cnt (fun j => j.stream = s && (j.runs || j.phase = .suspended)) * 2 ^ 16)) d
  (List.range 4).foldl (fun d c =>
    let here := js.filter (fun j => j.on c)
    let levels := ((List.range 4).filter (fun l => here.any (fun j => j.level = l))).foldl (fun n l => n + 2 ^ (4 + l)) 0
    let run := match here.find? (·.runs) with | none => 0 | some j => j.slot * 2 ^ 8 + 2 ^ 11
    let kib := here.foldl (fun n j => n + match (d.slot j.slot).live with | none => 0 | some x => (x.scratch + 1023) / 1024) 0
    d.putN (SLV.CL_STAT c) (clState d c + levels + run + kib * 2 ^ 16)) d

def Dev.setJobs (d : Dev) (js : List Job) : Dev := { d with slv := { d.slv with jobs := js } }
def Dev.findJob (d : Dev) (s q : Nat) : Option Job := d.slv.jobs.find? (fun j => j.stream = s && j.seq = q)
def Dev.dropJob (d : Dev) (s q : Nat) : Dev := d.setJobs (d.slv.jobs.filter (fun j => !(j.stream = s && j.seq = q)))

/-- A job is replaced by its next condition. -/
def Dev.putJob (d : Dev) (x : Job) : Dev :=
  d.setJobs (d.slv.jobs.map (fun j => if j.stream = x.stream && j.seq = x.seq then x else j))

/-- Queued jobs in the order of R232: by level, then by acceptance. -/
def dispatchOrder (js : List Job) (p : Job → Bool) : List Job :=
  (List.range 4).flatMap (fun l => js.filter (fun j => j.level = l && p j))

/-- Reservation for one queued job (R232): the clusters it may take, idle ones first; lower-precedence jobs there are asked to
yield. -/
def Dev.reserveOne (d : Dev) (j : Job) : Dev :=
  let js := d.slv.jobs
  let e := (List.range 4).filter (fun c => clState d c = 0
    && !js.any (fun k => k.on c && (k.phase = .reserved || k.level = j.level || (k.runs && k.level < j.level))))
  let busy := fun c => js.any (fun k => k.on c && k.runs)
  let pick := (e.filter (fun c => !busy c) ++ e.filter busy).take j.width
  if e.length < j.width then d
  else
    let yields := fun (k : Job) => k.runs && decide (j.level < k.level) && pick.any (fun c => k.clusters.contains c)
    d.setJobs (js.map (fun k =>
      if k.stream = j.stream && k.seq = j.seq then { k with phase := .reserved, clusters := pick }
      else if yields k then { k with yield := true } else k))

/-- Dispatch reserves for every queued job that finds clusters (R232). -/
def Dev.reserve (d : Dev) : Dev :=
  ((dispatchOrder d.slv.jobs (fun j => j.phase = .queued)).foldl (fun d j => d.reserveOne j) d).showSolver

/-- A Standby, or a joiner on the active's mirror, runs the law's jobs to the journaled count (R260, R330). -/
def standbyRun (d : Dev) : Bool := d.mode = 4 || (d.mode = 5 && d.b SYS.MODE 12)

/-- The iteration count and code the active journaled for a job (R260). -/
def journaledEnd (d : Dev) (j : Job) : Option (Nat × Nat) :=
  if standbyRun d && j.stream ≤ 2 then
    match d.slv.journal.find? (fun r => r.1 = j.stream && r.2.1 = j.seq) with
    | none => none
    | some r => some (r.2.2.1, r.2.2.2.1)
  else none

/-- The beat of the journal block that carried a job's count (R260). -/
def journaledBeat (d : Dev) (j : Job) : Nat :=
  match d.slv.journal.find? (fun r => r.1 = j.stream && r.2.1 = j.seq) with
  | none => 0
  | some r => r.2.2.2.2

/-- A job ends with a code and starts its write-back (R250): the best iterate is returned, or x0 when there is none. -/
def Dev.finishJob (d : Dev) (j : Job) (code : Nat) : Dev :=
  let code := if j.best.isNone && code = 3 then 4 else code
  let bnl := code ≤ 5 && match j.best with | none => false | some b => b.1 != j.k
  let d := d.putJob { j with phase := .writeBack, code := code, yield := false }
  let d := if code = 3 then (d.bump SLV.DEADLINE_CNT).event 0x120A [j.stream, j.seq, j.k]
    else if code = 4 && j.maxIter != 0 then (d.bump SLV.NOITER_CNT).event 0x1209 [j.stream, j.seq]
    else d
  let d := if j.flags % 4 != 0 then d.bump SLV.FP_CNT else d
  (d.putN SLV.LAST_END (code + j.stream * 2 ^ 4 + bnl.toNat * 2 ^ 7 + satU 8 j.k * 2 ^ 8 + j.seq % 2 ^ 16 * 2 ^ 16)).showSolver

/-! ### Submission (R227 to R230, Table 9.5) -/

/-- Room in the queue for a job of a stream (R230, R19). -/
def queueRoom (c : Cfg) (d : Dev) (s : Nat) : Bool :=
  let js := d.slv.jobs.filter (fun j => j.phase != .held)
  let by_ (t : Nat) : Nat := (js.filter (fun j => j.stream = t)).length
  let kept := (if s = 0 then 0 else 2 - by_ 0) + (if s = 1 then 0 else 2 - by_ 1)
  (s != 2 || decide (by_ 2 < 16)) && (s < 3 || decide ((js.filter (fun j => 3 ≤ j.stream)).length < c.f SLV.CFG 8 4))
    && decide (js.length + kept < 32)

/-- The solver accepts no job: EN 0, mode 0 to 2, or Lock-out (Table 2.9). -/
def solverOff (c : Cfg) (d : Dev) : Bool := !c.b SLV.CFG 0 || decide (d.mode ≤ 2) || d.mode = 11

/-- The code the solver gives the law's own jobs of a slot (R226, R230, R239): 0 accepted. -/
def lawSubmitCode (c : Cfg) (d : Dev) (s slot : Nat) : Nat :=
  if !queueRoom c d s then 1
  else match (d.slot slot).live with
    | none => 2
    | some x =>
      if !c.b (SLV.SLOT_CFG slot) 0 || c.f (SLV.SLOT_CFG slot) 1 2 != s then 2
      else if inDispatch d < x.width then 5
      else if solverOff c d then 6
      else 0

/-- A job enters the queue with the stream's next number (R229), and dispatch runs. -/
def Dev.acceptJob (d : Dev) (j : Job) : Dev :=
  let q := (d.w (SLV.STRM_NEXT j.stream)).toNat
  let d := d.putN (SLV.STRM_NEXT j.stream) (if q = 2 ^ 32 - 1 then 1 else q + 1)
  (d.setJobs (d.slv.jobs ++ [{ j with seq := q }])).reserve

/-- A job of a slot with nothing run yet. -/
def newJob (stream slot level width : Nat) : Job :=
  { stream := stream, seq := 0, slot := slot, level := level, width := width, warm := false, irq := false, maxIter := 0
    dlTick := none, dlBeat := none, tolPrimal := 0, tolDual := 0, tolGap := 0, paramAddr := 0, warmAddr := 0, resultAddr := 0
    phase := .queued, clusters := [], yield := false, deadlineHit := false, k := 0, x0 := none, best := none, code := 0
    warmUsed := false, warmRejected := false, flags := 0, cycles := 0, suspensions := 0, setupTick := 0, heldSince := 0
    tag := 0, t0 := 0, dataPoison := false, params := [], cur := ⟨[], [], [], []⟩ }

/-- An address range that the solver may use for a job's data: general SRAM or LPDDR4X, aligned. -/
def dataAt (a n align : Nat) : Bool :=
  a % align = 0 && (decide (0x20000000 ≤ a ∧ a + n ≤ 0x20200000) || decide (0x80000000 ≤ a ∧ a + n ≤ 0x14CCCCCC0))

/-- Bytes of a result record or warm-start record (Table 9.6). -/
def resultBytes (x : Schedule) : Nat := 128 + 8 * (x.nVar + x.nEq + 2 * x.nIneq)

/-- The submission code of a descriptor (Table 9.5), tested in the table's order (log 21), but that nothing is read from a poisoned
descriptor (R256). -/
def submitCode (c : Cfg) (st : Store) (d : Dev) (a : Nat) (b : List Byte) : Nat :=
  let slot := leAt b 0 1
  let stream := leAt b 1 1
  let live := if slot < 8 && c.b (SLV.SLOT_CFG slot) 0 then (d.slot slot).live else none
  let fw := (d.slv.jobs.filter (fun j => j.phase != .held && 3 ≤ j.stream)).length
  if c.f SLV.CFG 8 4 ≤ fw || !queueRoom c d 3 then 1
  else if st.readsPoison a 128 then 7
  else match live with
    | none => 2
    | some x =>
      let warm := (leAt b 2 1) % 2 = 1
      if c.f (SLV.SLOT_CFG slot) 1 2 != 3 then 2
      else if stream < 3 || 6 < stream then 3
      else if 64 < leAt b 3 1 || !((b.drop 9).take 7).all (· == 0) || !((b.drop 0x48).take 56).all (· == 0)
          || !dataAt a 128 64 || decide (0x20200000 ≤ a)
          || !(x.nParam = 0 || dataAt (leAt b 0x10 8) (8 * x.nParam) 8)
          || (warm && !dataAt (leAt b 0x18 8) (resultBytes x) 8)
          || !dataAt (leAt b 0x20 8) (resultBytes x) 64 then 4
      else if inDispatch d < x.width then 5
      else if solverOff c d then 6
      else 0

/-- SUBMIT (R228): SUB_CODE, and SEQ on acceptance, are written into the descriptor before the write completes. -/
def execSubmit (value : Word) (s : State) : Out :=
  onMemWrite s fun c st d =>
    let a := value.toNat / 64 * 64
    let b := st.bytes a 128
    let code := submitCode c st d a b
    let stream := leAt b 1 1
    let d := d.putN SLV.SUBMIT_RES (code + stream % 16 * 16)
    let inSram := decide (0x20000000 ≤ a ∧ a < 0x20200000)
    if code != 0 then
      let d := (d.bump SLV.REFUSE_CNT).event 0x1201 [code]
      if inSram then writeRun 3 st d 0 (a + 8) (leBytes 1 code) false else (st, d)
    else
      let slot := leAt b 0 1
      let beats := (leAt b 2 1) / 2 % 2 = 1
      let dl := leAt b 0x28 8
      let width := match (d.slot slot).live with | none => 1 | some x => x.width
      let j := { newJob stream slot 3 width with
        warm := (leAt b 2 1) % 2 = 1, irq := (leAt b 2 1) / 4 % 2 = 1, maxIter := leAt b 3 1
        dlTick := if dl = 0 || beats then none else some dl
        dlBeat := if dl = 0 || !beats then none else some (d.esc.beat + dl)
        tolPrimal := F64.at b 0x30, tolDual := F64.at b 0x38, tolGap := F64.at b 0x40
        paramAddr := leAt b 0x10 8, warmAddr := leAt b 0x18 8, resultAddr := leAt b 0x20 8 }
      let q := (d.w (SLV.STRM_NEXT stream)).toNat
      let d := d.acceptJob j
      writeRun 3 st d 0 (a + 4) (leBytes 4 q ++ leBytes 1 0) false

/-! ### The course of a job (R232, R233, R247 to R250) -/

/-- JOB_SETUP_START (R232): reserved jobs start their setup once every running job on their clusters has suspended. -/
def execJobSetupStart (s : State) : Out :=
  onDev s fun _ d =>
    let d := d.reserve
    let js := d.slv.jobs
    let free := fun (j : Job) => !js.any (fun k => !(k.stream = j.stream && k.seq = j.seq) && k.runs
      && j.clusters.any (fun c => k.clusters.contains c))
    (d.setJobs (js.map (fun j => if j.phase = .reserved && free j then { j with phase := .setup, setupTick := d.tick } else j))).showSolver

/-- What follows a setup, a boundary or a resumption: the journaled count reached, the deadline, or more iterations. -/
def Dev.goOn (d : Dev) (j : Job) : Dev :=
  match journaledEnd d j with
  | some (n, code) => if n ≤ j.k || j.deadlineHit then d.finishJob j code else (d.putJob { j with phase := .iterating }).showSolver
  | none =>
    let past := match j.dlTick with | none => false | some t => decide (t ≤ d.tick)
    if j.deadlineHit || (past && !(standbyRun d && decide (j.stream ≤ 2))) then d.finishJob j 3
    else (d.putJob { j with phase := .iterating }).showSolver

/-- JOB_RESUME (R232): suspended jobs resume where no job of a lower level runs or holds a reservation. -/
def execJobResume (s : State) : Out :=
  onDev s fun _ d =>
    ((dispatchOrder d.slv.jobs (fun j => j.phase = .suspended)).foldl (fun d j =>
      if d.slv.jobs.any (fun k => decide (k.level < j.level) && (k.runs || k.phase = .reserved)
          && j.clusters.any (fun c => k.clusters.contains c)) then d
      else d.goOn j) d).reserve

/-- JOB_SUSPEND (R233): at its iteration boundary a job asked to yield leaves its clusters to the lower level. -/
def execJobSuspend (stream : Fin 7) (seq : Word) (s : State) : Out :=
  onDev s fun _ d =>
    match d.findJob stream.val seq.toNat with
    | none => d
    | some j =>
      if j.phase = .iterating && j.yield then
        (d.putJob { j with phase := .suspended, yield := false, suspensions := satU 8 (j.suspensions + 1) }).reserve
      else d

/-- `n` binary64 numbers from an address. -/
def Store.numbers (st : Store) (a n : Nat) : List (BitVec 64) :=
  let b := st.bytes a (8 * n)
  (List.range n).map (fun i => F64.at b (8 * i))

/-- The numbers in the iterate region of a record. -/
def iterateLen (x : Schedule) : Nat := x.nVar + x.nEq + 2 * x.nIneq

/-- The first failed check of a warm-start record (Table 10.3): 0 none. -/
def warmRefusal (st : Store) (x : Schedule) (a : Nat) : Nat :=
  let h := st.bytes a 128
  if leAt h 8 8 != x.hash then 1
  else if leAt h 4 1 % 16 = 0 || 5 < leAt h 4 1 % 16 then 2
  else if !(st.numbers (a + 128) (iterateLen x)).all F64.finite then 3
  else if st.readsPoison a (resultBytes x) then 4
  else 0

/-- Residuals, gap and objective of an iterate. -/
def pointOf (p : Config.Program) (i : Iterate) : PointVals :=
  let m := measureOf p i
  ⟨Vec.at m 0, Vec.at m 1, Vec.at m 2, Vec.at m 3⟩

/-- SETUP_COMPLETE (R249, R253, R256): the parameters are read, the warm start is judged, x0 formed; MAX_ITER 0 ends at once. The law forms the
parameters of its own jobs. -/
def execSetupComplete (stream : Fin 7) (seq : Word) (cycles : Nat) (s : State) : Out :=
  onMem s fun _ st d =>
    match d.findJob stream.val seq.toNat with
    | none => (st, d)
    | some j =>
      if j.phase != .setup then (st, d)
      else match (d.slot j.slot).live with
        | none => (st, d)
        | some x =>
          let r := if j.warm then warmRefusal st x j.warmAddr else 0
          let d := if r = 0 then d else (d.bump SLV.WARM_REJ_CNT).event 0x1208 [j.stream, j.seq, r]
          let own := decide (3 ≤ j.stream)
          let bad := own && x.nParam != 0 && st.readsPoison j.paramAddr (8 * x.nParam)
          let params := if own then st.numbers j.paramAddr x.nParam else j.params
          let p := Config.program x.image params
          let start := startPoint p (if j.warm && r = 0 then .ofFlat x.nVar x.nEq x.nIneq (st.numbers (j.warmAddr + 128) (iterateLen x))
            else coldStart p x.kind x.regP x.regD)
          let j := { j with
            warmUsed := j.warm && r = 0, warmRejected := decide (r ≠ 0), cycles := satU 32 (j.cycles + cycles)
            params := params, cur := start, x0 := some (pointOf p start, start) }
          (st,
            if bad || j.dataPoison then
              (if j.dataPoison then d else d.event 0x120C [j.stream, j.seq, 0]).finishJob j 7
            else if j.maxIter = 0 then d.finishJob j 4
            else d.goOn j)

/-- A tolerance as the merit uses it (R247): one that is not positive and finite is a scale of 1. -/
def meritScale (t : BitVec 64) : BitVec 64 := if F64.positive t then t else 0x3FF0000000000000

/-- The merit of an iterate (R247). -/
def merit (j : Job) (p : PointVals) : BitVec 64 :=
  F64.max (F64.max (F64.div p.primal (meritScale j.tolPrimal)) (F64.div p.dual (meritScale j.tolDual)))
    (F64.div p.gap (meritScale j.tolGap))

/-- A tolerance is met; one of 0 never is (R247). -/
def tolMet (r t : BitVec 64) : Bool := F64.positive t && F64.le r t

/-- The first quantity that is not finite: 1 primal, 2 dual, 3 gap, 4 objective, 0 none (R258). -/
def nonFinite (p : PointVals) : Nat :=
  if !F64.finite p.primal then 1 else if !F64.finite p.dual then 2 else if !F64.finite p.gap then 3
  else if !F64.finite p.objective then 4 else 0

/-- A completed iteration (R248, R250): the new iterate is judged in the order of R250. -/
def Dev.judgeIterate (d : Dev) (j : Job) (p : PointVals) (i : Iterate) : Dev :=
  let j := { j with k := j.k + 1, cur := i }
  if nonFinite p != 0 then (d.event 0x120B [j.k, nonFinite p]).finishJob j 5
  else
    let m := merit j p
    let better := match j.best with | none => true | some b => F64.lt m b.2.2.1
    let j := if better then { j with best := some (j.k, p, m, i) } else j
    if (journaledEnd d j).isNone && tolMet p.primal j.tolPrimal && tolMet p.dual j.tolDual && tolMet p.gap j.tolGap then d.finishJob j 1
    else if (journaledEnd d j).isNone && j.k = j.maxIter then d.finishJob j 2
    else d.goOn j

/-- The deadline tick of a job has come (R242); a law's job of a Standby has no deadline test of its own (R260). -/
def pastDeadline (d : Dev) (j : Job) : Bool :=
  match j.dlTick with
  | none => false
  | some t => decide (t ≤ d.tick) && !(standbyRun d && decide (j.stream ≤ 2))

/-- ITERATION_BOUNDARY (R217, R223, R248, R250): one iteration of R217 is complete; a boundary at or after the deadline tick is none. -/
def execIterationBoundary (stream : Fin 7) (seq : Word) (cycles : Nat) (s : State) : Out :=
  onDev s fun _ d =>
    match d.findJob stream.val seq.toNat with
    | none => d
    | some j =>
      if j.phase != .iterating then d
      else if pastDeadline d j then d.finishJob j 3
      else match (d.slot j.slot).live with
        | none => d
        | some x =>
          let d := d.putN (SLV.SLOT_CYC_LAST j.slot) cycles
          let d := if x.cycIter < cycles then (d.bump SLV.OVERRUN_CNT).event 0x1207 [j.slot, cycles] else d
          let p := Config.program x.image j.params
          let (i, ok) := iterateOnce p x.kind x.regP x.regD j.cur
          let j := { j with
            flags := j.flags ||| (Config.raisedFlags x.image j.params j.cur.flat).toNat, cycles := satU 32 (j.cycles + cycles) }
          if !ok then (d.event 0x120B [j.k + 1, 5]).finishJob j 5 else d.judgeIterate j (pointOf p i) i

/-- JOB_DEADLINE (R242, R244, R245): the deadline of a job arrives. -/
def execJobDeadline (stream : Fin 7) (seq : Word) (s : State) : Out :=
  onDev s fun _ d =>
    match d.findJob stream.val seq.toNat with
    | none => d
    | some j =>
      let due := match j.dlTick, j.dlBeat with
        | some _, _ => true
        | none, some b => decide (b ≤ d.esc.beat)
        | none, none => false
      if !due || (standbyRun d && decide (j.stream ≤ 2)) then d
      else
        let d := match j.dlTick with | none => d | some t => d.advanceTo t
        if j.phase = .iterating then d.finishJob j 3
        else if j.phase = .writeBack || j.phase = .held then d
        else d.putJob { j with deadlineHit := true }

/-- STANDBY_JOB_TIMEOUT (R260): a standby job ends with its best iterate 10 beats after the journal block that carried its count. -/
def execStandbyJobTimeout (stream : Fin 7) (seq : Word) (s : State) : Out :=
  onDev s fun _ d =>
    match d.findJob stream.val seq.toNat with
    | none => d
    | some j =>
      match journaledEnd d j with
      | none => d
      | some (_, code) =>
        if d.esc.beat < journaledBeat d j + 10 then d
        else if j.phase = .iterating then d.finishJob j code
        else if j.phase = .writeBack || j.phase = .held then d
        else d.putJob { j with deadlineHit := true }

/-- JOB_POISON (R256): parameters or schedule end the job at the end of setup, scratch at once. -/
def execJobPoison (stream : Fin 7) (seq : Word) (site : PoisonSite) (s : State) : Out :=
  onDev s fun _ d =>
    match d.findJob stream.val seq.toNat with
    | none => d
    | some j =>
      match site with
      | .scratch =>
        if j.phase = .iterating || (j.phase = .writeBack && j.code != 6 && j.code != 7) then
          (d.event 0x120C [j.stream, j.seq, 2]).finishJob j 7
        else d
      | .parameters | .schedule =>
        if j.phase = .setup && !j.dataPoison then
          (d.event 0x120C [j.stream, j.seq, if site = .parameters then 0 else 1]).putJob { j with dataPoison := true }
        else d

/-! ### Results (R32, R33, R235, R236, R251, R252) -/

/-- The point a job returns (R250): its best iterate, else x0. -/
def Job.result (j : Job) : PointVals × Iterate :=
  match j.best with
  | some b => (b.2.1, b.2.2.2)
  | none => j.x0.getD (⟨F64.inf, F64.inf, F64.inf, F64.nan⟩, j.cur)

/-- The result record of a job (Table 9.6) with PUB_SEQ 0; POISON and FAULT have no point (R252). -/
def recordOf (d : Dev) (j : Job) (x : Schedule) : List Byte :=
  let none_ := decide (6 ≤ j.code)
  let p : PointVals := if none_ then ⟨F64.inf, F64.inf, F64.inf, F64.nan⟩ else j.result.1
  let bnl := !none_ && match j.best with | none => false | some b => b.1 != j.k
  let status := j.code + j.warmUsed.toNat * 16 + j.warmRejected.toNat * 32 + bnl.toNat * 64
  let clusters := j.clusters.foldl (fun n c => n + 2 ^ c) 0
  leBytes 4 j.seq ++ leBytes 1 status ++ leBytes 1 (j.flags % 16) ++ leBytes 1 j.slot ++ leBytes 1 (satU 8 j.k) ++ leBytes 8 x.hash
    ++ F64.bytes p.primal ++ F64.bytes p.dual ++ F64.bytes p.gap ++ F64.bytes p.objective ++ leBytes 8 j.setupTick ++ leBytes 8 d.tick
    ++ leBytes 4 j.cycles ++ leBytes 1 j.suspensions ++ leBytes 1 clusters ++ leBytes 2 0 ++ leBytes 4 0 ++ List.replicate 52 0
    ++ (if none_ then [] else (j.result.2.flat.take (iterateLen x)).flatMap F64.bytes)

/-- The primal residual a job returns. -/
def Job.primal (j : Job) : BitVec 64 := if 6 ≤ j.code then F64.inf else j.result.1.primal

/-- The hold limit of a stream, beats (Table 9.2, R32). -/
def holdLimit (c : Cfg) (s : Nat) : Nat :=
  let cal := c.f SYS.CALIBRE 0 2
  if s = 0 then (if cal = 1 then 5 else 10)
  else if s = 1 then (if cal = 1 then 50 else if cal = 2 then 200 else 100)
  else if s = 2 then (if cal = 1 then 2000 else if cal = 2 then 500 else 1000)
  else 10

/-- A result is published (R235, R236): PUB_SEQ, STRMs_PUB, the interrupts; the active journals a law job's end (R321). -/
def publishJob (c : Cfg) (st : Store) (d : Dev) (j : Job) : Store × Dev :=
  let d := (d.dropJob j.stream j.seq).putN (SLV.STRM_PUB j.stream) j.seq
  let d := d.irq 0x40032000 j.stream
  let d := if j.irq then d.irq 0x40032000 (j.stream + 8) else d
  let d := if j.stream ≤ 2 then d.journal c (.jobEnd (Fin.ofNat 7 j.stream) (wd j.seq) j.k j.code d.esc.beat) else d
  writeRun 3 st d (if j.resultAddr < 0x80000000 then 0 else 1) (j.resultAddr + 0x48) (leBytes 4 j.seq) false

/-- A lower-numbered job of the stream is still under way (R32). -/
def lowerPending (d : Dev) (s q : Nat) : Bool :=
  d.slv.jobs.any (fun k => k.stream = s && k.phase != .held && seqBefore k.seq q)

/-- The held results of a stream, lowest number first. -/
def insertHeld (x : Job) (l : List Job) : List Job :=
  match l with
  | [] => [x]
  | y :: t => if seqBefore y.seq x.seq then y :: insertHeld x t else x :: y :: t
def heldJobs (d : Dev) (s : Nat) : List Job :=
  (d.slv.jobs.filter (fun j => j.stream = s && j.phase = .held)).foldl (fun l j => insertHeld j l) []

/-- A result is no longer awaited: counted as overtaken (R33). -/
def Dev.overtaken (d : Dev) (s q : Nat) : Dev :=
  ((d.dropJob s q).bump (SLV.STRM_OVERTAKEN s)).event 0x1203 [s, q]

/-! ### Cancellation, faults, isolation (R237 to R240) -/

/-- A job leaves without a result (R47, R237, R239). -/
def Dev.cancelJob (d : Dev) (j : Job) : Dev :=
  ((d.dropJob j.stream j.seq).bump (SLV.STRM_OVERTAKEN j.stream)).event 0x1202 [j.stream, j.seq]

/-- Every job of a stream is cancelled, held results among them (R47). -/
def Dev.cancelStream (d : Dev) (s : Nat) : Dev :=
  ((d.slv.jobs.filter (fun j => j.stream = s)).foldl (fun d j => d.cancelJob j) d).reserve

/-- Reserved jobs on a cluster go back to the queue. -/
def Dev.unreserve (d : Dev) (c : Nat) : Dev :=
  d.setJobs (d.slv.jobs.map (fun j =>
    if j.phase = .reserved && j.clusters.contains c then { j with phase := .queued, clusters := [] } else j))

/-- Queued jobs wider than the clusters in dispatch end as though cancelled (R239). -/
def Dev.prune (d : Dev) : Dev :=
  let n := inDispatch d
  (d.slv.jobs.filter (fun j => j.phase = .queued && decide (n < j.width))).foldl (fun d j => d.cancelJob j) d

/-- A cluster passes its in-service test or a reset (R238, R240): it is back in dispatch. -/
def Dev.clusterRestored (d : Dev) (n : Nat) : Dev :=
  ((d.putF (SLV.CL_STAT n) 0 2 0).event 0x1206 [n]).reserve

end Sys2Proof.Machine
end

