-- ==== Sys2Proof/Machine/Horizon.lean ====
section
/-! DEFINITION. What the positioning law forms for its programs (11_positioning_law.md R261 to R276): the reference of the mode, the 11
states, the linear model of each stage, actuators with their bounds and cuts, costs, and the parameter words of its jobs. Which words a
schedule reads where is Typefin's; the order here and the places of the variables in an iterate are those of log 95. -/
namespace Sys2Proof.Machine

/-! ### Parameters -/

/-- The fixed record addresses of the law (Table 22.14). -/
def paramBase : Nat := 0x201C0000
def planBase : Nat := 0x201C1000
def cqBase : Nat := 0x201C5000

/-- A binary64 of the law parameter record (Table 11.5). -/
def lawParam (st : Store) (off : Nat) : BitVec 64 := F64.at (st.bytes (paramBase + off) 8) 0
/-- A binary64 of the estimate record (Table 8.6). -/
def estNum (st : Store) (off : Nat) : BitVec 64 := F64.at (st.bytes (estBase + off) 8) 0
/-- The tick of the estimate, whether it is VALID, and whether the estimator is in SPLIT or COAST. -/
def estTick (st : Store) : Nat := leNat (st.bytes (estBase + 8) 8)
def estValid (st : Store) : Bool := (st.byte (estBase + 0x14)).getLsbD 0
def estCoasts (st : Store) : Bool := st.byte (estBase + 0x15) != 0

/-- The calibre (R20) and its figures (Table 1.2, Table 11.2): control frame, allocation tick and consequence period in beats, branches, nominal
stages, stages of a branch. -/
def calibre (c : Cfg) : Nat := c.f SYS.CALIBRE 0 2
def frameBeats (c : Cfg) : Nat := if calibre c = 1 then 50 else if calibre c = 2 then 200 else 100
def tickBeats (c : Cfg) : Nat := if calibre c = 1 then 5 else 10
def cqBeats (c : Cfg) : Nat := if calibre c = 1 then 2000 else if calibre c = 2 then 500 else 1000
def branchCount (c : Cfg) : Nat := if calibre c = 0 || calibre c = 2 then 4 else 2
def nominalStages (c : Cfg) : Nat := if calibre c = 0 then 48 else if calibre c = 1 then 32 else if calibre c = 2 then 64 else 40
def branchStages (c : Cfg) : Nat := if calibre c = 0 then 40 else if calibre c = 1 then 24 else if calibre c = 2 then 56 else 32

/-- ACT_STAGES (R264). -/
def actStages (c : Cfg) : Nat := c.f LAW.CFG 4 4
/-- The control frame, s. -/
def frameTime (c : Cfg) : BitVec 64 := F64.ofRatio (frameBeats c) 1000

/-- The horizon for a growth g (R265): K T + T times the sum of g^j. -/
def horizonOf (c : Cfg) (g : BitVec 64) : BitVec 64 :=
  let sum := ((List.range (nominalStages c - actStages c)).foldl (fun (p : BitVec 64 × BitVec 64) _ =>
    let q := F64.mul p.2 g
    (F64.add p.1 q, q)) (F64.zero, F64.one)).1
  F64.mul (frameTime c) (F64.add (F64.ofInt (actStages c)) sum)

/-- g of R265: 48 steps of bisection over 1 to 2, rounded to UQ2.30. -/
def gUsed (c : Cfg) : Nat :=
  let want := F64.ofInt (c.f LAW.CFG2 16 8)
  let mid (p : BitVec 64 × BitVec 64) : BitVec 64 := F64.scale (F64.add p.1 p.2) 1 2
  let r := (List.range 48).foldl (fun p _ => if F64.lt (horizonOf c (mid p)) want then (mid p, p.2) else (p.1, mid p))
    (F64.one, F64.ofInt 2)
  (F64.roundTo (mid r) (2 ^ 30) 1).toNat

/-- The length of a stage, s (R264), of equal index on every path, and the time it starts. -/
def stageLength (c : Cfg) (d : Dev) (k : Nat) : BitVec 64 :=
  let g := F64.ofRatio (d.w LAW.G_USED).toNat (2 ^ 30)
  (List.range (k + 1 - actStages c)).foldl (fun h _ => F64.mul h g) (frameTime c)
def stageStart (c : Cfg) (d : Dev) (k : Nat) : BitVec 64 := F64.sum ((List.range k).map (stageLength c d))

/-! ### The reference of the mode (R261, R274, Table 2.8) -/

/-- A binary turn in radians. -/
def turnRad (w : Nat) : BitVec 64 := F64.mul (F64.ofRatio (2 * w) (2 ^ 32)) F64.pi

/-- The route of the parameter record (Table 11.5, layout log 95): waypoints of north, east, heading and speed. -/
def routeCount (st : Store) : Nat := min 64 (leNat (st.bytes (paramBase + 0x3A0) 4))
def waypoint (st : Store) (i : Nat) : Vec := (List.range 4).map (fun j => lawParam st (0x3B8 + 32 * i + 8 * j))
def routeWidth (st : Store) : BitVec 64 := lawParam st 0x3A8
def routeLimit (st : Store) : BitVec 64 := lawParam st 0x3B0

/-- North and east from waypoint `i` to the next. -/
def legVector (st : Store) (i : Nat) : Vec := (Vec.sub (waypoint st (i + 1)) (waypoint st i)).take 2
def legLength (st : Store) (i : Nat) : BitVec 64 := Vec.norm (legVector st i)

/-- The place and heading of a point of the route. -/
def routePoint (st : Store) (p : Nat × BitVec 64) : Vec :=
  if routeCount st ≤ p.1 + 1 then (waypoint st (routeCount st - 1)).take 3
  else
    let share := if F64.positive (legLength st p.1) then F64.div p.2 (legLength st p.1) else F64.zero
    let v := legVector st p.1
    let w := waypoint st p.1
    [F64.fma share (Vec.at v 0) (Vec.at w 0), F64.fma share (Vec.at v 1) (Vec.at w 1), Vec.at (waypoint st (p.1 + 1)) 2]

/-- A point carried along the route for `t` seconds at the lower of waypoint speed and speed limit (R274). -/
def routeMove (st : Store) (fuel : Nat) (p : Nat × BitVec 64) (t : BitVec 64) : Nat × BitVec 64 :=
  match fuel with
  | 0 => p
  | f + 1 =>
    if routeCount st ≤ p.1 + 1 then p
    else
      let v := F64.min (Vec.at (waypoint st (p.1 + 1)) 3) (routeLimit st)
      if !F64.positive v then p
      else
        let need := F64.div (F64.sub (legLength st p.1) p.2) v
        if F64.lt t need then (p.1, F64.fma v t p.2) else routeMove st f (p.1 + 1, F64.zero) (F64.sub t need)

/-- The point of a leg nearest to a place, and its distance. -/
def nearestOnLeg (st : Store) (i : Nat) (p : Vec) : BitVec 64 × BitVec 64 :=
  let v := legVector st i
  let r := Vec.sub p ((waypoint st i).take 2)
  let l := Vec.norm v
  let a := if F64.positive l then F64.clamp F64.zero l (F64.div (Vec.dot r v) l) else F64.zero
  let q := if F64.positive l then Vec.smul (F64.div a l) v else Vec.zeros 2
  (a, Vec.norm (Vec.sub r q))

/-- The nearest point of the route, and its distance; the first among equals. -/
def nearestOnRoute (st : Store) (p : Vec) : (Nat × BitVec 64) × BitVec 64 :=
  let one (i : Nat) : (Nat × BitVec 64) × BitVec 64 := ((i, (nearestOnLeg st i p).1), (nearestOnLeg st i p).2)
  (List.range (routeCount st - 1)).foldl (fun b i => if F64.lt (one i).2 b.2 then one i else b)
    ((0, F64.zero), Vec.norm (Vec.sub p ((waypoint st 0).take 2)))

/-- The estimate moves through a route (precondition 6): a route is loaded, the vessel lies within its corridor. -/
def withinCorridor (st : Store) : Bool :=
  routeCount st != 0 && F64.le (nearestOnRoute st [estNum st 0x20, estNum st 0x28]).2 (routeWidth st)

/-- The reference: north, east, heading `t` seconds after the estimate (R274, Table 11.6). -/
def referenceAt (st : Store) (d : Dev) (t : BitVec 64) : Vec :=
  let r := d.law.ref
  if d.runMode = 9 then
    match d.law.routeFrom with
    | none => r
    | some (leg, along, tick) => routePoint st (routeMove st 65 (leg, along) (F64.add (secondsOf ((estTick st : Int) - tick)) t))
  else if d.runMode = 10 then
    let (ch, sh) := (F64.cos (estNum st 0x30), F64.sin (estNum st 0x30))
    let ned (i : Nat) : Vec :=
      let (x, y) := (estNum st (0x280 + 8 * i), estNum st (0x288 + 8 * i))
      [F64.sub (F64.mul ch x) (F64.mul sh y), F64.add (F64.mul sh x) (F64.mul ch y)]
    let target := Vec.add [estNum st 0x20, estNum st 0x28] (Vec.add (ned 0) (Vec.smul t (ned 2)))
    Vec.add target [Vec.at r 0, Vec.at r 1] ++ [Vec.at r 2]
  else r

/-- A displacement in the frame of a heading: x along it, y 90° clockwise (R261). -/
def alignedTo (heading : BitVec 64) (v : Vec) : Vec :=
  let (ch, sh) := (F64.cos heading, F64.sin heading)
  [F64.add (F64.mul ch (Vec.at v 0)) (F64.mul sh (Vec.at v 1)), F64.sub (F64.mul ch (Vec.at v 1)) (F64.mul sh (Vec.at v 0))]

/-- The 11 states of Table 11.1 from the estimate. -/
def mpcState (st : Store) (d : Dev) : Vec :=
  let r := referenceAt st d F64.zero
  let e := alignedTo (Vec.at r 2) [F64.sub (estNum st 0x20) (Vec.at r 0), F64.sub (estNum st 0x28) (Vec.at r 1)]
  e ++ [F64.wrapPi (F64.sub (estNum st 0x30) (Vec.at r 2)), estNum st 0x38, estNum st 0x40, estNum st 0x48, estNum st 0x50, estNum st 0x58]
    ++ (List.range 3).map (Vec.at d.law.integrals)

/-- Bias and wind force X, Y, N of the estimate (R262). -/
def envForces (st : Store) : Vec := (List.range 3).map (fun i => estNum st (0x80 + 8 * i)) ++ (List.range 3).map (fun i => estNum st (0x98 + 8 * i))

/-! ### The linear model (R262) -/

/-- The rigid-body Coriolis and centripetal matrix of M at surge, sway, yaw and roll rates. -/
def coriolis (m : Mat) (nu : Vec) : Mat :=
  let p := Mat.mulVec m nu
  [[F64.zero, F64.zero, F64.neg (Vec.at p 1), F64.zero], [F64.zero, F64.zero, Vec.at p 0, F64.zero],
   [Vec.at p 1, F64.neg (Vec.at p 0), F64.zero, F64.zero], Vec.zeros 4]

/-- M of the model block inverted; without a mass there is no acceleration. -/
def massInverse (st : Store) : Mat :=
  if F64.positive (modelNum st 0) then Mat.inverse (modelMat st 0) else List.replicate 4 (Vec.zeros 4)

/-- A row of eleven with the given elements. -/
def row11 (l : List (Nat × BitVec 64)) : Vec := l.foldl (fun r p => r.set p.1 p.2) (Vec.zeros 11)

/-- The model about the estimate: A, B and the constant term of x' = A x + B tau + c. -/
def linearModel (st : Store) (d : Dev) : Mat × Mat × Vec :=
  let x := mpcState st d
  let (u, v, e) := (Vec.at x 3, Vec.at x 4, Vec.at x 2)
  let (ce, se) := (F64.cos e, F64.sin e)
  let mi := massInverse st
  let damp := Mat.add (coriolis (modelMat st 0) [u, v, Vec.at x 5, Vec.at x 7]) (modelMat st 0x80)
  let dyn := Mat.mul mi damp
  let force (i : Nat) : Vec :=
    let r := (dyn.getD i []).map F64.neg
    row11 [(3, Vec.at r 0), (4, Vec.at r 1), (5, Vec.at r 2), (7, Vec.at r 3), (6, F64.neg (F64.mul (Mat.get mi i 3) (modelNum st 0x100)))]
  let dx := F64.neg (F64.add (F64.mul u se) (F64.mul v ce))
  let dy := F64.sub (F64.mul u ce) (F64.mul v se)
  let a : Mat := [row11 [(2, dx), (3, ce), (4, F64.neg se)], row11 [(2, dy), (3, se), (4, ce)], row11 [(5, F64.one)],
    force 0, force 1, force 2, row11 [(7, F64.one)], force 3, row11 [(0, F64.one)], row11 [(1, F64.one)], row11 [(2, F64.one)]]
  let b : Mat := (List.range 11).map (fun i =>
    if decide (3 ≤ i ∧ i < 6) then mi.getD (i - 3) [] else if i = 7 then mi.getD 3 [] else Vec.zeros 4)
  let env := envForces st
  let w : Vec := (List.range 3).map (fun i => F64.add (Vec.at env i) (Vec.at env (i + 3))) ++ [F64.zero]
  let still (i : Nat) : BitVec 64 := if i = 0 then F64.neg (F64.mul dx e) else if i = 1 then F64.neg (F64.mul dy e) else F64.zero
  (a, b, (List.range 11).map (fun i => F64.add (still i) (Vec.dot (b.getD i []) w)))

/-- The exponential of a matrix: twelve terms of its series at 2^-10 of it, squared ten times. -/
def Mat.exp (m : Mat) : Mat :=
  let n := m.length
  let one := Mat.diag (List.replicate n F64.one)
  let s := Mat.smul (F64.ofRatio 1 1024) m
  let sum := ((List.range 12).foldl (fun (p : Mat × Mat) k =>
    let t := Mat.smul (F64.ofRatio 1 (k + 1)) (Mat.mul p.2 s)
    (Mat.add p.1 t, t)) (one, one)).1
  (List.range 10).foldl (fun e _ => Mat.mul e e) sum

/-- The zero-order hold of the model over `h` seconds: rows of [A B c] of the discrete model. -/
def discreteModel (m : Mat × Mat × Vec) (h : BitVec 64) : Mat :=
  let top := (List.range 11).map (fun i => m.1.getD i [] ++ m.2.1.getD i [] ++ [Vec.at m.2.2 i])
  (Mat.exp (Mat.smul h (top ++ List.replicate 5 (Vec.zeros 16)))).take 11

/-! ### Actuators (R266 to R269) -/

def actType (c : Cfg) (n : Nat) : Nat := c.f (LAW.ACT_CFG n) 0 3
def actState (d : Dev) (n : Nat) : Nat := d.f (LAW.ACT_STAT n) 0 3
def actBus (c : Cfg) (n : Nat) : Nat := c.f (LAW.ACT_CFG n) 3 3
def usedActuators (c : Cfg) : List Nat := (List.range 40).filter (fun n => actType c n != 0)
def isThruster (t : Nat) : Bool := decide (1 ≤ t ∧ t ≤ 3)

/-- TMAX and TREV (TMIN) in N, PMAX in kW, the rate limit in rad/s, RUD_K, DIR in rad. -/
def actTmax (c : Cfg) (n : Nat) : BitVec 64 := F64.ofInt (c.f (LAW.ACT_FORCE n) 0 16 * 100)
def actTrev (c : Cfg) (n : Nat) : BitVec 64 := F64.ofInt (c.f (LAW.ACT_FORCE n) 16 16 * 100)
def actPmax (c : Cfg) (n : Nat) : BitVec 64 := F64.ofInt (c.f (LAW.ACT_PWR n) 0 16)
def actRate (c : Cfg) (n : Nat) : BitVec 64 := F64.deg (F64.ofRatio (c.f (LAW.ACT_RATE n) 0 16) 100)
def actRudder (c : Cfg) (n : Nat) : BitVec 64 := F64.ofRatio (c.f (LAW.ACT_RATE n) 16 8) 256
def actDir (c : Cfg) (n : Nat) : BitVec 64 := turnRad (c.w (LAW.ACT_DIR n)).toNat
def actPos (c : Cfg) (n i : Nat) : BitVec 64 := F64.ofRatio (c.s ([LAW.ACT_POS_X n, LAW.ACT_POS_Y n, LAW.ACT_POS_Z n].getD i 0) 0 32) 1000

/-- The generalised force X, Y, N, K of a force at an actuator's point (R266). -/
def forceAt (c : Cfg) (n : Nat) (f : Vec) : Vec :=
  let (x, y, z) := (actPos c n 0, actPos c n 1, actPos c n 2)
  [Vec.at f 0, Vec.at f 1, F64.sub (F64.mul x (Vec.at f 1)) (F64.mul y (Vec.at f 0)), F64.sub (F64.mul y (Vec.at f 2)) (F64.mul z (Vec.at f 1))]

/-- The columns of B of an actuator's variables (Table 11.3): along DIR, and 90° clockwise from it for a thruster; a fin's along body z. -/
def actColumns (c : Cfg) (n : Nat) : List Vec :=
  let (cd, sd) := (F64.cos (actDir c n), F64.sin (actDir c n))
  let t := actType c n
  if t = 5 then [forceAt c n [F64.zero, F64.zero, F64.one]]
  else if isThruster t then [forceAt c n [cd, sd, F64.zero], forceAt c n [F64.neg sd, cd, F64.zero]]
  else [forceAt c n [cd, sd, F64.zero]]

/-- The place of each actuator's first variable in a stage or an allocation (log 95), and how many variables there are. -/
def varPlaces (c : Cfg) : List (Nat × Nat) × Nat :=
  (usedActuators c).foldl (fun (p : List (Nat × Nat) × Nat) n => (p.1 ++ [(n, p.2)], p.2 + (actColumns c n).length)) ([], 0)

/-- An actuator's variables, in a list of a stage's. -/
def actVars (c : Cfg) (n : Nat) (vars : Vec) : Vec :=
  match (varPlaces c).1.find? (fun p => p.1 = n) with
  | none => []
  | some p => (List.range (actColumns c n).length).map (fun i => Vec.at vars (p.2 + i))

/-- The generalised force of variables. -/
def forceOf (c : Cfg) (vars : Vec) : Vec :=
  (usedActuators c).foldl (fun f n => (List.zip (actColumns c n) (actVars c n vars)).foldl (fun f p => Vec.add f (Vec.smul p.2 p.1)) f) (Vec.zeros 4)

/-- The FEEDBACK track of an actuator (Table 7.8). -/
def feedbackTrack (c : Cfg) (n : Nat) : Option Nat :=
  (enabledTracks c).find? (fun t => trkClass c t = 9 && trkSource c t = (c.f LAW.FB_BASE 0 16 + n) % 65536)

/-- A track is VALID (R169). -/
def trackValid (d : Dev) (t : Nat) : Bool := d.b (FUS.TRK_VALID (t / 32)) (t % 32)

/-- What a VALID FEEDBACK track measures of an actuator: shaft speed, pitch, azimuth. -/
def feedbackOf (c : Cfg) (d : Dev) (n : Nat) : Option Vec :=
  (feedbackTrack c n).bind (fun t => if trackValid d t then (d.trk t).last.map (·.2) else none)

/-- The azimuth of a force, rad from the bow: measured for types 1 and 3, else DIR. -/
def forceAzimuth (c : Cfg) (n : Nat) (azimuth : BitVec 64) : BitVec 64 :=
  if actType c n = 1 || actType c n = 3 then azimuth else actDir c n

/-- Force and azimuth of the last set-point: its share of TMAX, rad. -/
def setpointOf (d : Dev) (n : Nat) : BitVec 64 × BitVec 64 :=
  (F64.ofRatio (signed 16 (d.f (LAW.ACT_SP_DEM n) 0 16)) 32768, turnRad (d.w (LAW.ACT_SP_AZ n)).toNat)

/-- The force an actuator shows: share of TMAX and azimuth, from its VALID FEEDBACK track, else the last set-point (R270). -/
def shownForce (c : Cfg) (d : Dev) (n : Nat) : BitVec 64 × BitVec 64 :=
  match feedbackOf c d n with
  | some v => (Config.thrustFraction (actType c n) v, forceAzimuth c n (Vec.at v 2))
  | none => setpointOf d n

/-- A thruster's A and C for a share of TMAX at an azimuth (C is 0 in reverse); for the others the one variable. -/
def varsFor (c : Cfg) (n : Nat) (f : BitVec 64 × BitVec 64) : Vec :=
  let m := F64.mul f.1 (actTmax c n)
  let a := F64.sub f.2 (actDir c n)
  if actType c n = 1 || (actType c n = 3 && !F64.lt m F64.zero) then [F64.mul m (F64.cos a), F64.mul m (F64.sin a)]
  else if isThruster (actType c n) then [m, F64.zero]
  else [m]

/-- The generalised force of one actuator's share of TMAX at an azimuth. -/
def generalised (c : Cfg) (n : Nat) (f : BitVec 64 × BitVec 64) : Vec :=
  (List.zip (actColumns c n) (varsFor c n f)).foldl (fun g p => Vec.add g (Vec.smul p.2 p.1)) (Vec.zeros 4)

/-- The actuator's bounds have zero width (R267, R276): not AVAILABLE at the last boundary, in a failed group, or a fin with ROLL_EN 0. -/
def zeroBounds (c : Cfg) (d : Dev) (failed : Nat → Bool) (n : Nat) : Bool :=
  decide (d.law.zeroWidth / 2 ^ n % 2 = 1) || failed n || (actType c n = 5 && !c.b LAW.CFG 1)

/-! ### Constraints (Table 11.3, Table 11.4): rows [a, b, limit] for a A + b C ≤ limit -/

/-- A row without effect. -/
def noRow : Vec := Vec.zeros 3
def padRows (n : Nat) (l : List Vec) : List Vec := (l ++ List.replicate (n - l.length) noRow).take n

/-- The sixteen-sided polygon inscribed in a circle of radius `r`. -/
def polygonRows (r : BitVec 64) : List Vec :=
  (List.range 16).map (fun i =>
    let a := F64.mul F64.pi (F64.ofRatio (2 * i + 1) 16)
    [F64.cos a, F64.sin a, F64.mul r (F64.cos (F64.mul F64.pi (F64.ofRatio 1 16)))])

/-- Thrust, tension and lift bounds (Table 11.3); `a` is A of the reference. -/
def boundRows (c : Cfg) (n : Nat) (zero : Bool) (a : BitVec 64) : List Vec :=
  let t := actType c n
  let up (v : BitVec 64) : Vec := [F64.one, F64.zero, v]
  let down (v : BitVec 64) : Vec := [F64.neg F64.one, F64.zero, v]
  let level : List Vec := [[F64.zero, F64.one, F64.zero], [F64.zero, F64.neg F64.one, F64.zero]]
  let k := F64.neg (actRudder c n)
  padRows 16 (
    if zero then [up F64.zero, down F64.zero] ++ level
    else if t = 1 then polygonRows (actTmax c n)
    else if t = 2 then [up (actTmax c n), down (actTrev c n)] ++ level
    else if t = 3 then
      (if F64.lt a F64.zero then [up F64.zero, down (actTrev c n)] ++ level
       else [up (actTmax c n), down (actTrev c n), [k, F64.one, F64.zero], [k, F64.neg F64.one, F64.zero]])
    else if t = 4 then [up (actTmax c n), down (F64.neg (actTrev c n))]
    else [up (actTmax c n), down (actTmax c n)])

/-- The direction stays within `w` of `ref`, both rad, `ref` from DIR (R270): dropped from 90° on. -/
def wedgeRows (c : Cfg) (n : Nat) (ref w : BitVec 64) : List Vec :=
  let (l, r) := (F64.sub ref w, F64.add ref w)
  padRows 2 (if actType c n != 1 || F64.le (F64.scale F64.pi 1 2) w then []
    else [[F64.sin l, F64.neg (F64.cos l), F64.zero], [F64.neg (F64.sin r), F64.cos r, F64.zero]])

/-- The forbidden sectors (R270): away from each one's edge nearer the reference. -/
def sectorRows (c : Cfg) (n : Nat) (ref : BitVec 64) : List Vec :=
  let one (ka kb : Nat) : List Vec :=
    if actType c n != 1 || c.w ka = c.w kb then []
    else
      let edge (k : Nat) : BitVec 64 := F64.sub (turnRad (c.w k).toNat) (actDir c n)
      let far (k : Nat) : BitVec 64 := F64.abs (F64.wrapPi (F64.sub ref (edge k)))
      if F64.lt (far kb) (far ka) then [[F64.sin (edge kb), F64.neg (F64.cos (edge kb)), F64.zero]]
      else [[F64.neg (F64.sin (edge ka)), F64.cos (edge ka), F64.zero]]
  padRows 2 (one (LAW.ACT_SECT0_A n) (LAW.ACT_SECT0_B n) ++ one (LAW.ACT_SECT1_A n) (LAW.ACT_SECT1_B n))

/-- The rows of one actuator about a reference force, its direction free within `w`. -/
def actuatorRows (c : Cfg) (n : Nat) (zero : Bool) (ref : BitVec 64 × BitVec 64) (w : BitVec 64) : Vec :=
  let from_ := F64.sub ref.2 (actDir c n)
  (boundRows c n zero (Vec.at (varsFor c n ref) 0) ++ wedgeRows c n from_ w ++ sectorRows c n from_).flatten

/-- The power a group may use, kW (R269): PDEF in place of a stale value, at most the sum of PMAX; none without a limit. -/
def groupPower (c : Cfg) (d : Dev) (g : Nat) : Option (BitVec 64) :=
  if !c.b (LAW.BUS_CFG g) 16 then none
  else
    let top := ((usedActuators c).filter (fun n => actBus c n = g)).foldl (fun s n => s + c.f (LAW.ACT_PWR n) 0 16) 0
    some (F64.ofInt (min top (if d.b (LAW.BUS_PWR g) 17 then c.f (LAW.BUS_CFG g) 0 16 else d.f (LAW.BUS_PWR g) 0 16)))

/-- The tangent cut of a group about reference forces (Table 11.4): a coefficient for each variable, then the limit. -/
def powerRow (c : Cfg) (ref : Nat → BitVec 64 × BitVec 64) (g : Nat) (limit : Option (BitVec 64)) : Vec :=
  let share (n : Nat) : BitVec 64 := F64.max (F64.ofRatio 1 10) (F64.abs (ref n).1)
  let mine (n : Nat) : Bool := limit.isSome && actBus c n = g && isThruster (actType c n)
  let coef (n : Nat) : Vec :=
    if !mine n then Vec.zeros (actColumns c n).length
    else
      let k := F64.div (F64.mul (actPmax c n) (F64.scale (F64.sqrt (share n)) 3 2)) (actTmax c n)
      let a := F64.sub (ref n).2 (actDir c n)
      [F64.mul k (F64.cos a), F64.mul k (F64.sin a)]
  let kept := F64.sum (((usedActuators c).filter mine).map (fun n =>
    F64.mul (actPmax c n) (F64.scale (F64.mul (share n) (F64.sqrt (share n))) 1 2)))
  (usedActuators c).flatMap coef ++ [match limit with | none => F64.zero | some p => F64.add p kept]

def powerRows (c : Cfg) (d : Dev) (ref : Nat → BitVec 64 × BitVec 64) : Vec :=
  (List.range 8).flatMap (fun g => powerRow c ref g (groupPower c d g))

/-- The largest contribution of an actuator to a component of the generalised force (R270). -/
def largest (c : Cfg) (n i : Nat) : BitVec 64 :=
  let b := (actColumns c n).map (fun v => Vec.at v i)
  let (p, q) := (F64.abs (Vec.at b 0), F64.abs (Vec.at b 1))
  if actType c n = 1 then F64.mul (actTmax c n) (Vec.norm b)
  else if actType c n = 3 then F64.max (F64.mul (actTmax c n) (F64.add p (F64.mul (actRudder c n) q))) (F64.mul (actTrev c n) p)
  else if actType c n = 2 then F64.mul (F64.max (actTmax c n) (actTrev c n)) p
  else F64.mul (actTmax c n) p

/-- The caps on X, Y, N and K of the later stages (Table 11.4). -/
def forceCaps (c : Cfg) (st : Store) (d : Dev) (failed : Nat → Bool) : Vec :=
  (List.range 4).map (fun i => F64.mul (lawParam st 0xC8)
    (F64.sum (((usedActuators c).filter (fun n => !zeroBounds c d failed n)).map (fun n => largest c n i))))

/-! ### The plan (R264, R278, Table 11.12) and its places in an iterate (log 95) -/

/-- The stages of the tree: path (0 nominal, then the branches), index on the path, whether it is an actuator stage (R264). -/
def treeStages (c : Cfg) : List (Nat × Nat × Bool) :=
  (List.range (nominalStages c)).map (fun k => (0, k, decide (k < actStages c)))
    ++ (List.range (branchCount c)).flatMap (fun b => (List.range (branchStages c)).map (fun j => (b + 1, j + 1, decide (j + 1 < actStages c))))

/-- The numbers of a stage in the iterate: 11 states, 84 actuator variables or a generalised force, two slacks on a branch. -/
def stageNumbers (s : Nat × Nat × Bool) : Nat := 11 + (if s.2.2 then 84 else 4) + (if s.1 = 0 then 0 else 2)

/-- The numbers of an iterate stage by stage. -/
def splitStages (l : List (Nat × Nat × Bool)) (x : Vec) : List Vec :=
  match l with
  | [] => []
  | s :: t => x.take (stageNumbers s) :: splitStages t (x.drop (stageNumbers s))

/-- The plan an accepted result holds (Table 11.12); `env` are the bias and wind force of its estimate. -/
def planOf (c : Cfg) (d : Dev) (j : Job) (env : Vec) : Plan :=
  let l := treeStages c
  let parts := (l.zip (splitStages l j.result.2.x))
  let nominal := parts.filter (fun p => p.1.1 = 0)
  let force (p : (Nat × Nat × Bool) × Vec) : Vec := if p.1.2.2 then forceOf c ((p.2.drop 11).take 84) else (p.2.drop 11).take 4
  let slack := (parts.filter (fun p => p.1.1 != 0)).foldl (fun (m : Vec) p => (m.zip (p.2.drop (stageNumbers p.1 - 2))).map (fun e => F64.max e.1 e.2))
    [F64.zero, F64.zero]
  { seq := j.seq, t0 := j.t0, beat := d.esc.beat
    marks := [j.primal, j.result.1.objective] ++ slack
    starts := (List.range (nominalStages c)).map (stageStart c d)
    states := nominal.map (fun p => p.2.take 11)
    force := nominal.map force
    vars := (nominal.filter (fun p => p.1.2.2)).map (fun p => (p.2.drop 11).take 84)
    env := env }

/-- The bytes of the plan record (Table 11.12). -/
def planRecord (c : Cfg) (p : Plan) (source rej : Nat) : List Byte :=
  let pad (n : Nat) (l : Vec) : List Byte := ((l ++ Vec.zeros (n - l.length)).take n).flatMap F64.bytes
  leBytes 4 p.seq ++ leBytes 1 source ++ leBytes 1 rej ++ leBytes 1 (nominalStages c) ++ leBytes 1 (actStages c) ++ leBytes 8 p.t0
    ++ pad 3 [Vec.at p.marks 0, Vec.at p.marks 1, F64.max (Vec.at p.marks 2) (Vec.at p.marks 3)]
    ++ pad 64 p.starts ++ pad 704 p.states.flatten ++ pad 256 p.force.flatten ++ pad 1008 p.vars.flatten

/-- The stage of a plan that contains a time after t0, s: the last that has started. -/
def planStage (p : Plan) (t : BitVec 64) : Nat := (p.starts.filter (fun s => F64.le s t)).length - 1

/-- The states of a plan at a time, linearly between stages. -/
def planStates (p : Plan) (t : BitVec 64) : Vec :=
  let k := planStage p t
  let (a, b) := (p.states.getD k [], p.states.getD (k + 1) (p.states.getD k []))
  let span := F64.sub (Vec.at p.starts (k + 1)) (Vec.at p.starts k)
  let share := if F64.positive span then F64.min F64.one (F64.div (F64.sub t (Vec.at p.starts k)) span) else F64.zero
  a.zipWith (fun x y => F64.fma share (F64.sub y x) x) b

/-- The reference force of an actuator at a time of the plan (R270): the plan's where it is at least AZ_DEAD, else the shown one. -/
def referenceForce (c : Cfg) (st : Store) (d : Dev) (plan : Option Plan) (t : BitVec 64) (first : Bool) (n : Nat) : BitVec 64 × BitVec 64 :=
  match plan with
  | none => shownForce c d n
  | some p =>
    if first then shownForce c d n
    else match p.vars[planStage p t]? with
      | none => shownForce c d n
      | some v =>
        let f := actVars c n v
        let share := F64.div (Vec.norm f) (actTmax c n)
        let share := if !isThruster (actType c n) then F64.div (Vec.at f 0) (actTmax c n)
          else if actType c n != 1 && F64.lt (Vec.at f 0) F64.zero then F64.neg share else share
        if F64.lt (F64.abs share) (lawParam st 0xD8) then shownForce c d n
        else (share, if actType c n = 1 || actType c n = 3 then F64.add (F64.atan2 (Vec.at f 1) (Vec.at f 0)) (actDir c n) else actDir c n)

/-! ### Parameter words (R270, R272, R281, R288) -/

/-- Actuator `a` belongs to the failed group of case `n` (R286). -/
def inGroup (c : Cfg) (n a : Nat) : Bool :=
  (if a < 32 then c.b (LAW.CQ_ACT_LO n) a else c.b (LAW.CQ_ACT_HI n) (a - 32)) || c.b (LAW.CQ_ACT_HI n) (16 + actBus c a)

/-- Nobody has failed. -/
def noneFailed (_ : Nat) : Bool := false

/-- The quadratic power proxy of each variable (R272): PMAX / TMAX². -/
def powerProxy (c : Cfg) : Vec :=
  (usedActuators c).flatMap (fun n =>
    List.replicate (actColumns c n).length (if isThruster (actType c n) then F64.div (actPmax c n) (F64.mul (actTmax c n) (actTmax c n)) else F64.zero))

/-- The rows of every actuator about its reference force, turning for `h` seconds. -/
def allRows (c : Cfg) (zero : Nat → Bool) (ref : Nat → BitVec 64 × BitVec 64) (h : BitVec 64) : Vec :=
  (usedActuators c).flatMap (fun n => actuatorRows c n (zero n) (ref n) (F64.mul (actRate c n) h))

/-- The failure case of a path (R292): none for the nominal path or an unused branch. -/
def pathFailed (c : Cfg) (d : Dev) (path : Nat) : Nat → Bool :=
  if path = 0 then noneFailed
  else
    let n := d.f LAW.CQ_BRANCH (8 * (path - 1)) 6
    if n = 63 then noneFailed else inGroup c n

/-- The parameter words of an MPC job (R262, R270, R272, R274, R276): environment, start, weights, the fixed X and Y of mode 7; for each
index of a path its length, discrete model and reference; for each stage of the tree its rows, or its caps and its excursion rows. -/
def mpcParams (c : Cfg) (st : Store) (d : Dev) (xy : Vec) : Vec :=
  let heading := decide (d.runMode = 7)
  let w (i : Nat) : BitVec 64 := lawParam st (8 * i)
  let weights := [if heading then F64.zero else w 0, w 1, if c.b LAW.CFG 1 then w 2 else F64.zero, w 3, w 4, w 7]
  let model := linearModel st d
  let r0 := referenceAt st d F64.zero
  let index (k : Nat) : Vec :=
    let t := stageStart c d k
    let r := referenceAt st d t
    stageLength c d k :: (discreteModel model (stageLength c d k)).flatten
      ++ alignedTo (Vec.at r0 2) [F64.sub (Vec.at r 0) (Vec.at r0 0), F64.sub (Vec.at r 1) (Vec.at r0 1)] ++ [F64.wrapPi (F64.sub (Vec.at r 2) (Vec.at r0 2))]
  let since := match d.law.plan with | none => F64.zero | some p => secondsOf ((estTick st : Int) - p.t0)
  let stage (s : Nat × Nat × Bool) : Vec :=
    let failed := pathFailed c d s.1
    let ref := referenceForce c st d d.law.plan (F64.add since (stageStart c d s.2.1)) (decide (s.2.1 = 0))
    (if s.2.2 then allRows c (zeroBounds c d failed) ref (stageLength c d s.2.1) ++ powerRows c d ref
     else forceCaps c st d failed)
      ++ (if s.1 = 0 then [] else (polygonRows (lawParam st 0x80)).flatten ++ [lawParam st 0x88])
  envForces st ++ mpcState st d ++ weights ++ (if heading then F64.one :: xy else [F64.zero, F64.zero, F64.zero])
    ++ (List.range (nominalStages c)).flatMap index ++ powerProxy c ++ ((usedActuators c).flatMap (fun n => (actColumns c n).flatten))
    ++ (treeStages c).flatMap stage

/-- The parameter words of an allocation (R272, R281): demand, weights (the roll slack's apart, R276), columns of B, power proxy, the plan's
variables, the last set-point's, rows about the shown force turning for a tick, power cuts. -/
def allocParams (c : Cfg) (st : Store) (d : Dev) (tau fPlan : Vec) (refOn : Bool) : Vec :=
  let w (i : Nat) : BitVec 64 := lawParam st (8 * i)
  let roll := if c.b LAW.CFG 1 then w 6 else F64.zero
  let last := (usedActuators c).flatMap (fun n => varsFor c n (setpointOf d n))
  let ref := shownForce c d
  tau ++ [w 3, if refOn then w 5 else F64.zero, w 4, w 6, roll] ++ (usedActuators c).flatMap (fun n => (actColumns c n).flatten) ++ powerProxy c
    ++ (fPlan ++ Vec.zeros (last.length - fPlan.length)).take last.length ++ last
    ++ allRows c (zeroBounds c d noneFailed) ref (F64.ofRatio (tickBeats c) 1000) ++ powerRows c d ref

/-- The parameter words of a capability problem (R288, R293): the force to hold for a unit of the scale, the force held whatever the scale,
columns of B without roll, bounds, power cuts at the shown thrust with no power for the groups of the bus mask. -/
def caseParams (c : Cfg) (d : Dev) (case_ : Option Nat) (unit fixed : Vec) : Vec :=
  let failed : Nat → Bool := match case_ with | none => noneFailed | some n => inGroup c n
  let zero (n : Nat) : Bool := zeroBounds c d failed n || actType c n = 5
  let limit (g : Nat) : Option (BitVec 64) := match case_ with
    | none => groupPower c d g
    | some n => if c.b (LAW.CQ_ACT_HI n) (16 + g) then some F64.zero else groupPower c d g
  unit ++ fixed ++ (usedActuators c).flatMap (fun n => ((actColumns c n).map (fun v => v.take 3)).flatten)
    ++ (usedActuators c).flatMap (fun n => (boundRows c n (zero n) (Vec.at (varsFor c n (shownForce c d n)) 0)).flatten)
    ++ (List.range 8).flatMap (fun g => powerRow c (shownForce c d) g (limit g))

end Sys2Proof.Machine
end

