-- ==== Sys2Proof/Machine/Law.lean ====
section
/-! DEFINITION. The positioning law (11_positioning_law.md) and the consequence analysis (12_consequence_analysis.md): actuators,
joystick, demand, launches, what becomes of the results of streams 0 to 2, set-points, runs, branches. -/
namespace Sys2Proof.Machine

/-! ### Helpers -/

/-- Result and warm-start records of a law stream: the spec gives them no address; they take ones of the model's own (log 16). The accepted
MPC record is kept at `lawKeptAt`, and shifted (R277) to its stream's warm-start record. -/
def lawResultAt (s : Nat) : Nat := 0x38000000 + 0x100000 * s
def lawKeptAt : Nat := 0x38300000
def lawWarmAt (s : Nat) : Nat := if s = 1 then 0x38400000 else lawResultAt s

/-- LAW.STAT.SOURCE: 0 MPC, 1 SHIFTED, 2 ALLOC_ONLY, 3 MANUAL. -/
def lawSource (d : Dev) : Nat := d.f LAW.STAT 0 2
def Dev.setSource (d : Dev) (v : Nat) : Dev := d.putF LAW.STAT 0 2 v

/-- The modes in which the law runs (Table 2.9). -/
def lawRuns (d : Dev) : Bool := decide (6 ≤ d.runMode ∧ d.runMode ≤ 10)
/-- The modes in which set-points and outputs leave (Table 2.9); the ramp beat counts as Manual (R46). -/
def sendsSetpoints (d : Dev) : Bool := decide (6 ≤ d.mode ∧ d.mode ≤ 10) || d.modes.rampBeat

/-- A cause of an automatic transition stands from now on (R41). -/
def Dev.want (d : Dev) (cause target : Nat) : Dev :=
  if d.modes.wanted.any (fun w => w.cause = cause) then d
  else { d with modes := { d.modes with wanted := d.modes.wanted ++ [⟨cause, target⟩] } }

/-! ### Actuators and buses (R267 to R269) -/

/-- ACT_AVAIL shows the AVAILABLE actuators. -/
def Dev.showAvail (d : Dev) : Dev :=
  let bits := ((List.range 40).filter (fun n => actState d n = 1)).foldl (fun s n => s + 2 ^ n) 0
  d.put64 (LAW.ACT_AVAIL 0) (LAW.ACT_AVAIL 1) bits

/-- An actuator leaves AVAILABLE (R267): cause 1 feedback, 2 bus, 3 operator. -/
def Dev.actTrip (d : Dev) (n st cause : Nat) : Dev :=
  if actState d n = 1 then ((d.putN (LAW.ACT_STAT n) (st + cause * 2 ^ 8)).event 0x1307 [n, cause]).showAvail else d

/-- A commit of the actuator table: a used entry is AVAILABLE, an unused one UNUSED; a group without power takes its actuators (R267). -/
def Dev.actuatorsCommitted (d : Dev) (c : Cfg) : Dev :=
  ((List.range 40).foldl (fun d n =>
    if actType c n = 0 then d.putN (LAW.ACT_STAT n) 0
    else
      let d := if actState d n = 0 then d.putN (LAW.ACT_STAT n) 1 else d
      if d.b (LAW.BUS_PWR (c.f (LAW.ACT_CFG n) 3 3)) 16 then d else d.actTrip n 3 2) d).showAvail

/-- An actuator command (R267, R268), tested in the order of the result codes (log 21). -/
def Dev.actCmd (d : Dev) (c : Cfg) (v : Word) : Bool × Dev :=
  let n := fld v 0 6
  let cmd := fld v 8 2
  let ready := d.b (LAW.BUS_PWR (c.f (LAW.ACT_CFG n) 3 3)) 16
  let fb := match feedbackTrack c n with | none => false | some t => trackValid d t
  let res := if fld v 16 16 != 0x4A7C then 1
    else if 40 ≤ n || actType c n = 0 then 2
    else if cmd = 2 && !(fb && ready) then 3
    else if cmd = 2 && actState d n = 1 then 4
    else 0
  let d := d.putN LAW.ACT_CMD_RES (res + n * 2 ^ 8)
  if res != 0 then (false, d)
  else if cmd = 1 then (true, d.actTrip n 4 3)
  else if cmd = 2 then
    let cause := d.f (LAW.ACT_STAT n) 8 3
    (true, ((d.putN (LAW.ACT_STAT n) 1).event 0x1308 [n, cause]).showAvail)
  else (true, d)

/-- ACT_WITHDRAW (R267). -/
def execActWithdraw (value : Word) (s : State) : Out := onControl s LAW.ACT_CMD value 0 255 fun c d => d.actCmd c value

/-- ACT_READMIT (R268). -/
def execActReadmit (value : Word) (s : State) : Out := onControl s LAW.ACT_CMD value 0 255 fun c d => d.actCmd c value

/-- A write of BUSg_PWR (R269, R267): a change of ONLINE is recorded; going offline takes the group's actuators. -/
def Dev.busPwr (d : Dev) (c : Cfg) (g : Nat) (value : Word) : Dev :=
  let was := d.b (LAW.BUS_PWR g) 16
  let on := bit value 16
  let d := d.putN (LAW.BUS_PWR g) (value.toNat % 2 ^ 17)
  let d := { d with law := { d.law with busTick := Assoc.set 0 d.law.busTick g d.tick } }
  let d := if on = was then d else d.event 0x1309 [g, on.toNat]
  if on then d
  else (List.range 40).foldl (fun d n =>
    if actType c n != 0 && c.f (LAW.ACT_CFG n) 3 3 = g then d.actTrip n 3 2 else d) d

/-- BUS_PWR_WRITE (R269). -/
def execBusPwrWrite (group : Fin 8) (value : Word) (s : State) : Out :=
  onControl s (LAW.BUS_PWR group.val) value 0 255 fun c d => (true, d.busPwr c group.val value)

/-- BUS_PWR_STALE (R269): PWR_TMO of 0 sets no limit (R517). -/
def execBusPwrStale (group : Fin 8) (s : State) : Out :=
  onDev s fun c d =>
    let g := group.val
    let tmo := c.f LAW.CFG2 24 8
    if tmo = 0 || d.b (LAW.BUS_PWR g) 17 then d
    else (d.advanceTo (Assoc.get 0 d.law.busTick g + tmo * 10 * ticksPerMs)).putB (LAW.BUS_PWR g) 17 true

/-! ### Joystick (R275, R49, R50) -/

/-- Full scale of an axis in the law's units of 2^-31. -/
def joyFull : Int := 2 ^ 31

/-- The rate-limited axes come forward to the present: full scale per JOY_RAMP. -/
def Dev.joyAdvance (d : Dev) (c : Cfg) : Dev :=
  let ramp := c.f LAW.JOY_CFG 24 8 * (ticksPerSec / 10)
  let dt := d.tick - d.law.joyTick
  let step : Int := if ramp = 0 then 2 * joyFull else (dt : Int) * joyFull / (ramp : Int)
  let move (out goal : Int) : Int := out + max (-step) (min step (goal * 65536 - out))
  let o := d.law.joyOut
  let j := d.law.joy
  { d with law := { d.law with joyOut := (move o.1 j.1, move o.2.1 j.2.1, move o.2.2 j.2.2), joyTick := d.tick } }

/-- Every axis lies within `p` % of full scale. -/
def joyWithin (j : Int × Int × Int) (p : Int) : Bool :=
  decide (j.1.natAbs * 100 ≤ p * 32768) && decide (j.2.1.natAbs * 100 ≤ p * 32768) && decide (j.2.2.natAbs * 100 ≤ p * 32768)

/-- The neutral band of R49 with its 1 % hysteresis, and the end of the thrust hold (R50). DESIGN CHOICE (log 33): the band's percentage comes
with the configuration image. -/
def Dev.neutralBand (d : Dev) (c : Cfg) : Dev :=
  let inBand := joyWithin d.law.joy (c.neutralPct + if d.modes.neutralSince.isSome then 1 else 0)
  if inBand then
    { d with modes := { d.modes with
      neutralSince := some (d.modes.neutralSince.getD d.tick)
      holdBandSeen := d.modes.holdBandSeen || d.b SYS.MODE 14 } }
  else
    let hold := d.b SYS.MODE 14 && d.modes.holdBandSeen
    let d := { d with modes := { d.modes with neutralSince := none, holdBandSeen := d.modes.holdBandSeen && !hold } }
    if hold then d.putB SYS.MODE 14 false else d

/-- A delivered joystick item (R275): not used when it is not VALID or an axis reads -1.0. -/
def Dev.joyItem (d : Dev) (c : Cfg) (i : Item) : Dev :=
  let ax (k : Nat) : Int := signed 16 (leAt i.payload (2 * k) 2)
  if i.source != c.f LAW.JOY_CFG 0 16 || !itemValid i || i.payload.length < 6 || ax 0 = -32768 || ax 1 = -32768 || ax 2 = -32768 then d
  else
    let d := d.joyAdvance c
    { d with law := { d.law with joy := (ax 0, ax 1, ax 2), joyStale := false } }.neutralBand c

/-- JOY_STALE (R275): the demand falls to zero through the rate limit. JOY_TMO of 0 sets no timeout (R517). DESIGN CHOICE (log 81): the axes then
count as within the neutral band. -/
def execJoyStale (s : State) : Out :=
  onDev s fun c d =>
    let tmo := c.f LAW.JOY_CFG 16 8
    if tmo = 0 || d.law.joyStale then d
    else
      let d := match Assoc.get none d.flow.lastItem (c.f LAW.JOY_CFG 0 16) with
        | none => d
        | some i => d.advanceTo (i.tick + tmo * 10 * ticksPerMs)
      let d := d.joyAdvance c
      ({ d with law := { d.law with joy := (0, 0, 0), joyStale := true } }.neutralBand c).event 0x130B

/-! ### Set-points (R283, R284) -/

/-- The payload of an actuator's set-point (Table 11.8). -/
def setpointPayload (d : Dev) (n : Nat) : List Byte :=
  let flags := (Assoc.get 0 d.law.spFlags n ||| (if d.b FUS.SPLIT_STAT 0 then 4 else 0)) ||| (if lawSource d = 0 then 0 else 8)
  leBytes 1 n ++ leBytes 1 flags ++ leBytes 4 (d.w (LAW.ACT_SP_AZ n)).toNat ++ leBytes 2 (d.f (LAW.ACT_SP_DEM n) 0 16)

/-- The send connections of a frame slot carry a payload written since their last release (R368). -/
def Dev.markWritten (d : Dev) (c : Cfg) (port slot : Nat) : Dev :=
  let cs := (List.range 32).filter (fun k => c.b (SFM.OSI_CONN_CFG k) 0 && !c.b (SFM.OSI_CONN_CFG k) 1
    && c.f (SFM.OSI_CONN_CFG k) 8 4 = port && c.f (SFM.OSI_TE k) 24 8 = slot)
  { d with sfm := { d.sfm with conns := cs.foldl (fun l k => Assoc.set {} l k { Assoc.get {} l k with written := true }) d.sfm.conns } }

/-- A slot buffer takes a payload from its owner. -/
def Dev.ownerWrites (d : Dev) (c : Cfg) (port slot : Nat) (p : List Byte) : Dev :=
  let k := port * 256 + slot
  ({ d with law := { d.law with payloads := Assoc.set [] d.law.payloads k p } }).markWritten c port slot

/-- The set-points go to the frame slots, where the mode sends them, and to the loop slots (R284, R311). -/
def Dev.sendSetpoints (d : Dev) (c : Cfg) : Dev :=
  let d := { d with law := { d.law with spPending := false, spBeat := some d.esc.beat } }
  ((List.range 40).filter (fun n => actType c n != 0)).foldl (fun d n =>
    let cfg := c.w (LAW.ACT_CFG n)
    let d := if sendsSetpoints d && fld cfg 16 4 != 15 then d.ownerWrites c (fld cfg 16 4) (fld cfg 20 8) (setpointPayload d n) else d
    let loop := fld cfg 8 8
    if loop < 64 && lawRuns d then
      d.putN (LPE.SP loop) (if c.b (LPE.SL_CFG loop) 9 then d.f (LAW.ACT_SP_DEM n) 0 16 * 2 ^ 16 else (d.w (LAW.ACT_SP_AZ n)).toNat)
    else d) d

/-- An azimuth in radians from DIR as a binary turn, to nearest, ties to even (R5, R283). -/
def azimuthWord (dir : Word) (a : BitVec 64) : Word := dir + wd (unsigned 32 (F64.roundTo (F64.div a (F64.scale F64.pi 2 1)) (2 ^ 32) 1))

/-- One actuator's set-point from its accepted variables (R283); an actuator whose bounds had zero width gets zero (R267). -/
def Dev.buildSetpoint (d : Dev) (c : Cfg) (azDead : BitVec 64) (zeros : Nat) (vars : Vec) (n : Nat) : Dev :=
  let typ := actType c n
  let v := if decide (zeros / 2 ^ n % 2 = 1) then Vec.zeros 2 else actVars c n vars
  let (a, k) := (Vec.at v 0, Vec.at v 1)
  let share := F64.div (if isThruster typ then Vec.norm [a, k] else a) (actTmax c n)
  let share := if (typ = 2 || typ = 3) && F64.lt a F64.zero then F64.neg share else share
  let q := satS 16 (F64.roundTo share 32768 1)
  let small := F64.lt (F64.ofRatio (q.natAbs : Int) 32768) azDead
  let az := if small then d.w (LAW.ACT_SP_AZ n)
    else if isThruster typ then azimuthWord (c.w (LAW.ACT_DIR n)) (F64.atan2 k a) else c.w (LAW.ACT_DIR n)
  let d := (d.put (LAW.ACT_SP_AZ n) az).putN (LAW.ACT_SP_DEM n) (unsigned 16 q)
  { d with law := { d.law with spFlags := Assoc.set 0 d.law.spFlags n (if small then 2 else 0) } }

/-- A rejected allocation holds the last set-points, with every actuator that is not AVAILABLE at zero (R282). -/
def Dev.allocRejected (d : Dev) (c : Cfg) : Dev :=
  let run := d.law.allocRejRun + 1
  let d := { d with law := { d.law with allocRejRun := run } }.bump LAW.ALLOC_REJ_CNT
  let d := if run = 1 || run % 100 = 0 then d.event 0x1304 [run] else d
  let d := (usedActuators c).foldl (fun d n =>
    let d := if actState d n = 1 then d else d.putN (LAW.ACT_SP_DEM n) 0
    { d with law := { d.law with spFlags := Assoc.set 0 d.law.spFlags n (Assoc.get 0 d.law.spFlags n ||| 16) } }) d
  d.sendSetpoints c

/-! ### Results of streams 0 and 1 (R277, R282) -/

/-- The code is 1 to 3 and the primal residual at most a limit. -/
def acceptable (j : Job) (limit : BitVec 64) : Bool := decide (1 ≤ j.code ∧ j.code ≤ 3) && F64.le j.primal limit

/-- The slacks of an allocation after its variables; the roll slack has no weight, and no meaning, with ROLL_EN 0 (R276, log 95). -/
def allocSlack (c : Cfg) (x : Vec) : BitVec 64 :=
  Vec.maxAbs ((x.drop (varPlaces c).2).take (if c.b LAW.CFG 1 then 4 else 3))

/-- An allocation result (R282): accepted, with its capability test, or rejected. -/
def Dev.allocResult (d : Dev) (c : Cfg) (st : Store) (j : Job) : Dev :=
  if !lawRuns d && !d.modes.rampBeat then d
  else if !acceptable j (lawParam st 0x48) then d.allocRejected c
  else
    let x := j.result.2.x
    let d := { d with law := { d.law with allocRejRun := 0 } }
    let slack := allocSlack c x
    let above := F64.lt (lawParam st 0xD0) slack
    let was := d.b LAW.STAT 13
    let d := d.putB LAW.STAT 13 above
    let d := if above && !was then d.event 0x1305 [F64.floor slack] else d
    ((usedActuators c).foldl (fun d n => d.buildSetpoint c (lawParam st 0xD8) j.tag (x.take (varPlaces c).2) n) d).sendSetpoints c

/-- The frame's plan is rejected (R277): the source becomes SHIFTED or, after REJ_MAX rejections, ALLOC_ONLY. -/
def Dev.mpcReject (d : Dev) (c : Cfg) (reason q : Nat) (residual : BitVec 64) : Dev :=
  let rej := satU 4 (d.f LAW.STAT 2 4 + 1)
  let d := ((d.putF LAW.STAT 2 4 rej).putF LAW.STAT 8 4 reason).bump LAW.REJ_CNT
  let d := d.event 0x1301 [reason, q, residual.toNat]
  if lawSource d = 0 || lawSource d = 1 then
    if c.f LAW.CFG2 4 4 ≤ rej then ((d.setSource 2).putB LAW.STAT 12 false).event 0x1302
    else d.setSource 1
  else d

/-- The reason of a rejected result (Table 11.7). -/
def rejectReason (code : Nat) : Nat := if code = 4 then 2 else if code = 5 then 3 else if code = 6 then 4 else if code = 7 then 5 else 1

/-- An excursion slack is above 0.01 m or 0.001 rad (R271). -/
def planExcursion (p : Plan) : Bool := F64.lt (F64.ofRatio 1 100) (Vec.at p.marks 2) || F64.lt (F64.ofRatio 1 1000) (Vec.at p.marks 3)

/-- The result record that `a` holds is copied to `b`. -/
def copyRecord (st : Store) (d : Dev) (x : Schedule) (a b : Nat) : Store × Dev :=
  writeRun (resultBytes x / 32 + 2) st d 0 b (st.bytes a (resultBytes x)) false

/-- An MPC result (R277, R279, R271): an accepted plan is published whole, its record kept for the next warm start. -/
def mpcResult (c : Cfg) (st : Store) (d : Dev) (j : Job) : Store × Dev :=
  if !(decide (7 ≤ d.runMode ∧ d.runMode ≤ 10)) then (st, d)
  else if !acceptable j (lawParam st 0x40) then (st, d.mpcReject c (rejectReason j.code) j.seq j.primal)
  else
    let p := planOf c d j (j.params.take 6)
    let fell := lawSource d = 2
    let d := if fell then
        ({ d with law := { d.law with blendStart := some d.esc.beat } }.putB LAW.STAT 12 (c.f LAW.CFG2 8 8 != 0)).event 0x1303 [j.seq]
      else d
    let d := { d with law := { d.law with planPrev := if fell then none else d.law.plan, plan := some p } }
    let was := d.b LAW.STAT 14
    let d := (((d.setSource 0).putF LAW.STAT 2 4 0).putF LAW.STAT 16 16 j.seq).putB LAW.STAT 14 (planExcursion p)
    let d := if planExcursion p && !was then d.event 0x1306 [j.seq] else d
    let (st, d) := writeRun 520 st d 0 planBase (planRecord c p 0 0) false
    match (d.slot j.slot).live with
    | none => (st, d)
    | some x => copyRecord st d x j.resultAddr lawKeptAt

/-! ### Launches (R274, R277, R279, R281) -/

/-- One of the law's own jobs is queued with its parameter words: the code the solver gives, and the new state. -/
def Dev.lawLaunch (d : Dev) (c : Cfg) (st : Store) (s slot maxIter dlBeat tolAt tag t0 : Nat) (warm : Bool) (params : Vec) : Nat × Dev :=
  let code := lawSubmitCode c d s slot
  if code != 0 then (code, d)
  else
    let width := match (d.slot slot).live with | none => 1 | some x => x.width
    (0, d.acceptJob { newJob s slot s width with
      warm := warm, maxIter := maxIter, dlBeat := some dlBeat
      tolPrimal := lawParam st tolAt, tolDual := lawParam st (tolAt + 8), tolGap := lawParam st (tolAt + 16)
      warmAddr := lawWarmAt s, resultAddr := lawResultAt s, tag := tag, t0 := t0, params := params })

/-- The manual demand (R274): joystick times full scale, zero under NEUTRAL_WAIT; roll damping under ROLL_EN. -/
def manualDemand (c : Cfg) (st : Store) (d : Dev) : List (BitVec 64) :=
  let ax (v : Int) (off : Nat) : BitVec 64 := if d.b SYS.MODE 15 then 0 else F64.scale (lawParam st off) v (2 ^ 31)
  [ax d.law.joyOut.1 0xA8, ax d.law.joyOut.2.1 0xB0, ax d.law.joyOut.2.2 0xB8,
   if c.b LAW.CFG 1 then F64.scale (F64.mul (lawParam st 0xC0) (estNum st 0x058)) (-1) 1 else 0]

/-- (1 - n/m) a + (n/m) b, element by element (R279). -/
def blend (a b : Vec) (n m : Nat) : Vec :=
  let w := F64.ofRatio n m
  Vec.add (Vec.smul (F64.sub F64.one w) a) (Vec.smul w b)

/-- The plan an allocation launched in this beat uses: a plan published in the beat becomes current in later ones (R17). -/
def planInUse (d : Dev) : Option Plan :=
  match d.law.plan with
  | none => none
  | some p => if p.beat = d.esc.beat then d.law.planPrev else some p

/-- The seconds of a plan that have passed at the present tick. -/
def sincePlan (d : Dev) (p : Plan) : BitVec 64 := secondsOf ((d.tick : Int) - p.t0)

/-- A 4 × 11 gain of the parameter record, row-major (Table 11.5). -/
def gainOf (st : Store) (off : Nat) : Mat := (List.range 4).map (fun i => (List.range 11).map (fun j => lawParam st (off + 88 * i + 8 * j)))

/-- Bias and wind force of six numbers, as a generalised force. -/
def envOf (e : Vec) : Vec := (List.range 3).map (fun i => F64.add (Vec.at e i) (Vec.at e (i + 3))) ++ [F64.zero]

/-- The allocation-only law (R279): -K_AO e - b - tau_wind. -/
def fallbackDemand (st : Store) (d : Dev) : Vec :=
  Vec.sub (Vec.negate (Mat.mulVec (gainOf st 0x240) (mpcState st d))) (envOf (envForces st))

/-- The demand of a plan (R281); K_FB is zero when the estimate is not VALID. -/
def planDemand (st : Store) (d : Dev) (p : Plan) : Vec :=
  let t := sincePlan d p
  let gain := if estValid st then Mat.mulVec (gainOf st 0xE0) (Vec.sub (mpcState st d) (planStates p t)) else Vec.zeros 4
  Vec.add (Vec.sub (Vec.add (p.force.getD (planStage p t) (Vec.zeros 4)) gain) (envOf (envForces st))) (envOf p.env)

/-- The automatic demand by source and blend (R17, R279, R281). -/
def autoDemand (c : Cfg) (st : Store) (d : Dev) : Vec :=
  let span := c.f LAW.CFG2 8 8 * frameBeats c
  match planInUse d with
  | none => fallbackDemand st d
  | some p =>
    if lawSource d = 2 then fallbackDemand st d
    else match d.law.blendStart with
      | none => planDemand st d p
      | some b =>
        if span = 0 || b + span ≤ d.esc.beat then planDemand st d p
        else blend (fallbackDemand st d) (planDemand st d p) (d.esc.beat - b) span

/-- X and Y of Auto-heading: the joystick, or the thrust hold (R50, R274). -/
def manualXY (c : Cfg) (st : Store) (d : Dev) : Vec :=
  if d.b SYS.MODE 14 then [d.law.heldXY.1, d.law.heldXY.2] else (manualDemand c st d).take 2

/-- The demand of an allocation launch (Table 11.6, R46, R50). -/
def demand (c : Cfg) (st : Store) (d : Dev) : Vec :=
  if d.modes.rampBeat then
    let past := d.tick - d.esc.boundary
    d.law.rampFrom.map (fun x => F64.scale x (ticksPerMs - past : Nat) ticksPerMs)
  else if d.runMode = 6 then manualDemand c st d
  else if d.runMode = 7 then manualXY c st d ++ (autoDemand c st d).drop 2
  else autoDemand c st d

/-- The plan's variables at the present stage, where W_REF applies: an actuator stage of a plan in use (R281). -/
def planVars (d : Dev) : Option Vec :=
  if decide (2 ≤ lawSource d) || d.runMode = 6 then none
  else match planInUse d with
    | none => none
    | some p => p.vars[planStage p (sincePlan d p)]?

/-- The mean of X and Y of the demand over the last 10 s (R274, R50). -/
def tauMean (d : Dev) : BitVec 64 × BitVec 64 :=
  let h := d.law.tauHist
  let mean (l : Vec) : BitVec 64 := if h.isEmpty then F64.zero else F64.div (F64.sum l) (F64.ofInt h.length)
  (mean (h.map (·.2.1)), mean (h.map (·.2.2)))

/-- The reference has reached the final waypoint and the vessel lies within 1 m of it (R274). -/
def routeEnded (st : Store) (d : Dev) : Bool :=
  let n := routeCount st
  let last := (waypoint st (n - 1)).take 2
  match d.law.routeFrom with
  | none => false
  | some (leg, along, tick) =>
    n != 0 && decide (n ≤ (routeMove st 65 (leg, along) (secondsOf ((estTick st : Int) - tick))).1 + 1)
      && F64.le (Vec.norm (Vec.sub [estNum st 0x20, estNum st 0x28] last)) F64.one

/-- The actuators held at zero in jobs launched now, bit n. -/
def zeroMask (c : Cfg) (d : Dev) : Nat := ((usedActuators c).filter (zeroBounds c d noneFailed)).foldl (fun s n => s + 2 ^ n) 0

/-- The allocation pallet (R281): one job per tick; a refused launch is a rejected allocation. -/
def Dev.allocLaunch (d : Dev) (c : Cfg) (st : Store) : Dev :=
  let d := d.joyAdvance c
  let t := demand c st d
  let b := d.esc.beat
  let hist := ((b, Vec.at t 0, Vec.at t 1) :: d.law.tauHist).filter (fun x => decide (b < x.1 + 10000))
  let vars := planVars d
  let d := { d with law := { d.law with tauHist := hist, rampFrom := if d.modes.rampBeat then d.law.rampFrom else t } }
  let d : Dev := if d.runMode = 9 && routeEnded st d then d.want 0x0B 8 else d
  let warm := decide ((d.w (SLV.STRM_PUB 0)).toNat ≠ 0)
  let (code, d) := d.lawLaunch c st 0 (c.f LAW.SLOTS 0 3) (c.f LAW.CFG 24 7) (b + c.f LAW.CFG2 0 4) 0x68 (zeroMask c d) 0 warm
    (allocParams c st d t (vars.getD []) vars.isSome)
  if code = 0 then { d with law := { d.law with spPending := true } } else d.allocRejected c

/-- States 0 to 2 are integrated for a frame, each integral within its INT_MAX, unless the estimator is in SPLIT or COAST (R263). -/
def Dev.integrate (d : Dev) (c : Cfg) (st : Store) : Dev :=
  let d := d.putB LAW.STAT 15 (estCoasts st)
  if estCoasts st then d
  else
    let e := mpcState st d
    let one (i : Nat) : BitVec 64 :=
      let lim := lawParam st (0x90 + 8 * i)
      F64.clamp (F64.neg lim) lim (F64.fma (Vec.at e i) (frameTime c) (Vec.at d.law.integrals i))
    { d with law := { d.law with integrals := (List.range 3).map one } }

/-- A stage of a path, or the last of the path: its numbers. -/
def stageAt (parts : List ((Nat × Nat × Bool) × Vec)) (path k : Nat) : Vec :=
  ((parts.filter (fun p => p.1.1 = path && decide (p.1.2.1 ≤ k))).getLast?.map (·.2)).getD []

/-- The iterate of an accepted record moved `n` stages on (R277, log 95): each stage takes the states of the stage `n` further on its path,
the variables of the last actuator stage so far, or the generalised force. -/
def shiftStages (c : Cfg) (n : Nat) (x : Vec) : Vec :=
  let l := treeStages c
  let parts := l.zip (splitStages l x)
  l.flatMap (fun s =>
    let far := stageAt parts s.1 (s.2.1 + n)
    let act := stageAt (parts.filter (·.1.2.2)) s.1 (s.2.1 + n)
    far.take 11 ++ (if s.2.2 then (act.drop 11).take 84 else (stageAt (parts.filter (!·.1.2.2)) s.1 (s.2.1 + n)).drop 11 |>.take 4)
      ++ (if s.1 = 0 then [] else far.drop (far.length - 2)))

/-- The warm start of an MPC job (R277): the kept record with its iterate shifted by the frames since its t0. -/
def shiftWarm (c : Cfg) (st : Store) (d : Dev) (x : Schedule) : Store × Dev :=
  match d.law.plan with
  | none => (st, d)
  | some p =>
    let n := (estTick st - p.t0) / (frameBeats c * ticksPerMs)
    let h := st.bytes lawKeptAt 128
    let i := st.numbers (lawKeptAt + 128) (iterateLen x)
    let moved := shiftStages c n (i.take x.nVar)
    let i := (moved ++ i.drop moved.length).take (iterateLen x)
    writeRun (resultBytes x / 32 + 2) st d 0 (lawWarmAt 1) (h ++ i.flatMap F64.bytes) false

/-- The branch assignment of a completed run applies to the first MPC launch in a later beat (R292). -/
def Dev.takeBranches (d : Dev) : Dev :=
  match d.law.nextBranch with
  | none => d
  | some (at_, cs) =>
    if d.esc.beat ≤ at_ then d
    else
      let d := d.putN LAW.CQ_BRANCH (cs.zipIdx.foldl (fun n p => n + p.1 * 2 ^ (8 * p.2)) 0)
      let d := (List.range 48).foldl (fun d n => d.putB (LAW.CQ_RES n) 20 (cs.contains n)) d
      { d with law := { d.law with nextBranch := none } }

/-- The MPC pallet (R277, R263, R292). -/
def mpcLaunch (c : Cfg) (st : Store) (d : Dev) : Store × Dev :=
  let b := d.esc.beat
  let d := (d.takeBranches).integrate c st
  let old := match d.fus.frames with | [] => true | f :: _ => decide (f.beat + 11 < b)
  if !estValid st || old then (st, d.mpcReject c 8 0 0)
  else if d.slv.jobs.any (fun j => j.stream = 1 && j.phase != .held) then (st, d.mpcReject c 7 0 0)
  else
    let slot := c.f LAW.SLOTS 4 3
    let warm := lawSource d != 2 && d.law.plan.isSome
    let (st, d) := match (d.slot slot).live with
      | some x => if warm then shiftWarm c st d x else (st, d)
      | none => (st, d)
    let dl := b + frameBeats c * c.f LAW.CFG 8 7 / 100
    let (code, d) := d.lawLaunch c st 1 slot (c.f LAW.CFG 16 7) dl 0x50 0 (estTick st) warm (mpcParams c st d (manualXY c st d))
    (st, if code = 0 then d else (d.event 0x130C [code]).mpcReject c 6 0 0)

/-! ### Consequence runs (R286 to R294) -/

def cqEnabled (c : Cfg) (n : Nat) : Bool := c.b (LAW.CQ_CASE_CFG n) 0
def cqCase (d : Dev) (n : Nat) : CaseRes := Assoc.get {} d.law.cqCases n
def Dev.putCase (d : Dev) (n : Nat) (x : CaseRes) : Dev := { d with law := { d.law with cqCases := Assoc.set {} d.law.cqCases n x } }

/-- An AVAILABLE actuator is left outside the failed group of a case. -/
def cqAnyLeft (c : Cfg) (d : Dev) (n : Nat) : Bool := (List.range 40).any (fun a => actState d a = 1 && !inGroup c n a)

/-- The floor of the reference force, N (R287). -/
def envFloor (c : Cfg) : BitVec 64 := F64.ofInt (c.f LAW.CQ_CFG 24 8 * 5000)

/-- The environmental force of the run (R287). -/
def tauEnv (d : Dev) : Vec := [d.law.tauEnv.1, d.law.tauEnv.2.1, d.law.tauEnv.2.2]

/-- What scales tau_env to the floor: above 1 only where its horizontal magnitude is below; none where that is zero (R287). -/
def refScale (c : Cfg) (d : Dev) : Option (BitVec 64) :=
  let mag := Vec.norm ((tauEnv d).take 2)
  if !F64.positive mag then none
  else some (if F64.lt mag (envFloor c) then F64.div (envFloor c) mag else F64.one)

/-- tau_ref (R287). -/
def tauRef (c : Cfg) (d : Dev) : Vec :=
  match refScale c d with
  | none => [F64.zero, envFloor c, F64.zero]
  | some k => Vec.smul k (tauEnv d)

/-- The margin of a scale s (R288), capped at 10. -/
def cqMargin (c : Cfg) (d : Dev) (s : BitVec 64) : BitVec 64 :=
  F64.min (F64.ofInt 10) (match refScale c d with | none => s | some k => F64.mul s k)

/-- A margin as its register shows it: UQ8.8, to nearest. -/
def marginReg (m : BitVec 64) : Nat := (F64.roundTo m 256 1).toNat

/-- The parameter words of a job of a run: a case holds -s tau_ref, an envelope direction F against the environment and N_env. -/
def cqParams (c : Cfg) (d : Dev) (t : Nat) : Vec :=
  if t < 64 then caseParams c d (some t) (Vec.negate (tauRef c d)) (Vec.zeros 3)
  else
    let i := t - 64
    let a := F64.deg (F64.ofInt (i % 36 * 10))
    caseParams c d (if i < 36 then none else d.law.envelope.map (·.2)) [F64.cos a, F64.sin a, F64.zero]
      [F64.zero, F64.zero, F64.neg (Vec.at (tauEnv d) 2)]

/-- Jobs of a run are queued while at most 16 stand (R19); a job the solver refuses has no result. -/
def Dev.cqFill (d : Dev) (c : Cfg) (st : Store) (fuel : Nat) : Dev :=
  match fuel with
  | 0 => d
  | k + 1 =>
    match d.law.cqTodo with
    | [] => d
    | t :: rest =>
      if 16 ≤ (d.slv.jobs.filter (fun j => j.stream = 2 && j.phase != .held)).length then d
      else
        let d := { d with law := { d.law with cqTodo := rest } }
        let dl := d.law.cqStart + cqBeats c - 1
        let warm := decide ((d.w (SLV.STRM_PUB 2)).toNat ≠ 0)
        ((d.lawLaunch c st 2 (c.f LAW.SLOTS 8 3) (c.f LAW.CQ_CFG2 0 6) dl 0x68 t 0 warm (cqParams c d t)).2).cqFill c st k

/-- The scale or force of a capability result: the variable after those of the actuators (log 95). -/
def capability (c : Cfg) (j : Job) : BitVec 64 := Vec.at j.result.2.x (varPlaces c).2

/-- A result of stream 2 (R289): accepted for its case or its envelope direction. -/
def Dev.cqResult (d : Dev) (c : Cfg) (st : Store) (j : Job) : Dev :=
  if !d.law.cqActive || !acceptable j (lawParam st 0x48) then d
  else if j.tag < 48 then d.putCase j.tag { cqCase d j.tag with scale := capability c j, residual := j.primal, code := j.code, got := true }
  else { d with law := { d.law with envelopeVals := d.law.envelopeVals.set (j.tag - 64) (capability c j) } }

/-- The state of a case from its margin (R291): 1 OK, 2 WARN, 3 ALARM. -/
def cqState (c : Cfg) (prev : Nat) (m : BitVec 64) : Nat :=
  let below (n : Nat) : Bool := F64.lt m (F64.ofRatio n 256)
  let warn := c.f LAW.CQ_CFG 0 16
  let hyst := c.f LAW.CQ_CFG 16 8
  if below 256 || (prev = 3 && below (256 + hyst)) then 3
  else if below warn || ((prev = 2 || prev = 3) && below (warn + hyst)) then 2
  else 1

/-- One case at run completion (R290, R291); the page 0 interrupts are numbered as the events are (log 25). -/
def Dev.cqJudge (d : Dev) (c : Cfg) (n : Nat) : Dev :=
  let x := cqCase d n
  let k := LAW.CQ_RES n
  let prev := x.level
  let d0 := d.f k 16 3
  if x.got then
    let m := cqMargin c d x.scale
    let r := marginReg m
    let st := cqState c prev m
    let d := d.putCase n { x with margin := m, noResult := 0, level := st }
    let d := (((d.putF k 0 16 r).putF k 16 3 st).putB k 19 false).putF k 24 8 (d.w LAW.CQ_RUN).toNat
    if st = 3 && prev != 3 then (d.event 0x1311 [n, r]).irq 0x40038000 1
    else if st = 2 && prev != 2 && prev != 3 then (d.event 0x1310 [n, r]).irq 0x40038000 0
    else if st = 1 && (2 ≤ prev || d0 = 4) then (d.event 0x1313 [n, r]).irq 0x40038000 3
    else d
  else
    let second := x.noResult + 1 = 2
    let d := d.putCase n { x with noResult := satU 8 (x.noResult + 1), level := if second then 3 else x.level }
    let d := (((d.putF k 16 3 4).putB k 19 true).putF k 24 8 (d.w LAW.CQ_RUN).toNat).event 0x1312 [n]
    if second && prev != 3 then (d.event 0x1311 [n, 0]).irq 0x40038000 1 else d

/-- The margin a case is sorted by (R290, R292): 0 after two runs without a result. -/
def cqSortKey (d : Dev) (n : Nat) : BitVec 64 := if 2 ≤ (cqCase d n).noResult then F64.zero else (cqCase d n).margin

/-- Cases in ascending margin, lower number first. -/
def insertCase (d : Dev) (n : Nat) (l : List Nat) : List Nat :=
  match l with
  | [] => [n]
  | m :: t => if F64.le (cqSortKey d m) (cqSortKey d n) then m :: insertCase d n t else n :: m :: t

/-- The branches that cases fill from now on, 63 for none (R292). -/
def branchPick (c : Cfg) (d : Dev) : List Nat :=
  let cs := ((List.range 48).filter (fun n => cqEnabled c n && c.b (LAW.CQ_CASE_CFG n) 1)).foldl (fun l n => insertCase d n l) []
  let cs := cs.take (branchCount c)
  cs ++ List.replicate (4 - cs.length) 63

/-- The consequence result record (Table 12.3). -/
def cqRecord (c : Cfg) (d : Dev) (branches : List Nat) : List Byte :=
  let branchOf (n : Nat) : Nat := (branches.idxOf? n).getD 255
  let case_ (n : Nat) : List Byte :=
    let x := cqCase d n
    F64.bytes x.margin ++ F64.bytes x.scale ++ F64.bytes x.residual
      ++ leBytes 1 (d.f (LAW.CQ_RES n) 16 3) ++ leBytes 1 x.code ++ leBytes 1 (branchOf n) ++ leBytes 1 x.noResult ++ leBytes 4 0
  leBytes 4 (d.w LAW.CQ_RUN).toNat ++ leBytes 1 ((List.range 48).filter (cqEnabled c)).length ++ leBytes 3 0 ++ leBytes 8 d.tick
    ++ (tauEnv d).flatMap F64.bytes ++ (tauRef c d).flatMap F64.bytes
    ++ (List.range 48).flatMap case_
    ++ (branches.take 4).flatMap (fun n => leBytes 1 (if n = 63 then 255 else n)) ++ leBytes 4 0
    ++ leBytes 8 d.law.envelopeDone.1 ++ leBytes 1 d.law.envelopeDone.2 ++ leBytes 7 0
    ++ (d.law.envelopeShown ++ List.replicate (72 - d.law.envelopeShown.length) F64.nan).flatMap F64.bytes

/-- A run completes (R290 to R294). -/
def cqComplete (c : Cfg) (st : Store) (d : Dev) : Store × Dev :=
  if !d.law.cqActive then (st, d)
  else
    let en := (List.range 48).filter (cqEnabled c)
    let d := en.foldl (fun d n => d.cqJudge c n) d
    let pick := branchPick c d
    let d := { d with law := { d.law with cqActive := false, cqTodo := [], nextBranch := some (d.esc.beat, pick) } }
    let d := match d.law.envelope with
      | some (72, x) => { d with law := { d.law with envelope := none, envelopeDone := (d.tick, x), envelopeShown := d.law.envelopeVals } }
      | _ => d
    let cnt (s : Nat) : Nat := (en.filter (fun n => d.f (LAW.CQ_RES n) 16 3 = s)).length
    let low := en.foldl (fun b n => match b with
      | none => some n
      | some m => if F64.lt (cqCase d n).margin (cqCase d m).margin then some n else some m) (none : Option Nat)
    let d := d.putN LAW.CQ_STAT (low.getD 0 + cnt 3 * 2 ^ 8 + cnt 2 * 2 ^ 16 + cnt 4 * 2 ^ 24)
    writeRun 100 st d 0 cqBase (cqRecord c d pick) false

/-- CQ_RUN_COMPLETE (R290): every job of the run has ended. -/
def execCqRunComplete (s : State) : Out :=
  onMem s fun c st d =>
    if d.law.cqTodo.isEmpty && !d.slv.jobs.any (fun j => j.stream = 2) then cqComplete c st d else (st, d)

/-- Envelope directions a run takes (R293): 8 in A and D, 15 in B, 4 in C. -/
def envelopePerRun (c : Cfg) : Nat := if calibre c = 1 then 15 else if calibre c = 2 then 4 else 8

/-- The CQ_GRP pallet (R287, R288, R290): outstanding jobs are cancelled, the run under way completes, the next begins. -/
def cqStart (c : Cfg) (st : Store) (d : Dev) : Store × Dev :=
  let (st, d) := if d.law.cqActive then cqComplete c st (d.cancelStream 2) else (st, d)
  let en := (List.range 48).filter (cqEnabled c)
  if en.isEmpty then (st, { d with law := { d.law with nextBranch := some (d.esc.beat, [63, 63, 63, 63]) } })
  else
    let d := d.putN LAW.CQ_RUN ((d.w LAW.CQ_RUN).toNat + 1)
    let env (i : Nat) : BitVec 64 := F64.add (estNum st (0x080 + 8 * i)) (estNum st (0x098 + 8 * i))
    let d := en.foldl (fun d n => d.putCase n { cqCase d n with
      got := !cqAnyLeft c d n, scale := if cqAnyLeft c d n then (cqCase d n).scale else F64.zero }) d
    let cases := en.filter (cqAnyLeft c d)
    let (dirs, envl) := match d.law.envelope with
      | none => (([] : List Nat), none)
      | some (i, x) =>
        let k := min (envelopePerRun c) (72 - i)
        ((List.range k).map (fun m => 64 + i + m), some (i + k, x))
    let d := { d with law := { d.law with
      cqActive := true, cqStart := d.esc.beat, tauEnv := (env 0, env 1, env 2), cqTodo := cases ++ dirs, envelope := envl } }
    (st, d.cqFill c st 200)

/-- ENVELOPE_START (R293): at a multiple of 10 000 beats a new envelope of 72 directions, the second half without the group of the case of
lowest margin. DEDUCED (log 95): the phase. -/
def execEnvelopeStart (s : State) : Out :=
  onDev s fun _ d =>
    if !lawRuns d || d.esc.beat % 10000 != 0 then d
    else { d with law := { d.law with envelope := some (0, d.f LAW.CQ_STAT 0 6), envelopeVals := List.replicate 72 F64.nan } }

/-! ### Job groups and mode edges -/

/-- The law owns a job group (R70). -/
def lawOwns (c : Cfg) (g : Nat) : Bool := [c.f LAW.GROUPS 0 8, c.f LAW.GROUPS 8 8, c.f LAW.GROUPS 16 8].contains g

/-- A JOB pallet of the law (R70, R277, R281, R290): nothing is launched outside the modes in which the law runs. -/
def lawGroup (c : Cfg) (st : Store) (d : Dev) (g : Nat) : Store × Dev :=
  if !c.b LAW.CFG 0 || !(lawRuns d || d.modes.rampBeat) then (st, d)
  else
    let d := if c.f LAW.GROUPS 0 8 = g then d.allocLaunch c st else d
    let (st, d) := if c.f LAW.GROUPS 8 8 = g && decide (7 ≤ d.runMode) then mpcLaunch c st d else (st, d)
    if c.f LAW.GROUPS 16 8 = g && lawRuns d then cqStart c st d else (st, d)

/-- At a beat boundary the states of the actuators become effective for the jobs launched from now on (R267); a blend whose
weight reaches 1 ends (R279). -/
def Dev.lawBoundary (d : Dev) (c : Cfg) : Dev :=
  let mask := ((usedActuators c).filter (fun n => actState d n != 1)).foldl (fun s n => s + 2 ^ n) 0
  let d : Dev := { d with law := { d.law with zeroWidth := mask } }
  match d.law.blendStart with
  | none => d
  | some a =>
    if a + c.f LAW.CFG2 8 8 * frameBeats c ≤ d.esc.beat then
      { d with law := { d.law with blendStart := none } }.putB LAW.STAT 12 false
    else d

/-- The reference from the estimate at an edge into mode 7 to 10 (R280, Table 2.8): position and heading, the final waypoint after a route's end,
the nearest point of the route, or own place relative to the target. -/
def Dev.takeReference (d : Dev) (c : Cfg) (new cause : Nat) : Dev :=
  let k := d.fus.core
  let here : Vec := [k.at 0, k.at 1, k.at 2]
  let rel := k.relative (F64.ofRatio (c.f FUS.REL_CFG 8 8) 100) (c.f FUS.EST_CFG 4 6) d.fus.opens
  let ref := if cause = 0x0B then d.law.routeLast
    else if new = 10 then [F64.neg (Vec.at rel 0), F64.neg (Vec.at rel 1), k.at 2]
    else here
  { d with law := { d.law with
    ref := ref, refTick := d.fus.opens.toNat, routeFrom := if new = 9 then some (d.law.routeNear.1, d.law.routeNear.2, d.fus.opens.toNat) else none } }

/-- The law at a mode edge of the running mode (R47, R280, Table 2.8); a takeover keeps everything. -/
def Dev.lawModeEdge (d : Dev) (c : Cfg) (old new cause : Nat) : Dev :=
  if new < 6 || 10 < new then
    let d := ((d.cancelStream 0).cancelStream 1).cancelStream 2
    { d with law := { d.law with cqActive := false, cqTodo := [], spPending := false } }
  else if new = 6 then
    let d := if decide (7 ≤ old ∧ old ≤ 10) then d.cancelStream 1 else d
    let d := { d with law := { d.law with plan := none, planPrev := none, blendStart := none } }
    ((d.setSource 3).putB LAW.STAT 12 false).putF LAW.STAT 16 16 0
  else
    let d := ({ d with law := { d.law with blendStart := none } } : Dev).takeReference c new cause
    ((d.setSource 2).putF LAW.STAT 2 4 0).putB LAW.STAT 12 false

/-- At a frame close the law notes where the vessel lies on its route (precondition 6, Table 2.8), and whether integrals stand still (R263). -/
def Dev.lawFrame (d : Dev) (st : Store) : Dev :=
  let n := routeCount st
  let d := d.putB LAW.STAT 15 (estCoasts st)
  { d with law := { d.law with
    routeOk := withinCorridor st
    routeNear := if n = 0 then (0, F64.zero) else (nearestOnRoute st [estNum st 0x20, estNum st 0x28]).1
    routeLast := if n = 0 then [] else (waypoint st (n - 1)).take 3 } }

/-- A commit of LAW page 0, of page 1 (R265, Table 12.2). -/
def Dev.lawCommitted (d : Dev) (c : Cfg) : Dev := d.putN LAW.G_USED (gUsed c)
def Dev.casesCommitted (d : Dev) (c : Cfg) : Dev :=
  let d := (List.range 48).foldl (fun d n => d.putN (LAW.CQ_RES n) 0) d
  { d with law := { d.law with cqCases := [] } }.actuatorsCommitted c

/-! ### Results reach their consumers (R32, R33, R235) -/

/-- What the law does with a published result. -/
def lawTake (c : Cfg) (st : Store) (d : Dev) (j : Job) : Store × Dev :=
  if j.stream = 0 then (st, d.allocResult c st j)
  else if j.stream = 1 then mpcResult c st d j
  else if j.stream = 2 then (st, d.cqResult c st j)
  else (st, d)

/-- Held results of a stream that wait for no lower-numbered job are published, lowest first (R32). -/
def releaseHeld (c : Cfg) (st : Store) (d : Dev) (s : Nat) : Store × Dev :=
  (heldJobs d s).foldl (fun (p : Store × Dev) j =>
    if lowerPending p.2 s j.seq then p
    else
      let (st, d) := publishJob c p.1 p.2 j
      lawTake c st d j) (st, d)

/-- Jobs have left the queue: results held behind them are published (R32), the next jobs of a run follow (R19), dispatch runs. -/
def settleStreams (c : Cfg) (st : Store) (d : Dev) : Store × Dev :=
  let (st, d) := (List.range 7).foldl (fun (p : Store × Dev) s => releaseHeld c p.1 p.2 s) (st, d)
  (st, (d.cqFill c st 200).reserve)

/-- A completed result is written and published in its turn, held, or discarded as overtaken (R32, R33, R235). -/
def completeJob (c : Cfg) (st : Store) (d : Dev) (j : Job) (cycles : Nat) : Store × Dev :=
  let j := { j with cycles := satU 32 (j.cycles + cycles) }
  let pub := (d.w (SLV.STRM_PUB j.stream)).toNat
  let late := pub != 0 && decide (seqDiff 32 j.seq pub ≤ 0)
  let r := if j.resultAddr < 0x80000000 then 0 else 1
  let (st, d) := if late && j.stream ≤ 2 then (st, d)
    else match (d.slot j.slot).live with
      | none => (st, d)
      | some x =>
        let bs := recordOf d j x
        writeRun (bs.length / 32 + 2) st d r j.resultAddr bs false
  if late then
    let d := d.overtaken j.stream j.seq
    settleStreams c st (if j.stream = 1 then d.mpcReject c 9 j.seq j.primal else d)
  else settleStreams c st (d.putJob { j with phase := .held, heldSince := d.tick, clusters := [] })

/-- WRITE_BACK_COMPLETE (R235). -/
def execWriteBackComplete (stream : Fin 7) (seq : Word) (cycles : Nat) (s : State) : Out :=
  onMem s fun c st d =>
    match d.findJob stream.val seq.toNat with
    | none => (st, d)
    | some j => if j.phase = .writeBack then completeJob c st d j cycles else (st, d)

/-- HOLD_LIMIT_EXPIRY (R33): the longest held result is published, with those before it; lower-numbered jobs are overtaken. -/
def execHoldLimitExpiry (stream : Fin 7) (s : State) : Out :=
  onMem s fun c st d =>
    let n := stream.val
    match (heldJobs d n).foldl (fun b j => match b with
      | none => some j
      | some k => if j.heldSince < k.heldSince then some j else some k) (none : Option Job) with
    | none => (st, d)
    | some x =>
      let d := d.advanceTo (x.heldSince + holdLimit c n * ticksPerMs)
      let (st, d) := ((heldJobs d n).filter (fun j => !seqBefore x.seq j.seq)).foldl (fun (p : Store × Dev) j =>
        let (st, d) := publishJob c p.1 p.2 j
        lawTake c st d j) (st, d)
      settleStreams c st d

/-- CANCEL (R237): a firmware job leaves at once; a later result held for it is released. -/
def execCancel (value : Word) (s : State) : Out :=
  onMemWrite s fun c st d =>
    let n := fld value 0 3
    if fld value 16 16 != 0x3C7B then (st, d)
    else if n < 3 || 6 < n then (st, d.putN SLV.CANCEL_RES 2)
    else match d.findJob n (d.w SLV.CANCEL_SEQ).toNat with
      | none => (st, d.putN SLV.CANCEL_RES 1)
      | some j => settleStreams c st ((d.cancelJob j).putN SLV.CANCEL_RES 0)

/-! ### Clusters leave dispatch (R238 to R240) -/

/-- CL_ISOLATE (R240): refused with a WIDTH 4 slot enabled, or when another cluster is already out of dispatch. -/
def execClIsolate (cluster : Fin 4) (value : Word) (s : State) : Out :=
  onMemWrite s fun c st d =>
    let n := cluster.val
    let wide := (List.range 8).any (fun k => c.b (SLV.SLOT_CFG k) 0 && match (d.slot k).live with
      | none => false
      | some x => x.width = 4)
    if fld value 16 16 != 0x3C7B || !bit value 0 || wide || inDispatch d < 4 then (st, d)
    else settleStreams c st ((d.putF (SLV.CL_STAT n) 0 2 1).unreserve n).prune

/-- CLUSTER_ISOLATED (R240). -/
def execClusterIsolated (cluster : Fin 4) (s : State) : Out :=
  onDev s fun _ d =>
    let n := cluster.val
    if clState d n = 1 && !d.slv.jobs.any (fun j => j.on n) then (d.putF (SLV.CL_STAT n) 0 2 2).event 0x1205 [n] else d

/-- CLUSTER_FAULT (R238, R239, R257): the cluster leaves dispatch; every job on it ends with FAULT and releases its clusters. A
watchdog expiry is an iteration of twice CYC_ITER, which is an overrun too (R223). -/
def execClusterFault (cluster : Fin 4) (watchdog : Bool) (s : State) : Out :=
  onMem s fun c st d =>
    let n := cluster.val
    if clState d n = 3 then (st, d)
    else
      let d := (((d.putF (SLV.CL_STAT n) 0 2 3).bump (SLV.CL_FAULT_CNT n)).event 0x1204 [n, watchdog.toNat]).unreserve n
      let here := d.slv.jobs.filter (fun j => j.on n)
      let d := match here.find? (fun j => j.phase = .iterating) with
        | none => d
        | some j =>
          let cyc := match (d.slot j.slot).live with | none => 0 | some x => 2 * x.cycIter
          if watchdog then (d.bump SLV.OVERRUN_CNT).event 0x1207 [j.slot, cyc] else d
      settleStreams c st (here.foldl (fun d j => d.finishJob j 6) d).prune

end Sys2Proof.Machine
end

