-- ==== Sys2Proof/Machine/Loops.lean ====
section
/-! DEFINITION. The loop engine (13_loop_engine.md): groups and samples, feedback, the slot law, regions, plausibility, outputs,
restarts and set-points. -/
namespace Sys2Proof.Machine

/-! ### Arithmetic (R301) -/

/-- The value saturated to 32 bits. -/
def s32 (x : Int) : Int := satS 32 x

/-- The exact product brought back by 2^s, before saturation (R301). -/
def mulX (a b : Int) (s : Nat) : Int := if s = 0 then a * b else (a * b + 2 ^ (s - 1)) / 2 ^ s

/-- mul(a, b, s) of R301. -/
def mulS (a b : Int) (s : Nat) : Int := s32 (mulX a b s)

/-- How many of the exact values saturate (R301). -/
def satCount (l : List Int) : Nat := (l.filter (fun x => s32 x != x)).length

/-- A signed 32-bit word of any integer. -/
def wrap32 (x : Int) : Int := signed 32 (unsigned 32 x)

def clampI (x lo hi : Int) : Int := min (max x lo) hi

/-! ### Slots -/

def Dev.loop (d : Dev) (k : Nat) : LoopDev := Assoc.get {} d.lpe.slots k
def Dev.putLoop (d : Dev) (k : Nat) (x : LoopDev) : Dev := { d with lpe := { d.lpe with slots := Assoc.set {} d.lpe.slots k x } }

/-- `SL_STAT.STATE` (Table 13.3): 0 OFF, 1 HALTED, 2 RUN, 3 HOLD, 4 OPEN, 5 TRIPPED. -/
def loopState (d : Dev) (k : Nat) : Nat := d.f (LPE.SL_STAT k) 0 3
/-- The output of a slot, FOUT. -/
def loopOut (d : Dev) (k : Nat) : Int := d.s (LPE.U k) 0 32

def slEn (c : Cfg) (k : Nat) : Bool := c.b (LPE.SL_CFG k) 0
def slDiv (c : Cfg) (k : Nat) : Nat := c.f (LPE.SL_CFG k) 1 7
def slWrap (c : Cfg) (k : Nat) : Bool := c.b (LPE.SL_CFG k) 8
def slCasc (c : Cfg) (k : Nat) : Bool := c.b (LPE.SL_CFG k) 10
def slOuter (c : Cfg) (k : Nat) : Nat := c.f (LPE.SL_CFG k) 12 6
def fsig (c : Cfg) (k : Nat) : Nat := c.f (LPE.SL_FMT k) 0 5
def fout (c : Cfg) (k : Nat) : Nat := c.f (LPE.SL_FMT k) 8 5
def fgain (c : Cfg) (k : Nat) : Nat := c.f (LPE.SL_FMT k) 16 5
/-- sh = FSIG + FGAIN - FOUT (R305). -/
def slSh (c : Cfg) (k : Nat) : Nat := fsig c k + fgain c k - fout c k
/-- FB_TMO in ticks. -/
def fbTmo (c : Cfg) (k : Nat) : Nat := c.f (LPE.SL_FB_SRC k) 16 16 * 10 * ticksPerUs

/-- The loop table (R314, Table 22.14): gain sets and schedule records of eight int32. -/
def loopTable : Nat := 0x201C6000
def rec8 (st : Store) (addr : Nat) : List Int :=
  let bs := st.bytes addr 32
  (List.range 8).map (fun i => signed 32 (leAt bs (4 * i) 4))
def gainSet (st : Store) (i : Nat) : List Int := rec8 st (loopTable + 32 * i)
/-- Slot k uses schedule record k (R312, R314; DEDUCED). -/
def schedRec (st : Store) (k : Nat) : List Int := rec8 st (loopTable + 0x2000 + 32 * k)
def gKP (g : List Int) : Int := g.getD 0 0
def gKI (g : List Int) : Int := g.getD 1 0
def gKD (g : List Int) : Int := g.getD 2 0
def gAD (g : List Int) : Int := g.getD 3 0
def gBW (g : List Int) : Int := g.getD 4 0
def gCW (g : List Int) : Int := g.getD 5 0
def gKA (g : List Int) : Int := g.getD 6 0
def gKOL (g : List Int) : Int := g.getD 7 0

/-- A slot named in an actuator entry (R311). -/
def actuatorSlot (c : Cfg) (k : Nat) : Bool := (List.range 40).any (fun n => actType c n != 0 && c.f (LAW.ACT_CFG n) 8 8 = k)

/-! ### Feedback (R303, R304, R309) -/

/-- The field at byte `ofs` of an item: 0 int16, 1 uint16, 2 int32. -/
def itemField (i : Item) (ofs fmt : Nat) : Option Int :=
  let n := if fmt = 2 then 4 else 2
  if i.payload.length < ofs + n then none
  else
    let v := leAt i.payload ofs n
    some (if fmt = 1 then (v : Int) else signed (8 * n) v)

/-- The field of the latest VALID item of a source captured at or before `t` and at most `tmo` ticks old. -/
def sourceField (d : Dev) (src ofs fmt t tmo : Nat) : Option Int :=
  match Assoc.get none d.flow.lastValid src with
  | none => none
  | some i => if t < i.tick || i.tick + tmo < t then none else itemField i ofs fmt

/-- The last completed conversion of analogue input `ch` is at most 50 microseconds old at `t` (R303). -/
def ainFresh (d : Dev) (ch t : Nat) : Bool :=
  match (Assoc.get {} d.field.ains ch : AinDev).converted with
  | none => false
  | some u => decide (t ≤ u + 50 * ticksPerUs)

/-- The raw feedback of a slot from the module's own inputs; none when it is stale (R303). -/
def ownFeedback (c : Cfg) (d : Dev) (k t : Nat) : Option Int :=
  let fb := c.w (LPE.SL_FB k)
  let typ := fld fb 0 3
  let ch := fld fb 4 3
  if typ ≤ 1 then
    if !c.b (ENC.ENC_CFG (ch % 4)) 0 || d.b (ENC.ENC_STAT (ch % 4)) 1 then none
    else some (if typ = 0 then d.s (ENC.ENC_POS (ch % 4)) 0 32 else d.s (ENC.ENC_SPEED (ch % 4)) 0 32)
  else if typ = 2 then
    if !c.b (ANU.AIN_CFG ch) 0 || d.b (ANU.AIN_VAL ch) 16 || !ainFresh d ch t then none else some (d.s (ANU.AIN_VAL ch) 0 16)
  else sourceField d (c.f (LPE.SL_FB_SRC k) 0 16) (fld fb 16 8) (fld fb 13 2) t (fbTmo c k)

/-- The feedback signal y of a raw value (R303), exact before saturation. -/
def feedbackX (c : Cfg) (k : Nat) (raw : Int) : Int := raw * 2 ^ c.f (LPE.SL_FB k) 8 5 + c.s (LPE.SL_FB_OFS k) 0 32

/-- k of R309 in UQ2.30 and whether the clamp binds; none when V_meas is stale or 0. Rounded to nearest (DEDUCED). -/
def vcompK (c : Cfg) (d : Dev) (k t : Nat) : Option (Int × Bool) :=
  let ff := c.w (LPE.SL_FF k)
  let src := fld ff 1 2
  let meas : Option Int :=
    if src = 0 || src = 1 then some (d.f (FIO.SUP_STAT src) 0 16)
    else (sourceField d (c.f (LPE.SL_VSRC k) 0 16) (c.f (LPE.SL_VSRC k) 16 8) 0 t (fbTmo c k)).map (· * 10)
  match meas with
  | none => none
  | some m =>
    if m ≤ 0 then none
    else
      let v : Int := (2 * ((fld ff 16 16 : Int) * 10 * 2 ^ 30) + m) / (2 * m)
      let w := clampI v (2 ^ 29) (2 ^ 31)
      some (w, w != v)

/-! ### One sample of one slot (R305 to R313) -/

/-- The region for the scheduling variable `s` (R312): up then down, from region `g`. -/
def regionUp (rec : List Int) (s hyst : Int) (top fuel g : Nat) : Nat :=
  match fuel with
  | 0 => g
  | n + 1 => if g < top && decide (rec.getD g 0 + hyst ≤ s) then regionUp rec s hyst top n (g + 1) else g
def regionDown (rec : List Int) (s hyst : Int) (g : Nat) : Nat :=
  match g with
  | 0 => 0
  | n + 1 => if s < rec.getD n 0 - hyst then regionDown rec s hyst n else n + 1
def regionOf8 (c : Cfg) (rec : List Int) (k : Nat) (s : Int) (start : Nat) (hyst : Int) : Nat :=
  let top := min 8 (max 1 (c.f (LPE.SL_GAIN k) 8 4)) - 1
  regionDown rec s hyst (regionUp rec s hyst top 8 (min start top))

/-- The scheduling variable (R312); none holds the region: an item that is not VALID, an analogue input out of range or timed out (R12,
R451). -/
def schedVar (c : Cfg) (d : Dev) (k : Nat) (r y : Int) : Option Int :=
  let w := c.w (LPE.SL_GAIN k)
  let ch := fld w 16 6
  match fld w 12 3 with
  | 0 => some r
  | 1 => some y
  | 2 =>
    if !c.b (ANU.AIN_CFG (ch % 8)) 0 || d.b (ANU.AIN_VAL (ch % 8)) 16 || ainStale d (ch % 8) then none
    else some (d.s (ANU.AIN_VAL (ch % 8)) 0 16)
  | 3 =>
    match Assoc.get none d.flow.lastItem (c.f (LPE.SL_SCHED k) 0 16) with
    | none => none
    | some i => if itemValid i then itemField i (c.f (LPE.SL_SCHED k) 16 8) (c.f (LPE.SL_SCHED k) 24 2) else none
  | _ => some (loopOut d ch)

/-- The errors e, ep, ed of R305 and the exact values formed. -/
def slotErrs (c : Cfg) (k : Nat) (gs : List Int) (r y : Int) : Int × Int × Int × List Int :=
  if slWrap c k then
    let e := wrap32 (r - y)
    (e, e, e, [])
  else
    let b := mulX (gBW gs) r (fgain c k)
    let w := mulX (gCW gs) r (fgain c k)
    (s32 (r - y), s32 (s32 b - y), s32 (s32 w - y), [r - y, b, s32 b - y, w, s32 w - y])

/-- The acceleration term of R305 and the exact values formed. -/
def slotFF (c : Cfg) (k : Nat) (x : LoopDev) (gs : List Int) (r : Int) : Int × List Int :=
  if !c.b (LPE.SL_FF k) 3 then (0, [])
  else
    let dr := r - 2 * x.r1 + x.r2
    if slWrap c k then let m := mulX (gKA gs) (wrap32 dr) (slSh c k); (s32 m, [m])
    else let m := mulX (gKA gs) (s32 dr) (slSh c k); (s32 m, [dr, m])

/-- A slot in the course of one sample: its memory, state, region, integral, output, residual, counts and flags, the exact values
formed (for R301) and the events. -/
structure SlotRun where
  x : LoopDev
  st : Nat
  g : Nat
  i : Int
  u : Int
  res : Int
  nbad : Nat
  frozen : Bool
  stale : Bool
  vlim : Bool
  exact : List Int
  events : List (Nat × List Int)
  trip : Bool

def loadSlot (d : Dev) (k : Nat) : SlotRun :=
  { x := d.loop k, st := loopState d k, g := d.f (LPE.SL_STAT k) 4 3, i := d.s (LPE.SL_I k) 0 32, u := loopOut d k
    res := d.s (LPE.SL_RES k) 0 32, nbad := d.f (LPE.SL_STAT k) 16 8, frozen := d.b (LPE.SL_STAT k) 8
    stale := d.b (LPE.SL_STAT k) 9, vlim := d.b (LPE.SL_STAT k) 10, exact := [], events := [], trip := false }

/-- vcomp(x) for a k of R309; none is the identity (VCOMP_EN 0). -/
def vcompX (vk : Option Int) (x : Int) : Int := match vk with | none => x | some k => mulX x k 30

/-- The slot acts on a violation or stale feedback (R304, R313): the stronger ACTION stands. -/
def SlotRun.act (w : SlotRun) (k action : Nat) (r : Int) : SlotRun :=
  let new := if action = 0 then 3 else if action = 1 then 4 else 5
  if new ≤ w.st then w
  else if new = 3 then { w with st := 3, nbad := 0, x := { w.x with rHeld := r } }
  else if new = 4 then { w with st := 4, nbad := 0, x := { w.x with d := 0 } }
  else { w with st := 5, nbad := 0, i := 0, x := { w.x with d := 0 }, events := w.events ++ [(0x1403, [(k : Int)])], trip := true }

/-- A slot that this one feeds is in HOLD, OPEN or TRIPPED, or has its output clamped in the direction of `di` (R308). -/
def outerFrozen (c : Cfg) (d : Dev) (k : Nat) (di : Int) : Bool :=
  (List.range 16).any (fun j =>
    let t := k / 16 * 16 + j
    slEn c t && slCasc c t && slOuter c t = k
      && (decide (3 ≤ loopState d t) || (decide (0 < di) && decide ((d.loop t).usat = 1))
        || (decide (di < 0) && decide ((d.loop t).usat = -1))))

/-- The closed-loop law (R305). `bump` is the output to meet on automatic recovery (R313). -/
def SlotRun.law (w : SlotRun) (c : Cfg) (st : Store) (d : Dev) (k : Nat) (r y e ep ed : Int) (vk : Option Int) (bump : Option Int) : SlotRun :=
  let sh := slSh c k
  let base := c.f (LPE.SL_GAIN k) 0 8
  let umin := c.s (LPE.SL_UMIN k) 0 32
  let umax := c.s (LPE.SL_UMAX k) 0 32
  let imin := c.s (LPE.SL_IMIN k) 0 32
  let imax := c.s (LPE.SL_IMAX k) 0 32
  let gn := match schedVar c d k r y with
    | none => w.g
    | some s => let sr := schedRec st k; regionOf8 c sr k s w.g (sr.getD 7 0)
  let p0 := mulX (gKP (gainSet st (base + w.g))) ep sh
  let gs := gainSet st (base + gn)
  let pX := mulX (gKP gs) ep sh
  let swX := w.i + s32 p0 - s32 pX
  let w : SlotRun := if gn = w.g then w else
    { w with i := s32 swX, g := gn, exact := w.exact ++ [p0, swX], events := w.events ++ [(0x1406, [(k : Int), (gn : Int)])] }
  let p := s32 pX
  let dA := mulX (gAD gs) w.x.d (fgain c k)
  let dB := mulX (gKD gs) (s32 (ed - w.x.ed1)) sh
  let dX := s32 dA + s32 dB
  let dn := s32 dX
  let (ff, fx) := slotFF c k w.x gs r
  let diX := mulX (gKI gs) e sh
  let di := s32 diX
  let vX := p + dn + ff
  let v := s32 vX
  let w : SlotRun := { w with x := { w.x with d := dn }, exact := w.exact ++ [pX, dA, ed - w.x.ed1, dB, dX] ++ fx ++ [diX, vX] }
  match bump with
  | some b =>
    let need := match vk with | none => b | some kk => (2 * (b * 2 ^ 30) + kk) / (2 * kk)
    let it := clampI (s32 (s32 need - v)) imin imax
    let urX := vcompX vk (s32 (v + it))
    let ur := s32 urX
    { w with i := it, u := clampI ur umin umax, frozen := false, exact := w.exact ++ [v + it, urX]
             x := { w.x with usat := if umax < ur then 1 else if ur < umin then -1 else 0 } }
  | none =>
    let it := clampI (s32 (w.i + di)) imin imax
    let urX := vcompX vk (s32 (v + it))
    let ur := s32 urX
    let frozen := (decide (umax < ur) && decide (0 < di)) || (decide (ur < umin) && decide (di < 0)) || outerFrozen c d k di
    let w : SlotRun := { w with exact := w.exact ++ [w.i + di, v + it, urX] }
    let ur2X := vcompX vk (s32 (v + w.i))
    let fin := if frozen then s32 ur2X else ur
    { w with i := if frozen then w.i else it, u := clampI fin umin umax, frozen := frozen
             exact := if frozen then w.exact ++ [v + w.i, ur2X] else w.exact
             x := { w.x with usat := if umax < fin then 1 else if fin < umin then -1 else 0 } }

/-- The open-loop output of ACTION OPEN (R313). -/
def SlotRun.openLoop (w : SlotRun) (c : Cfg) (st : Store) (k : Nat) (r : Int) (vk : Option Int) : SlotRun :=
  let gs := gainSet st (c.f (LPE.SL_GAIN k) 0 8 + w.g)
  let (ff, fx) := slotFF c k w.x gs r
  let a := mulX (gKOL gs) r (slSh c k)
  let urX := vcompX vk (s32 (s32 a + ff))
  let ur := s32 urX
  let umin := c.s (LPE.SL_UMIN k) 0 32
  let umax := c.s (LPE.SL_UMAX k) 0 32
  { w with u := clampI ur umin umax, exact := w.exact ++ fx ++ [a, s32 a + ff, urX]
           x := { w.x with d := 0, usat := if umax < ur then 1 else if ur < umin then -1 else 0 } }

/-- The prediction and the filtered residual (R313), on the real output in every state. -/
def SlotRun.predict (w : SlotRun) (c : Cfg) (k : Nat) (y : Int) : SlotRun :=
  let dead := c.f (LPE.SL_PLAUS k) 4 6
  let old := w.x.hist.getD dead 0
  let m := mulX (c.s (LPE.SL_PGAIN k) 0 32) old (fout c k + fgain c k - fsig c k)
  let a := mulX (c.f (LPE.SL_PMODEL k) 0 16) (s32 (s32 m - w.x.yh)) 16
  let yX := w.x.yh + s32 a
  let yh := s32 yX
  let dy := if slWrap c k then wrap32 (y - yh) else s32 (y - yh)
  let b := mulX (c.f (LPE.SL_PMODEL k) 16 16) (s32 (s32 (dy.natAbs : Int) - w.res)) 16
  let rX := w.res + s32 b
  { w with x := { w.x with yh := yh }, res := s32 rX
           exact := w.exact ++ [m, s32 m - w.x.yh, a, yX] ++ (if slWrap c k then [] else [y - yh]) ++ [(dy.natAbs : Int) - w.res, b, rX] }

/-- One sample of a slot in RUN, HOLD, OPEN or TRIPPED (R303 to R313), with the raw feedback of the sample. -/
def slotSample (c : Cfg) (st : Store) (d : Dev) (k t : Nat) (raw : Option Int) : SlotRun :=
  let w := loadSlot d k
  let typ := c.f (LPE.SL_FB k) 0 3
  let pen := c.b (LPE.SL_PLAUS k) 0
  let action := if pen then c.f (LPE.SL_PLAUS k) 1 2 else 0
  let nLim := max 1 (c.f (LPE.SL_PLAUS k) 16 8)
  let thr := c.s (LPE.SL_PTHR k) 0 32
  let yX := match raw with | none => w.x.y | some v => if typ = 4 then 0 else feedbackX c k v
  let y := if slWrap c k then wrap32 yX else s32 yX
  let rNew := if slCasc c k then loopOut d (slOuter c k) else d.s (LPE.SP k) 0 32
  let r := if w.st = 3 then w.x.rHeld else rNew
  let (vk, vlim, vstale) : Option Int × Bool × Bool :=
    if !c.b (LPE.SL_FF k) 0 then (none, false, false)
    else match vcompK c d k t with
      | none => (some (2 ^ 30), true, true)
      | some (kk, b) => (some kk, b, false)
  let w : SlotRun := { w with vlim := vlim, exact := if slWrap c k then [] else [yX], x := { w.x with y := y } }
  let w : SlotRun := if w.x.fresh then
      { w with i := 0, res := 0, nbad := 0, g := (match schedVar c d k r y with | none => w.g | some s => regionOf8 c (schedRec st k) k s 0 0)
               x := { w.x with d := 0, r1 := r, r2 := r, yh := y, hist := [], vrun := false } }
    else w
  let w : SlotRun := if vstale && !w.x.vrun then { w with x := { w.x with vrun := true }, events := w.events ++ [(0x1408, [(k : Int)])] } else w
  let gs := gainSet st (c.f (LPE.SL_GAIN k) 0 8 + w.g)
  let (_, _, ed0, _) := slotErrs c k gs r y
  let w : SlotRun := if w.x.fresh then { w with x := { w.x with fresh := false, ed1 := ed0 } } else w
  let w : SlotRun := if raw.isNone then
      if w.stale then w else SlotRun.act { w with stale := true, events := w.events ++ [(0x1404, [(k : Int)])] } k action r
    else { w with stale := false }
  let w : SlotRun := if pen && !w.stale then
      let w := w.predict c k y
      if w.st = 2 then
        let nb := if thr < w.res then satU 8 (w.nbad + 1) else 0
        let w : SlotRun := { w with nbad := nb }
        if nLim ≤ nb then SlotRun.act { w with events := w.events ++ [(0x1401, [(k : Int), w.res])] } k action r else w
      else w
    else w
  let (w, bump) : SlotRun × Option Int := if (w.st = 3 || w.st = 4) && !w.stale then
      let nb := if w.res ≤ thr / 2 then satU 8 (w.nbad + 1) else 0
      if nLim ≤ nb then
        ({ w with st := 2, res := 0, nbad := 0, x := { w.x with yh := y }, events := w.events ++ [(0x1402, [(k : Int)])] }, some w.u)
      else ({ w with nbad := nb }, none)
    else (if w.st = 3 || w.st = 4 then { w with nbad := 0 } else w, none)
  let r := if w.st = 3 then w.x.rHeld else rNew
  let (e, ep, ed, ex) := slotErrs c k gs r y
  let w : SlotRun := { w with exact := w.exact ++ ex }
  let w : SlotRun := if w.st = 2 then w.law c st d k r y e ep ed vk bump
    else if w.st = 4 then w.openLoop c st k r vk
    else if w.st = 3 then w
    else { w with u := 0 }
  { w with x := { w.x with ed1 := ed, r2 := w.x.r1, r1 := r, hist := (w.u :: w.x.hist).take 33 } }

/-! ### Outputs (R310) -/

/-- A byte list with `v` (2 bytes) at offset `ofs`, extended with zeros. -/
def put16 (l : List Byte) (ofs v : Nat) : List Byte :=
  let l := l ++ List.replicate (ofs + 2 - l.length) 0
  l.take ofs ++ leBytes 2 v ++ l.drop (ofs + 2)

/-- The output of a slot goes to its destination; `u` none sends 0 or off (R310). -/
def Dev.slotEmit (d : Dev) (c : Cfg) (k : Nat) (u : Option Int) : Dev :=
  let o := c.w (LPE.SL_OUT k)
  let dst := fld o 0 3
  let ch := fld o 4 4
  let q := match u with | none => 0 | some v => satS 16 (mulS v 1 (fout c k - 15))
  if dst = 1 then
    let ao := ch % 4
    if c.b (ANU.AOUT_CFG ao) 3 then
      { d with field := { d.field with pendAout := d.field.pendAout.filter (fun p => p.1 != ao) ++ [(ao, q)] } }
    else d
  else if dst = 2 then
    if sendsSetpoints d then
      let port := fld o 8 4
      let slot := fld o 12 8
      d.ownerWrites c port slot (put16 (Assoc.get [] d.law.payloads (port * 256 + slot)) (fld o 20 8) (unsigned 16 q))
    else d
  else if dst = 3 then
    let x := d.loop k
    let on := match u with
      | none => false
      | some v => decide ((2 : Int) ^ fout c k ≤ 2 * v) || (x.sent && decide ((2 : Int) ^ fout c k < 4 * v))
    let d := d.putLoop k { x with sent := on }
    if c.f (FIO.OUT_CFG ch) 3 2 = 1 && !isSafety c ch then
      { d with field := { d.field with
        pendMask := d.field.pendMask ||| 2 ^ ch
        pendBits := (d.field.pendBits &&& (65535 - 2 ^ ch)) ||| (if on then 2 ^ ch else 0) } }
    else d
  else d

/-- RUN and VIOL show the slots (Table 13.1). -/
def Dev.showLoops (d : Dev) : Dev :=
  let mask (p : Nat → Bool) (base : Nat) : Nat := ((List.range 32).filter (fun i => p (loopState d (base + i)))).foldl (fun s i => s + 2 ^ i) 0
  (((d.putN (LPE.RUN 0) (mask (· = 2) 0)).putN (LPE.RUN 1) (mask (· = 2) 32)).putN (LPE.VIOL 0) (mask (3 ≤ ·) 0)).putN
    (LPE.VIOL 1) (mask (3 ≤ ·) 32)

/-- A computed slot is stored, its saturations counted (R301), its events recorded; its output goes to its destination, which
Table 2.9 lets act or not (R48, R53: in Standby computed, not applied). -/
def Dev.storeSlot (d : Dev) (c : Cfg) (k : Nat) (w : SlotRun) : Dev :=
  let applied := sendsSetpoints d
  let stat := w.st + w.g * 2 ^ 4 + (w.x.usat != 0).toNat * 2 ^ 7 + w.frozen.toNat * 2 ^ 8 + w.stale.toNat * 2 ^ 9
    + w.vlim.toNat * 2 ^ 10 + (!applied).toNat * 2 ^ 11 + w.nbad * 2 ^ 16
  let d := d.putLoop k w.x
  let d := (((d.putN (LPE.SL_STAT k) stat).putI (LPE.SL_I k) w.i).putI (LPE.SL_RES k) w.res).putI (LPE.U k) w.u
  let n := satCount w.exact
  let d : Dev := if n = 0 then d else
    ((d.sat (LPE.SL_SAT_CNT k) 0 32 n).sat LPE.SAT_TOTAL 0 32 n).eventSec 0x1405 k [(k : Int)]
  let d := w.events.foldl (fun d e => d.event e.1 e.2) d
  let d : Dev := if w.trip then { d with sfm := { d.sfm with loopTrip := true } } else d
  d.slotEmit c k (if w.st = 5 then none else some w.u)

/-- Every computed slot gives its output anew, as at a takeover (R53). -/
def Dev.loopsEmit (d : Dev) (c : Cfg) : Dev :=
  ((List.range 64).filter (fun k => decide (2 ≤ loopState d k ∧ loopState d k ≤ 4))).foldl (fun d k => d.slotEmit c k (some (d.s (LPE.U k) 0 32))) d

/-! ### Groups (R296 to R300) -/

/-- Hops from a slot to the outermost slot of its cascade. -/
def cascadeLevel (c : Cfg) (fuel k : Nat) : Nat :=
  match fuel with
  | 0 => 0
  | n + 1 => if slCasc c k then 1 + cascadeLevel c n (slOuter c k) else 0

/-- The enabled slots of a group in cascade order, outermost first (R299). -/
def groupOrder (c : Cfg) (g : Nat) : List Nat :=
  let en := ((List.range 16).map (fun j => 16 * g + j)).filter (slEn c)
  (List.range 4).flatMap (fun l => en.filter (fun k => min 3 (cascadeLevel c 4 k) = l))

/-- A group has an enabled slot (R297). -/
def groupOn (c : Cfg) (g : Nat) : Bool := (List.range 16).any (fun j => slEn c (16 * g + j))

/-- The loop engine computes samples (Table 2.9, CFG.EN). -/
def loopsRun (c : Cfg) (d : Dev) : Bool := c.b LPE.CFG 0 && lawRuns d

/-- One sample of a group at tick `t` with sample index `idx` (R298, R299, R322). -/
def Dev.groupSample (d : Dev) (c : Cfg) (st : Store) (g idx t : Nat) (fb : Option (List (Fin 64 × Int))) : Dev :=
  let standby := d.mode = 4 || d.mode = 5
  let raw (d : Dev) (k : Nat) : Option Int :=
    if c.f (LPE.SL_FB k) 0 3 = 4 then some 0
    else if standby then ((fb.getD []).find? (fun p => p.1.val = k)).map (·.2)
    else ownFeedback c d k t
  let due := (groupOrder c g).filter (fun k => decide (2 ≤ loopState d k) && idx % max 1 (slDiv c k) = 0)
  let vals := ((groupOrder c g).filter (fun k => c.f (LPE.SL_FB k) 0 3 != 4)).filterMap (fun k => (raw d k).map (fun v => (Fin.ofNat 64 k, v)))
  let d := d.journal c (.loopFb (Fin.ofNat 4 g) idx vals)
  let d := due.foldl (fun d k => d.storeSlot c k (slotSample c st d k t (raw d k))) d
  (d.putN (LPE.GRP_SEQ g) (idx % 2 ^ 32)).showLoops

/-- The tick at which the beat in progress began. -/
def beatStart (d : Dev) : Nat := ((d.esc.beat : Int) + d.s ESC.BEAT_SLIP 0 32).toNat * ticksPerMs

/-- LOOP_SAMPLE (R296, R300): sample `j` of the beat; none is taken at or after an announced step instant. -/
def execLoopSample (group : Fin 4) (j : Fin 8) (fb : Option (List (Fin 64 × Int))) (s : State) : Out :=
  onMem s fun c st d =>
    let g := group.val
    let f := 2 ^ c.f (LPE.GRP_CFG g) 0 2
    let t := beatStart d + j.val * (ticksPerMs / f)
    if !loopsRun c d || !groupOn c g || c.b (LPE.GRP_CFG g) 2 || f ≤ j.val then (st, d)
    else if d.b TBU.STATE 9 && decide (d.tbu.stepAt ≤ t) then (st, d)
    else (st, (d.advanceTo t).groupSample c st g (d.esc.beat * f + j.val) t fb)

/-- The groups that a JOB pallet of job group `n` paces (R296). -/
def Dev.pacedSamples (d : Dev) (c : Cfg) (st : Store) (n : Nat) (fb : Option (List (Fin 64 × Int))) : Dev :=
  (List.range 4).foldl (fun d g =>
    if loopsRun c d && groupOn c g && c.b (LPE.GRP_CFG g) 2 && c.f (LPE.GRP_CFG g) 8 8 = n then
      d.groupSample c st g d.esc.beat d.tick fb
    else d) d

/-- The samples of the step beat that would fall at or after the step instant are skipped (R300). -/
def Dev.loopSkip (d : Dev) (c : Cfg) (stepAt : Nat) : Dev :=
  let b := beatStart d
  let n := (List.range 4).foldl (fun n g =>
    let f := 2 ^ c.f (LPE.GRP_CFG g) 0 2
    if groupOn c g && !c.b (LPE.GRP_CFG g) 2 then
      n + ((List.range f).filter (fun j => decide (stepAt ≤ b + j * (ticksPerMs / f)))).length
    else n) 0
  if n = 0 || !loopsRun c d then d else (d.sat LPE.SKIP_CNT 0 32 n).event 0x1407 [(n : Int)]

/-! ### States of the slots (R306, R47) -/

/-- A slot halts or goes OFF: output at zero, integrator cleared (R47, R310). -/
def Dev.haltSlot (d : Dev) (c : Cfg) (k state : Nat) : Dev :=
  let d := d.putLoop k { d.loop k with d := 0, usat := 0, fresh := true }
  ((((d.putN (LPE.SL_STAT k) state).putN (LPE.SL_I k) 0).putN (LPE.U k) 0)).slotEmit c k none

/-- A slot enters RUN (R306): its first sample takes it from the signals. -/
def Dev.runSlot (d : Dev) (k : Nat) : Dev :=
  (((d.putLoop k { d.loop k with fresh := true }).putN (LPE.SL_STAT k) 2).putN (LPE.SL_I k) 0).putN (LPE.SL_RES k) 0

/-- The slots after a mode edge or a commit (R306, R47, Table 2.9). A tripped slot stays TRIPPED until RESTART (R313). -/
def Dev.loopSync (d : Dev) (c : Cfg) : Dev :=
  let run := loopsRun c d
  ((List.range 64).foldl (fun d k =>
    let st := loopState d k
    if !slEn c k then (if st = 0 then d else d.haltSlot c k 0)
    else if run then (if st ≤ 1 then d.runSlot k else d)
    else if st = 1 || st = 5 then d
    else d.haltSlot c k 1) d).showLoops

/-- A write of SL_CMD for a slot (R313): RESTART is ignored in any state but TRIPPED. -/
def Dev.slCmd (d : Dev) (c : Cfg) (k : Nat) (value : Word) : Bool × Dev :=
  if fld value 16 16 != 0x1C4E || !bit value 0 || loopState d k != 5 then (false, d)
  else if loopsRun c d && slEn c k then (true, (d.runSlot k).showLoops)
  else (true, (d.putN (LPE.SL_STAT k) 1).showLoops)

/-- SL_RESTART (R313): the slot that SLOTSEL names. -/
def execSlRestart (value : Word) (s : State) : Out :=
  onControl s (LPE.SL_CMD 0) value 0 (s.dev.f LPE.SLOTSEL 0 6) fun c d => d.slCmd c (d.f LPE.SLOTSEL 0 6) value

/-- A write of SP_k (R311): ignored on a slot named in an actuator entry. -/
def Dev.spWrite (d : Dev) (c : Cfg) (k : Nat) (value : Word) : Bool × Dev :=
  if actuatorSlot c k then (false, d) else (true, d.put (LPE.SP k) value)

/-- SP_WRITE (R311): taken at the slot's next sample. -/
def execSpWrite (slot : Fin 64) (value : Word) (s : State) : Out :=
  onControl s (LPE.SP slot.val) value 0 255 fun c d => d.spWrite c slot.val value

end Sys2Proof.Machine
end

