-- ==== Sys2Proof/Machine/Flags.lean ====
section
/-! DEFINITION. Conditions that more than one unit tests: tracks and estimate (R169, R195, R210), safety (R363), the preconditions of
Table 2.7. -/
namespace Sys2Proof.Machine

/-! ### Tracks and estimate -/

/-- Some VALID track satisfies `p`. -/
def someValid (c : Cfg) (d : Dev) (p : Nat → Bool) : Bool := (enabledTracks c).any (fun t => p t && trackValid d t)

/-- The estimator is in SPLIT (R200). -/
def inSplit (d : Dev) : Bool := d.b FUS.SPLIT_STAT 0

/-! ### Safety -/

/-- A violation is live (R355, R354, R357). -/
def violLive (c : Cfg) (d : Dev) : Bool := d.w SFM.VIOL != 0 || stopActive c d

/-- An internal fault is latched (R352). -/
def faultLatched (d : Dev) : Bool := d.f SFM.FAULT 0 9 != 0

/-- Self-test has passed since the last reset: RESULT is PASS (Table 21.5). -/
def selfTestPassed (d : Dev) : Bool := d.f STU.RESULT 0 3 = 2

/-! ### The partner (R319) -/

/-- No crown heartbeat for 3 beats. -/
def noCrownHb (d : Dev) : Bool :=
  match d.prc.crownHbBeat with
  | none => true
  | some b => b + 3 ≤ d.esc.beat || d.esc.beat + 3 ≤ b

/-- The field die sets the latch on request only now (R336): CROWN_IN reads low and no seize is being received. -/
def latchFree (d : Dev) : Bool := !d.b PRC.STAT 5 && !d.prc.seizeIn

/-- The partner is in Standby. -/
def partnerStandby (d : Dev) : Bool := d.b PRC.STAT 2 && d.f PRC.STAT 16 4 = 4

/-! ### Preconditions (Table 2.7) -/

/-- Some page's last commit is pending or refused. -/
def commitOpen (c : Cfg) : Bool := pages.any (fun p => fld (c.h (hdrCOMMIT_STAT p.base)) 0 2 != 0)

/-- The joystick has been within the band for 0.5 s. -/
def neutralFor (d : Dev) : Bool :=
  match d.modes.neutralSince with
  | none => false
  | some t => t + ticksPerSec / 2 ≤ d.tick

def precond (c : Cfg) (d : Dev) (n : Nat) : Bool :=
  match n with
  | 1 => selfTestPassed d
  | 2 => c.imageOk && !commitOpen c && c.h (hdrCFG_SEQ 0x40000000) != 0
  | 3 => !c.pair || d.crown || (!d.b PRC.STAT 5 && noCrownHb d)
  | 4 => d.b FUS.EST_STAT 2 && someValid c d (fun t => trkClass c t = 5)
  | 5 => someValid c d (isPosition c) && !inSplit d
  | 6 => d.law.routeOk
  | 7 => c.b FUS.EST_CFG 2 && trkClass c (c.f FUS.EST_CFG 4 6) = 3 && trackValid d (c.f FUS.EST_CFG 4 6)
  | 8 => neutralFor d
  | 9 => !partnerStandby d
  | 10 => !violLive c d && !faultLatched d
  | 11 => d.b PRC.STAT 2 && d.b PRC.STAT 3
  | _ => true

/-- The first precondition of a list that fails, 0 for none (R44). -/
def firstFailing (c : Cfg) (d : Dev) (l : List Nat) : Nat := (l.find? (fun n => !precond c d n)).getD 0

end Sys2Proof.Machine
end

