-- ==== Sys2Proof/Machine/Crown.lean ====
section
/-! DEFINITION. The crown latch of the field die and what follows it (R336 to R341, R368, R438). -/
namespace Sys2Proof.Machine

/-- What follows the latch everywhere: CROWN bits, the CAN gate bits (Table 16.8), PTP states (R420), field outputs. -/
def Dev.crownFollows (d : Dev) (c : Cfg) (slow : Bool) : Dev :=
  let d := (d.putB PRC.STAT 4 d.crown).putB SYS.MODE 13 d.crown
  let d := (List.range 6).foldl (fun d n => d.putB (CAN.STAT n) 5 (c.b (CAN.CFG n) 0 && !d.crown)) d
  (d.ptpStates c).driveField c slow

/-- The next epoch (R340): max(own, EPOCH_MAX) + 1, skipping 0. -/
def nextEpoch (d : Dev) : Word :=
  let own := d.prc.epoch.toNat
  let high := (d.w PRC.EPOCH_MAX).toNat
  let top := if 0 < seqDiff 32 high own then high else own
  let n := (top + 1) % 2 ^ 32
  wd (if n = 0 then 1 else n)

/-- The latch is set (R336, R340, R345, R368, R438): the new epoch first, then the latch; RESYNCs become due; the field watchdog arms. -/
def Dev.takeCrown (d : Dev) (c : Cfg) : Dev :=
  let e := nextEpoch d
  let conns := (List.range 32).foldl (fun l k => Assoc.set {} l k { (Assoc.get {} l k : ConnDev) with resync := true }) d.sfm.conns
  let d := { d with
    prc := { d.prc with epoch := e, latch := true, latchTick := d.tick, fail := false }
    sfm := { d.sfm with conns := conns }
    field := { d.field with silent := false, fedTick := d.tick } }
  let d := (d.put PRC.EPOCH e).putN PRC.TAKEOVER_BEAT (d.esc.beat % 2 ^ 32)
  let d := d.put FIO.WDG_STAT (wd (0x3A5C * 2 ^ 16 + d.f FIO.WDG_STAT 0 3 / 2 * 2 + (c.b FIO.WDG_CFG 0).toNat))
  d.crownFollows c false

/-- The latch is cleared (R336); the watchdog disarms. -/
def Dev.dropCrown (d : Dev) (c : Cfg) (slow : Bool) : Dev :=
  if !d.crown then d
  else ({ d with prc := { d.prc with latch := false } }.putB FIO.WDG_STAT 0 false).crownFollows c slow

/-- An epoch is met (R340, R341): EPOCH_MAX keeps the highest; a crowned module that meets a higher one is fenced. -/
def Dev.meetEpoch (d : Dev) (c : Cfg) (e : Word) : Dev :=
  let d := if 0 < seqDiff 32 e.toNat (d.w PRC.EPOCH_MAX).toNat then d.put PRC.EPOCH_MAX e else d
  if d.crown && decide (0 < seqDiff 32 e.toNat d.prc.epoch.toNat) then
    ((d.dropCrown c false).want 0x06 5).event 0x0A0D [(e.toNat : Int)]
  else d

end Sys2Proof.Machine
end

