-- ==== Sys2Proof/Machine/Osiraka.lean ====
section
/-! DEFINITION. The Osiraka layer (15_safety.md R364 to R373): PDUs sent and received, stop PDUs; and the two receptions that may reach
it, CAN frames (R392) and Ethernet frames (R416). Ports are numbered as in Table 3.1: CAN 0 to 5, ETH 8 to 11. -/
namespace Sys2Proof.Machine

def Dev.conn (d : Dev) (k : Nat) : ConnDev := Assoc.get {} d.sfm.conns k
def Dev.putConn (d : Dev) (k : Nat) (x : ConnDev) : Dev := { d with sfm := { d.sfm with conns := Assoc.set {} d.sfm.conns k x } }
def osiPort (c : Cfg) (k : Nat) : Nat := c.f (SFM.OSI_CONN_CFG k) 8 4
def osiSlot (c : Cfg) (k : Nat) : Nat := c.f (SFM.OSI_TE k) 24 8
def osiId (c : Cfg) (k : Nat) : Nat := c.f (SFM.OSI_CONN_CFG k) 16 16
/-- The enabled send connections, and the enabled receive connections. -/
def sendConns (c : Cfg) : List Nat := (List.range 32).filter (fun k => c.b (SFM.OSI_CONN_CFG k) 0 && !c.b (SFM.OSI_CONN_CFG k) 1)
def recvConns (c : Cfg) : List Nat := (List.range 32).filter (fun k => c.b (SFM.OSI_CONN_CFG k) 0 && c.b (SFM.OSI_CONN_CFG k) 1)

/-! ### PDUs (R364, R365, R367) -/

/-- The bytes of a PDU (Table 15.6); type 1 DATA, 2 HEARTBEAT, 3 RESYNC. -/
def pduBytes (typ conn seq epoch te ident : Nat) (p : List Byte) : List Byte :=
  let body := leBytes 1 (16 + typ) ++ leBytes 1 p.length ++ leBytes 2 conn ++ leBytes 2 seq ++ leBytes 2 epoch ++ leBytes 2 te ++ p
  body ++ leBytes 4 (crc32cFrom ident body)

/-- The data of the FD frame that carries a PDU: the smallest length that holds it, filled with zeros (R367). -/
def canCarry (p : List Byte) : List Byte :=
  let n := ([16, 20, 24, 32, 48, 64].find? (fun n => decide (p.length ≤ n))).getD 64
  p ++ List.replicate (n - p.length) 0

/-- Length on the wire of a slot's UDP frame: headers and check sequence, and a VLAN tag when the slot has one (R413). -/
def slotFrameLen (c : Cfg) (n slot len : Nat) : Nat := 46 + len + (if c.f (ETH.SL_MAC_HI n slot) 16 12 = 0 then 0 else 4)

/-! ### Sending (R368 to R370) -/

/-- The carrier of a PDU: the connection's frame slot, its own port outside it, or the class 0 path. -/
inductive OsiPath where
  | slot | port | class0
  deriving DecidableEq, Repr

/-- One PDU leaves a connection: SEQ increases by 1, EPOCH and TE are filled in (R368). -/
def Dev.osiSend (d : Dev) (c : Cfg) (k typ : Nat) (p : List Byte) (path : OsiPath) : Dev :=
  let x := d.conn k
  let port := osiPort c k
  let slot := osiSlot c k
  let pdu := pduBytes typ (osiId c k) x.seq (d.prc.epoch.toNat % 65536) (c.f (SFM.OSI_TE k) 0 16) (c.w (SFM.OSI_IDENT k)).toNat p
  let d := d.putConn k { x with seq := (x.seq + 1) % 65536 }
  let bytes := if port < 8 then canCarry pdu else pdu
  let d := { d with sfm := { d.sfm with sent := ((port, bytes) :: d.sfm.sent).take 64 } }
  let d := if typ = 3 then d.event 0x090B [(k : Int), (d.prc.epoch.toNat : Int)] else d
  if port < 6 then
    match path with
    | .class0 =>
      match (List.range 4).find? (fun q => c.b (CAN.PRI_CFG port q) 0 && c.b (CAN.PRI_CFG port q) 1 && c.f (CAN.PRI_CFG port q) 8 5 = slot) with
      | none => d
      | some q => d.priRequest c port q bytes
    | .slot | .port =>
      let cls := if path = .slot then c.f (CAN.FS_CFG port slot) 1 2 else c.f (SFM.OSI_CONN_CFG k) 4 2
      d.fifoPut c port { canEntry 0 255 (c.w (CAN.FS_ID port slot)) cls bytes with fdf := true }
  else if 8 ≤ port && port < 12 then
    let n := port - 8
    let cls := match path with
      | .class0 => 0
      | .slot => c.f (ETH.SL_CFG n slot) 1 2
      | .port => c.f (SFM.OSI_CONN_CFG k) 4 2
    d.ethSend c n ⟨cls, slotFrameLen c n slot pdu.length, pdu, none, some (slotHead c n slot)⟩
  else d

/-- The release of a frame slot on the connections that use it (R368): a due RESYNC, then DATA when the owner has written the payload
since the last release, else a HEARTBEAT. A set-point slot carries no payload in a mode that sends no set-points (R384). -/
def Dev.osiRelease (d : Dev) (c : Cfg) (port slot : Nat) : Dev :=
  let may := sendsSetpoints d || !isSetpointSlot c port slot
  ((sendConns c).filter (fun k => osiPort c k = port && osiSlot c k = slot)).foldl (fun d k =>
    let x := d.conn k
    let d := d.putConn k { x with resync := false, written := false }
    let d := if x.resync then d.osiSend c k 3 (leBytes 4 d.prc.epoch.toNat) .slot else d
    let p := (Assoc.get [] d.law.payloads (port * 256 + slot)).take 48
    if x.written && may && !p.isEmpty then d.osiSend c k 1 p .slot else d.osiSend c k 2 [] .slot) d

/-- The actuator that a set-point slot belongs to. -/
def slotActuator (c : Cfg) (port slot : Nat) : Nat :=
  ((List.range 40).find? (fun n => actType c n != 0 && c.f (LAW.ACT_CFG n) 16 4 = port && c.f (LAW.ACT_CFG n) 20 8 = slot)).getD 0

/-- The payload of a stop PDU (R370): the slot's last payload with STOP set and the demand 0. -/
def stopPayload (c : Cfg) (d : Dev) (port slot : Nat) : List Byte :=
  match Assoc.get [] d.law.payloads (port * 256 + slot) with
  | [] => leBytes 1 (slotActuator c port slot) ++ [1]
  | p => (p.zipIdx.map (fun x => if x.2 = 1 then x.1 ||| 1 else if x.2 = 6 || x.2 = 7 then 0 else x.1)).take 48

/-- Every send connection with STOP_EN sends one stop PDU from its class 0 path (R370). -/
def Dev.sendStops (d : Dev) (c : Cfg) : Dev :=
  let ks := (sendConns c).filter (fun k => c.b (SFM.OSI_CONN_CFG k) 2)
  let d := ks.foldl (fun d k =>
    (d.putConn k { d.conn k with written := false }).osiSend c k 1 (stopPayload c d (osiPort c k) (osiSlot c k)) .class0) d
  if ks.isEmpty then d else d.event 0x090C [(ks.length : Int)]

/-- OSI_HEARTBEAT (R369): in Configure, while precondition 3 holds, HB_MS after the connection's last one. -/
def execOsiHeartbeat (conn : Fin 32) (s : State) : Out :=
  onDev s fun c d =>
    let k := conn.val
    if d.mode = 3 && !d.modes.rampBeat && precond c d 3 && (sendConns c).contains k then
      let x := d.conn k
      let d := match x.hbTick with
        | none => d
        | some t => d.advanceTo (t + c.f SFM.OSI_CFG 16 8 * ticksPerMs)
      (d.putConn k { x with hbTick := some d.tick }).osiSend c k 2 [] .port
    else d

/-! ### Receiving (R371 to R373) -/

/-- A discard (R371): counted in OSI_DISC_CNT, and on the connection it names; the first of each second is recorded. -/
def Dev.osiDiscard (d : Dev) (k : Option Nat) (port reason : Nat) : Dev :=
  let d := d.bump SFM.OSI_DISC_CNT
  match k with
  | some k => ((d.sat (SFM.OSI_STAT k) 16 16 1).putF (SFM.OSI_STAT k) 4 4 reason).eventSec 0x090A k [(k : Int), (reason : Int)]
  | none => d.eventSec 0x090A (64 + port) [(port : Int), (reason : Int)]

/-- The format rules of R366 and R371. -/
def pduMalformed (port : Nat) (f : List Byte) : Bool :=
  let b0 := leAt f 0 1
  let typ := b0 % 16
  let l := leAt f 1 1
  decide (f.length < 14) || b0 / 16 != 1 || typ = 0 || decide (3 < typ) || decide (48 < l) || decide (f.length < 14 + l)
    || (decide (8 ≤ port) && f.length != 14 + l) || (typ = 2 && l != 0) || (typ = 1 && l = 0) || (typ = 3 && l != 4) || leAt f 8 2 = 0

/-- An echoed epoch (R373). -/
def Dev.osiEcho (d : Dev) (c : Cfg) (e : Nat) : Dev :=
  let df := seqDiff 16 e (d.prc.epoch.toNat % 65536)
  if e != 0 && decide (0 < df) then d.meetEpoch c (wd (unsigned 32 ((d.prc.epoch.toNat : Int) + df))) else d

/-- An accepted PDU of connection `k` (R371 to R373): expiry, state, echo, the item of a DATA payload. -/
def Dev.osiAccept (d : Dev) (c : Cfg) (k : Nat) (f : List Byte) : Dev :=
  let typ := leAt f 0 1 % 16
  let te := min (leAt f 8 2) (c.f (SFM.OSI_TE k) 0 16)
  let d := d.putConn k { d.conn k with expire := some (d.tick + te * 20000) }
  let d := if c.b (SFM.OSI_CONN_CFG k) 3 then d.osiEcho c (leAt f 6 2) else d
  let d := if typ = 3 then d.event 0x090B [(k : Int), (leAt f 10 4 : Int)] else d
  let st := d.f (SFM.OSI_STAT k) 0 2
  let d := if st = 0 then (d.putF (SFM.OSI_STAT k) 0 2 1).event 0x0908 [(k : Int)] else d
  let d := if st ≤ 1 then
      let good := (d.conn k).good + 1
      let d := d.putConn k { d.conn k with good := good }
      if c.f (SFM.OSI_TE k) 16 8 ≤ good then (d.putF (SFM.OSI_STAT k) 0 2 2).event 0x0909 [(k : Int)] else d
    else d
  if typ = 1 then
    let bits := if d.f (SFM.OSI_STAT k) 0 2 = 2 then 0 else qINVALID
    d.capture c (c.f SFM.OSI_CFG 0 16 + k) (c.f (SFM.OSI_CONN_CFG k) 4 2) d.tick bits ((f.drop 10).take (leAt f 1 1))
  else d

/-- The receive procedure of R371 with cmd = 0. -/
def Dev.osiReceive (d : Dev) (c : Cfg) (port : Nat) (f : List Byte) : Dev :=
  let k := if f.length < 4 then none else (recvConns c).find? (fun k => osiPort c k = port && osiId c k = leAt f 2 2)
  if pduMalformed port f then d.osiDiscard k port 1
  else match k with
    | none => d.osiDiscard none port 2
    | some k =>
      let l := leAt f 1 1
      let seq := leAt f 4 2
      let x := d.conn k
      if crc32cFrom (c.w (SFM.OSI_IDENT k)).toNat (f.take (10 + l)) != leAt f (10 + l) 4 then d.osiDiscard (some k) port 3
      else if d.f (SFM.OSI_STAT k) 0 2 = 0 || leAt f 0 1 % 16 = 3 then (d.putConn k { x with seq := seq }).osiAccept c k f
      else
        let df := seqDiff 16 seq x.seq
        if df = 0 then d.osiDiscard (some k) port 5
        else if df < 0 then d.osiDiscard (some k) port 6
        else (d.putConn k { x with seq := seq, lost := x.lost + (df - 1).toNat }).osiAccept c k f

/-- OSI_PDU_RECEIVE (R371). -/
def execOsiPduReceive (port : Fin 16) (frame : List Byte) (s : State) : Out :=
  onDev s fun c d => d.osiReceive c port.val frame

/-- OSI_EXPIRY (R371, R372): the time expectation has run out: RUN falls back to SAFE; the connection's source times out. -/
def execOsiExpiry (conn : Fin 32) (s : State) : Out :=
  onDev s fun c d =>
    let k := conn.val
    let st := d.f (SFM.OSI_STAT k) 0 2
    match (d.conn k).expire with
    | none => d
    | some t =>
      if !(recvConns c).contains k || st = 0 then d
      else
        let d := d.advanceTo t
        let d := d.putConn k { d.conn k with expire := none, good := if st = 2 then 0 else (d.conn k).good }
        let d := d.repeatStale c ((c.f SFM.OSI_CFG 0 16 + k) % 65536)
        if st = 2 then (d.putF (SFM.OSI_STAT k) 0 2 1).event 0x0908 [(k : Int)] else d

/-! ### Receptions that may reach the layer -/

/-- The identifier belongs to Nymyen on this controller (R424). -/
def nymFrame (c : Cfg) (n : Nat) (f : CanFrame) : Bool :=
  let base := c.f NYM.CAN_BASE 0 11
  c.b NYM.CFG 0 && c.b NYM.CFG (1 + n) && !f.xtd && f.data.length = 16
    && decide (base + 1 ≤ f.id.toNat) && decide (f.id.toNat ≤ base + 254)

/-- Where an accepted data frame goes (R392, R396, R424). -/
def Dev.canDeliver (d : Dev) (c : Cfg) (n : Nat) (f : CanFrame) : Dev :=
  if nymFrame c n f then d.nymHear c (.can (Fin.ofNat 6 n)) (parseCanAnnouncement f.data)
  else
    let d := d.refReceive c n f
    match firstFilter c n f with
    | none => if c.b (CAN.CFG n) 7 then d.canItem c n 0xFFFF 3 0 f else d
    | some k =>
      match c.f (CAN.FLT_CFG n k) 4 2 with
      | 1 => d.canItem c n (c.f (CAN.FLT_CFG n k) 16 16) (c.f (CAN.FLT_CFG n k) 6 2) (c.f (CAN.FLT_RX n k) 0 8) f
      | 2 => d.osiReceive c n f.data
      | _ => d

/-- With NO_LISTENER, a valid frame received makes one attempt at once (R397). -/
def Dev.listenerHeard (d : Dev) (c : Cfg) (n : Nat) : Dev := if d.b (CAN.STAT n) 2 then d.canStart c n true 0 else d

/-- A frame received by controller `n` (R392, R379): not on a controller that is off; an FD frame without FD_EN, and a protocol exception with
PXHD, is answered with an error frame; a remote frame is counted. In loopback the controller hears its own frames only (`own`). -/
def Dev.canReceive (d : Dev) (c : Cfg) (n : Nat) (frame : CanFrame) (own : Bool) : Dev :=
  if !canOn d n || d.f (CAN.STAT n) 0 2 = 3 || own != c.b (CAN.CFG n) 4 then d
  else if frame.fdf && !c.b (CAN.CFG n) 1 then d.recUp n 1
  else
    let d := if frame.exception then d.eventSec 0x200D n [(n : Int)] else d
    if frame.exception && c.b (CAN.CFG n) 5 then d.recUp n 1
    else
      let d := (d.recDown n).listenerHeard c n
      if frame.rtr then d.sat (CAN.RX_OVF_CNT n) 16 16 1 else d.canDeliver c n frame

/-- ETH_INGRESS_FRAME (R404 to R406, R416 to R418, R422, R424). -/
def execEthIngressFrame (port : Fin 4) (frame : EthFrame) (s : State) : Out :=
  onDev s fun c d =>
    let n := port.val
    match d.ingress c n frame with
    | (.dropped, d) => d
    | (.osiraka, d) => d.osiReceive c (8 + n) frame.payload
    | (.nymyen, d) =>
      match parseAnnouncement frame.payload with
      | none => d
      | some a => d.nymHear c (.eth port) a
    | (.iec, d) => d.iecDatagram c n frame
    | (.other cls, d) => d.bridge c n cls frame

end Sys2Proof.Machine
end

