-- ==== Sys2Proof/Machine/Sfm.lean ====
section
/-! DEFINITION. The safety monitor (15_safety.md R350 to R363): its cycle, diagnostics, trips, safety outputs, the reset sequence. -/
namespace Sys2Proof.Machine

def Dev.inst (d : Dev) (i : Nat) : InstDev := Assoc.get {} d.sfm.insts i
def Dev.putInst (d : Dev) (i : Nat) (x : InstDev) : Dev := { d with sfm := { d.sfm with insts := Assoc.set {} d.sfm.insts i x } }

/-- The mode the monitor acts on: Manual through the ramp beat (R46). -/
def sfmMode (d : Dev) : Nat := if d.modes.rampBeat then 6 else d.mode

/-! ### Configuration CRC (R352) -/

/-- The RWS registers of the page except CFG_CRC_EXP, in ascending offset. -/
def sfmKeys : List Nat :=
  let offs := (pageRows 0x40008000).flatMap (fun r => if r.acc == .rws then (List.range r.count).map (fun i => r.off + r.stride * i) else [])
  ((List.range 1024).map (fun i => 4 * i)).filter (fun o => offs.contains o && o != 0x10C) |>.map (fun o => 0x40008000 + o)

/-- The CRC-32C of a configuration whose words `f` gives. -/
def sfmCrc (f : Nat → Word) : Nat := crc32c (sfmKeys.flatMap (fun k => leBytes 4 (f k).toNat))

/-! ### Outputs and status (R360, R361) -/

/-- The conditions of R361. -/
def sfmPermit (c : Cfg) (d : Dev) : Bool :=
  d.crown && decide (6 ≤ sfmMode d ∧ sfmMode d ≤ 10) && selfTestPassed d && !violLive c d && !d.b SFM.STAT 0 && !faultLatched d

/-- STAT follows (Table 15.8). -/
def Dev.showSfm (d : Dev) (c : Cfg) : Dev :=
  let on := ((List.range 4).filter (fun k => isSafety c (12 + k) && (d.out (outLead c (12 + k))).driven)).foldl (fun s k => s + 2 ^ k) 0
  let left := if d.b SFM.STAT 8 then (d.sfm.armCycle.getD 0 + 10000 - d.sfm.cycle) / 100 else 0
  ((((d.putB SFM.STAT 1 (sfmPermit c d)).putF SFM.STAT 2 4 on).putB SFM.STAT 6 (violLive c d)).putB SFM.STAT 7 (faultLatched d)).putF
    SFM.STAT 16 8 (satU 8 left)

/-- The designated outputs are commanded on while every condition holds, else off (R361): a change leaves in the next slot of the field link
(R432). -/
def Dev.sfmDrive (d : Dev) (c : Cfg) : Dev :=
  let bits := if sfmPermit c d then c.f SFM.CFG 0 4 * 2 ^ 12 else 0
  let removed := d.field.stopRemoved && stopActive c d
  let wait := if bits = d.field.sfmBits then none else some bits
  ({ d with field := { d.field with pendSfm := wait, stopRemoved := removed } }.driveOutputs c false).showSfm c

/-- A trip (R358, R370): TRIPPED, outputs off, stop PDUs, Lock-out requested. Cause 0x0C violation, 0x0D internal fault. -/
def Dev.sfmTrip (d : Dev) (c : Cfg) (cause : Nat) : Dev :=
  (((((d.putB SFM.STAT 0 true).hackTrigger c 6).sfmDrive c).event 0x0903 [(cause : Int)]).sendStops c).want cause 11

/-- Diagnostics fail (R352, R358): each new bit is latched and recorded; in modes 3 to 10 an internal fault trips. -/
def Dev.sfmFault (d : Dev) (c : Cfg) (bits : List Nat) : Dev :=
  let d := bits.foldl (fun d b => if d.b SFM.FAULT b then d else (d.putB SFM.FAULT b true).event 0x0902 [(b : Int)]) d
  if faultLatched d && !d.b SFM.STAT 0 && decide (3 ≤ sfmMode d ∧ sfmMode d ≤ 10) then d.sfmTrip c 0x0D else d

/-! ### The cycle (R353 to R359) -/

/-- Configuration word of instance i: 0 to 7 SLS, 8 to 15 SLP, 16 to 23 SDI (Table 15.4). -/
def instCfg (i : Nat) : Nat := if i < 8 then SFM.SLS_CFG i else if i < 16 then SFM.SLP_CFG (i - 8) else SFM.SDI_CFG (i - 16)

/-- An instance's source: an encoder, 0 to 3, or a field input, 4 to 19. -/
def instSource (c : Cfg) (i : Nat) : Nat :=
  let ch := c.f (instCfg i) 9 4
  if c.f (instCfg i) 7 2 = 1 then 4 + ch else ch % 4

/-- The count of a source (R355): an encoder's position, or an input's rising edges. -/
def sourceCount (d : Dev) (k : Nat) : Int := if k < 4 then d.s (ENC.ENC_POS k) 0 32 else (d.f (FIO.IN_CNT (k - 4)) 0 32 : Int)

/-- The counts read in this cycle join those of the last 8 (R353). -/
def Dev.readCounts (d : Dev) : Dev :=
  let h := (List.range 20).map (fun k => (k, (sourceCount d k :: (Assoc.get [] d.sfm.hist k : List Int)).take 8))
  { d with sfm := { d.sfm with hist := h } }

/-- ACT of Table 15.4. -/
def instActive (c : Cfg) (d : Dev) (i : Nat) : Bool :=
  match c.f (instCfg i) 1 2 with
  | 0 => true
  | 1 => d.b FIO.IN_FILT (c.f (instCfg i) 3 4)
  | 2 => decide (6 ≤ sfmMode d ∧ sfmMode d ≤ 10)
  | _ => false

/-- A source fault of R356 on the instance's encoder. -/
def instFault (c : Cfg) (d : Dev) (i : Nat) : Bool :=
  c.f (instCfg i) 7 2 != 1 && (d.enc (c.f (instCfg i) 9 4 % 4)).source

/-- The source is referenced (R355): an SSI source always, an incremental one from its first index pulse. -/
def referenced (c : Cfg) (d : Dev) (i : Nat) : Bool :=
  let ch := c.f (instCfg i) 9 4 % 4
  c.b (ENC.ENC_CFG ch) 1 || d.b (ENC.ENC_STAT ch) 0

/-- Value and verdict of an instance on its count and its earlier counts, newest first (R355). -/
def instEval (c : Cfg) (d : Dev) (i : Nat) (cnt : Int) (hist : List Int) : Int × Bool :=
  let w := c.w (instCfg i)
  let win := fld w 16 4
  let h := if win = 0 then cnt else hist.getD (win - 1) (hist.getLastD cnt)
  let mode := bit w 13
  if i < 8 then
    let df := (wrap32 (cnt - h)).natAbs * 1000
    ((df / max 1 win : Nat), decide (c.f (SFM.SLS_LIMIT i) 0 32 * win < df))
  else if i < 16 then
    let k := i - 8
    let per : Int := c.f (SFM.SLP_PER k) 0 32
    let lo := c.s (SFM.SLP_MIN k) 0 32
    let hi := c.s (SFM.SLP_MAX k) 0 32
    let circ := mode && decide (per ≠ 0)
    let p := if circ then cnt % per else cnt
    let out := if circ then decide ((hi - lo) % per < (p - lo) % per) else decide (p < lo) || decide (hi < p)
    (p, !referenced c d i || out)
  else
    let v := wrap32 (if mode then h - cnt else cnt - h)
    (v, decide ((c.f (SFM.SDI_TOL (i - 16)) 0 32 : Int) < v))

/-- The register that shows an instance's value. -/
def instVal (i : Nat) : Nat := if i < 8 then SFM.SLS_VAL i else if i < 16 then SFM.SLP_VAL (i - 8) else SFM.SDI_VAL (i - 16)

/-- One instance in one cycle (R355). -/
def Dev.instCycle (d : Dev) (c : Cfg) (i : Nat) : Dev :=
  let x := d.inst i
  if !c.b (instCfg i) 0 || !instActive c d i then d.putInst i {}
  else
    let k := instSource c i
    let (v, out) := instEval c d i (sourceCount d k) (Assoc.get [] d.sfm.hist k)
    let bad := out || instFault c d i
    let filt := c.f (instCfg i) 20 4
    let nbad := if bad then satU 8 (x.nbad + 1) else 0
    let ngood := if bad then 0 else satU 8 (x.ngood + 1)
    let viol := if filt ≤ ngood then false else if filt ≤ nbad then true else x.viol
    (d.putInst i ⟨nbad, ngood, viol⟩).putI (instVal i) v

/-- The violations live in this cycle (Table 15.8 VIOL). -/
def violWord (c : Cfg) (d : Dev) : Nat :=
  let inst := ((List.range 24).filter (fun i => (d.inst i).viol)).foldl (fun s i => s + 2 ^ i) 0
  let stop := ((List.range 4).filter (fun k => c.b SFM.STOPIN (8 * k + 7)
    && d.b FIO.IN_FILT (c.f SFM.STOPIN (8 * k) 4) = c.b SFM.STOPIN (8 * k + 4))).foldl (fun s k => s + 2 ^ (24 + k)) 0
  inst + stop + d.sfm.loopTrip.toNat * 2 ^ 28

/-- The value recorded with a violation: the instance's value, the stop input, or 0 for a loop trip. -/
def violValue (c : Cfg) (d : Dev) (b : Nat) : Int :=
  if b < 24 then d.s (instVal b) 0 32 else if b < 28 then (c.f SFM.STOPIN (8 * (b - 24)) 4 : Int) else 0

/-- The two bandgaps' measurements of a rail differ by more than 2 % (SUPPLY, Table 15.2). -/
def bandgapsDiffer (d : Dev) (r : Nat) : Bool :=
  let a := d.f (PWR.RAIL r) 0 16
  let b := d.f (PWR.RAIL r) 16 16
  decide (max a b < 50 * (max a b - min a b))

/-- The diagnostics that the monitor finds by itself: SUPPLY by the rails' last measurements, CONFIG once a second from the first commit,
OUT_STUCK, FIELD_LINK (Table 15.2). -/
def ownDiag (c : Cfg) (d : Dev) : List Nat :=
  let cfg := d.sfm.committed && d.sfm.cycle % 1000 = 0 && sfmCrc c.w != (c.w SFM.CFG_CRC_EXP).toNat
  let stuck := d.sfm.stuck.any (fun p => decide (1 < p.2))
  (if (List.range 10).any (bandgapsDiffer d) then [4] else []) ++ (if cfg then [5] else []) ++ (if stuck then [6] else []) ++ (if 3 ≤ d.field.badSlots then [7] else [])

/-- What the monitor's own diagnostics reported. -/
def diagBits (g : SfmDiag) : List Nat :=
  (if g.lockstep then [0] else []) ++ (if g.ram then [1] else []) ++ (if g.flow then [2] else []) ++ (if g.clock then [3] else [])
    ++ (if g.supply then [4] else []) ++ (if g.temp then [8] else [])

/-- Cycles for which a safety output commanded off reads high (R352, OUT_STUCK). -/
def Dev.countStuck (d : Dev) (c : Cfg) : Dev :=
  let st := (List.range 4).foldl (fun l k =>
    let o := 12 + k
    let high := isSafety c o && !(d.out (outLead c o)).driven && d.b FIO.OUT_SENSE o
    Assoc.set 0 l k (if high then satU 8 (Assoc.get 0 l k + 1) else 0)) d.sfm.stuck
  { d with sfm := { d.sfm with stuck := st } }

/-- The arm is ten seconds old (R363). -/
def armOver (d : Dev) : Bool := d.b SFM.STAT 8 && decide (d.sfm.armCycle.getD 0 + 10000 ≤ d.sfm.cycle)

/-- SFM_CYCLE (R353, R355, R357, R358): in Self-test nothing is evaluated. -/
def execSfmCycle (diag : SfmDiag) (s : State) : Out :=
  onDev s fun c d =>
    let d := { d with sfm := { d.sfm with cycle := d.sfm.cycle + 1 } }
    if d.mode ≤ 2 then
      ({ d with sfm := { d.sfm with insts := [], hist := [], loopTrip := false, stuck := [] } }.putN SFM.VIOL 0).showSfm c
    else
      let d := if armOver d then d.putB SFM.STAT 8 false else d
      let d := if d.sfm.cycle % 1000 = 0 then d.putN SFM.CFG_CRC (sfmCrc c.w) else d
      let d := ((List.range 24).foldl (fun d i => d.instCycle c i) d).readCounts
      let old := d.w SFM.VIOL
      let word := wd (violWord c d)
      let d := (List.range 29).foldl (fun d b =>
        if bit word b && !bit old b then d.event 0x0901 [(b : Int), violValue c d b] else d) d
      let d := (d.put SFM.VIOL word).put SFM.VIOL_SEEN (d.w SFM.VIOL_SEEN ||| word)
      let d := { d with sfm := { d.sfm with loopTrip := false } }
      let d := (d.countStuck c).sfmFault c (diagBits diag ++ ownDiag c (d.countStuck c))
      let d := if word != 0 && !d.b SFM.STAT 0 && decide (6 ≤ sfmMode d ∧ sfmMode d ≤ 10) then d.sfmTrip c 0x0C else d
      d.sfmDrive c

/-- The outputs that are tested, a paralleled group as one (R362). -/
def testedOuts (c : Cfg) : List Nat := (List.range 4).filter (fun k => isSafety c (12 + k) && outLead c (12 + k) = 12 + k)

/-- The cycle at which an output's next off-pulse test is due (R362): OP_PERIOD after its last one, its share of OP_PERIOD after any
other's. -/
def opDue (c : Cfg) (d : Dev) (k : Nat) : Nat :=
  let period := c.f SFM.CFG 16 8 * 100
  d.sfm.opCycle.foldl (fun t p => max t (p.2 + if p.1 = k then period else period / max 1 (testedOuts c).length)) d.sfm.cycle

/-- OFF_PULSE_TEST (R362): a safety output that is on is pulsed off; one that does not fall fails OUT_STUCK. -/
def execOffPulseTest (out : Fin 4) (fell : Bool) (s : State) : Out :=
  onDev s fun c d =>
    let k := out.val
    if !c.b SFM.CFG 4 || !(testedOuts c).contains k || !(d.out (12 + k)).driven then d
    else
      let t := opDue c d k
      let d := { d with sfm := { d.sfm with cycle := t, opCycle := Assoc.set 0 d.sfm.opCycle k t } }
      if fell then d.bump SFM.OP_CNT
      else (d.event 0x0907 [(12 + k : Nat)]).sfmFault c [6]

/-! ### The reset sequence (R363) -/

/-- A result of the reset sequence and its event. -/
def Dev.resetResult (d : Dev) (code : Nat) : Dev :=
  let d := d.putF SFM.RESET_RES 0 4 code
  if code = 1 then d.event 0x0904 else if code = 2 then d.event 0x0905 else d.event 0x0906 [(code : Int)]

/-- RESET_ARM (R363). -/
def execResetArm (value : Word) (s : State) : Out :=
  onWrite s fun c d =>
    if fld value 16 16 != 0x2E5D then d.resetResult 4
    else if d.mode != 11 then d.resetResult 3
    else
      let d := { d with sfm := { d.sfm with armCycle := some d.sfm.cycle } }
      ((d.putB SFM.STAT 8 true).resetResult 1).showSfm c

/-- RESET_ARM_EXPIRY (R363): ten seconds after arming. -/
def execResetArmExpiry (s : State) : Out :=
  onDev s fun c d =>
    if !d.b SFM.STAT 8 then d
    else ({ d with sfm := { d.sfm with cycle := max d.sfm.cycle (d.sfm.armCycle.getD 0 + 10000) } }.putB SFM.STAT 8 false).showSfm c

/-- RESET_INPUT_RISE (R363). -/
def execResetInputRise (s : State) : Out :=
  onDev s fun c d =>
    if !c.b SFM.RST_CFG 7 then d else { d with sfm := { d.sfm with riseCycle := some d.sfm.cycle } }

/-- The code of a trailing edge (R363). -/
def trailingCode (c : Cfg) (d : Dev) : Nat :=
  if !d.b SFM.STAT 8 || armOver d then 5
  else match d.sfm.riseCycle with
    | none => 8
    | some r =>
      let len := d.sfm.cycle - r
      if r < d.sfm.armCycle.getD 0 then 8
      else if len < 200 then 6
      else if 5000 < len then 7
      else if violLive c d || faultLatched d then 9
      else if !precond c d 3 then 10
      else 2

/-- RESET_INPUT_TRAILING (R363, R359): DONE clears TRIPPED and leaves Lock-out at the next boundary. -/
def execResetInputTrailing (s : State) : Out :=
  onDev s fun c d =>
    if !c.b SFM.RST_CFG 7 then d
    else
      let code := trailingCode c d
      let age := match d.sfm.armCycle with | none => 0 | some a => (d.sfm.cycle - a) / 100
      let d := { d with sfm := { d.sfm with armCycle := none } }
      let d := ((d.putF SFM.RESET_RES 8 8 (satU 8 age)).wrap SFM.RESET_RES 16 16 1).putB SFM.STAT 8 false
      let d := d.resetResult code
      let d := if code = 2 then ((d.putB SFM.STAT 0 false).want 0x0E 6) else d
      d.sfmDrive c

end Sys2Proof.Machine
end

