-- ==== Sys2Proof/Machine/Modes.lean ====
section
/-! DEFINITION. Modes (02_modes.md R37 to R57): what a transition does at its edge, which transition a cause or a request makes, and
the commands of the mode registers. The boundary that carries transitions out is in Boundary.lean. -/
namespace Sys2Proof.Machine

/-- A module declares its own failure (R345): FAIL, the latch released, event 0x0A15. -/
def Dev.selfFail (d : Dev) (c : Cfg) : Dev :=
  (({ d with prc := { d.prc with fail := true } } : Dev).dropCrown c false).event 0x0A15

/-- THRUST_HOLD and NEUTRAL_WAIT at an edge (R49, R50): set by a degradation to Auto-heading and by Manual entered from Configure or
Lock-out. The X and Y held at a loss of reference are the mean at the edge. -/
def Dev.edgeBits (d : Dev) (old new cause : Nat) : Dev :=
  let hold := decide (new = 7) && (cause = 9 || cause = 10)
  let d := (d.putB SYS.MODE 14 hold).putB SYS.MODE 15 (decide (new = 6) && (old = 3 || old = 11))
  if !hold then d
  else { d with
    modes := { d.modes with holdBandSeen := d.modes.neutralSince.isSome }
    law := { d.law with heldXY := if cause = 10 then tauMean d else d.law.heldXY } }

/-- SYNC outputs with PAIR 1 rest in Standby and Stood-down (R77). -/
def Dev.restPaired (d : Dev) (c : Cfg) : Dev :=
  if d.mode != 4 && d.mode != 5 then d
  else
    let syncs := (List.range 16).foldl (fun l o =>
      if c.e (ESC.SYNC_CFG o) |> (bit · 2) then Assoc.set {} l o { (Assoc.get {} l o : SyncDev) with active := false } else l) d.esc.syncs
    { d with esc := { d.esc with syncs := syncs } }

/-- The latch at an edge (Table 2.8): taken for a crowned mode, kept in the ramp beat and in Lock-out, which a module without the pair
function holds it in (R39), released by a Lock-out with cause SFM_INTERNAL and by every other mode. -/
def Dev.edgeCrown (d : Dev) (c : Cfg) (new cause : Nat) : Dev :=
  if 6 ≤ new ∧ new ≤ 10 then (if d.crown then d else d.takeCrown c)
  else if d.modes.rampBeat then d
  else if new = 11 then (if cause = 0x0D then d.selfFail c else if !d.crown && !c.pair then d.takeCrown c else d)
  else d.dropCrown c false

/-- Lock-out is entered (R48, R55, R370): firmware's jobs end with the law's, stop PDUs leave on every class 0 path. -/
def Dev.edgeLockout (d : Dev) (c : Cfg) : Dev :=
  if d.mode != 11 then d
  else ([3, 4, 5, 6].foldl (fun (d : Dev) k => d.cancelStream k) d).sendStops c

/-- Configure is entered (Table 3.3, R210): the turns of the wheels and the estimate's validity start again. -/
def Dev.edgeConfigure (d : Dev) : Dev :=
  if d.mode != 3 then d
  else
    let d := { d with fus := { d.fus with headingTaken := false, positionTaken := false } }
    (List.range 32).foldl (fun d w => d.putN (ESC.WHL_TURNS w) 0) d

/-- A mode is entered at a beat boundary (R37, R46, R47, R57): `cause` of Table 2.5, `station` of the request. -/
def Dev.enterMode (d : Dev) (c : Cfg) (new cause station : Nat) : Dev :=
  let old := d.mode
  let ramp := old = 6 && new = 3 && cause = 3
  let d := ((d.putF SYS.MODE 0 4 new).putF SYS.MODE 4 4 old).putF SYS.MODE 16 8 cause
  let d := d.putN SYS.MODE_ENTRY d.esc.beat
  let d := { d with modes := { d.modes with rampBeat := ramp } }
  let d := if old = 3 && !c.classChecked then (d.putB SYS.STAT 0 true).event 0x0110 else d
  let d := d.event 0x0120 [old, new, cause, station]
  let d := if cause = 9 || cause = 10 || cause = 11 then d.event 0x0122 else d
  let d := d.edgeCrown c new cause
  let d := if cause = 4 || new = 4 then d else d.edgeBits old new cause
  let d := if new = 4 || cause = 4 then d else if ramp then d else d.lawModeEdge c old new cause
  let d := if new = 4 then d else d.putF SYS.MODE 8 5 0
  let d := (((d.edgeLockout c).edgeConfigure).restPaired c).loopSync c
  let d := if new = 2 || new = 3 || new = 5 then d else d.putB MEM.INJ_CTRL 0 false
  let d := (d.sfmDrive c).driveField c false
  d.journal c (.transition new cause)

/-! ### Automatic transitions (Table 2.8, R41) -/

/-- Precedence of a cause: smaller first. -/
def causeRank (cause : Nat) : Nat :=
  if cause = 0x0C || cause = 0x0D || cause = 0x0F then 1
  else if cause = 5 || cause = 6 then 2
  else if cause = 4 then 3
  else if cause = 7 then 4
  else if cause = 9 || cause = 10 || cause = 11 then 5
  else 6

/-- The mode a cause leads to from the current mode (Table 2.8, R38, R50, R52 to R54, R56), if any. -/
def autoTarget (c : Cfg) (d : Dev) (cause : Nat) : Option Nat :=
  let m := d.mode
  let crowned := decide (6 ≤ m ∧ m ≤ 10)
  let auto3 := decide (8 ≤ m ∧ m ≤ 10)
  match cause with
  | 0x02 => if m = 2 then some 3 else none
  | 0x04 => if m = 4 && d.b SYS.MODE 12 && decide (6 ≤ d.f SYS.MODE 8 4 ∧ d.f SYS.MODE 8 4 ≤ 11) then some (d.f SYS.MODE 8 4) else none
  | 0x05 => if crowned then some 5 else none
  | 0x06 => if crowned then some 5 else none
  | 0x07 => if m = 4 then some 5 else none
  | 0x08 => if m = 5 && precond c d 2 then some 4 else none
  | 0x09 => if auto3 then some 7 else none
  | 0x0A => if m = 10 && precond c d 5 then some 8 else if auto3 then some 7 else none
  | 0x0B => if m = 9 then some 8 else none
  | 0x0C => if decide (3 ≤ m ∧ m ≤ 10) then some 11 else none
  | 0x0D => if decide (3 ≤ m ∧ m ≤ 10) then some 11 else none
  | 0x0E => if m = 11 && precond c d 3 && precond c d 10 then some 6 else none
  | 0x0F => if m = 4 then some 11 else none
  | _ => none

/-- The cause still stands when its turn comes (R41). -/
def causeStands (d : Dev) (cause : Nat) : Bool :=
  if cause = 9 then inSplit d && d.b FUS.SPLIT_STAT 1
  else if cause = 10 then d.b FUS.SPLIT_STAT 1 && !inSplit d
  else true

/-- The standing transition of highest precedence. -/
def firstWanted (c : Cfg) (d : Dev) : Option (Nat × Nat) :=
  (d.modes.wanted.foldl (fun (b : Option (Nat × Nat)) w =>
    match autoTarget c d w.cause with
    | none => b
    | some t => match b with
      | none => some (w.cause, t)
      | some x => if causeRank w.cause < causeRank x.1 then some (w.cause, t) else b) none)

/-- What stays wanted after a boundary at which `done` was carried out (R41): a displaced DIVERGED, IN_STEP or degradation. -/
def stillWanted (d : Dev) (done : Nat) : List WantedTransition :=
  d.modes.wanted.filter (fun w => w.cause != done && [7, 8, 9, 10, 11].contains w.cause && causeStands d w.cause)

/-! ### Requests (R40, R43 to R45) -/

/-- Preconditions of the FW row from the current mode to a target (Table 2.8); none where there is no row. -/
def requestRow (m t : Nat) : Option (List Nat) :=
  if m = t then none
  else if t = 11 then (if 2 ≤ m ∧ m ≤ 10 then some [] else none)
  else if m = 3 then
    if t ≤ 1 then some [9]
    else if t = 2 then some []
    else if t = 6 then some [1, 2, 3, 10]
    else if t = 4 then some [1, 2, 10, 11]
    else none
  else if m = 4 || m = 5 then (if t = 3 then some [] else none)
  else if 6 ≤ m ∧ m ≤ 10 then
    if t = 6 then some [3]
    else if t = 7 then some [3, 4]
    else if t = 8 then some [3, 4, 5]
    else if t = 9 ∧ m ≤ 8 then some [3, 4, 5, 6]
    else if t = 10 ∧ m ≤ 8 then some [3, 4, 5, 7]
    else if t = 3 ∧ m = 6 then some [8, 9]
    else none
  else none

/-- MODE_RESULT of a request (Table 2.4, Table 2.6); a refusal is recorded (R57). -/
def Dev.modeResult (d : Dev) (code target prec : Nat) : Dev :=
  let n := d.f SYS.MODE_RESULT 24 8
  let d := d.putN SYS.MODE_RESULT (code + target % 16 * 2 ^ 8 + prec * 2 ^ 16 + (n + 1) % 256 * 2 ^ 24)
  if 2 ≤ code then d.event 0x0121 [code, prec] else d

/-- The result code of a request and the precondition it names (R43, R44, R56; order DEDUCED). -/
def requestCode (c : Cfg) (d : Dev) (value : Word) : Nat × Nat :=
  let t := fld value 0 4
  if fld value 16 16 != 0x6D0E then (5, 0)
  else if d.mode = 11 then (7, 0)
  else if d.mode = 4 && decide (6 ≤ t ∧ t ≤ 10) then (6, 0)
  else match requestRow d.mode t with
    | none => (3, 0)
    | some l =>
      let p := firstFailing c d l
      if p != 0 then (4, p) else if t = 4 then (1, 0) else (0, 0)

/-- MODE_REQ (R40, R323): the write waits for the next boundary; an earlier one of the beat is SUPERSEDED. -/
def execModeReq (value : Word) (s : State) : Out :=
  onWrite s fun c d =>
    let d := match d.modes.request with
      | none => d
      | some w => d.modeResult 8 (fld w 0 4) 0
    let d := { d with modes := { d.modes with request := some value } }
    if d.mode = 4 then d else d.journal c (.control (wd SYS.MODE_REQ) value (BitVec.ofNat 8 (fld value 8 8)) 255 [])

/-- NEUTRAL_WAIT_CLEAR (R49): every axis has stayed within the band for 0.5 s. -/
def execNeutralWaitClear (s : State) : Out :=
  onDev s fun _ d =>
    match d.modes.neutralSince with
    | none => d
    | some t => if d.b SYS.MODE 15 then (d.advanceTo (t + ticksPerSec / 2)).putB SYS.MODE 15 false else d

end Sys2Proof.Machine
end

