-- ==== Sys2Proof/Machine/Fusion.lean ====
section
/-! DEFINITION. The fusion engine (07_fusion_tracks.md R164 to R189, 08_fusion_estimation.md R190 to R211): what an item measures and when,
clock models, the frames with their rewind, tests, vote and update, SPLIT and coasting, wind, the records it publishes, and the commands
of the tracks. Readings that the spec leaves open are those of log 91. -/
namespace Sys2Proof.Machine

/-! ### What an item measures (R164, R166, Table 7.1) -/

/-- What the ranging baseband delivers under a SOURCE_ID (R134, R136, R146, R153): 1 the observable of a channel, 2 its discriminator, 3 the
solution of an antenna, 4 the attitude; 0 an item of another source. -/
def rbbKind (c : Cfg) (src : Nat) : Nat × Nat :=
  let off (base : Nat) : Nat := (src + 65536 - base) % 65536
  if !c.b RBB.GCFG 0 then (0, 0)
  else if off (c.f RBB.SRC_BASE 16 16) < 3 then (3, off (c.f RBB.SRC_BASE 16 16))
  else if c.b RBB.ATT_CFG 0 && off (c.f RBB.ATT_SRC 0 16) = 0 then (4, 0)
  else if off (c.f RBB.SRC_BASE 0 16) < 384 then (1, off (c.f RBB.SRC_BASE 0 16))
  else if off (c.f RBB.VEC_DISC 0 16) < 384 then (2, off (c.f RBB.VEC_DISC 0 16))
  else (0, 0)

/-- The items of a source are of the kind that the track's class lists (R164): GNSS_INT takes the solution of its antenna, HEADING instance 4
the attitude, every other track no item of the baseband. -/
def takesKind (c : Cfg) (t src : Nat) : Bool :=
  if trkClass c t = 1 then rbbKind c src = (3, trkInst c t)
  else if trkClass c t = 5 && trkInst c t = 4 then rbbKind c src = (4, 0)
  else (rbbKind c src).1 = 0

/-- The numbers of an item at the sensor, SI units (log 91): GNSS_INT north, east, down and their rates (R136), HEADING instance 4 the heading of R153; the
others as their message gives them. -/
def sensorNumbers (c : Cfg) (t : Nat) (payload : List Byte) : Vec :=
  if trkClass c t = 1 then (List.range 6).map (fun i => F64.at payload (8 * i))
  else if trkClass c t = 5 && trkInst c t = 4 then [F64.at payload 0]
  else Config.itemNumbers (trkClass c t) payload

/-- x lies outside ±m. -/
def beyond (m x : BitVec 64) : Bool := F64.lt m (F64.abs x)

/-- A FEEDBACK item lies outside its actuator's limits (Table 7.1): shaft speed or pitch beyond full scale, or a thruster's force beyond TMAX and
TREV. -/
def feedbackOutside (c : Cfg) (n : Nat) (v : Vec) : Bool :=
  let f := F64.mul (Config.thrustFraction (actType c n) v) (actTmax c n)
  beyond F64.one (Vec.at v 0) || beyond F64.one (Vec.at v 1)
    || (isThruster (actType c n) && (F64.lt (actTmax c n) f || F64.lt f (F64.neg (actTrev c n))))

/-- The actuator of a FEEDBACK track (Table 7.8). -/
def trkActuator (c : Cfg) (t : Nat) : Nat := (trkSource c t + 65536 - c.f LAW.FB_BASE 0 16) % 65536

/-- The range check of Table 7.1 on the numbers of an item at time `tm`. -/
def outOfRange (c : Cfg) (x : TrackDev) (t : Nat) (v : Vec) (tm : Int) : Bool :=
  let k := trkClass c t
  let deg45 := F64.deg (F64.ofInt 45)
  if k = 1 || k = 2 then F64.lt (F64.ofInt (10 ^ 10)) (Vec.dot (v.take 2) (v.take 2))
  else if k = 3 then F64.lt (Vec.at v 0) (F64.ofRatio 1 2) || F64.lt (F64.ofInt 2000) (Vec.at v 0)
  else if k = 4 then beyond deg45 (Vec.at v 2) || F64.lt (Vec.at v 3) (F64.ofRatio 1 2) || F64.lt (F64.ofInt 1000) (Vec.at v 3)
  else if k = 5 then
    match x.last with
    | none => false
    | some l => beyond (F64.mul (F64.deg (F64.ofInt 30)) (secondsOf (max 0 (tm - l.1)))) (F64.wrapPi (F64.sub (Vec.at v 0) (Vec.at l.2 0)))
  else if k = 6 then beyond deg45 (Vec.at v 0) || beyond deg45 (Vec.at v 2) || beyond (F64.ofInt 20) (Vec.at v 5)
  else if k = 7 then F64.lt (F64.ofInt 75) (Vec.at v 0)
  else if k = 8 then beyond (F64.ofInt 15) (Vec.at v 0) || beyond (F64.ofInt 15) (Vec.at v 1)
  else feedbackOutside c (trkActuator c t) v

/-! ### Measurement time and clock models (R170 to R176) -/

/-- LAT in ticks (R170). -/
def trkLat (c : Cfg) (t : Nat) : Int := c.f (FUS.TRK_LAT t) 0 21 * ticksPerUs

/-- The time that a self-timed item carries, as TAI ticks (R172): a UTC time takes UTC_OFS. -/
def sensorTick (c : Cfg) (payload : List Byte) : Int :=
  let (ns, utc) := Config.itemTime payload
  ns / 5 + (if utc then c.s TBU.UTC_OFS 0 16 * ticksPerSec else 0)

/-- t_pred = t_s + o + rho (t_s - t_ref), to the nearest tick (R172). -/
def clockPred (x : TrackDev) (ts : Int) : Int :=
  ts + (x.o + x.rho * (ts - x.tref.getD ts) * 65536 / 10 ^ 15 + 32768) / 65536

/-- The running mean of the trigger delays (R173). -/
def delayMean (x : TrackDev) : Int := if x.delays.isEmpty then 0 else x.delays.foldl (· + ·) 0 / x.delays.length

/-- SYNC pallets in the list of a wheel: its trigger edges in one period (R171). -/
def syncPallets (c : Cfg) (w : Nat) : Nat :=
  let l := c.e (ESC.WHL_LIST w)
  (((List.range (fld l 8 9)).map (· + fld l 0 8)).filter (fun p => decide (p < 256) && fld (c.e (ESC.PAL_A p)) 0 4 = 1)).length

/-- The trigger edges of a wheel, newest first. -/
def wheelEdges (d : Dev) (w : Nat) : List Nat := (d.esc.trigs.filter (fun p => p.1 = w)).map (·.2)

/-- An edge is less than one wheel period old at `tick` (R171): PERIOD ms on the time axis; on an angle axis fewer edges have followed it than the
wheel fires in a period. -/
def edgeYoung (c : Cfg) (d : Dev) (w edge tick : Nat) : Bool :=
  if fld (c.e (ESC.WHL_LIST w)) 20 3 = 0 then decide (tick < edge + fld (c.e (ESC.WHL_CFG w)) 0 16 * ticksPerMs)
  else decide (((wheelEdges d w).filter (fun e => decide (edge < e ∧ e ≤ tick))).length < syncPallets c w)

/-- TRIG_WHEEL. -/
def trkWheel (c : Cfg) (t : Nat) : Nat := c.f (FUS.TRK_CFG t) 10 5

/-- The latest edge of the track's wheel at or before `tick` that has no reply and is less than a period old (R171). -/
def matchEdge (c : Cfg) (d : Dev) (t tick : Nat) : Option Nat :=
  (wheelEdges d (trkWheel c t)).find? (fun e =>
    decide (e ≤ tick) && !(d.trk t).answered.any (fun a => a.1 = e) && edgeYoung c d (trkWheel c t) e tick)

/-- The edges of a track's wheel that have a successor by the boundary: those without a reply before it are MISSED (R171). -/
def Dev.judgeEdges (d : Dev) (c : Cfg) (t : Nat) : Dev :=
  if trkTiming c t != 2 then d
  else
    let edges := (wheelEdges d (trkWheel c t)).filter (fun e => decide (e ≤ d.esc.boundary))
    let x := d.trk t
    let judged := (edges.zip (edges.drop 1)).filter (fun p => decide (x.judged < p.2))
    let missed := (judged.filter (fun p => !x.answered.any (fun a => a.1 = p.2 && decide (a.2 < p.1)))).length
    d.putTrk t { x with missed := x.missed + missed, judged := ((edges.drop 1).headD 0).max x.judged
                        answered := x.answered.filter (fun a => edges.contains a.1 || decide (d.esc.boundary < a.1)) }

/-- Edges that no item can match any more and that every track has judged go. -/
def Dev.dropEdges (d : Dev) (c : Cfg) : Dev :=
  let keep (p : Nat × Nat) : Bool :=
    (wheelEdges d p.1).head? = some p.2 || edgeYoung c d p.1 p.2 (d.esc.boundary - 20 * ticksPerMs) || decide (d.esc.boundary < p.2)
  { d with esc := { d.esc with trigs := d.esc.trigs.filter keep } }

/-- TRK_CLK_RES in microseconds and TRK_CLK_RATE in ppb (Table 7.7). -/
def Dev.showClock (d : Dev) (t : Nat) : Dev :=
  let x := d.trk t
  (d.putI (FUS.TRK_CLK_RES t) (satS 32 (x.resid / 200))).putI (FUS.TRK_CLK_RATE t) (satS 32 (x.rho / 1000000))

/-- The covariance of the fit as it starts (R172). -/
def clockPrior : Vec := [Config.clockVariance 0, F64.zero, F64.zero, Config.clockVariance 1]

/-- The model restarts (R174): o = o - r, rho kept, t_ref = t_s; a triggered track's mean restarts from this item (R175). -/
def clockRestart (timing : Nat) (x : TrackDev) (r ts delay : Int) : TrackDev :=
  if timing = 2 then { x with delays := [delay], pairs := 0 }
  else { x with o := x.o - r * 65536, tref := some ts, clockCov := clockPrior, pairs := 0 }

/-- Recursive least squares with forgetting factor 63/64 takes a pair (t_s, `y`) (R172). -/
def clockFit (x : TrackDev) (ts y : Int) : TrackDev :=
  let u := F64.ofInt (ts - x.tref.getD ts)
  let (p0, p1, p2, p3) := (Vec.at x.clockCov 0, Vec.at x.clockCov 1, Vec.at x.clockCov 2, Vec.at x.clockCov 3)
  let a := F64.fma p1 u p0
  let b := F64.fma p3 u p2
  let s := F64.add (F64.ofRatio 63 64) (F64.fma b u a)
  let (ka, kb) := (F64.div a s, F64.div b s)
  let o := F64.ofRatio x.o 65536
  let rho := F64.ofRatio x.rho (10 ^ 15)
  let e := F64.sub (F64.ofInt (y - ts)) (F64.fma rho u o)
  let next (p k q : BitVec 64) : BitVec 64 := F64.scale (F64.sub p (F64.mul k q)) 64 63
  { x with
    o := F64.roundTo (F64.fma ka e o) 65536 1
    rho := F64.roundTo (F64.fma kb e rho) (10 ^ 15) 1
    clockCov := [next p0 ka a, next p1 ka b, next p2 kb a, next p3 kb b]
    pairs := x.pairs + 1 }

/-- The model is updated with a pair (R172, R173): the first pair starts it. -/
def clockUpdate (timing : Nat) (x : TrackDev) (ts y delay : Int) : TrackDev :=
  if timing = 2 then { x with delays := (delay :: x.delays).take 32, pairs := x.pairs + 1 }
  else match x.tref with
    | none => { x with o := (y - ts) * 65536, tref := some ts, clockCov := clockPrior, pairs := 1 }
    | some _ => clockFit x ts y

/-- The residual calls for quarantine (R174). -/
def clockFails (c : Cfg) (x : TrackDev) (r : Int) : Bool :=
  decide (2000000 < r.natAbs) || decide (c.f FUS.OOS_CFG 24 8 * 10 ^ 9 < x.rho.natAbs)

/-- The procedure of R174 on an item's residual `r`; a HELD track keeps its model and its state. -/
def Dev.outOfStep (d : Dev) (c : Cfg) (t : Nat) (r ts y delay : Int) : Dev :=
  let timing := trkTiming c t
  let x := { d.trk t with resid := r }
  let n := d.f (FUS.TRK_STAT t) 8 8
  if trkState d t = 6 then
    (d.putTrk t (if clockFails c x r then clockRestart timing x r ts delay else clockUpdate timing x ts y delay)).showClock t
  else if trkState d t != 5 then
    if clockFails c x r then
      let x := { clockRestart timing x r ts delay with oosEntries := x.oosEntries + 1 }
      ((((d.putTrk t x).putF (FUS.TRK_STAT t) 8 8 0).setTrk c t 5).event 0x1102 [(t : Int), r]).showClock t
    else (d.putTrk t (clockUpdate timing x ts y delay)).showClock t
  else
    let good := decide (r.natAbs ≤ c.f FUS.OOS_CFG 0 10 * 2000)
    let n' := if good then n + 1 else 0
    let x := if good then clockUpdate timing x ts y delay else clockRestart timing x r ts delay
    let d := ((d.putTrk t x).putF (FUS.TRK_STAT t) 8 8 n').showClock t
    if c.f FUS.OOS_CFG 12 6 ≤ n' then (d.event 0x1103 [(t : Int)]).enterWarm c t 2 else d

/-! ### Items reach their tracks (R166, R170 to R175, R179, R185) -/

/-- An item is discarded as FUTURE, as LATE (R179), or for want of a trigger (R171). -/
def Dev.discardFuture (d : Dev) (t : Nat) (age : Int) : Dev :=
  ((d.putTrk t { d.trk t with future := (d.trk t).future + 1 }).bump FUS.FUTURE_CNT).event 0x1105 [(t : Int), age]
def Dev.discardLate (d : Dev) (t : Nat) (age : Int) : Dev :=
  ((d.putTrk t { d.trk t with late := (d.trk t).late + 1 }).bump FUS.LATE_CNT).event 0x1104 [(t : Int), age]
def Dev.discardUnmatched (d : Dev) (t : Nat) : Dev :=
  (d.putTrk t { d.trk t with unmatched := (d.trk t).unmatched + 1 }).event 0x1108 [(t : Int)]

/-- The measurement times of an item of a track: t_m, t_s, CAPTURE_TICK - LAT, trigger delay, residual (R170 to R173). -/
structure ItemTime where
  tm : Int
  ts : Int
  y : Int
  delay : Int
  r : Int

def itemTimes (c : Cfg) (x : TrackDev) (t : Nat) (i : Item) (edge : Nat) : ItemTime :=
  let y : Int := i.tick - trkLat c t
  if trkTiming c t = 2 then
    let delay : Int := i.tick - edge
    ⟨edge + trkLat c t, 0, y, delay, if x.delays.isEmpty then 0 else delay - delayMean x⟩
  else if trkTiming c t = 1 then
    let ts := sensorTick c i.payload
    let tm := if x.tref.isNone then y else clockPred x ts
    ⟨tm, ts, y, 0, y - tm⟩
  else ⟨y, 0, y, 0, 0⟩

/-- t_m of an item of a track lies before every stored frame, or more than a beat after its delivery (R179). -/
def tooOld (d : Dev) (tm : Int) : Bool := match d.fus.frames.getLast? with | none => decide (tm < d.fus.opens) | some r => decide (tm < r.opens)
def tooNew (delivered : Nat) (tm : Int) : Bool := decide ((delivered : Int) + ticksPerMs < tm)

/-- Three numbers, 0 for what is missing. -/
def three (v : Vec) : Vec := [Vec.at v 0, Vec.at v 1, Vec.at v 2]

/-- One delivered item reaches its track: the measurement that goes on to the frames, if any. An item with STALE, RANGE or POISON updates no clock and
answers no trigger (R11). -/
def Dev.trackIntake (d : Dev) (c : Cfg) (t : Nat) (p : Nat × Item) : Dev × List FusItem :=
  let i := p.2
  let v := sensorNumbers c t i.payload
  let d := d.putTrk t { d.trk t with accepted := (d.trk t).accepted + 1, lastSeq := i.seq }
  let edge := matchEdge c d t i.tick
  if trkTiming c t = 2 && edge.isNone then (d.discardUnmatched t, [])
  else
    let e := edge.getD 0
    let m := itemTimes c (d.trk t) t i e
    let bits := i.quality.toNat ||| (if outOfRange c (d.trk t) t v m.tm then qRANGE else 0)
    let usable := bits &&& (qSTALE + qRANGE + qPOISON) = 0 && (itemValid i || bits &&& qOUT_OF_STEP != 0)
    let was := trkState d t = 5
    let d := if usable && trkTiming c t = 2 then d.putTrk t { d.trk t with answered := (e, i.tick) :: (d.trk t).answered } else d
    let d := if usable && trkTiming c t != 0 then d.outOfStep c t m.r m.ts m.y m.delay else d
    let out := trkTiming c t != 0 && (was || trkState d t = 5)
    let d := if out then d.markOutOfStep i.source else d
    let q := if usable && !out then quality (bits &&& (255 - qOUT_OF_STEP)) else quality (bits ||| (if out then qOUT_OF_STEP else qINVALID))
    if tooNew p.1 m.tm && !out then (d.discardFuture t (m.tm - p.1), [])
    else if tooOld d m.tm && !out then (d.discardLate t (d.tick - m.tm), [])
    else
      let x := d.trk t
      let x := { x with lastQuality := q, history := ((m.tm, i.tick, q, three v ++ Vec.zeros 6) :: x.history).take 64 }
      let d := (d.putTrk t x).showTrk c t
      if !q.getLsbD 0 then (d, [])
      else
        let d := d.putTrk t { d.trk t with lastValid := some p.1, last := some (m.tm, v), forceZero := false, lostTick := none }
        if trkState d t = 6 then (d, [])
        else
          let d := if trkState d t = 1 then d.enterWarm c t (if (d.trk t).warmedOnce then 1 else 0) else d
          (d, [⟨0, t, i.source, i.seq, m.tm, v, 0⟩])

/-- An item of the ranging baseband enters the core directly (R164, R192): for an observable the pseudorange, for a discriminator the code error,
in m; with its sigma, line of sight, system, antenna and the satellite's range. -/
def Dev.satIntake (d : Dev) (k n : Nat) (p : Nat × Item) : Dev × List FusItem :=
  let i := p.2
  match chView d n with
  | none => (d, [])
  | some v =>
    if !itemValid i then (d, [])
    else
      let cn0 := BitVec.ofNat 16 (leAt i.payload 24 2)
      let value := if k = 1 then F64.at i.payload 0 else F64.mul (F64.at i.payload 0) (chChip d n)
      (d, [⟨k, n, i.source, i.seq, i.tick,
        [value, Config.rangeSigma cn0 (F64.neg (Vec.at v.e 2)), F64.ofInt v.sat.sys.val, F64.ofInt (chAnt d n), v.range] ++ v.e, 0⟩])

/-- One delivered item (R164). -/
def Dev.intake (d : Dev) (c : Cfg) (p : Nat × Item) : Dev × List FusItem :=
  let k := rbbKind c p.2.source
  if k.1 = 1 || k.1 = 2 then d.satIntake k.1 k.2 p
  else match (enabledTracks c).find? (fun t => trkSource c t = p.2.source && takesKind c t p.2.source) with
    | none => (d, [])
    | some t => d.trackIntake c t p

/-! ### Frames (R178, R179) -/

def fusBefore (a b : FusItem) : Bool := decide (a.tm < b.tm) || (a.tm = b.tm && decide (a.source ≤ b.source))
def insertFus (x : FusItem) (l : List FusItem) : List FusItem :=
  match l with
  | [] => [x]
  | y :: t => if fusBefore y x then y :: insertFus x t else x :: y :: t
def sortFus (l : List FusItem) : List FusItem := l.foldl (fun a x => insertFus x a) []

/-- Two entries are the same item. -/
def sameItem (a b : FusItem) : Bool := a.kind = b.kind && a.track = b.track && a.seq = b.seq && a.tm = b.tm

/-- The measurements of a close placed in their frames (R179): late ones in stored frames, those of later frames kept ahead. -/
structure Placed where
  d : Dev
  now : List FusItem
  earliest : Option Int

def Placed.put (w : Placed) (x : FusItem) : Placed :=
  if (w.d.esc.boundary : Int) ≤ x.tm then { w with d := { w.d with fus := { w.d.fus with ahead := w.d.fus.ahead ++ [x] } } }
  else if w.d.fus.opens ≤ x.tm then { w with now := insertFus x w.now }
  else match w.d.fus.frames.find? (fun r => decide (r.opens ≤ x.tm ∧ x.tm < r.closes)) with
    | none => if x.kind = 0 then { w with d := w.d.discardLate x.track (w.d.tick - x.tm) } else { w with d := w.d.bump FUS.LATE_CNT }
    | some f =>
      let frames := w.d.fus.frames.map (fun r => if r.beat = f.beat then { r with items := insertFus x r.items } else r)
      { w with
        d := { w.d with fus := { w.d.fus with frames := frames } }
        earliest := some (match w.earliest with | none => f.opens | some e => min e f.opens) }

/-! ### Single-track tests (R195, Table 8.2) -/

/-- A track of a moving target (R205). -/
def movingTarget (c : Cfg) (t : Nat) : Bool := trkClass c t = 3 && !isPosition c t

/-- The track has a bias that the core can tell from the state (R166, R186): not wind, feedback, or the range to a moving target. -/
def learnsBias (c : Cfg) (t : Nat) : Bool := trkClass c t != 7 && trkClass c t != 9 && !movingTarget c t

/-- How far two values of a track lie apart: an angle, or a distance. -/
def apartBy (angle : Bool) (a b : Vec) : BitVec 64 :=
  if angle then (Vec.sub a b).foldl (fun m x => F64.max m (F64.abs (F64.wrapPi x))) F64.zero else Vec.norm (Vec.sub a b)

/-- A count in the class noise unit as a number, and back. -/
def inUnits (k n : Nat) : BitVec 64 := F64.ofRatio ((noiseUnit k).1 * n) (noiseUnit k).2
def toUnits (k : Nat) (x : BitVec 64) : Int := F64.roundTo x (noiseUnit k).2 (noiseUnit k).1.toNat

/-- What the tests of a track compare: heading; roll and pitch; the vector to a moving target; else north and east. -/
def testValue (c : Cfg) (k : CoreDev) (t : Nat) (z : Vec) : Vec :=
  if trkClass c t = 5 then [Vec.at z 0]
  else if trkClass c t = 6 then [Vec.at z 0, Vec.at z 2]
  else if movingTarget c t then Vec.sub (z.take 2) k.place
  else [Vec.at z 0, Vec.at z 1]

/-- The inertially propagated motion of the lever-arm point, or of the angles (freeze); the inertial counterpart of the value (jump). -/
def motionOf (c : Cfg) (t : Nat) (n : Vec) : Vec :=
  if trkClass c t = 5 then [Vec.at n 8] else if trkClass c t = 6 then [Vec.at n 6, Vec.at n 7] else leverPoint n (lever c t)
def carriedOf (c : Cfg) (t : Nat) (n : Vec) : Vec :=
  if trkClass c t = 5 then [Vec.at n 8] else if trkClass c t = 6 then [Vec.at n 6, Vec.at n 7]
  else if movingTarget c t then [F64.neg (Vec.at n 0), F64.neg (Vec.at n 1)] else [Vec.at n 0, Vec.at n 1]

/-- Freeze, jump and drift on one item: the filter's record of them, and the tests it fails with their values (0 freeze, 1 jump, 2 drift). -/
def TrkFilter.test (f : TrkFilter) (c : Cfg) (t : Nat) (tm : Int) (z motion carried path : Vec) : TrkFilter × List (Nat × BitVec 64) :=
  let k := trkClass c t
  let angle := k = 5 || k = 6
  let tol := inUnits k (c.f FUS.FREEZE_CFG 0 8)
  let (still, moved) : (Int × Vec × Vec) × BitVec 64 :=
    match f.still with
    | some s => if F64.le (apartBy angle z s.2.1) tol then (s, F64.max f.motion (apartBy angle motion s.2.2)) else ((tm, z, motion), F64.zero)
    | none => ((tm, z, motion), F64.zero)
  let frozen := decide (1 ≤ k ∧ k ≤ 6) && decide (c.f FUS.FREEZE_CFG 8 8 * ticksPerSec ≤ tm - still.1) && F64.lt (F64.scale tol 5 1) moved
  let jump := match f.prev with
    | none => F64.zero
    | some p => apartBy angle (Vec.sub z p.2.1) (Vec.sub carried p.2.2)
  let jumped := decide (1 ≤ k ∧ k ≤ 5) && F64.lt (inUnits k (if k = 5 then c.f FUS.JUMP_CFG 16 16 else c.f FUS.JUMP_CFG 0 16)) jump
  let window := if isPosition c t then
      (tm, z, path) :: f.window.filter (fun p => decide (tm ≤ p.1 + c.f FUS.DRIFT_CFG 16 8 * ticksPerSec))
    else []
  let drift := match window.getLast? with
    | none => F64.zero
    | some p => apartBy false (Vec.sub z p.2.1) (Vec.sub path p.2.2)
  let drifted := isPosition c t && F64.lt (F64.ofRatio (c.f FUS.DRIFT_CFG 0 16) 1000) drift
  ({ f with still := some still, motion := moved, prev := some (tm, z, carried), window := window, jump := jump, drift := drift },
   (if frozen then [(0, moved)] else []) ++ (if jumped then [(1, jump)] else []) ++ (if drifted then [(2, drift)] else []))

/-! ### Wind and feedback as inputs of the vessel model (R184, R207, R208) -/

/-- The median of a list, the mean of the middle two where it is even. -/
def insertF64 (x : BitVec 64) (l : List (BitVec 64)) : List (BitVec 64) :=
  match l with
  | [] => [x]
  | y :: t => if F64.lt y x then y :: insertF64 x t else x :: y :: t
def medianF64 (l : List (BitVec 64)) : BitVec 64 :=
  let s := l.foldl (fun a x => insertF64 x a) []
  if s.length % 2 = 1 then Vec.at s (s.length / 2) else F64.scale (F64.add (Vec.at s (s.length / 2 - 1)) (Vec.at s (s.length / 2))) 1 2

/-- Two true winds differ beyond WIND_DIFF in speed or direction (R207). -/
def windDiffers (c : Cfg) (a b : Vec) : Bool :=
  beyond (F64.ofRatio (c.f FUS.WIND_DIFF 0 8) 10) (F64.sub (Vec.norm a) (Vec.norm b))
    || beyond (F64.deg (F64.ofInt (c.f FUS.WIND_DIFF 8 8)))
        (F64.wrapPi (F64.sub (F64.atan2 (Vec.at a 1) (Vec.at a 0)) (F64.atan2 (Vec.at b 1) (Vec.at b 0))))

/-- The wind in use, the track that shows it, and whether two tracks disagree (R207). -/
def windCombined (c : Cfg) (l : List (Nat × Vec)) : Vec × Nat × Bool :=
  match l with
  | [] => (Vec.zeros 2, 0, false)
  | [a] => (a.2, a.1, false)
  | [a, b] =>
    if windDiffers c a.2 b.2 then
      (if F64.lt (Vec.norm a.2) (Vec.norm b.2) then (b.2, b.1, true) else (a.2, a.1, true))
    else (Vec.smul (F64.ofRatio 1 2) (Vec.add a.2 b.2), a.1, false)
  | a :: _ => ((List.range 2).map (fun i => medianF64 (l.map (fun p => Vec.at p.2 i))), a.1, false)

/-- The filtered true winds of the given tracks. -/
def CoreDev.windsOf (k : CoreDev) (tracks : List Nat) : List (Nat × Vec) :=
  tracks.filterMap (fun t => (Assoc.get none k.winds t).map (fun p => (t, p.2)))

/-- A wind coefficient (0 X, 1 Y, 2 N) at an angle from the bow, linear between the 36 of the model block (R208, Table 8.7). -/
def windCoefficient (st : Store) (j : Nat) (angle : BitVec 64) : BitVec 64 :=
  let x := F64.div (F64.scale angle 18 1) F64.pi
  let i := F64.floor x
  let at_ (i : Int) : BitVec 64 := modelNum st (0x128 + 24 * (i % 36).toNat + 8 * j)
  F64.fma (F64.sub x (F64.ofInt i)) (F64.sub (at_ (i + 1)) (at_ i)) (at_ i)

/-- The wind force X, Y, N, K of a true wind (north and east, where it blows from) on the vessel of the core (R208). -/
def windForceOf (c : Cfg) (st : Store) (k : CoreDev) (wind : Vec) : Vec :=
  let (ch, sh) := (F64.cos k.heading, F64.sin k.heading)
  let rel : Vec := [F64.add (F64.fma (Vec.at wind 0) ch (F64.mul (Vec.at wind 1) sh)) (k.at 3),
    F64.add (F64.sub (F64.mul (Vec.at wind 1) ch) (F64.mul (Vec.at wind 0) sh)) (k.at 4)]
  let g := F64.atan2 (Vec.at rel 1) (Vec.at rel 0)
  let q := F64.mul (F64.ofRatio (c.f FUS.WIND_CFG 24 8 * 5) 2000) (Vec.dot rel rel)
  let part (area : BitVec 64) (j : Nat) : BitVec 64 := F64.mul (F64.mul q area) (windCoefficient st j g)
  [part (modelNum st 0x110) 0, part (modelNum st 0x118) 1, part (F64.mul (modelNum st 0x118) (modelNum st 0x120)) 2, F64.zero]

/-- A wind item takes the true wind of its track on (R207): relative wind at the reference point, less the vessel's velocity, low-pass filtered with
time constant WIND_TAU. -/
def CoreDev.takeWind (k : CoreDev) (c : Cfg) (st : Store) (x : FusItem) : CoreDev :=
  let z := atVrp c st k x.track x.vals
  let (ch, sh) := (F64.cos k.heading, F64.sin k.heading)
  let (a, b) := (F64.sub (Vec.at z 0) (k.at 3), F64.sub (Vec.at z 1) (k.at 4))
  let true_ : Vec := [F64.sub (F64.mul ch a) (F64.mul sh b), F64.fma sh a (F64.mul ch b)]
  let w : Vec := match Assoc.get none k.winds x.track with
    | none => true_
    | some p =>
      let g := F64.sub F64.one (F64.exp (F64.neg (F64.div (secondsOf (max 0 (x.tm - p.1))) (F64.ofRatio (c.f FUS.WIND_CFG 0 8) 10))))
      Vec.add p.2 (Vec.smul g (Vec.sub true_ p.2))
  { k with winds := Assoc.set none k.winds x.track (some (x.tm, w)) }

/-- A feedback item: the force of its actuator through the thrust model (R184). -/
def CoreDev.takeFeedback (k : CoreDev) (c : Cfg) (x : FusItem) : CoreDev :=
  let n := trkActuator c x.track
  let f := generalised c n (Config.thrustFraction (actType c n) x.vals, forceAzimuth c n (Vec.at x.vals 2))
  { k with acts := Assoc.set [] k.acts x.track f }

/-- The force of the set-points that stand in for FEEDBACK tracks timed out less than a second ago (R184). -/
def standForces (c : Cfg) (d : Dev) : Vec :=
  ((enabledTracks c).filter (fun t => trkClass c t = 9 && !trackValid d t && (d.trk t).lostTick.isSome && !(d.trk t).forceZero)).foldl
    (fun f t => Vec.add f (generalised c (trkActuator c t) (setpointOf d (trkActuator c t)))) (Vec.zeros 4)

/-- The wind force held or decaying (R208). -/
def windHeldForce (c : Cfg) (d : Dev) : Vec :=
  if d.fus.windHeld = 2 then d.fus.windForce.map (fun x => F64.scale x d.fus.windDecay (max 1 (c.f FUS.WIND_CFG 16 8 * 100)))
  else d.fus.windForce

/-- A VALID track of a class. -/
def anyOfClass (c : Cfg) (d : Dev) (k : Nat) : Bool := someValid c d (fun t => trkClass c t = k)

/-- The force known beside the tracks' own (R184, R208). -/
def knownForce (c : Cfg) (d : Dev) : Vec :=
  Vec.add (if c.b FUS.EGO_CFG 0 then standForces c d else Vec.zeros 4)
    (if c.b FUS.EST_CFG 1 && !anyOfClass c d 7 then windHeldForce c d ++ [F64.zero] else Vec.zeros 4)

/-- The peak frequencies; W_INIT before the first frame (R194). -/
def omegaNow (c : Cfg) (d : Dev) : Vec := if d.fus.omega.isEmpty then List.replicate 4 (F64.ofRatio (c.f FUS.WAVE_CFG 24 8) 100) else d.fus.omega

/-- What the prediction takes in a frame (R190): the forces of its FEEDBACK and wind tracks and those known beside them. -/
def FrameRec.input (r : FrameRec) (c : Cfg) (st : Store) (k : CoreDev) : CoreIn :=
  let of (cls : Nat) : List Nat := (r.weights.map (·.1)).filter (fun t => trkClass c t = cls)
  let act := if c.b FUS.EGO_CFG 0 then (of 9).foldl (fun f t => Vec.add f (Assoc.get (Vec.zeros 4) k.acts t)) (Vec.zeros 4) else Vec.zeros 4
  let winds := k.windsOf (of 7)
  let wind := if winds.isEmpty || !c.b FUS.EST_CFG 1 then Vec.zeros 4 else windForceOf c st k (windCombined c winds).1
  { mInv := massInverse st, damp := modelMat st 0x80, restore := modelNum st 0x100, tau := Vec.add r.tau (Vec.add act wind)
    omega := r.omega, zeta := F64.ofRatio (c.f FUS.WAVE_CFG 16 8) 256, wave := c.b FUS.EST_CFG 0 }

/-! ### A frame in work (R191, R195 to R198) -/

/-- A candidate of the vote (R198): track, innovation, s2, w, and the core at its t_m. -/
structure Candidate where
  t : Nat
  nu : Vec
  s2 : BitVec 64
  w : BitVec 64
  k : CoreDev

/-- Working values of a frame. `last` marks the closing frame; a change found in a replayed frame waits in `deferred` (R181); `out` are the
tracks excluded within the frame, `failed` those with a failure not told before. `seen` are the position items with the core at their t_m,
`latest` their tracks' candidates, `taken` what is applied. -/
structure Close where
  d : Dev
  frame : FrameRec
  last : Bool
  k : CoreDev
  now : Int
  seen : List (FusItem × CoreDev)
  latest : List Candidate
  taken : List FusItem
  out : List Nat
  failed : List Nat
  deferred : List Nat
  contra : List (Nat × Int)
  mismatch : Bool

/-- A track is excluded (R195 to R198). -/
def Dev.trkExclude (d : Dev) (c : Cfg) (t : Nat) : Dev :=
  if trkExcluded d t then d
  else ((d.putTrk t { d.trk t with exclusions := (d.trk t).exclusions + 1 }).putB (FUS.EXCL (t / 32)) (t % 32) true).showTrk c t

def Close.exclude (w : Close) (c : Cfg) (t : Nat) : Close :=
  let w := { w with out := t :: w.out }
  if w.last then { w with d := w.d.trkExclude c t } else { w with deferred := t :: w.deferred }

/-- A failure of an item is told once (R181): bit 0 freeze, 1 jump, 2 drift, 3 gate. -/
def Close.told (w : Close) (x : FusItem) (n : Nat) : Bool := (w.frame.items.find? (sameItem x)).elim false (fun y => decide (y.told / 2 ^ n % 2 = 1))
def Close.tell (w : Close) (x : FusItem) (n : Nat) : Close :=
  { w with
    failed := x.track :: w.failed
    frame := { w.frame with items := w.frame.items.map (fun y => if sameItem x y then { y with told := y.told ||| 2 ^ n } else y) } }

/-- A single-track test fails (R195): TEST_FAIL, and the track is excluded. -/
def Close.fail (w : Close) (c : Cfg) (x : FusItem) (n : Nat) (v : BitVec 64) : Close :=
  if w.told x n then { w with out := x.track :: w.out }
  else
    let d := (w.d.event 0x1110 [x.track, n, toUnits (trkClass c x.track) v]).sat FUS.TEST_CNT (8 * n) 8 1
    ({ w with d := d }.tell x n).exclude c x.track

/-- The gate (R196, Table 8.2) on an item with its NIS: whether it is applied. GATE_N rejections in a row exclude the track. -/
def Close.gate (w : Close) (c : Cfg) (x : FusItem) (nis : BitVec 64) : Bool × Close :=
  let t := x.track
  let f := w.k.filter t
  if F64.le nis (F64.ofRatio (c.f FUS.GATE_CFG 0 16) 256) then (true, { w with k := w.k.putFilter t { f with gateRej := 0 } })
  else
    let w := { w with k := w.k.putFilter t { f with gateRej := f.gateRej + 1 } }
    if w.told x 3 then (false, w)
    else
      let w := { w with d := w.d.bump FUS.GATE_REJ_CNT }.tell x 3
      if c.f FUS.GATE_CFG 16 8 ≤ f.gateRej + 1 && !trkExcluded w.d t && !w.out.contains t then
        (false, { w with d := w.d.event 0x1111 [(t : Int)] }.exclude c t)
      else (false, w)

/-- The weight a track has in the frame; 0 once it is excluded. -/
def Close.weight (w : Close) (t : Nat) : Nat := if w.out.contains t then 0 else ((w.frame.weights.find? (fun p => p.1 = t)).map (·.2)).getD 0

/-- The record of an item in its track's history (Table 7.5): the value at the reference point and the residual. -/
def Close.note (w : Close) (x : FusItem) (z nu : Vec) : Close :=
  let v := w.d.trk x.track
  let put (h : Int × Nat × Byte × Vec) : Int × Nat × Byte × Vec :=
    if h.1 = x.tm then (h.1, h.2.1, h.2.2.1, three h.2.2.2 ++ three z ++ three nu) else h
  { w with d := w.d.putTrk x.track { v with history := v.history.map put } }

/-- The single-track tests on an item against the core `k` at its t_m (R195): whether it passes all. -/
def Close.tested (w : Close) (c : Cfg) (x : FusItem) (k : CoreDev) (z : Vec) : Bool × Close :=
  let t := x.track
  let f := w.k.filter t
  let n := nominalAt w.frame.nominal w.frame.incs w.frame.opens w.frame.closes x.tm
  let bare := z.zipIdx.map (fun p => F64.sub p.1 (Vec.at f.bias p.2))
  let r := f.test c t x.tm (testValue c k t bare) (motionOf c t n) (carriedOf c t n) k.path
  let w := { w with k := w.k.putFilter t r.1 }
  (r.2.isEmpty, r.2.foldl (fun w p => w.fail c x p.1 p.2) w)

/-- The bias filter takes an item that passed its tests (R166): in WARM, and while references are not in contradiction. -/
def Close.learn (w : Close) (c : Cfg) (t : Nat) (nu : Vec) (s : Mat) (nis : BitVec 64) : Close :=
  let f := (w.k.filter t).show nu s nis
  { w with k := w.k.putFilter t (if learnsBias c t && (trkState w.d t = 2 || w.frame.est != 1) then f.learn nu s else f) }

/-- The measurement with the variance of its bias added, as the gate weighs it (R196, R198), and with the weight of its track (R168). -/
def Meas.withBias (m : Meas) (f : TrkFilter) : Meas := { m with r := m.r.zipIdx.map (fun p => F64.add p.1 (Vec.at f.biasVar p.2)) }
def Meas.weighed (m : Meas) (weight full : Nat) : Meas := { m with r := m.r.map (fun x => F64.scale x full (max 1 weight)) }

/-- The measurement of a track against `k`, with the biases as they stand. -/
def Close.meas (w : Close) (c : Cfg) (st : Store) (k : CoreDev) (x : FusItem) : Meas := trkMeas c st { k with filters := w.k.filters } x.track x.vals

/-- A satellite's measurement (R192). -/
def satMeas (c : Cfg) (k : CoreDev) (x : FusItem) : Meas :=
  let v := x.vals
  let sys := (F64.floor (Vec.at v 2)).toNat
  let e := v.drop 5
  let nu := if x.kind = 1 then F64.sub (Vec.at v 0) (satRange k (Vec.at v 4) e sys (antLever c (F64.floor (Vec.at v 3)).toNat)) else Vec.at v 0
  ⟨[satRow e sys], [nu], [F64.mul (Vec.at v 1) (Vec.at v 1)]⟩

/-- An item meets the core at its t_m (R191 step 3): what is no position item is tested, gated and applied; a position item is kept with the
core that it meets. -/
def Close.meetSat (w : Close) (c : Cfg) (x : FusItem) : Close :=
  let m := satMeas c w.k x
  if !F64.le (w.k.nis m) (F64.ofRatio (c.f FUS.GATE_CFG 0 16) 256) then w
  else { w with k := if w.frame.est = 0 then w.k.update m else w.k, taken := w.taken ++ [x] }

def Close.meetMotion (w : Close) (c : Cfg) (st : Store) (x : FusItem) : Close :=
  let t := x.track
  let m := w.meas c st w.k x
  let g := m.withBias (w.k.filter t)
  let nis := w.k.nis g
  let z := atVrp c st w.k t x.vals
  let r := (w.note x z m.nu).tested c x w.k z
  let w := if r.1 then r.2.learn c t m.nu (w.k.innovCov m) nis else r.2
  let q := w.gate c x nis
  let weight := q.2.weight t
  if r.1 && q.1 && weight != 0 then
    { q.2 with k := q.2.k.update (g.weighed weight (weightDen c)), taken := q.2.taken ++ [x] }
  else q.2

def Close.meetTarget (w : Close) (c : Cfg) (st : Store) (x : FusItem) : Close :=
  let t := x.track
  let z := atVrp c st w.k t x.vals
  let s := sigmaSi c t
  match Assoc.get none w.k.targets t with
  | none =>
    let r := (w.note x z (Vec.zeros 2)).tested c x w.k z
    if r.1 then { r.2 with k := { r.2.k with targets := Assoc.set none r.2.k.targets t (some (targetStart z x.tm)) } } else r.2
  | some g =>
    let g := g.carry (F64.ofRatio (c.f FUS.REL_CFG 8 8) 100) x.tm
    let (nu, cov) := g.innov z (F64.mul s s)
    let nis := Vec.dot nu (Mat.solve cov nu)
    let r := (w.note x z nu).tested c x w.k z
    let q := (if r.1 then r.2.learn c t nu cov nis else r.2).gate c x nis
    let g := if r.1 && q.1 then g.update z (F64.mul s s) else g
    { q.2 with k := { q.2.k with targets := Assoc.set none q.2.k.targets t (some g) } }

def Close.meet (c : Cfg) (st : Store) (w : Close) (x : FusItem) : Close :=
  let w := { w with k := w.k.carry (w.frame.input c st w.k) w.now x.tm, now := max w.now x.tm }
  if x.kind != 0 then w.meetSat c x
  else if trkClass c x.track = 7 then
    let z := atVrp c st w.k x.track x.vals
    { w.note x z (Vec.zeros 3) with k := w.k.takeWind c st x }
  else if trkClass c x.track = 9 then { w.note x x.vals (Vec.zeros 3) with k := w.k.takeFeedback c x, taken := w.taken ++ [x] }
  else if isPosition c x.track then { w with seen := w.seen ++ [(x, w.k)] }
  else if movingTarget c x.track then w.meetTarget c st x
  else w.meetMotion c st x

/-- A position item is tested against the core at its t_m (R191 step 4), and makes its track's candidate. -/
def Close.testPosition (c : Cfg) (st : Store) (w : Close) (p : FusItem × CoreDev) : Close :=
  let t := p.1.track
  let m := w.meas c st p.2 p.1
  let f := w.k.filter t
  let nis := p.2.nis (m.withBias f)
  let s := sigmaSi c t
  let s2 := F64.add (F64.mul s s) (F64.max (Vec.at f.biasVar 0) (Vec.at f.biasVar 1))
  let z := atVrp c st p.2 t p.1.vals
  let r := (w.note p.1 z m.nu).tested c p.1 p.2 z
  let w := if r.1 then r.2.learn c t m.nu (p.2.innovCov m) nis else { r.2 with k := r.2.k.putFilter t ((r.2.k.filter t).show m.nu (p.2.innovCov m) nis) }
  let cand : Candidate := ⟨t, m.nu, s2, F64.div (F64.ofRatio (w.weight t) (weightDen c)) s2, p.2⟩
  { w with latest := w.latest.filter (fun x => x.t != t) ++ [cand] }

/-! ### The vote (R198, R199, R202) -/

/-- d2 of two candidates (R198). -/
def d2Of (a b : Candidate) : BitVec 64 := let e := Vec.sub a.nu b.nu; F64.div (Vec.dot e e) (F64.add a.s2 b.s2)
def d2Shown (a b : Candidate) : Int := F64.roundTo (d2Of a b) 256 1
def agrees (c : Cfg) (a b : Candidate) : Bool := F64.le (d2Of a b) (F64.ofRatio (c.f FUS.VOTE_CFG 0 16) 256)

/-- The cost of a candidate as the consensus. -/
def voteCost (l : List Candidate) (k : Candidate) : BitVec 64 := F64.sum (l.map (fun i => F64.mul i.w (Vec.norm (Vec.sub i.nu k.nu))))

/-- The consensus: the lowest cost, the lower track number among equals. -/
def consensus (l : List Candidate) : Option Candidate :=
  l.foldl (fun b k => match b with
    | none => some k
    | some x => if F64.lt (voteCost l k) (voteCost l x) then some k else b) none

/-- The agreeing candidates reach the majority of R198. -/
def majority (c : Cfg) (l : List Candidate) (k : Candidate) : Bool :=
  let agree := l.filter (fun i => agrees c i k)
  decide (2 ≤ agree.length) && F64.lt (F64.scale (F64.sum (l.map (·.w))) 1 2) (F64.sum (agree.map (·.w)))

/-- A track is voted out (R198, R202, R203). -/
def Close.voteOut (w : Close) (c : Cfg) (t : Nat) (d2 : Int) : Close :=
  let x := w.d.trk t
  if x.votedOut then w
  else
    let d := ((w.d.putTrk t { x with votesLost := x.votesLost + 1, votedOut := true }).event 0x1112 [(t : Int), d2]).sat FUS.TEST_CNT 24 8 1
    { w with d := d, failed := t :: w.failed }.exclude c t

/-- SPLIT ends (R202): cause 1 SELECTED, 2 MAJORITY, 3 AGREED. -/
def Dev.endSplit (d : Dev) (cause : Nat) : Dev :=
  let d := ({ d with fus := { d.fus with agreeRun := 0 } } : Dev).event 0x1114 [(cause : Int)]
  ((d.putN FUS.SPLIT_STAT 0).putN (FUS.SPLIT_SET 0) 0).putN (FUS.SPLIT_SET 1) 0

/-- The innovations of the frame's position items before any test (step 2 of R191). -/
def Close.preview (w : Close) (c : Cfg) (st : Store) : List Candidate :=
  ((w.frame.items.foldl (Close.meet c st) w).seen).foldl (fun l p =>
    let f := p.2.filter p.1.track
    let s := sigmaSi c p.1.track
    let s2 := F64.add (F64.mul s s) (F64.max (Vec.at f.biasVar 0) (Vec.at f.biasVar 1))
    l.filter (fun x => x.t != p.1.track) ++ [⟨p.1.track, (trkMeas c st p.2 p.1.track p.1.vals).nu, s2, F64.zero, p.2⟩]) []

/-- The code of Table 8.3 of a selection. -/
def selectCode (c : Cfg) (w : Close) (t : Nat) : Nat :=
  if !inSplit w.d then 3
  else if !isPosition c t then 4
  else if !trackValid w.d t || !w.frame.items.any (fun x => x.kind = 0 && x.track = t) then 5
  else 2

/-- The selection of step 2 (R203): the selected track is kept, the other position tracks beyond VOTE_GATE of it are voted out. -/
def Close.select (w : Close) (c : Cfg) (st : Store) : Close :=
  match w.d.fus.selection with
  | none => w
  | some t =>
    let code := selectCode c w t
    let d := ({ w.d with fus := { w.d.fus with selection := none } } : Dev).putF FUS.SEL_RESULT 0 4 code
    if code != 2 then { w with d := d.event 0x111B [(code : Int)] }
    else
      let l : List Candidate := w.preview c st
      let w := { w with d := d }
      let w : Close := match l.find? (fun i => i.t = t) with
        | none => w
        | some k => (l.filter (fun (i : Candidate) => i.t != t && !trkExcluded d i.t && !agrees c i k)).foldl (fun w i => w.voteOut c i.t (d2Shown i k)) w
      { w with d := w.d.endSplit 1, frame := { w.frame with est := 0 } }

/-- The distances to the consensus (Table 7.5). -/
def Close.showD2 (w : Close) (k : Candidate) : Close :=
  { w with k := w.latest.foldl (fun k' i => k'.putFilter i.t { k'.filter i.t with d2 := d2Of i k }) w.k }

/-- Items of excluded position tracks are judged (R197): agreement with the consensus for a track voted out, the gate for others. -/
def Close.judge (w : Close) (c : Cfg) (k : Option Candidate) : Close :=
  (w.latest.filter (fun i => trkExcluded w.d i.t)).foldl (fun w i =>
    let gate := F64.le (w.k.filter i.t).nis (F64.ofRatio (c.f FUS.GATE_CFG 0 16) 256)
    let pass := if (w.d.trk i.t).votedOut then (match k with | none => true | some a => agrees c i a) else gate
    if pass then w else { w with failed := i.t :: w.failed }) w

/-- Every item of the given tracks is applied. -/
def Close.takeTracks (w : Close) (l : List Nat) : Close :=
  { w with taken := w.taken ++ (w.seen.filter (fun p => l.contains p.1.track)).map (·.1) }

/-- The weighted mean innovation of the agreeing candidates against the prediction at the consensus (R198). -/
def meanNis (agree : List Candidate) (k : Candidate) : BitVec 64 :=
  let sum := F64.sum (agree.map (·.w))
  let mean := (List.range 2).map (fun i => F64.div (F64.sum (agree.map (fun a => F64.mul a.w (Vec.at a.nu i)))) sum)
  let r := F64.div (F64.sum (agree.map (fun a => F64.mul (F64.mul a.w a.w) a.s2))) (F64.mul sum sum)
  k.k.nis ⟨(predicted k.k 1).2, mean, [r, r]⟩

/-- The items of the agreeing tracks are applied (R198); their mean against the prediction may show a mismatch. -/
def Close.takeAgreeing (w : Close) (c : Cfg) (agree : List Candidate) (k : Candidate) : Close :=
  let w := w.takeTracks (agree.map (·.t))
  if w.last && !F64.le (meanNis agree k) (F64.ofRatio (c.f FUS.GATE_CFG 0 16) 256) then
    { w with mismatch := true, d := (w.d.bump FUS.MISMATCH_CNT).event 0x1117 }
  else w

/-- A vote over two or more candidates (R198, R199, R202). In SPLIT it applies nothing but on an exit. -/
def Close.voteMany (w : Close) (c : Cfg) (l : List Candidate) (k : Candidate) : Close :=
  let major := majority c l k
  let split := w.frame.est = 1
  let run := if split && w.last then (if major && l.length = 2 then w.d.fus.agreeRun + 1 else 0) else w.d.fus.agreeRun
  let w := { w with d := { w.d with fus := { w.d.fus with agreeRun := run } } }
  if !major then (if split then w else { w with contra := l.map (fun i => (i.t, d2Shown i k)), frame := { w.frame with est := 1 } })
  else if split && !(w.last && (decide (3 ≤ l.length) || decide (c.f FUS.VOTE_CFG 16 8 ≤ run))) then w
  else
    let w := (l.filter (fun i => !agrees c i k)).foldl (fun w i => w.voteOut c i.t (d2Shown i k)) w
    let w := if split then { w with d := w.d.endSplit (if l.length = 2 then 3 else 2), frame := { w.frame with est := 0 } } else w
    w.takeAgreeing c (l.filter (fun i => agrees c i k)) k

/-- The only candidate is gated, not voted (R198); in SPLIT nothing is applied and no agreement goes on. -/
def Close.voteOne (w : Close) (c : Cfg) (i : Candidate) : Close :=
  if w.frame.est = 1 then { w with d := { w.d with fus := { w.d.fus with agreeRun := if w.last then 0 else w.d.fus.agreeRun } } }
  else
    (w.seen.filter (fun p => p.1.track = i.t)).foldl (fun w p =>
      let g := w.gate c p.1 (w.k.filter i.t).nis
      if g.1 && !g.2.out.contains i.t then { g.2 with taken := g.2.taken ++ [p.1] } else g.2) w

/-- Step 4 of R191: the position items of the frame are tested and voted. -/
def Close.positions (w : Close) (c : Cfg) (st : Store) : Close :=
  let w := w.seen.foldl (Close.testPosition c st) w
  let wmin := c.f FUS.VOTE_CFG 24 8
  let cands := ((List.range 64).filterMap (fun t => w.latest.find? (fun i => i.t = t))).filter (fun i =>
    w.weight i.t != 0 && decide (wmin * weightDen c ≤ w.weight i.t * 255))
  let w := if w.last then { w with d := w.d.putF FUS.EST_STAT 8 8 (satU 8 cands.length) } else w
  let k := consensus cands
  let w := match k with | none => w | some k => w.showD2 k
  let w := if w.last then w.judge c k else w
  match cands, k with
  | [i], _ => w.voteOne c i
  | _ :: _ :: _, some k => w.voteMany c cands k
  | _, _ => if w.last then { w with d := { w.d with fus := { w.d.fus with agreeRun := 0 } } } else w

/-- The update by everything taken, in order of t_m from the opening (R178, R191 step 5); satellites only outside SPLIT and coasting (R192). -/
def Close.settle (w : Close) (c : Cfg) (st : Store) (opening : CoreDev) : Close :=
  let items := sortFus (w.taken.filter (fun x => x.kind = 0 || w.frame.est = 0))
  let apply (p : CoreDev × Int) (x : FusItem) : CoreDev × Int :=
    let k := p.1.carry (w.frame.input c st p.1) p.2 x.tm
    let k := if x.kind != 0 then k.update (satMeas c k x)
      else if trkClass c x.track = 9 then k.takeFeedback c x
      else k.update (((trkMeas c st k x.track x.vals).withBias (k.filter x.track)).weighed (w.weight x.track) (weightDen c))
    (k, max p.2 x.tm)
  let p := items.foldl apply ({ opening with filters := w.k.filters }, w.frame.opens)
  let k := p.1.carry (w.frame.input c st p.1) p.2 w.frame.closes
  let w := { w with taken := items, k := { k with winds := w.k.winds, targets := w.k.targets } }
  let has (f : Nat → Bool) : Bool := items.any (fun x => x.kind = 0 && f x.track)
  { w with d := { w.d with fus := { w.d.fus with
    headingTaken := w.d.fus.headingTaken || has (fun t => trkClass c t = 5)
    positionTaken := w.d.fus.positionTaken || has (isPosition c) } } }

/-- A bias filter starts (R185): its covariance at the class prior, 10 sigma a component; with kind 2 the whole filter. -/
def CoreDev.resetBias (c : Cfg) (k : CoreDev) (p : Nat × Nat) : CoreDev :=
  let s := F64.scale (sigmaSi c p.1) 10 1
  let n := measLength (trkClass c p.1)
  k.putFilter p.1 { (if p.2 = 2 then {} else k.filter p.1) with biasVar := List.replicate n (F64.mul s s) }

/-- One frame, replayed or closing (R191 steps 2 to 5), from the estimator at its opening. -/
def Close.run (w : Close) (c : Cfg) (st : Store) (r : FrameRec) (last : Bool) : Close :=
  let opening := r.resets.foldl (CoreDev.resetBias c) r.core
  let w : Close := { w with frame := r, last := last, k := opening, now := r.opens, seen := [], latest := [], taken := [], out := [], contra := [] }
  let w := if last then w.select c st else w
  let w := w.frame.items.foldl (Close.meet c st) w
  (w.positions c st).settle c st opening

/-! ### SPLIT, coasting and the mode (R200, R201, R204, R50 to R52) -/

/-- COAST_LEFT at entry: COAST_S × 100 frames. -/
def coastFrames (c : Cfg) : Nat := c.f FUS.COAST_CFG 0 10 * 100

/-- SPLIT is entered (R200). -/
def Dev.enterSplit (d : Dev) (c : Cfg) (cands : List (Nat × Int)) : Dev :=
  let mask := cands.foldl (fun m p => m ||| 2 ^ p.1) 0
  let d := { d with
    fus := { d.fus with coasting := false, agreeRun := 0 }
    law := { d.law with heldXY := tauMean d } }
  let d := (d.putN FUS.SPLIT_STAT (1 + coastFrames c * 2 ^ 16)).put64 (FUS.SPLIT_SET 0) (FUS.SPLIT_SET 1) mask
  (d.irq 0x40023000 0).event 0x1113 (cands.flatMap (fun p => [(p.1 : Int), p.2]))

/-- Step 6 of R191. -/
def Dev.splitStep (d : Dev) (c : Cfg) (contra : List (Nat × Int)) : Dev :=
  let any := someValid c d (isPosition c)
  let d := if d.fus.coasting && any then
      ({ d with fus := { d.fus with coasting := false } } : Dev).putN FUS.SPLIT_STAT 0
    else d
  if !contra.isEmpty && !inSplit d then d.enterSplit c contra
  else if inSplit d || d.fus.coasting then d.putF FUS.SPLIT_STAT 16 16 (d.f FUS.SPLIT_STAT 16 16 - 1)
  else if any then d
  else
    (({ d with fus := { d.fus with coasting := true } } : Dev).putN FUS.SPLIT_STAT (coastFrames c * 2 ^ 16)).event 0x1116

/-- Mode 10 without a VALID relative track of its target for the coast time loses its reference (R52, Table 2.8; log 26). -/
def Dev.targetStep (d : Dev) (c : Cfg) : Dev :=
  let n := if d.mode = 10 && !precond c d 7 then d.fus.targetRun + 1 else 0
  let d := { d with fus := { d.fus with targetRun := n } }
  if n = coastFrames c + 1 then d.want 0x0A 7 else d

/-- Coasting has just run out (R201): COAST_LEFT is 0 and its end has not been recorded. -/
def coastOut (d : Dev) : Bool := (inSplit d || d.fus.coasting) && !d.b FUS.SPLIT_STAT 1 && d.f FUS.SPLIT_STAT 16 16 = 0

/-- The estimator state of Table 8.6. -/
def estState (d : Dev) : Nat := if inSplit d then 1 else if d.fus.coasting then 2 else 0

/-! ### Track states at a close (R166, R185, R186, R197) -/

/-- TRK_CMD taken at the close (Table 7.7): 1 RESTART, 2 RELEASE. -/
def Dev.trackCommand (d : Dev) (c : Cfg) (t : Nat) : Dev :=
  match (d.trk t).command with
  | none => d
  | some n =>
    let st := trkState d t
    let d := d.putTrk t { d.trk t with command := none }
    if st = 0 then d
    else if n = 2 then d.setTrk c t 6
    else if st = 5 then d
    else d.enterWarm c t 4

/-- Frames counted at the start of a close. -/
def Dev.trackTick (d : Dev) (c : Cfg) (t : Nat) : Dev :=
  let x := d.trk t
  let st := trkState d t
  if st = 2 then d.putTrk t { x with warmFrames := x.warmFrames + 1 }
  else if st = 3 then (d.putTrk t { x with rampFrames := x.rampFrames + 1 }).showTrk c t
  else if st = 4 then d.putTrk t { x with activeFrames := x.activeFrames + 1 }
  else d

/-- The sigma of every bias component lies below the track's noise sigma (R186). -/
def biasBelow (c : Cfg) (d : Dev) (t : Nat) : Bool :=
  let s := sigmaSi c t
  let v := (d.fus.core.filter t).biasVar
  !learnsBias c t || (!v.isEmpty && v.all (fun x => F64.lt x (F64.mul s s)))

/-- Step 7 of R191; `failed` are the tracks with a failure, `met` those that brought items. -/
def Dev.trackStep (d : Dev) (c : Cfg) (failed met : List Nat) (t : Nat) : Dev :=
  let x := d.trk t
  let n := if failed.contains t then 0 else if 0 < x.passFrames || met.contains t then x.passFrames + 1 else 0
  let d := d.putTrk t { x with passFrames := n }
  let st := trkState d t
  if trkExcluded d t then
    if c.f FUS.COAST_CFG 16 8 * 100 + 1 ≤ n then
      let d := (d.putB (FUS.EXCL (t / 32)) (t % 32) false).putTrk t { d.trk t with votedOut := false, rampFrames := 0 }
      let d := d.event 0x111A [(t : Int)]
      if decide (2 ≤ st ∧ st ≤ 4) then (if c.f FUS.WARM_CFG 16 8 = 0 then d.trkActive c t else d.setTrk c t 3) else d.showTrk c t
    else d
  else if st = 2 && decide (c.f FUS.WARM_CFG 0 10 ≤ x.warmFrames) && biasBelow c d t && decide (10 ≤ n) then d.leaveWarm c t
  else if st = 3 && decide (weightDen c ≤ x.rampFrames) then d.trkActive c t
  else d

/-! ### Wind and waves at a close (R194, R207, R208) -/

/-- The wind of a frame (R207, R208): the force in use, held, or decaying. -/
def Dev.windStep (d : Dev) (c : Cfg) (st : Store) : Dev :=
  let tracks := (enabledTracks c).filter (fun t => trkClass c t = 7 && trackValid d t)
  if !tracks.isEmpty then
    let l := d.fus.core.windsOf tracks
    let (wind, t, diff) := windCombined c l
    let d := if diff && !d.fus.windDisagree then d.event 0x1118 else d
    let d := { d with fus := { d.fus with
      windDisagree := diff, windHeld := 0, windDecay := 0
      wind := if l.isEmpty then d.fus.wind else wind
      windForce := if l.isEmpty then d.fus.windForce else (windForceOf c st d.fus.core wind).take 3 } }
    d.putN FUS.WIND_STAT (1 + diff.toNat * 2 + (if l.isEmpty then d.f FUS.WIND_STAT 8 6 else t) * 2 ^ 8)
  else if d.b FUS.WIND_STAT 0 then
    let hold := c.f FUS.WIND_CFG 8 8
    let d := { d with fus := { d.fus with windDisagree := false, windHeld := if hold = 0 then 2 else 1
                                          windDecay := c.f FUS.WIND_CFG 16 8 * 100 } }
    (d.putN FUS.WIND_STAT 4).event 0x1119
  else if d.fus.windHeld = 2 then
    let n := d.fus.windDecay - 1
    ({ d with fus := { d.fus with windDecay := n } } : Dev).putB FUS.WIND_STAT 2 (n != 0)
  else d

/-- WIND_HOLD_EXPIRY (R208): the held force starts to fall to zero over DECAY_S. -/
def execWindHoldExpiry (s : State) : Out :=
  onDev s fun c d =>
    if d.fus.windHeld != 1 then d
    else
      let n := c.f FUS.WIND_CFG 16 8 * 100
      ({ d with fus := { d.fus with windHeld := 2, windDecay := n } } : Dev).putB FUS.WIND_STAT 2 (n != 0)

/-- The force of the frame in binary64 (R208). -/
def windNow (c : Cfg) (d : Dev) : Vec := if c.b FUS.EST_CFG 1 then windHeldForce c d else Vec.zeros 3

/-- The adaptive notch of each degree of freedom (R194): at most 1 % a frame, within W_MIN and W_MAX. -/
def Dev.waveStep (d : Dev) (c : Cfg) (slow : Vec) : Dev :=
  if !c.b FUS.EST_CFG 0 then d
  else
    let lo := F64.ofRatio (c.f FUS.WAVE_CFG 0 8) 100
    let hi := F64.ofRatio (c.f FUS.WAVE_CFG 8 8) 100
    let w := (omegaNow c d).zipIdx.map (fun p =>
      let n := Config.notchStep p.1 (F64.sub (Vec.at d.fus.accel p.2) (Vec.at slow p.2)) (c.f FUS.WAVE_TAU 0 8)
      F64.clamp lo hi (F64.clamp (F64.scale p.1 99 100) (F64.scale p.1 101 100) n))
    let d := { d with fus := { d.fus with omega := w } }
    w.zipIdx.foldl (fun d p => d.putF FUS.WAVE_W (8 * p.2) 8 (satU 8 (F64.roundTo p.1 100 1).toNat)) d

/-! ### Publication (R180, R188, R209, R210) -/

def padTo (n : Nat) (l : List Byte) : List Byte := (l ++ List.replicate (n - l.length) 0).take n
def f64s (n : Nat) (l : List (BitVec 64)) : List Byte := padTo (8 * n) ((l.take n).flatMap F64.bytes)

/-- The record of a track (Table 7.5). -/
def trackRecord (c : Cfg) (d : Dev) (t : Nat) : List Byte :=
  let x := d.trk t
  let f := d.fus.core.filter t
  let k := trkClass c t
  let sq : SeqState := Assoc.get {} d.flow.seqs (trkSource c t)
  let ident := leBytes 1 t ++ leBytes 1 k ++ leBytes 1 (trkInst c t) ++ leBytes 1 (trkState d t) ++ leBytes 2 (trkSource c t) ++ [0, 0]
    ++ leBytes 8 (trackSerial c t) ++ leBytes 2 x.lastSeq ++ [x.lastQuality]
  let conf := f64s 6 (lever c t ++ [F64.ofRatio (c.f (FUS.TRK_LAT t) 0 21) 1000000, F64.ofRatio (trkTmo c t) 1000, sigmaSi c t])
    ++ leBytes 1 (trkTiming c t) ++ leBytes 1 (trkWheel c t)
  let clock := f64s 2 [F64.ofRatio x.o (65536 * ticksPerSec), F64.ofRatio x.rho (10 ^ 15)] ++ leBytes 8 (unsigned 64 (x.tref.getD 0))
    ++ f64s 4 x.clockCov ++ f64s 2 [secondsOf x.resid, secondsOf (delayMean x)] ++ leBytes 4 (d.f (FUS.TRK_STAT t) 8 8) ++ leBytes 4 x.pairs
  let noise := f64s 6 (f.innovVar.map F64.sqrt) ++ f64s 6 f.innovVar ++ f64s 1 [F64.ofRatio (trkWeight c d t) (weightDen c)]
  let bias := f64s 6 f.bias ++ f64s 36 ((List.range 36).map (fun i => if i % 7 = 0 then Vec.at f.biasVar (i / 7) else F64.zero))
    ++ f64s 6 (List.replicate (measLength k) (F64.scale (sigmaSi c t) 10 1))
  let freeze := match f.still, f.prev with | some s, some p => secondsOf (p.1 - s.1) | _, _ => F64.zero
  let stats := f64s 5 [f.nis, freeze, f.jump, f.drift, f.d2] ++ leBytes 4 f.gateRej ++ leBytes 4 x.exclusions ++ leBytes 4 x.votesLost
  let counts := [x.accepted + sq.dup + sq.reorder, x.accepted, sq.lost, sq.dup, sq.reorder, x.late, x.future, x.unmatched, x.missed,
    x.oosEntries, x.warmIns, x.activeFrames / 100].flatMap (leBytes 4)
  let hist := x.history.flatMap (fun h => leBytes 8 (unsigned 64 h.1) ++ leBytes 8 h.2.1 ++ [h.2.2.1, 0, 0, 0, 0, 0, 0, 0] ++ f64s 9 h.2.2.2)
  padTo 64 ident ++ padTo 192 conf ++ padTo 256 clock ++ padTo 256 noise ++ padTo 512 bias ++ padTo 256 stats ++ padTo 512 counts
    ++ padTo 6144 hist

/-- The quality byte of the estimate record (R210). -/
def estQuality (d : Dev) (mismatch poison : Bool) : Byte :=
  let bits := (if inSplit d then qSPLIT else 0) ||| (if d.fus.ego = 2 || d.fus.coasting then qSUBSTITUTED else 0)
    ||| (if (d.fus.ego = 1 && !d.fus.egoFast) || mismatch then qSUSPECT else 0) ||| (if poison then qPOISON else 0)
    ||| (if d.fus.headingTaken && d.fus.positionTaken then 0 else qINVALID)
  quality bits

/-- Place and velocity of the target of EST_CFG relative to the vessel, in the body frame (R206). -/
def targetShown (c : Cfg) (d : Dev) : Vec :=
  if !c.b FUS.EST_CFG 2 then Vec.zeros 4
  else
    let k := d.fus.core
    let r := k.relative (F64.ofRatio (c.f FUS.REL_CFG 8 8) 100) (c.f FUS.EST_CFG 4 6) d.fus.opens
    alignedTo (k.at 2) (r.take 2) ++ alignedTo (k.at 2) (r.drop 2)

/-- The 80 numbers of the record from offset 0x020 (Table 8.6). -/
def estNumbers (c : Cfg) (d : Dev) : Vec :=
  let k := d.fus.core
  let w := d.fus.wind
  (List.range 6).map k.at ++ [k.roll, k.rollRate] ++ (List.range 7).map (fun i => k.at (8 + i)) ++ (windNow c d)
    ++ [Vec.norm w, F64.atan2 (Vec.at w 1) (Vec.at w 0)] ++ (List.range 4).map (fun i => k.at (15 + 2 * i)) ++ omegaNow c d
    ++ (List.range 48).map (fun i => Mat.get k.covMat i i) ++ targetShown c d

/-- The estimate record (Table 8.6). -/
def estRecord (c : Cfg) (d : Dev) : List Byte :=
  let mask (lo hi : Nat) : Nat := (d.w lo).toNat + (d.w hi).toNat * 2 ^ 32
  let rel := if c.b FUS.EST_CFG 2 && trackValid d (c.f FUS.EST_CFG 4 6) then quality 0 else quality qSTALE
  leBytes 8 d.esc.beat ++ leBytes 8 d.esc.boundary ++ leBytes 4 d.fus.seq ++ [d.fus.quality]
    ++ leBytes 1 (estState d) ++ leBytes 2 (d.f FUS.SPLIT_STAT 16 16) ++ List.replicate 8 0 ++ f64s 80 (estNumbers c d)
    ++ leBytes 8 d.fus.applied ++ leBytes 8 (mask (FUS.EXCL 0) (FUS.EXCL 1)) ++ leBytes 8 (mask (FUS.SPLIT_SET 0) (FUS.SPLIT_SET 1))
    ++ [quality (if d.b FUS.WIND_STAT 0 then 0 else qSUBSTITUTED), rel, 0, 0, 0, 0, 0, 0]

/-- EST_STAT and the sequence of the record (R209, Table 8.8). -/
def Dev.showEst (d : Dev) (mismatch poison : Bool) (applied : Nat) : Dev :=
  let q := estQuality d mismatch poison
  let n := (d.fus.seq + 1) % 2 ^ 32
  let d := { d with fus := { d.fus with seq := n, quality := q, applied := applied } }
  let d := (((d.putF FUS.EST_STAT 0 2 (estState d)).putB FUS.EST_STAT 2 (q.getLsbD 0)).putB FUS.EST_STAT 3 (q.getLsbD 5)).putB FUS.EST_STAT 4
    (q.getLsbD 3)
  d.putF FUS.EST_STAT 16 16 n

/-- The estimate record and the track records are published whole. -/
def publishFusion (c : Cfg) (st : Store) (d : Dev) : Store × Dev :=
  (List.range 64).foldl (fun (x : Store × Dev) t => x.1.writeBy x.2 (estBase + 0x10000 + 0x2000 * t) (trackRecord c d t))
    (st.writeBy d estBase (estRecord c d))

/-- Fusion state memory delivers poisoned data to the core (R210, R463): a word of its 6 MiB is poison or cannot be corrected. -/
def poisonStands (st : Store) : Bool :=
  let inside (w : Nat) : Bool := decide (estBase ≤ w ∧ w < estBase + 0x600000)
  st.poison.any inside || st.errs.any (fun p => inside p.1 && decide (4 < p.2.length))

/-! ### The close (R191) -/

/-- REPLAY_STAT (R180, Table 7.6). -/
def Dev.replayed (d : Dev) (b : Nat) (depth : Nat) : Dev :=
  let l := d.fus.replays.filter (fun x => decide (b < x + 1000))
  let l := if depth = 0 then l else b :: l
  let d := { d with fus := { d.fus with replays := l } }
  let d := d.putF FUS.REPLAY_STAT 16 16 l.length
  if depth = 0 then d
  else (d.putF FUS.REPLAY_STAT 0 8 (satU 8 depth)).putF FUS.REPLAY_STAT 8 8 (max (satU 8 depth) (d.f FUS.REPLAY_STAT 8 8))

/-- The inertial state that the core's states give: north, east, down, their rates, roll, pitch, heading, their rates. -/
def CoreDev.motion (k : CoreDev) : Vec :=
  k.place ++ [F64.neg (k.at 10)] ++ k.drift ++ [F64.neg (k.at 11), k.roll, k.at 8, k.heading] ++ k.rates

/-- The frames must be one chain (R178): after a gap the history starts again with a frame of 10 ms. -/
def Dev.chainFrames (d : Dev) : Dev :=
  let chained := match d.fus.frames with | [] => false | r :: _ => decide ((r.beat + 10) % 2 ^ 48 = d.esc.beat)
  if chained then { d with fus := { d.fus with frames := d.fus.frames.take 199 } }
  else { d with fus := { d.fus with frames := [], opens := (d.esc.boundary : Int) - 10 * ticksPerMs, nominalOpen := d.fus.nominal } }

/-- The items delivered since the previous close reach their tracks; the edges of triggers are judged. -/
def Dev.takeDelivered (d : Dev) (c : Cfg) : Dev × List FusItem :=
  let taken := d.flow.delivered.foldl (fun (a : Dev × List FusItem) p =>
    let r := a.1.intake c p
    (r.1, a.2 ++ r.2)) ({ d with flow := { d.flow with delivered := [] } }, [])
  (((enabledTracks c).foldl (fun d t => d.judgeEdges c t) taken.1).dropEdges c, taken.2)

/-- The frame that closes, from what stands at its close. -/
def closingFrame (c : Cfg) (d : Dev) (core : CoreDev) (items : List FusItem) : FrameRec :=
  let turn := F64.wrapPi (F64.sub (Vec.at d.fus.nominal 8) (Vec.at d.fus.nominalOpen 8))
  { beat := d.esc.beat, opens := d.fus.opens, closes := d.esc.boundary, core := core, nominal := d.fus.nominalOpen
    incs := ((List.range 12).map (fun i => F64.sub (Vec.at d.fus.nominal i) (Vec.at d.fus.nominalOpen i))).set 8 turn
    items := items
    weights := ((enabledTracks c).filter (fun t => trackValid d t)).map (fun t => (t, trkWeight c d t))
    tau := knownForce c d
    omega := omegaNow c d
    est := if inSplit d then 1 else if d.fus.coasting && !someValid c d (isPosition c) then 2 else 0
    resets := (enabledTracks c).filterMap (fun t => let n := (d.trk t).biasReset; if n = 0 then none else some (t, n)) }

/-- The frames from the earliest with a late item are replayed (R179, R181), each from the estimator that the one before it leaves. -/
def Close.replay (w : Close) (c : Cfg) (st : Store) (frames : List FrameRec) : Close × List FrameRec × Option CoreDev :=
  frames.foldl (fun (a : Close × List FrameRec × Option CoreDev) r =>
    let r := match a.2.2 with | none => r | some k => { r with core := k }
    let w := a.1.run c st r false
    (w, w.frame :: a.2.1, some w.k)) (w, [], none)

/-- The core after the close: the next frame opens with it, and the inertial state takes its corrections (R190). -/
def Dev.openFrame (d : Dev) (c : Cfg) (st : Store) (f : FrameRec) (k : CoreDev) : Dev :=
  let pure_ := d.fus.core.carry (f.input c st d.fus.core) f.opens f.closes
  let n := (List.range 12).map (fun i => F64.add (Vec.at d.fus.nominal i) (F64.sub (Vec.at k.motion i) (Vec.at pure_.motion i)))
  let n := n.set 8 (F64.wrapPi (Vec.at n 8))
  { d with fus := { d.fus with core := k, nominal := n, nominalOpen := n, opens := f.closes } }

/-- The steps of a close in order. -/
def closeFrame (c : Cfg) (st : Store) (d : Dev) : Store × Dev :=
  let b := d.esc.beat
  let tracks := enabledTracks c
  let d := tracks.foldl (fun d t => (d.trackCommand c t).trackTick c t) d.chainFrames
  let delivered := d.takeDelivered c
  let fresh := delivered.2
  let d := delivered.1
  let p : Placed := (d.fus.ahead ++ fresh).foldl Placed.put ⟨{ d with fus := { d.fus with ahead := [] } }, [], none⟩
  let again := match p.earliest with | none => [] | some e => p.d.fus.frames.takeWhile (fun (r : FrameRec) => decide (e ≤ r.opens))
  let d := p.d.replayed b (if again.isEmpty then 0 else again.length + 1)
  let start : Close := ⟨d, closingFrame c d d.fus.core [], false, d.fus.core, d.fus.opens, [], [], [], [], [], [], [], false⟩
  let r := start.replay c st again.reverse
  let w := { r.1 with d := r.1.deferred.foldl (fun d t => d.trkExclude c t) r.1.d, deferred := [] }
  let f := closingFrame c w.d (r.2.2.getD w.d.fus.core) p.now
  let w := w.run c st f true
  let d := w.d.openFrame c st f w.k
  let d := { d with fus := { d.fus with tracks := d.fus.tracks.map (fun (x : Nat × TrackDev) => (x.1, { x.2 with biasReset := 0 })) } }
  let d := d.splitStep c w.contra
  let d := tracks.foldl (fun d t => d.trackStep c w.failed (fresh.map FusItem.track) t) d
  let slow := d.fus.core.accel (f.input c st d.fus.core)
  let d := ((d.targetStep c).windStep c st).waveStep c slow
  let d := { d with fus := { d.fus with frames := w.frame :: (r.2.1 ++ d.fus.frames.drop again.length) } }
  let applied := (w.taken.filter (fun x => x.kind = 0 && trkClass c x.track != 9)).foldl (fun m x => m ||| 2 ^ x.track) 0
  let poison := poisonStands st
  let d := d.showEst w.mismatch poison applied
  let d := if poison then d.poisonUse .fusion else d
  let p := publishFusion c st d
  (p.1, ((p.2.vecFrame c).codeTrim).lawFrame p.1)

/-! ### Commands and timeouts of tracks -/

/-- The last two items of a track lie at most 5 ms apart (R183: 200 Hz or more). -/
def deliversFast (x : TrackDev) : Bool :=
  match x.history with
  | a :: b :: _ => decide (a.2.1 ≤ b.2.1 + 5 * ticksPerMs)
  | _ => false

/-- INERTIAL_PROPAGATION (R183): a step of 0.5 ms on the internal unit, on the external track's held sample, or on the vessel model. -/
def execInertialPropagation (gyro acc : List (BitVec 64)) (s : State) : Out :=
  onDev s fun c d =>
    let ext := c.f FUS.EGO_CFG 1 6
    let internal := someValid c d (fun t => trkClass c t = 6 && trkInst c t = 0)
    let ego := if internal then 0 else if c.b FUS.EGO_CFG 7 && trkClass c ext = 6 && trackValid d ext then 1 else 2
    let d := if ego = 1 && d.fus.ego != 1 then d.event 0x1109 else d
    let k := d.fus.core
    let r : Vec × Vec := if ego = 0 then inertialStep k d.fus.nominal gyro acc
      else (vesselStep k d.fus.nominal (if ego = 1 then (d.trk ext).last.map (·.2) else none), [])
    { d with fus := { d.fus with nominal := r.1, accel := r.2, ego := ego, egoFast := ego != 1 || deliversFast (d.trk ext) } }

/-- TRACK_TIMEOUT (R166, R187, R184): a track in WARM, RAMP or ACTIVE goes to WAIT with its last item STALE; a set-point stands in for a
FEEDBACK track. -/
def execTrackTimeout (track : Fin 64) (s : State) : Out :=
  onDev s fun c d =>
    let t := track.val
    let st := trkState d t
    if !decide (2 ≤ st ∧ st ≤ 4) then d
    else
      let x := d.trk t
      let d := match x.lastValid with | none => d | some v => d.advanceTo (v + trkTmo c t * ticksPerMs)
      let stands := trkClass c t = 9 && c.b FUS.EGO_CFG 0
      let x := { x with lastQuality := quality (x.lastQuality.toNat ||| qSTALE ||| (if stands then qSUBSTITUTED else 0)), lostTick := some d.tick }
      (((d.putTrk t x).setTrk c t 1).event 0x1106 [(t : Int)])

/-- FEEDBACK_LOST (R184, R267): 1 s after the timeout the force is taken as zero, and the actuator is TRIPPED. -/
def execFeedbackLost (track : Fin 64) (s : State) : Out :=
  onDev s fun c d =>
    let t := track.val
    let x := d.trk t
    match x.lostTick with
    | none => d
    | some lost =>
      if trkClass c t != 9 || trkState d t != 1 || x.forceZero then d
      else
        let act := trkActuator c t
        let d := (d.advanceTo (lost + ticksPerSec)).putTrk t { x with forceZero := true }
        (if c.b FUS.EGO_CFG 0 then d.event 0x110A [(act : Int)] else d).actTrip act 2 1

/-- A TRK_CMD write with the right key is carried out (Table 7.7): 1 and 2 at the next close, 3 at once (R176): the model restarts as though a
residual had failed, and the next item starts it. -/
def Dev.trkCmd (d : Dev) (c : Cfg) (t : Nat) (value : Word) : Bool × Dev :=
  let cmd := fld value 0 2
  if fld value 16 16 != 0x5E1D then (false, d)
  else if cmd = 1 || cmd = 2 then (true, d.putTrk t { d.trk t with command := some cmd })
  else if cmd = 3 && trkTiming c t != 0 && trkState d t != 0 && trkState d t != 6 then
    let x := d.trk t
    let x := { x with tref := none, delays := [], pairs := 0, oosEntries := x.oosEntries + 1 }
    (true, (((d.putTrk t x).putF (FUS.TRK_STAT t) 8 8 0).setTrk c t 5).event 0x1102 [(t : Int), x.resid])
  else (true, d)

/-- TRK_RESTART (R185). -/
def execTrkRestart (value : Word) (s : State) : Out :=
  onControl s (FUS.TRK_CMD 0) value 0 (s.dev.f FUS.TRKSEL 0 6) fun c d => d.trkCmd c (d.f FUS.TRKSEL 0 6) value

/-- TRK_RELEASE (R168). -/
def execTrkRelease (value : Word) (s : State) : Out :=
  onControl s (FUS.TRK_CMD 0) value 0 (s.dev.f FUS.TRKSEL 0 6) fun c d => d.trkCmd c (d.f FUS.TRKSEL 0 6) value

/-- TRK_RESET_CLOCK (R176). -/
def execTrkResetClock (value : Word) (s : State) : Out :=
  onControl s (FUS.TRK_CMD 0) value 0 (s.dev.f FUS.TRKSEL 0 6) fun c d => d.trkCmd c (d.f FUS.TRKSEL 0 6) value

/-- A SPLIT_SEL write (R203): taken at the next close; only the last before it counts, and one with a wrong key leaves nothing to
evaluate. -/
def Dev.splitSelect (d : Dev) (value : Word) : Bool × Dev :=
  let t := fld value 0 6
  let ok := decide (fld value 16 16 = 0x5B1A)
  let d := ((d.putF FUS.SEL_RESULT 0 4 (if ok then 1 else 6)).putF FUS.SEL_RESULT 8 6 t).wrap FUS.SEL_RESULT 16 16 1
  if ok then (true, { d with fus := { d.fus with selection := some t } })
  else (false, ({ d with fus := { d.fus with selection := none } } : Dev).event 0x111B [6])

/-- SPLIT_SEL (R203). -/
def execSplitSel (value : Word) (s : State) : Out :=
  onControl s FUS.SPLIT_SEL value 0 255 fun _ d => d.splitSelect value

/-! ### Commits and time steps -/

/-- A track starts afresh: its record and filter are those of reset. -/
def Dev.clearTrack (d : Dev) (c : Cfg) (t st : Nat) : Dev :=
  let d := ((d.putTrk t {}).putB (FUS.EXCL (t / 32)) (t % 32) false).putF (FUS.TRK_STAT t) 8 8 0
  let k := d.fus.core
  let k := { k.putFilter t {} with
    targets := Assoc.set none k.targets t none, winds := Assoc.set none k.winds t none, acts := Assoc.set [] k.acts t [] }
  ({ d with fus := { d.fus with core := k } } : Dev).setTrk c t st

/-- Changes of the tracks between two configurations (R168, R185, Table 7.6): an enabled track starts in WAIT, an unused one is OFF; a
changed TIMING, LAT or lever arm takes a track to WARM, but not one that is HELD, which only RESTART takes out (Table 7.7). -/
def Dev.tracksCommitted (d : Dev) (old c : Cfg) : Dev :=
  let d := (List.range 64).foldl (fun d t =>
    let k := trkClass c t
    let moved := trkTiming old t != trkTiming c t || [FUS.TRK_LAT t, FUS.TRK_LEV_X t, FUS.TRK_LEV_Y t, FUS.TRK_LEV_Z t].any (fun r => old.w r != c.w r)
    let st := trkState d t
    if k = 0 then (if st = 0 then d else d.clearTrack c t 0)
    else if k != trkClass old t || trkSource c t != trkSource old t || trkInst c t != trkInst old t then
      (d.clearTrack c t 1).sourceAdmitted (trkSource c t)
    else if moved && decide (1 ≤ st ∧ st ≤ 5) then d.enterWarm c t 5
    else d.showTrk c t) d
  d.putN FUS.TRK_ALLOC ((enabledTracks c).length + (if calibre c = 3 then 64 else 48) * 2 ^ 16)

/-- A commit of FUS page 2: a changed WAVE_CFG starts the peak frequencies at W_INIT (R194). -/
def Dev.wavesCommitted (d : Dev) (old c : Cfg) : Dev :=
  if old.f FUS.WAVE_CFG 24 8 = c.f FUS.WAVE_CFG 24 8 then d
  else
    (List.range 4).foldl (fun (d : Dev) i => d.putF FUS.WAVE_W (8 * i) 8 (c.f FUS.WAVE_CFG 24 8)) { d with fus := { d.fus with omega := [] } }

/-- Every tick that the estimator holds moves with the scale (R177). -/
def CoreDev.moved (k : CoreDev) (delta : Int) : CoreDev :=
  let at_ (p : Int × Vec × Vec) : Int × Vec × Vec := (p.1 + delta, p.2)
  { k with
    filters := k.filters.map (fun p => (p.1, { p.2 with still := p.2.still.map at_, prev := p.2.prev.map at_, window := p.2.window.map at_ }))
    targets := k.targets.map (fun p => (p.1, p.2.map (fun g => { g with tick := g.tick + delta })))
    winds := k.winds.map (fun p => (p.1, p.2.map (fun w => (w.1 + delta, w.2)))) }

/-- A time step moves every tick the engine holds (R177): o and t_ref as the rule says, and frames, measurements and trigger edges; a reload of
the beat number moves its beats (R104). -/
def Dev.fusStep (d : Dev) (delta : Int) (reload : Int) : Dev :=
  let nat (x : Nat) : Nat := ((x : Int) + delta).toNat
  let item (x : FusItem) : FusItem := { x with tm := x.tm + delta }
  let beat (b : Nat) : Nat := ((b : Int) + reload).toNat
  let tracks := d.fus.tracks.map (fun p => (p.1, { p.2 with
    o := p.2.o + delta * 65536, tref := p.2.tref.map (· + delta), answered := p.2.answered.map (fun a => (nat a.1, nat a.2)), judged := nat p.2.judged
    lastValid := p.2.lastValid.map nat, last := p.2.last.map (fun l => (l.1 + delta, l.2)), lostTick := p.2.lostTick.map nat
    history := p.2.history.map (fun h => (h.1 + delta, nat h.2.1, h.2.2)) }))
  let frames := d.fus.frames.map (fun r => { r with
    beat := beat r.beat, opens := r.opens + delta, closes := r.closes + delta, core := r.core.moved delta, items := r.items.map item })
  { d with
    fus := { d.fus with
      tracks := tracks, frames := frames, ahead := d.fus.ahead.map item, opens := d.fus.opens + delta, core := d.fus.core.moved delta
      replays := d.fus.replays.map beat }
    esc := { d.esc with trigs := d.esc.trigs.map (fun p => (p.1, nat p.2)) } }

end Sys2Proof.Machine
end

