-- ==== Sys2Proof/Machine/Rules.lean ====
section
/-! DEFINITION. The consistency rules of every block (Tables 3.4, 4.8, 5.13, 6.5, 7.10, 8.10, 9.9, 11.14, 12.5, 13.4, 14.10, 15.9,
16.9, 17.9, 17.10, 18.10, 19.4, 20.8, 22.12), evaluated on the values that hold after a commit (R507). Rules about a slot, track,
filter, channel or connection are read on those in use (log 40). -/
namespace Sys2Proof.Machine

/-- The values a rule is evaluated on: the shadow for every page the commit applies, the live value for every other, and the mode in
force just before (R507, R515). -/
structure View where
  pages : List Nat
  c : Cfg
  st : Store
  d : Dev
  mode : Nat

def View.w (v : View) (k : Nat) : Word := if v.pages.contains (keyPage k) then v.c.sh k else v.c.w k
def View.f (v : View) (k lo n : Nat) : Nat := fld (v.w k) lo n
def View.s (v : View) (k lo n : Nat) : Int := sfld (v.w k) lo n
def View.b (v : View) (k i : Nat) : Bool := bit (v.w k) i

/-- Mode-dependent rules of a running module: modes 4 and 6 to 10. -/
def View.running (v : View) : Bool := v.mode = 4 || decide (6 ≤ v.mode ∧ v.mode ≤ 10)

/-- A field of a register changes at this commit. -/
def View.changes (v : View) (k lo n : Nat) : Bool := v.f k lo n != v.c.f k lo n

/-- A rule: its index, the page whose table holds it, the pages of other tables whose fields it reads, and when the commit fails it.
In the tables of R430 and R456 `reads` lists the pages the rule concerns. -/
structure Rule where
  index : Nat
  page : Nat
  reads : List Nat
  fails : View → Bool

/-- A block table with the pages it belongs to. `concerned`: only the rules that concern the committed page are checked (R430,
R456). -/
structure RuleTable where
  owners : List Nat
  concerned : Bool
  rules : List Rule

def outside (lo hi v : Nat) : Bool := v < lo || hi < v

/-- Some value stands twice in a list. -/
def hasTwice (l : List Nat) : Bool :=
  match l with
  | [] => false
  | x :: t => t.contains x || hasTwice t

/-! ### SYS (Table 22.12) -/

def groupUsed (v : View) (g : Nat) : Bool := (List.range 16).any (fun i => v.b (LPE.SL_CFG (16 * g + i)) 0)

def sysRules : List Rule := [
  ⟨1, 0x40000000, [], fun v => outside 10 10000 (v.f SYS.WDT_CFG 0 14)⟩,
  ⟨2, 0x40000000, [], fun v => v.changes SYS.CALIBRE 0 2 && v.mode != 3⟩,
  ⟨3, 0x40000000, [], fun v => v.f SYS.CALIBRE 0 2 != 3 && (List.range 384).any (fun n =>
    chState v.d n != 0 && decide (256 ≤ n) || ((chAnt v.d n = 1 || chAnt v.d n = 2) && v.d.b (RBB.CH_CFG n) 18))⟩,
  ⟨4, 0x40000000, [0x40040000, 0x40041000], fun v => v.f SYS.CALIBRE 0 2 != 1 &&
    (List.range 4).any (fun g => v.f (LPE.GRP_CFG g) 0 2 = 3 && groupUsed v g)⟩]

/-! ### ESC (Table 3.4) -/

/-- Wheels with PERIOD above 0. -/
def View.wheels (v : View) : List Nat := (List.range 32).filter (fun w => v.f (ESC.WHL_CFG w) 0 16 != 0)
def View.first (v : View) (w : Nat) : Nat := v.f (ESC.WHL_LIST w) 0 8
def View.count (v : View) (w : Nat) : Nat := v.f (ESC.WHL_LIST w) 8 9
def View.axis (v : View) (w : Nat) : Nat := v.f (ESC.WHL_LIST w) 20 3

/-- The pallets of a wheel. -/
def View.palletsOf (v : View) (w : Nat) : List Nat := ((List.range (v.count w)).map (v.first w + ·)).filter (· < 256)

/-- The fired pallets: wheel and pallet number. -/
def View.fired (v : View) : List (Nat × Nat) := v.wheels.flatMap (fun w => (v.palletsOf w).map (fun p => (w, p)))

def View.action (v : View) (p : Nat) : Nat := v.f (ESC.PAL_A p) 0 4
def View.offset (v : View) (p : Nat) : Nat := v.f (ESC.PAL_A p) 8 18

def rangesOverlap (l : List (Nat × Nat)) : Bool :=
  match l with
  | [] => false
  | x :: t => t.any (fun y => x.1 < y.1 + y.2 && y.1 < x.1 + x.2) || rangesOverlap t

def escRules : List Rule := [
  ⟨1, 0x40002000, [], fun v => v.wheels.any (fun w => v.f (ESC.WHL_CFG w) 0 16 ≤ v.f (ESC.WHL_CFG w) 16 16)⟩,
  ⟨2, 0x40002000, [], fun v => v.wheels.any (fun w =>
    4 < v.axis w || (v.axis w != 0 && !v.b (ESC.AX_CFG (v.axis w - 1)) 0))⟩,
  ⟨3, 0x40002000, [], fun v => v.wheels.any (fun w => 256 < v.first w + v.count w)⟩,
  ⟨4, 0x40002000, [], fun v => rangesOverlap ((v.wheels.map (fun w => (v.first w, v.count w))).filter (fun p => p.2 != 0))⟩,
  ⟨5, 0x40002000, [], fun v => v.fired.any (fun p => 8 ≤ v.action p.2)⟩,
  ⟨6, 0x40002000, [], fun v => v.fired.any (fun p => 199999 < v.offset p.2 || (v.axis p.1 != 0 && v.offset p.2 != 0))⟩,
  ⟨7, 0x40002000, [], fun v => v.fired.any (fun p => v.action p.2 = 1 &&
    (outside 1 1000 (v.f (ESC.PAL_B p.2) 4 10) || !v.b (ESC.SYNC_CFG (v.f (ESC.PAL_B p.2) 0 4)) 0))⟩,
  ⟨8, 0x40002000, [], fun v => v.fired.any (fun p => v.action p.2 = 5 &&
    (let port := v.f (ESC.PAL_B p.2) 0 4; port = 6 || port = 7 || decide (12 ≤ port)))⟩,
  ⟨9, 0x40002000, [], fun v => (List.range 4).any (fun a =>
    (v.b (ESC.AX_CFG a) 0 && v.f (ESC.AX_INC a) 0 24 = 0) || 10000 < v.f (ESC.AX_STALL a) 0 14)⟩,
  ⟨10, 0x40002000, [], fun v =>
    let l := v.fired.map (fun p => (v.axis p.1, v.offset p.2))
    l.any (fun x => 64 < l.count x)⟩]

/-- Periods of the wheels that fire a JOB pallet of a group. -/
def View.jobPeriods (v : View) (g : Nat) : List Nat :=
  (v.fired.filter (fun p => v.action p.2 = 2 && v.f (ESC.PAL_B p.2) 0 8 = g)).map (fun p => v.f (ESC.WHL_CFG p.1) 0 16)

/-! ### TBU (Table 4.8) -/

def tbuRules : List Rule := [
  ⟨1, 0x40003000, [], fun v => outside 100 1000000000 (v.f TBU.JUMP_THR 0 30) || outside 100 1000000000 (v.f TBU.HOLD_LIMIT 0 30)⟩,
  ⟨2, 0x40003000, [], fun v => outside 1 100 (v.f TBU.SLEW 0 7)⟩,
  ⟨3, 0x40003000, [], fun v => 6 ≤ v.f TBU.SRC_CFG 8 3⟩,
  ⟨4, 0x40003000, [], fun v => (List.range 2).any (fun o =>
    v.f (TBU.PPS_CFG o) 0 2 = 3 || outside 1 200 (v.f (TBU.PPS_CFG o) 8 8))⟩,
  ⟨5, 0x40003000, [], fun v => v.b TBU.PPSIN_CFG 0 && 11 < v.f TBU.PPSIN_CFG 2 4⟩]

/-! ### HCK and EVR (Table 20.8) -/

/-- Bytes of an image block: those staged while its page is committed, else those in force (log 9). -/
def View.image (v : View) (pages : List Nat) (a n : Nat) : List Byte :=
  if pages.any v.pages.contains then (List.range n).map (fun i => Assoc.get 0 v.c.staged (a + i)) else v.st.bytes a n

/-- The enabled code entries. -/
def View.codes (v : View) : List CodeEntry :=
  ((List.range 1024).map (fun i =>
    let b := v.image [0x40005000] (codeBase + 8 * i) 8
    (⟨i, leAt b 0 2, leAt b 2 1, leAt b 3 1, leAt b 4 1, leAt b 5 1, leAt b 6 2⟩ : CodeEntry))).filter (fun e => e.flags.testBit 0)

def evrRules : List Rule := [
  ⟨1, 0x40005000, [], fun v => hasTwice (v.codes.map (·.code))⟩,
  ⟨2, 0x40005000, [], fun v => v.codes.any (fun e =>
    4 < e.sev || e.burst = 0 || outside 1 65000 e.refill || 15 < e.set_)⟩,
  ⟨3, 0x40005000, [], fun v => v.codes.any (fun e => e.flags.testBit 1 && (e.code = 0x0501 || e.code = 0x0502))⟩,
  ⟨4, 0x40005000, [], fun v => v.f EVR.DEF_CFG 0 8 = 0 || 4 < v.f EVR.DEF_CFG 8 3 || outside 1 65000 (v.f EVR.DEF_CFG 16 16)
    || 4 < v.f EVR.CFG 0 3 || outside 1 60 (v.f EVR.CFG 8 6)⟩,
  ⟨5, 0x40004000, [0x40071000], fun v => v.f HCK.CFG 16 16 < 32 || (v.b HCK.CFG 2 && !v.b (FIO.IN_CFG (v.f HCK.CFG 8 4)) 0)
    || v.f HCK.CFG 12 2 = 3⟩,
  ⟨6, 0x40004000, [], fun v => pages.any (fun p => (List.range 48).any (fun k =>
    let x := v.w (HCK.SEL k (hackElem p.base)); bit x 0 && !outside 0x030 0x0FF (4 * fld x 2 10)))⟩]

/-! ### MEM (Table 19.4) -/

def memRules : List Rule := [
  ⟨1, 0x40006000, [], fun v => v.running && (List.range 2).any (fun r => v.c.b MEM.SCRUB_CFG r && !v.b MEM.SCRUB_CFG r)⟩,
  ⟨2, 0x40006000, [], fun v => v.f MEM.SCRUB_CFG 4 28 != 0⟩]

/-! ### SFM (Table 15.9) -/

/-- Outputs of the group an output belongs to (R435). -/
def View.outGroup (v : View) (k : Nat) : List Nat :=
  let n := if v.f (FIO.OUT_CFG k) 1 2 = 1 then 2 else if v.f (FIO.OUT_CFG k) 1 2 = 2 then 4 else 1
  (List.range n).map (k / n * n + ·)

/-- Frame slots (PORT, SLOT) that actuator entries name, and their loop slots. -/
def View.actuators (v : View) : List Nat := (List.range 40).filter (fun n => v.f (LAW.ACT_CFG n) 0 3 != 0)
def View.actFrames (v : View) : List (Nat × Nat) :=
  (v.actuators.map (fun n => (v.f (LAW.ACT_CFG n) 16 4, v.f (LAW.ACT_CFG n) 20 8))).filter (fun p => p.1 != 15)
def View.actLoops (v : View) : List Nat := (v.actuators.map (fun n => v.f (LAW.ACT_CFG n) 8 8)).filter (· != 0xFF)

/-- CFG words of the enabled instances of a kind. -/
def View.insts (v : View) (cfg : Nat → Nat) : List (Nat × Word) :=
  ((List.range 8).map (fun i => (i, v.w (cfg i)))).filter (fun p => bit p.2 0)

def badWindow (w : Word) : Bool := outside 1 8 (fld w 16 4) || 10 < fld w 16 4 + fld w 20 4

def badSlp (v : View) (p : Nat × Word) : Bool :=
  let mn := v.s (SFM.SLP_MIN p.1) 0 32
  let mx := v.s (SFM.SLP_MAX p.1) 0 32
  let per : Int := v.f (SFM.SLP_PER p.1) 0 32
  if bit p.2 13 then decide (per = 0 ∨ mn < 0 ∨ per ≤ mn ∨ mx < 0 ∨ per ≤ mx) else decide (mx < mn)

/-- The enabled stop inputs. -/
def View.stopIns (v : View) : List Nat :=
  ((List.range 4).filter (fun k => v.b SFM.STOPIN (8 * k + 7))).map (fun k => v.f SFM.STOPIN (8 * k) 4)

/-- Field inputs used as pulse sources. -/
def View.pulseIns (v : View) : List Nat :=
  ((v.insts SFM.SLS_CFG).filter (fun p => fld p.2 7 2 = 1)).map (fun p => fld p.2 9 4)

/-- Enabled connections. -/
def View.conns (v : View) : List Nat := (List.range 32).filter (fun k => v.b (SFM.OSI_CONN_CFG k) 0)

def badConn (v : View) (k : Nat) : Bool :=
  let recv := v.b (SFM.OSI_CONN_CFG k) 1
  let port := v.f (SFM.OSI_CONN_CFG k) 8 4
  v.w (SFM.OSI_IDENT k) = 0 || v.f (SFM.OSI_TE k) 0 16 = 0 || v.f (SFM.OSI_TE k) 16 8 = 0
    || v.conns.any (fun j => j != k && v.b (SFM.OSI_CONN_CFG j) 1 = recv && v.f (SFM.OSI_CONN_CFG j) 8 4 = port
      && v.f (SFM.OSI_CONN_CFG j) 16 16 = v.f (SFM.OSI_CONN_CFG k) 16 16)
    || (v.b (SFM.OSI_CONN_CFG k) 2 && (recv || !v.actFrames.contains (port, v.f (SFM.OSI_TE k) 24 8)))
    || (v.b (SFM.OSI_CONN_CFG k) 3 && !recv)

def sfmRules : List Rule := [
  ⟨1, 0x40008000, [], fun v => v.mode != 3⟩,
  ⟨2, 0x40008000, [], fun v => sfmCrc v.w != (v.w SFM.CFG_CRC_EXP).toNat⟩,
  ⟨3, 0x40008000, [], fun v => outside 20 100 (v.f SFM.CFG 8 8) || outside 1 100 (v.f SFM.CFG 16 8)⟩,
  ⟨4, 0x40008000, [0x40070000], fun v => (List.range 4).any (fun k => v.b SFM.CFG k &&
    (v.outGroup (12 + k)).any (fun j => !v.b SFM.CFG (j - 12)))⟩,
  ⟨5, 0x40008000, [], fun v =>
    let sls := v.insts SFM.SLS_CFG
    let slp := v.insts SFM.SLP_CFG
    let sdi := v.insts SFM.SDI_CFG
    (sls ++ slp ++ sdi).any (fun p => outside 1 8 (fld p.2 20 4)) || (sls ++ sdi).any (fun p => badWindow p.2)
      || sls.any (fun p => v.w (SFM.SLS_LIMIT p.1) = 0) || sdi.any (fun p => v.w (SFM.SDI_TOL p.1) = 0) || slp.any (badSlp v)⟩,
  ⟨6, 0x40008000, [], fun v =>
    let other := v.insts SFM.SLP_CFG ++ v.insts SFM.SDI_CFG
    (v.insts SFM.SLS_CFG ++ other).any (fun p => 2 ≤ fld p.2 7 2 || (fld p.2 7 2 = 0 && 3 < fld p.2 9 4))
      || other.any (fun p => fld p.2 7 2 = 1)⟩,
  ⟨7, 0x40008000, [], fun v => !v.b SFM.RST_CFG 7 || hasTwice v.stopIns
    || (v.stopIns ++ v.pulseIns).contains (v.f SFM.RST_CFG 0 4) || v.stopIns.any v.pulseIns.contains⟩,
  ⟨8, 0x40008000, [0x40039000], fun v => v.conns.any (badConn v) || v.f SFM.OSI_CFG 16 8 = 0⟩]

/-! ### PRC (Table 14.10) -/

def prcRules : List Rule := [
  ⟨1, 0x40009000, [], fun v => outside 1 1000 (v.f PRC.CFG 16 10)⟩,
  ⟨2, 0x40009000, [], fun v =>
    let size := v.f PRC.REPL_SIZE 0 26
    let base := v.f PRC.REPL_BASE 0 32
    41943040 < size || size % 64 != 0 || base % 64 != 0 ||
      (size != 0 && decide (base < 0x80000000 ∨ 0x14CCCCCC0 < base + size))⟩,
  ⟨3, 0x40009000, [], fun v => decide (4 ≤ v.mode ∧ v.mode ≤ 11) && (v.changes PRC.CFG 0 2)⟩]

/-! ### RBB (Tables 5.13 and 6.5) -/

def spanOverlap (a n b m : Nat) : Bool := a < b + m && b < a + n

def rbbRules : List Rule := [
  ⟨1, 0x40010000, [], fun v => 4 < v.f RBB.GCFG 4 3⟩,
  ⟨2, 0x40010000, [], fun v => v.f RBB.TRK_CFG 0 8 = 0 || v.f RBB.TRK_CFG 16 8 = 0⟩,
  ⟨3, 0x40010000, [], fun v => v.f RBB.CORR_SRC 0 2 = 3 || 11 < v.f RBB.CORR_SRC 2 4 || outside 1 120 (v.f RBB.CORR_AGE 0 7)⟩,
  ⟨4, 0x40011000, [], fun v => (List.range 3).any (fun a =>
    let o := v.f (RBB.ANT_CFG a) 8 8
    let sh := v.f (RBB.ANT_CFG a) 16 8
    outside 1 50 o || outside 20 150 sh || sh ≤ o)⟩,
  ⟨5, 0x40011000, [], fun v => (List.range 6).any (fun p => 8 < v.f (RBB.PATH_CFG p) 20 4)⟩,
  ⟨6, 0x40011000, [], fun v => (List.range 384).any (fun n => chState v.d n != 0 &&
    !v.b (RBB.ANT_CFG (chPath v.d n / 2)) (1 + chPath v.d n % 2))⟩,
  ⟨7, 0x40012000, [], fun v => outside 1 10 (v.f RBB.ACQ_CFG 0 5) || v.f RBB.ACQ_CFG 5 6 = 0 || v.f RBB.ACQ_CFG 16 8 = 0⟩,
  ⟨8, 0x40010000, [0x40013000], fun v =>
    let ch := v.f RBB.SRC_BASE 0 16
    let sol := v.f RBB.SRC_BASE 16 16
    let disc := v.f RBB.VEC_DISC 0 16
    let att := v.f RBB.ATT_SRC 0 16
    spanOverlap ch 384 sol 3 || spanOverlap ch 384 disc 384 || spanOverlap sol 3 disc 384 || spanOverlap ch 384 att 1
      || spanOverlap sol 3 att 1⟩]

/-- Squared length of a baseline in mm². -/
def View.lengthSq (v : View) (b : Nat → Nat) : Nat := ((List.range 3).map (fun i => (v.s (b i) 0 32).natAbs ^ 2)).sum

def rbb3Rules : List Rule := [
  ⟨1, 0x40013000, [], fun v => outside 1 80 (v.f RBB.VEC_CFG 8 8) || v.f RBB.VEC_CFG 16 3 = 0⟩,
  ⟨2, 0x40013000, [], fun v =>
    let l := [v.lengthSq RBB.BL_B, v.lengthSq RBB.BL_C]
    l.any (fun x => x != 0 && outside (500 ^ 2) (50000 ^ 2) x) || (v.b RBB.ATT_CFG 0 && l.all (· == 0))⟩,
  ⟨3, 0x40013000, [], fun v => v.f RBB.ATT_CFG 8 8 < 16 || v.f RBB.ATT_CFG 16 8 = 0⟩,
  ⟨4, 0x40013000, [], fun v => 4 < v.f RBB.RAIM_CFG 0 3 || v.f RBB.RAIM_CFG 8 8 = 0⟩,
  ⟨5, 0x40013000, [], fun v => [v.f RBB.DOA_CFG 0 5, v.f RBB.DOA_CFG 8 5].any (fun x => x = 12 || x = 13 || decide (19 ≤ x))
    || v.f RBB.DOA_CFG 24 8 ≤ v.f RBB.DOA_CFG 16 8⟩,
  ⟨6, 0x40013000, [], fun v => v.f RBB.DOA_CFG2 0 8 = 0 || v.f RBB.DOA_CFG2 8 8 = 0 || v.f RBB.DOA_CFG2 16 8 = 0⟩,
  ⟨7, 0x40013000, [], fun v => v.f RBB.AGC_CFG 0 8 < 12 || v.f RBB.AGC_CFG 8 8 < 10⟩]

/-! ### FUS (Tables 7.10 and 8.10) -/

def View.trkClass (v : View) (t : Nat) : Nat := v.f (FUS.TRK_CFG t) 0 4
/-- Tracks with a class other than UNUSED. -/
def View.tracks (v : View) : List Nat := (List.range 64).filter (fun t => v.trkClass t != 0)
/-- Most tracks of a class (Table 7.1); FEEDBACK has one per actuator, rule 6. -/
def classMax (k : Nat) : Nat := [0, 3, 4, 4, 2, 5, 5, 4, 2].getD k 64

/-- The actuator of a FEEDBACK track: SOURCE_ID less FB_BASE, when it names one of the table. -/
def View.feedbackAct (v : View) (t : Nat) : Option Nat :=
  let src := v.f (FUS.TRK_CFG t) 16 16
  let base := v.f LAW.FB_BASE 0 16
  if base ≤ src ∧ src < base + 40 ∧ v.f (LAW.ACT_CFG (src - base)) 0 3 ≠ 0 then some (src - base) else none

def fusRules : List Rule := [
  ⟨1, 0x40021000, [0x40000000], fun v => (if v.f SYS.CALIBRE 0 2 = 3 then 64 else 48) < v.tracks.length⟩,
  ⟨2, 0x40021000, [], fun v => v.tracks.any (fun t => 9 < v.trkClass t) ||
    (List.range 9).any (fun k => k != 0 && classMax k < (v.tracks.filter (fun t => v.trkClass t = k)).length)⟩,
  ⟨3, 0x40021000, [], fun v => hasTwice (v.tracks.map (fun t => v.f (FUS.TRK_CFG t) 16 16))⟩,
  ⟨4, 0x40021000, [0x40002000], fun v => (List.range 64).any (fun t =>
    let tm := v.f (FUS.TRK_CFG t) 8 2
    let w := v.f (FUS.TRK_CFG t) 10 5
    tm = 3 || (tm = 2 && (v.f (ESC.WHL_CFG w) 0 16 = 0 || !(v.palletsOf w).any (fun p => v.action p = 1))))⟩,
  ⟨5, 0x40021000, [], fun v => (List.range 64).any (fun t => 2000000 < v.f (FUS.TRK_LAT t) 0 21)⟩,
  ⟨6, 0x40021000, [0x40038000, 0x40039000], fun v =>
    let fb := v.tracks.filter (fun t => v.trkClass t = 9)
    fb.any (fun t => v.f (FUS.TRK_CFG t) 4 3 != 0 || (v.feedbackAct t).isNone) || hasTwice (fb.filterMap v.feedbackAct)⟩,
  ⟨7, 0x40020000, [], fun v => outside 1 1000 (v.f FUS.OOS_CFG 0 10) || v.f FUS.OOS_CFG 12 6 = 0 || v.f FUS.OOS_CFG 24 8 = 0
    || 1000 < v.f FUS.WARM_CFG 0 10⟩,
  ⟨8, 0x40020000, [], fun v => v.b FUS.EGO_CFG 7 && v.trkClass (v.f FUS.EGO_CFG 1 6) != 6⟩,
  ⟨9, 0x40021000, [], fun v => v.running && (List.range 64).any (fun t =>
    !([0, 1, 6].contains (trkState v.d t)) && (v.changes (FUS.TRK_CFG t) 0 7 || v.changes (FUS.TRK_CFG t) 16 16))⟩]

def fus2Rules : List Rule := [
  ⟨1, 0x40022000, [], fun v =>
    let mn := v.f FUS.WAVE_CFG 0 8
    let mx := v.f FUS.WAVE_CFG 8 8
    mn = 0 || mx ≤ mn || outside mn mx (v.f FUS.WAVE_CFG 24 8) || v.f FUS.WAVE_CFG 16 8 = 0 || v.f FUS.WAVE_TAU 0 8 = 0⟩,
  ⟨2, 0x40022000, [], fun v => v.f FUS.WIND_CFG 0 8 = 0 || v.f FUS.WIND_CFG 24 8 = 0⟩,
  ⟨3, 0x40022000, [0x40021000], fun v => v.b FUS.EST_CFG 2 &&
    (let t := v.f FUS.EST_CFG 4 6
     let i := v.f (FUS.TRK_CFG t) 4 3
     v.trkClass t != 3 || (i < 4 && v.b FUS.REL_CFG i))⟩,
  ⟨4, 0x40023000, [], fun v => v.f FUS.GATE_CFG 0 16 = 0 || v.f FUS.GATE_CFG 16 8 = 0 || v.f FUS.VOTE_CFG 0 16 = 0
    || v.f FUS.VOTE_CFG 16 8 = 0⟩,
  ⟨5, 0x40023000, [], fun v => v.f FUS.FREEZE_CFG 0 8 = 0 || v.f FUS.FREEZE_CFG 8 8 = 0 || v.f FUS.JUMP_CFG 0 16 = 0
    || v.f FUS.JUMP_CFG 16 16 = 0 || v.f FUS.DRIFT_CFG 0 16 = 0 || outside 10 120 (v.f FUS.DRIFT_CFG 16 8)⟩,
  ⟨6, 0x40023000, [], fun v => 600 < v.f FUS.COAST_CFG 0 10⟩,
  ⟨7, 0x40022000, [], fun v => (List.range 4).any (fun k => v.b FUS.REL_CFG k &&
    (v.image [0x40022000, 0x40023000] (modelBase + 0x488 + 16 * k) 16).all (· == 0))⟩]

/-! ### SLV (Table 9.9) -/

def View.slotAddr (v : View) (n : Nat) : Nat := (v.w (SLV.SLOT_ADDR_LO n)).toNat + (v.w (SLV.SLOT_ADDR_HI n)).toNat * 2 ^ 32

/-- The image address of a slot changes. -/
def View.moved (v : View) (n : Nat) : Bool := v.slotAddr n != (v.d.slot n).liveAddr

/-- The schedule a slot holds after the commit. -/
def View.schedule (v : View) (n : Nat) : Option Schedule :=
  if (v.moved n || (v.d.slot n).live.isNone) && prep v.d n = 2 then (v.d.slot n).staged else (v.d.slot n).live

/-- The enabled slots of a level with their schedules; level 4 for all. -/
def View.slots (v : View) (level : Nat) : List Schedule :=
  ((List.range 8).filter (fun n => v.b (SLV.SLOT_CFG n) 0 && (level = 4 || v.f (SLV.SLOT_CFG n) 1 2 = level))).filterMap v.schedule

def View.slotChanges (v : View) (n : Nat) : Bool := v.moved n || v.changes (SLV.SLOT_CFG n) 0 4

def slvRules : List Rule := [
  ⟨1, 0x40030000, [], fun v => 12 < v.f SLV.CFG 8 4⟩,
  ⟨2, 0x40031000, [], fun v => (List.range 8).any (fun n => v.moved n && prep v.d n != 2)⟩,
  ⟨3, 0x40031000, [], fun v => (List.range 8).any (fun n => decide (v.f (SLV.SLOT_CFG n) 1 2 = 3) == v.b (SLV.SLOT_CFG n) 3)⟩,
  ⟨4, 0x40031000, [], fun v =>
    2097152 < ((List.range 4).map (fun l => (v.slots l).foldl (fun m x => max m x.scratch) 0)).sum⟩,
  ⟨5, 0x40031000, [], fun v => 2097152 < ((v.slots 4).map (·.body)).sum⟩,
  ⟨6, 0x40031000, [], fun v => (List.range 8).any (fun n => v.slotChanges n && v.d.slv.jobs.any (fun j => j.slot = n))⟩,
  ⟨7, 0x40031000, [], fun v => v.running && (List.range 8).any (fun n =>
    v.slotChanges n && (v.b (SLV.SLOT_CFG n) 3 || v.c.b (SLV.SLOT_CFG n) 3))⟩]

/-! ### LAW (Tables 11.14 and 12.5) -/

/-- By calibre: control frame, tick and consequence period in beats, N × T in ms. -/
def View.cal (v : View) : Nat := v.f SYS.CALIBRE 0 2
def View.frame (v : View) : Nat := [100, 50, 200, 100].getD v.cal 100
def View.tickB (v : View) : Nat := [10, 5, 10, 10].getD v.cal 10
def View.period (v : View) : Nat := [1000, 2000, 500, 1000].getD v.cal 1000
def View.nominal (v : View) : Nat := [4800, 1600, 12800, 4000].getD v.cal 4800

/-- A LAW slot of a level and a KIND. -/
def View.lawSlot (v : View) (n level kind : Nat) : Bool :=
  v.b (SLV.SLOT_CFG n) 0 && v.b (SLV.SLOT_CFG n) 3 && v.f (SLV.SLOT_CFG n) 1 2 = level && ((v.schedule n).map (·.kind)) == some kind

def View.actTypeIn (v : View) (lo hi n : Nat) : Bool := decide (lo ≤ v.f (LAW.ACT_CFG n) 0 3 ∧ v.f (LAW.ACT_CFG n) 0 3 ≤ hi)

/-- A sector is wider than half a turn, or stands on an actuator that has none. -/
def View.badSector (v : View) (n : Nat) (a b : Word) : Bool :=
  a != b && (v.f (LAW.ACT_CFG n) 0 3 != 1 || decide (2 ^ 31 < (b - a).toNat))

def lawRules : List Rule := [
  ⟨1, 0x40038000, [], fun v => outside 1 12 (v.f LAW.CFG 4 4) || outside 10 95 (v.f LAW.CFG 8 7) || outside 1 64 (v.f LAW.CFG 16 7)
    || outside 1 64 (v.f LAW.CFG 24 7)⟩,
  ⟨2, 0x40038000, [0x40000000], fun v => outside 1 (v.tickB - 1) (v.f LAW.CFG2 0 4) || v.f LAW.CFG2 4 4 = 0⟩,
  ⟨3, 0x40038000, [0x40000000], fun v => 1000 * v.f LAW.CFG2 16 8 < v.nominal || 180 < v.f LAW.CFG2 16 8⟩,
  ⟨4, 0x40038000, [0x40031000], fun v => !(v.lawSlot (v.f LAW.SLOTS 0 3) 0 1 && v.lawSlot (v.f LAW.SLOTS 4 3) 1 0
    && v.lawSlot (v.f LAW.SLOTS 8 3) 2 0)⟩,
  ⟨5, 0x40039000, [0x40000000], fun v =>
    let count (lo hi : Nat) := ((List.range 40).filter (v.actTypeIn lo hi)).length
    (if v.cal = 3 then 40 else 24) < count 1 7 || 32 < count 1 3 || 8 < count 4 4 || 8 < count 5 5 || 0 < count 6 7⟩,
  ⟨6, 0x40039000, [], fun v => ((List.range 40).filter (v.actTypeIn 1 4)).any (fun n =>
    let ty := v.f (LAW.ACT_CFG n) 0 3
    v.f (LAW.ACT_FORCE n) 0 16 = 0 || (ty = 4 && v.f (LAW.ACT_FORCE n) 0 16 < v.f (LAW.ACT_FORCE n) 16 16)
      || v.badSector n (v.w (LAW.ACT_SECT0_A n)) (v.w (LAW.ACT_SECT0_B n))
      || v.badSector n (v.w (LAW.ACT_SECT1_A n)) (v.w (LAW.ACT_SECT1_B n)) || (v.f (LAW.ACT_RATE n) 16 8 != 0 && ty != 3))⟩,
  ⟨7, 0x40038000, [0x40000000, 0x40002000], fun v => (v.jobPeriods (v.f LAW.GROUPS 0 8)).any (· != v.tickB)
    || (v.jobPeriods (v.f LAW.GROUPS 8 8)).any (· != v.frame)⟩,
  ⟨8, 0x40039000, [], fun v => hasTwice v.actLoops || hasTwice (v.actFrames.map (fun p => p.1 * 256 + p.2))⟩,
  ⟨9, 0x40039000, [], fun v => v.running && (List.range 40).any (fun n => v.changes (LAW.ACT_CFG n) 0 6
    || v.changes (LAW.ACT_CFG n) 8 20 || v.changes (LAW.ACT_POS_X n) 0 32 || v.changes (LAW.ACT_POS_Y n) 0 32
    || v.changes (LAW.ACT_POS_Z n) 0 32)⟩,
  ⟨10, 0x40039000, [], fun v => (List.range 48).any (fun n => v.b (LAW.CQ_CASE_CFG n) 0 &&
    (let mask := v.f (LAW.CQ_ACT_LO n) 0 32 + v.f (LAW.CQ_ACT_HI n) 0 8 * 2 ^ 32
     (mask = 0 && v.f (LAW.CQ_ACT_HI n) 16 8 = 0)
       || (List.range 40).any (fun k => mask.testBit k && v.f (LAW.ACT_CFG k) 0 3 = 0)))⟩,
  ⟨11, 0x40038000, [], fun v => outside 256 2560 (v.f LAW.CQ_CFG 0 16) || v.f LAW.CQ_CFG 16 8 = 0 || v.f LAW.CQ_CFG 24 8 = 0⟩,
  ⟨12, 0x40038000, [], fun v => outside 1 64 (v.f LAW.CQ_CFG2 0 6)⟩,
  ⟨13, 0x40038000, [0x40000000, 0x40002000], fun v => (v.jobPeriods (v.f LAW.GROUPS 16 8)).any (· != v.period)⟩]

/-! ### LPE (Table 13.4) -/

/-- Enabled slots. -/
def View.loops (v : View) : List Nat := (List.range 64).filter (fun k => v.b (LPE.SL_CFG k) 0)
def View.fsig (v : View) (k : Nat) : Nat := v.f (LPE.SL_FMT k) 0 5
def View.fout (v : View) (k : Nat) : Nat := v.f (LPE.SL_FMT k) 8 5
def View.fgain (v : View) (k : Nat) : Nat := v.f (LPE.SL_FMT k) 16 5
def View.outer (v : View) (k : Nat) : Nat := v.f (LPE.SL_CFG k) 12 6
def View.cascaded (v : View) (k : Nat) : Bool := v.b (LPE.SL_CFG k) 10

/-- Slots above `k` in its cascade, at most `n`. -/
def View.chain (v : View) (n k : Nat) : Nat :=
  match n with
  | 0 => 0
  | m + 1 => if v.cascaded k then 1 + v.chain m (v.outer k) else 0

def badCascade (v : View) (k : Nat) : Bool :=
  let o := v.outer k
  o = k || o / 16 != k / 16 || !v.b (LPE.SL_CFG o) 0 || decide (4 ≤ v.chain 4 k)
    || v.f (LPE.SL_CFG o) 1 7 % v.f (LPE.SL_CFG k) 1 7 != 0 || v.fout o != v.fsig k

/-- Words of the loop table (R314). -/
def loopBase : Nat := 0x201C6000
def View.loopWord (v : View) (a : Nat) : Int := signed 32 (leNat (v.image [0x40040000, 0x40041000] (loopBase + a) 4))

/-- The values of a list rise strictly. -/
def rising (l : List Int) : Bool :=
  match l with
  | a :: b :: t => decide (a < b) && rising (b :: t)
  | _ => true

def badRegions (v : View) (k : Nat) : Bool :=
  let first := v.f (LPE.SL_GAIN k) 0 8
  let n := v.f (LPE.SL_GAIN k) 8 4
  outside 1 8 n || 256 < first + n
    || (1 < n && (!rising ((List.range (n - 1)).map (fun j => v.loopWord (0x2000 + 32 * k + 4 * j)))
      || decide (v.loopWord (0x2000 + 32 * k + 28) < 0)))
    || (List.range n).any (fun j =>
      let ad := v.loopWord (32 * (first + j) + 12)
      decide (ad < 0 ∨ (2 ^ v.fgain k : Int) ≤ ad))

/-- Where the output of a slot goes, as one number; 0 for nowhere. -/
def View.destination (v : View) (k : Nat) : Nat :=
  let dst := v.f (LPE.SL_OUT k) 0 3
  if dst = 1 || dst = 3 then dst * 2 ^ 24 + v.f (LPE.SL_OUT k) 4 4
  else if dst = 2 then dst * 2 ^ 24 + v.f (LPE.SL_OUT k) 8 12 * 2 ^ 8 + v.f (LPE.SL_OUT k) 20 8 else 0

/-- Two slots have one destination, or their int16 fields in one frame overlap. -/
def View.sameTarget (v : View) (a b : Nat) : Bool :=
  let x := v.destination a
  let y := v.destination b
  x != 0 && y != 0 && (x = y || (x / 2 ^ 24 = 2 && x / 2 ^ 8 = y / 2 ^ 8 && (x = y + 1 || y = x + 1)))

def lpeRules : List Rule := [
  ⟨1, 0x40041000, [], fun v => v.loops.any (fun k => outside 1 64 (v.f (LPE.SL_CFG k) 1 7))⟩,
  ⟨2, 0x40040000, [0x40000000, 0x40002000], fun v => (List.range 4).any (fun g => groupUsed v g &&
    (let rate := v.f (LPE.GRP_CFG g) 0 2
     (rate = 3 && v.cal != 1) || (v.b (LPE.GRP_CFG g) 2 && (rate != 0 ||
       !v.fired.any (fun p => v.action p.2 = 2 && v.f (ESC.PAL_B p.2) 0 8 = v.f (LPE.GRP_CFG g) 8 8 && v.axis p.1 = 0
         && v.f (ESC.WHL_CFG p.1) 0 16 = 1)))))⟩,
  ⟨3, 0x40041000, [], fun v => v.loops.any (fun k => v.cascaded k && badCascade v k)⟩,
  ⟨4, 0x40041000, [0x40039000], fun v => v.loops.any (fun k =>
    v.fsig k + v.fgain k < v.fout k || (v.b (LPE.SL_CFG k) 8 && v.fsig k != 31)
      || ((v.f (LPE.SL_OUT k) 0 3 = 1 || v.f (LPE.SL_OUT k) 0 3 = 2) && decide (v.fout k < 15))
      || (v.actLoops.contains k && (v.cascaded k || v.fsig k != 31)))⟩,
  ⟨5, 0x40041000, [], fun v => v.loops.any (badRegions v)⟩,
  ⟨6, 0x40041000, [], fun v => v.loops.any (fun k =>
    let ty := v.f (LPE.SL_FB k) 0 3
    4 < ty || (ty < 2 && 3 < v.f (LPE.SL_FB k) 4 3) || v.f (LPE.SL_FB k) 13 2 = 3 || v.f (LPE.SL_SCHED k) 24 2 = 3
      || (v.f (LPE.SL_FB_SRC k) 16 16 = 0 && (ty = 3 || v.f (LPE.SL_FF k) 1 2 = 2)))⟩,
  ⟨7, 0x40041000, [0x40039000], fun v => v.loops.any (fun k =>
    let dst := v.f (LPE.SL_OUT k) 0 3
    let ch := v.f (LPE.SL_OUT k) 4 4
    3 < dst || (dst = 1 && 3 < ch) || (dst = 3 && 11 < ch) || v.loops.any (fun j => j != k && v.sameTarget j k)
      || (dst = 2 && v.actFrames.contains (v.f (LPE.SL_OUT k) 8 4, v.f (LPE.SL_OUT k) 12 8)))⟩,
  ⟨8, 0x40041000, [], fun v => v.loops.any (fun k => v.b (LPE.SL_PLAUS k) 0 && (v.f (LPE.SL_PLAUS k) 16 8 = 0
    || 32 < v.f (LPE.SL_PLAUS k) 4 6 || v.f (LPE.SL_PLAUS k) 1 2 = 3 || v.fout k + v.fgain k < v.fsig k))⟩,
  ⟨9, 0x40041000, [], fun v => v.loops.any (fun k => decide (v.s (LPE.SL_UMAX k) 0 32 < v.s (LPE.SL_UMIN k) 0 32)
    || decide (v.s (LPE.SL_IMAX k) 0 32 < v.s (LPE.SL_IMIN k) 0 32)
    || (v.b (LPE.SL_FF k) 0 && (v.f (LPE.SL_FF k) 16 16 = 0 || v.f (LPE.SL_FF k) 1 2 = 3)))⟩,
  ⟨10, 0x40041000, [], fun v => v.running && (List.range 64).any (fun k => v.c.b (LPE.SL_CFG k) 0 &&
    (v.changes (LPE.SL_CFG k) 0 32 || v.changes (LPE.SL_FB k) 0 32 || v.changes (LPE.SL_FMT k) 0 32
      || v.changes (LPE.SL_OUT k) 0 32))⟩]

/-! ### CAN (Table 16.9), one table per controller -/

def View.slotOn (v : View) (n k : Nat) : Bool := v.b (CAN.FS_CFG n k) 0
def View.priOn (v : View) (n p : Nat) : Bool := v.b (CAN.PRI_CFG n p) 0
def View.priOwned (v : View) (n p : Nat) : Bool := v.priOn n p && v.b (CAN.PRI_CFG n p) 1

/-- Clocks per bit of a rate. -/
def View.nominalClocks (v : View) (n : Nat) : Nat := v.f (CAN.NBTP n) 0 6 * (1 + v.f (CAN.NBTP n) 16 9 + v.f (CAN.NBTP n) 8 8)
def View.dataClocks (v : View) (n : Nat) : Nat := v.f (CAN.DBTP n) 0 6 * (1 + v.f (CAN.DBTP n) 16 6 + v.f (CAN.DBTP n) 8 5)

/-- R380 and the ranges of NBTP and DBTP; TDC.EN is asked of a controller that sends FD frames. -/
def badTiming (v : View) (n : Nat) : Bool :=
  let nb := CAN.NBTP n
  let db := CAN.DBTP n
  outside 1 32 (v.f nb 0 6) || outside 1 128 (v.f nb 8 8) || outside 2 256 (v.f nb 16 9) || outside 1 (v.f nb 8 8) (v.f nb 25 7)
    || outside 1 32 (v.f db 0 6) || outside 1 16 (v.f db 8 5) || outside 1 32 (v.f db 16 6)
    || outside 1 (min 16 (v.f db 8 5)) (v.f db 24 5)
    || v.nominalClocks n < 80 || v.dataClocks n < 10 || v.nominalClocks n < v.dataClocks n
    || (v.b (CAN.CFG n) 1 && v.dataClocks n < 40 && !v.b (CAN.TDC n) 0)

/-- Identifiers of class 1 to 3 frames that the controller sends: enabled slots, reference frames of a master, the Nymyen
announcement. -/
def View.ownKeys (v : View) (n : Nat) : List Nat :=
  ((List.range 32).filter (v.slotOn n)).map (fun k => idKeyOf (v.w (CAN.FS_ID n k)))
    ++ (if v.f (CAN.REF_CFG n) 0 2 = 1 then [idKeyOf (v.w (CAN.REF_ID n)), idKeyOf (v.w (CAN.REF_FU_ID n))] else [])
    ++ (if v.b NYM.CFG 0 && v.b NYM.CFG (1 + n) then [idKey (v.f NYM.CAN_BASE 0 11 + v.f NYM.OWN 16 8) false] else [])

/-- Send connections with STOP_EN on a port, by frame slot. -/
def View.stopSlots (v : View) (port : Nat) : List Nat :=
  (v.conns.filter (fun k => !v.b (SFM.OSI_CONN_CFG k) 1 && v.b (SFM.OSI_CONN_CFG k) 2 && v.f (SFM.OSI_CONN_CFG k) 8 4 = port)).map
    (fun k => v.f (SFM.OSI_TE k) 24 8)

def canRules (n : Nat) : List Rule :=
  let page := 0x40050000 + 0x1000 * n
  let pris := List.range 4
  let slots := List.range 32
  [⟨1, page, [], fun v => badTiming v n⟩,
   ⟨2, page, [0x40068000], fun v => (pris.filter (v.priOn n)).any (fun p =>
     (v.ownKeys n).any (fun k => k < idKeyOf (v.w (CAN.PRI_ID n p))))⟩,
   ⟨3, page, [], fun v => slots.any (fun k => v.slotOn n k && v.b (CAN.FS_CFG n k) 3 &&
     (!v.b (CAN.FS_ID n k) 30 || !v.b (CAN.CFG n) 1))⟩,
   ⟨4, page, [0x40008000], fun v =>
     let owned := (pris.filter (v.priOwned n)).map (fun p => v.f (CAN.PRI_CFG n p) 8 5)
     (v.stopSlots n).any (fun k => !owned.contains k) || hasTwice owned⟩,
   ⟨5, page, [], fun v => slots.any (fun k => v.slotOn n k && v.f (CAN.FS_CFG n k) 1 2 = 0) ||
     pris.any (fun p => v.priOn n p && !v.b (CAN.PRI_CFG n p) 1 && decide (8 < v.f (CAN.PRI_CFG n p) 16 4)
       && !v.b (CAN.PRI_ID n p) 30)⟩,
   ⟨6, page, [], fun v => hasTwice (((slots.filter (v.slotOn n)).map (fun k => v.f (CAN.FS_ID n k) 0 30))
     ++ ((pris.filter (v.priOn n)).map (fun p => v.f (CAN.PRI_ID n p) 0 30)))⟩,
   ⟨7, page, [], fun v => v.f (CAN.REF_CFG n) 0 2 = 3 || outside 10 1000 (v.f (CAN.REF_CFG n) 16 16)
     || (v.f (CAN.REF_CFG n) 0 2 != 0 && v.f (CAN.REF_ID n) 0 30 = v.f (CAN.REF_FU_ID n) 0 30)⟩,
   ⟨8, page, [], fun v => outside 10 10000 (v.f (CAN.TXF_CFG n) 16 14) || 32 < v.f (CAN.TXF_CFG n) 0 6⟩,
   ⟨9, page, [], fun v => v.f (CAN.WAKE_CFG n) 0 2 = 3 || outside 5 50 (v.f (CAN.WAKE_CFG n) 16 8) || 8 < v.f (CAN.WAKE_CFG n) 8 4⟩,
   ⟨10, page, [], fun v => (List.range 128).any (fun k => v.b (CAN.FLT_CFG n k) 0 &&
     (v.f (CAN.FLT_CFG n k) 1 2 = 3 || v.f (CAN.FLT_CFG n k) 4 2 = 3 || 64 < v.f (CAN.FLT_RX n k) 0 7
       || (v.f (CAN.FLT_CFG n k) 1 2 = 1 && v.f (CAN.FLT_ID2 n k) 0 29 < v.f (CAN.FLT_ID1 n k) 0 29)))⟩,
   ⟨11, page, [], fun v => v.running && (v.changes (CAN.CFG n) 0 1 || v.changes (CAN.NBTP n) 0 32 || v.changes (CAN.DBTP n) 0 32
     || v.changes (CAN.TDC n) 0 32 || slots.any (fun k => v.c.b (CAN.FS_CFG n k) 0 && v.changes (CAN.FS_ID n k) 0 30)
     || pris.any (fun p => v.c.b (CAN.PRI_CFG n p) 0 && v.changes (CAN.PRI_ID n p) 0 30))⟩]

/-! ### ETH and ETHSW (Table 17.9) -/

/-- The entries of a port's gate control list. -/
def View.gates (v : View) (n : Nat) : List Word := (List.range (min 64 (v.f (ETH.GCL_CFG n) 0 7))).map (fun e => v.w (ETH.GCL n e))
def View.ethSlots (v : View) (n : Nat) : List Nat := (List.range 32).filter (fun k => v.b (ETH.SL_CFG n k) 0)
/-- Indices of the class 0 stream filters. -/
def View.filters0 (v : View) : List Nat := (List.range 64).filter (fun f => v.b (ETHSW.SF_CFG f) 0 && v.f (ETHSW.SF_CFG f) 7 2 = 0)
def View.slots0 (v : View) (n : Nat) : Nat := ((v.ethSlots n).filter (fun k => v.f (ETH.SL_CFG n k) 1 2 = 0)).length

/-- Class 0 egress streams of a port (R410, R415): its slots and stop connections, and with BRIDGE 1 the class 0 filters of other
ports. -/
def View.streams0 (v : View) (n : Nat) : Nat :=
  let bridged := if v.b ETHSW.SW_CFG 0 then
    (v.filters0.filter (fun f => (v.f (ETHSW.SF_CFG f) 3 4) &&& (15 - 2 ^ n) != 0)).length else 0
  max 1 (v.slots0 n + (v.stopSlots (8 + n)).length + bridged)

/-- T0 of R410 in ns. -/
def View.frameTime (v : View) (n : Nat) : Nat :=
  if v.f (ETH.CFG n) 2 2 = 3 then 1184 else if v.f (ETH.CFG n) 2 2 = 2 then 11840 else 118400

def gclInterval (w : Word) : Nat := fld w 12 20

def ethRules (n : Nat) : List Rule :=
  let page := 0x40060000 + 0x1000 * n
  [⟨1, page, [page], fun v =>
     let cycle := ((v.gates n).map gclInterval).sum
     outside 1 64 (v.f (ETH.GCL_CFG n) 0 7)
       || (v.gates n).any (fun w => gclInterval w = 0 || 1000000 < gclInterval w || gclInterval w % 5 != 0)
       || 1000000 % cycle != 0 || cycle ≤ v.f (ETH.GCL_CFG n) 12 20⟩,
   ⟨2, page, [page], fun v => (v.gates n).all (fun w => !bit w 8) ||
     (v.gates n).any (fun w => if bit w 8 then fld w 0 8 != 0x80 else bit w 7)⟩,
   ⟨3, page, [page, 0x40064000, 0x40008000], fun v => (v.gates n).any (fun w =>
     bit w 8 && decide (gclInterval w < v.streams0 n * v.frameTime n))⟩,
   ⟨4, page, [page], fun v => v.f (ETH.QMAP n) 0 3 = 7 || v.f (ETH.QMAP n) 4 3 = 7 || v.f (ETH.QMAP n) 8 3 = 7
     || (List.range 8).any (fun p => v.f (ETH.PCP_MAP n) (2 * p) 2 = 0)⟩,
   ⟨6, page, [page], fun v => (v.ethSlots n).any (fun k =>
     (!v.b (ETH.SL_CFG n k) 3 && outside 1 64 (v.f (ETH.SL_CFG n k) 8 7)) || v.w (ETH.SL_IP n k) = 0
       || v.f (ETH.SL_CFG n k) 16 16 = 0 || v.w (ETH.IPV4 n) = 0)⟩,
   ⟨10, page, [page], fun v => v.running && (v.changes (ETH.CFG n) 0 4 || v.changes (ETH.GCL_CFG n) 0 32
     || (List.range 64).any (fun e => v.changes (ETH.GCL n e) 0 32)
     || (List.range 32).any (fun k => v.c.b (ETH.SL_CFG n k) 0 && (v.changes (ETH.SL_CFG n k) 16 16 || v.changes (ETH.SL_IP n k) 0 32
       || v.changes (ETH.SL_MAC_LO n k) 0 32 || v.changes (ETH.SL_MAC_HI n k) 0 32)))⟩]

def View.iecSources (v : View) : List Nat := (List.range 32).filter (fun k => v.b (ETHSW.IEC_SRC_CFG k) 8)
def ethPages : List Nat := [0x40060000, 0x40061000, 0x40062000, 0x40063000]

def ethswRules : List Rule := [
  ⟨5, 0x40064000, 0x40064000 :: 0x40008000 :: ethPages, fun v =>
    16 < v.filters0.length + ((List.range 4).map (fun n => v.slots0 n + (v.stopSlots (8 + n)).length)).sum
      || v.filters0.any (fun f => 16 ≤ f)⟩,
  ⟨7, 0x40064000, 0x40064000 :: 0x40003000 :: ethPages, fun v =>
    let i := ETHSW.PTP_INT
    v.f ETHSW.PTP_CFG 2 2 = 3 || decide (v.s i 0 4 < -4 ∨ 0 < v.s i 0 4 ∨ v.s i 4 4 < -3 ∨ 3 < v.s i 4 4 ∨ v.s i 8 4 < -4 ∨ 3 < v.s i 8 4)
      || outside 2 10 (v.f i 12 4) || (v.b TBU.SRC_CFG 1 && !v.b (ETH.CFG (v.f TBU.SRC_CFG 4 2)) 4)⟩,
  ⟨8, 0x40064000, [0x40064000], fun v => ((List.range 64).filter (fun f => v.b (ETHSW.SF_CFG f) 0)).any (fun f =>
    v.f (ETHSW.SF_CFG f) 1 2 = 3 || v.f (ETHSW.SF_CFG f) 3 4 = 0 || outside 64 1522 (v.f (ETHSW.SF_SDU f) 0 11)
      || (v.f (ETHSW.SF_METER f) 0 16 != 0 && v.f (ETHSW.SF_METER f) 16 16 * 64 < v.f (ETHSW.SF_SDU f) 0 11))⟩,
  ⟨9, 0x40064000, [0x40064000], fun v =>
    (List.range 8).any (fun g => v.b (ETHSW.IEC_GRP g) 12 && (v.f (ETHSW.IEC_GRP g) 8 4 = 0 || v.f (ETHSW.IEC_GRP g) 16 16 = 0))
      || v.iecSources.any (fun k => v.f (ETHSW.IEC_SRC_CFG k) 9 2 = 0 || v.f (ETHSW.IEC_SRC_TMO k) 0 16 = 0)
      || hasTwice (v.iecSources.map (fun k => (v.w (ETHSW.IEC_SRC_TF k)).toNat * 256 + v.f (ETHSW.IEC_SRC_CFG k) 0 8))⟩]

/-! ### NYM (Table 17.10) -/

def nymRules : List Rule := [
  ⟨1, 0x40068000, [], fun v => v.f NYM.OWN 16 8 = 0 || v.f NYM.OWN 16 8 = 255 || 999 < v.f NYM.CFG 16 10
    || 0x7FF < v.f NYM.CAN_BASE 0 11 + 254⟩,
  ⟨2, 0x40068000, [0x40050000, 0x40051000, 0x40052000, 0x40053000, 0x40054000, 0x40055000] ++ ethPages, fun v =>
    (List.range 6).any (fun n => v.b NYM.CFG (1 + n) && (!v.b (CAN.CFG n) 0 || !v.b (CAN.CFG n) 1))
      || (List.range 4).any (fun n => v.b NYM.CFG (8 + n) && v.w (ETH.IPV4 n) = 0)⟩,
  ⟨3, 0x40068000, [], fun v =>
    let on := (List.range 64).filter (fun k => v.b (NYM.EXP_CFG k) 0)
    hasTwice (on.map (fun k =>
      let ser := (v.w (NYM.EXP_SER_LO k)).toNat + (v.w (NYM.EXP_SER_HI k)).toNat * 2 ^ 32
      if ser = 0 then 2 ^ 64 + v.f (NYM.EXP_CFG k) 8 16 else ser))⟩,
  ⟨4, 0x40068000, [], fun v => v.f NYM.UDP 0 16 = 0 || outside 0xE0000000 0xEFFFFFFF (v.f NYM.GROUP 0 32)⟩]

/-! ### UART (Table 22.9): FRAMING 3 is refused; its rule number is open (log 41) -/

def uartRules : List Rule := [
  ⟨Config.uartFramingRule.toNat, 0x4006A000, [], fun v => (List.range 12).any (fun u => v.f (UART.UCFG u) 1 2 = 3)⟩]

/-! ### FIO, ANU and ENC (Table 18.10) -/

/-- Some enabled loop slot names this destination channel. -/
def View.loopDst (v : View) (dst ch : Nat) : Bool :=
  v.loops.any (fun k => v.f (LPE.SL_OUT k) 0 3 = dst && v.f (LPE.SL_OUT k) 4 4 = ch)

def View.inputOn (v : View) (i : Nat) : Bool := v.b (FIO.IN_CFG i) 0

/-- Encoder channels that an angle axis, a loop slot or the safety monitor uses. -/
def View.encUsed (v : View) (ch : Nat) : Bool :=
  v.b (ESC.AX_CFG ch) 0 || v.loops.any (fun k => v.f (LPE.SL_FB k) 0 3 < 2 && v.f (LPE.SL_FB k) 4 3 = ch)
    || (v.insts SFM.SLS_CFG ++ v.insts SFM.SLP_CFG ++ v.insts SFM.SDI_CFG).any (fun p => fld p.2 7 2 = 0 && fld p.2 9 4 = ch)

/-- A group (a mask of inputs or channels) is empty or names a disabled member. -/
def badGroup (mask n : Nat) (on : Nat → Bool) : Bool := mask = 0 || (List.range n).any (fun i => mask.testBit i && !on i)

def fioRules : List Rule := [
  ⟨1, 0x40070000, [0x40070000], fun v => (List.range 16).any (fun k => v.f (FIO.OUT_CFG k) 1 2 = 3 ||
    (v.outGroup k).any (fun j => v.w (FIO.OUT_CFG j) != v.w (FIO.OUT_CFG k)))⟩,
  ⟨2, 0x40070000, [0x40070000, 0x40041000], fun v => (List.range 16).any (fun k => 2 ≤ v.f (FIO.OUT_CFG k) 3 2 ||
    (v.f (FIO.OUT_CFG k) 3 2 = 1 && !v.loopDst 3 k))⟩,
  ⟨3, 0x40070000, [0x40070000], fun v => (List.range 16).any (fun k => v.f (FIO.OUT_CFG k) 16 8 = 0)
    || outside 20 100 (v.f FIO.OP_DIAG 0 8) || v.f FIO.OP_DIAG 8 8 = 0⟩,
  ⟨4, 0x40071000, [0x40071000], fun v => (List.range 16).any (fun i => v.inputOn i &&
    (let tp := v.f (FIO.IN_CFG i) 16 3
     v.f (FIO.IN_CFG i) 8 8 = 0 || v.f (FIO.IN_CFG i) 3 3 = 7 || 4 < tp || (tp != 0 && !v.b FIO.TP_CFG (tp - 1))))
    || v.f FIO.EDGE_BASE 16 2 = 0⟩,
  ⟨5, 0x40071000, [0x40071000], fun v => (List.range 8).any (fun g => v.b (FIO.INGRP_CFG g) 31 &&
    badGroup (v.f (FIO.INGRP_CFG g) 0 16) 16 v.inputOn)⟩,
  ⟨5, 0x40074000, [0x40074000], fun v => (List.range 8).any (fun g => v.b (ANU.AGRP_CFG g) 31 &&
    badGroup (v.f (ANU.AGRP_CFG g) 0 8) 8 (fun ch => v.b (ANU.AIN_CFG ch) 0))⟩,
  ⟨6, 0x40071000, [0x40071000], fun v =>
    let w := v.f FIO.TP_CFG 8 8
    let per := v.f FIO.TP_CFG 16 8
    outside 5 100 w || per = 0 || per * 1000 < 4 * (w + v.f FIO.TP_CFG 24 8)⟩,
  ⟨7, 0x40073000, [0x40073000], fun v => v.f FIO.WDG_CFG 8 8 = 0⟩,
  ⟨8, 0x40074000, [0x40074000, 0x40041000], fun v => (List.range 8).any (fun ch => 10 < v.f (ANU.AIN_CFG ch) 2 4 ||
    decide (v.s (ANU.AIN_RNG ch) 16 16 < v.s (ANU.AIN_RNG ch) 0 16))
    || (List.range 4).any (fun o => v.b (ANU.AOUT_CFG o) 3 && !v.loopDst 1 o)⟩,
  ⟨9, 0x40075000, [0x40075000], fun v => (List.range 4).any (fun ch =>
    let g := ENC.ENC_CFG ch
    let tm := ENC.ENC_TIME ch
    let bits := v.f g 8 6
    let clk := v.f g 16 8
    let pause := v.f g 24 8
    let per := v.f tm 0 16
    v.b g 0 && (outside 100 50000 (v.f tm 16 16) || (v.b g 1 && (outside 8 32 bits || outside 10 200 clk || outside 10 80 pause
      || per * clk < bits * 100 + pause * clk || 1000 < per))))⟩,
  ⟨10, 0x40070000, [0x40070000], fun v => v.running && (List.range 16).any (fun k =>
    v.changes (FIO.OUT_CFG k) 0 5)⟩,
  ⟨10, 0x40071000, [0x40071000], fun v => v.running && (List.range 16).any (fun i =>
    v.changes (FIO.IN_CFG i) 0 2 || v.changes (FIO.IN_CFG i) 3 3)⟩,
  ⟨10, 0x40075000, [0x40075000], fun v => v.running && (List.range 4).any (fun ch =>
    v.encUsed ch && v.changes (ENC.ENC_CFG ch) 0 2)⟩]

/-! ### All tables, in ascending page address -/

def ruleTables : List RuleTable :=
  [⟨[0x40000000], false, sysRules⟩, ⟨[0x40002000], false, escRules⟩, ⟨[0x40003000], false, tbuRules⟩,
   ⟨[0x40004000, 0x40005000], false, evrRules⟩, ⟨[0x40006000], false, memRules⟩, ⟨[0x40008000], false, sfmRules⟩,
   ⟨[0x40009000], false, prcRules⟩, ⟨[0x40010000, 0x40011000, 0x40012000], false, rbbRules⟩, ⟨[0x40013000], false, rbb3Rules⟩,
   ⟨[0x40020000, 0x40021000], false, fusRules⟩, ⟨[0x40022000, 0x40023000], false, fus2Rules⟩,
   ⟨[0x40030000, 0x40031000, 0x40032000, 0x40033000], false, slvRules⟩, ⟨[0x40038000, 0x40039000], false, lawRules⟩,
   ⟨[0x40040000, 0x40041000], false, lpeRules⟩] ++
  (List.range 6).map (fun n => ⟨[0x40050000 + 0x1000 * n], false, canRules n⟩) ++
  [⟨ethPages ++ [0x40064000], true, (List.range 4).flatMap ethRules ++ ethswRules⟩, ⟨[0x40068000], false, nymRules⟩,
   ⟨[0x4006A000], false, uartRules⟩,
   ⟨[0x40070000, 0x40071000, 0x40072000, 0x40073000, 0x40074000, 0x40075000], true, fioRules⟩]

/-- The rules checked for a committed page (R507): its own table in ascending index, then what other tables read of it. -/
def rulesFor (page : Nat) : List Rule :=
  let ascending (l : List Rule) : List Rule := (List.range 14).flatMap (fun i => l.filter (fun r => r.index = i)) ++ l.filter (fun r => 14 ≤ r.index)
  let own := (ruleTables.filter (fun t => t.owners.contains page)).flatMap (fun t =>
    ascending (if t.concerned then t.rules.filter (fun r => r.reads.contains page) else t.rules))
  let others := (ruleTables.filter (fun t => !t.owners.contains page)).flatMap (fun t =>
    ascending (t.rules.filter (fun r => r.reads.contains page)))
  own ++ others

/-- The first rule of a page's check that fails. -/
def firstRule (v : View) (page : Nat) : Option Rule := (rulesFor page).find? (fun r => r.fails v)

end Sys2Proof.Machine
end

