-- ==== Sys2Proof/Machine/Timebase.lean ====
section
/-! DEFINITION. The timebase (04_timebase.md R83 to R114, and time from the partner, R332, R333): the time scale, sources, discipline,
holdover, refusal and step, pulses, compare units, PTP frames that depart. Offsets are in ns. -/
namespace Sys2Proof.Machine

def Dev.source (d : Dev) (n : Nat) : SourceDev := Assoc.get {} d.tbu.srcs n
def Dev.putSource (d : Dev) (n : Nat) (x : SourceDev) : Dev := { d with tbu := { d.tbu with srcs := Assoc.set {} d.tbu.srcs n x } }

/-- TBU.STATE fields: 0 FREERUN, 1 LOCKED, 2 SLEWING, 3 HOLDOVER; the selected source; the refused source. -/
def tbuState (d : Dev) : Nat := d.f TBU.STATE 0 2
def tbuSrc (d : Dev) : Nat := d.f TBU.STATE 4 3
def refusedSrc (d : Dev) : Nat := d.f TBU.STATE 24 3
def stepPending (d : Dev) : Bool := d.b TBU.STATE 9

/-! ### The scale and its rate (R84, R92) -/

/-- The phase correction left at a tick, in 10^-6 ns: worked off at SLEW.PPM, 5 PPM of these a tick (R92). -/
def leftAt (c : Cfg) (d : Dev) (t : Nat) : Int :=
  let done : Int := 5 * c.f TBU.SLEW 0 7 * (t - d.tbu.leftTick : Nat)
  if 0 ≤ d.tbu.left then max 0 (d.tbu.left - done) else min 0 (d.tbu.left + done)
def leftNow (c : Cfg) (d : Dev) : Int := leftAt c d d.tick

/-- RATE = round((f + p) × 5 × 2^32), clamped to 500 ppm; p is smaller in the last tick, so that the correction ends exactly (R84,
R92). -/
def Dev.showRate (d : Dev) (c : Cfg) : Dev :=
  let l := leftNow c d
  let p : Int := (if 0 ≤ l then 1 else -1) * min (c.f TBU.SLEW 0 7 * 10 ^ 12 : Nat) (l.natAbs * 10 ^ 12 / 5)
  let r : Int := (2 * (d.tbu.f + p) * 5 * 2 ^ 32 + 10 ^ 18) / (2 * 10 ^ 18)
  d.putI TBU.RATE (clampI r (-10737418) 10737418)

/-- The grandmaster's clockClass as the client port heard it (R96). -/
def gmClass (c : Cfg) (d : Dev) : Nat :=
  match (d.port (c.f TBU.SRC_CFG 4 2)).announce with
  | none => 248
  | some a => a.2 / 2 ^ 112 % 256

def Dev.ppsLevel (d : Dev) (out : Nat) (v : Bool) : Dev :=
  { d with tbu := { d.tbu with ppsActive := Assoc.set false d.tbu.ppsActive out v } }

/-- A PPS output is squelched: MODE 1 with SQUELCH while the clockClass is 187 or 248 (R106). -/
def squelched (c : Cfg) (d : Dev) (out : Nat) : Bool :=
  c.f (TBU.PPS_CFG out) 0 2 = 1 && c.b (TBU.PPS_CFG out) 3 && (d.f TBU.STATE 16 8 = 187 || d.f TBU.STATE 16 8 = 248)

/-- CLOCK_CLASS of Table 4.2; under R332 the active's class. A squelched PPS output rests (R106). -/
def Dev.tbuClass (d : Dev) (c : Cfg) : Dev :=
  let v := if tbuState d = 0 then 248
    else if tbuState d = 3 then (if d.b TBU.STATE 11 then 187 else 7)
    else if tbuSrc d = 2 then gmClass c d
    else if tbuSrc d = 6 then (match d.prc.partnerTime with | some p => p.2 | none => 248)
    else 6
  let d := d.putF TBU.STATE 16 8 v
  [0, 1].foldl (fun (d : Dev) o => if squelched c d o then d.ppsLevel o false else d) d

/-- A refusal ends: CONSISTENT, JUMP_REFUSED and REFUSED_SRC clear, and the source may be taken again (R97, R98). -/
def Dev.clearRefusal (d : Dev) : Dev :=
  let n := refusedSrc d
  ((((d.putSource n { d.source n with refused := false }).putB TBU.STATE 8 false).putF TBU.STATE 12 4 0)).putF TBU.STATE 24 3 0

/-- LOCKED to a source of higher priority than the refused one ends the refusal (R98). -/
def Dev.outranked (d : Dev) : Dev :=
  if d.b TBU.STATE 8 && tbuState d = 1 && decide (tbuSrc d < refusedSrc d) then d.clearRefusal else d

/-- k of R92 in thousandths. -/
def loopGain (c : Cfg) : Int := [61, 172, 467, 848].getD (c.f TBU.SLEW 8 2) 0

/-- An offset within JUMP_THR, of reference instant `ref`, disciplines the scale (R92). -/
def Dev.steer (d : Dev) (c : Cfg) (theta : Int) (ref : Nat) : Dev :=
  let f := if d.tbu.firstOffset then d.tbu.f else d.tbu.f + loopGain c * (theta * 1000000 - leftAt c d ref)
  let d := { d with tbu := { d.tbu with f := f, left := theta * 1000000, leftTick := d.tick, firstOffset := false } }
  (((d.putF TBU.STATE 0 2 (if theta = 0 then 1 else 2)).showRate c).outranked).tbuClass c

/-- A source is taken (R90, R93, R95); a return from holdover to the source that was lost is no change of source. -/
def Dev.tbuLock (d : Dev) (c : Cfg) (s : Nat) (theta : Int) (ref unc : Nat) : Dev :=
  let d := if s != d.tbu.lastSrc then d.event 0x0401 [d.tbu.lastSrc, s] else d
  let d := { d with tbu := { d.tbu with lastSrc := s, firstOffset := d.tbu.firstOffset || s != tbuSrc d } }
  let d := ((d.putF TBU.STATE 4 3 s).putB TBU.STATE 7 true).putB TBU.STATE 11 false
  ((d.putN TBU.HOLD_TIME 0).putN TBU.EST_ERR (satU 32 unc)).steer c theta ref

/-- The slew in progress is abandoned where it stands: nothing is left, so the state is no longer SLEWING (R92, R94, R101). -/
def Dev.dropSlew (d : Dev) (c : Cfg) : Dev :=
  let d := ({ d with tbu := { d.tbu with left := 0, leftTick := d.tick } } : Dev).showRate c
  if tbuState d = 2 then d.putF TBU.STATE 0 2 1 else d

/-- The correction has ended: SLEWING becomes LOCKED (R92). -/
def Dev.slewEnd (d : Dev) (c : Cfg) : Dev :=
  let d := ({ d with tbu := { d.tbu with left := 0 } } : Dev).showRate c
  let d := if tbuState d = 2 then d.putF TBU.STATE 0 2 1 else d
  (d.outranked).tbuClass c

/-- One cycle of the 200 MHz clock (R84), and the slew on each tick of it (R92). -/
def Dev.timebaseCycle (d : Dev) (c : Cfg) : Dev :=
  let d := d.advanceCycles (d.tbu.cycles + 1)
  if d.tbu.left = 0 then d else if leftNow c d = 0 then d.slewEnd c else d.showRate c

/-- HOLDOVER is entered (R94, R95). -/
def Dev.holdover (d : Dev) (c : Cfg) : Dev :=
  if tbuState d = 3 || tbuState d = 0 then d
  else
    let e0 := (d.w TBU.EST_ERR).toNat
    let d := { d with tbu := { d.tbu with e0 := e0, firstOffset := true } }
    let d := ((d.dropSlew c).putF TBU.STATE 0 2 3).putF TBU.STATE 4 3 5
    ((d.putN TBU.HOLD_TIME 0).event 0x0402 [(e0 : Int)]).tbuClass c

/-- A second of holdover (R95). -/
def Dev.holdSecond (d : Dev) (c : Cfg) : Dev :=
  if tbuState d != 3 then d
  else
    let t := (d.w TBU.HOLD_TIME).toNat + 1
    let err := (d.tbu.e0 * 2 ^ 17 + c.f TBU.HOLD_CFG 0 16 * 2 ^ 9 * t + c.f TBU.HOLD_CFG 16 16 * t * t + 2 ^ 16) / 2 ^ 17
    let d := (d.putN TBU.HOLD_TIME t).putN TBU.EST_ERR (satU 32 err)
    if c.f TBU.HOLD_LIMIT 0 30 < err && !d.b TBU.STATE 11 then ((d.putB TBU.STATE 11 true).event 0x0403).tbuClass c else d

/-- A source is refused (R97, R98). -/
def Dev.refuse (d : Dev) (s : Nat) (theta : Int) : Dev :=
  let d := d.putSource s { d.source s with refused := true }
  (((d.putB TBU.STATE 8 true).putF TBU.STATE 12 4 1).putF TBU.STATE 24 3 s).event 0x0404 [theta, s]

/-! ### Steps (R99 to R104, R332) -/

/-- Δ: the offset rounded to the nearest tick (R99). -/
def stepTicks (theta : Int) : Int := (2 * theta + 5) / 10

/-- The step instant on the old scale (R101): the stepped scale reads a whole second at least `ms` ms after acceptance. -/
def stepInstant (d : Dev) (delta : Int) (ms : Nat) : Nat :=
  let target : Int := d.tick + delta + ms * ticksPerMs
  (((target + ticksPerSec - 1) / ticksPerSec) * ticksPerSec - delta).toNat

/-- The beat number of the boundary at the step instant (R60, R78): the boundaries of the old scale on the way count, but for the last one
where it falls less than 0.5 ms before the instant. -/
def stepBeat (d : Dev) (instant : Nat) : Nat :=
  let n := (instant - 1) / ticksPerMs - d.esc.boundary / ticksPerMs
  let last := (instant - 1) / ticksPerMs * ticksPerMs
  d.esc.beat + (if 0 < n && decide (instant < last + ticksPerMs / 2) then n - 1 else n) + 1

/-- A step is announced for `instant` (R101); `who`: 0 firmware, 1 automatic, 2 first step, 3 partner. A first step, and one whose slip
would leave 32 bits, reloads the beat number (R104). -/
def Dev.armStep (d : Dev) (c : Cfg) (src who : Nat) (delta rest : Int) (instant : Nat) : Dev :=
  let slip : Int := ((instant : Int) + delta) / ticksPerMs - (stepBeat d instant : Int)
  let reload := who = 2 || decide (slip < -(2 ^ 31)) || decide (2 ^ 31 ≤ slip)
  let d := d.dropSlew c
  let d := { d with tbu := { d.tbu with stepDelta := delta, stepRest := rest, stepAt := instant, stepSrc := src, stepFirst := reload } }
  let d := (d.putB TBU.STATE 9 true).putB ESC.STEP_STAT 24 true
  d.event 0x0405 [delta, who, ((instant : Int) + delta)]

/-- A step is accepted (R99, R101, R104), and journaled by an active (R321). -/
def Dev.acceptStep (d : Dev) (c : Cfg) (src who : Nat) (theta : Int) : Dev :=
  let delta := stepTicks theta
  let at_ := stepInstant d delta (if d.crown && partnerStandby d then 4 else 3)
  (d.armStep c src who delta (theta - 5 * delta) at_).journal c (.time delta at_)

/-- PPS across the step (R107): the pulse of the step instant is omitted for a forward step of broken seconds. The interval of an
output that gives pulses is altered. -/
def Dev.stepPps (d : Dev) (c : Cfg) : Dev :=
  let delta := d.tbu.stepDelta
  if delta % ticksPerSec = 0 then d
  else
    let live (o : Nat) : Bool := c.f (TBU.PPS_CFG o) 0 2 = 1 && !squelched c d o && (Assoc.get none d.tbu.ppsAt o).isSome
    { d with tbu := { d.tbu with
      ppsAltered := (live 0).toNat + (live 1).toNat * 2, ppsOmit := if 0 < delta then some (d.tick / ticksPerSec) else none } }

/-- The uncertainty of a source (R95): GNSS gives it with its solution; of the others no rule states one, so it is a free value
(log 5). -/
def Dev.uncertainty (d : Dev) (n : Nat) : Nat × Dev :=
  if n = 1 then ((d.source 1).unc, d) else (d.takeFree.1.toNat, d.takeFree.2)

/-! ### Compare units (R109 to R112) -/

def cmpTarget (d : Dev) (u : Nat) : Nat := (d.w (TBU.CMP_TGT_LO u)).toNat + d.f (TBU.CMP_TGT_HI u) 0 8 * 2 ^ 32

/-- d = signed40(tick[39:0] - target). -/
def cmpDistance (d : Dev) (u : Nat) : Int := signed 40 (unsigned 40 ((d.tick : Int) - cmpTarget d u))

/-- An armed unit fires, `dist` ticks past its target (R109); the pulse leaves on an output in MODE 2 (R108). -/
def Dev.cmpFire (d : Dev) (c : Cfg) (u dist : Nat) : Dev :=
  let ctrl := d.w (TBU.CMP_CTRL u)
  let out := fld ctrl 2 2
  let d := if (out = 1 || out = 2) && c.f (TBU.PPS_CFG (out - 1)) 0 2 = 2 then
      let stop := d.tick + fld ctrl 16 16 * ticksPerUs
      ({ d with tbu := { d.tbu with
        cmpEnd := Assoc.set 0 d.tbu.cmpEnd (out - 1) (max stop (Assoc.get 0 d.tbu.cmpEnd (out - 1))) } } : Dev).ppsLevel (out - 1) true
    else d
  let d := d.putB TBU.CMP_STAT u true
  let d := if d.tbu.cmpLate.testBit u then
      ({ d with tbu := { d.tbu with cmpLate := d.tbu.cmpLate ^^^ 2 ^ u } } : Dev).putB TBU.CMP_STAT (16 + u) true else d
  let d := if bit ctrl 4 then d.irq 0x40003000 u else d
  let d := if bit ctrl 5 then d.hackTrigger c 4 else d
  if !bit ctrl 1 then d.putB (TBU.CMP_CTRL u) 0 false
  else
    let per := max 1 (d.w (TBU.CMP_PER u)).toNat
    let n := dist / per + 1
    let tgt := (cmpTarget d u + n * per) % 2 ^ 40
    let d := (d.putN (TBU.CMP_TGT_LO u) tgt).putN (TBU.CMP_TGT_HI u) (tgt / 2 ^ 32)
    if 1 < n then d.event 0x040C [((n - 1 : Nat) : Int)] else d

/-- A forward step fires, once, every armed unit whose target it passes (R112); `before` are the distances before it. -/
def Dev.stepCompares (d : Dev) (c : Cfg) (before : List Int) : Dev :=
  before.zipIdx.foldl (fun (d : Dev) p =>
    let dist := p.1 + d.tbu.stepDelta
    if d.b (TBU.CMP_CTRL p.2) 0 && decide (p.1 < 0) && decide (0 ≤ dist) then d.cmpFire c p.2 dist.toNat else d) d

/-- The step is applied (R101, R102): the scale moves by Δ, the TBU is LOCKED to the accepted source, the rest is slewed. -/
def Dev.tbuStep (d : Dev) (c : Cfg) : Dev :=
  let x := d.tbu
  let u := d.uncertainty x.stepSrc
  let unc := u.1
  let d := u.2
  let ends := x.cmpEnd.map (fun (p : Nat × Nat) => (p.1, ((p.2 : Int) + x.stepDelta).toNat))
  let pulses := x.ppsAt.map (fun (p : Nat × Option Nat) => (p.1, p.2.map (fun t => ((t : Int) + x.stepDelta).toNat)))
  let d := d.advanceTo x.stepAt
  let before := (List.range 16).map (cmpDistance d)
  let d := { d with tick := ((d.tick : Int) + x.stepDelta).toNat, tbu := { d.tbu with cmpEnd := ends, ppsAt := pulses } }
  let d := d.clearRefusal
  let d := if x.stepSrc != x.lastSrc then d.event 0x0401 [x.lastSrc, x.stepSrc] else d
  let d := { d with tbu := { d.tbu with left := x.stepRest * 1000000, leftTick := d.tick, firstOffset := true, lastSrc := x.stepSrc } }
  let d := ((((d.putF TBU.STATE 0 2 1).putF TBU.STATE 4 3 x.stepSrc).putB TBU.STATE 7 true).putB TBU.STATE 9 false).putB TBU.STATE 11 false
  let d := ((d.putN TBU.HOLD_TIME 0).putN TBU.EST_ERR (satU 32 unc)).put64 TBU.STEP_LO TBU.STEP_HI (unsigned 64 x.stepDelta)
  (((d.showRate c).tbuClass c).stepPps c).stepCompares c before

/-! ### The evaluation of a second (R90 to R104) -/

/-- GNSS is flagged by the clock-consistency tests (Table 4.1). -/
def gnssFlagged (d : Dev) : Bool := d.b RBB.INT_FLAG 12 || d.b RBB.INT_FLAG 13

/-- What one source shows at an evaluation (Table 4.1): its condition holds; it fails; the offset measured in this second, if any, ns, with
its reference instant; its uncertainty, ns (0: not stated). -/
structure SourceShown where
  good : Bool
  bad : Bool
  offset : Option (Int × Nat)
  unc : Nat := 0
  deriving DecidableEq, Repr

/-- GNSS (Table 4.1): a valid time solution of this second with the clock-consistency flag clear. -/
def gnssShows (d : Dev) : SourceShown :=
  match d.tbu.gnss with
  | none => ⟨false, true, none, 0⟩
  | some (o, t, u) =>
    let valid := decide (d.tick < t + ticksPerSec + ticksPerMs)
    let ok := valid && !gnssFlagged d
    ⟨ok, !ok, if valid then some (o, t) else none, u⟩

/-- The lower middle of offsets in ascending order. -/
def insertOffset (x : Int × Nat) (l : List (Int × Nat)) : List (Int × Nat) :=
  match l with
  | [] => [x]
  | y :: t => if x.1 ≤ y.1 then x :: y :: t else y :: insertOffset x t

/-- The median of a second's Sync offsets (R91); of an even number the mean of the middle two, with the later one's instant. -/
def medianOffset (l : List (Int × Nat)) : Option (Int × Nat) :=
  let s := l.foldr insertOffset []
  match s[(s.length - 1) / 2]?, s[s.length / 2]? with
  | some a, some b => some ((a.1 + b.1) / 2, max a.2 b.2)
  | _, _ => none

/-- PTP (Table 4.1): client state with a grandmaster of clockClass 6 or 7 qualifies; 3 Sync intervals without an accepted Sync, or no
master any more, disqualify. -/
def ptpShows (c : Cfg) (d : Dev) : SourceShown :=
  let n := c.f TBU.SRC_CFG 4 2
  let p := d.port n
  let client := d.f (ETH.STAT n) 4 4 = 9
  let silent := match p.lastSync with | none => true | some (t, every) => decide (t + 3 * every < d.tick)
  ⟨client && (gmClass c d = 6 || gmClass c d = 7) && !silent, !client || silent, if client then medianOffset p.syncs else none, 0⟩

/-- PPS_IN (Table 4.1): no edge within 1.001 s of the last one, or 2 s without a consistent label, disqualifies; qualification counts
labelled edges. The offset is the labelled second less the edge's stamp. -/
def ppsShows (c : Cfg) (d : Dev) : SourceShown :=
  let gone := match d.tbu.ppsIn with | none => true | some (t, _) => decide (t + 1001 * ticksPerMs < d.tick)
  let unlabelled := match d.tbu.ppsLabel with | none => true | some (_, _, t) => decide (t + 2 * ticksPerSec < d.tick)
  let x := d.source 3
  ⟨c.b TBU.PPSIN_CFG 0 && !gone && !unlabelled, !c.b TBU.PPSIN_CFG 0 || gone || unlabelled, if x.fresh then some (x.offset, x.refTick) else none, 0⟩

/-- CAN (Table 4.1): reference frames with follow-up; 3 periods missed disqualify. -/
def canShows (c : Cfg) (d : Dev) : SourceShown :=
  let n := c.f TBU.SRC_CFG 8 3
  match (d.canOf n).refLast with
  | none => ⟨false, true, none, 0⟩
  | some (o, t, at_) =>
    let missed := c.f (CAN.REF_CFG n) 0 2 != 2 || decide (at_ + 3 * c.f (CAN.REF_CFG n) 16 16 * ticksPerMs < d.tick)
    ⟨!missed, missed, if (d.source 4).refTick < t || (d.source 4).refTick = 0 then some (o, t) else none, 0⟩

/-- A source's qualification at an evaluation (R90, Table 4.1): `need` good ones qualify, `limit` failing ones disqualify. A condition that
only qualifies (a grandmaster's class) and fails starts the count again. A source that disqualifies may return (R97). -/
def Dev.qualify (d : Dev) (c : Cfg) (n need limit : Nat) (o : SourceShown) : Dev :=
  let x := d.source n
  if !c.b TBU.SRC_CFG (n - 1) then d.putSource n {}
  else
    let x := match o.offset with
      | some (v, t) => { x with offset := v, refTick := t, unc := o.unc, fresh := true }
      | none => { x with fresh := false }
    let good := if n = 3 then x.good else if o.good then min need (x.good + 1) else 0
    if !o.bad then d.putSource n { x with good := good, bad := 0, qualified := x.qualified || decide (need ≤ good) }
    else if limit ≤ x.bad + 1 then d.putSource n { x with good := 0, bad := x.bad + 1, qualified := false, excluded := false, refused := false }
    else d.putSource n { x with good := good, bad := x.bad + 1 }

/-- The enabled, qualified source of highest priority that is neither declined nor refused (R90, R97). -/
def bestSource (d : Dev) : Option Nat :=
  [1, 2, 3, 4].find? (fun n => (d.source n).qualified && !(d.source n).excluded && !(d.source n).refused)

def withinThr (c : Cfg) (theta : Int) : Bool := decide (theta.natAbs ≤ c.f TBU.JUMP_THR 0 30)

/-- The first source is taken by a step (R104): not locked since reset, in Configure. -/
def firstTaking (d : Dev) : Bool := !d.b TBU.STATE 7 && d.mode = 3

/-- A source is taken, its offset being within JUMP_THR (R93), or by the first step (R104). DESIGN CHOICE (log 82): a first offset that
rounds to 0 ticks needs no step, and locks at once. -/
def Dev.takeSource (d : Dev) (c : Cfg) (n : Nat) : Dev :=
  let x := d.source n
  let d := d.putI TBU.OFFSET (satS 32 x.offset)
  if firstTaking d && stepTicks x.offset != 0 then d.acceptStep c n 2 x.offset
  else
    let u := d.uncertainty n
    u.2.tbuLock c n x.offset x.refTick u.1

/-- The selected source gives its offset within JUMP_THR (R91, R92, R95); a second without a measurement steers nothing. -/
def Dev.disciplineFrom (d : Dev) (c : Cfg) (n : Nat) : Dev :=
  let x := d.source n
  if !x.fresh then d
  else
    let d := d.putI TBU.OFFSET (satS 32 x.offset)
    let u := d.uncertainty n
    (u.2.putN TBU.EST_ERR (satU 32 u.1)).steer c x.offset x.refTick

/-- The TBU is locked or slewing to one of its own sources. -/
def onSource (d : Dev) : Bool := (tbuState d = 1 || tbuState d = 2) && decide (1 ≤ tbuSrc d ∧ tbuSrc d ≤ 4)

/-- The source to follow in this second (R90, R93, R94, R97): by priority each qualified one is taken, or goes on, when its offset lies within
JUMP_THR, and is refused when it does not; with none left the TBU enters HOLDOVER. `fuel`: one try for each source. -/
def Dev.chooseSource (d : Dev) (c : Cfg) (fuel : Nat) : Dev :=
  match fuel with
  | 0 => d
  | k + 1 =>
    match bestSource d with
    | none => d.holdover c
    | some n =>
      let x := d.source n
      let going := onSource d && n = tbuSrc d
      if withinThr c x.offset || (going && !x.fresh) || (!going && firstTaking d) then
        (if going then d.disciplineFrom c n else d.takeSource c n)
      else (d.refuse n x.offset).chooseSource c k

/-- A measurement of the refused source (R98, R99): CONSISTENT, and the automatic acceptance of the 8th. -/
def Dev.refusedMeasure (d : Dev) (c : Cfg) (was : Int) : Dev :=
  if !d.b TBU.STATE 8 then d
  else
    let n := refusedSrc d
    let x := d.source n
    if !x.qualified then d.clearRefusal
    else if !x.fresh then d
    else
      let k := if withinThr c (x.offset - was) then min 8 (d.f TBU.STATE 12 4 + 1) else 1
      let d := d.putF TBU.STATE 12 4 k
      if k = 8 && c.b TBU.SRC_CFG 16 && !stepPending d then d.acceptStep c n 1 x.offset else d

/-- Time comes from the partner (R332). -/
def partnerTimed (d : Dev) : Bool :=
  (d.mode = 4 || d.mode = 5) && d.f PRC.STAT 0 2 = 2 && d.b PRC.STAT 3 && !noCrownHb d && d.prc.partnerTime.isSome

/-- A second on partner time (R332): the first alignment and any offset beyond JUMP_THR are steps, without refusal. -/
def Dev.partnerSecond (d : Dev) (c : Cfg) : Dev :=
  match d.prc.partnerTime with
  | none => d
  | some (theta, _) =>
    if !d.prc.partnerFresh then d.clearRefusal else
    let d := { d with prc := { d.prc with partnerFresh := false } }
    let d := (d.clearRefusal).putI TBU.OFFSET (satS 32 theta)
    let delta := stepTicks theta
    if delta != 0 && (tbuSrc d != 6 || !withinThr c theta) then d.armStep c 6 3 delta (theta - 5 * delta) (stepInstant d delta 3)
    else
      let u := d.uncertainty 6
      u.2.tbuLock c 6 theta d.tick u.1

/-- Partner time ends (R332, R333): the module's own source, as a return, or HOLDOVER on the pair rate. -/
def Dev.partnerTimeLost (d : Dev) (c : Cfg) : Dev :=
  if tbuSrc d != 6 || partnerTimed d then d else { d with prc := { d.prc with partnerTime := none } }.chooseSource c 5

/-- The measurement that the selected source shows is displayed while a step is pending, and steers nothing (R91, R101). -/
def Dev.showOffset (d : Dev) : Dev :=
  if onSource d && (d.source (tbuSrc d)).fresh then d.putI TBU.OFFSET (satS 32 (d.source (tbuSrc d)).offset) else d

/-- SOURCE_EVALUATION (R91): qualification, holdover, refusal and discipline of one second. -/
def execSourceEvaluation (_ _ _ _ : Unit) (s : State) : Out :=
  onDev s fun c d =>
    let d := d.clockTests c
    let was := (d.source (refusedSrc d)).offset
    let d := d.qualify c 1 6 2 (gnssShows d)
    let d := ((d.qualify c 2 6 1 (ptpShows c d)).qualify c 3 5 1 (ppsShows c d)).qualify c 4 6 1 (canShows c d)
    let n := c.f TBU.SRC_CFG 4 2
    let d := (d.putPort n { d.port n with syncs := [] }).holdSecond c
    let d :=
      if stepPending d then d.showOffset
      else if partnerTimed d then d.partnerSecond c
      else
        let d := (d.partnerTimeLost c).refusedMeasure c was
        if stepPending d then d
        else if onSource d || (bestSource d).isSome then d.chooseSource c 5
        else d
    d.putSource 3 { d.source 3 with fresh := false }

/-- SLEW_COMPLETE (R92): the correction left reaches 0. -/
def execSlewComplete (s : State) : Out :=
  onDev s fun c d =>
    if d.tbu.left = 0 then d
    else
      let per := 5 * max 1 (c.f TBU.SLEW 0 7)
      (d.advanceTo (d.tbu.leftTick + (d.tbu.left.natAbs + per - 1) / per)).slewEnd c

/-! ### Commands -/

/-- A JUMP_ACCEPT write (R99 to R101). -/
def Dev.jumpCommand (d : Dev) (c : Cfg) (value : Word) : Bool × Dev :=
  let n := refusedSrc d
  let acc := bit value 0
  if fld value 16 16 != 0x7A11 || acc = bit value 1 || !d.b TBU.STATE 8 || stepPending d then (false, d)
  else if acc then (true, d.acceptStep c n 0 (d.source n).offset)
  else
    let d := (d.putSource n { d.source n with excluded := true }).clearRefusal.event 0x0406
    (true, if onSource d then d else match bestSource d with | none => d | some _ => d.chooseSource c 5)

/-- JUMP_ACCEPT (R99). -/
def execJumpAccept (value : Word) (s : State) : Out := onControl s TBU.JUMP_ACCEPT value 0 255 fun c d => d.jumpCommand c value

/-- JUMP_DECLINE (R100). -/
def execJumpDecline (value : Word) (s : State) : Out := onControl s TBU.JUMP_ACCEPT value 0 255 fun c d => d.jumpCommand c value

/-- GM_CHANGE (R103): the client port has selected another grandmaster. Offsets to the former one are no longer used, nor is a refusal of
one. -/
def execGmChange (gm : BitVec 64) (s : State) : Out :=
  onDev s fun c d =>
    if d.tbu.gm = gm.toNat then d
    else
      let n := c.f TBU.SRC_CFG 4 2
      let d := if d.b TBU.STATE 8 && refusedSrc d = 2 then d.clearRefusal else d
      let d := (d.putPort n { d.port n with syncs := [] }).putSource 2 { d.source 2 with fresh := false, refused := false }
      ({ d with tbu := { d.tbu with gm := gm.toNat, firstOffset := tbuSrc d = 2 || d.tbu.firstOffset } } : Dev).event 0x0409

/-- The live and shadow value of UTC_OFS take `v` (R105). -/
def Cfg.putUtc (c : Cfg) (v : Word) : Cfg :=
  { c with live := Assoc.set 0 c.live TBU.UTC_OFS v, shadow := Assoc.set 0 c.shadow TBU.UTC_OFS v }

/-- The selected source carries the UTC offset (R105): the flags and a first offset at once, another offset at the end of the flagged
day. -/
def State.sourceUtc (s : State) (utc : Int) (valid l61 l59 : Bool) : State :=
  let v := wd (unsigned 16 utc + valid.toNat * 2 ^ 16 + l61.toNat * 2 ^ 17 + l59.toNat * 2 ^ 18)
  let was := s.cfg.w TBU.UTC_OFS
  let waits := bit was 16 && fld was 0 16 != fld v 0 16 && fld was 17 2 != 0
  if waits then { s with dev := { s.dev with tbu := { s.dev.tbu with utcNext := some v } } }
  else { s with cfg := s.cfg.putUtc v }

/-- The tick at which the UTC day under way ends (R105): with LEAP61 one second later, with LEAP59 one earlier. -/
def utcDayEnd (w : Word) (tick : Nat) : Nat :=
  let ofs := sfld w 0 16
  let utc : Int := (tick / ticksPerSec : Nat) - ofs
  let leap : Int := if bit w 17 then 1 else if bit w 18 then -1 else 0
  ((((utc / 86400 + 1) * 86400 + ofs + leap) * ticksPerSec : Int)).toNat

/-- LEAP (R105): the end of the flagged day; the leap second, or the offset announced for it, is in UTC_OFS. -/
def execLeap (s : State) : Out :=
  let w := s.cfg.w TBU.UTC_OFS
  let step : Int := if bit w 17 then 1 else if bit w 18 then -1 else 0
  if step = 0 then .next s
  else
    let v := match s.dev.tbu.utcNext with
      | some v => v
      | none => setFld (setFld w 0 16 (unsigned 16 (sfld w 0 16 + step))) 17 2 0
    let d := (s.dev.advanceTo (utcDayEnd w s.dev.tick)).event 0x040D
    .next { s with cfg := s.cfg.putUtc v, dev := { d with tbu := { d.tbu with utcNext := none } } }

/-- PTP_MESSAGE_RECEIVE (R419 to R421): the selected source's Announce writes the UTC offset (R105). -/
def execPtpMessageReceive (port : Fin 4) (msg : PtpMessage) (s : State) : Out :=
  let d := s.dev.ptpReceive s.cfg port.val msg
  match msg with
  | .announce _ _ _ _ _ _ _ utc valid l61 l59 =>
    if tbuSrc d = 2 && s.cfg.f TBU.SRC_CFG 4 2 = port.val && d.f (ETH.STAT port.val) 4 4 = 9 then
      .next (({ s with dev := d.tbuClass s.cfg } : State).sourceUtc utc valid l61 l59)
    else .next { s with dev := d }
  | _ => .next { s with dev := d }

/-- A frame reaches controller `n`: a follow-up of the selected source carries the UTC offset (R105, Table 16.4). -/
def State.canHear (s : State) (n : Nat) (frame : CanFrame) (own : Bool) : State :=
  let before := (s.dev.canOf n).refLast
  let s := { s with dev := s.dev.canReceive s.cfg n frame own }
  if tbuSrc s.dev = 4 && s.cfg.f TBU.SRC_CFG 8 3 = n && (s.dev.canOf n).refLast != before then
    let b := frame.data
    s.sourceUtc (signed 16 (leAt b 12 2)) (bit (wd (leAt b 14 1)) 0) (bit (wd (leAt b 14 1)) 1) (bit (wd (leAt b 14 1)) 2)
  else s

/-- CAN_RX_FRAME (R392 to R396). -/
def execCanRxFrame (ctrl : Fin 6) (frame : CanFrame) (s : State) : Out := .next (s.canHear ctrl.val frame false)

/-- CAN_TX_COMPLETE (R390, R396, R397): in loopback the controller receives its own frame (Table 16.1). -/
def execCanTxComplete (ctrl : Fin 6) (s : State) : Out :=
  let n := ctrl.val
  let t := { s with dev := s.dev.canSent s.cfg n }
  match busFrame s.cfg s.dev n with
  | none => .next t
  | some f => .next (if s.cfg.b (CAN.CFG n) 4 then t.canHear n f true else t)

/-- TICK_LO_READ (R84): reading latches TICK_HI and FRAC. -/
def execTickLoRead (s : State) : Out :=
  onRead s fun _ d => (wd d.tick, (d.putN TBU.TICK_HI (d.tick / 2 ^ 32)).putN TBU.FRAC (d.acc / 5))

/-- The PLL leaves a lost REF_IN (R89). -/
def Dev.refInLost (d : Dev) (c : Cfg) : Dev :=
  if c.f TBU.SRC_CFG 12 2 = 0 || !d.b TBU.STATE 10 then d
  else ({ d with tbu := { d.tbu with refLost := true } }.putB TBU.STATE 10 false).event 0x0407

/-- REF_IN_LOST (R89). -/
def execRefInLost (s : State) : Out := onDev s fun c d => d.refInLost c

/-- REF_IN_RESTORED (R89): 10 s of good signal; the first use records nothing. -/
def execRefInRestored (s : State) : Out :=
  onDev s fun c d =>
    if c.f TBU.SRC_CFG 12 2 = 0 || d.b TBU.STATE 10 then d
    else
      let lost := d.tbu.refLost
      let d := { d with tbu := { d.tbu with refLost := false } }.putB TBU.STATE 10 true
      if lost then d.event 0x0408 else d

/-- A commit of TBU (R89, R92, R106, R108): a new REF_SEL has to earn REF_IN_OK; the slew goes on at the new PPM; an output whose MODE changes
rests. -/
def Dev.tbuCommitted (d : Dev) (old c : Cfg) : Dev :=
  let d := { d with tbu := { d.tbu with left := leftNow old d, leftTick := d.tick } }.showRate c
  let d := [0, 1].foldl (fun (d : Dev) o =>
    if old.f (TBU.PPS_CFG o) 0 2 = c.f (TBU.PPS_CFG o) 0 2 then (if squelched c d o then d.ppsLevel o false else d)
    else ({ d with tbu := { d.tbu with cmpEnd := Assoc.set 0 d.tbu.cmpEnd o 0, ppsAt := Assoc.set none d.tbu.ppsAt o none } } : Dev).ppsLevel o false) d
  if old.f TBU.SRC_CFG 12 2 = c.f TBU.SRC_CFG 12 2 then d
  else { d with tbu := { d.tbu with refLost := false } }.putB TBU.STATE 10 false

/-! ### Pulses (R106 to R108) -/

/-- The module's time at the next whole second. -/
def nextSecond (d : Dev) : Nat := (d.tick + ticksPerSec - 1) / ticksPerSec * ticksPerSec

/-- The instant of the next pulse of an output: the whole second after its last one. -/
def nextPulse (d : Dev) (out : Nat) : Nat :=
  match Assoc.get none d.tbu.ppsAt out with
  | none => nextSecond d
  | some t => max (nextSecond d) ((t / ticksPerSec + 1) * ticksPerSec)

/-- The interval that a step altered, in ticks (R107). -/
def alteredInterval (d : Dev) : Int :=
  let frac := d.tbu.stepDelta.natAbs % ticksPerSec
  if 0 < d.tbu.stepDelta then 2 * ticksPerSec - frac else ticksPerSec + frac

/-- PPS_PULSE (R106, R107). -/
def execPpsPulse (out : Fin 2) (s : State) : Out :=
  onDev s fun c d =>
    let o := out.val
    if c.f (TBU.PPS_CFG o) 0 2 != 1 then d
    else
      let t := nextPulse d o
      let d := d.advanceTo t
      let d := { d with tbu := { d.tbu with ppsAt := Assoc.set none d.tbu.ppsAt o (some t) } }
      let before := stepPending d && decide (d.tbu.stepDelta < 0) && d.tbu.stepDelta % ticksPerSec != 0
        && decide (t < d.tbu.stepAt ∧ d.tbu.stepAt < t + ticksPerSec)
      if before || d.tbu.ppsOmit = some (t / ticksPerSec) then d
      else if squelched c d o then { d with tbu := { d.tbu with ppsAltered := d.tbu.ppsAltered &&& (3 - 2 ^ o) } }
      else
        let d := if d.tbu.ppsAltered.testBit o then
            ({ d with tbu := { d.tbu with ppsAltered := d.tbu.ppsAltered - 2 ^ o } } : Dev).event 0x040A [o, alteredInterval d]
          else d
        d.ppsLevel o true

/-- PPS_PULSE_END (R106): WIDTH ms after the pulse. -/
def execPpsPulseEnd (out : Fin 2) (s : State) : Out :=
  onDev s fun c d =>
    if c.f (TBU.PPS_CFG out.val) 0 2 != 1 || !Assoc.get false d.tbu.ppsActive out.val then d
    else
      let start := (Assoc.get none d.tbu.ppsAt out.val).getD 0
      (d.advanceTo (start + c.f (TBU.PPS_CFG out.val) 8 8 * ticksPerMs)).ppsLevel out.val false

/-- PPS_IN_EDGE (R86, R90): the stamp of an edge of the polarity POL names. -/
def execPpsInEdge (edge : PpsEdge) (s : State) : Out :=
  onDev s fun c d =>
    if c.b TBU.PPSIN_CFG 0 && edge.rising != c.b TBU.PPSIN_CFG 1 then { d with tbu := { d.tbu with ppsIn := some (d.tick, edge.sub.val) } } else d

/-- The UTC second that a ZDA sentence names (R90): `$--ZDA,hhmmss.ss,dd,mm,yyyy`; days of the proleptic Gregorian calendar. -/
def zdaSecond (l : List Byte) : Option Nat :=
  let digits (i n : Nat) : Option Nat := ((l.drop i).take n).foldl (fun a b => match a with
    | none => none
    | some v => if 48 ≤ b.toNat ∧ b.toNat ≤ 57 then some (v * 10 + (b.toNat - 48)) else none) (some 0)
  let frac := ((l.drop 13).takeWhile (· != 0x2C)).length
  let k := 13 + frac + 1
  if l.take 1 != [0x24] || (l.drop 3).take 4 != [0x5A, 0x44, 0x41, 0x2C] then none
  else match digits 7 2, digits 9 2, digits 11 2, digits k 2, digits (k + 3) 2, digits (k + 6) 4 with
    | some h, some m, some sec, some day, some mon, some year =>
      if mon < 1 || 12 < mon || day < 1 || year < 1970 then none
      else
        let y := if mon ≤ 2 then year - 1 else year
        let mp := (mon + 9) % 12
        let days := 365 * y + y / 4 - y / 100 + y / 400 + (153 * mp + 2) / 5 + day - 1
        some ((days - 719468) * 86400 + h * 3600 + m * 60 + sec)
    | _, _, _, _, _, _ => none

/-- A ZDA sentence that ends 10 to 900 ms after an edge labels it (R90): consistent with the label before, it counts towards qualification
and gives an offset: the second, in TAI by UTC_OFS, less the edge's stamp. -/
def Dev.zdaLabel (d : Dev) (c : Cfg) (second : Nat) : Dev :=
  match d.tbu.ppsIn with
  | none => d
  | some (t, sub) =>
    if d.tick < t + 10 * ticksPerMs || t + 900 * ticksPerMs < d.tick then d
    else
      let tai := ((second : Int) + c.s TBU.UTC_OFS 0 16).toNat
      let x := d.source 3
      let fits := match d.tbu.ppsLabel with
        | none => true
        | some (t0, s0, _) => decide ((tai : Int) - s0 = (2 * ((t : Int) - t0) + ticksPerSec) / (2 * ticksPerSec))
      let ofs : Int := (8 * ((tai : Int) * ticksPerSec - t) - sub) * 5 / 8
      let good := if fits then min 5 (x.good + 1) else 1
      let x := { x with
        good := good, qualified := x.qualified || (decide (5 ≤ good) && c.b TBU.SRC_CFG 2), offset := ofs, refTick := t, fresh := fits }
      let d := d.putSource 3 x
      { d with tbu := { d.tbu with ppsLabel := some (t, tai, if fits then d.tick else (d.tbu.ppsLabel.map (·.2.2)).getD d.tick) } }

/-! ### Compare units (R109 to R112) -/

/-- CMP_ARM (R111): a refused write leaves the unit disarmed. -/
def execCmpArm (unit : Fin 16) (value : Word) (s : State) : Out :=
  onWrite s fun c d =>
    let u := unit.val
    let out := fld value 2 2
    let refused := bit value 0 && ((bit value 1 && decide ((d.w (TBU.CMP_PER u)).toNat < 1000)) || out = 3
      || (out != 0 && fld value 16 16 = 0) || ((out = 1 || out = 2) && c.f (TBU.PPS_CFG (out - 1)) 0 2 != 2))
    if refused then (d.putB (TBU.CMP_CTRL u) 0 false).event 0x040B [(u : Int)]
    else
      let v := (value.toNat % 64) + fld value 16 16 * 2 ^ 16
      let late := bit value 0 && decide (0 < cmpDistance d u)
      let d := { d with tbu := { d.tbu with
        cmpLate := if d.tbu.cmpLate.testBit u = late then d.tbu.cmpLate else d.tbu.cmpLate ^^^ 2 ^ u } }
      d.putN (TBU.CMP_CTRL u) v

/-- COMPARE_FIRE (R109): the unit's target is reached. -/
def execCompareFire (unit : Fin 16) (s : State) : Out :=
  onDev s fun c d =>
    let u := unit.val
    if !d.b (TBU.CMP_CTRL u) 0 then d
    else
      let dist := cmpDistance d u
      let d := if dist < 0 then d.advanceTo (d.tick + dist.natAbs) else d
      d.cmpFire c u (max 0 dist).toNat

/-- CMP_PULSE_END (R109): the latest pulse ordered on the output ends (R108). -/
def execCmpPulseEnd (out : Fin 2) (s : State) : Out :=
  onDev s fun c d =>
    let t := Assoc.get 0 d.tbu.cmpEnd out.val
    if c.f (TBU.PPS_CFG out.val) 0 2 != 2 || t = 0 then d
    else
      let d := d.advanceTo t
      { d with tbu := { d.tbu with cmpEnd := Assoc.set 0 d.tbu.cmpEnd out.val 0 } }.ppsLevel out.val false

/-! ### Departing PTP frames (R87, R113) -/

/-- One's complement sum of two 16-bit words. -/
def onesAdd (a b : Nat) : Nat := (a + b) % 65536 + (a + b) / 65536

/-- The 16-bit words of a field of `n` words. -/
def words16 (n v : Nat) : List Nat := (List.range n).map (fun i => v / 2 ^ (16 * (n - 1 - i)) % 65536)

/-- A UDP checksum updated for words that changed (R113). -/
def udpFix (hc : BitVec 16) (old new : List Nat) : BitVec 16 :=
  let s := (old.map (fun w => 65535 - w) ++ new).foldl onesAdd (65535 - hc.toNat)
  BitVec.ofNat 16 (65535 - s)

/-- The fields of an event frame after its rewrite at the stamp (R87, R113); `req` is the ingress stamp of the Pdelay_Req answered. -/
def ptpRewrite (tick egLat : Nat) (req : Option (Nat × Nat)) (f : PtpEgress) : PtpEgress :=
  let corr (x : Int) : BitVec 64 := BitVec.ofNat 64 (unsigned 64 (signed 64 f.correction.toNat + x))
  match f.kind with
  | .pdelayReq => f
  | .sync =>
    let ns := tick * 5 + 5 * f.sub.val / 8 + egLat
    { f with originSec := BitVec.ofNat 48 (ns / 10 ^ 9), originNs := BitVec.ofNat 32 (ns % 10 ^ 9)
             correction := corr (5 * f.sub.val % 8 * 8192 : Nat) }
  | .pdelayResp =>
    match req with
    | none => f
    | some (t, sub) => { f with correction := corr (((tick : Int) - t) * 5 * 65536 + ((f.sub.val : Int) - sub) * 40960) }

/-- The carrier's checksum follows the fields (R113): an IPv4 checksum of 0 stays 0. -/
def ptpChecksum (old new : PtpEgress) : PtpEgress :=
  let w (f : PtpEgress) : List Nat := words16 4 f.correction.toNat ++ words16 3 f.originSec.toNat ++ words16 2 f.originNs.toNat
  match old.carrier with
  | .layer2 => new
  | .udp4 hc => if hc = 0 then new else { new with carrier := .udp4 (udpFix hc (w old) (w new)) }
  | .udp6 hc => { new with carrier := .udp6 (udpFix hc (w old) (w new)) }

/-- The bytes of a frame from its cut form. -/
def ptpBytes (f : PtpEgress) : List Byte :=
  let sum := match f.carrier with | .layer2 => [] | .udp4 h => beBytes 2 h.toNat | .udp6 h => beBytes 2 h.toNat
  f.head ++ sum ++ f.gap ++ beBytes 8 f.correction.toNat ++ f.mid ++ beBytes 6 f.originSec.toNat ++ beBytes 4 f.originNs.toNat ++ f.tail

/-- One bit of the Ethernet CRC-32, reflected. -/
def fcsStep (r : Nat) : Nat := if r % 2 = 1 then (r / 2) ^^^ 0xEDB88320 else r / 2

/-- The frame check sequence of IEEE 802.3 (R113). -/
def frameCheck (l : List Byte) : BitVec 32 :=
  BitVec.ofNat 32 (l.foldl (fun r b => (List.range 8).foldl (fun r _ => fcsStep r) (r ^^^ b.toNat)) 0xFFFFFFFF ^^^ 0xFFFFFFFF)

/-- PTP_EVENT_EGRESS (R113): stamped, rewritten, its checksum and frame check sequence made good. -/
def execPtpEventEgress (port : Fin 4) (frame : PtpEgress) (s : State) : Out :=
  onDev s fun c d =>
    let n := port.val
    let p := d.port n
    let f := ptpChecksum frame (ptpRewrite d.tick (c.f (ETH.LAT n) 0 16) p.pdelayIn frame)
    let out := if frame.kind = .pdelayReq then some (d.tick, frame.sub.val) else p.pdelayOut
    d.putPort n { p with egress := some (f, frameCheck (ptpBytes f)), pdelayOut := out }

end Sys2Proof.Machine
end

