-- ==== Sys2Proof/Machine/Commit.lean ====
section
/-! DEFINITION. Commits (22_registers.md R503 to R516): the check of a page or a group, its application with what the block chapters
attach to it, the report of a refusal, the journal of an applied commit, and the contents a standby applies from the journal. -/
namespace Sys2Proof.Machine

/-! ### Pages of a register map -/

/-- The entries of a map that lie in one of the pages: on a window page, of every element (R503). -/
def onPages (ps : List Nat) (m : RegMap) : RegMap := m.filter (fun e => ps.contains (keyPage e.1))
def offPages (ps : List Nat) (m : RegMap) : RegMap := m.filter (fun e => !ps.contains (keyPage e.1))

/-- Entries put into a map one by one. -/
def putAll (es : List (Nat × Word)) (m : RegMap) : RegMap := es.foldl (fun l e => Assoc.set (regReset e.1) l e.1 e.2) m

/-- The pages of `dst` take the values of `src`. -/
def mergePages (ps : List Nat) (src dst : RegMap) : RegMap := putAll (onPages ps src) (offPages ps dst)

/-- The page of SYS, ESC and STU. -/
def pageSYS : Nat := 0x40000000
def pageESC : Nat := 0x40002000
def pageSTU : Nat := 0x40007000

/-! ### Checks (R507, R509, R512) -/

/-- Why a page is refused: CODE 2 with its rule, or CODE 3 (R508, R509). `page` is the page whose table holds the rule. -/
structure CommitFail where
  code : Nat
  rule : Nat
  page : Nat
  deriving DecidableEq, Repr

/-- RULE, RULE_PAGE and RULE_BLOCK of Tables 22.3 and 22.8; 0 with any code but 2. -/
def CommitFail.fields (f : CommitFail) : Nat :=
  if f.code != 2 then 0
  else match pageAt f.page with
    | none => f.rule * 2 ^ 8
    | some p => f.rule * 2 ^ 8 + p.index * 2 ^ 16 + p.block * 2 ^ 24

/-- The check of one page when `ps` are applied together: its lock, R323 in Standby, the rules under `mode` (R507, R509, R512). A
commit of STU is never refused. -/
def State.pageFail (s : State) (ps : List Nat) (mode page : Nat) : Option CommitFail :=
  if page = pageSTU then none
  else if bit (s.cfg.h (hdrSTAT page)) 3 || (s.dev.mode = 4 && pageJournaled page) then some ⟨3, 0, page⟩
  else match firstRule ⟨ps, s.cfg, s.store, s.dev, mode⟩ page with
    | none => none
    | some r => some ⟨2, r.index, r.page⟩

/-- The live AXIS of a wheel is not 0 (common rule 0xE2). -/
def angleWheel (c : Cfg) (wheel : Nat) : Bool := c.f (ESC.WHL_LIST wheel) 20 3 != 0

/-! ### Application (R503) -/

/-- The header of an applied page (R500, R503); `group`: the result is that of a group commit. -/
def Cfg.headerApplied (c : Cfg) (beat : Nat) (group : Bool) (p : Nat) : Cfg :=
  let seq := c.h (hdrCFG_SEQ p)
  let c := c.putH (hdrCFG_SEQ p) (if seq = 0xFFFFFFFF then 1 else seq + 1)
  let c := c.putH (hdrCOMMIT_BEAT p) (wd beat)
  let c := c.putH (hdrSTAT p) (c.h (hdrSTAT p) &&& 8)
  let c := c.putH (hdrSHADOW_CTRL p) (setBit (c.h (hdrSHADOW_CTRL p)) 2 false)
  let c := c.putH (hdrCOMMIT_STAT p) (if group then 4 else 0)
  { c with prior := Assoc.erase c.prior p, due := Assoc.erase c.due p }

/-- Image blocks that an applied page puts in force: page, base, bytes (R263, R314, R478, R188; log 9). -/
def imageBlocks : List (List Nat × Nat × Nat) := [
  ([0x40038000, 0x40039000], 0x201C0000, 0x1000), ([0x40040000, 0x40041000], 0x201C6000, 0x2800),
  ([0x40005000], 0x201C9000, 0x2B40), ([0x40022000, 0x40023000], 0x21002000, 0x4C8)]

/-- An image block takes its staged contents: its words are written whole (log 9). -/
def Store.takeImage (st : Store) (staged : List (Nat × Byte)) (base len : Nat) : Store :=
  let inside := fun a => decide (base ≤ a) && decide (a < base + len)
  let outsideWord := fun w => !(decide (base / 32 * 32 ≤ w) && decide (w < base + len))
  { mem := (staged.filter (fun e => inside e.1)).foldl (fun m e => Assoc.set 0 m e.1 e.2) (st.mem.filter (fun e => !inside e.1))
    errs := st.errs.filter (fun p => outsideWord p.1)
    poison := st.poison.filter outsideWord
    counted := st.counted.filter outsideWord }

/-- What an application of SYS does beside: channels of the calibre, the hash of the image, a changed watchdog time restarts its count
(R21, R328, R531). -/
def Dev.sysCommitted (d : Dev) (old c : Cfg) : Dev :=
  let d := d.putF RBB.CH_ALLOC 16 9 (if calibre c = 3 then 384 else 256)
  let d := (d.putF FUS.TRK_ALLOC 16 7 (if calibre c = 3 then 64 else 48)).lawCommitted c
  let hash := sha256 (c.staged.flatMap (fun e => leBytes 8 e.1 ++ [e.2]))
  let d := (d.putN PRC.CFG_HASH_LO (leAt hash 0 4)).putN PRC.CFG_HASH_HI (leAt hash 4 4)
  if c.f SYS.WDT_CFG 0 14 = old.f SYS.WDT_CFG 0 14 then d
  else { d.putF SYS.WDT_STAT 0 14 0 with pwr := { d.pwr with wdtTick := d.tick } }

/-- A commit of the field watchdog page (R438): in Configure and Stood-down it clears EXPIRED, and ARMED follows EN while the module
is crowned. -/
def Dev.wdgCommitted (d : Dev) (c : Cfg) : Dev :=
  let d := if d.mode = 3 || d.mode = 5 then
      { d.putB FIO.WDG_STAT 1 false with field := { d.field with silent := false } }
    else d
  let arm := c.b FIO.WDG_CFG 0 && d.crown
  let d := if arm && !d.b FIO.WDG_STAT 0 then { d with field := { d.field with fedTick := d.tick } } else d
  (d.putB FIO.WDG_STAT 0 arm).driveField c false

/-- A commit of the encoder page (R453): a channel whose EN or TYPE changed starts anew. -/
def Dev.encCommitted (d : Dev) (old c : Cfg) : Dev :=
  (List.range 4).foldl (fun d ch =>
    let a := fld (old.w (ENC.ENC_CFG ch)) 0 2
    let b := fld (c.w (ENC.ENC_CFG ch)) 0 2
    if a = b || !c.b (ENC.ENC_CFG ch) 0 then d
    else
      let d := d.putEnc ch { faultTick := (d.enc ch).faultTick }
      if c.b (ENC.ENC_CFG ch) 1 then d else d.putN (ENC.ENC_POS ch) 0) d

/-- What a block chapter attaches to a commit of its page (R504): `old` the configuration before. -/
def Dev.pageCommitted (d : Dev) (old c : Cfg) (p : Nat) : Dev :=
  if p = 0x40000000 then d.sysCommitted old c
  else if p = 0x40003000 then (d.tbuCommitted old c).ptpStates c
  else if p = 0x40005000 then { d with evr := { d.evr with spent := [], filled := d.tick, returned := [] } }
  else if p = 0x40008000 then
    (({ d with sfm := { d.sfm with committed := true } } : Dev).putN SFM.CFG_CRC (sfmCrc c.w)).sfmDrive c
  else if p = 0x40011000 then d.frontEndCommitted c
  else if p = 0x40013000 then (d.vecRefresh c).agcCommitted
  else if p = 0x40020000 || p = 0x40021000 then d.tracksCommitted old c
  else if p = 0x40022000 then d.wavesCommitted old c
  else if p = 0x40031000 then d.slotsCommitted c
  else if p = 0x40038000 || p = 0x40039000 then (d.lawCommitted c).casesCommitted c
  else if p = 0x40040000 || p = 0x40041000 then d.loopSync c
  else if 0x40050000 ≤ p ∧ p < 0x40056000 then d.canCommitted c ((p - 0x40050000) / 0x1000)
  else if 0x40060000 ≤ p ∧ p ≤ 0x40064000 then d.ptpStates c
  else if p = 0x40068000 then d.nymCommitted c
  else if p = 0x40070000 then d.driveField c false
  else if p = 0x40073000 then d.wdgCommitted c
  else if p = 0x40074000 then d.driveAouts c
  else if p = 0x40075000 then d.encCommitted old c
  else d

/-! ### Refusals (R505, R508, R512) -/

/-- A page commit is refused: COMMIT_STAT, COMMIT_REFUSED, event 0x0101. -/
def State.refusePage (s : State) (p : Nat) (f : CommitFail) : State :=
  { s with
    cfg := s.cfg.putH (hdrCOMMIT_STAT p) (wd (f.code + f.fields))
    dev := (s.dev.irq p 25).event 0x0101 [(p - 0x40000000) / 4096, f.code, f.rule] }

/-- The pending commit of a page is gone. -/
def Cfg.dropPending (c : Cfg) (p : Nat) : Cfg :=
  let c := c.putH (hdrSTAT p) (setBit (c.h (hdrSTAT p)) 2 false)
  { c with prior := Assoc.erase c.prior p, due := Assoc.erase c.due p }

/-- GLOBAL_STAT reports a refusal of `n` pages; event 0x0102. -/
def State.refuseGroup (s : State) (n : Nat) (f : CommitFail) : State :=
  { s with
    cfg := s.cfg.putH SYS.GLOBAL_STAT (wd (f.code + n * 4 + f.fields))
    dev := s.dev.event 0x0102 [f.code, f.rule, (f.page - 0x40000000) / 4096] }

/-- Pending commits with AT 2 whose WHEEL an application of ESC has moved to an angle axis are refused (R505). -/
def State.recheckWheels (s : State) : State :=
  let s := (s.cfg.due.filter (fun e => fld e.2 0 8 = 2 && angleWheel s.cfg (fld e.2 8 5))).foldl (fun (s : State) e =>
    ({ s with cfg := s.cfg.dropPending e.1 } : State).refusePage e.1 ⟨2, 0xE2, e.1⟩) s
  match s.cfg.group with
  | none => s
  | some g =>
    if g.at_ = 2 && angleWheel s.cfg g.wheel then
      ({ s with cfg := { s.cfg with group := none } } : State).refuseGroup 0 ⟨2, 0xE2, pageSYS⟩
    else s

/-- The pages are applied at one instant from their shadows, unchecked (R503, R512). -/
def State.applyPages (s : State) (group : Bool) (ps : List Nat) : State :=
  let old := s.cfg
  let c := ps.foldl (fun (c : Cfg) p => c.headerApplied s.dev.esc.beat group p) { old with live := mergePages ps old.shadow old.live }
  let c := { c with imageOk := c.imageOk || ps.contains pageSYS }
  let st := imageBlocks.foldl (fun (st : Store) b => if b.1.any ps.contains then st.takeImage c.staged b.2.1 b.2.2 else st) s.store
  let d := ps.foldl (fun (d : Dev) p => d.irq p 24) s.dev
  let d := ps.foldl (fun (d : Dev) p => d.pageCommitted old c p) d
  let d := { d with prc := { d.prc with askBlocked := false } }
  let s := { s with cfg := c, store := st, dev := d }
  if ps.contains pageESC then s.recheckWheels else s

/-! ### The journal of a commit (R323, R516) -/

/-- The shadow contents an applied commit journals: for each journaled page a marker at its SHADOW_CTRL, then its registers. -/
def commitContents (c : Cfg) (ps : List Nat) : List (Nat × Word) :=
  (ps.filter pageJournaled).flatMap (fun p => (hdrSHADOW_CTRL p, 0) :: onPages [p] c.live)

/-- An applied commit of journaled pages is journaled by an active module with the write that asked for it. -/
def State.journalCommit (s : State) (addr value : Nat) (ps : List Nat) : State :=
  if (ps.filter pageJournaled).isEmpty then s
  else { s with dev := s.dev.journal s.cfg (.control (wd addr) (wd value) 0 255 (commitContents s.cfg ps)) }

/-- Pages named by journaled contents. -/
def contentPages (es : List (Nat × Word)) : List Nat := (es.filter (fun e => keyOff e.1 = 0x20)).map (fun e => keyPage e.1)

/-- A standby applies journaled contents: no check, no lock (R510, R516). -/
def State.applyContents (s : State) (addr : Nat) (es : List (Nat × Word)) : State :=
  let ps := contentPages es
  let vals := es.filter (fun e => keyOff e.1 != 0x20)
  let s := { s with cfg := { s.cfg with shadow := mergePages ps vals s.cfg.shadow } }
  let s := s.applyPages (addr = SYS.GLOBAL_COMMIT) ps
  if addr = SYS.GLOBAL_COMMIT then { s with cfg := s.cfg.putH SYS.GLOBAL_STAT (wd (ps.length * 4)) } else s

/-! ### Page and group commits at their instant -/

/-- A page commit at the instant of its application (R507 to R509). -/
def State.commitPage (s : State) (p : Nat) : State :=
  match s.pageFail [p] s.dev.mode p with
  | some f => ({ s with cfg := s.cfg.dropPending p } : State).refusePage p f
  | none =>
    let value := 1 + (s.cfg.h (hdrSHADOW_CTRL p)).toNat
    (s.applyPages false [p]).journalCommit (hdrSHADOW_CTRL p) value [p]

/-- The pages of a group: every page MARKED; on a standby those that are not journaled (R511, R513). -/
def State.groupPages (s : State) : List Nat :=
  (pages.map (·.base)).filter (fun p => bit (s.cfg.h (hdrSTAT p)) 1 && !(s.dev.mode = 4 && pageJournaled p))

/-- The report of one page of a refused group (R512): its own failure, or the group's with BY_GROUP. -/
def State.reportGroup (s : State) (ps : List Nat) (mode : Nat) (first : CommitFail) (p : Nat) : Word :=
  match s.pageFail ps mode p with
  | some f => wd (f.code + 4 + f.fields)
  | none => wd (first.code + 12 + first.fields)

/-- A group commit at its instant under `mode` (R511, R512); `value` is the write journaled for it. The second component says that it
was not refused. -/
def State.commitGroup (s : State) (mode value : Nat) : State × Bool :=
  let ps := s.groupPages
  match ps.findSome? (s.pageFail ps mode) with
  | none =>
    let s := if ps.isEmpty then s else s.applyPages true ps
    let s := { s with cfg := s.cfg.putH SYS.GLOBAL_STAT (wd (ps.length * 4)) }
    (s.journalCommit SYS.GLOBAL_COMMIT value ps, true)
  | some f =>
    let c := ps.foldl (fun (c : Cfg) p => c.putH (hdrCOMMIT_STAT p) (s.reportGroup ps mode f p)) s.cfg
    let d := ps.foldl (fun (d : Dev) p => d.irq p 25) s.dev
    (({ s with cfg := c, dev := d } : State).refuseGroup ps.length f, false)

/-- Writes of GLOBAL_COMMIT as journaled: GO, AT, WHEEL, KEY (Table 22.8). -/
def globalWord (at_ wheel : Nat) : Nat := 0x6C0A0001 + at_ * 2 ^ 4 + wheel * 2 ^ 8

/-! ### Commits due at an axis 0 beat boundary (R505, R514, R515) -/

/-- A wheel's boundary under the live values (R66, R514): PERIOD above 0 and (n - PHASE) mod PERIOD = 0. -/
def wheelDue (c : Cfg) (wheel n : Nat) : Bool :=
  let period := c.f (ESC.WHL_CFG wheel) 0 16
  period != 0 && (n + period - c.f (ESC.WHL_CFG wheel) 16 16 % period) % period = 0

def atDue (c : Cfg) (at_ wheel n : Nat) : Bool := at_ = 1 || (at_ = 2 && wheelDue c wheel n)

/-- The group commit due at the boundary, then the page commits, in ascending page address (R514 steps 2 and 3). -/
def State.boundaryCommits (s : State) : State :=
  let n := s.dev.esc.beat
  let s := match s.cfg.group with
    | none => s
    | some g =>
      if atDue s.cfg g.at_ g.wheel n then
        (({ s with cfg := { s.cfg with group := none } } : State).commitGroup s.dev.mode (globalWord g.at_ g.wheel)).1
      else s
  (s.cfg.due.map (·.1)).foldl (fun (s : State) p =>
    match s.cfg.due.find? (fun e => e.1 = p) with
    | none => s
    | some e => if atDue s.cfg (fld e.2 0 8) (fld e.2 8 5) n then s.commitPage p else s) s

/-- The mode-edge group commit of R515: mode-dependent rules under mode 3. False: refused. -/
def State.modeEdgeCommit (s : State) : State × Bool :=
  if s.groupPages.isEmpty then (s, true) else s.commitGroup 3 (globalWord 0 0)

/-- ESC registers take effect (R68). -/
def State.takeEsc (s : State) : State := { s with cfg := { s.cfg with esc := onPages [pageESC] s.cfg.live } }

/-! ### Requests (R505, R506, R511) -/

/-- While the module holds the crown and its partner is in Standby, AT 0 is taken as AT 1 (R516). -/
def delayedAt (d : Dev) (at_ : Nat) : Nat := if at_ = 0 && d.crown && partnerStandby d then 1 else at_

/-- Fields of a SHADOW_CTRL write that stay: MARK where the page has GROUP, AT and WHEEL (Table 22.2); MARKED follows MARK. -/
def Cfg.putMark (c : Cfg) (p : Nat) (value : Word) : Cfg :=
  let m := bit value 2 && pageGroup p
  let c := c.putH (hdrSHADOW_CTRL p) (setBit (c.h (hdrSHADOW_CTRL p)) 2 m)
  c.putH (hdrSTAT p) (setBit (c.h (hdrSTAT p)) 1 m)

def Cfg.putTiming (c : Cfg) (p at_ wheel : Nat) : Cfg :=
  c.putH (hdrSHADOW_CTRL p) (setFld (setFld (c.h (hdrSHADOW_CTRL p)) 4 2 at_) 8 5 wheel)

/-- A COMMIT write (R505): refused at once under 0xE1, 0xE2, a lock or R323; applied at once; or pending. A refused request leaves a
pending commit with its AT and WHEEL. -/
def State.requestCommit (s : State) (p : Nat) (value : Word) : State :=
  let at_ := fld value 4 2
  let wheel := fld value 8 5
  let held := (s.cfg.due.find? (fun e => e.1 = p)).isSome
  if s.dev.mode = 4 && pageJournaled p then s.refusePage p ⟨3, 0, p⟩
  else
    let s := { s with cfg := s.cfg.putMark p value }
    let kept := if held then s else { s with cfg := s.cfg.putTiming p at_ wheel }
    if p = pageSTU && at_ = 3 then kept.commitPage p
    else if at_ = 3 then kept.refusePage p ⟨2, 0xE1, p⟩
    else if at_ = 2 && angleWheel s.cfg wheel then kept.refusePage p ⟨2, 0xE2, p⟩
    else if bit (s.cfg.h (hdrSTAT p)) 3 && p != pageSTU then kept.refusePage p ⟨3, 0, p⟩
    else
      let s := { s with cfg := s.cfg.putTiming p at_ wheel }
      let a := delayedAt s.dev at_
      if a = 0 then s.commitPage p
      else
        let c := s.cfg
        let prior := if held then c.prior else Assoc.set 0 c.prior p (c.h (hdrCOMMIT_STAT p))
        let c := { c with prior := prior, due := Assoc.set 0 c.due p (wd (a + 256 * wheel)) }
        let c := (c.putH (hdrCOMMIT_STAT p) 1).putH (hdrSTAT p) (setBit (c.h (hdrSTAT p)) 2 true)
        { s with cfg := c }

/-- A DISCARD write (R506). -/
def State.requestDiscard (s : State) (p : Nat) (value : Word) : State :=
  let c := (s.cfg.putMark p 0).putTiming p (fld value 4 2) (fld value 8 5)
  let held := (c.due.find? (fun e => e.1 = p)).isSome
  let c := if held then c.putH (hdrCOMMIT_STAT p) (Assoc.get 0 c.prior p) else c
  let c := { c with shadow := mergePages [p] c.live c.shadow }
  let c := c.dropPending p
  { s with cfg := c.putH (hdrSTAT p) (setBit (c.h (hdrSTAT p)) 0 false) }

/-- A GLOBAL_COMMIT write with GO and KEY (R505, R511). -/
def State.requestGroup (s : State) (at_ wheel : Nat) : State :=
  if at_ = 3 then s.refuseGroup 0 ⟨2, 0xE1, pageSYS⟩
  else if at_ = 2 && angleWheel s.cfg wheel then s.refuseGroup 0 ⟨2, 0xE2, pageSYS⟩
  else
    let a := delayedAt s.dev at_
    if a = 0 then (({ s with cfg := { s.cfg with group := none } } : State).commitGroup s.dev.mode (globalWord 0 wheel)).1
    else
      let c := { s.cfg with group := some ⟨a, wheel⟩ }
      { s with cfg := c.putH SYS.GLOBAL_STAT 1 }

end Sys2Proof.Machine
end

