-- ==== Sys2Proof/Machine/Pair.lean ====
section
/-! DEFINITION. Pairing, the crown and failover (14_pairing.md R316 to R347): link, heartbeats, journal, digest, joining, seize lines,
takeover and swap; and the field watchdog with the field link's loss (R432, R438), which clear the crown latch. -/
namespace Sys2Proof.Machine

/-! ### Delivery of items (R29, R31, R320) -/

/-- One item reaches its consumers: the sequence check of its source, then the joystick and the fusion engine. -/
def Dev.deliverItem (d : Dev) (c : Cfg) (i : Item) : Dev :=
  let r := (Assoc.get {} d.flow.seqs i.source : SeqState).check i.seq
  let fl := { d.flow with seqs := Assoc.set {} d.flow.seqs i.source r.2 }
  if r.1 then ({ d with flow := { fl with delivered := fl.delivered ++ [(d.tick, i)] } } : Dev).joyItem c i
  else { d with flow := fl }

/-- The items of a beat are delivered in the order of R29. -/
def Dev.deliver (d : Dev) (c : Cfg) (items : List Item) : Dev := (sortItems items).foldl (fun d i => d.deliverItem c i) d

/-- The timeout of a source in ticks (R34): that of its interface, else that of the track that takes it, else 1 s (log 76). -/
def sourceTmo (c : Cfg) (d : Dev) (src : Nat) : Nat :=
  match interfaceTmo c d src with
  | some t => t
  | none =>
    match (enabledTracks c).find? (fun t => trkSource c t = src) with
    | some t => trkTmo c t * ticksPerMs
    | none => ticksPerSec

/-- CLASS2_HOLD_EXPIRY (R34, R35): a class 2 item of the source held back for longer than its timeout is dropped. -/
def execClass2HoldExpiry (source : Fin 65536) (s : State) : Out :=
  onDev s fun c d =>
    match d.flow.held.find? (fun p => p.2.source = source.val && p.2.cls = 2) with
    | none => d
    | some p =>
      let d := { d with flow := { d.flow with held := d.flow.held.erase p } }
      (d.advanceTo (p.1 + sourceTmo c d source.val + 1)).classDrop 2 1

/-! ### STAT and the conditions on the partner (R318, R319, R342) -/

def pairSync (d : Dev) : Nat := d.f PRC.STAT 8 3
def Dev.putSync (d : Dev) (v : Nat) : Dev := d.putF PRC.STAT 8 3 v
def pairCrownIn (d : Dev) : Bool := d.b PRC.STAT 5
def partnerCrowned (d : Dev) : Bool := d.b PRC.STAT 2 && d.b PRC.STAT 3

/-- The module leaves modes 6 to 10 for want of the crown (R38). -/
def Dev.crownLost (d : Dev) : Dev := if decide (6 ≤ d.mode ∧ d.mode ≤ 10) then d.want 5 5 else d

/-- A takeover trigger stands (R342): three misses, FAIL in a crown heartbeat, CROWN_IN low for a whole beat after one. -/
def triggerStands (d : Dev) : Bool :=
  d.f PRC.STAT 12 2 = 3 || decide (2 ≤ d.prc.crownLowBeats) ||
    (match d.prc.lastHb with | none => false | some h => h.1.crowned && h.1.fail)

/-- The standby pulses SEIZE_OUT (R343); a module that holds the crown never does (R337). -/
def Dev.seize (d : Dev) : Dev :=
  if d.mode != 4 || d.crown || d.b PRC.STAT 6 then d
  else
    let d := { d with prc := { d.prc with seizeOut := 1, trigger := true, seizeBeat := d.esc.beat, seizeTick := d.tick } }
    ((d.putB PRC.STAT 6 true).sat PRC.SEIZE_CNT 0 16 1).event 0x0A04

/-- A first seize on a trigger: later ones come by SEIZE_RETRY. -/
def Dev.seizeOnTrigger (d : Dev) : Dev := if d.prc.trigger && decide (d.esc.beat < d.prc.seizeBeat + 10) then d else d.seize

/-- The standby has lost step (R324, R327): Stood-down with cause DIVERGED. -/
def Dev.diverge (d : Dev) : Dev :=
  if d.mode = 4 then ({ d with prc := { d.prc with orphaned := false } }.putSync 5).want 7 5 else d

/-! ### The mirror (R42, R54, R330) -/

/-- The mirror shows a mode of the active and runs its edge. A Lock-out with cause SFM_INTERNAL is not mirrored; one with cause
SFM_PROCESS takes a Standby module to Lock-out (R54). -/
def Dev.mirrorMode (d : Dev) (c : Cfg) (new cause : Nat) : Dev :=
  if new = 11 && cause = 0x0D then d
  else
    let old := d.runMode
    let ramp := old = 6 && new = 3 && cause = 3
    let d := (d.putF SYS.MODE 8 4 new).putB SYS.MODE 12 true
    let d := { d with modes := { d.modes with rampBeat := ramp } }
    let d := if old = new then d else d.edgeBits old new cause
    let d := if old = new || ramp then d else d.lawModeEdge c old new cause
    let d := d.loopSync c
    if new = 11 && cause = 0x0C && d.mode = 4 then d.want 0x0F 11 else d

/-- The mirror stops: jobs of the law are cancelled, loops halt. -/
def Dev.mirrorStop (d : Dev) (c : Cfg) : Dev :=
  let old := d.runMode
  let d := { d.putF SYS.MODE 8 5 0 with modes := { d.modes with rampBeat := false } }
  (d.lawModeEdge c old d.mode 0).loopSync c

/-- A state transfer fails (R328, R330): the reason, and no request for 1 s. -/
def Dev.transferFail (d : Dev) (c : Cfg) (reason : Nat) : Dev :=
  let d := { d with prc := { d.prc with
    askAfter := d.tick + ticksPerSec, image := none, buffer := [], transferTick := none, level := false, swapMatch := none } }
  let d := ((d.putSync 0).putF PRC.TRANSFER 8 8 reason).event 0x0A0C [reason]
  if d.mode = 5 && d.b SYS.MODE 12 then d.mirrorStop c else d

/-- The transfer is abandoned with Stood-down (Table 2.8). -/
def Dev.transferAbandon (d : Dev) : Dev :=
  { d with prc := { d.prc with image := none, buffer := [], transferTick := none, level := false, swapMatch := none } }.putSync 0

/-! ### The digest (R325 to R327) -/

/-- A journal record as numbers, for the check of its block (Table 14.2; log 42). -/
def recordNats (r : JournalRecord) : List Nat :=
  match r with
  | .item i => [0x10, i.tick, i.source, i.seq, i.quality.toNat, i.payload.length] ++ i.payload.map (·.toNat)
  | .loopFb g k vals => [0x11, g.val, k, vals.length] ++ vals.flatMap (fun v => [v.1.val, unsigned 32 v.2])
  | .control a v st el es => [0x12, a.toNat, v.toNat, st.toNat, el.toNat, es.length] ++ es.flatMap (fun e => [e.1, e.2.toNat])
  | .jobEnd s q n code b => [0x13, s.val, q.toNat, n, code, b]
  | .transition m cause => [0x14, m, cause]
  | .time delta t => [0x15, unsigned 64 delta, t]
  | .hack n src => [0x16, n, src]

/-- Memory entries of [a, a + n), as numbers. -/
def memNats (st : Store) (a n : Nat) : List Nat :=
  (st.mem.filter (fun e => decide (a ≤ e.1) && decide (e.1 < a + n))).flatMap (fun e => [e.1, e.2.toNat])

/-- Numbers as bytes, 8 each, the lowest first (log 42). -/
def natBytes (l : List Nat) : List Byte := l.flatMap (leBytes 8)

/-- The SEAL of a block (Table 14.2): beat, epoch, record count, CRC-32C of the records. -/
def sealBytes (epoch : Word) (n : Nat) (rs : List JournalRecord) : List Byte :=
  leBytes 6 n ++ leBytes 4 epoch.toNat ++ leBytes 4 rs.length ++ leBytes 4 (crc32c (natBytes (rs.flatMap recordNats)))

/-- What the seven contributions of beat `n` cover, in the order of Table 14.3, with the records of its block. -/
def contributions (c : Cfg) (st : Store) (d : Dev) (n : Nat) (rs : List JournalRecord) : List (List Nat) :=
  let journaled := (pages.map (·.base)).filter pageJournaled
  let ended (k : Nat) : Bool := rs.any (fun r => match r with | .jobEnd s _ _ _ _ => s.val = k | _ => false)
  [ [d.runMode, d.f SYS.MODE 14 2] ++ journaled.map (fun p => (c.h (hdrCFG_SEQ p)).toNat),
    [d.esc.beat, (d.w ESC.BEAT_SLIP).toNat],
    (match d.fus.frames with | r :: _ => if r.beat = n then memNats st estBase 0x2C0 else [] | [] => [])
      ++ (List.range 64).flatMap (fun t => memNats st (estBase + 0x10000 + 0x2000 * t) 0x600) ++ [(d.w FUS.SPLIT_STAT).toNat],
    (List.range 3).flatMap (fun k => if ended k then memNats st (lawResultAt k) 0x30 ++ memNats st (lawResultAt k + 0x48) 0xFFFB8 else []),
    (match d.law.plan with | some p => if p.beat = n then memNats st planBase 0x4000 else [] | none => [])
      ++ [(d.w LAW.STAT).toNat]
      ++ (if d.law.spBeat = some n then
          (d.law.payloads.filter (fun p => isSetpointSlot c (p.1 / 256) (p.1 % 256))).flatMap (fun p => p.1 :: p.2.map (·.toNat)) else [])
      ++ (List.range 48).map (fun k => (d.w (LAW.CQ_RES k)).toNat),
    (List.range 64).flatMap (fun k => [d.f (LPE.SL_STAT k) 0 3, d.f (LPE.SL_STAT k) 4 3, (d.w (LPE.SL_I k)).toNat, unsigned 32 (d.loop k).d,
        (d.w (LPE.U k)).toNat, (d.w (LPE.SL_RES k)).toNat]),
    [crc32c (sealBytes d.prc.epoch n rs)] ]

/-- D(n): the first 128 bits of SHA-256 of D(n - 1), n and the SHA-256 of each contribution (R325). -/
def digestOf (prev : BitVec 128) (n : Nat) (parts : List (List Nat)) : BitVec 128 :=
  BitVec.ofNat 128 (leNat ((sha256 (leBytes 16 prev.toNat ++ leBytes 8 n ++ parts.flatMap (fun p => sha256 (natBytes p)))).take 16))

/-- The partner's digest is compared with the own one of the same beat, once (R327). A match counts; the joiner is declared in step at
IN_STEP_BEATS matches, the former active of a swap at the first (R330, R347). A mismatch makes a standby diverge, fails a joiner, and
is recorded by the active. -/
def Dev.compareDigest (d : Dev) (c : Cfg) : Dev :=
  match d.prc.lastHb with
  | none => d
  | some h =>
    let n := h.1.digBeat.toNat
    let sync := pairSync d
    let on := d.crown || d.mode = 4 || (d.mode = 5 && sync = 3)
    if !on || n = d.prc.compared then d
    else match d.prc.digests.find? (fun e => e.1 = n) with
      | none => d
      | some e =>
        let d := { d with prc := { d.prc with compared := n } }.putF PRC.DIGEST 16 16 (satU 16 (d.esc.beat - n))
        if e.2 = h.1.digest then
          let d := d.sat PRC.DIGEST 0 16 1
          let need := match d.prc.swapMatch with
            | some hb => if hb < n then 1 else 65536
            | none => max 1 (c.f PRC.CFG 16 10)
          if d.mode = 5 && sync = 3 && decide (need ≤ d.f PRC.DIGEST 0 16) then
            (({ d with prc := { d.prc with fail := false, swapMatch := none } }.putSync 4).event 0x0A0B).want 8 4
          else d
        else
          let d := ((d.putF PRC.DIGEST 0 16 0).bump PRC.MISMATCH_CNT).event 0x0A08 [(n : Int)]
          if d.mode = 5 then d.transferFail c 5 else d.diverge

/-- The digest of beat `n` joins the chain (R325); `compare` false: it will not be compared (R344). -/
def Dev.formDigest (d : Dev) (c : Cfg) (st : Store) (n : Nat) (rs : List JournalRecord) (compare : Bool) : Dev :=
  let prev := match d.prc.digests with | e :: _ => e.2 | [] => 0
  let e := (n, digestOf prev n (contributions c st d n rs))
  let d := { d with prc := { d.prc with
    digests := (e :: d.prc.digests).take 16, compared := if compare then d.prc.compared else n } }
  if compare then d.compareDigest c else d

/-! ### Running a beat from the journal (R322 to R324, R332) -/

/-- A CONTROL record takes effect on the standby (R323): the register it names, with the element of the record. -/
def State.applyControl (s : State) (beat : Nat) (addr value : Word) (station element : Nat) (es : List (Nat × Word)) : State :=
  let a := addr.toNat
  let onD (f : Cfg → Dev → Dev) : State := { s with dev := f s.cfg s.dev }
  if a = SYS.GLOBAL_COMMIT || keyOff a = 0x20 then s.applyContents a es
  else if a = FUS.SPLIT_SEL then onD fun _ d => (d.splitSelect value).2
  else if a = FUS.TRK_CMD 0 then onD fun c d => (d.trkCmd c element value).2
  else if a = LAW.ACT_CMD then onD fun c d => (d.actCmd c value).2
  else if a = LPE.SL_CMD 0 then onD fun c d => (d.slCmd c element value).2
  else if LAW.BUS_PWR 0 ≤ a && decide (a ≤ LAW.BUS_PWR 7) then onD fun c d => d.busPwr c ((a - LAW.BUS_PWR 0) / 4) value
  else if LPE.SP 0 ≤ a && decide (a ≤ LPE.SP 63) then onD fun c d => (d.spWrite c ((a - LPE.SP 0) / 4) value).2
  else if a = PRC.CMD then onD fun _ d => { d with prc := { d.prc with swap := some ⟨beat + 3, station⟩ } }
  else s

/-- One record of a block (Table 14.2). Items are delivered with the block; LOOP_FB values come with their samples (R322); a HACK record
names the active's hack in an event and fires nothing (R487). -/
def State.applyRecord (s : State) (beat : Nat) (r : JournalRecord) : State :=
  match r with
  | .item _ => s
  | .loopFb _ _ _ => s
  | .control a v st el es => s.applyControl beat a v st.toNat el.toNat es
  | .jobEnd k q n code _ =>
    { s with dev := { s.dev with slv := { s.dev.slv with journal := ((k.val, q.toNat, n, code, beat) :: s.dev.slv.journal).take 512 } } }
  | .transition m cause => { s with dev := s.dev.mirrorMode s.cfg m cause }
  | .time delta t => { s with dev := s.dev.armStep s.cfg 6 3 delta 0 t }
  | .hack n _ => { s with dev := s.dev.event 0x0502 [(n : Int)] }

/-- A beat is run on a block (R324, R330): its records, its items in the order of R29, its digest. -/
def State.runBlock (s : State) (b : JournalBlock) : State :=
  let s := b.records.foldl (fun (s : State) r => s.applyRecord b.beat r) s
  let items := b.records.filterMap (fun r => match r with | .item i => some i | _ => none)
  let d := s.dev.deliver s.cfg items
  let d := { d with prc := { d.prc with journalBeat := b.beat } }
  { s with dev := d.formDigest s.cfg s.store b.beat b.records true }

def blockGood (b : JournalBlock) : Bool := b.crcOk && b.count = b.records.length

/-- A joiner takes the next block: a missing or bad one fails the transfer, CATCHUP before it is level, DIGEST after (R330). -/
def State.joinBlock (s : State) (b : JournalBlock) : State :=
  if b.beat ≤ s.dev.prc.journalBeat then s
  else if blockGood b && b.beat = s.dev.prc.journalBeat + 1 then s.runBlock b
  else { s with dev := s.dev.transferFail s.cfg (if s.dev.prc.level then 5 else 4) }

/-- JOURNAL_BLOCK_RECEIVED (R324, R330, R341). -/
def execJournalBlockReceived (block : JournalBlock) (s : State) : Out :=
  .next (
    let d := s.dev
    if !s.cfg.pair then s
    else if (d.crown || d.mode = 4) && decide (seqDiff 32 block.epoch.toNat d.prc.epoch.toNat < 0) then
      { s with dev := d.eventSec 0x0A0E 0 }
    else
      let d := d.meetEpoch s.cfg block.epoch
      let s := { s with dev := d }
      if d.crown then s
      else if d.mode = 4 then
        if blockGood block && decide (d.prc.journalBeat < block.beat) then s.runBlock block else s
      else if d.mode != 5 then s
      else if pairSync d = 3 then s.joinBlock block
      else if pairSync d = 1 || pairSync d = 2 then
        if d.prc.buffer.length < 256 then { s with dev := { d with prc := { d.prc with buffer := d.prc.buffer ++ [block] } } }
        else { s with dev := d.transferFail s.cfg 3 }
      else s)

/-- The joiner replays up to 2 buffered blocks at a boundary and is level when none is left (R330). -/
def State.catchUp (s : State) : State :=
  if s.dev.mode != 5 || pairSync s.dev != 2 then s
  else
    let two := s.dev.prc.buffer.take 2
    let s := { s with dev := { s.dev with prc := { s.dev.prc with buffer := s.dev.prc.buffer.drop 2 } } }
    let s := two.foldl (fun (s : State) b => if pairSync s.dev = 2 then s.joinBlock b else s) s
    let d := s.dev
    if pairSync d = 2 && d.prc.buffer.isEmpty && d.prc.image.isNone then
      { s with dev := ({ d with prc := { d.prc with level := true } }.putSync 3).putF PRC.DIGEST 0 16 0 }
    else s

/-- ORPHAN_BEAT (R324, R330): the beat that ended at this boundary has no valid block; a standby runs it on its own captures, a joiner
fails. -/
def execOrphanBeat (s : State) : Out :=
  .next (
    let d := s.dev
    let n := d.esc.beat - 1
    if !s.cfg.pair || d.crown || n ≤ d.prc.journalBeat then s
    else if d.mode = 4 then
      let d := d.advanceTo (d.esc.boundary + 200 * ticksPerUs)
      let own := ((d.prc.captures.find? (fun e => e.1 = n)).map (·.2)).getD []
      let d := (d.event 0x0A13 [(n : Int)]).bump PRC.ORPHAN_CNT
      let gated := own.filter (fun i => gatedSource s.cfg d i.source)
      let own := own.filter (fun i => !gatedSource s.cfg d i.source)
      let d := d.sat NYM.GATED_CNT 0 32 gated.length
      let d := { d with prc := { d.prc with orphaned := true, journalBeat := n } }.deliver s.cfg own
      { s with dev := d.formDigest s.cfg s.store n [] false }
    else if d.mode = 5 && pairSync d = 3 then { s with dev := d.transferFail s.cfg 5 }
    else s)

/-- DIGEST_TIMEOUT (R327): D(n) is not complete 10 beats after the SEAL of n. -/
def execDigestTimeout (beat : BitVec 48) (s : State) : Out :=
  onDev s fun c d =>
    let n := beat.toNat
    if !c.pair || d.crown || d.prc.digests.any (fun e => e.1 = n) then d
    else if d.mode = 4 then ((d.bump PRC.MISMATCH_CNT).event 0x0A08 [(n : Int)]).diverge
    else if d.mode = 5 && pairSync d = 3 then ((d.bump PRC.MISMATCH_CNT).event 0x0A08 [(n : Int)]).transferFail c 5
    else d

/-! ### The link (R316, R317, R332) -/

/-- LINK_UP (R316): training completes; nothing waits, nothing is unacknowledged. Without its session keys the link does not train (R492). -/
def execLinkUp (s : State) : Out :=
  onDev s fun _ d =>
    if linkState d = 2 || !d.stu.keys then d
    else
      let d := { d with prc := { d.prc with linkQueue := [], flight := [], lineFree := d.tick, txTick := d.tick, linkTick := d.tick } }
      (d.putF PRC.STAT 0 2 2).event 0x0A01

/-- The instant at which the link is declared down (R316): 100 microseconds after the last valid frame, or 5 microseconds after the eighth
retransmission of a frame. -/
def linkDownAt (d : Dev) : Nat :=
  (d.prc.flight.filter (fun f => 8 ≤ f.retries)).foldl (fun t f => min t (f.tick + 5 * ticksPerUs)) (d.prc.linkTick + 100 * ticksPerUs)

/-- LINK_DOWN (R316): training starts at once; partner time ends (R332). What waits is dropped (log 96). -/
def execLinkDown (s : State) : Out :=
  onDev s fun c d =>
    if linkState d != 2 then d
    else
      let d := d.advanceTo (linkDownAt d)
      let d := { d with prc := { d.prc with linkQueue := [], flight := [] } }
      ((d.putF PRC.STAT 0 2 1).event 0x0A02).partnerTimeLost c

/-- LINK_RETRANSMIT (R316): the frame sent longest ago goes again 5 microseconds after it was sent, at most 8 times. -/
def execLinkRetransmit (s : State) : Out :=
  onDev s fun _ d =>
    match d.prc.flight with
    | [] => d
    | f :: rest =>
      if linkState d != 2 || 8 ≤ f.retries then d
      else
        let d := d.advanceTo (f.tick + 5 * ticksPerUs)
        ({ d with prc := { d.prc with
          flight := rest ++ [{ f with tick := d.tick, retries := f.retries + 1 }], txTick := d.tick } } : Dev).bump PRC.LINK_ERR_CNT

/-- IDLE_FRAME (R316): the link has been silent for 10 microseconds. -/
def execIdleFrame (s : State) : Out :=
  onDev s fun _ d =>
    if linkState d != 2 || !d.prc.linkQueue.isEmpty then d
    else
      let d := d.advanceTo (d.prc.txTick + 10 * ticksPerUs)
      { d with prc := { d.prc with idleSent := d.prc.idleSent + 1, txTick := d.tick } }

/-- LINK_FRAME_RECEIVED (R316, R332): a frame that fails its CRC is not taken; an acknowledgement frees the frame sent longest ago; a
time-transfer frame brings the partner's offset and clockClass. Frames are acknowledged, but for idle frames, training frames and
acknowledgements (log 96). -/
def execLinkFrameReceived (crcOk : Bool) (payload : LinkPayload) (s : State) : Out :=
  onDev s fun c d =>
    if !crcOk then d
    else
      let d := { d with prc := { d.prc with linkTick := d.tick } }
      let acked (d : Dev) : Dev := if linkState d = 2 then { d with prc := { d.prc with acksSent := d.prc.acksSent + 1 } } else d
      match payload with
      | .ack => ({ d with prc := { d.prc with flight := d.prc.flight.drop 1 } } : Dev).linkGo
      | .training => if linkState d = 0 then d.putF PRC.STAT 0 2 1 else d
      | .time offset cls =>
        let d := acked d
        if (d.mode = 4 || d.mode = 5) && linkState d = 2 && partnerCrowned d then
          ({ d with prc := { d.prc with partnerTime := some (offset, cls.toNat), partnerFresh := true } } : Dev).tbuClass c
        else d
      | .idle => d
      | .data => acked d

/-! ### Heartbeats (R318, R319, R339) -/

/-- The heartbeat that leaves now (Table 14.1). -/
def ownHeartbeat (c : Cfg) (d : Dev) : Heartbeat :=
  { role := c.b PRC.CFG 1, crowned := d.crown, fail := d.prc.fail, inStep := pairSync d = 4, testSeen := d.prc.testSeen
    mode := BitVec.ofNat 4 d.mode, epoch := d.prc.epoch, beat := BitVec.ofNat 48 d.esc.beat
    digBeat := BitVec.ofNat 48 (match d.prc.digests with | e :: _ => e.1 | [] => 0)
    digest := match d.prc.digests with | e :: _ => e.2 | [] => 0
    cfgHash := d.w PRC.CFG_HASH_HI ++ d.w PRC.CFG_HASH_LO, crcOk := true }

/-- HEARTBEAT_SEND (R318): 50 microseconds after the boundary. -/
def execHeartbeatSend (s : State) : Out :=
  onDev s fun c d =>
    if !c.pair then d
    else
      let d := d.advanceTo (d.esc.boundary + 50 * ticksPerUs)
      ({ d with prc := { d.prc with lastSent := some (ownHeartbeat c d), testSeen := false } } : Dev).linkPush 0 0xB1 48

/-- A heartbeat is valid (R318): its CRC, and a beat number within 1 of the own once the module has joined. -/
def hbValid (d : Dev) (hb : Heartbeat) : Bool :=
  hb.crcOk && (d.mode != 4 || decide (((hb.beat.toNat : Int) - d.esc.beat).natAbs ≤ 1))

/-- HEARTBEAT_RECEIVED (R318, R319, R324, R339 to R342). -/
def execHeartbeatReceived (hb : Heartbeat) (s : State) : Out :=
  onDev s fun c d =>
    if !c.pair || !hbValid d hb then d
    else if hb.crowned && (d.crown || d.mode = 4) && decide (seqDiff 32 hb.epoch.toNat d.prc.epoch.toNat < 0) then d.eventSec 0x0A0E 0
    else
      let d := { d with prc := { d.prc with
        lastHb := some (hb, d.tick, d.esc.beat)
        testSent := d.prc.testSent && !hb.testSeen, unreported := if hb.testSeen then 0 else d.prc.unreported
        crownHbBeat := if hb.crowned then some d.esc.beat else d.prc.crownHbBeat
        crownHbSeen := d.prc.crownHbSeen || hb.crowned } }
      let d := ((d.putB PRC.STAT 2 true).putB PRC.STAT 3 hb.crowned).putF PRC.STAT 16 4 hb.mode.toNat
      let d := (d.put PRC.PCFG_HASH_LO (hb.cfgHash.extractLsb' 0 32)).put PRC.PCFG_HASH_HI (hb.cfgHash.extractLsb' 32 32)
      let d := if hb.crowned then (d.putF PRC.STAT 12 2 0).meetEpoch c hb.epoch else d
      let d := if hb.crowned && d.prc.orphaned then d.diverge else d
      let d := if hb.crowned && hb.fail then d.seizeOnTrigger else d
      let d := if triggerStands d then d else { d with prc := { d.prc with trigger := false } }
      (d.compareDigest c).partnerTimeLost c

/-- HEARTBEAT_MISSED (R319, R342): no crown heartbeat of the beat 200 microseconds after its boundary; once a beat. -/
def execHeartbeatMissed (s : State) : Out :=
  onDev s fun c d =>
    if !c.pair || d.crown || d.prc.crownHbSeen || d.prc.missBeat = some d.esc.beat then d
    else
      let d := d.advanceTo (d.esc.boundary + 200 * ticksPerUs)
      let d := { d with prc := { d.prc with missBeat := some d.esc.beat } }
      let n := d.f PRC.STAT 12 2
      let d := d.putF PRC.STAT 12 2 (min 3 (n + 1))
      let d := if n = 2 && d.mode = 4 then d.event 0x0A03 else d
      (if 2 ≤ n then d.seizeOnTrigger else d).partnerTimeLost c

/-- CROWN_WIRE (R339): CROWN_IN has disagreed with the partner's CROWNED bit for 10 beats. -/
def execCrownWire (s : State) : Out :=
  onDev s fun c d =>
    if !c.pair || d.b PRC.STAT 14 || d.prc.wireBeats < 10 then d
    else (((d.putB PRC.STAT 14 true).putB PRC.STAT 15 true).event 0x0A11).event 0x0A12

/-! ### Joining (R328 to R330) -/

/-- TRANSFER_REQUEST (R328): not before 1 s after a failed attempt. -/
def execTransferRequest (s : State) : Out :=
  onDev s fun c d =>
    let sync := pairSync d
    if !c.pair || d.mode != 5 || linkState d != 2 || !partnerCrowned d || sync = 1 || sync = 2 || sync = 3 || d.prc.askBlocked then d
    else
    let d := d.advanceTo d.prc.askAfter
    if d.w PRC.CFG_HASH_LO != d.w PRC.PCFG_HASH_LO || d.w PRC.CFG_HASH_HI != d.w PRC.PCFG_HASH_HI then
      let d := d.transferFail c 1
      { d with prc := { d.prc with askBlocked := true } }
    else
      let d := { d with prc := { d.prc with transferTick := some d.tick, buffer := [], image := none, level := false, swapMatch := none } }
      (d.putSync 1).putF PRC.TRANSFER 0 8 0

/-- Memory that an image carries (R329, Table 14.4): fusion state, results of streams 0 to 2 with their warm starts, the plan and
consequence records, the replicated region. -/
def imageRanges (c : Cfg) : List (Nat × Nat) :=
  [(estBase, 0x600000), (lawResultAt 0, 0x300000), (lawWarmAt 1, 0x100000), (planBase, 0x5000),
    ((c.w PRC.REPL_BASE).toNat, c.f PRC.REPL_SIZE 0 26)]

/-- The pages whose status registers an image carries: the fusion engine and the law. -/
def imagePages : List Nat := [0x40020000, 0x40021000, 0x40022000, 0x40023000, 0x40038000, 0x40039000]

/-- The image of this module at a boundary (R329, Table 14.4). -/
def ownImage (c : Cfg) (st : Store) (d : Dev) : StateImage :=
  let ps := (pages.map (·.base)).filter pageJournaled
  { beat := d.esc.beat, slip := d.w ESC.BEAT_SLIP, mode := BitVec.ofNat 4 d.mode, epoch := d.prc.epoch
    digest := match d.prc.digests with | e :: _ => e.2 | [] => 0
    tick := d.tick
    live := onPages ps c.live ++ (onPages ps c.hdr).filter (fun e => keyOff e.1 = 0x2C || keyOff e.1 = 0x38)
    shadow := onPages ps c.shadow
    status := onPages imagePages d.regs
    memory := st.mem.filter (fun e => (imageRanges c).any (fun r => decide (r.1 ≤ e.1) && decide (e.1 < r.1 + r.2)))
    fus := d.fus, law := d.law
    loops := (List.finRange 64).map (fun k =>
      ⟨k, d.s (LPE.SL_I k.val) 0 32, (d.loop k.val).d, (d.loop k.val).r1, (d.loop k.val).r2, (d.loop k.val).ed1,
        d.f (LPE.SL_STAT k.val) 4 3, d.s (LPE.U k.val) 0 32⟩) }

/-- The sizes of an image's parts in the order of Table 14.4, bytes. -/
def imageSizes (c : Cfg) : List Nat := [0x600000, 0x100000, 0x40000, 0x10000, 0x1000, 0x400, c.f PRC.REPL_SIZE 0 26]

/-- TRANSFER_START (R329): the active takes its image at this boundary and sends it behind heartbeats and journal (R317). -/
def execTransferStart (s : State) : Out :=
  onDev s fun c d =>
    if !journaling c d then d
    else
      let d := ({ d with prc := { d.prc with sending := some (ownImage c s.store d) } } : Dev).event 0x0A09 [(d.esc.beat : Int)]
      ((imageSizes c).filter (· != 0)).foldl (fun (d : Dev) n => d.linkPush 2 0x20 n) d

/-- The configuration of an image (Table 14.4): live and shadow of the journaled pages, with their CFG_SEQ and COMMIT_BEAT. -/
def Cfg.takeImage (c : Cfg) (x : StateImage) : Cfg :=
  let ps := (pages.map (·.base)).filter pageJournaled
  let header := fun (e : Nat × Word) => keyOff e.1 = 0x2C || keyOff e.1 = 0x38
  let hdr := (x.live.filter (fun e => header e && ps.contains (keyPage e.1))).foldl (fun l e => Assoc.set 0 l e.1 e.2) c.hdr
  { c with
    live := mergePages ps (x.live.filter (fun e => !header e)) c.live
    shadow := mergePages ps (x.shadow.filter (fun e => !header e)) c.shadow
    hdr := hdr }

/-- The memory of an image. -/
def Store.takeState (st : Store) (es : List (Nat × Byte)) : Store :=
  let word := fun w => es.any (fun e => decide (w ≤ e.1) && decide (e.1 < w + 32))
  { mem := es.foldl (fun m e => Assoc.set 0 m e.1 e.2) st.mem
    errs := st.errs.filter (fun p => !word p.1)
    poison := st.poison.filter (fun w => !word w)
    counted := st.counted.filter (fun w => !word w) }

/-- The units of an image: the fusion engine and the law with their status registers, the loop slots (R306). -/
def Dev.takeImage (d : Dev) (c : Cfg) (x : StateImage) : Dev :=
  let d := (onPages imagePages x.status).foldl (fun (d : Dev) e => d.put e.1 e.2) d
  let d := { d with fus := x.fus, law := { x.law with planPrev := x.law.plan } }
  x.loops.foldl (fun (d : Dev) l =>
    let k := l.slot.val
    if !slEn c k then d
    else
      let d := d.putLoop k { d.loop k with d := l.d, r1 := l.r1, r2 := l.r2, ed1 := l.ed1, fresh := false }
      ((d.putN (LPE.SL_STAT k) (2 + l.region % 8 * 16)).putI (LPE.SL_I k) l.i).putI (LPE.U k) l.u) d

/-- TRANSFER_DONE (R330): the image is loaded; from here the module runs the mirror and replays the buffered blocks. -/
def execTransferDone (image : StateImage) (s : State) : Out :=
  .next (
    match s.dev.prc.transferTick with
    | none => s
    | some t0 =>
      if s.dev.mode != 5 || pairSync s.dev != 1 then s
      else
        let old := s.cfg
        let c := s.cfg.takeImage image
        let ps := (pages.map (·.base)).filter pageJournaled
        let d := ps.foldl (fun (d : Dev) p => d.pageCommitted old c p) s.dev
        let d := d.mirrorMode c image.mode.toNat 0
        let d := d.takeImage c image
        let d := { d with prc := { d.prc with
          image := some image, transferTick := none, journalBeat := image.beat - 1, digests := [(image.beat - 1, image.digest)]
          level := false, orphaned := false, catchBeats := 0 } }
        let d := ((d.putSync 2).putF PRC.TRANSFER 0 8 100).putF PRC.TRANSFER 16 16 (satU 16 ((d.tick - t0) / ticksPerMs))
        ({ s with cfg := c, store := s.store.takeState image.memory, dev := d.event 0x0A0A } : State).recheckWheels)

/-- STATE_ADOPT (R330): at the second boundary after the load the module adopts beat number, BEAT_SLIP, epoch and time. -/
def execStateAdopt (s : State) : Out :=
  onDev s fun _ d =>
    match d.prc.image with
    | none => d
    | some x =>
      if d.mode != 5 || pairSync d != 2 then d
      else
        let t := (max d.tick x.tick + ticksPerSec - 1) / ticksPerSec * ticksPerSec
        let d := d.advanceTo t
        let d := { d with
          esc := { d.esc with beat := (x.beat + (t - x.tick) / ticksPerMs) % 2 ^ 48, loaded := true, slipLive := true, boundary := t }
          prc := { d.prc with image := none, epoch := x.epoch } }
        (d.put ESC.BEAT_SLIP x.slip).put PRC.EPOCH x.epoch

/-- TRANSFER_TIMEOUT (R330): the image has not arrived within 100 ms. -/
def execTransferTimeout (s : State) : Out :=
  onDev s fun c d =>
    match d.prc.transferTick with
    | none => d
    | some t => if d.mode = 5 && pairSync d = 1 then (d.advanceTo (t + 100 * ticksPerMs)).transferFail c 2 else d

/-- CATCHUP_TIMEOUT (R330): the joiner is not level within 1000 beats. -/
def execCatchupTimeout (s : State) : Out :=
  onDev s fun c d => if d.mode = 5 && pairSync d = 2 && decide (1000 ≤ d.prc.catchBeats) then d.transferFail c 4 else d

/-! ### Crown and seize lines (R334 to R339) -/

/-- SEIZE_ACCEPTED (R334, R336, R337): the latch is cleared and the outputs go off fast. -/
def execSeizeAccepted (s : State) : Out :=
  onDev s fun c d =>
    let d := { d with prc := { d.prc with seizeIn := true } }
    let d := (d.sat PRC.SEIZE_CNT 16 16 1).event 0x0A05
    if d.crown then (d.dropCrown c false).crownLost else d

/-- SEIZE_IN_PULSE_END (R334): noise, a test pulse, a malformed pulse, or the end of a seize. -/
def execSeizeInPulseEnd (width : Nat) (s : State) : Out :=
  onDev s fun _ d =>
    if width < 10 then d
    else if width ≤ 100 then { d with prc := { d.prc with testSeen := true } }
    else if width < 150 then d.event 0x0A12 [(width : Int)]
    else { d with prc := { d.prc with seizeIn := false } }

/-- The new active takes the latch (R340, R343, R347). -/
def Dev.takeOver (d : Dev) (c : Cfg) : Dev :=
  let d := d.takeCrown c
  let d := { d with prc := { d.prc with trigger := false, swapTake := false, orphaned := false } }
  (((d.putB PRC.STAT 6 false).putSync 0).event 0x0A07 [(d.prc.epoch.toNat : Int)]).want 4 (d.f SYS.MODE 8 4)

/-- CROWN_IN_CHANGE (R336, R338, R347): the filtered level; both latches set within one filter time release the one of ROLE 1; the
standby of a granted swap takes the latch once the level is low. -/
def execCrownInChange (level : Bool) (s : State) : Out :=
  onDev s fun c d =>
    let d := d.putB PRC.STAT 5 level
    let d := { d with prc := { d.prc with crownLowBeats := 0, crownInTick := d.tick } }
    if level && d.crown && c.pair && c.b PRC.CFG 1 && decide (d.tick ≤ d.prc.latchTick + 40 * ticksPerUs) then
      ((d.dropCrown c false).event 0x0A14).crownLost
    else if !level && d.prc.swapTake && d.mode = 4 && latchFree d then d.takeOver c
    else d

/-- SEIZE_TEST_PULSE (R337, R339): every 60 s. -/
def execSeizeTestPulse (s : State) : Out :=
  onDev s fun c d =>
    if !c.pair || !c.b PRC.CFG 2 then d
    else
      let d := d.advanceTo (d.prc.testTick + 60 * ticksPerSec)
      let n := if d.prc.testSent then d.prc.unreported + 1 else 0
      let d := { d with prc := { d.prc with
        testTick := d.tick, unreported := n, testSent := true, seizeOut := if d.prc.seizeOut = 1 then 1 else 2 } }
      if 3 ≤ n && !d.b PRC.STAT 15 then (d.putB PRC.STAT 15 true).event 0x0A12 else d

/-- SEIZE_OUT_PULSE_END (R343, Table 14.5): a seize pulse lasts 250 microseconds, a test pulse 20. -/
def execSeizeOutPulseEnd (s : State) : Out :=
  onDev s fun _ d =>
    if d.prc.seizeOut = 0 then d
    else
      let d := d.advanceTo (if d.prc.seizeOut = 1 then d.prc.seizeTick + 250 * ticksPerUs else d.prc.testTick + 20 * ticksPerUs)
      { d with prc := { d.prc with seizeOut := 0 } }

/-! ### Takeover, failure and swap (R342 to R347) -/

/-- CROWN_IN has read low for 20 microseconds since the seize (R343). -/
def takeoverAt (d : Dev) : Nat := max d.prc.seizeTick d.prc.crownInTick + 20 * ticksPerUs

/-- The seize succeeds: CROWN_IN reads low in time, at most 1 ms after the pulse starts (R343). -/
def takeoverDue (d : Dev) : Bool :=
  d.mode = 4 && !d.crown && d.b PRC.STAT 6 && latchFree d && decide (takeoverAt d ≤ d.prc.seizeTick + ticksPerMs)

/-- TAKEOVER (R343). -/
def execTakeover (s : State) : Out :=
  onDev s fun c d => if takeoverDue d then (d.advanceTo (takeoverAt d)).takeOver c else d

/-- SEIZE_FAILED (R343): CROWN_IN has stayed high for 1 ms. -/
def execSeizeFailed (s : State) : Out :=
  onDev s fun _ d =>
    if !d.b PRC.STAT 6 || takeoverDue d then d
    else ((d.advanceTo (d.prc.seizeTick + ticksPerMs)).putB PRC.STAT 6 false).event 0x0A06

/-- SEIZE_RETRY (R343): every 10 beats while the trigger stands. -/
def execSeizeRetry (s : State) : Out :=
  onDev s fun _ d =>
    if !triggerStands d then { d with prc := { d.prc with trigger := false } }
    else if d.esc.beat < d.prc.seizeBeat + 10 then d
    else d.seize

/-- A write of PRC.CMD (R345, R347, Table 14.9); the first component says that it was accepted and is journaled. -/
def Dev.pairCommand (d : Dev) (c : Cfg) (value : Word) : Bool × Dev :=
  let cmd := fld value 0 2
  let d := d.wrap PRC.CMD_RES 16 16 1
  if fld value 16 16 != 0x9A1F then (false, d.putF PRC.CMD_RES 0 4 2)
  else if cmd != 1 && cmd != 2 then (false, d)
  else if !d.crown then (false, d.putF PRC.CMD_RES 0 4 3)
  else if cmd = 2 then (false, ((d.selfFail c).crownLost).putF PRC.CMD_RES 0 4 0)
  else if d.prc.swap.isSome then (false, d.putF PRC.CMD_RES 0 4 5)
  else
    (true, ({ d with prc := { d.prc with swap := some ⟨d.esc.beat + 3, fld value 8 8⟩ } } : Dev).putF PRC.CMD_RES 0 4 1)

/-- A write of PRC.CMD is evaluated by the module itself in every mode; a SWAP is journaled (R323). -/
def pairWrite (s : State) (value : Word) : Out :=
  onWrite s fun c d =>
    if (d.pairCommand c value).1 then
      (d.pairCommand c value).2.journal c (.control (wd PRC.CMD) value (BitVec.ofNat 8 (fld value 8 8)) 255 [])
    else (d.pairCommand c value).2

/-- PRC_FAIL (R345). -/
def execPrcFail (value : Word) (s : State) : Out := pairWrite s value

/-- SWAP (R347). -/
def execSwap (value : Word) (s : State) : Out := pairWrite s value

/-- The swap at h on the active (R347): granted, it releases the latch and stands down, and runs the mirror of the new active until its
first digest match. -/
def Dev.handover (d : Dev) (c : Cfg) (x : SwapDev) : Dev :=
  let old := d.mode
  let granted := partnerStandby d && decide (6 ≤ old ∧ old ≤ 10) && decide (max 1 (c.f PRC.CFG 16 10) ≤ d.f PRC.DIGEST 0 16)
  if !granted then (d.putF PRC.CMD_RES 0 4 4).event 0x0A10
  else
    let d := (d.putF PRC.CMD_RES 0 4 0).event 0x0A0F
    let d := d.enterMode c 5 5 x.station
    let d := { d with prc := { d.prc with swapMatch := some d.esc.beat, level := true, journalBeat := d.esc.beat - 1 } }
    ((d.putSync 3).putF PRC.DIGEST 0 16 0).mirrorMode c old 0

/-! ### The field watchdog and the field link (R432, R438) -/

/-- The field watchdog has expired, or the field link is lost (R432, R436, R438, R345): the latch clears, outputs go off fast, the module
declares its failure. -/
def Dev.fieldSilent (d : Dev) (c : Cfg) (lost : Bool) : Dev :=
  let d := { d with field := { d.field with silent := true, pendMask := 0, pendBits := 0, pendAout := [] } }
  let d := ((d.putB FIO.WDG_STAT 0 false).putB FIO.WDG_STAT 1 true).putB FIO.WDG_STAT 2 (lost || d.b FIO.WDG_STAT 2)
  let d := d.event 0x300A [(lost.toNat : Int)]
  let d := (d.selfFail c).driveField c false
  d.crownLost

/-- WDG_FEED (R438): the keys alternate. -/
def execWdgFeed (value : Word) (s : State) : Out :=
  onWrite s fun _ d =>
    let next := d.f FIO.WDG_STAT 16 16
    if fld value 16 16 != next then d.bump FIO.WDG_BAD_CNT
    else
      let d := { d with field := { d.field with fedTick := d.tick } }
      (d.putF FIO.WDG_STAT 8 8 0).putF FIO.WDG_STAT 16 16 (if next = 0x3A5C then 0xC5A3 else 0x3A5C)

/-- WDG_EXPIRED (R438): TMO ms without a feed while the watchdog is armed. -/
def execWdgExpired (s : State) : Out :=
  onDev s fun c d =>
    if d.b FIO.WDG_STAT 0 then (d.advanceTo (d.field.fedTick + c.f FIO.WDG_CFG 8 8 * ticksPerMs)).fieldSilent c false else d

/-- FIELD_LINK_LOST (R432): three consecutive slots without a valid message. -/
def execFieldLinkLost (s : State) : Out :=
  onDev s fun c d => if 3 ≤ d.field.badSlots && !d.b FIO.WDG_STAT 2 then d.fieldSilent c true else d

/-! ### The pair at a beat boundary (R318, R321, R342) -/

/-- Items take the places of the item records of a list, in their own order. -/
def refill (items : List Item) (rs : List JournalRecord) : List JournalRecord :=
  match rs with
  | [] => []
  | .item i :: t => (match items with
    | [] => .item i :: refill [] t
    | j :: more => .item j :: refill more t)
  | r :: t => r :: refill items t

/-- The records of a block as they leave: class 0 first (R23, R321), the items in the order of R29. -/
def blockOrder (rs : List JournalRecord) : List JournalRecord :=
  let sorted (l : List JournalRecord) : List JournalRecord :=
    refill (sortItems (l.filterMap (fun r => match r with | .item i => some i | _ => none))) l
  sorted (rs.filter (fun r => recordClass r = 0)) ++ sorted (rs.filter (fun r => recordClass r != 0))

/-- Bytes of a block with its SEAL record (Table 14.2). -/
def blockSize (rs : List JournalRecord) : Nat := rs.foldl (fun n r => n + recordSize r) 22

/-- A sealed block leaves (R317, R321): its records but for those of loop feedback, which left at their samples, and the SEAL. -/
def Dev.sendBlock (d : Dev) (rs : List JournalRecord) : Dev :=
  (rs.foldl (fun (d : Dev) r => if recordType r = 0x11 then d else d.sendRecord r) d).linkPush 1 0x1F 22

/-- The block of the ended beat is sealed, and its digest formed (R321, R325). -/
def Dev.sealBeat (d : Dev) (c : Cfg) (st : Store) : Dev :=
  if !c.pair then { d with prc := { d.prc with block := [] } }
  else
    let n := d.esc.beat - 1
    let rs := blockOrder d.prc.block
    let d :=
      if d.crown then
        let b : JournalBlock := { records := rs, beat := n, epoch := d.prc.epoch, count := rs.length, crcOk := true }
        let d := if journaling c d then
            let size := satU 16 (blockSize rs / 64)
            let d := ({ d with prc := { d.prc with sealed := some b } } : Dev).sendBlock rs
            (d.putF PRC.JOURNAL 0 16 size).putF PRC.JOURNAL 16 16 (max size (d.f PRC.JOURNAL 16 16))
          else d
        d.formDigest c st n rs true
      else d
    { d with prc := { d.prc with block := [] } }

/-- The rest of the pair's work at a boundary: captures of the ended beat, partner present within 3 beats, beats with CROWN_IN low or at odds
with the partner's CROWNED bit (R324, R339, R342). -/
def Dev.pairBoundary (d : Dev) (c : Cfg) (items : List Item) : Dev :=
  if !c.pair then d
  else
    let n := d.esc.beat
    let near := match d.prc.lastHb with | none => false | some h => decide (n ≤ h.2.2 + 3)
    let low := if pairCrownIn d || d.prc.crownHbBeat.isNone then 0 else min 2 (d.prc.crownLowBeats + 1)
    let wire := if d.prc.lastHb.isNone || pairCrownIn d = d.b PRC.STAT 3 then 0 else min 10 (d.prc.wireBeats + 1)
    let d := { d with prc := { d.prc with
      captures := ((n - 1, items) :: d.prc.captures).take 16, crownHbSeen := false, crownLowBeats := low, swapTake := false
      wireBeats := wire, catchBeats := if pairSync d = 2 then d.prc.catchBeats + 1 else 0 } }
    let d := d.putB PRC.STAT 2 near
    (if 2 ≤ low then d.seizeOnTrigger else d).partnerTimeLost c

end Sys2Proof.Machine
end

