-- ==== Sys2Proof/Machine/SelfTest.lean ====
section
/-! DEFINITION. Self-test (21_self_test.md R489 to R499, R561) and the return of every block to its state after a reset (R459, R503,
R530, R534). -/
namespace Sys2Proof.Machine

/-! ### What a reset keeps (R530, R534) -/

/-- Registers held in MRAM and the VBAT domain: the ring pointers, operating time and power cycles, the epoch, the calendar. -/
def keptKeys : List Nat := [EVR.HEAD, EVR.TAIL, EVR.SEQ_NEXT, EVR.TAIL_SEQ, EVR.OPTIME_LO, EVR.OPTIME_HI, EVR.PWRCYC, PRC.EPOCH,
  PWR.CAL_LO, PWR.CAL_HI, SYS.RST_CAUSE, PWR.WAKE_SRC] ++ (List.range 6).map RBB.AGC_REF

/-- What a requested run keeps beside (R492, R534): the boot status, RESULT with its KIND, the cleared keys. -/
def keptByRequest : List Nat := [SYS.BOOT_STAT, MEM.STAT]

def keepRegs (keys : List Nat) (m : RegMap) : RegMap := m.filter (fun e => keys.contains e.1)

/-- Region 0 of Table 19.1: general SRAM, fusion state memory, the solver's own memories (log 16). -/
def inRegion0 (a : Nat) : Bool :=
  (decide (0x20000000 ≤ a) && decide (a < 0x20200000)) || (decide (0x21000000 ≤ a) && decide (a < 0x21600000))
    || (decide (0x30000000 ≤ a) && decide (a < 0x40000000))
def inRegion1 (a : Nat) : Bool := decide (0x80000000 ≤ a) && decide (a < 0x14CCCCCC0)

/-- Words written with zero data and valid check bytes (R459, R493). -/
def Store.zero (st : Store) (p : Nat → Bool) : Store :=
  { mem := st.mem.filter (fun e => !p e.1)
    errs := st.errs.filter (fun e => !p e.1)
    poison := st.poison.filter (fun w => !p w)
    counted := st.counted.filter (fun w => !p w) }

/-- The calendar in ticks at this instant (R526): within 20 ppm of the time since it was last written, a free value (log 5). -/
def Dev.calendarNow (d : Dev) : Nat × Dev :=
  let f := d.takeFree
  let passed : Int := (d.tick - d.pwr.calTick : Nat)
  let drift : Int := passed * ((f.1.toNat % 40001 : Nat) - 20000 : Int) / 1000000000
  ((((d.pwr.calSec * 2 ^ 15 + d.pwr.calFrac) * ticksPerSec / 2 ^ 15 : Nat) + passed + drift).toNat, f.2)

/-- CAL_LO and CAL_HI show a time in ticks. -/
def Dev.showCalendar (d : Dev) (t : Nat) : Dev :=
  let sec := t / ticksPerSec
  let frac := t % ticksPerSec * 2 ^ 15 / ticksPerSec
  (d.putN PWR.CAL_LO sec).putN PWR.CAL_HI (sec / 2 ^ 32 % 2 ^ 16 + frac * 2 ^ 16 + (d.f PWR.CAL_HI 31 1) * 2 ^ 31)

/-- The calendar takes a time, in ticks. -/
def Dev.setCalendar (d : Dev) (t : Nat) : Dev :=
  let sec := t / ticksPerSec
  let frac := t % ticksPerSec * 2 ^ 15 / ticksPerSec
  ({ d with pwr := { d.pwr with calSec := sec, calFrac := frac, calTick := t } } : Dev).showCalendar t

/-- The tick count starts from the calendar when that is valid and kept running, else from 0 (R88, R526). -/
def Dev.startTick (d : Dev) (ran : Bool) : Dev :=
  if ran && d.b PWR.CAL_HI 31 then
    let r := d.calendarNow
    ({ r.2 with tick := r.1, esc := { r.2.esc with boundary := r.1 / ticksPerMs * ticksPerMs }
                evr := { r.2.evr with filled := r.1 }, memd := { r.2.memd with lapStart := r.1 } } : Dev).setCalendar r.1
  else { d with
    tick := 0, esc := { d.esc with boundary := 0 }, pwr := { d.pwr with calTick := 0 }
    evr := { d.evr with filled := 0 }, memd := { d.memd with lapStart := 0 } }

/-- The units as after a reset, with what is kept: MRAM, OTP, the VBAT domain (R530), the occurrences on their way to the recorder, and
the registers of `keys`. -/
def Dev.cold (d : Dev) (keys : List Nat) : Dev :=
  { tick := d.tick, free := d.free, occ := d.occ, regs := keepRegs keys d.regs
    prc := { epoch := d.prc.epoch }
    evr := { index := d.evr.index, filled := d.tick }
    memd := { lapStart := d.tick }
    pwr := { d.pwr with phase := 1, asleep := 0, wdtTick := 0, jtagFails := 0, jtagNonce := none, entry := none, phase2Tick := d.tick, coreHalted := false,
                        monitorHalted := false, extest := false } }

/-- The configuration after a reset: every register at its reset value; the configuration image is loaded from outside (log 9). -/
def Cfg.cold (c : Cfg) : Cfg := { staged := c.staged, neutralPct := c.neutralPct }

/-! ### The full run (R489 to R498) -/

/-- The deviation of greatest magnitude with its index, the first of equals. -/
def worstOf (l : List (BitVec 16)) : Int × Nat :=
  l.zipIdx.foldl (fun w p => if w.1.natAbs < p.1.toInt.natAbs then (p.1.toInt, p.2) else w) (0, 0)

/-- RANGE: the worst rail and the worst clock, each saturating at 8 bits (Table 21.6). -/
def rangeWord (r : RangeObs) : Nat :=
  let half (w : Int × Nat) : Nat := unsigned 8 (max (-128) (min 127 w.1)) + w.2 % 256 * 2 ^ 8
  half (worstOf r.rails) + half (worstOf r.clocks) * 2 ^ 16

/-- The limits of R490: 3 % for VIN and the rails, 1 % for the clocks. -/
def withinRange (r : RangeObs) : Bool :=
  r.rails.all (fun x => decide (x.toInt.natAbs ≤ 30)) && r.clocks.all (fun x => decide (x.toInt.natAbs ≤ 100))

/-! The tests of Table 21.4. -/

/-- DAC_ADC: each reading within 0.5 % of full scale, 32 768 counts, of the code driven. -/
def dacAdcOk (codes : List (BitVec 16)) : Bool :=
  decide (codes.length = 24) && codes.zipIdx.all (fun p =>
    decide ((p.1.toInt - ((p.2 / 8 : Nat) - 1 : Int) * 30000).natAbs ≤ 163))

/-- FIELD_LOOP of one output: sensed high within 20 µs, low within 30 µs, by both. -/
def loopOk (t : LoopTest) : Bool :=
  decide (max t.ownHigh t.inputHigh ≤ 20000) && decide (max t.ownLow t.inputLow ≤ 30000)

/-- FIELD_LOOP of group `g`: all of its eight outputs. -/
def groupLoopOk (loops : List LoopTest) (g : Nat) : Bool :=
  let l := (loops.drop (8 * g)).take 8
  decide (l.length = 8) && l.all loopOk

/-- BANDGAP: the two measurements of each supply differ by at most 1 % (of the larger, log 98). -/
def bandgapOk (l : List (Nat × Nat)) : Bool := l.all (fun p => decide (100 * (max p.1 p.2 - min p.1 p.2) ≤ max p.1 p.2))

/-- RF_TONE: each of the six paths within 3 dB and 1 kHz. -/
def rfToneOk (l : List (Int × Int)) : Bool :=
  decide (l.length = 6) && l.all (fun p => decide (p.1.natAbs ≤ 30) && decide (p.2.natAbs ≤ 1000))

/-- TEMP: the four sensors agree within 8 °C. -/
def tempOk (l : List Int) : Bool := decide (l.length = 4) && l.all (fun a => l.all (fun b => decide ((a - b).natAbs ≤ 80)))

/-- The run is over: Configure is entered at the next boundary (R498). -/
def Dev.runOver (d : Dev) (code : Nat) : Dev :=
  let d := d.putF STU.RESULT 0 3 code
  let d := match d.stu.run with | none => d | some (_, t) => d.putF STU.RESULT 16 16 (satU 16 ((d.tick - t) / 20000))
  { d with stu := { d.stu with run := none, ended := true } }.want 2 3

/-- SELF_TEST_START (R489 to R492): refused outside the limits; else the keys are cleared and read back. -/
def execSelfTestStart (range : RangeObs) (keysZero : Bool) (s : State) : Out :=
  onDev s fun _ d =>
    if d.mode != 2 || d.pwr.phase != 2 || d.stu.run.isSome || d.stu.ended then d
    else
      let kind := d.stu.requested.toNat
      let d := (((d.putN STU.RESULT (kind * 16)).putN STU.RANGE (rangeWord range)).putN STU.FAIL_MASK 0).putN STU.SKIP_MASK 0
      if !withinRange range then (d.runOver 4).event 0x0804 [(rangeWord range : Int)]
      else
        let d := (d.putF STU.RESULT 0 3 1).event 0x0801 [(kind : Int)]
        let d := { d with stu := { d.stu with run := some (kind, d.tick), keys := false, secretsBad := !keysZero } }
        let d := ((d.putN STU.KEYS (1 + keysZero.toNat * 2)).putB EVR.STAT 1 false).putN SYS.JTAG_STAT 0
        d.event 0x0806 [(keysZero.toNat : Int)]

/-- SELF_TEST_ABORT (R490): a rail or clock leaves its limits during stages 2 to 6. -/
def execSelfTestAbort (stage : Fin 7) (range : RangeObs) (s : State) : Out :=
  onDev s fun _ d =>
    if d.stu.run.isNone || stage.val < 2 || withinRange range then d
    else ((d.putN STU.RANGE (rangeWord range)).runOver 5).event 0x0805 [(stage.val : Int), rangeWord range]

/-- The golden signature of domain `k` for the silicon step of SYS; clusters 0 to 3 share one (R494). -/
def goldenOf (d : Dev) (k : Nat) : BitVec 128 := Config.goldenSignature (d.w SYS.ID_STEP) (if 1 ≤ k ∧ k ≤ 4 then 1 else k)

/-- The domains whose signature differs from the golden one, as bits (R494). -/
def badDomains (d : Dev) (sigs : List (BitVec 128)) : Nat :=
  ((List.range 11).filter (fun k => sigs.getD k 0 != goldenOf d k)).foldl (fun n k => n + 2 ^ k) 0

/-- SIGd show the signatures (Table 21.6). -/
def Dev.showSigs (d : Dev) (sigs : List (BitVec 128)) : Dev :=
  (List.range 44).foldl (fun d i => d.put (STU.SIG i) ((sigs.getD (i / 4) 0).extractLsb' (32 * (i % 4)) 32)) d

/-- SELF_TEST_END (R491, R493 to R498): memory is written with zeros, the items are judged, the result is reported. -/
def execSelfTestEnd (obs : SelfTestObs) (s : State) : Out :=
  onMem s fun _ st d =>
    if d.stu.run.isNone then (st, d)
    else
      let skipped := d.stu.secretsBad
      let dom := if skipped then 0 else badDomains d obs.sigs
      let lowA := decide (obs.supplies.1.toNat < 18000)
      let lowB := decide (obs.supplies.2.toNat < 18000)
      let loopBad := (!lowA && !groupLoopOk obs.loops 0) || (!lowB && !groupLoopOk obs.loops 1)
      let skip := (if lowA || lowB then 16 else 0) + lowA.toNat * 2 ^ 8 + lowB.toNat * 2 ^ 9
      let items := skipped.toNat + (dom != 0).toNat * 2 + (!obs.mbist).toNat * 4 + (!dacAdcOk obs.codes).toNat * 8 + loopBad.toNat * 16
        + (!bandgapOk obs.bandgaps).toNat * 32 + (!rfToneOk obs.tones).toNat * 64 + (!tempOk obs.temps).toNat * 128
      let mask := items + dom * 2 ^ 16
      let d := if skipped then d else d.showSigs obs.sigs
      let d := (d.putN STU.FAIL_MASK mask).putN STU.SKIP_MASK skip
      let d := d.putF STU.RESULT 8 4 (((List.range 11).find? (fun k => dom.testBit k)).getD 0)
      let pass := mask = 0
      let d := d.runOver (if pass then 2 else 3)
      (st.zero inRegion0, if pass then d.event 0x0802 [(skip : Int)] else d.event 0x0803 [(mask : Int)])

/-! ### Cluster tests (R499) -/

/-- CL_TEST (R499): the refusals of CL_RES in the order of their codes. -/
def execClTest (value : Word) (range : RangeObs) (s : State) : Out :=
  onWrite s fun _ d =>
    let n := fld value 0 2
    let refusal := if fld value 16 16 != 0x57E5 then 1
      else if clState d n < 2 then 2
      else if d.stu.cluster.isSome then 3
      else if !withinRange range then 4
      else if d.mode < 3 || 10 < d.mode then 5
      else 0
    if refusal = 3 || (refusal != 0 && d.stu.cluster.isSome) then d.putF STU.CL_RES 8 4 refusal
    else if refusal != 0 then ((d.putF STU.CL_RES 0 3 4).putF STU.CL_RES 4 2 n).putF STU.CL_RES 8 4 refusal
    else
      let d := ((d.putF STU.CL_RES 0 3 1).putF STU.CL_RES 4 2 n).putF STU.CL_RES 8 4 0
      { d with stu := { d.stu with cluster := some n } }

/-- CL_TEST_DONE (R499): PASS returns the cluster to dispatch, FAIL leaves it faulted, a departure from the limits ends the test. -/
def execClTestDone (pass : Bool) (range : RangeObs) (s : State) : Out :=
  onDev s fun _ d =>
    match d.stu.cluster with
    | none => d
    | some n =>
      let d := { d with stu := { d.stu with cluster := none } }
      if !withinRange range then (d.putF STU.CL_RES 0 3 4).putF STU.CL_RES 8 4 4
      else if pass then ((d.putF STU.CL_RES 0 3 2).wrap STU.CL_RES 16 16 1).clusterRestored n
      else ((d.putF STU.CL_RES 0 3 3).putF (SLV.CL_STAT n) 0 2 3).event 0x0807 [(n : Int)]

end Sys2Proof.Machine
end

