-- ==== Sys2Proof/Machine/Power.lean ====
section
/-! DEFINITION. Power, clocks, reset, boot and JTAG (23_power_clocks_boot.md R521 to R541), wake from Dormant and Shelf (R402). -/
namespace Sys2Proof.Machine

/-! ### Reset (R530) -/

/-- Cause codes of Table 23.3 seen, as the lowest code and the bits. -/
def causeWord (seen class_ : Nat) : Nat :=
  ((List.range 11).find? (fun k => seen.testBit k)).elim 0 (· + 1) + seen % 2 ^ 12 * 2 ^ 4 + class_ * 2 ^ 16

/-- What a bank's supply was found at: 0 the 1.8 V range, 1 the 3.3 V range, 2 outside both (R521, R522). -/
def vioRange (mv : Nat) : Nat := if 1620 ≤ mv ∧ mv ≤ 1980 then 0 else if 3000 ≤ mv ∧ mv ≤ 3600 then 1 else 2

/-- The VIO banks detect their voltage at power-up (R522): from the last measurement of the rail; with none, and at any other reset, the finding
stays. -/
def Dev.detectBanks (d : Dev) (old : Dev) (powerUp : Bool) : Dev :=
  [0, 1].foldl (fun (d : Dev) b =>
    let mv := old.f (PWR.RAIL (7 + b)) 0 16
    if mv = 0 || !powerUp then d.putB PWR.RAIL_STAT (16 + b) (old.b PWR.RAIL_STAT (16 + b))
    else
      let off : BitVec 2 := BitVec.ofNat 2 (2 ^ b)
      let d := { d with pwr := { d.pwr with vioOff := if vioRange mv = 2 then d.pwr.vioOff ||| off else d.pwr.vioOff &&& ~~~off } }
      d.putB PWR.RAIL_STAT (16 + b) (vioRange mv = 1)) d

/-- A device reset with a cause (R530, R534): every block as after reset, regions 0 and 1 rewritten with zeros (R459), the tick count
from the calendar, boot phase 1. `class_`, `ctrl`: what woke the module. -/
def State.deviceReset (s : State) (cause class_ ctrl : Nat) : State :=
  let old := s.dev
  let held := old.pwr.phase ≤ 1
  let bit_ := 2 ^ (cause - 1)
  let seen := if held then old.pwr.seen ||| bit_ else bit_
  let ran := !(old.pwr.asleep = 1 && !s.cfg.b PWR.SHELF_CFG 0)
  let d := if old.mode = 2 && held then old else old.event 0x0120 [(old.mode : Int), 2, 1, 0]
  let d := d.cold keptKeys
  let d := d.startTick ran
  let d := d.putN SYS.RST_CAUSE (causeWord seen class_)
  let d := d.putN PWR.WAKE_SRC (class_ + ctrl * 2 ^ 4)
  let d := if cause = 1 || cause = 7 then d.wrap EVR.PWRCYC 0 32 1 else d
  let d := d.detectBanks old (cause = 1)
  let d := if class_ = 0 then d else d.event 0x0204 [(class_ : Int)]
  let d := { d with pwr := { d.pwr with seen := seen, phase := if cause = 2 then 0 else 1 } }
  { s with cfg := s.cfg.cold, store := s.store.zero (fun a => inRegion0 a || inRegion1 a), dev := d }

/-- A reset source of the main domain acts only while that is powered (R527). -/
def State.resetBy (s : State) (cause : Nat) : State := if s.dev.pwr.asleep = 0 then s.deviceReset cause 0 0 else s

/-- POWER_ON_RESET (R521, R529, R530): any rise of VIN through the power-on release. -/
def execPowerOnReset (s : State) : Out := .next (s.deviceReset 1 0 0)

/-- BROWN_OUT (R521, R523, R528): the device is held in reset until the power-on release. Shelf needs no VIN. -/
def execBrownOut (s : State) : Out := .next (if s.dev.pwr.asleep = 1 then s else s.deviceReset 2 0 0)

/-- OVERVOLTAGE_RESET (R521). -/
def execOvervoltageReset (s : State) : Out := .next (s.resetBy 3)

/-- RAIL_RESET (R521): a core rail outside 5 % for 10 microseconds. -/
def execRailReset (rail : Fin 10) (s : State) : Out :=
  .next (if 2 ≤ rail.val ∧ rail.val ≤ 6 then s.resetBy 4 else s)

/-- THERMAL_RESET (R530). -/
def execThermalReset (s : State) : Out := .next (s.resetBy 5)

/-- PIN_RESET (R530). -/
def execPinReset (s : State) : Out := .next (s.resetBy 8)

/-- SYS_WATCHDOG_EXPIRY (R531): TMO ms after the last feed. -/
def execSysWatchdogExpiry (s : State) : Out :=
  .next (if s.dev.b SYS.WDT_STAT 16 && s.dev.mode != 2 then
      ({ s with dev := s.dev.advanceTo (s.dev.pwr.wdtTick + s.cfg.f SYS.WDT_CFG 0 14 * ticksPerMs) } : State).resetBy 9
    else s)

/-- JTAG_RESET (R530, R539): the instruction acts only after authentication. -/
def execJtagReset (s : State) : Out := .next (if s.dev.b SYS.JTAG_STAT 0 then s.resetBy 10 else s)

/-- RST_CMD (R530). -/
def execRstCmd (value : Word) (s : State) : Out :=
  .next { (if fld value 16 16 = 0x9E57 then s.resetBy 11 else s) with bus := .done 0 }

/-- CLOCK_FAULT (R525): a clock outside 1 % or out of lock is recorded; one of clock 0, 3, 4, 5 or 6 resets the device, one of clock 1 loses
REF_IN (R89). -/
def execClockFault (clock : Fin 9) (ppm : BitVec 16) (unlocked : Bool) (s : State) : Out :=
  let k := clock.val
  let fault := unlocked || decide (10000 < ppm.toInt.natAbs)
  let d := s.dev.putN (PWR.CLK k) (ppm.toNat + (!unlocked).toNat * 2 ^ 16 + fault.toNat * 2 ^ 17)
  if !fault then .next { s with dev := d }
  else
    let d := d.event 0x0203 [(k : Int)]
    let s := { s with dev := if k = 1 then d.refInLost s.cfg else d }
    .next (if k = 0 || (3 ≤ k && k ≤ 6) then s.resetBy 6 else s)

/-! ### Supplies and the calendar (R521, R526) -/

/-- A rail's measurements on both bandgaps. -/
def Dev.showRail (d : Dev) (r : Nat) (mv1 mv2 : BitVec 16) (ok : Bool) : Dev :=
  (d.putN (PWR.RAIL r) (mv1.toNat + mv2.toNat * 2 ^ 16)).putB PWR.RAIL_STAT r ok

/-- The warning range of a rail, mV, and how far inside a warning clears (Table 23.1), in thousandths of a mV for the core rails' 3 % and
0.5 %; bandgap 1 judges (log 102). -/
def railWarnRange (d : Dev) (r : Nat) : Nat × Nat × Nat :=
  if r = 0 then (4800000, 5200000, 30000)
  else if r = 1 then (2200000, 4294967295, 100000)
  else if r = 9 then (3000000, 5500000, 50000)
  else if 7 ≤ r then (if d.b PWR.RAIL_STAT (16 + (r - 7)) then (3000000, 3600000, 30000) else (1620000, 1980000, 30000))
  else (970 * Config.railNominal r, 1030 * Config.railNominal r, 5 * Config.railNominal r)

/-- A measurement of a rail lies outside its warning range; or inside by the hysteresis. -/
def railOut (d : Dev) (r mv : Nat) : Bool :=
  let w := railWarnRange d r
  decide (1000 * mv < w.1) || decide (w.2.1 < 1000 * mv)
def railIn (d : Dev) (r mv : Nat) : Bool :=
  let w := railWarnRange d r
  decide (w.1 + w.2.2 ≤ 1000 * mv) && decide (1000 * mv + w.2.2 ≤ w.2.1)

/-- RAIL_WARN (R521): a rail that was in range leaves it. -/
def execRailWarn (rail : Fin 10) (mv1 mv2 : BitVec 16) (s : State) : Out :=
  onDev s fun _ d =>
    let r := rail.val
    let was := d.b PWR.RAIL_STAT r
    let out := railOut d r mv1.toNat
    let d := d.showRail r mv1 mv2 (was && !out)
    if was && out then (d.putB PWR.RAIL_WARN r true).event 0x0201 [(r : Int)] else d

/-- RAIL_OK (R521): a rail that was outside returns, by the hysteresis. -/
def execRailOk (rail : Fin 10) (mv1 mv2 : BitVec 16) (s : State) : Out :=
  onDev s fun _ d =>
    let r := rail.val
    let was := d.b PWR.RAIL_STAT r
    let back := railIn d r mv1.toNat
    let d := d.showRail r mv1 mv2 (was || back)
    if !was && back then d.event 0x0202 [(r : Int)] else d

/-- CAL_INVALID (R526). -/
def execCalInvalid (s : State) : Out := onDev s fun _ d => d.putB PWR.CAL_HI 31 false

/-- The calendar at a second boundary (R526): written from the scale while EVER_LOCKED, else it runs on by itself within 20 ppm. -/
def Dev.writeCalendar (d : Dev) : Dev :=
  if d.b TBU.STATE 7 then (d.putB PWR.CAL_HI 31 true).setCalendar d.tick
  else
    let r := d.calendarNow
    r.2.showCalendar r.1

/-! ### Shelf, Dormant and wake (R527 to R529, R401, R402) -/

/-- Shelf or Dormant is entered (R74, R401, R527): no pallet is left, the SYNC outputs rest; in Dormant every enabled controller has gone to sleep. -/
def Dev.fallAsleep (d : Dev) (c : Cfg) (mode : Nat) : Dev :=
  let d := if mode = 1 then (List.range 6).foldl (fun (d : Dev) n => if c.b (CAN.CFG n) 0 then d.canSleep n else d) d else d
  { d with esc := { d.esc with due := [], syncs := [] }, pwr := { d.pwr with asleep := mode + 1 } }

/-- The module's time at the instant the calendar reaches ALARM, at once where it has (R528). -/
def Dev.toAlarm (d : Dev) (c : Cfg) : Dev :=
  let r := d.calendarNow
  let alarm := ((c.w PWR.ALARM_LO).toNat + c.f PWR.ALARM_HI 0 16 * 2 ^ 32) * ticksPerSec
  r.2.advanceTo (r.2.tick + (alarm - r.1))

/-- WAKE (R527 to R529): WAKE_N wakes from Shelf, a power-on, and from Dormant; a calendar alarm wakes from Dormant. -/
def execWake (cause : WakeCause) (s : State) : Out :=
  .next (
    match cause with
    | .wakeN => if s.dev.pwr.asleep = 1 then s.deviceReset 1 1 0 else if s.dev.pwr.asleep = 2 then s.deviceReset 7 1 0 else s
    | .alarm =>
      if s.dev.pwr.asleep = 2 && s.cfg.b PWR.DORM_CFG 0 then ({ s with dev := s.dev.toAlarm s.cfg } : State).deviceReset 7 3 0 else s)

/-- What the wake decoder of a controller takes as a wake (R402). -/
def wakes (c : Cfg) (n : Nat) (p : CanWakePattern) : Bool :=
  let mode := c.f (CAN.WAKE_CFG n) 0 2
  match p with
  | .dominant us => mode = 1 && decide (5 ≤ us)
  | .frame id xtd rate data =>
    let dlc := c.f (CAN.WAKE_CFG n) 8 4
    let mask := c.w (CAN.WAKE_IDM n) &&& 0x1FFFFFFF
    let idOk := (id.setWidth 32 &&& mask) = (c.w (CAN.WAKE_ID n) &&& mask)
    let byte (r : Nat → Nat → Nat) (i : Nat) : Nat := fld (c.w (r n (i / 4))) (i % 4 * 8) 8
    let dataOk := (List.range (min 8 dlc)).all (fun i =>
      match data[i]? with
      | none => false
      | some b => (b.toNat &&& byte CAN.WAKE_DM i) = (byte CAN.WAKE_DATA i &&& byte CAN.WAKE_DM i))
    mode = 2 && xtd = c.b (CAN.WAKE_CFG n) 2 && rate = c.f (CAN.WAKE_CFG n) 16 8 && idOk && dataOk

/-- CAN_WAKE (R402): the module wakes from Dormant; after boot it is in Configure. -/
def execCanWake (ctrl : Fin 6) (pattern : CanWakePattern) (s : State) : Out :=
  .next (
    let n := ctrl.val
    if s.dev.pwr.asleep = 2 && s.dev.b (CAN.STAT n) 4 && wakes s.cfg n pattern then
      let s := s.deviceReset 7 2 n
      { s with dev := s.dev.event 0x200B [(n : Int), 3] }
    else s)

/-! ### The system watchdog (R531) -/

/-- WDT_FEED (R531). -/
def execWdtFeed (value : Word) (s : State) : Out :=
  onWrite s fun _ d =>
    if fld value 16 16 != 0x5D11 || !d.b SYS.WDT_STAT 16 then d
    else { d.putF SYS.WDT_STAT 0 14 0 with pwr := { d.pwr with wdtTick := d.tick } }

/-! ### Boot (R533 to R538) -/

/-- PHASE_1_COMPLETE (R533): reset is released into mode 2. -/
def execPhase1Complete (s : State) : Out :=
  onDev s fun _ d => if d.pwr.phase = 1 then { d with pwr := { d.pwr with phase := 2 } } else d

/-- The address of the image in slot `k`, 0 A, 1 B (R535). -/
def slotAddr (k : Nat) : Nat := 0x10000000 + k * 0x3000000

/-- A field of the header of the image at an address, `n` bytes from an offset (Table 23.4). -/
def imageField (st : Store) (a off n : Nat) : Nat := leNat (st.bytes (a + off) n)
def imageLen (st : Store) (a : Nat) : Nat := imageField st a 0x10 4
def imageSecVer (st : Store) (a : Nat) : Nat := imageField st a 0x08 4

/-- Offsets of the header's reserved bytes. -/
def imageReserved : List Nat := [0x07] ++ (List.range 4).map (0x14 + ·) ++ (List.range 46).map (0x32 + ·)

/-- The bit of STEPS for the silicon step that ID_STEP names: A0, B0, B1. -/
def stepBit (d : Dev) : Nat := if d.f SYS.ID_STEP 4 4 = 0 then 0 else 1 + d.f SYS.ID_STEP 0 4

/-- The number that a hash spells, its first byte lowest. -/
def hashNumber (l : List Byte) : BitVec 256 := BitVec.ofNat 256 (leNat l)

/-- The image's key slot is not revoked and holds the hash of its public key (R536 item 3). -/
def imageKeyOk (st : Store) (d : Dev) (a : Nat) : Bool :=
  let slot := imageField st a 0x06 1
  decide (slot < 4) && !d.pwr.revoked.getLsbD slot && hashNumber (sha256 (st.bytes (a + 0xC0) 64)) = d.pwr.keyHashes.getD slot 0

/-- The image's signature verifies (R536 item 5). -/
def imageSigOk (st : Store) (a : Nat) : Bool :=
  ecdsaHolds (imageField st a 0xC0 32) (imageField st a 0xE0 32) (imageField st a 0x80 32) (imageField st a 0xA0 32) (st.bytes a 128)

/-- The first failing check of R536 on the image at an address, 0 for a valid one. -/
def imageReason (st : Store) (d : Dev) (a : Nat) : Nat :=
  if imageField st a 0 4 != 0x4D494E4B || imageField st a 4 2 != 1 || imageReserved.any (fun o => st.byte (a + o) != 0) then 1
  else if !(imageField st a 0x30 2).testBit (stepBit d) then 2
  else if !imageKeyOk st d a then 3
  else if imageSecVer st a < d.pwr.minSecVer then 4
  else if !imageSigOk st a then 5
  else if sha256 (st.bytes (a + 0x100) (imageLen st a)) != st.bytes (a + 0x60) 32 then 6
  else if st.readsPoison a (0x100 + imageLen st a) then 7
  else 0

/-- The bytes other than 0 of `n` from an address, by offset. -/
def Store.piece (st : Store) (a n : Nat) : List (Nat × Byte) :=
  (st.mem.filter (fun e => decide (a ≤ e.1) && decide (e.1 < a + n))).map (fun e => (e.1 - a, e.2))

/-- The body of the image at an address is copied to its LOAD address in LPDDR4X (R534, R535). -/
def Store.copyImage (st : Store) (a : Nat) : Store :=
  let len := imageLen st a
  let load := imageField st a 0x18 8
  let inside := fun x => decide (load ≤ x) && decide (x < load + len)
  if load < 0x80000000 || 0x14CCCCCC0 < load + len then st
  else { st.zero inside with
    mem := (st.piece (a + 0x100) len).foldl (fun m e => Assoc.set 0 m (load + e.1) e.2) (st.zero inside).mem }

/-- The keys are loaded (R534 steps 3 and 4). -/
def Dev.loadKeys (d : Dev) : Dev :=
  ({ d with stu := { d.stu with keys := true } }.putB STU.KEYS 0 false).putB EVR.STAT 1 true

/-- The safety monitor's program is loaded and the application cores are released at ENTRY: the watchdog starts (R531, R534). -/
def Dev.releaseCores (d : Dev) (st : Store) (a : Nat) : Dev :=
  let program := st.piece (a + 0x100 + imageField st a 0x28 4) (imageField st a 0x2C 4)
  { (d.putN SYS.WDT_STAT (2 ^ 16)) with
    pwr := { d.pwr with wdtTick := d.tick, runSecVer := imageSecVer st a, entry := some (imageField st a 0x20 8) }
    sfm := { d.sfm with program := program } }

/-- A refused image: FALLBACK, the reason, event 0x0106 (R536). -/
def Dev.refuseImage (d : Dev) (k reason : Nat) : Dev :=
  ((d.putB SYS.BOOT_STAT 3 true).putF SYS.BOOT_STAT 4 4 reason).event 0x0106 [(k : Int), reason]

/-- An image is looked at: its body, when the checks come to it, is read at 200 MB/s, a byte a tick (R534). -/
def Dev.tryImage (d : Dev) (st : Store) (k : Nat) : Nat × Dev :=
  let r := imageReason st d (slotAddr k)
  (r, if r = 0 || 6 ≤ r then d.advanceTo (d.tick + imageLen st (slotAddr k)) else d)

/-- The choice of R536: the image to start, with the refusals recorded on the way. -/
def Dev.selectImage (d : Dev) (st : Store) : Option Nat × Dev :=
  let p0 := d.pwr.prefB.toNat
  let spent := d.pwr.trial.getLsbD p0 && !d.pwr.confirmed.getLsbD p0 && d.pwr.booted.getLsbD p0
  let d := if spent then d.refuseImage p0 8 else d
  let p := if spent then 1 - p0 else p0
  let x := d.tryImage st p
  if x.1 = 0 then (some p, x.2)
  else
    let y := (x.2.refuseImage p x.1).tryImage st (1 - p)
    if y.1 = 0 then (some (1 - p), y.2) else (none, y.2.refuseImage (1 - p) y.1)

/-- An image of slot `k` starts: event, BOOT_STAT, the trial's one start. -/
def Dev.startImage (d : Dev) (st : Store) (k : Nat) : Dev :=
  let trial := d.pwr.trial.getLsbD k
  let d := { d with pwr := { d.pwr with
    phase := 4, booted := if trial then d.pwr.booted ||| BitVec.ofNat 2 (2 ^ k) else d.pwr.booted } }
  (((d.putF SYS.BOOT_STAT 0 2 k).putB SYS.BOOT_STAT 2 trial).event 0x0105 [(k : Int), imageSecVer st (slotAddr k), trial.toNat]).releaseCores
    st (slotAddr k)

/-- No image is valid (R538): recovery, with the SPI service port served. -/
def Dev.recovery (d : Dev) : Dev :=
  ({ d with pwr := { d.pwr with phase := 5 } }.putF SYS.BOOT_STAT 0 2 2).putB HIF.SPI_STAT 1 true

/-- The slots' versions (Table 23.5): 0 for an invalid image. -/
def Dev.showImages (d : Dev) (st : Store) : Dev :=
  let v (k off : Nat) : Nat := if imageReason st d (slotAddr k) = 0 then imageField st (slotAddr k) off 4 else 0
  (((d.putN SYS.IMGA_VER (v 0 0x08)).putN SYS.IMGA_BUILD (v 0 0x0C)).putN SYS.IMGB_VER (v 1 0x08)).putN SYS.IMGB_BUILD (v 1 0x0C)

/-- Phase 2 duration, 2 ms per count (Table 23.5). -/
def Dev.showPhase2 (d : Dev) : Dev := d.putF SYS.BOOT_STAT 8 8 (satU 8 ((d.tick - d.pwr.phase2Tick) / (2 * ticksPerMs)))

/-- BOOT_IMAGE (R534, R536): phase 2 in Configure after a full run; a copy waits for LPDDR4X to be initialised. After a requested run the
image that ran before is verified, without selection, and the keys stay cleared. -/
def execBootImage (_ : Unit) (s : State) : Out :=
  onMem s fun _ st d =>
    if d.pwr.phase != 3 then (st, d)
    else
      let again := d.stu.requested
      let ran := d.f SYS.BOOT_STAT 0 2
      let d := ((d.showImages st).putB MEM.STAT 8 true).putN SYS.BOOT_STAT ((if again then ran else 0) + d.pwr.minSecVer * 2 ^ 16)
      let pick : Option Nat × Dev :=
        if !again then d.selectImage st
        else if ran = 2 then (none, d)
        else
          let x := d.tryImage st ran
          if x.1 = 0 then (some ran, x.2) else (none, (x.2.putF SYS.BOOT_STAT 4 4 x.1).event 0x0106 [(ran : Int), x.1])
      match pick.1 with
      | none => (st, pick.2.showPhase2.recovery)
      | some k =>
        let d := if again then pick.2 else pick.2.loadKeys
        (st.copyImage (slotAddr k), d.showPhase2.startImage st k)

/-- SERVICE_IMAGE (R538): in recovery, an image written to LPDDR4X is checked under R536 and run once. Only a reset leaves recovery. -/
def execServiceImage (image : ServiceImage) (s : State) : Out :=
  onMem s fun _ st d =>
    let a := image.addr.toNat
    if d.pwr.phase != 5 || a < 0x80000000 || 0x14CCCCCC0 < a + image.bytes.length then (st, d)
    else
      let d := d.wrap HIF.SPI_STAT 16 16 1
      let w := st.writeBy d a image.bytes
      let st := w.1
      let d := w.2
      let r := imageReason st d a
      if r != 0 then (st, (d.putF SYS.BOOT_STAT 4 4 r).event 0x0106 [2, (r : Int)])
      else if d.pwr.entry.isSome then (st, d)
      else
        let d := if d.stu.requested then d else d.loadKeys
        (st.copyImage a, (d.event 0x0105 [2, (imageSecVer st a : Int), 0]).releaseCores st a)

/-- BOOT_CMD (R537): the code of BOOT_RES and the new state. -/
def Dev.bootCommand (d : Dev) (st : Store) (value : Word) : Dev :=
  let cmd := fld value 0 3
  let ran := d.f SYS.BOOT_STAT 0 2
  let res (d : Dev) (code : Nat) : Dev := d.putF SYS.BOOT_RES 0 2 code
  if fld value 16 16 != 0xB0C7 then res d 1
  else if cmd = 1 || cmd = 2 then
    let k := cmd - 1
    let r := imageReason st d (slotAddr k)
    if r != 0 && r != 7 then res d 3
    else
      let keep : BitVec 2 := if k = 0 then 2 else 1
      res { d with pwr := { d.pwr with
        prefB := k = 1, trial := d.pwr.trial ||| ~~~keep, booted := d.pwr.booted &&& keep, confirmed := d.pwr.confirmed &&& keep } } 0
  else if cmd = 3 then
    if ran = 2 then res d 2
    else
      let keep : BitVec 2 := if ran = 0 then 2 else 1
      let d := { d with pwr := { d.pwr with trial := d.pwr.trial &&& keep, confirmed := d.pwr.confirmed ||| ~~~keep } }
      res (d.putB SYS.BOOT_STAT 2 false) 0
  else if cmd = 4 then
    if ran = 2 || d.b SYS.BOOT_STAT 2 then res d 2
    else if d.pwr.runSecVer ≤ d.pwr.minSecVer then res d 0
    else if 32 ≤ d.pwr.secSteps then res d 2
    else
      let d := { d with pwr := { d.pwr with minSecVer := d.pwr.runSecVer, secSteps := d.pwr.secSteps + 1 } }
      res ((d.putF SYS.BOOT_STAT 16 8 d.pwr.minSecVer).event 0x0109 [(d.pwr.minSecVer : Int)]) 0
  else res d 2

/-- A write of BOOT_CMD. -/
def bootWrite (value : Word) (s : State) : Out := onWrite s fun _ d => d.bootCommand s.store value

/-- TRY_A (R537). -/
def execTryA (key cmd : BitVec 16) (s : State) : Out := bootWrite (key ++ cmd) s

/-- TRY_B (R537). -/
def execTryB (key cmd : BitVec 16) (s : State) : Out := bootWrite (key ++ cmd) s

/-- CONFIRM (R537). -/
def execConfirm (value : Word) (s : State) : Out := bootWrite value s

/-- RAISE_SECVER (R537). -/
def execRaiseSecver (value : Word) (s : State) : Out := bootWrite value s

/-! ### JTAG (R539, R540) -/

/-- The debug slot that holds the hash of a public key (R539). -/
def debugSlot (d : Dev) (x y : BitVec 256) : Option Nat :=
  let h := hashNumber (sha256 (leBytes 32 x.toNat ++ leBytes 32 y.toNat))
  (List.range 4).find? (fun k => d.pwr.debugHashes.getD k 0 = h)

/-- The answer to a nonce: the slot of its key, when the signature over nonce and UID holds (R539). -/
def debugAnswer (d : Dev) (x y r s : BitVec 256) : Option Nat :=
  match d.pwr.jtagNonce with
  | none => none
  | some n =>
    let uid := d.w SYS.UID_HI ++ d.w SYS.UID_LO
    if ecdsaHolds x.toNat y.toNat r.toNat s.toNat (leBytes 8 n.toNat ++ leBytes 8 uid.toNat) then debugSlot d x y else none

/-- JTAG_AUTH (R492, R539): refused while the boot-verification state is cleared and after 3 failures; a nonce serves one attempt. -/
def execJtagAuth (key : PublicKey) (sig : Signature) (s : State) : Out :=
  onDev s fun _ d =>
    if !d.stu.keys || 3 ≤ d.pwr.jtagFails then d.event 0x0108
    else
      let answer := debugAnswer d key.x key.y sig.r sig.s
      let d := { d with pwr := { d.pwr with jtagNonce := none } }
      match answer with
      | some slot => (d.putN SYS.JTAG_STAT (1 + slot * 4)).event 0x0107 [(slot : Int)]
      | none =>
        let d := { d with pwr := { d.pwr with jtagFails := d.pwr.jtagFails + 1 } }
        (if d.pwr.jtagFails = 3 then d.putB SYS.JTAG_STAT 1 true else d).event 0x0108

/-- JTAG_INSTRUCTION (R539, R540): without authentication, or under the crown, the instructions that act behave as BYPASS. -/
def execJtagInstruction (instr : JtagInstr) (s : State) : Out :=
  onDev s fun _ d =>
    let free := d.b SYS.JTAG_STAT 0 && !d.crown
    let p := { d.pwr with extest := false }
    match instr with
    | .bypass => { d with pwr := p }
    | .idcode => { d with pwr := p }
    | .samplePreload => { d with pwr := p }
    | .readAuth =>
      let (lo, d) := d.takeFree
      let (hi, d) := d.takeFree
      { d with pwr := { p with jtagNonce := some (hi ++ lo) } }
    | .privateOther => { d with pwr := p }
    | .extest => { d with pwr := { p with extest := free && (d.mode = 2 || d.mode = 3 || d.mode = 5) } }
    | .haltCore => { d with pwr := { p with coreHalted := p.coreHalted || free } }
    | .haltMonitor => { d with pwr := { p with monitorHalted := p.monitorHalted || free } }

end Sys2Proof.Machine
end

