-- ==== Sys2Proof/Machine/Boundary.lean ====
section
/-! DEFINITION. The axis 0 beat boundary (03_escapement.md R59, R60, R66, R68, R78 to R81; 02_modes.md R40 to R46; 22_registers.md
R514): what happens at it and in which order, and the time step. -/
namespace Sys2Proof.Machine

/-! ### Pallets in issue order (R66, R69 to R71) -/

/-- Order of the actions within a class (R71). -/
def palletRank (action : Nat) : Nat :=
  match action with
  | 6 => 0 | 7 => 1 | 4 => 2 | 3 => 3 | 1 => 4 | 5 => 5 | 2 => 6 | _ => 7

/-- The first of two lists in the order of their first difference. -/
def firstLess (a b : List Nat) : Bool :=
  match a, b with
  | x :: s, y :: t => if x = y then firstLess s t else decide (x < y)
  | _, _ => false

/-- Tick, class, action, wheel, pallet (R71); of one tick those that a time step has folded come first (R79). -/
def DuePallet.key (p : DuePallet) : List Nat := [p.tick, if p.folded then 0 else 1, p.cls, palletRank p.action, p.wheel, p.pallet]
def palletBefore (a b : DuePallet) : Bool := firstLess a.key b.key

def insertPallet (p : DuePallet) (l : List DuePallet) : List DuePallet :=
  match l with
  | [] => [p]
  | q :: t => if palletBefore p q then p :: q :: t else q :: insertPallet p t

def sortPallets (l : List DuePallet) : List DuePallet := l.foldr insertPallet []

/-- A wheel's boundary on its axis at beat `n` under the ESC values in effect (R66, R68). -/
def wheelFires (c : Cfg) (w axis n : Nat) : Bool :=
  let period := fld (c.e (ESC.WHL_CFG w)) 0 16
  period != 0 && fld (c.e (ESC.WHL_LIST w)) 20 3 = axis && (n + period - fld (c.e (ESC.WHL_CFG w)) 16 16 % period) % period = 0

/-- The wheels with PERIOD above 0 on an axis. -/
def axisWheels (c : Cfg) (axis : Nat) : List Nat :=
  (List.range 32).filter (fun w => fld (c.e (ESC.WHL_CFG w)) 0 16 != 0 && fld (c.e (ESC.WHL_LIST w)) 20 3 = axis)

/-- The pallets of a wheel, placed from the boundary at tick `t` (R69). -/
def wheelPallets (c : Cfg) (w axis t : Nat) : List DuePallet :=
  let l := c.e (ESC.WHL_LIST w)
  ((List.range (fld l 8 9)).map (· + fld l 0 8)).filterMap (fun p =>
    if 256 ≤ p then none
    else
      let a := c.e (ESC.PAL_A p)
      some ⟨t + fld a 8 18, fld a 4 2, fld a 0 4, w, p, axis, c.e (ESC.PAL_B p), false⟩)

/-- The pallets an axis fires at beat `n`. -/
def axisPallets (c : Cfg) (axis n t : Nat) : List DuePallet :=
  ((List.range 32).filter (fun w => wheelFires c w axis n)).flatMap (fun w => wheelPallets c w axis t)

/-- A RELEASE pallet whose slot is a set-point slot. -/
def releasesSetpoint (c : Cfg) (p : DuePallet) : Bool :=
  p.action = 5 && isSetpointSlot c (fld p.arg 0 4) (fld p.arg 8 8)

/-- Wheels fire at beat `n` of their axis: turns counted, pallets scheduled among those still waiting, of every axis (R66, R71, Table
3.3). -/
def Dev.turnWheels (d : Dev) (c : Cfg) (axis n t : Nat) (extra : List DuePallet) : Dev :=
  let d := ((List.range 32).filter (fun w => wheelFires c w axis n)).foldl (fun d w => d.wrap (ESC.WHL_TURNS w) 0 32 1) d
  { d with esc := { d.esc with due := sortPallets (d.esc.due ++ axisPallets c axis n t ++ extra) } }

/-- In the beat of a takeover each RELEASE pallet of the time axis that names a set-point slot fires once (R343). -/
def takeoverPallets (c : Cfg) (n t : Nat) : List DuePallet :=
  ((axisWheels c 0).filter (fun w => !wheelFires c w 0 n)).flatMap (fun w => (wheelPallets c w 0 t).filter (releasesSetpoint c))

/-! ### SYNC outputs and angle axes at a boundary (R62, R75, R77) -/

/-- A SYNC output that is held inactive: EN 0, or PAIR 1 in Standby and Stood-down. -/
def syncHeld (c : Cfg) (d : Dev) (o : Nat) : Bool :=
  !bit (c.e (ESC.SYNC_CFG o)) 0 || (bit (c.e (ESC.SYNC_CFG o)) 2 && (d.mode = 4 || d.mode = 5))

def Dev.restSyncs (d : Dev) (c : Cfg) : Dev :=
  { d with esc := { d.esc with syncs := d.esc.syncs.filter (fun p => !syncHeld c d p.1) } }

def axisDev (d : Dev) (a : Nat) : AxisDev := Assoc.get {} d.esc.axes a
def Dev.putAxis (d : Dev) (a : Nat) (x : AxisDev) : Dev := { d with esc := { d.esc with axes := Assoc.set {} d.esc.axes a x } }

/-- The position in the forward direction (R62). -/
def axisPosition (c : Cfg) (a : Nat) (count : Word) : Word := if bit (c.e (ESC.AX_CFG a)) 1 then -count else count
def axisInc (c : Cfg) (a : Nat) : Nat := fld (c.e (ESC.AX_INC a)) 0 24

/-- Axes follow AXn_CFG.EN: enabled from the count held now, disabled with nothing pending (R62). DESIGN CHOICE (log 77): an axis that is
disabled while STALLED loses STALLED, and records no AXIS_RESUMED. -/
def Dev.axesFollow (d : Dev) (c : Cfg) : Dev :=
  (List.range 4).foldl (fun d a =>
    let want := bit (c.e (ESC.AX_CFG a)) 0
    if want = (axisDev d a).on then d
    else if want then
      d.putAxis a { on := true, nextB := axisPosition c a (d.w (ENC.ENC_POS a)) + wd (axisInc c a), lastBeat := d.tick }
    else (d.putAxis a {}).putB ESC.AX_STAT a false) d

/-! ### The beat number (R60, R104) -/

def Dev.numberBeat (d : Dev) : Dev :=
  let now := d.esc.boundary / ticksPerMs
  let d :=
    if d.esc.loaded then { d with esc := { d.esc with beat := (d.esc.beat + 1) % 2 ^ 48 } }
    else { d with esc := { d.esc with beat := now % 2 ^ 48, loaded := true, slipLive := false } }
  d.putI ESC.BEAT_SLIP (if d.esc.slipLive then (now : Int) - d.esc.beat else 0)

/-! ### Mode transitions at a boundary (R40, R41, R46, R514 step 1) -/

/-- The ramp beat ends (R46): the crown is released, loops halt, outputs go off slowly. -/
def Dev.endRamp (d : Dev) (c : Cfg) : Dev :=
  if !d.modes.rampBeat then d
  else
    let d := { d with modes := { d.modes with rampBeat := false } }
    (((d.dropCrown c true).lawModeEdge c 6 d.runMode 3).loopSync c).driveField c true

/-- A request displaced by an automatic transition (R41). -/
def Dev.displaceRequest (d : Dev) : Dev :=
  match d.modes.request with
  | none => d
  | some w => ({ d with modes := { d.modes with request := none } } : Dev).modeResult 8 (fld w 0 4) 0

/-- Causes that wait for a later boundary (R41): while the module is in the mode they leave. -/
def keepWanted (d : Dev) (done : Nat) : List WantedTransition :=
  (stillWanted d done).filter (fun w =>
    (w.cause != 7 || d.mode = 4) && (w.cause != 8 || (d.mode = 5 && pairSync d = 4)) && (w.cause != 11 || d.mode = 9))

/-- The takeover's mode change (R343, R53): set-point slots and the outputs of the mirrored loops are written, RELEASE pallets of set-point
slots fire in this beat. -/
def Dev.takeoverEdge (d : Dev) (c : Cfg) : Dev :=
  let d := (d.sendSetpoints c).loopsEmit c
  ({ d with prc := { d.prc with takeoverBeat := some d.esc.beat } } : Dev).partnerTimeLost c

/-- An automatic transition (R41). -/
def Dev.autoStep (d : Dev) (c : Cfg) (cause target : Nat) : Dev :=
  let d := d.displaceRequest
  let d := d.enterMode c target cause 0
  let d := if cause = 4 then d.takeoverEdge c else d
  { d with modes := { d.modes with wanted := keepWanted d cause } }

/-- Shelf or Dormant is entered by request: jobs are cancelled (Table 2.9). -/
def Dev.stepToSleep (d : Dev) (c : Cfg) (target station : Nat) : Dev :=
  let d := (List.range 7).foldl (fun (d : Dev) k => d.cancelStream k) d
  (d.enterMode c target 3 station).fallAsleep c target

/-- A requested full run (R27, R489, R492, R534): every block returns to its reset state but for what R534 keeps. -/
def State.stepToSelfTest (s : State) (station : Nat) : State :=
  let checked := s.cfg.classChecked
  let d := if checked then s.dev else s.dev.event 0x0110
  let d := d.event 0x0120 [3, 2, 3, (station : Int)]
  let d := (d.cold (keptKeys ++ keptByRequest)).startTick true
  let d := if checked then d else d.putB SYS.STAT 0 true
  let d := ((d.putF SYS.MODE 0 4 2).putF SYS.MODE 4 4 3).putF SYS.MODE 16 8 3
  { s with
    cfg := s.cfg.cold
    store := s.store.zero inRegion0
    dev := { d with stu := { d.stu with requested := true }, pwr := { d.pwr with phase := 2 } } }

/-- A request is carried out (Table 2.8). -/
def State.stepTo (s : State) (target station : Nat) : State :=
  if target = 2 then s.stepToSelfTest station
  else if target ≤ 1 then { s with dev := s.dev.stepToSleep s.cfg target station }
  else
    let d := if target = 3 then s.dev.transferAbandon else s.dev
    { s with dev := d.enterMode s.cfg (if target = 4 then 5 else target) 3 station }

/-- The request held for this boundary (R40, R44, R515). -/
def State.requestStep (s : State) : State :=
  match s.dev.modes.request with
  | none => s
  | some w =>
    let t := fld w 0 4
    let d := { s.dev with modes := { s.dev.modes with request := none } }
    let s := { s with dev := d }
    let r := requestCode s.cfg d w
    if 2 ≤ r.1 then { s with dev := d.modeResult r.1 t r.2 }
    else if decide (6 ≤ t ∧ t ≤ 10) && !d.crown && !latchFree d then { s with dev := d.modeResult 2 t 0 }
    else
      let e := if d.mode = 3 && (t = 6 || t = 4) then s.modeEdgeCommit else (s, true)
      if !e.2 then { e.1 with dev := e.1.dev.modeResult 4 t 2 }
      else ({ e.1 with dev := e.1.dev.modeResult r.1 t 0 } : State).stepTo t (fld w 8 8)

/-- The request held for this boundary asks for Lock-out and is accepted (R41). -/
def lockoutAsked (c : Cfg) (d : Dev) : Bool :=
  match d.modes.request with
  | none => false
  | some w => fld w 0 4 = 11 && (requestCode c d w).1 = 0

/-- The transition of this boundary (R41): an automatic Lock-out, a requested one, then the automatic one of highest precedence, else the
request. -/
def State.settleModes (s : State) : State :=
  let s := { s with dev := { s.dev with modes := { s.dev.modes with openFrame := false, openSwap := false } } }
  let asked (s : State) : State :=
    let s := s.requestStep
    { s with dev := { s.dev with modes := { s.dev.modes with wanted := keepWanted s.dev 0 } } }
  match firstWanted s.cfg s.dev with
  | some x => if lockoutAsked s.cfg s.dev && causeRank x.1 != 1 then asked s else { s with dev := s.dev.autoStep s.cfg x.1 x.2 }
  | none => asked s

/-- The swap pending on this module is evaluated at this boundary (R347). -/
def swapDue (d : Dev) : Bool := d.crown && d.prc.swap.any (fun x => decide (x.atBeat ≤ d.esc.beat))

/-- A transition of precedence `rank` or higher stands, an accepted request for Lock-out among them (R41). -/
def wantedRank (c : Cfg) (d : Dev) (rank : Nat) : Bool :=
  lockoutAsked c d || (match firstWanted c d with | none => false | some x => decide (causeRank x.1 ≤ rank))

/-- The transition step of the boundary (R41, R514): only Lock-out goes ahead of a swap due now; what may only follow a degradation waits, in
modes 8 to 10, for the fusion frame that closes at this boundary. -/
def State.modeStep (s : State) : State :=
  let d := s.dev
  let swap := swapDue d && !wantedRank s.cfg d 1
  let frame := decide (8 ≤ d.mode ∧ d.mode ≤ 10) && d.esc.beat % 10 = 0 && !wantedRank s.cfg d 4
  if swap || frame then { s with dev := { d with modes := { d.modes with openFrame := frame, openSwap := swap } } }
  else s.settleModes

/-- What waited is carried out once nothing of this boundary is open any more. -/
def State.closeModes (s : State) : State :=
  if s.dev.modes.openFrame || s.dev.modes.openSwap then s else s.settleModes

/-- A frame closes at this boundary (R191) and has not yet. -/
def frameDue (d : Dev) : Bool :=
  d.esc.loaded && decide (3 ≤ d.mode) && decide (d.esc.beat % 10 = 0)
    && !(match d.fus.frames with | [] => false | r :: _ => decide (r.beat = d.esc.beat))

/-- What waits for the close of the boundary's frame is carried out. -/
def State.frameClosed (s : State) : State :=
  if !s.dev.modes.openFrame || coastOut s.dev then s
  else ({ s with dev := { s.dev with modes := { s.dev.modes with openFrame := false } } } : State).closeModes

/-- FUS_FRAME_CLOSE (R191): a frame closes at an axis 0 boundary whose beat number is a multiple of 10, once. The transitions of the boundary
follow, unless coasting has just run out (R201). -/
def execFusFrameClose (_ : Unit) (s : State) : Out :=
  .next (if frameDue s.dev then ({ s with store := (closeFrame s.cfg s.store s.dev).1, dev := (closeFrame s.cfg s.store s.dev).2 } :
    State).frameClosed else s)

/-- COAST_EXPIRED (R201, R204): COAST_LEFT is 0; SPLIT_EXPIRY or REF_LOSS falls on this boundary (R50, R52). -/
def execCoastExpired (s : State) : Out :=
  let d := s.dev
  if !coastOut d then .next s
  else
    let d := ((d.putB FUS.SPLIT_STAT 1 true).event 0x1115).want (if inSplit d then 9 else 10) 7
    let s := { s with dev := { d with modes := { d.modes with openFrame := false } } }
    .next s.closeModes

/-- SWAP_HANDOVER (R347): boundary h of a pending swap, on the active and on the standby. A granted handover is the transition of the
boundary (R41). -/
def execSwapHandover (s : State) : Out :=
  let d := s.dev
  match d.prc.swap with
  | none => .next s
  | some x =>
    if d.esc.beat < x.atBeat then .next s
    else
      let d := { d with prc := { d.prc with swap := none } }
      if d.crown then
        let e := d.handover s.cfg x
        if e.mode = d.mode then
          .next ({ s with dev := { e with modes := { e.modes with openSwap := false } } } : State).closeModes
        else
          let e := e.displaceRequest
          .next { s with dev := { e with modes := { e.modes with openSwap := false, openFrame := false, wanted := keepWanted e 5 } } }
      else if d.mode != 4 then .next { s with dev := d }
      else if latchFree d then .next { s with dev := d.takeOver s.cfg }
      else .next { s with dev := { d with prc := { d.prc with swapTake := true } } }

/-- Self-test exits (R498, R532, R533): Configure is entered, the recorder is ready, the beat number is loaded. -/
def Dev.exitSelfTest (d : Dev) (c : Cfg) : Dev :=
  let d := { d with
    stu := { d.stu with ended := false }, pwr := { d.pwr with phase := 3, phase2Tick := d.tick }, modes := { d.modes with wanted := [], request := none } }
  let d := d.numberBeat.putB EVR.STAT 3 true
  let cause := d.w SYS.RST_CAUSE
  let d := if d.stu.requested then d else d.event 0x0104 [(fld cause 0 4 : Int), fld cause 4 12]
  d.enterMode c 3 2 0

/-! ### Counters of milliseconds -/

/-- OPTIME, the watchdogs' times since their feeds (R438, R474, R531). -/
def Dev.countMs (d : Dev) : Dev :=
  let op := (d.w EVR.OPTIME_LO).toNat + d.f EVR.OPTIME_HI 0 16 * 2 ^ 32 + 1
  let d := d.put64 EVR.OPTIME_LO EVR.OPTIME_HI (op % 2 ^ 48)
  let d := if d.b FIO.WDG_STAT 0 then d.putF FIO.WDG_STAT 8 8 (satU 8 ((d.tick - d.field.fedTick) / ticksPerMs)) else d
  if d.b SYS.WDT_STAT 16 && d.mode != 2 then d.putF SYS.WDT_STAT 0 14 (satU 14 ((d.tick - d.pwr.wdtTick) / ticksPerMs)) else d

/-- Averages over the last second whose values the spec leaves open: VIN power (Table 23.6), lane and cluster load (Table 9.7); free
values (log 5). -/
def Dev.showLoads (d : Dev) : Dev :=
  let one (d : Dev) (k m : Nat) : Dev := d.takeFree.2.putN k (d.takeFree.1.toNat % m)
  (List.range 4).foldl (fun d n => one d (SLV.CL_BUSY n) 1001) (one (one d PWR.POWER 65536) SLV.UTIL 1001)

/-- A second boundary (R62, R526). -/
def Dev.secondBoundary (d : Dev) : Dev :=
  if d.esc.boundary % ticksPerSec != 0 then d
  else
    let d := if d.esc.ovrSec = 0 then d
      else { d.event 0x0303 [(d.esc.ovrSec : Int), d.esc.ovrAxes] with esc := { d.esc with ovrSec := 0, ovrAxes := 0 } }
    d.showLoads.writeCalendar

/-! ### The boundary (R514) -/

/-- Pallets of the time axis for this beat (R66, R343). -/
def Dev.placePallets (d : Dev) (c : Cfg) : Dev :=
  let n := d.esc.beat
  let t := d.esc.boundary
  d.turnWheels c 0 n t (if d.prc.takeoverBeat = some n then takeoverPallets c n t else [])

/-- The ended beat: its block is sealed, its items are delivered (in step on the journal they come with its blocks), the pair's
work (R29, R318 to R330). -/
def State.closeBeat (s : State) : State :=
  let items := s.dev.flow.captured
  let d := ({ s.dev with flow := { s.dev.flow with captured := [] } } : Dev)
  let d := d.sealBeat s.cfg s.store
  let d := if standbyRun d && !d.crown then d else d.deliver s.cfg items
  ({ s with dev := (d.pairBoundary s.cfg items).returnCredits s.cfg items } : State).catchUp

/-- Everything a boundary does once its beat is numbered, in the order of R514; the blocks' own work of each beat follows. -/
def State.boundaryWork (s : State) : State :=
  let s := s.closeBeat
  let s := ({ s with dev := s.dev.endRamp s.cfg } : State).modeStep
  if s.dev.mode ≤ 2 then s
  else
    let s := s.boundaryCommits.takeEsc
    let c := s.cfg
    let d := (((s.dev.restSyncs c).axesFollow c).placePallets c).vecBoundary.referAttitude c
    { s with dev := ((((d.lawBoundary c).restartGates).countMs).secondBoundary) }

/-! ### The time step (R78 to R81, R104, R177, R243, R300) -/

def mapVals {α : Type} (f : α → α) (l : List (Nat × α)) : List (Nat × α) := l.map (fun p => (p.1, f p.2))

/-- An instant held in the state moves with the scale. -/
def movedTick (delta : Int) (t : Nat) : Nat := ((t : Int) + delta).toNat

def movedItem (delta : Int) (i : Item) : Item := { i with tick := movedTick delta i.tick }

/-- Items captured and not yet delivered move with the scale (R177). -/
def Dev.stepItems (d : Dev) (delta : Int) : Dev :=
  let it := movedItem delta
  let jr (r : JournalRecord) : JournalRecord := match r with | .item i => .item (it i) | x => x
  { d with
    flow := { d.flow with
      captured := d.flow.captured.map it, held := d.flow.held.map (fun p => (movedTick delta p.1, it p.2)), delivered := d.flow.delivered.map (fun p => (movedTick delta p.1, it p.2))
      lastItem := mapVals (Option.map it) d.flow.lastItem, lastValid := mapVals (Option.map it) d.flow.lastValid }
    prc := { d.prc with block := d.prc.block.map jr, captures := mapVals (List.map it) d.prc.captures } }

/-- Instants the blocks time by move with the scale, so that every duration goes on (R243; DEDUCED for the others, log 27). -/
def Dev.stepTimers (d : Dev) (delta : Int) : Dev :=
  let t := movedTick delta
  let o := Option.map t
  let os (x : OutDev) : OutDev := { x with
    offTick := t x.offTick, fastTick := t x.fastTick, hotTicks := x.hotTicks.map t, diagTick := o x.diagTick }
  let enc (x : EncDev) : EncDev := { x with
    reading := o x.reading, started := o x.started, readTick := o x.readTick, track := x.track.map (fun p => (t p.1, p.2)), faultTick := t x.faultTick }
  let chan (x : ChanDev) : ChanDev := { x with
    goodSince := o x.goodSince, lowSince := o x.lowSince, highSince := o x.highSince, pullTick := t x.pullTick, lostTick := t x.lostTick
    codeTick := t x.codeTick, prompts := x.prompts.map (fun p => (t p.1, p.2)), rove := x.rove.map (fun p => (t p.1, p.2)), requeue := o x.requeue }
  let plan (x : Plan) : Plan := { x with t0 := t x.t0 }
  let port (x : EthDev) : EthDev := { x with
    lineFree := t x.lineFree, ptpTicks := x.ptpTicks.map (fun p => (p.1, t p.2)), announceTick := t x.announceTick, lastSync := x.lastSync.map (fun p => (t p.1, p.2))
    syncs := x.syncs.map (fun p => (p.1, t p.2)), pdelayIn := x.pdelayIn.map (fun p => (t p.1, p.2)), pdelayOut := x.pdelayOut.map (fun p => (t p.1, p.2)) }
  let nym (x : NymEntry) : NymEntry := { x with last := t x.last, canLast := mapVals t x.canLast }
  let can (x : CanDev) : CanDev := { x with
    clashes := mapVals (List.map t) x.clashes, refLast := x.refLast.map (fun p => (p.1, t p.2.1, t p.2.2)),
    refTick := o x.refTick, nlTick := t x.nlTick, loadTick := o x.loadTick, refWait := x.refWait.map (fun p => (p.1, t p.2.1, p.2.2)) }
  let axis (x : AxisDev) : AxisDev := { x with lastBeat := t x.lastBeat, stalledAt := t x.stalledAt, served := o x.served }
  let src (x : SourceDev) : SourceDev := { x with refTick := t x.refTick }
  { d with
    modes := { d.modes with neutralSince := o d.modes.neutralSince }
    esc := { d.esc with
      issued := o d.esc.issued, axes := mapVals axis d.esc.axes }
    tbu := { d.tbu with
      srcs := mapVals src d.tbu.srcs, ppsIn := d.tbu.ppsIn.map (fun p => (t p.1, p.2)), gnss := d.tbu.gnss.map (fun p => (p.1, t p.2.1, p.2.2))
      ppsLabel := d.tbu.ppsLabel.map (fun p => (t p.1, p.2.1, t p.2.2)) }
    rbb := { d.rbb with
      chans := mapVals chan d.rbb.chans, engines := mapVals (fun x => { x with start := t x.start }) d.rbb.engines
      holds := mapVals o d.rbb.holds, highTick := o d.rbb.highTick, isbTick := t d.rbb.isbTick, agcSince := o d.rbb.agcSince
      excluded := d.rbb.excluded.map (fun p => (p.1, t p.2)), corrTick := o d.rbb.corrTick }
    slv := { d.slv with jobs := d.slv.jobs.map (fun j =>
      { j with dlTick := o j.dlTick, setupTick := t j.setupTick, heldSince := t j.heldSince, t0 := t j.t0 }) }
    law := { d.law with
      joyTick := t d.law.joyTick, busTick := mapVals t d.law.busTick, refTick := t d.law.refTick
      plan := d.law.plan.map plan, planPrev := d.law.planPrev.map plan
      routeFrom := d.law.routeFrom.map (fun p => (p.1, p.2.1, t p.2.2)) }
    prc := { d.prc with
      latchTick := t d.prc.latchTick, lastHb := d.prc.lastHb.map (fun h => (h.1, t h.2.1, h.2.2)), askAfter := t d.prc.askAfter
      transferTick := o d.prc.transferTick, lineFree := t d.prc.lineFree, txTick := t d.prc.txTick, linkTick := t d.prc.linkTick
      seizeTick := t d.prc.seizeTick, testTick := t d.prc.testTick, crownInTick := t d.prc.crownInTick
      linkQueue := d.prc.linkQueue.map (fun x => { x with since := t x.since })
      flight := d.prc.flight.map (fun f => { f with tick := t f.tick }) }
    sfm := { d.sfm with conns := mapVals (fun (x : ConnDev) => { x with expire := o x.expire, hbTick := o x.hbTick }) d.sfm.conns }
    can := mapVals can d.can
    sw := { d.sw with ports := mapVals port d.sw.ports, table := d.sw.table.map (fun p => (p.1, p.2.1, t p.2.2)) }
    nym := { d.nym with roster := mapVals nym d.nym.roster, selfTick := o d.nym.selfTick, clashTick := t d.nym.clashTick }
    field := { d.field with
      outs := mapVals os d.field.outs, sups := mapVals (fun x => { x with goodSince := o x.goodSince }) d.field.sups
      ins := mapVals (fun x => { x with sampled := o x.sampled, instant := none }) d.field.ins
      ains := mapVals (fun x => { x with converted := o x.converted, shuntTick := t x.shuntTick }) d.field.ains
      pulses := d.field.pulses.map (fun p => (p.1, t p.2))
      encs := mapVals enc d.field.encs, fedTick := t d.field.fedTick }
    uarts := mapVals (fun x => { x with tx := x.tx.map (fun p => (p.1, t p.2)), rx := x.rx.map (fun b => { b with start := t b.start }) }) d.uarts
    memd := { d.memd with lapStart := t d.memd.lapStart }
    evr := { d.evr with
      freezeTick := t d.evr.freezeTick, nonce := d.evr.nonce.map (fun p => (p.1, t p.2)), lockTick := t d.evr.lockTick,
      granTick := o d.evr.granTick, filled := t d.evr.filled, returned := d.evr.returned.map (fun p => (p.1, t p.2)) }
    hck := { d.hck with pending := d.hck.pending.map (fun p => (t p.1, p.2)), lastTrigger := o d.hck.lastTrigger }
    pwr := { d.pwr with wdtTick := t d.pwr.wdtTick, phase2Tick := t d.pwr.phase2Tick, calTick := t d.pwr.calTick } }

/-- Pallets across the step (R79): those at or after the step instant fire at it, in the order of R71; the others keep their instants. -/
def foldPallets (due : List DuePallet) (stepAt : Nat) (delta : Int) : List DuePallet × Nat :=
  let late (p : DuePallet) : Bool := p.axis = 0 && decide (stepAt ≤ p.tick)
  let early := (due.filter (fun p => !late p)).map (fun p => { p with tick := movedTick delta p.tick })
  let folded := (due.filter late).map (fun p => { p with tick := movedTick delta stepAt, folded := true })
  (early ++ sortPallets folded, folded.length)

/-- The step instant (R78 to R81, R101, R104): the scale moves, the beat that contains it ends, a boundary falls. DESIGN CHOICE (log 78):
256 folded pallets show as 255 in FOLDED, and the event carries 256. -/
def State.stepBoundary (s : State) : State :=
  let c := s.cfg
  let d := s.dev
  let delta := d.tbu.stepDelta
  let reload := d.tbu.stepFirst
  let stepAt := d.tbu.stepAt
  let was := d.esc.beat
  let d := d.loopSkip c stepAt
  let f := foldPallets d.esc.due stepAt delta
  let d := { d with esc := { d.esc with due := f.1 } }
  let d := ((d.stepItems delta).stepTimers delta).tbuStep c
  let d := { d with esc := { d.esc with loaded := d.esc.loaded && !reload, slipLive := true, boundary := movedTick delta stepAt } }
  let d := d.numberBeat
  let d := d.fusStep delta (if reload then (d.esc.beat : Int) - (was + 1) else 0)
  let d := ((d.wrap ESC.STEP_STAT 0 16 1).putF ESC.STEP_STAT 16 8 (satU 8 f.2)).putB ESC.STEP_STAT 24 false
  let d := d.event 0x0306 [delta, (d.esc.beat : Int), d.s ESC.BEAT_SLIP 0 32, (f.2 : Int)]
  let s := ({ s with dev := d } : State).boundaryWork
  { s with dev := s.dev.stepGates s.cfg }

/-! ### The boundary's commands -/

/-- A boundary of the old scale less than 0.5 ms before the step instant is suppressed (R78); a reload suppresses none (R104). -/
def suppressedAt (d : Dev) (t : Nat) : Bool := !d.tbu.stepFirst && decide (d.tbu.stepAt < t + ticksPerMs / 2)

/-- The next axis 0 boundary (R59, R85): the multiple of 200 000 that follows the last one, also where the count has reached or passed
it. -/
def nextBoundary (d : Dev) : Nat := (d.esc.boundary / ticksPerMs + 1) * ticksPerMs

/-- The module's time is brought to the next boundary. -/
def Dev.toBoundary (d : Dev) : Dev :=
  let t := nextBoundary d
  { d.advanceTo t with esc := { d.esc with boundary := t } }

/-- A boundary in Self-test: a request held for it is evaluated (R40; log 79), unless the run's end takes the boundary (R41). -/
def State.testBeat (s : State) : State :=
  let d := s.dev.toBoundary.countMs
  if d.stu.ended then { s with dev := (d.displaceRequest).exitSelfTest s.cfg }
  else ({ s with dev := d } : State).requestStep

/-- BEAT_BOUNDARY (R59, R78, R514). -/
def State.beat (s : State) : State :=
  if s.dev.pwr.asleep != 0 || s.dev.pwr.phase = 0 then s
  else if s.dev.mode = 2 then s.testBeat
  else if stepPending s.dev && decide (s.dev.tbu.stepAt ≤ nextBoundary s.dev) then s.stepBoundary
  else if stepPending s.dev && suppressedAt s.dev (nextBoundary s.dev) then { s with dev := s.dev.toBoundary }
  else ({ s with dev := s.dev.toBoundary.numberBeat } : State).boundaryWork

def execBeatBoundary (s : State) : Out := .next s.beat

/-- TIME_STEP_INSTANT (R101). -/
def execTimeStepInstant (s : State) : Out := .next (if stepPending s.dev && s.dev.mode != 2 then s.stepBoundary else s)

end Sys2Proof.Machine
end

