-- ==== Sys2Proof/Machine/Escapement.lean ====
section
/-! DEFINITION. The escapement's pallets, SYNC outputs and angle axes (03_escapement.md R62 to R77), with the release of scheduled
frames (R384, R413, R367). -/
namespace Sys2Proof.Machine

/-! ### A pallet starts (R71 to R73) -/

/-- The start of a pallet `late` ticks after its instant: not before the tick after the last one issued (R71). -/
def palletStart (d : Dev) (p : DuePallet) (late : Nat) : Nat :=
  match d.esc.issued with
  | none => p.tick + late
  | some t => max (p.tick + late) (t + 1)

/-- The next scheduled pallet, when its action is `action`: one starts a tick (R71); one that starts more than 1 microsecond after its
instant is counted and recorded (R73). -/
def Dev.takePallet (d : Dev) (action late : Nat) : Option (DuePallet × Dev) :=
  match d.esc.due with
  | [] => none
  | p :: rest =>
    if p.action != action then none
    else
      let start := palletStart d p late
      let lag := start - p.tick
      let d := ({ d with esc := { d.esc with due := rest, issued := some start } } : Dev).advanceTo start
      some (p, if ticksPerUs < lag then (d.bump ESC.PAL_LATE_CNT).event 0x0304 [(p.wheel : Int), p.pallet, lag] else d)

/-- A pallet command on the units. -/
def onPallet (s : State) (action late : Nat) (f : Cfg → DuePallet → Dev → Dev) : Out :=
  onDev s fun c d =>
    match d.takePallet action late with
    | none => d
    | some x => f c x.1 x.2

/-- PALLET_NONE (R70). -/
def execPalletNone (late : Nat) (s : State) : Out := onPallet s 0 late fun _ _ d => d

/-- A wheel's trigger edge, for the tracks (R171). -/
def Dev.triggered (d : Dev) (w t : Nat) : Dev := { d with esc := { d.esc with trigs := (w, t) :: d.esc.trigs } }

/-- A SYNC pulse is ordered (R75 to R77): its edge falls on the pallet's tick (R72), its width is timed on the oscillator. -/
def Dev.pulseSync (d : Dev) (c : Cfg) (p : DuePallet) : Dev :=
  let o := fld p.arg 0 4
  let x : SyncDev := Assoc.get {} d.esc.syncs o
  let edge := ((d.tbu.cycles : Int) + cyclesTo d p.tick).toNat
  let till := edge + fld p.arg 4 10 * ticksPerUs
  let put (d : Dev) (x : SyncDev) : Dev := { d with esc := { d.esc with syncs := Assoc.set {} d.esc.syncs o x } }
  let d := d.triggered p.wheel p.tick
  if syncHeld c d o then d
  else if x.active && decide (edge < x.until_) then ((put d { x with until_ := max x.until_ till }).bump ESC.SYNC_OVL_CNT).event 0x0305 [(o : Int)]
  else put d { active := true, until_ := till }

/-- PALLET_SYNC (R70, R75 to R77). -/
def execPalletSync (late : Nat) (s : State) : Out := onPallet s 1 late fun c p d => d.pulseSync c p

/-- SYNC_PULSE_END (R75). -/
def execSyncPulseEnd (out : Fin 16) (s : State) : Out :=
  onDev s fun _ d =>
    let x : SyncDev := Assoc.get {} d.esc.syncs out.val
    if !x.active then d
    else
      let d := d.advanceCycles x.until_
      { d with esc := { d.esc with syncs := Assoc.set {} d.esc.syncs out.val {} } }

/-- An LPE group with PACE 1 owns job group `g` (R70, R298). -/
def loopsOwn (c : Cfg) (g : Nat) : Bool :=
  (List.range 4).any (fun k => c.b (LPE.GRP_CFG k) 2 && c.f (LPE.GRP_CFG k) 8 8 = g)

/-- PALLET_JOB (R70): the law's group, the paced loop groups, or nobody's. -/
def execPalletJob (late : Nat) (fb : Option (List (Fin 64 × Int))) (s : State) : Out :=
  onMem s fun c st d =>
    match d.takePallet 2 late with
    | none => (st, d)
    | some x =>
      let g := fld x.1.arg 0 8
      let d := x.2
      if !lawOwns c g && !loopsOwn c g then (st, d.eventSec 0x0307 0 [(x.1.wheel : Int), x.1.pallet])
      else
        let r := if lawOwns c g then lawGroup c st d g else (st, d)
        (r.1, if loopsOwn c g then r.2.pacedSamples c r.1 g fb else r.2)

/-- PALLET_SAMPLE (R70, R448, R451). -/
def execPalletSample (late : Nat) (s : State) : Out :=
  onPallet s 3 late fun c p d => d.sampleGroup c (fld p.arg 0 8)

/-- PALLET_LATCH (R70, R455): the encoders of MASK. -/
def execPalletLatch (late : Nat) (s : State) : Out :=
  onPallet s 4 late fun c p d =>
    (List.range 4).foldl (fun (d : Dev) ch => if bit p.arg ch then d.latchEncoder c ch else d) d

/-- PALLET_HACK (R70, R483): a trigger with source ESC. -/
def execPalletHack (late : Nat) (s : State) : Out := onPallet s 7 late fun c _ d => d.hackTrigger c 5

/-! ### RELEASE (R384, R385, R413, R464, Table 2.9) -/

/-- A release of a set-point slot before its tick's set-points are written (R284). -/
def Dev.lateSetpoint (d : Dev) (c : Cfg) (port slot : Nat) : Dev :=
  if d.law.spPending && isSetpointSlot c port slot then (d.bump LAW.SP_LATE_CNT).event 0x130A [(port : Int), slot] else d

/-- A set-point slot in a mode that sends no set-points (Table 2.9). -/
def withheld (c : Cfg) (d : Dev) (port slot : Nat) : Bool := isSetpointSlot c port slot && !sendsSetpoints d

/-- The scheduled frame of slot `slot` on CAN port `n` (R384, R385, R464). -/
def releaseCan (c : Cfg) (st : Store) (d : Dev) (n slot : Nat) : Store × Dev :=
  let cfg := c.w (CAN.FS_CFG n slot)
  let len := dlcLen (fld cfg 8 4)
  if 32 ≤ slot || !canOn d n || !bit cfg 0 then (st, d)
  else if !d.crown then (st, d.wrap (CAN.STAT2 n) 0 16 1)
  else
    let d := d.lateSetpoint c n slot
    let frame := canEntry 0 255 (c.w (CAN.FS_ID n slot)) (fld cfg 1 2) (d.payload (n * 256 + slot) len)
    let r := readBuffer st d ((Config.implWord 2 n).toNat + 64 * slot) len
    if r.1 then (r.2.1, (r.2.2.txEvent n frame 3).poisonUse (.port n slot))
    else if bit cfg 3 then (r.2.1, r.2.2.osiRelease c n slot)
    else if withheld c d n slot then (r.2.1, r.2.2)
    else (r.2.1, r.2.2.fifoPut c n frame)

/-- The scheduled frame of slot `slot` on Ethernet port `n` (R413, R464). -/
def releaseEth (c : Cfg) (st : Store) (d : Dev) (n slot : Nat) : Store × Dev :=
  let cfg := c.w (ETH.SL_CFG n slot)
  let port := 8 + n
  let len := fld cfg 8 7
  if 32 ≤ slot || !c.b (ETH.CFG n) 0 || !bit cfg 0 || !d.crown then (st, d)
  else
    let d := d.lateSetpoint c port slot
    let r := readBuffer st d ((Config.implWord 5 n).toNat + 64 * slot) len
    if r.1 then (r.2.1, r.2.2.poisonUse (.port port slot))
    else if bit cfg 3 then (r.2.1, r.2.2.osiRelease c port slot)
    else if withheld c d port slot then (r.2.1, r.2.2)
    else (r.2.1, r.2.2.ethSend c n ⟨fld cfg 1 2, slotFrameLen c n slot len, d.payload (port * 256 + slot) len, none, some (slotHead c n slot)⟩)

/-- PALLET_RELEASE (R70, R384, R413). -/
def execPalletRelease (late : Nat) (s : State) : Out :=
  onMem s fun c st d =>
    match d.takePallet 5 late with
    | none => (st, d)
    | some x =>
      let b := x.1.arg
      let port := fld b 0 4
      if port < 6 then releaseCan c st x.2 port (fld b 8 8)
      else if 8 ≤ port ∧ port ≤ 11 then releaseEth c st x.2 (port - 8) (fld b 8 8)
      else (st, x.2)

/-! ### COMMIT (R68, R513) -/

/-- A COMMIT pallet at OFFSET 0 of the time axis has changed ESC (R68): the pallets of this beat that follow it are those of the new
configuration. DESIGN CHOICE (log 80): WHL_TURNS of a wheel that the change takes off this boundary keeps the boundary it has counted;
one that the change puts on it counts it. -/
def State.replan (s : State) (p : DuePallet) : State :=
  let old := s.cfg
  let s := s.takeEsc
  let n := s.dev.esc.beat
  let ours (q : DuePallet) : Bool := q.axis = 0 && decide (p.tick ≤ q.tick)
  let fresh := (axisPallets s.cfg 0 n p.tick).filter (palletBefore p)
  let kept := s.dev.esc.due.filter (fun q => !ours q)
  let d := { s.dev with esc := { s.dev.esc with due := sortPallets (kept ++ fresh) } }
  let d := ((List.range 32).filter (fun w => wheelFires s.cfg w 0 n && !wheelFires old w 0 n)).foldl
    (fun (d : Dev) w => d.wrap (ESC.WHL_TURNS w) 0 32 1) d
  { s with dev := (d.restSyncs s.cfg).axesFollow s.cfg }

/-- PALLET_COMMIT (R513, R68): every marked page is applied; nothing marked, nothing done. -/
def execPalletCommit (late : Nat) (s : State) : Out :=
  .next (
    match s.dev.takePallet 6 late with
    | none => s
    | some x =>
      let s := { s with dev := x.2 }
      if s.groupPages.isEmpty then s
      else
        let esc := s.groupPages.contains pageESC
        let atOnce := x.1.axis = 0 && fld (s.cfg.e (ESC.PAL_A x.1.pallet)) 8 18 = 0
        let r := s.commitGroup s.dev.mode (globalWord 0 0)
        if r.2 && esc && atOnce then r.1.replan x.1 else r.1)

/-! ### Angle axes (R62 to R65) -/

/-- ANGLE_POSITION_UPDATE (R62, R63, R65): the count its ENC channel holds; forward motion completes beats; at most 16 wait, the pallets
of the others are skipped. -/
def execAnglePositionUpdate (axis : Fin 4) (_ : Unit) (s : State) : Out :=
  onDev s fun c d =>
    let a := axis.val
    let x := axisDev d a
    let diff := signed 32 (axisPosition c a (d.w (ENC.ENC_POS a)) - x.nextB).toNat
    if !x.on || diff < 0 || d.mode < 3 then d
    else
      let n := diff.toNat / axisInc c a + 1
      let first := (d.w (ESC.AX_BEAT a)).toNat + 1
      let room := min n (16 - min 16 x.pend.length)
      let lost := n - room
      let d := d.wrap (ESC.AX_BEAT a) 0 32 n
      let d := if !d.b ESC.AX_STAT a then d
        else (d.putB ESC.AX_STAT a false).event 0x0302 [(axis.val + 1 : Int), ((d.tick - x.stalledAt) / ticksPerMs : Nat)]
      let d := d.putAxis a { x with
        nextB := x.nextB + wd (n * axisInc c a), pend := x.pend ++ (List.range room).map (fun i => wd (first + i))
        lastBeat := d.tick, stalledAt := 0 }
      if lost = 0 then d
      else
        let d := (d.sat ESC.ANG_OVR_CNT 0 32 lost).putB ESC.AX_STAT (16 + a) true
        { d with esc := { d.esc with ovrSec := d.esc.ovrSec + lost, ovrAxes := d.esc.ovrAxes ||| 2 ^ a } }

/-- ANGLE_BEAT_SERVE (R62, R64, R66): the oldest waiting beat of the axis fires its wheels, at most one a microsecond. -/
def execAngleBeatServe (axis : Fin 4) (s : State) : Out :=
  onDev s fun c d =>
    let a := axis.val
    let x := axisDev d a
    match x.pend with
    | [] => d
    | n :: rest =>
      let d := match x.served with | none => d | some t => d.advanceTo (t + ticksPerUs)
      (d.putAxis a { x with pend := rest, served := some d.tick }).turnWheels c (a + 1) n.toNat d.tick []

/-- AXIS_STALL (R65): MS milliseconds without a beat. -/
def execAxisStall (axis : Fin 4) (s : State) : Out :=
  onDev s fun c d =>
    let a := axis.val
    let x := axisDev d a
    let ms := fld (c.e (ESC.AX_STALL a)) 0 14
    if !x.on || ms = 0 || d.b ESC.AX_STAT a then d
    else
      let d := d.advanceTo (x.lastBeat + ms * ticksPerMs)
      let d := (d.putAxis a { x with stalledAt := d.tick }).putB ESC.AX_STAT a true
      (d.putB ESC.AX_STAT (8 + a) true).event 0x0301 [(axis.val + 1 : Int), (d.w (ESC.AX_BEAT a)).toNat]

/-! ### Reading the beat number (Table 3.3) -/

/-- BEAT_LO_READ: reading BEAT_LO latches BEAT_HI. -/
def execBeatLoRead (s : State) : Out :=
  onRead s fun _ d => (wd d.esc.beat, d.putN ESC.BEAT_HI (d.esc.beat / 2 ^ 32 % 2 ^ 16))

end Sys2Proof.Machine
end

