-- ==== Sys2Proof/Machine/Registers.lean ====
section
/-! DEFINITION. Register writes and the commit protocol's commands (22_registers.md R500 to R520), UART messages (R520). -/
namespace Sys2Proof.Machine

/-! ### Writes by access type (R14, R15, Table 22.4) -/

/-- A write to SNAP_CTRL (Table 20.5): HOLD at once, SKIPPED cleared with HOLD 0; EN and AUTO_HOLD to the shadow. -/
def State.writeSnap (s : State) (page : Nat) (value : Word) : State :=
  let k := hdrSNAP_CTRL page
  let d := s.dev.putB k 1 (bit value 1)
  let d := if bit value 1 then d else d.putF k 16 16 0
  ({ s with dev := d } : State).writeShadow k 5 value

/-- The interrupt bits of a page that its chapter names, and the four of every page (R501); the others are reserved and read 0. -/
def irqMask (page : Nat) : Word :=
  let own := if page = 0x40003000 then 0xFFFF           -- a bit per compare unit (R109)
    else if page = 0x40005000 then 5                    -- R475, R477
    else if page = 0x40023000 then 1                    -- R202
    else if page = 0x40032000 then 0x7F7F               -- R236
    else if page = 0x40038000 then 0xB                  -- R291
    else if 0x40050000 ≤ page ∧ page < 0x40056000 then 1  -- R398
    else 0
  wd (0xF000000 + own)

/-- The interrupt line of a page is asserted (R501). -/
def irqLine (d : Dev) (page : Nat) : Bool := (d.w (hdrIRQ_RAW page) &&& d.w (hdrIRQ_EN page)) != 0 && d.b (hdrCTRL page) 0

/-- A write to a register of the page header that has no row of its own (Table 22.1). -/
def State.writeHeader (s : State) (page off : Nat) (value : Word) : State :=
  let d := s.dev
  if off = 0x008 then { s with dev := d.put (hdrCTRL page) (value &&& 3) }
  else if off = 0x014 then { s with dev := d.put (hdrIRQ_EN page) (value &&& irqMask page) }
  else if off = 0x018 then { s with dev := d.put (hdrIRQ_RAW page) (d.w (hdrIRQ_RAW page) &&& ~~~value) }
  else if off = 0x01C then { s with dev := d.put (hdrIRQ_RAW page) (d.w (hdrIRQ_RAW page) ||| (value &&& irqMask page)) }
  else if off = 0x030 then s.writeSnap page value
  else s

/-- RW registers whose write is a command of its own: compare units, channel registers, OUT_SET, AOUT_SET, BUSg_PWR, SP_k, FREEZE. -/
def rowRegister (k : Nat) : Bool :=
  let a := k % 2 ^ 32
  (List.range 16).any (fun u => a = TBU.CMP_CTRL u) || (decide (0x40014100 ≤ a) && decide (a ≤ 0x40014114))
    || (List.range 4).any (fun o => a = ANU.AOUT_SET o) || (List.range 8).any (fun g => a = LAW.BUS_PWR g)
    || (decide (LPE.SP 0 ≤ a) && decide (a ≤ LPE.SP 63)) || a = FIO.OUT_SET || a = EVR.FREEZE

/-- The bits of an RW register that a write takes; of the three registers that keep a largest value, the bits it clears. A selector that would
name no element (R124, Tables 7.7, 13.1, 20.7) keeps its value. -/
def Dev.writeRW (d : Dev) (k : Nat) (value : Word) : Dev :=
  let a := k % 2 ^ 32
  let armed := (List.range 16).any (fun u =>
    d.b (TBU.CMP_CTRL u) 0 && (a = TBU.CMP_TGT_LO u || a = TBU.CMP_TGT_HI u || a = TBU.CMP_PER u))
  let none_ := (decide (RBB.CHSEL 0 ≤ a) && decide (a ≤ RBB.CHSEL 3) && decide (384 ≤ value.toNat))
    || ((a = FUS.TRKSEL || a = LPE.SLOTSEL) && decide (64 ≤ value.toNat))
    || (a = HCK.PGSEL && (pageAt (value &&& keyMask k).toNat).isNone)
  if rowRegister k || armed || none_ then d
  else if a = PRC.JOURNAL then d.putF k 16 16 0
  else if a = FUS.REPLAY_STAT then d.putF k 8 8 0
  else if a = SLV.QSTAT then d.putF k 24 6 0
  else
    let d := d.put k (value &&& keyMask k)
    let d := ((List.range 6).filter (fun n => a = CAN.RX_RD n)).foldl (fun d n => d.rxRead n) d
    ((List.range 6).filter (fun n => a = CAN.TXE_RD n)).foldl (fun d n => d.txeRead n) d

/-- The W1C bits of a register: AX_STAT has live bits beside. -/
def clearable (k : Nat) : Word := if k = ESC.AX_STAT then wd 0xF0F00 else keyMask k

/-- A write of an aligned word to a register, by its access type (Table 22.4). -/
def State.writeWord (s : State) (a : Nat) (value : Word) : State :=
  let page := a / 4096 * 4096
  if a % 4096 < 0x100 then s.writeHeader page (a % 4096) value
  else
    let k := regKey s.dev a
    match keyAccess k with
    | none => s
    | some .ro => s
    | some .wo => s
    | some .rws => s.writeShadow k (keyMask k) value
    | some .rw => { s with dev := s.dev.writeRW k value }
    | some .w1c => { s with dev := s.dev.put k (s.dev.w k &&& ~~~(value &&& clearable k)) }
    | some .w1s => { s with dev := s.dev.put k (s.dev.w k ||| (value &&& keyMask k)) }
    | some .cnt => { s with dev := s.dev.put k 0 }

/-- The address lies in a page (R15, R518). -/
def inPage (a : Nat) : Bool := (pageAt (a / 4096 * 4096)).isSome

/-- REGISTER_WRITE (R14, R15): an aligned word in a page; any other access ends with a bus error. -/
def execRegisterWrite (addr : Word) (size : Nat) (value : Word) (s : State) : Out :=
  let a := addr.toNat
  if size != 4 || a % 4 != 0 || !inPage a then busError s
  else .next { s.writeWord a value with bus := .done 0 }

/-- SHADOW_WRITE (R502): a write to an RWS register; at an address that is none it acts as the register's access type says. -/
def execShadowWrite (addr value : Word) (s : State) : Out :=
  let a := addr.toNat
  if a % 4 != 0 || !inPage a then busError s
  else .next { s.writeWord a value with bus := .done 0 }

/-! ### Reads (R14, R15, R460 to R466) -/

/-- A read of a register (R14, R15): an aligned word in a page; reading BEAT_LO or TICK_LO latches what its table says. -/
def readRegister (s : State) (a size : Nat) : Out :=
  if size != 4 || a % 4 != 0 then busError s
  else if a = ESC.BEAT_LO then execBeatLoRead s
  else if a = TBU.TICK_LO then execTickLoRead s
  else .next { s with bus := .done (peek s.cfg s.dev a) }

/-- DEMAND_READ (R466, R14, R15): a register page answers with its register, a memory region with its word; any other address, and memory a
core may not read, ends with a bus error. -/
def execDemandRead (access : ReadAccess) (upset : List (Fin 40 × Byte)) (newer : Bool) (usedBy : PoisonUse) (s : State) : Out :=
  let a := access.addr.toNat
  if inPage a then readRegister s a access.size
  else match regionOf a with
    | none => busError s
    | some r => if usedBy = .core && !coreReadable a then busError s else s.readMemory r a access.size upset newer usedBy

/-! ### SHADOW_CTRL, LOCK, GLOBAL_COMMIT (R323, R505, R506, R510, R511) -/

/-- A write without COMMIT and DISCARD: MARK, and the timing unless a commit is pending. -/
def State.requestMark (s : State) (p : Nat) (value : Word) : State :=
  let c := s.cfg.putMark p value
  { s with cfg := if bit (c.h (hdrSTAT p)) 2 then c else c.putTiming p (fld value 4 2) (fld value 8 5) }

/-- A write of SHADOW_CTRL (Table 22.2): DISCARD before COMMIT before MARK. On a standby a write to a journaled page is ignored, and a
COMMIT is refused (R323, R509). -/
def State.shadowCtrl (s : State) (p : Nat) (value : Word) : State :=
  let held := s.dev.mode = 4 && pageJournaled p
  if bit value 1 then (if held then s.ignoreWrite p else s.requestDiscard p value)
  else if bit value 0 then s.requestCommit p value
  else if held then s.ignoreWrite p
  else s.requestMark p value

/-- COMMIT (R505). -/
def execCommit (page value : Word) (s : State) : Out :=
  if (pageAt page.toNat).isNone then busError s else .next { s.shadowCtrl page.toNat value with bus := .done 0 }

/-- DISCARD (R506). -/
def execDiscard (page value : Word) (s : State) : Out :=
  if (pageAt page.toNat).isNone then busError s else .next { s.shadowCtrl page.toNat value with bus := .done 0 }

/-- MARK (R511). -/
def execMark (page value : Word) (s : State) : Out :=
  if (pageAt page.toNat).isNone then busError s else .next { s.shadowCtrl page.toNat value with bus := .done 0 }

/-- LOCK (R510): KEY 0x4C0B clears LOCKED, any other value sets it. -/
def execLock (page value : Word) (s : State) : Out :=
  let p := page.toNat
  if (pageAt p).isNone then busError s
  else .next { s with
    cfg := s.cfg.putH (hdrSTAT p) (setBit (s.cfg.h (hdrSTAT p)) 3 (fld value 0 16 != 0x4C0B))
    bus := .done 0 }

/-- A standby has a journaled page marked: the group would commit it (R323). -/
def State.standbyGroup (s : State) : Bool :=
  s.dev.mode = 4 && (pages.map (·.base)).any (fun p => pageJournaled p && bit (s.cfg.h (hdrSTAT p)) 1)

/-- GLOBAL_COMMIT (R511, R323). -/
def execGlobalCommit (value : Word) (s : State) : Out :=
  let t :=
    if fld value 16 16 != 0x6C0A || !bit value 0 then s
    else if s.standbyGroup then s.ignoreWrite pageSYS
    else s.requestGroup (fld value 4 2) (fld value 8 5)
  .next { t with bus := .done 0 }

/-! ### UARTs (R520) -/

/-- The time of `n` bits at the rate of a UART, in ticks. -/
def bitTicks (c : Cfg) (u n : Nat) : Nat := n * ticksPerSec / max 1 (c.f (UART.UBAUD u) 0 24)

/-- Bits of a character: start, data, parity, stop (Table 22.9). -/
def frameBits (c : Cfg) (u : Nat) : Nat := 10 + (c.f (UART.UCFG u) 3 2 != 0).toNat + (c.b (UART.UCFG u) 5).toNat

/-- A character passes its stop-bit and parity check. -/
def rxOk (c : Cfg) (u : Nat) (b : RxByte) : Bool :=
  let odd := (List.range 8).foldl (fun x i => x ^^ b.value.getLsbD i) false
  let p := c.f (UART.UCFG u) 3 2
  b.stop && (if p = 1 then b.parity = odd else if p = 2 then b.parity = !odd else true)

/-- How many of the characters received end a message (R520): up to LF, up to an idle gap of GAP bit times, or LEN of them. With GAP or LEN 0
none does (R517). -/
def messageLen (c : Cfg) (u : Nat) (l : List RxByte) : Option Nat :=
  let framing := c.f (UART.UCFG u) 1 2
  let len := c.f (UART.UCFG u) 8 8
  if framing = 0 then (l.findIdx? (fun b => b.value = 0x0A)).map (· + 1)
  else if len = 0 || l.isEmpty then none
  else if framing = 1 then
    some (((l.zip (l.drop 1)).findIdx? (fun p => decide (p.1.start + bitTicks c u (frameBits c u + len) ≤ p.2.start))).elim l.length (· + 1))
  else if len ≤ l.length then some len
  else none

/-- The instant at which a message ends: the last stop bit, and the gap where that ends it. -/
def messageEnd (c : Cfg) (u : Nat) (m : List RxByte) : Nat :=
  match m.getLast? with
  | none => 0
  | some b => b.start + bitTicks c u (frameBits c u + (if c.f (UART.UCFG u) 1 2 = 1 then c.f (UART.UCFG u) 8 8 else 0))

/-- A ZDA sentence on the UART that PPSIN_CFG names labels the edge before it (R90). -/
def Dev.uartZda (d : Dev) (c : Cfg) (u : Nat) (bytes : List Byte) : Dev :=
  if c.b TBU.PPSIN_CFG 0 && c.f TBU.PPSIN_CFG 2 4 = u then
    match zdaSecond bytes with
    | some second => d.zdaLabel c second
    | none => d
  else d

/-- A UART message (R520): one that fails its checks is discarded and counted; one above 255 bytes is cut and marked RANGE. -/
def Dev.uartTake (d : Dev) (c : Cfg) (u : Nat) (m : List RxByte) : Dev :=
  if !m.all (rxOk c u) then d.sat (UART.UERR_CNT u) 0 16 1
  else
    let bytes := m.map (·.value)
    let start := match m with | [] => d.tick | b :: _ => b.start
    (d.uartZda c u bytes).capture c (c.f (UART.USRC u) 0 16) (c.f (UART.UCFG u) 6 2) start (if 255 < bytes.length then qRANGE else 0)
      (bytes.take 255)

/-- Every complete message of what a UART has received is taken, each at its end; the rest stays pending. -/
def Dev.uartSplit (d : Dev) (c : Cfg) (u fuel : Nat) (l : List RxByte) : Dev × List RxByte :=
  match fuel with
  | 0 => (d, l)
  | k + 1 =>
    match messageLen c u l with
    | none => (d, l)
    | some n => ((d.advanceTo (messageEnd c u (l.take n))).uartTake c u (l.take n)).uartSplit c u k (l.drop n)

/-- UART_MESSAGE (R520). -/
def execUartMessage (u : Fin 12) (bytes : List RxByte) (_ _ : Unit) (s : State) : Out :=
  onDev s fun c d =>
    let n := u.val
    if !c.b (UART.UCFG n) 0 then d
    else
      let l := (Assoc.get {} d.uarts n : UartDev).rx ++ bytes
      let r := d.uartSplit c n l.length l
      ({ r.1 with uarts := Assoc.set {} r.1.uarts n { (Assoc.get {} r.1.uarts n : UartDev) with rx := r.2 } } : Dev).putF
        (UART.USTAT n) 8 8 (satU 8 r.2.length)

/-- UART_TX (R520, Table 22.9): the byte is queued behind what is still being sent; STAT shows the bytes queued. -/
def execUartTx (u : Fin 12) (value : Word) (s : State) : Out :=
  onWrite s fun c d =>
    let n := u.val
    let x : UartDev := Assoc.get {} d.uarts n
    let left := x.tx.filter (fun p => decide (d.tick < p.2))
    let free := match left.getLast? with | none => d.tick | some p => p.2
    let q := left ++ [(BitVec.ofNat 8 value.toNat, free + bitTicks c n (frameBits c n))]
    ({ d with uarts := Assoc.set {} d.uarts n { x with tx := q } } : Dev).putF (UART.USTAT n) 0 8 (satU 8 q.length)

end Sys2Proof.Machine
end

