-- ==== Sys2Proof/Machine/Dispatch.lean ====
section
/-! DEFINITION. The meaning of every command: one arm per constructor of Instr. -/

namespace Sys2Proof.Machine

/-- The effect of a command on everything but the queue. -/
def exec (i : Instr) (s : State) : Host.Outcome State Fault Refusal :=
  match i with
  | .beatBoundary => Sys2Proof.Machine.execBeatBoundary s
  | .modeReq value => Sys2Proof.Machine.execModeReq value s
  | .neutralWaitClear => Sys2Proof.Machine.execNeutralWaitClear s
  | .class2HoldExpiry source => Sys2Proof.Machine.execClass2HoldExpiry source s
  | .holdLimitExpiry stream => Sys2Proof.Machine.execHoldLimitExpiry stream s
  | .anglePositionUpdate axis nothing => Sys2Proof.Machine.execAnglePositionUpdate axis nothing s
  | .angleBeatServe axis => Sys2Proof.Machine.execAngleBeatServe axis s
  | .axisStall axis => Sys2Proof.Machine.execAxisStall axis s
  | .palletNone late => Sys2Proof.Machine.execPalletNone late s
  | .palletSync late => Sys2Proof.Machine.execPalletSync late s
  | .palletJob late fb => Sys2Proof.Machine.execPalletJob late fb s
  | .palletSample late => Sys2Proof.Machine.execPalletSample late s
  | .palletLatch late => Sys2Proof.Machine.execPalletLatch late s
  | .palletRelease late => Sys2Proof.Machine.execPalletRelease late s
  | .palletCommit late => Sys2Proof.Machine.execPalletCommit late s
  | .palletHack late => Sys2Proof.Machine.execPalletHack late s
  | .syncPulseEnd out => Sys2Proof.Machine.execSyncPulseEnd out s
  | .beatLoRead => Sys2Proof.Machine.execBeatLoRead s
  | .tickLoRead => Sys2Proof.Machine.execTickLoRead s
  | .timeStepInstant => Sys2Proof.Machine.execTimeStepInstant s
  | .refInLost => Sys2Proof.Machine.execRefInLost s
  | .refInRestored => Sys2Proof.Machine.execRefInRestored s
  | .sourceEvaluation gnss ptp pps can => Sys2Proof.Machine.execSourceEvaluation gnss ptp pps can s
  | .jumpAccept value => Sys2Proof.Machine.execJumpAccept value s
  | .jumpDecline value => Sys2Proof.Machine.execJumpDecline value s
  | .gmChange gm => Sys2Proof.Machine.execGmChange gm s
  | .leap => Sys2Proof.Machine.execLeap s
  | .ppsPulse out => Sys2Proof.Machine.execPpsPulse out s
  | .ppsPulseEnd out => Sys2Proof.Machine.execPpsPulseEnd out s
  | .ppsInEdge edge => Sys2Proof.Machine.execPpsInEdge edge s
  | .cmpArm unit value => Sys2Proof.Machine.execCmpArm unit value s
  | .compareFire unit => Sys2Proof.Machine.execCompareFire unit s
  | .cmpPulseEnd out => Sys2Proof.Machine.execCmpPulseEnd out s
  | .ptpEventEgress port frame => Sys2Proof.Machine.execPtpEventEgress port frame s
  | .slewComplete => Sys2Proof.Machine.execSlewComplete s
  | .antBiasSample ant ma => Sys2Proof.Machine.execAntBiasSample ant ma s
  | .antShort ant ma => Sys2Proof.Machine.execAntShort ant ma s
  | .antBiasRetry ant => Sys2Proof.Machine.execAntBiasRetry ant s
  | .notchEngaged path offset level => Sys2Proof.Machine.execNotchEngaged path offset level s
  | .notchDisengaged path line => Sys2Proof.Machine.execNotchDisengaged path line s
  | .chCfgWrite win reg value => Sys2Proof.Machine.execChCfgWrite win reg value s
  | .chLoopWrite win reg value => Sys2Proof.Machine.execChLoopWrite win reg value s
  | .startAided win => Sys2Proof.Machine.execStartAided win s
  | .startAcq win => Sys2Proof.Machine.execStartAcq win s
  | .stop win => Sys2Proof.Machine.execStop win s
  | .acqSearchStart eng => Sys2Proof.Machine.execAcqSearchStart eng s
  | .acqDone eng cell ratio => Sys2Proof.Machine.execAcqDone eng cell ratio s
  | .acqSearchMiss eng => Sys2Proof.Machine.execAcqSearchMiss eng s
  | .acqRequeue ch => Sys2Proof.Machine.execAcqRequeue ch s
  | .acqAbandon eng => Sys2Proof.Machine.execAcqAbandon eng s
  | .integrationEnd ch obs => Sys2Proof.Machine.execIntegrationEnd ch obs s
  | .pllEngage ch => Sys2Proof.Machine.execPllEngage ch s
  | .chLost ch => Sys2Proof.Machine.execChLost ch s
  | .reacqTimeout ch code dop => Sys2Proof.Machine.execReacqTimeout ch code dop s
  | .measurementEpoch obs => Sys2Proof.Machine.execMeasurementEpoch obs s
  | .raimExclusionExpiry sat => Sys2Proof.Machine.execRaimExclusionExpiry sat s
  | .agcRefLearned path gain => Sys2Proof.Machine.execAgcRefLearned path gain s
  | .rtcmFrame bytes via => Sys2Proof.Machine.execRtcmFrame bytes via s
  | .corrStale => Sys2Proof.Machine.execCorrStale s
  | .vectorSteeringWrite rates => Sys2Proof.Machine.execVectorSteeringWrite rates s
  | .vecMissLimit => Sys2Proof.Machine.execVecMissLimit s
  | .vecResume => Sys2Proof.Machine.execVecResume s
  | .fusFrameClose obs => Sys2Proof.Machine.execFusFrameClose obs s
  | .coastExpired => Sys2Proof.Machine.execCoastExpired s
  | .windHoldExpiry => Sys2Proof.Machine.execWindHoldExpiry s
  | .inertialPropagation gyro acc => Sys2Proof.Machine.execInertialPropagation gyro acc s
  | .trackTimeout track => Sys2Proof.Machine.execTrackTimeout track s
  | .feedbackLost track => Sys2Proof.Machine.execFeedbackLost track s
  | .trkRestart value => Sys2Proof.Machine.execTrkRestart value s
  | .trkRelease value => Sys2Proof.Machine.execTrkRelease value s
  | .trkResetClock value => Sys2Proof.Machine.execTrkResetClock value s
  | .splitSel value => Sys2Proof.Machine.execSplitSel value s
  | .slotStage slot value => Sys2Proof.Machine.execSlotStage slot value s
  | .stagingDone slot => Sys2Proof.Machine.execStagingDone slot s
  | .submit value => Sys2Proof.Machine.execSubmit value s
  | .jobSetupStart => Sys2Proof.Machine.execJobSetupStart s
  | .setupComplete stream seq cycles => Sys2Proof.Machine.execSetupComplete stream seq cycles s
  | .iterationBoundary stream seq cycles => Sys2Proof.Machine.execIterationBoundary stream seq cycles s
  | .jobSuspend stream seq => Sys2Proof.Machine.execJobSuspend stream seq s
  | .jobResume => Sys2Proof.Machine.execJobResume s
  | .writeBackComplete stream seq cycles => Sys2Proof.Machine.execWriteBackComplete stream seq cycles s
  | .cancel value => Sys2Proof.Machine.execCancel value s
  | .clusterFault cluster watchdog => Sys2Proof.Machine.execClusterFault cluster watchdog s
  | .clIsolate cluster value => Sys2Proof.Machine.execClIsolate cluster value s
  | .clusterIsolated cluster => Sys2Proof.Machine.execClusterIsolated cluster s
  | .jobDeadline stream seq => Sys2Proof.Machine.execJobDeadline stream seq s
  | .jobPoison stream seq site => Sys2Proof.Machine.execJobPoison stream seq site s
  | .standbyJobTimeout stream seq => Sys2Proof.Machine.execStandbyJobTimeout stream seq s
  | .actWithdraw value => Sys2Proof.Machine.execActWithdraw value s
  | .actReadmit value => Sys2Proof.Machine.execActReadmit value s
  | .busPwrWrite group value => Sys2Proof.Machine.execBusPwrWrite group value s
  | .busPwrStale group => Sys2Proof.Machine.execBusPwrStale group s
  | .joyStale => Sys2Proof.Machine.execJoyStale s
  | .cqRunComplete => Sys2Proof.Machine.execCqRunComplete s
  | .envelopeStart => Sys2Proof.Machine.execEnvelopeStart s
  | .loopSample group j fb => Sys2Proof.Machine.execLoopSample group j fb s
  | .slRestart value => Sys2Proof.Machine.execSlRestart value s
  | .spWrite slot value => Sys2Proof.Machine.execSpWrite slot value s
  | .linkUp => Sys2Proof.Machine.execLinkUp s
  | .linkDown => Sys2Proof.Machine.execLinkDown s
  | .linkRetransmit => Sys2Proof.Machine.execLinkRetransmit s
  | .idleFrame => Sys2Proof.Machine.execIdleFrame s
  | .linkFrameReceived crcOk payload => Sys2Proof.Machine.execLinkFrameReceived crcOk payload s
  | .heartbeatSend => Sys2Proof.Machine.execHeartbeatSend s
  | .heartbeatReceived hb => Sys2Proof.Machine.execHeartbeatReceived hb s
  | .heartbeatMissed => Sys2Proof.Machine.execHeartbeatMissed s
  | .journalBlockReceived block => Sys2Proof.Machine.execJournalBlockReceived block s
  | .orphanBeat => Sys2Proof.Machine.execOrphanBeat s
  | .digestTimeout beat => Sys2Proof.Machine.execDigestTimeout beat s
  | .transferRequest => Sys2Proof.Machine.execTransferRequest s
  | .transferStart => Sys2Proof.Machine.execTransferStart s
  | .transferDone image => Sys2Proof.Machine.execTransferDone image s
  | .stateAdopt => Sys2Proof.Machine.execStateAdopt s
  | .transferTimeout => Sys2Proof.Machine.execTransferTimeout s
  | .catchupTimeout => Sys2Proof.Machine.execCatchupTimeout s
  | .seizeAccepted => Sys2Proof.Machine.execSeizeAccepted s
  | .seizeInPulseEnd width => Sys2Proof.Machine.execSeizeInPulseEnd width s
  | .crownInChange level => Sys2Proof.Machine.execCrownInChange level s
  | .seizeTestPulse => Sys2Proof.Machine.execSeizeTestPulse s
  | .crownWire => Sys2Proof.Machine.execCrownWire s
  | .takeover => Sys2Proof.Machine.execTakeover s
  | .seizeFailed => Sys2Proof.Machine.execSeizeFailed s
  | .seizeRetry => Sys2Proof.Machine.execSeizeRetry s
  | .prcFail value => Sys2Proof.Machine.execPrcFail value s
  | .swap value => Sys2Proof.Machine.execSwap value s
  | .swapHandover => Sys2Proof.Machine.execSwapHandover s
  | .sfmCycle diag => Sys2Proof.Machine.execSfmCycle diag s
  | .offPulseTest out fell => Sys2Proof.Machine.execOffPulseTest out fell s
  | .resetArm value => Sys2Proof.Machine.execResetArm value s
  | .resetArmExpiry => Sys2Proof.Machine.execResetArmExpiry s
  | .resetInputRise => Sys2Proof.Machine.execResetInputRise s
  | .resetInputTrailing => Sys2Proof.Machine.execResetInputTrailing s
  | .osiHeartbeat conn => Sys2Proof.Machine.execOsiHeartbeat conn s
  | .osiPduReceive port frame => Sys2Proof.Machine.execOsiPduReceive port frame s
  | .osiExpiry conn => Sys2Proof.Machine.execOsiExpiry conn s
  | .canArbitration ctrl won sub => Sys2Proof.Machine.execCanArbitration ctrl won sub s
  | .canTxComplete ctrl => Sys2Proof.Machine.execCanTxComplete ctrl s
  | .canError ctrl kind => Sys2Proof.Machine.execCanError ctrl kind s
  | .busOffRecovery ctrl => Sys2Proof.Machine.execBusOffRecovery ctrl s
  | .nlRetryAttempt ctrl sub => Sys2Proof.Machine.execNlRetryAttempt ctrl sub s
  | .txfPush ctrl value => Sys2Proof.Machine.execTxfPush ctrl value s
  | .txfCancel ctrl value => Sys2Proof.Machine.execTxfCancel ctrl value s
  | .priReq ctrl slot => Sys2Proof.Machine.execPriReq ctrl slot s
  | .priCancel ctrl slot => Sys2Proof.Machine.execPriCancel ctrl slot s
  | .canRxFrame ctrl frame => Sys2Proof.Machine.execCanRxFrame ctrl frame s
  | .sourceTimeout source => Sys2Proof.Machine.execSourceTimeout source s
  | .refFrameSend ctrl => Sys2Proof.Machine.execRefFrameSend ctrl s
  | .refLost ctrl => Sys2Proof.Machine.execRefLost ctrl s
  | .clashClr ctrl value => Sys2Proof.Machine.execClashClr ctrl value s
  | .busLoadWindow ctrl load => Sys2Proof.Machine.execBusLoadWindow ctrl load s
  | .sleepCmd ctrl value => Sys2Proof.Machine.execSleepCmd ctrl value s
  | .canWake ctrl pattern => Sys2Proof.Machine.execCanWake ctrl pattern s
  | .ethLinkUp port speed => Sys2Proof.Machine.execEthLinkUp port speed s
  | .ethLinkDown port => Sys2Proof.Machine.execEthLinkDown port s
  | .ethIngressFrame port frame => Sys2Proof.Machine.execEthIngressFrame port frame s
  | .sfUnblock filter value => Sys2Proof.Machine.execSfUnblock filter value s
  | .gateEntryStart port => Sys2Proof.Machine.execGateEntryStart port s
  | .ethEgressFrame port => Sys2Proof.Machine.execEthEgressFrame port s
  | .ptpSyncSend port sub => Sys2Proof.Machine.execPtpSyncSend port sub s
  | .ptpAnnounceSend port => Sys2Proof.Machine.execPtpAnnounceSend port s
  | .ptpPdelaySend port sub => Sys2Proof.Machine.execPtpPdelaySend port sub s
  | .ptpMessageReceive port msg => Sys2Proof.Machine.execPtpMessageReceive port msg s
  | .announceReceiptTimeout port => Sys2Proof.Machine.execAnnounceReceiptTimeout port s
  | .nymAnnouncement src ann => Sys2Proof.Machine.execNymAnnouncement src ann s
  | .nymDepart entry => Sys2Proof.Machine.execNymDepart entry s
  | .addrClashClear => Sys2Proof.Machine.execAddrClashClear s
  | .nymAccept value => Sys2Proof.Machine.execNymAccept value s
  | .nymForget value => Sys2Proof.Machine.execNymForget value s
  | .fieldLinkSlot valid => Sys2Proof.Machine.execFieldLinkSlot valid s
  | .fieldLinkLost => Sys2Proof.Machine.execFieldLinkLost s
  | .outSet value => Sys2Proof.Machine.execOutSet value s
  | .supplySample group mv => Sys2Proof.Machine.execSupplySample group mv s
  | .sagRestored group => Sys2Proof.Machine.execSagRestored group s
  | .supRestore value => Sys2Proof.Machine.execSupRestore value s
  | .wdgFeed value => Sys2Proof.Machine.execWdgFeed value s
  | .wdgExpired => Sys2Proof.Machine.execWdgExpired s
  | .crossFeedCheck out lowAt => Sys2Proof.Machine.execCrossFeedCheck out lowAt s
  | .diagOffPulse out low => Sys2Proof.Machine.execDiagOffPulse out low s
  | .outOverload out => Sys2Proof.Machine.execOutOverload out s
  | .outOvertemp out => Sys2Proof.Machine.execOutOvertemp out s
  | .openLoad out => Sys2Proof.Machine.execOpenLoad out s
  | .reverse out => Sys2Proof.Machine.execReverse out s
  | .groupCurrent group ma => Sys2Proof.Machine.execGroupCurrent group ma s
  | .outClr value gone => Sys2Proof.Machine.execOutClr value gone s
  | .inputSample input mv => Sys2Proof.Machine.execInputSample input mv s
  | .testPulse source high => Sys2Proof.Machine.execTestPulse source high s
  | .ainConversion ch count overCurrent => Sys2Proof.Machine.execAinConversion ch count overCurrent s
  | .ainShuntReclose ch => Sys2Proof.Machine.execAinShuntReclose ch s
  | .aoutSet out value => Sys2Proof.Machine.execAoutSet out value s
  | .aoutFault out => Sys2Proof.Machine.execAoutFault out s
  | .encCount ch stp => Sys2Proof.Machine.execEncCount ch stp s
  | .ssiRead ch => Sys2Proof.Machine.execSsiRead ch s
  | .ssiReadComplete ch obs => Sys2Proof.Machine.execSsiReadComplete ch obs s
  | .encIndex ch => Sys2Proof.Machine.execEncIndex ch s
  | .encRestored ch => Sys2Proof.Machine.execEncRestored ch s
  | .narrowWrite addr bytes poisoned => Sys2Proof.Machine.execNarrowWrite addr bytes poisoned s
  | .demandRead access upset newer usedBy => Sys2Proof.Machine.execDemandRead access upset newer usedBy s
  | .scrubWord upset newer => Sys2Proof.Machine.execScrubWord upset newer s
  | .lapAlarm region => Sys2Proof.Machine.execLapAlarm region s
  | .injArm value => Sys2Proof.Machine.execInjArm value s
  | .eventAdmit => Sys2Proof.Machine.execEventAdmit s
  | .granuleCommit => Sys2Proof.Machine.execGranuleCommit s
  | .tokenRefill entry => Sys2Proof.Machine.execTokenRefill entry s
  | .freezeStart => Sys2Proof.Machine.execFreezeStart s
  | .freezeEnd => Sys2Proof.Machine.execFreezeEnd s
  | .freezeTimeout => Sys2Proof.Machine.execFreezeTimeout s
  | .clrReq value => Sys2Proof.Machine.execClrReq value s
  | .clrCmd value => Sys2Proof.Machine.execClrCmd value s
  | .nonceExpiry => Sys2Proof.Machine.execNonceExpiry s
  | .clrLockExpiry => Sys2Proof.Machine.execClrLockExpiry s
  | .hackFire value => Sys2Proof.Machine.execHackFire value s
  | .hackLatch => Sys2Proof.Machine.execHackLatch s
  | .partnerHack number => Sys2Proof.Machine.execPartnerHack number s
  | .selfTestStart range keysZero => Sys2Proof.Machine.execSelfTestStart range keysZero s
  | .selfTestAbort stage range => Sys2Proof.Machine.execSelfTestAbort stage range s
  | .selfTestEnd obs => Sys2Proof.Machine.execSelfTestEnd obs s
  | .clTest value range => Sys2Proof.Machine.execClTest value range s
  | .clTestDone pass range => Sys2Proof.Machine.execClTestDone pass range s
  | .shadowWrite addr value => Sys2Proof.Machine.execShadowWrite addr value s
  | .registerWrite addr size value => Sys2Proof.Machine.execRegisterWrite addr size value s
  | .commit page value => Sys2Proof.Machine.execCommit page value s
  | .discard page value => Sys2Proof.Machine.execDiscard page value s
  | .mark page value => Sys2Proof.Machine.execMark page value s
  | .lock page value => Sys2Proof.Machine.execLock page value s
  | .globalCommit value => Sys2Proof.Machine.execGlobalCommit value s
  | .uartMessage u bytes start checkOk => Sys2Proof.Machine.execUartMessage u bytes start checkOk s
  | .uartTx u value => Sys2Proof.Machine.execUartTx u value s
  | .railWarn rail mv1 mv2 => Sys2Proof.Machine.execRailWarn rail mv1 mv2 s
  | .railOk rail mv1 mv2 => Sys2Proof.Machine.execRailOk rail mv1 mv2 s
  | .powerOnReset => Sys2Proof.Machine.execPowerOnReset s
  | .brownOut => Sys2Proof.Machine.execBrownOut s
  | .overvoltageReset => Sys2Proof.Machine.execOvervoltageReset s
  | .railReset rail => Sys2Proof.Machine.execRailReset rail s
  | .thermalReset => Sys2Proof.Machine.execThermalReset s
  | .clockFault clock ppm unlocked => Sys2Proof.Machine.execClockFault clock ppm unlocked s
  | .pinReset => Sys2Proof.Machine.execPinReset s
  | .sysWatchdogExpiry => Sys2Proof.Machine.execSysWatchdogExpiry s
  | .jtagReset => Sys2Proof.Machine.execJtagReset s
  | .rstCmd value => Sys2Proof.Machine.execRstCmd value s
  | .wake cause => Sys2Proof.Machine.execWake cause s
  | .wdtFeed value => Sys2Proof.Machine.execWdtFeed value s
  | .phase1Complete => Sys2Proof.Machine.execPhase1Complete s
  | .bootImage obs => Sys2Proof.Machine.execBootImage obs s
  | .serviceImage image => Sys2Proof.Machine.execServiceImage image s
  | .tryA key cmd => Sys2Proof.Machine.execTryA key cmd s
  | .tryB key cmd => Sys2Proof.Machine.execTryB key cmd s
  | .confirm value => Sys2Proof.Machine.execConfirm value s
  | .raiseSecver value => Sys2Proof.Machine.execRaiseSecver value s
  | .calInvalid => Sys2Proof.Machine.execCalInvalid s
  | .jtagAuth key sig => Sys2Proof.Machine.execJtagAuth key sig s
  | .lpddr4xInitialised => Sys2Proof.Machine.execLpddr4xInitialised s
  | .seizeOutPulseEnd => Sys2Proof.Machine.execSeizeOutPulseEnd s
  | .outOvertempCooled out => Sys2Proof.Machine.execOutOvertempCooled out s
  | .reverseCleared out => Sys2Proof.Machine.execReverseCleared out s
  | .openLoadCleared out => Sys2Proof.Machine.execOpenLoadCleared out s
  | .groupCurrentCleared group ma => Sys2Proof.Machine.execGroupCurrentCleared group ma s
  | .crossFedCleared out => Sys2Proof.Machine.execCrossFedCleared out s
  | .encOpenWire ch => Sys2Proof.Machine.execEncOpenWire ch s
  | .addressAgeing mac => Sys2Proof.Machine.execAddressAgeing mac s
  | .jtagInstruction instr => Sys2Proof.Machine.execJtagInstruction instr s

end Sys2Proof.Machine
end

