-- ==== Sys2Proof/Machine/Code.lean ====
section
/-! DEFINITION. The code of the memories (19_memory_integrity.md R457, R458, R463): RS(40,32) over GF(2^8). The store keeps the data of a
word, the error pattern in its 40 bytes and the stored-poison mark; here are the 40 bytes that stand in the memory. -/
namespace Sys2Proof.Machine

/-- Multiplication by α = 0x02 modulo x^8 + x^4 + x^3 + x^2 + 1 (R457). -/
def gfDouble (a : Byte) : Byte := if a.getLsbD 7 then (a <<< 1) ^^^ 0x1D else a <<< 1

/-- The product of two field elements: Horner over the bits of `b`, the highest first. -/
def gfMul (a b : Byte) : Byte :=
  [7, 6, 5, 4, 3, 2, 1, 0].foldl (fun r k => gfDouble r ^^^ (if b.getLsbD k then a else 0)) 0

/-- α^n. -/
def gfPow : Nat → Byte
  | 0 => 1
  | n + 1 => gfDouble (gfPow n)

/-- A polynomial, the coefficient of highest degree first, times x minus a root. -/
def polyTimesRoot (p : List Byte) (root : Byte) : List Byte :=
  (p ++ [0]).zipWith (· ^^^ ·) (0 :: p.map (gfMul root))

/-- The generator: roots α^0 to α^7 (R457). -/
def rsGenerator : List Byte := ((List.range 8).map gfPow).foldl polyTimesRoot [1]

/-- The check bytes 32 to 39 of data: the remainder of the data times x^8 by the generator (R457). -/
def rsCheck (data : List Byte) : List Byte :=
  data.foldl (fun r b =>
    let lead := b ^^^ r.headD 0
    ((r.drop 1) ++ [0]).zipWith (fun x g => x ^^^ gfMul lead g) (rsGenerator.drop 1)) (List.replicate 8 0)

/-- The value of a word of 40 bytes at α^0 to α^7, which is 0 for a codeword. -/
def rsSyndromes (word : List Byte) : List Byte :=
  (List.range 8).map (fun k => word.foldl (fun r b => gfMul r (gfPow k) ^^^ b) 0)

/-- The pattern P that marks stored poison, in bytes 32 to 39 (R463). -/
def poisonPattern : List Byte := [0xD1, 0xE5, 0x0A, 0x7B, 0x3C, 0x96, 0x48, 0xF2]

/-- The 40 bytes of the word at `w` as the memory holds them: the data, the check bytes of the data, P over the check bytes of stored poison,
and the error pattern over all (R457, R463). -/
def Store.stored (st : Store) (w : Nat) : List Byte :=
  let data := st.bytes w 32
  let check := if st.poison.contains w then (rsCheck data).zipWith (· ^^^ ·) poisonPattern else rsCheck data
  (st.err w).foldl (fun l p => l.set p.1 (l.getD p.1 0 ^^^ p.2)) (data ++ check)

end Sys2Proof.Machine
end

