-- ==== Sys2Proof/Machine/Pads.lean ====
section
/-! DEFINITION. What the digital pads of the two VIO banks drive (R74, R75, R77, R106, R108, R522, R546, Table 24.5). -/
namespace Sys2Proof.Machine

/-- What a pad shows. -/
inductive Pad where
  /-- driven low -/
  | low
  /-- driven high -/
  | high
  /-- high-impedance -/
  | highZ
  deriving DecidableEq, Repr

/-- A driven level. -/
def drive (v : Bool) : Pad := if v then .high else .low

/-- The pads of a bank are free of the reset (R522, R546): reset is released, the main domain is powered, the bank's voltage was in a range. -/
def bankFree (d : Dev) (bank : Fin 2) : Bool := decide (2 ≤ d.pwr.phase) && d.pwr.asleep = 0 && !d.pwr.vioOff.getLsbD bank.val

/-- The pad of a SYNC output (R74, R75, R77), in bank VIO1: the active level during a pulse, else the level POL rests at. -/
def syncPad (c : Cfg) (d : Dev) (o : Fin 16) : Pad :=
  if !bankFree d 0 || !c.b (ESC.SYNC_CFG o.val) 0 then .highZ
  else
    let active := (Assoc.get {} d.esc.syncs o.val : SyncDev).active && d.mode != 2 && !syncHeld c d o.val
    drive (active != c.b (ESC.SYNC_CFG o.val) 1)

/-- The pad of a PPS output (R106, R108), in bank VIO1: high-impedance with MODE 0. -/
def ppsPad (c : Cfg) (d : Dev) (o : Fin 2) : Pad :=
  if !bankFree d 0 || c.f (TBU.PPS_CFG o.val) 0 2 = 0 then .highZ
  else drive (Assoc.get false d.tbu.ppsActive o.val != c.b (TBU.PPS_CFG o.val) 2)

/-- The transceiver of a CAN controller is at its standby level (R401): CANn_STB, in bank VIO1; the level itself is the transceiver's. -/
def canStandby (d : Dev) (n : Fin 6) : Option Bool := if bankFree d 0 then some (d.b (CAN.STAT n.val) 4) else none

/-- CROWN_OUT is high while the crown latch is set (R336, Table 14.5). -/
def crownOut (d : Dev) : Pad := drive d.crown

/-- SEIZE_OUT is high during a pulse of this module (R343). -/
def seizeOut (d : Dev) : Pad := drive (d.prc.seizeOut != 0)

/-- What an analogue output drives (R452), in units of 1/32 768 V (MODE 0) or 1/32 768 mA (MODE 1): its zero value is 0. -/
def aoutPad (c : Cfg) (d : Dev) (o : Fin 4) : Int :=
  let x := d.aout o.val
  if x.zero then 0
  else if c.b (ANU.AOUT_CFG o.val) 1 then 4 * 32768 + 16 * max 0 x.code
  else 10 * x.code

/-- The RGMII pads of an Ethernet port, in bank VIO2: high-impedance in SGMII mode (Table 24.9); else the MAC drives them (`none`). -/
def rgmiiPad (c : Cfg) (d : Dev) (n : Fin 4) : Option Pad :=
  if !bankFree d 1 || c.f (ETH.CFG n.val) 1 1 = 1 then some .highZ else none

end Sys2Proof.Machine
end

