-- ==== Sys2Proof/WellFormed.lean ====
section
/-! DEFINITION. When a command is one the hardware can be given: the written value selects the row (CMD fields, COMMIT, DISCARD), a
register address is aligned, an access is a byte, a halfword or a word. Ranges of operands are in their types. -/
namespace Sys2Proof

/-- The command is well formed. -/
def Instr.wf (i : Instr) : Bool :=
  match i with
  | .jumpAccept value => value.toNat % 4 == 1
  | .jumpDecline value => value.toNat % 4 == 2
  | .trkRestart value => value.toNat % 4 == 1
  | .trkRelease value => value.toNat % 4 == 2
  | .trkResetClock value => value.toNat % 4 == 3
  | .actWithdraw value => value.toNat / 2 ^ 8 % 4 == 1
  | .actReadmit value => value.toNat / 2 ^ 8 % 4 == 2
  | .prcFail value => value.toNat % 4 == 2
  | .swap value => value.toNat % 4 == 1
  | .nymAccept value => value.toNat / 2 ^ 14 % 4 == 1
  | .nymForget value => value.toNat / 2 ^ 14 % 4 == 2
  | .shadowWrite addr _ => addr.toNat % 4 == 0
  | .registerWrite _ size _ => size == 1 || size == 2 || size == 4
  | .commit page value => page.toNat % 4096 == 0 && value.toNat % 4 == 1
  | .discard page value => page.toNat % 4096 == 0 && value.toNat / 2 % 2 == 1
  | .mark page value => page.toNat % 4096 == 0 && value.toNat % 4 == 0
  | .lock page _ => page.toNat % 4096 == 0
  | .uartMessage _ bytes _ _ => !bytes.isEmpty
  | .tryA _ cmd => cmd.toNat % 8 == 1
  | .tryB _ cmd => cmd.toNat % 8 == 2
  | .confirm value => value.toNat % 8 == 3
  | .raiseSecver value => value.toNat % 8 == 4
  | .beatBoundary | .modeReq _ | .neutralWaitClear | .class2HoldExpiry _ | .holdLimitExpiry _
  | .anglePositionUpdate _ _ | .angleBeatServe _ | .axisStall _ | .palletNone _ | .palletSync _ | .palletJob _ _
  | .palletSample _ | .palletLatch _ | .palletRelease _ | .palletCommit _ | .palletHack _ | .syncPulseEnd _
  | .beatLoRead | .tickLoRead | .timeStepInstant | .refInLost | .refInRestored | .sourceEvaluation _ _ _ _ | .gmChange _
  | .leap | .ppsPulse _ | .ppsPulseEnd _ | .ppsInEdge _ | .cmpArm _ _ | .compareFire _ | .cmpPulseEnd _
  | .ptpEventEgress _ _ | .slewComplete | .antBiasSample _ _ | .antShort _ _ | .antBiasRetry _ | .notchEngaged _ _ _
  | .notchDisengaged _ _ | .chCfgWrite _ _ _ | .chLoopWrite _ _ _ | .startAided _ | .startAcq _ | .stop _
  | .acqSearchStart _ | .acqDone _ _ _ | .acqSearchMiss _ | .acqRequeue _ | .acqAbandon _ | .integrationEnd _ _
  | .pllEngage _ | .chLost _ | .reacqTimeout _ _ _ | .measurementEpoch _ | .raimExclusionExpiry _ | .agcRefLearned _ _
  | .rtcmFrame _ _ | .corrStale | .vectorSteeringWrite _ | .vecMissLimit | .vecResume | .fusFrameClose _ | .coastExpired
  | .windHoldExpiry | .inertialPropagation _ _ | .trackTimeout _ | .feedbackLost _ | .splitSel _ | .slotStage _ _
  | .stagingDone _ | .submit _ | .jobSetupStart | .setupComplete _ _ _ | .iterationBoundary _ _ _ | .jobSuspend _ _
  | .jobResume | .writeBackComplete _ _ _ | .cancel _ | .clusterFault _ _ | .clIsolate _ _ | .clusterIsolated _
  | .jobDeadline _ _ | .jobPoison _ _ _ | .standbyJobTimeout _ _ | .busPwrWrite _ _ | .busPwrStale _ | .joyStale
  | .cqRunComplete | .envelopeStart | .loopSample _ _ _ | .slRestart _ | .spWrite _ _ | .linkUp | .linkDown
  | .linkRetransmit | .idleFrame | .linkFrameReceived _ _ | .heartbeatSend | .heartbeatReceived _ | .heartbeatMissed
  | .journalBlockReceived _ | .orphanBeat | .digestTimeout _ | .transferRequest | .transferStart | .transferDone _
  | .stateAdopt | .transferTimeout | .catchupTimeout | .seizeAccepted | .seizeInPulseEnd _ | .crownInChange _
  | .seizeTestPulse | .crownWire | .takeover | .seizeFailed | .seizeRetry | .swapHandover | .sfmCycle _
  | .offPulseTest _ _ | .resetArm _ | .resetArmExpiry | .resetInputRise | .resetInputTrailing | .osiHeartbeat _
  | .osiPduReceive _ _ | .osiExpiry _ | .canArbitration _ _ _ | .canTxComplete _ | .canError _ _ | .busOffRecovery _
  | .nlRetryAttempt _ _ | .txfPush _ _ | .txfCancel _ _ | .priReq _ _ | .priCancel _ _ | .canRxFrame _ _
  | .sourceTimeout _ | .refFrameSend _ | .refLost _ | .clashClr _ _ | .busLoadWindow _ _ | .sleepCmd _ _
  | .canWake _ _ | .ethLinkUp _ _ | .ethLinkDown _ | .ethIngressFrame _ _ | .sfUnblock _ _ | .gateEntryStart _
  | .ethEgressFrame _ | .ptpSyncSend _ _ | .ptpAnnounceSend _ | .ptpPdelaySend _ _ | .ptpMessageReceive _ _
  | .announceReceiptTimeout _ | .nymAnnouncement _ _ | .nymDepart _ | .addrClashClear | .fieldLinkSlot _
  | .fieldLinkLost | .outSet _ | .supplySample _ _ | .sagRestored _ | .supRestore _ | .wdgFeed _ | .wdgExpired
  | .crossFeedCheck _ _ | .diagOffPulse _ _ | .outOverload _ | .outOvertemp _ | .openLoad _ | .reverse _
  | .groupCurrent _ _ | .outClr _ _ | .inputSample _ _ | .testPulse _ _ | .ainConversion _ _ _ | .ainShuntReclose _
  | .aoutSet _ _ | .aoutFault _ | .encCount _ _ | .ssiRead _ | .ssiReadComplete _ _ | .encIndex _ | .encRestored _
  | .narrowWrite _ _ _ | .demandRead _ _ _ _ | .scrubWord _ _ | .lapAlarm _ | .injArm _ | .eventAdmit
  | .granuleCommit | .tokenRefill _ | .freezeStart | .freezeEnd | .freezeTimeout | .clrReq _ | .clrCmd _
  | .nonceExpiry | .clrLockExpiry | .hackFire _ | .hackLatch | .partnerHack _ | .selfTestStart _ _
  | .selfTestAbort _ _ | .selfTestEnd _ | .clTest _ _ | .clTestDone _ _ | .globalCommit _ | .uartTx _ _
  | .railWarn _ _ _ | .railOk _ _ _ | .powerOnReset | .brownOut | .overvoltageReset | .railReset _ | .thermalReset
  | .clockFault _ _ _ | .pinReset | .sysWatchdogExpiry | .jtagReset | .rstCmd _ | .wake _ | .wdtFeed _
  | .phase1Complete | .bootImage _ | .serviceImage _ | .calInvalid | .jtagAuth _ _ | .lpddr4xInitialised
  | .seizeOutPulseEnd | .outOvertempCooled _ | .reverseCleared _ | .openLoadCleared _ | .groupCurrentCleared _ _
  | .crossFedCleared _ | .encOpenWire _ | .addressAgeing _ | .jtagInstruction _ => true

end Sys2Proof
end

