-- ==== Sys2Proof/Safety.lean ====
section
/-! DEFINITION. The terms claims are stated in: what a command leaves unchanged, which commands may change the configuration or the
memories, the invariant of the memories. -/
namespace Sys2Proof.Machine

/-- Registers other than `ks` keep their values. -/
def RegsKept (ks : List Nat) (d e : Dev) : Prop := ∀ k, k ∉ ks → e.w k = d.w k

/-- The effect of a command on the units alone: configuration, memories (every byte), queue and bus reply stay; every register but
`ks` keeps its value; beside the registers the units become those of `f`. -/
def Effect (s t : State) (ks : List Nat) (f : Dev → Dev) : Prop :=
  t = { s with dev := t.dev } ∧ t.dev = { f s.dev with regs := t.dev.regs } ∧ RegsKept ks s.dev t.dev

/-- The same for a register write, which also completes its bus access (R14). -/
def Written (s t : State) (ks : List Nat) (f : Dev → Dev) : Prop :=
  t = { s with dev := t.dev, bus := .done 0 } ∧ t.dev = { f s.dev with regs := t.dev.regs } ∧ RegsKept ks s.dev t.dev

/-- The command answers a next state in which the units have become `d` and nothing else has changed: configuration, memories, queue and
bus reply stay. -/
def Becomes (i : Instr) (s : State) (d : Dev) : Prop := exec i s = .next { s with dev := d }

/-- The same for a register write, which also completes its bus access (R14). -/
def Completes (i : Instr) (s : State) (d : Dev) : Prop := exec i s = .next { s with dev := d, bus := .done 0 }

/-- Only the units have changed from `s` to `t`: configuration, memories, queue and bus reply stay. -/
def UnitsOnly (s t : State) : Prop := t = { s with dev := t.dev }

/-- The same after a register write, which completes its bus access (R14). -/
def UnitsWritten (s t : State) : Prop := t = { s with dev := t.dev, bus := .done 0 }

/-- `e` has recorded, after what `d` had, one occurrence with this code and these parameters, at the tick and beat of `d`. -/
def Records (d e : Dev) (code : Nat) (params : List Int) : Prop := e.occ = d.occ ++ [⟨code, d.tick, d.eventBeat, params⟩]

/-- The memories are in their canonical form. -/
def MemoryOk (s : State) : Prop := Memory.wf s.store.mem = true

/-- The live and the shadow values of the RWS registers are in their canonical form: each key once, ascending, no reset value. -/
def RegistersOk (s : State) : Prop := Assoc.wf regReset s.cfg.live = true ∧ Assoc.wf regReset s.cfg.shadow = true

/-- The commands that may change the memories: writes by cores and by the block, reads that correct, publications, commits of image
blocks, images, resets (R459 to R467, R503). -/
def touchesMemory (i : Instr) : Bool :=
  match i with
  | .beatBoundary | .timeStepInstant | .palletCommit _ | .palletJob _ _ | .palletRelease _ | .fusFrameClose _ | .coastExpired
  | .stagingDone _ | .setupComplete _ _ _ | .loopSample _ _ _ | .clusterFault _ _ | .clIsolate _ _ | .orphanBeat | .swapHandover | .priReq _ _
  | .writeBackComplete _ _ _ | .cancel _ | .cqRunComplete | .narrowWrite _ _ _ | .demandRead _ _ _ _ | .scrubWord _ _
  | .bootImage _ | .serviceImage _ | .granuleCommit | .clrCmd _ | .selfTestEnd _ | .submit _ | .holdLimitExpiry _ | .commit _ _
  | .discard _ _ | .mark _ _ | .globalCommit _ | .journalBlockReceived _ | .transferDone _ | .powerOnReset | .brownOut
  | .overvoltageReset | .railReset _ | .thermalReset | .pinReset | .sysWatchdogExpiry | .jtagReset | .rstCmd _ | .wake _ | .canWake _ _
  | .clockFault _ _ _ => true
  | _ => false

/-- The commands that may change the live or the shadow values of the RWS registers: shadow writes, commits and what carries them out,
a UTC offset, an image, a reset (R105, R502, R503, R516, R530). -/
def touchesRegisters (i : Instr) : Bool :=
  match i with
  | .beatBoundary | .timeStepInstant | .palletCommit _ | .commit _ _ | .discard _ _ | .mark _ _ | .globalCommit _
  | .shadowWrite _ _ | .registerWrite _ _ _ | .slotStage _ _ | .leap | .ptpMessageReceive _ _ | .canRxFrame _ _ | .canTxComplete _
  | .journalBlockReceived _ | .orphanBeat | .transferDone _ | .powerOnReset | .brownOut | .overvoltageReset | .railReset _
  | .thermalReset | .pinReset | .sysWatchdogExpiry | .jtagReset | .rstCmd _ | .wake _ | .canWake _ _
  | .clockFault _ _ _ => true
  | _ => false

end Sys2Proof.Machine
end

