-- ==== Sys2Proof/Certificates/Slice0/Obligations.lean ====
section
/-! DEFINITION. What is claimed of the model, for the provers: the general properties of a step first, then each family of commands in
the order of the spec's chapters. -/
open Sys2Proof Sys2Proof.Machine

/-- One step runs one command; the queue is the model's (log 2). -/
def Obligations.StepRunsFront : Prop :=
  ∀ (s : State) (c : Instr) (rest : List Instr), s.pending = c :: rest → step s = exec c { s with pending := rest }

/-- R84, as the step on an empty queue (log 4): the accumulator takes 5 ns plus RATE in units of 2^-32 ns and nothing is lost. -/
def Obligations.IdleStepIsOneCycle : Prop :=
  ∀ s : State, s.pending = [] → s.dev.acc < 5 * 2 ^ 32 →
    ∃ t, step s = .next t ∧ t = { s with dev := t.dev }
      ∧ ((t.dev.tick : Int) - s.dev.tick) * (5 * 2 ^ 32) + t.dev.acc = s.dev.acc + 5 * 2 ^ 32 + s.dev.s TBU.RATE 0 32
      ∧ t.dev.acc < 5 * 2 ^ 32 ∧ s.dev.tick ≤ t.dev.tick ∧ t.dev.tbu.cycles = s.dev.tbu.cycles + 1
      ∧ (s.dev.tbu.left = 0 → t.dev = { s.dev with
          tick := t.dev.tick, acc := t.dev.acc, tbu := { s.dev.tbu with cycles := t.dev.tbu.cycles } })

/-- The rows of the command table carry no encoding (00_scope.md). -/
def Obligations.NoWordSpellsACommand : Prop :=
  ∀ (s : State) (nbits w : Nat), decodeTableWord nbits w = none ∧ s.withFetchWord nbits w = s

/-- R503, R37: State.reset. Values that no table states are the model's (log 3). -/
def Obligations.ResetRegisters : Prop :=
  State.reset.pending = [] ∧ State.reset.bus = .idle ∧ State.reset.dev.mode = 2 ∧ State.reset.dev.crown = false
  ∧ ∀ k : Nat, State.reset.dev.w k = regReset k ∧ State.reset.cfg.w k = regReset k ∧ State.reset.cfg.sh k = regReset k
    ∧ State.reset.cfg.e k = regReset k ∧ State.reset.cfg.h k = 0

/-- R459 for regions 0 and 1; for regions 2 and 3 the model's choice (log 14). -/
def Obligations.ResetMemory : Prop := MemoryOk State.reset ∧ ∀ a, State.reset.store.byte a = 0

/-- Every command of the table has an effect: none faults, none is refused. -/
def Obligations.EveryCommandCompletes : Prop := ∀ (i : Instr) (s : State), ∃ t, exec i s = .next t ∧ t.pending = s.pending

/-- The invariant of the memories, over every command. -/
def Obligations.MemoryStaysCanonical : Prop := ∀ s t : State, MemoryOk s → step s = .next t → MemoryOk t

/-- The invariant of the register maps, over every command (log 1). -/
def Obligations.RegisterMapsStayCanonical : Prop :=
  RegistersOk State.reset ∧ ∀ s t : State, RegistersOk s → step s = .next t → RegistersOk t

/-- The frame of the memories, over all commands: touchesMemory names those that may change them. -/
def Obligations.MemoryFrame : Prop := ∀ (i : Instr) (s t : State), touchesMemory i = false → exec i s = .next t → t.store = s.store

/-- The frame of the configuration, over all commands: touchesRegisters names those that may change it. -/
def Obligations.ConfigurationFrame : Prop :=
  ∀ (i : Instr) (s t : State), touchesRegisters i = false → exec i s = .next t → t.cfg.live = s.cfg.live ∧ t.cfg.shadow = s.cfg.shadow

/-- R29. -/
def Obligations.ItemsInOrder : Prop :=
  ∀ l : List Item, (sortItems l).Perm l
    ∧ (sortItems l).Pairwise (fun a b => a.tick < b.tick ∨ (a.tick = b.tick ∧ a.source ≤ b.source))

/-- R30, R31. -/
def Obligations.SequenceCheck : Prop :=
  ∀ (st : SeqState) (l n : Nat), st.last = some l → l < 65536 → n < 65536 →
    (n = (l + 1) % 65536 → st.check n = (true, { st with last := some n }))
    ∧ (∀ g, 2 ≤ g → g < 32768 → n = (l + g) % 65536 → st.check n = (true, { st with last := some n, lost := st.lost + (g - 1) }))
    ∧ (n = l → st.check n = (false, { st with dup := st.dup + 1 }))
    ∧ (∀ g, 1 ≤ g → g ≤ 32768 → l = (n + g) % 65536 → st.check n = (false, { st with reorder := st.reorder + 1 }))

/-- R11, Table 0.5. -/
def Obligations.ValidItems : Prop :=
  ∀ bits : Nat, bits < 512 →
    ((quality bits).getLsbD 0 = true → (quality bits).getLsbD 1 = false ∧ (quality bits).getLsbD 2 = false
      ∧ (quality bits).getLsbD 4 = false ∧ (quality bits).getLsbD 7 = false)
    ∧ (∀ j, 1 ≤ j → j ≤ 7 → (quality bits).getLsbD j = bits.testBit j)
    ∧ ∀ i : Item, itemValid i = i.quality.getLsbD 0

/-- R8. -/
def Obligations.LittleEndian : Prop := ∀ n v : Nat, (leBytes n v).length = n ∧ leNat (leBytes n v) = v % 256 ^ n

/-- R60, with the boundary at the multiple of 200 000 that follows the last one (R59). -/
def Obligations.BeatNumber : Prop :=
  (∀ s : State, s.dev.pwr.asleep = 0 → s.dev.pwr.phase ≠ 0 → s.dev.mode = 2 → s.dev.stu.ended = true → s.dev.esc.loaded = false →
    ∃ t, exec .beatBoundary s = .next t ∧ t = { s with dev := t.dev } ∧ t.dev.mode = 3 ∧ t.dev.esc.loaded = true
      ∧ t.dev.esc.boundary = (s.dev.esc.boundary / 200000 + 1) * 200000 ∧ t.dev.tick = max s.dev.tick t.dev.esc.boundary
      ∧ t.dev.esc.beat = t.dev.esc.boundary / 200000 % 2 ^ 48 ∧ t.dev.w ESC.BEAT_SLIP = 0)
  ∧ (∀ d : Dev, d.esc.loaded = true → d.numberBeat.esc.beat = (d.esc.beat + 1) % 2 ^ 48
      ∧ (d.esc.slipLive = false → d.numberBeat.w ESC.BEAT_SLIP = 0)
      ∧ (d.esc.slipLive = true → d.numberBeat.w ESC.BEAT_SLIP
          = BitVec.ofInt 32 (((d.esc.boundary / 200000 : Nat) : Int) - d.numberBeat.esc.beat)))
  ∧ (∀ s : State, (s.dev.pwr.asleep ≠ 0 ∨ s.dev.pwr.phase = 0) → exec .beatBoundary s = .next s)
  ∧ ∀ s : State, s.dev.pwr.asleep = 0 → s.dev.pwr.phase ≠ 0 → s.dev.mode ≠ 2 → s.dev.b TBU.STATE 9 = false →
      let b := (s.dev.esc.boundary / 200000 + 1) * 200000
      exec .beatBoundary s = .next
        ({ s with dev := ({ s.dev.advanceTo b with esc := { s.dev.esc with boundary := b } } : Dev).numberBeat } : State).boundaryWork

/-- R514: commits follow the transition, and the registers in effect are those after the commits (R68). -/
def Obligations.BoundaryOrder : Prop :=
  (∀ s : State, 2 < (({ s.closeBeat with dev := s.closeBeat.dev.endRamp s.closeBeat.cfg } : State).modeStep).dev.mode →
    ∃ u : State, u = (({ s.closeBeat with dev := s.closeBeat.dev.endRamp s.closeBeat.cfg } : State).modeStep).boundaryCommits
      ∧ s.boundaryWork.cfg.live = u.cfg.live ∧ s.boundaryWork.store = u.store ∧ s.boundaryWork.cfg.esc = onPages [pageESC] u.cfg.live)
  ∧ (∀ (s : State) (cause target : Nat), firstWanted s.cfg s.dev = some (cause, target) → lockoutAsked s.cfg s.dev = false →
      ∃ d : Dev, s.settleModes = { s with dev := d.autoStep s.cfg cause target }
        ∧ d = { s.dev with modes := { s.dev.modes with openFrame := false, openSwap := false } })
  ∧ (∀ (s : State) (cause target : Nat), firstWanted s.cfg s.dev = some (cause, target) → lockoutAsked s.cfg s.dev = true →
      cause ≠ 0x0C → cause ≠ 0x0D → cause ≠ 0x0F → s.settleModes.dev.mode = 11)
  ∧ (∀ s : State, firstWanted s.cfg s.dev = none → s.dev.modes.request = none → s.settleModes.dev.mode = s.dev.mode
      ∧ s.settleModes.cfg = s.cfg)
  ∧ ∀ s : State, swapDue s.dev = false → s.dev.mode < 8 → s.modeStep = s.settleModes

/-- R40, R49, R78, R101, R191, R201, R347: what each does, and when it has nothing to do. -/
def Obligations.ModeCommands : Prop :=
  (∀ s : State, s.dev.b TBU.STATE 9 = true → s.dev.mode ≠ 2 → exec .timeStepInstant s = .next s.stepBoundary)
  ∧ (∀ s : State, s.dev.b TBU.STATE 9 = false → exec .timeStepInstant s = .next s)
  ∧ (∀ (s : State) (value : Word), s.dev.modes.request = none → journaling s.cfg s.dev = false →
      exec (.modeReq value) s = .next { s with bus := .done 0, dev := { s.dev with modes := { s.dev.modes with request := some value } } })
  ∧ (∀ (s : State) (value w : Word), s.dev.modes.request = some w → journaling s.cfg s.dev = false →
      ∃ t, exec (.modeReq value) s = .next t ∧ t.cfg = s.cfg ∧ t.store = s.store ∧ t.bus = .done 0 ∧ t.dev.modes.request = some value
        ∧ RegsKept [SYS.MODE_RESULT] s.dev t.dev ∧ t.dev.f SYS.MODE_RESULT 0 8 = 8 ∧ t.dev.f SYS.MODE_RESULT 8 4 = fld w 0 4
        ∧ t.dev.f SYS.MODE_RESULT 24 8 = (s.dev.f SYS.MODE_RESULT 24 8 + 1) % 256)
  ∧ (∀ (s : State) (t0 : Nat), s.dev.modes.neutralSince = some t0 → s.dev.b SYS.MODE 15 = true →
      exec .neutralWaitClear s = .next { s with dev := (s.dev.advanceTo (t0 + ticksPerSec / 2)).putB SYS.MODE 15 false })
  ∧ (∀ s : State, s.dev.modes.neutralSince = none → exec .neutralWaitClear s = .next s)
  ∧ (∀ s : State, s.dev.esc.loaded = true → 3 ≤ s.dev.mode → s.dev.esc.beat % 10 = 0 → (∀ r ∈ s.dev.fus.frames.head?, r.beat ≠ s.dev.esc.beat) →
      exec (.fusFrameClose ()) s = .next ({ s with
        store := (closeFrame s.cfg s.store s.dev).1, dev := (closeFrame s.cfg s.store s.dev).2 } : State).frameClosed)
  ∧ (∀ s : State, (s.dev.esc.loaded = false ∨ s.dev.mode < 3 ∨ s.dev.esc.beat % 10 ≠ 0 ∨ ∃ r ∈ s.dev.fus.frames.head?, r.beat = s.dev.esc.beat) →
      exec (.fusFrameClose ()) s = .next s)
  ∧ (∀ s : State, coastOut s.dev = true → s.dev.modes.openSwap = true →
      exec .coastExpired s = .next { s with dev := { ((s.dev.putB FUS.SPLIT_STAT 1 true).event 0x1115).want (if inSplit s.dev then 9 else 10) 7 with
        modes := { (((s.dev.putB FUS.SPLIT_STAT 1 true).event 0x1115).want (if inSplit s.dev then 9 else 10) 7).modes with openFrame := false } } })
  ∧ (∀ s : State, coastOut s.dev = false → exec .coastExpired s = .next s)
  ∧ (∀ s : State, s.dev.prc.swap = none → exec .swapHandover s = .next s)
  ∧ ∀ (s : State) (x : SwapDev), s.dev.prc.swap = some x → x.atBeat ≤ s.dev.esc.beat →
      let d : Dev := { s.dev with prc := { s.dev.prc with swap := none } }
      let e := (d.handover s.cfg x).displaceRequest
      (d.crown = true → (d.handover s.cfg x).mode ≠ s.dev.mode → exec .swapHandover s = .next { s with dev := { e with
        modes := { e.modes with openSwap := false, openFrame := false, wanted := keepWanted e 5 } } })
      ∧ (d.crown = false → d.mode = 4 → latchFree d = true → exec .swapHandover s = .next { s with dev := d.takeOver s.cfg })
      ∧ (d.crown = false → d.mode ≠ 4 → exec .swapHandover s = .next { s with dev := d })

/-- R37, R57: what every transition shows. -/
def Obligations.ModeEntry : Prop :=
  ∀ (d : Dev) (c : Cfg) (new cause station : Nat), new = 6 ∨ new = 7 ∨ new = 8 → d.crown = true → d.mode ≠ 3 → cause = 3 →
    ∃ e : Dev, e = d.enterMode c new cause station
      ∧ e.f SYS.MODE 0 4 = new ∧ e.f SYS.MODE 4 4 = d.mode ∧ e.f SYS.MODE 16 8 = cause ∧ e.f SYS.MODE 8 5 = 0
      ∧ e.w SYS.MODE_ENTRY = wd d.esc.beat ∧ e.crown = true
      ∧ (⟨0x0120, d.tick, d.eventBeat, [(d.mode : Int), new, cause, station]⟩ : Occurrence) ∈ e.occ

/-- Table 2.4, Table 2.6, Table 2.8; the order of the checks is DEDUCED (log 21). -/
def Obligations.RequestCodes : Prop :=
  ∀ (c : Cfg) (d : Dev) (value : Word),
    (fld value 16 16 ≠ 0x6D0E → requestCode c d value = (5, 0))
    ∧ (fld value 16 16 = 0x6D0E → d.mode = 11 → requestCode c d value = (7, 0))
    ∧ (fld value 16 16 = 0x6D0E → d.mode = 4 → 6 ≤ fld value 0 4 → fld value 0 4 ≤ 10 → requestCode c d value = (6, 0))
    ∧ (fld value 16 16 = 0x6D0E → d.mode = 3 → 7 ≤ fld value 0 4 → fld value 0 4 ≤ 10 → requestCode c d value = (3, 0))
    ∧ (fld value 16 16 = 0x6D0E → d.mode = 3 → fld value 0 4 = 6 → firstFailing c d [1, 2, 3, 10] = 0 → requestCode c d value = (0, 0))
    ∧ (fld value 16 16 = 0x6D0E → d.mode = 3 → fld value 0 4 = 6 → firstFailing c d [1, 2, 3, 10] ≠ 0 →
        requestCode c d value = (4, firstFailing c d [1, 2, 3, 10]))

/-- R66, R71. -/
def Obligations.PalletsInOrder : Prop :=
  ∀ l : List DuePallet, (sortPallets l).Perm l ∧ (sortPallets l).Pairwise (fun a b => palletBefore b a = false)

/-- R73, R71, for every action: PALLET_NONE shows it with no further effect. -/
def Obligations.LatePallets : Prop :=
  (∀ (d : Dev) (p : DuePallet) (rest : List DuePallet) (late start : Nat), d.esc.due = p :: rest →
    start = (match d.esc.issued with | none => p.tick + late | some t => max (p.tick + late) (t + 1)) →
      let e := ({ d with esc := { d.esc with due := rest, issued := some start } } : Dev).advanceTo start
      (start ≤ p.tick + 200 → d.takePallet p.action late = some (p, e))
      ∧ (p.tick + 200 < start → d.takePallet p.action late
          = some (p, (e.bump ESC.PAL_LATE_CNT).event 0x0304 [(p.wheel : Int), p.pallet, (start - p.tick : Nat)])))
  ∧ (∀ (d : Dev) (p : DuePallet) (rest : List DuePallet) (action late : Nat), d.esc.due = p :: rest → p.action ≠ action →
      d.takePallet action late = none)
  ∧ (∀ (d : Dev) (action late : Nat), d.esc.due = [] → d.takePallet action late = none)
  ∧ (∀ (s : State) (p : DuePallet) (rest : List DuePallet) (late : Nat), s.dev.esc.due = p :: rest → s.dev.esc.issued = none →
      p.action = 0 → late ≤ 200 → exec (.palletNone late) s = .next { s with
        dev := ({ s.dev with esc := { s.dev.esc with due := rest, issued := some (p.tick + late) } } : Dev).advanceTo (p.tick + late) })
  ∧ ∀ (s : State) (late : Nat), s.dev.esc.due = [] → exec (.palletNone late) s = .next s

/-- R75 to R77; PALLET_SYNC and SYNC_PULSE_END. The pulse's edge and end are cycles of the timebase clock (R75). -/
def Obligations.SyncPulses : Prop :=
  (∀ (s : State) (p : DuePallet) (e : Dev) (late : Nat), s.dev.takePallet 1 late = some (p, e) →
    let o := fld p.arg 0 4
    let x : SyncDev := Assoc.get {} e.esc.syncs o
    let edge := ((e.tbu.cycles : Int) + cyclesTo e p.tick).toNat
    let till := edge + fld p.arg 4 10 * ticksPerUs
    let d := e.triggered p.wheel p.tick
    (syncHeld s.cfg d o = true → exec (.palletSync late) s = .next { s with dev := d })
    ∧ (syncHeld s.cfg d o = false → x.active = false → exec (.palletSync late) s = .next { s with dev := { d with esc := { d.esc with
        syncs := Assoc.set {} d.esc.syncs o { active := true, until_ := till } } } })
    ∧ (syncHeld s.cfg d o = false → x.active = true → edge < x.until_ → exec (.palletSync late) s = .next { s with
        dev := (Dev.bump { d with esc := { d.esc with
          syncs := Assoc.set {} d.esc.syncs o { x with until_ := max x.until_ till } } } ESC.SYNC_OVL_CNT).event 0x0305 [(o : Int)] }))
  ∧ (∀ (s : State) (out : Fin 16) (x : SyncDev), Assoc.get {} s.dev.esc.syncs out.val = x → x.active = true →
      exec (.syncPulseEnd out) s = .next { s with dev := { s.dev.advanceCycles x.until_ with
        esc := { s.dev.esc with syncs := Assoc.set {} s.dev.esc.syncs out.val {} } } })
  ∧ ∀ (s : State) (out : Fin 16), (Assoc.get {} s.dev.esc.syncs out.val : SyncDev).active = false → exec (.syncPulseEnd out) s = .next s

/-- R62 to R65, R84, Table 3.3. -/
def Obligations.AngleAxes : Prop :=
  (∀ (s : State) (axis : Fin 4), let x := axisDev s.dev axis.val
    let diff := signed 32 (axisPosition s.cfg axis.val (s.dev.w (ENC.ENC_POS axis.val)) - x.nextB).toNat
    (x.on = false ∨ diff < 0 ∨ s.dev.mode < 3) → exec (.anglePositionUpdate axis ()) s = .next s)
  ∧ (∀ (s : State) (axis : Fin 4), let x := axisDev s.dev axis.val
    let diff := signed 32 (axisPosition s.cfg axis.val (s.dev.w (ENC.ENC_POS axis.val)) - x.nextB).toNat
    x.on = true → 0 ≤ diff → diff.toNat < axisInc s.cfg axis.val → 3 ≤ s.dev.mode → x.pend = [] → s.dev.b ESC.AX_STAT axis.val = false →
    ∃ t, exec (.anglePositionUpdate axis ()) s = .next t ∧ Effect s t [ESC.AX_BEAT axis.val] (fun d => { d with esc := t.dev.esc })
      ∧ t.dev.esc = { s.dev.esc with axes := t.dev.esc.axes }
      ∧ t.dev.w (ESC.AX_BEAT axis.val) = s.dev.w (ESC.AX_BEAT axis.val) + 1
      ∧ axisDev t.dev axis.val = { x with nextB := x.nextB + wd (axisInc s.cfg axis.val), pend := [s.dev.w (ESC.AX_BEAT axis.val) + 1],
                                          lastBeat := s.dev.tick, stalledAt := 0 })
  ∧ (∀ (s : State) (axis : Fin 4), (axisDev s.dev axis.val).pend = [] → exec (.angleBeatServe axis) s = .next s)
  ∧ (∀ (s : State) (axis : Fin 4) (n : Word) (rest : List Word), let x := axisDev s.dev axis.val
      x.pend = n :: rest →
      let serve (d : Dev) := (d.putAxis axis.val { x with pend := rest, served := some d.tick }).turnWheels s.cfg (axis.val + 1) n.toNat d.tick []
      (x.served = none → exec (.angleBeatServe axis) s = .next { s with dev := serve s.dev })
      ∧ ∀ t0, x.served = some t0 → exec (.angleBeatServe axis) s = .next { s with dev := serve (s.dev.advanceTo (t0 + 200)) })
  ∧ (∀ (s : State) (axis : Fin 4), let x := axisDev s.dev axis.val
      let ms := fld (s.cfg.e (ESC.AX_STALL axis.val)) 0 14
      x.on = true → ms ≠ 0 → s.dev.b ESC.AX_STAT axis.val = false →
      ∃ t, exec (.axisStall axis) s = .next t ∧ t.cfg = s.cfg ∧ t.store = s.store ∧ t.bus = s.bus ∧ RegsKept [ESC.AX_STAT] s.dev t.dev
        ∧ t.dev.b ESC.AX_STAT axis.val = true ∧ t.dev.b ESC.AX_STAT (8 + axis.val) = true
        ∧ t.dev.tick = max s.dev.tick (x.lastBeat + ms * ticksPerMs)
        ∧ t.dev.occ = s.dev.occ ++ [⟨0x0301, t.dev.tick, s.dev.eventBeat, [(axis.val + 1 : Int), (s.dev.w (ESC.AX_BEAT axis.val)).toNat]⟩])
  ∧ (∀ s : State, exec .beatLoRead s = .next
      { s with bus := .done (wd s.dev.esc.beat), dev := s.dev.putN ESC.BEAT_HI (s.dev.esc.beat / 2 ^ 32 % 2 ^ 16) })
  ∧ ∀ s : State, exec .tickLoRead s = .next
      { s with bus := .done (wd s.dev.tick), dev := (s.dev.putN TBU.TICK_HI (s.dev.tick / 2 ^ 32)).putN TBU.FRAC (s.dev.acc / 5) }

/-- R70, R68, R513: one clause per action, on the units as takePallet leaves them (LatePallets says how). -/
def Obligations.PalletActions : Prop :=
  ∀ (s : State) (p : DuePallet) (d : Dev) (late : Nat), let b := p.arg
    (s.dev.takePallet 3 late = some (p, d) → exec (.palletSample late) s = .next { s with dev := d.sampleGroup s.cfg (fld b 0 8) })
    ∧ (s.dev.takePallet 4 late = some (p, d) → exec (.palletLatch late) s = .next { s with
        dev := (List.range 4).foldl (fun (d : Dev) ch => if bit b ch then d.latchEncoder s.cfg ch else d) d })
    ∧ (s.dev.takePallet 7 late = some (p, d) → exec (.palletHack late) s = .next { s with dev := d.hackTrigger s.cfg 5 })
    ∧ (∀ fb, s.dev.takePallet 2 late = some (p, d) → lawOwns s.cfg (fld b 0 8) = false → loopsOwn s.cfg (fld b 0 8) = false →
        exec (.palletJob late fb) s = .next { s with dev := d.eventSec 0x0307 0 [(p.wheel : Int), p.pallet] })
    ∧ (∀ fb, s.dev.takePallet 2 late = some (p, d) → lawOwns s.cfg (fld b 0 8) = true → loopsOwn s.cfg (fld b 0 8) = false →
        exec (.palletJob late fb) s = .next { s with
          store := (lawGroup s.cfg s.store d (fld b 0 8)).1, dev := (lawGroup s.cfg s.store d (fld b 0 8)).2 })
    ∧ (∀ fb, s.dev.takePallet 2 late = some (p, d) → lawOwns s.cfg (fld b 0 8) = false → loopsOwn s.cfg (fld b 0 8) = true →
        exec (.palletJob late fb) s = .next { s with dev := d.pacedSamples s.cfg s.store (fld b 0 8) fb })
    ∧ (s.dev.takePallet 5 late = some (p, d) → fld b 0 4 < 6 → exec (.palletRelease late) s = .next { s with
        store := (releaseCan s.cfg s.store d (fld b 0 4) (fld b 8 8)).1, dev := (releaseCan s.cfg s.store d (fld b 0 4) (fld b 8 8)).2 })
    ∧ (s.dev.takePallet 5 late = some (p, d) → 8 ≤ fld b 0 4 → fld b 0 4 ≤ 11 → exec (.palletRelease late) s = .next { s with
        store := (releaseEth s.cfg s.store d (fld b 0 4 - 8) (fld b 8 8)).1
        dev := (releaseEth s.cfg s.store d (fld b 0 4 - 8) (fld b 8 8)).2 })
    ∧ (s.dev.takePallet 6 late = some (p, d) → let u : State := { s with dev := d }
        (u.groupPages = [] → exec (.palletCommit late) s = .next u)
        ∧ (u.groupPages ≠ [] → p.axis ≠ 0 → exec (.palletCommit late) s = .next (u.commitGroup d.mode (globalWord 0 0)).1))

/-- R86, R89, R99 to R105. -/
def Obligations.TimeCommands : Prop :=
  (∀ s : State, s.cfg.f TBU.SRC_CFG 12 2 ≠ 0 → s.dev.b TBU.STATE 10 = true →
    exec .refInLost s = .next { s with dev := (({ s.dev with tbu := { s.dev.tbu with refLost := true } } : Dev).putB TBU.STATE 10 false).event 0x0407 })
  ∧ (∀ s : State, s.cfg.f TBU.SRC_CFG 12 2 ≠ 0 → s.dev.b TBU.STATE 10 = false →
    exec .refInRestored s = .next { s with dev := if s.dev.tbu.refLost then
      ((({ s.dev with tbu := { s.dev.tbu with refLost := false } } : Dev).putB TBU.STATE 10 true).event 0x0408)
      else (({ s.dev with tbu := { s.dev.tbu with refLost := false } } : Dev).putB TBU.STATE 10 true) })
  ∧ (∀ s : State, s.cfg.f TBU.SRC_CFG 12 2 = 0 → exec .refInLost s = .next s ∧ exec .refInRestored s = .next s)
  ∧ (∀ (s : State) (value : Word), s.dev.mode ≠ 4 →
      (fld value 16 16 ≠ 0x7A11 ∨ bit value 0 = bit value 1 ∨ s.dev.b TBU.STATE 8 = false) →
      exec (.jumpAccept value) s = .next { s with bus := .done 0 } ∧ exec (.jumpDecline value) s = .next { s with bus := .done 0 })
  ∧ (∀ s : State, s.dev.mode ≠ 4 → s.dev.crown = false → s.dev.b TBU.STATE 8 = true → s.dev.b TBU.STATE 9 = false →
      let delta := stepTicks (s.dev.source (refusedSrc s.dev)).offset
      ∃ t, exec (.jumpAccept 0x7A110001#32) s = .next t ∧ t.cfg = s.cfg ∧ t.store = s.store ∧ t.bus = .done 0
        ∧ RegsKept [TBU.STATE, TBU.RATE, ESC.STEP_STAT] s.dev t.dev
        ∧ t.dev.b TBU.STATE 9 = true ∧ t.dev.b ESC.STEP_STAT 24 = true
        ∧ t.dev.tbu.stepDelta = delta ∧ t.dev.tbu.stepRest = (s.dev.source (refusedSrc s.dev)).offset - 5 * delta
        ∧ t.dev.tbu.stepAt = stepInstant s.dev delta 3 ∧ t.dev.tbu.stepSrc = refusedSrc s.dev
        ∧ t.dev.occ = s.dev.occ ++ [⟨0x0405, s.dev.tick, s.dev.eventBeat, [delta, 0, (stepInstant s.dev delta 3 : Int) + delta]⟩])
  ∧ (∀ s : State, s.dev.mode ≠ 4 → s.dev.crown = false → s.dev.b TBU.STATE 8 = true → s.dev.b TBU.STATE 9 = false →
      (∀ n ∈ [1, 2, 3, 4], (s.dev.source n).qualified = false ∨ n = refusedSrc s.dev) →
      ∃ t, exec (.jumpDecline 0x7A110002#32) s = .next t ∧ t.cfg = s.cfg ∧ t.store = s.store ∧ t.bus = .done 0
        ∧ RegsKept [TBU.STATE] s.dev t.dev ∧ t.dev.b TBU.STATE 8 = false
        ∧ (t.dev.source (refusedSrc s.dev)).excluded = true
        ∧ t.dev.occ = s.dev.occ ++ [⟨0x0406, s.dev.tick, s.dev.eventBeat, []⟩])
  ∧ (∀ (s : State) (gm : BitVec 64), s.dev.tbu.gm ≠ gm.toNat → tbuSrc s.dev = 2 → s.dev.b TBU.STATE 8 = false →
      ∃ t, exec (.gmChange gm) s = .next t ∧ t = { s with dev := t.dev }
        ∧ t.dev = { s.dev with tbu := t.dev.tbu, sw := t.dev.sw, occ := s.dev.occ ++ [⟨0x0409, s.dev.tick, s.dev.eventBeat, []⟩] }
        ∧ t.dev.tbu.gm = gm.toNat ∧ t.dev.tbu.firstOffset = true ∧ (t.dev.source 2).fresh = false
        ∧ (t.dev.port (s.cfg.f TBU.SRC_CFG 4 2)).syncs = [])
  ∧ (∀ (s : State) (gm : BitVec 64), s.dev.tbu.gm = gm.toNat → exec (.gmChange gm) s = .next s)
  ∧ (∀ s : State, let w := s.cfg.w TBU.UTC_OFS
      let d := s.dev.advanceTo (utcDayEnd w s.dev.tick)
      bit w 17 = true → s.dev.tbu.utcNext = none → exec .leap s = .next { s with
        cfg := s.cfg.putUtc (setFld (setFld w 0 16 (unsigned 16 (sfld w 0 16 + 1))) 17 2 0)
        dev := { d.event 0x040D with tbu := { d.tbu with utcNext := none } } })
  ∧ (∀ s : State, bit (s.cfg.w TBU.UTC_OFS) 17 = false → bit (s.cfg.w TBU.UTC_OFS) 18 = false → exec .leap s = .next s)
  ∧ (∀ (s : State) (rising : Bool) (sub : Fin 8),
      (s.cfg.b TBU.PPSIN_CFG 0 = true → s.cfg.b TBU.PPSIN_CFG 1 = !rising → exec (.ppsInEdge ⟨rising, sub⟩) s = .next { s with
        dev := { s.dev with tbu := { s.dev.tbu with ppsIn := some (s.dev.tick, sub.val) } } })
      ∧ ((s.cfg.b TBU.PPSIN_CFG 0 = false ∨ s.cfg.b TBU.PPSIN_CFG 1 = rising) → exec (.ppsInEdge ⟨rising, sub⟩) s = .next s))
  ∧ ∀ s : State, s.dev.tbu.left = 0 → exec .slewComplete s = .next s

/-- R90 to R97. -/
def Obligations.SourceDiscipline : Prop :=
  (∀ s : State, (∀ n, s.cfg.b TBU.SRC_CFG n = false) → tbuState s.dev = 0 → s.dev.b TBU.STATE 9 = false →
      s.dev.b TBU.STATE 8 = false → s.dev.mode ≠ 4 → s.dev.mode ≠ 5 → tbuSrc s.dev ≠ 6 → s.dev.tbu.gnss = none →
      ∃ t, exec (.sourceEvaluation () () () ()) s = .next t ∧ Effect s t [] (fun d => { d with tbu := t.dev.tbu, rbb := t.dev.rbb, sw := t.dev.sw })
        ∧ ∀ n ∈ [1, 2, 3, 4], t.dev.source n = {})
  ∧ (∀ (c : Cfg) (d : Dev) (n fuel : Nat), bestSource d = some n → withinThr c (d.source n).offset = true →
      (onSource d = true → n = tbuSrc d → d.chooseSource c (fuel + 1) = d.disciplineFrom c n)
      ∧ (onSource d = false → d.chooseSource c (fuel + 1) = d.takeSource c n))
  ∧ (∀ (c : Cfg) (d : Dev) (fuel : Nat), bestSource d = none → d.chooseSource c (fuel + 1) = d.holdover c)
  ∧ (∀ (c : Cfg) (d : Dev), tbuState d = 0 ∨ tbuState d = 3 → d.holdover c = d)
  ∧ (∀ (c : Cfg) (d : Dev), tbuState d = 1 ∨ tbuState d = 2 →
      tbuState (d.holdover c) = 3 ∧ tbuSrc (d.holdover c) = 5 ∧ (d.holdover c).w TBU.HOLD_TIME = 0
        ∧ (d.holdover c).tbu.e0 = (d.w TBU.EST_ERR).toNat ∧ (d.holdover c).w TBU.EST_ERR = d.w TBU.EST_ERR)
  ∧ (∀ (d : Dev) (n : Nat) (theta : Int), n < 8 →
      (d.refuse n theta).b TBU.STATE 8 = true ∧ refusedSrc (d.refuse n theta) = n ∧ (d.refuse n theta).f TBU.STATE 12 4 = 1
        ∧ ((d.refuse n theta).source n).refused = true ∧ RegsKept [TBU.STATE] d (d.refuse n theta)
        ∧ (d.refuse n theta).occ = d.occ ++ [⟨0x0404, d.tick, d.eventBeat, [theta, n]⟩])
  ∧ (∀ (c : Cfg) (d : Dev) (n need limit : Nat) (o : SourceShown) (v : Int) (t : Nat), c.b TBU.SRC_CFG (n - 1) = true → n ≠ 3 →
      o.good = true → o.bad = false → o.offset = some (v, t) → d.source n = {} →
      (d.qualify c n need limit o).source n
        = { good := min need 1, qualified := decide (need ≤ 1), offset := v, refTick := t, unc := o.unc, fresh := true })
  ∧ ∀ (c : Cfg) (d : Dev) (n need limit : Nat) (o : SourceShown), c.b TBU.SRC_CFG (n - 1) = true → o.bad = true →
      limit ≤ (d.source n).bad + 1 → ((d.qualify c n need limit o).source n).qualified = false
        ∧ ((d.qualify c n need limit o).source n).good = 0

/-- R106 to R113. -/
def Obligations.PulsesAndCompares : Prop :=
  (∀ (s : State) (out : Fin 2), s.cfg.f (TBU.PPS_CFG out.val) 0 2 = 1 → s.dev.b TBU.STATE 9 = false → s.dev.tbu.ppsOmit = none →
      s.cfg.b (TBU.PPS_CFG out.val) 3 = false → s.dev.tbu.ppsAltered = 0 →
      let t := nextPulse s.dev out.val
      let d := s.dev.advanceTo t
      exec (.ppsPulse out) s = .next { s with
        dev := ({ d with tbu := { d.tbu with ppsAt := Assoc.set none d.tbu.ppsAt out.val (some t) } } : Dev).ppsLevel out.val true })
  ∧ (∀ (s : State) (out : Fin 2) (start : Nat), s.cfg.f (TBU.PPS_CFG out.val) 0 2 = 1 →
      Assoc.get false s.dev.tbu.ppsActive out.val = true → Assoc.get none s.dev.tbu.ppsAt out.val = some start →
      exec (.ppsPulseEnd out) s = .next { s with dev := (s.dev.advanceTo (start + s.cfg.f (TBU.PPS_CFG out.val) 8 8 * ticksPerMs)).ppsLevel out.val false })
  ∧ (∀ (s : State) (unit : Fin 16) (value : Word), s.dev.tbu.cmpLate = 0 →
      (bit value 0 = false ∨ (bit value 1 = false ∧ fld value 2 2 = 0 ∧ cmpDistance s.dev unit.val ≤ 0)) →
      exec (.cmpArm unit value) s = .next { s with
        bus := .done 0, dev := s.dev.putN (TBU.CMP_CTRL unit.val) (value.toNat % 64 + fld value 16 16 * 2 ^ 16) })
  ∧ (∀ (s : State) (unit : Fin 16) (value : Word), bit value 0 = true → fld value 2 2 = 3 →
      exec (.cmpArm unit value) s = .next { s with bus := .done 0, dev := (s.dev.putB (TBU.CMP_CTRL unit.val) 0 false).event 0x040B [(unit.val : Int)] })
  ∧ (∀ (s : State) (unit : Fin 16), s.dev.b (TBU.CMP_CTRL unit.val) 0 = false → exec (.compareFire unit) s = .next s)
  ∧ (∀ (s : State) (unit : Fin 16), s.dev.w (TBU.CMP_CTRL unit.val) = 1 → cmpDistance s.dev unit.val < 0 →
      s.dev.tbu.cmpLate.testBit unit.val = false →
      exec (.compareFire unit) s = .next { s with
        dev := ((s.dev.advanceTo (s.dev.tick + (cmpDistance s.dev unit.val).natAbs)).putB TBU.CMP_STAT unit.val true).putB
          (TBU.CMP_CTRL unit.val) 0 false })
  ∧ (∀ (s : State) (out : Fin 2), s.cfg.f (TBU.PPS_CFG out.val) 0 2 = 2 → Assoc.get 0 s.dev.tbu.cmpEnd out.val ≠ 0 →
      ∃ t, exec (.cmpPulseEnd out) s = .next t ∧ Effect s t [] (fun d => { d with tick := t.dev.tick, acc := t.dev.acc, tbu := t.dev.tbu })
        ∧ t.dev.tick = max s.dev.tick (Assoc.get 0 s.dev.tbu.cmpEnd out.val)
        ∧ Assoc.get 0 t.dev.tbu.cmpEnd out.val = 0 ∧ Assoc.get false t.dev.tbu.ppsActive out.val = false)
  ∧ ∀ (s : State) (port : Fin 4) (frame : PtpEgress), frame.kind = .sync → frame.carrier = .layer2 →
      let ns := s.dev.tick * 5 + 5 * frame.sub.val / 8 + s.cfg.f (ETH.LAT port.val) 0 16
      ∃ t, exec (.ptpEventEgress port frame) s = .next t ∧ Effect s t [] (fun d => { d with sw := t.dev.sw })
        ∧ ∃ f, (t.dev.port port.val).egress = some (f, frameCheck (ptpBytes f)) ∧ f.originSec = BitVec.ofNat 48 (ns / 10 ^ 9)
          ∧ f.originNs = BitVec.ofNat 32 (ns % 10 ^ 9)

/-- R92, R105, R419. -/
def Obligations.SlewAndUtc : Prop :=
  (∀ s : State, s.dev.tbu.left ≠ 0 → tbuState s.dev = 2 → s.dev.b TBU.STATE 8 = false →
    ∃ t, exec .slewComplete s = .next t ∧ t.cfg = s.cfg ∧ t.store = s.store ∧ t.bus = s.bus ∧ RegsKept [TBU.STATE, TBU.RATE] s.dev t.dev
      ∧ tbuState t.dev = 1 ∧ t.dev.tbu.left = 0 ∧ s.dev.tick ≤ t.dev.tick)
  ∧ (∀ (s : State) (port : Fin 4) (gm : BitVec 64) (p1 cc acc p2 : BitVec 8) (var steps : BitVec 16) (utc : Int) (valid l61 l59 : Bool),
    let m := PtpMessage.announce gm p1 cc acc var p2 steps utc valid l61 l59
    let d := s.dev.ptpReceive s.cfg port.val m
    tbuSrc d = 2 → s.cfg.f TBU.SRC_CFG 4 2 = port.val → d.f (ETH.STAT port.val) 4 4 = 9 →
    bit (s.cfg.w TBU.UTC_OFS) 16 = false ∨ fld (s.cfg.w TBU.UTC_OFS) 17 2 = 0 →
    ∃ t, exec (.ptpMessageReceive port m) s = .next t ∧ t.store = s.store ∧ t.bus = s.bus ∧ t.dev = d.tbuClass s.cfg
      ∧ t.cfg.w TBU.UTC_OFS = wd (unsigned 16 utc + valid.toNat * 2 ^ 16 + l61.toNat * 2 ^ 17 + l59.toNat * 2 ^ 18)
      ∧ t.cfg.sh TBU.UTC_OFS = t.cfg.w TBU.UTC_OFS
      ∧ ∀ k, k ≠ TBU.UTC_OFS → t.cfg.w k = s.cfg.w k ∧ t.cfg.sh k = s.cfg.sh k)
  ∧ (∀ (s : State) (port : Fin 4) (gm : BitVec 64) (p1 cc acc p2 : BitVec 8) (var steps : BitVec 16) (utc : Int) (valid l61 l59 : Bool),
    let m := PtpMessage.announce gm p1 cc acc var p2 steps utc valid l61 l59
    let d := s.dev.ptpReceive s.cfg port.val m
    (tbuSrc d ≠ 2 ∨ s.cfg.f TBU.SRC_CFG 4 2 ≠ port.val) → exec (.ptpMessageReceive port m) s = .next { s with dev := d })
  ∧ ∀ (s : State) (port : Fin 4) (gm : BitVec 64) (origin : Nat) (corr : BitVec 64) (log : Int) (sub : Fin 8) (r : Nat),
      let p := s.dev.port port.val
      let own : Int := (s.dev.tick * 5 + 5 * sub.val / 8 : Nat) - s.cfg.f (ETH.LAT port.val) 16 16
      s.cfg.b ETHSW.PTP_CFG 0 = true → s.cfg.b (ETH.CFG port.val) 4 = true → s.dev.f (ETH.STAT port.val) 4 4 = 9 → p.announce = some (gm, r) →
      exec (.ptpMessageReceive port (.sync gm origin corr log sub)) s = .next { s with dev := s.dev.putPort port.val { p with
        syncs := ((origin : Int) + signed 64 corr.toNat / 65536 + p.pathDelay - own, s.dev.tick) :: p.syncs
        lastSync := some (s.dev.tick, logTicks log) } }

/-- R14, R15, R502, Table 22.4: REGISTER_WRITE and SHADOW_WRITE. -/
def Obligations.RegisterWrites : Prop :=
  (∀ (s : State) (addr value : Word) (size : Nat), (size ≠ 4 ∨ addr.toNat % 4 ≠ 0 ∨ inPage addr.toNat = false) →
    exec (.registerWrite addr size value) s = .next { s with bus := .error })
  ∧ (∀ (s : State) (addr value : Word), addr.toNat % 4 = 0 → inPage addr.toNat = true → 0x100 ≤ addr.toNat % 4096 →
      let k := regKey s.dev addr.toNat
      ((keyAccess k = none ∨ keyAccess k = some .ro ∨ keyAccess k = some .wo) →
        exec (.registerWrite addr 4 value) s = .next { s with bus := .done 0 })
      ∧ (keyAccess k = some .cnt → exec (.registerWrite addr 4 value) s = .next { s with bus := .done 0, dev := s.dev.put k 0 })
      ∧ (keyAccess k = some .w1c →
          exec (.registerWrite addr 4 value) s = .next { s with bus := .done 0, dev := s.dev.put k (s.dev.w k &&& ~~~(value &&& clearable k)) })
      ∧ (keyAccess k = some .rw →
          exec (.registerWrite addr 4 value) s = .next { s with bus := .done 0, dev := s.dev.writeRW k value })
      ∧ (keyAccess k = some .rws → s.cfg.closed (keyPage k) = false →
          ∃ t, exec (.registerWrite addr 4 value) s = .next t ∧ exec (.shadowWrite addr value) s = .next t ∧ t.dev = s.dev
            ∧ t.store = s.store ∧ t.bus = .done 0 ∧ t.cfg.live = s.cfg.live
            ∧ t.cfg.sh k = ((s.cfg.sh k &&& ~~~keyMask k) ||| (value &&& keyMask k)) ∧ (∀ j, j ≠ k → t.cfg.sh j = s.cfg.sh j)
            ∧ t.cfg.h (hdrSTAT (keyPage k)) = setBit (s.cfg.h (hdrSTAT (keyPage k))) 0 true)
      ∧ (keyAccess k = some .rws → s.cfg.closed (keyPage k) = true →
          ∃ t, exec (.registerWrite addr 4 value) s = .next t ∧ exec (.shadowWrite addr value) s = .next t
            ∧ t.store = s.store ∧ t.bus = .done 0 ∧ t.cfg.live = s.cfg.live ∧ t.cfg.shadow = s.cfg.shadow
            ∧ fld (t.cfg.h (hdrSTAT (keyPage k))) 8 8 = min 255 (fld (s.cfg.h (hdrSTAT (keyPage k))) 8 8 + 1)
            ∧ RegsKept [hdrIRQ_RAW (keyPage k)] s.dev t.dev ∧ t.dev.b (hdrIRQ_RAW (keyPage k)) 26 = true))
  ∧ (∀ (s : State) (addr : BitVec 48) (size : Nat) (upset : List (Fin 40 × Byte)) (newer : Bool) (by_ : PoisonUse),
      inPage addr.toNat = true →
      ((size ≠ 4 ∨ addr.toNat % 4 ≠ 0) → exec (.demandRead ⟨addr, size⟩ upset newer by_) s = .next { s with bus := .error })
      ∧ (addr.toNat % 4 = 0 → addr.toNat ≠ ESC.BEAT_LO → addr.toNat ≠ TBU.TICK_LO →
          exec (.demandRead ⟨addr, 4⟩ upset newer by_) s = .next { s with bus := .done (peek s.cfg s.dev addr.toNat) })
      ∧ (addr.toNat = ESC.BEAT_LO → exec (.demandRead ⟨addr, 4⟩ upset newer by_) s = exec .beatLoRead s)
      ∧ (addr.toNat = TBU.TICK_LO → exec (.demandRead ⟨addr, 4⟩ upset newer by_) s = exec .tickLoRead s))
  ∧ ∀ (c : Cfg) (d : Dev) (a : Nat), inPage a = true → 0x100 ≤ a % 4096 → 0x40000000 ≤ a → a ≠ SYS.GLOBAL_STAT → a ≠ ESC.BEAT_LO →
      a ≠ TBU.TICK_LO → (a < NYM.RST_UID_LO ∨ NYM.RST_BIND < a) → (a < NYM.EXP_STAT 0 ∨ NYM.EXP_STAT 63 < a) →
      (keyAccess (regKey d a) = none ∨ keyAccess (regKey d a) = some .wo → peek c d a = 0)
      ∧ (keyAccess (regKey d a) = some .rws → d.b (hdrCTRL (a / 4096 * 4096)) 1 = false → peek c d a = c.w (regKey d a))
      ∧ (keyAccess (regKey d a) = some .rws → d.b (hdrCTRL (a / 4096 * 4096)) 1 = true → peek c d a = c.sh (regKey d a))

/-- R510. -/
def Obligations.PageLock : Prop :=
  (∀ (s : State) (page value : Word), (pageAt page.toNat).isSome = true →
    ∃ t, exec (.lock page value) s = .next t ∧ t = { s with bus := .done 0, cfg := t.cfg }
      ∧ t.cfg = s.cfg.putH (hdrSTAT page.toNat) (t.cfg.h (hdrSTAT page.toNat))
      ∧ t.cfg.h (hdrSTAT page.toNat) = setBit (s.cfg.h (hdrSTAT page.toNat)) 3 (decide (fld value 0 16 ≠ 0x4C0B)))
  ∧ (∀ p : Nat, bit (State.reset.cfg.h (hdrSTAT p)) 3 = false)
  ∧ ∀ (s : State) (p addr : Nat) (b : Bool) (es : List (Nat × Word)),
      (State.applyContents { s with cfg := s.cfg.putH (hdrSTAT p) (setBit (s.cfg.h (hdrSTAT p)) 3 b) } addr es).cfg.live
        = (s.applyContents addr es).cfg.live

/-- R503, R505, R506, R511, R516. -/
def Obligations.CommitProtocol : Prop :=
  (∀ (s : State) (page value : Word), (pageAt page.toNat).isNone = true →
      exec (.commit page value) s = .next { s with bus := .error } ∧ exec (.discard page value) s = .next { s with bus := .error }
      ∧ exec (.mark page value) s = .next { s with bus := .error } ∧ exec (.lock page value) s = .next { s with bus := .error })
  ∧ (∀ (s : State) (page : Word), (pageAt page.toNat).isSome = true → page.toNat ≠ pageSTU → s.dev.mode ≠ 4 →
      (∃ t, exec (.commit page 0x31#32) s = .next t ∧ t.bus = .done 0 ∧ t.cfg.live = s.cfg.live ∧ t.cfg.shadow = s.cfg.shadow
          ∧ fld (t.cfg.h (hdrCOMMIT_STAT page.toNat)) 0 2 = 2
          ∧ t.dev.occ = s.dev.occ ++ [⟨0x0101, s.dev.tick, s.dev.eventBeat, [((page.toNat - 0x40000000) / 4096 : Nat), 2, 0xE1]⟩])
      ∧ (bit (s.cfg.h (hdrSTAT page.toNat)) 3 = false → s.cfg.due.find? (fun e => e.1 = page.toNat) = none →
          ∃ t, exec (.commit page 0x11#32) s = .next t ∧ t.bus = .done 0 ∧ t.dev = s.dev ∧ t.cfg.live = s.cfg.live
            ∧ t.cfg.shadow = s.cfg.shadow ∧ bit (t.cfg.h (hdrSTAT page.toNat)) 2 = true ∧ t.cfg.h (hdrCOMMIT_STAT page.toNat) = 1))
  ∧ (∀ (s : State) (page : Word) (k : Nat), RegistersOk s → (pageAt page.toNat).isSome = true → page.toNat ≠ pageSTU → s.dev.mode ≠ 4 →
      s.dev.crown = false → bit (s.cfg.h (hdrSTAT page.toNat)) 3 = false →
      State.pageFail { s with cfg := (s.cfg.putMark page.toNat 1#32).putTiming page.toNat 0 0 } [page.toNat] s.dev.mode page.toNat
        = none →
      ∃ t, exec (.commit page 1#32) s = .next t ∧ t.bus = .done 0
        ∧ (keyPage k = page.toNat → t.cfg.w k = s.cfg.sh k) ∧ (keyPage k ≠ page.toNat → t.cfg.w k = s.cfg.w k))
  ∧ (∀ (s : State) (page : Word) (k : Nat), RegistersOk s → (pageAt page.toNat).isSome = true →
      (s.dev.mode ≠ 4 ∨ pageJournaled page.toNat = false) →
      ∃ t, exec (.discard page 2#32) s = .next t ∧ t.bus = .done 0 ∧ t.dev = s.dev ∧ t.store = s.store ∧ t.cfg.live = s.cfg.live
        ∧ (keyPage k = page.toNat → t.cfg.sh k = s.cfg.w k) ∧ (keyPage k ≠ page.toNat → t.cfg.sh k = s.cfg.sh k)
        ∧ bit (t.cfg.h (hdrSTAT page.toNat)) 0 = false)
  ∧ (∀ (s : State) (page : Word), (pageAt page.toNat).isSome = true → (s.dev.mode ≠ 4 ∨ pageJournaled page.toNat = false) →
      ∃ t, exec (.mark page 4#32) s = .next t ∧ t.bus = .done 0 ∧ t.dev = s.dev ∧ t.store = s.store ∧ t.cfg.live = s.cfg.live
        ∧ t.cfg.shadow = s.cfg.shadow ∧ bit (t.cfg.h (hdrSTAT page.toNat)) 1 = pageGroup page.toNat)
  ∧ (∀ (s : State) (value : Word), (fld value 16 16 ≠ 0x6C0A ∨ bit value 0 = false) →
      exec (.globalCommit value) s = .next { s with bus := .done 0 })
  ∧ ∀ s : State, s.groupPages = [] → s.dev.mode ≠ 4 → s.dev.crown = false →
      ∃ t, exec (.globalCommit 0x6C0A0001#32) s = .next t ∧ t.bus = .done 0 ∧ t.cfg.live = s.cfg.live ∧ t.cfg.shadow = s.cfg.shadow
        ∧ t.cfg.h SYS.GLOBAL_STAT = 0 ∧ t.store = s.store

/-- R520, Table 22.9. -/
def Obligations.UartCommands : Prop :=
  ∀ (s : State) (u : Fin 12) (bytes : List RxByte), let x : UartDev := Assoc.get {} s.dev.uarts u.val
    (s.cfg.b (UART.UCFG u.val) 0 = false → exec (.uartMessage u bytes () ()) s = .next s)
    ∧ (s.cfg.b (UART.UCFG u.val) 0 = true → messageLen s.cfg u.val (x.rx ++ bytes) = none → exec (.uartMessage u bytes () ()) s = .next { s with
        dev := ({ s.dev with uarts := Assoc.set {} s.dev.uarts u.val { x with rx := x.rx ++ bytes } } : Dev).putF (UART.USTAT u.val) 8 8
          (min (x.rx ++ bytes).length 255) })
    ∧ (s.cfg.b (UART.UCFG u.val) 0 = true → x.rx = [] → bytes ≠ [] → messageLen s.cfg u.val bytes = some bytes.length →
        let d := (s.dev.advanceTo (messageEnd s.cfg u.val bytes)).uartTake s.cfg u.val bytes
        exec (.uartMessage u bytes () ()) s = .next { s with
          dev := ({ d with uarts := Assoc.set {} d.uarts u.val { (Assoc.get {} d.uarts u.val : UartDev) with rx := [] } } : Dev).putF
            (UART.USTAT u.val) 8 8 0 })
    ∧ (∀ d : Dev, bytes.all (rxOk s.cfg u.val) = false → d.uartTake s.cfg u.val bytes = d.sat (UART.UERR_CNT u.val) 0 16 1)
    ∧ (∀ (d : Dev) (b : RxByte) (l : List RxByte), bytes = b :: l → bytes.all (rxOk s.cfg u.val) = true → s.cfg.b TBU.PPSIN_CFG 0 = false →
        d.uartTake s.cfg u.val bytes = d.capture s.cfg (s.cfg.f (UART.USRC u.val) 0 16) (s.cfg.f (UART.UCFG u.val) 6 2) b.start
          (if 255 < bytes.length then 4 else 0) ((bytes.map (·.value)).take 255))
    ∧ ∀ value : Word, x.tx = [] → exec (.uartTx u value) s = .next { s with
        bus := .done 0
        dev := ({ s.dev with uarts := Assoc.set {} s.dev.uarts u.val { x with
          tx := [(BitVec.ofNat 8 value.toNat, s.dev.tick + bitTicks s.cfg u.val (frameBits s.cfg u.val))] } } : Dev).putF (UART.USTAT u.val) 0 8 1 }

/-- R353 to R372. -/
def Obligations.SafetyMonitor : Prop :=
  (∀ (s : State) (diag : SfmDiag), s.dev.mode ≤ 2 → ∃ t, exec (.sfmCycle diag) s = .next t ∧ UnitsOnly s t
      ∧ t.dev.sfm.cycle = s.dev.sfm.cycle + 1 ∧ t.dev.sfm.insts = [] ∧ t.dev.sfm.loopTrip = false ∧ t.dev.w SFM.VIOL = 0
      ∧ t.dev.occ = s.dev.occ)
  ∧ (∀ (s : State) (diag : SfmDiag), 3 ≤ s.dev.mode → ∃ t, exec (.sfmCycle diag) s = .next t ∧ UnitsOnly s t
      ∧ t.dev.sfm.cycle = s.dev.sfm.cycle + 1 ∧ t.dev.sfm.loopTrip = false)
  ∧ (∀ (s : State) (out : Fin 4), let t := opDue s.cfg s.dev out.val
      let d : Dev := { s.dev with sfm := { s.dev.sfm with cycle := t, opCycle := Assoc.set 0 s.dev.sfm.opCycle out.val t } }
      s.cfg.b SFM.CFG 4 = true → (testedOuts s.cfg).contains out.val = true → (s.dev.out (12 + out.val)).driven = true →
      exec (.offPulseTest out true) s = .next { s with dev := d.bump SFM.OP_CNT }
      ∧ exec (.offPulseTest out false) s = .next { s with dev := (d.event 0x0907 [((12 + out.val : Nat) : Int)]).sfmFault s.cfg [6] })
  ∧ (∀ (s : State) (out : Fin 4) (fell : Bool), (s.cfg.b SFM.CFG 4 = false ∨ (s.dev.out (12 + out.val)).driven = false) →
      exec (.offPulseTest out fell) s = .next s)
  ∧ (∀ (s : State) (value : Word), fld value 16 16 ≠ 0x2E5D → exec (.resetArm value) s = .next { s with
      bus := .done 0, dev := (s.dev.putF SFM.RESET_RES 0 4 4).event 0x0906 [4] })
  ∧ (∀ (s : State) (value : Word), fld value 16 16 = 0x2E5D → s.dev.mode ≠ 11 → exec (.resetArm value) s = .next { s with
      bus := .done 0, dev := (s.dev.putF SFM.RESET_RES 0 4 3).event 0x0906 [3] })
  ∧ (∀ (s : State) (value : Word), fld value 16 16 = 0x2E5D → s.dev.mode = 11 →
      let d := ({ s.dev with sfm := { s.dev.sfm with armCycle := some s.dev.sfm.cycle } } : Dev).putB SFM.STAT 8 true
      exec (.resetArm value) s = .next { s with bus := .done 0, dev := ((d.putF SFM.RESET_RES 0 4 1).event 0x0904).showSfm s.cfg })
  ∧ (∀ (s : State) (a : Nat), s.dev.b SFM.STAT 8 = true → s.dev.sfm.armCycle = some a →
      let d := ({ s.dev with sfm := { s.dev.sfm with cycle := max s.dev.sfm.cycle (a + 10000) } } : Dev).putB SFM.STAT 8 false
      exec .resetArmExpiry s = .next { s with dev := d.showSfm s.cfg })
  ∧ (∀ s : State, s.dev.b SFM.STAT 8 = false → exec .resetArmExpiry s = .next s)
  ∧ (∀ s : State, s.cfg.b SFM.RST_CFG 7 = false → exec .resetInputRise s = .next s ∧ exec .resetInputTrailing s = .next s)
  ∧ (∀ s : State, s.cfg.b SFM.RST_CFG 7 = true →
      exec .resetInputRise s = .next { s with dev := { s.dev with sfm := { s.dev.sfm with riseCycle := some s.dev.sfm.cycle } } }
      ∧ ∃ t, exec .resetInputTrailing s = .next t ∧ UnitsOnly s t ∧ t.dev.b SFM.STAT 8 = false ∧ t.dev.sfm.armCycle = none
        ∧ t.dev.f SFM.RESET_RES 0 4 = trailingCode s.cfg s.dev)
  ∧ (∀ (s : State) (conn : Fin 32), s.dev.mode ≠ 3 → exec (.osiHeartbeat conn) s = .next s)
  ∧ (∀ (s : State) (conn : Fin 32), s.dev.mode = 3 → s.dev.modes.rampBeat = false → precond s.cfg s.dev 3 = true →
      (sendConns s.cfg).contains conn.val = true → (s.dev.conn conn.val).hbTick = none →
      let d := s.dev.putConn conn.val { s.dev.conn conn.val with hbTick := some s.dev.tick }
      exec (.osiHeartbeat conn) s = .next { s with dev := d.osiSend s.cfg conn.val 2 [] .port })
  ∧ (∀ (s : State) (port : Fin 16) (frame : List Byte), frame.length < 4 → exec (.osiPduReceive port frame) s = .next { s with
      dev := (s.dev.bump SFM.OSI_DISC_CNT).eventSec 0x090A (64 + port.val) [(port.val : Int), 1] })
  ∧ (∀ (s : State) (port : Fin 16) (frame : List Byte), pduMalformed port.val frame = false → recvConns s.cfg = [] →
      exec (.osiPduReceive port frame) s = .next { s with
        dev := (s.dev.bump SFM.OSI_DISC_CNT).eventSec 0x090A (64 + port.val) [(port.val : Int), 2] })
  ∧ (∀ (s : State) (port : Fin 16) (frame : List Byte) (k : Nat), pduMalformed port.val frame = false →
      (recvConns s.cfg).find? (fun k => osiPort s.cfg k = port.val && osiId s.cfg k = leAt frame 2 2) = some k →
      let l := leAt frame 1 1
      let x := s.dev.conn k
      crc32cFrom (s.cfg.w (SFM.OSI_IDENT k)).toNat (frame.take (10 + l)) = leAt frame (10 + l) 4 →
      (s.dev.f (SFM.OSI_STAT k) 0 2 = 0 ∨ leAt frame 0 1 % 16 = 3 ∨ seqDiff 16 (leAt frame 4 2) x.seq = 1) →
      exec (.osiPduReceive port frame) s = .next { s with
        dev := (s.dev.putConn k { x with seq := leAt frame 4 2 }).osiAccept s.cfg k frame })
  ∧ (∀ (s : State) (conn : Fin 32) (t0 : Nat), (recvConns s.cfg).contains conn.val = true → s.dev.f (SFM.OSI_STAT conn.val) 0 2 = 2 →
      (s.dev.conn conn.val).expire = some t0 →
      let d := (s.dev.advanceTo t0).putConn conn.val { s.dev.conn conn.val with expire := none, good := 0 }
      let e := d.repeatStale s.cfg ((s.cfg.f SFM.OSI_CFG 0 16 + conn.val) % 65536)
      exec (.osiExpiry conn) s = .next { s with dev := (e.putF (SFM.OSI_STAT conn.val) 0 2 1).event 0x0908 [(conn.val : Int)] })
  ∧ ∀ (s : State) (conn : Fin 32), (s.dev.f (SFM.OSI_STAT conn.val) 0 2 = 0 ∨ (s.dev.conn conn.val).expire = none) →
      exec (.osiExpiry conn) s = .next s

/-- R379, R392, R404, R416. -/
def Obligations.FramesReceived : Prop :=
  (∀ (s : State) (ctrl : Fin 6) (frame : CanFrame), s.cfg.f TBU.SRC_CFG 8 3 ≠ ctrl.val →
      (canOn s.dev ctrl.val = false ∨ s.dev.f (CAN.STAT ctrl.val) 0 2 = 3) → exec (.canRxFrame ctrl frame) s = .next s)
  ∧ (∀ (s : State) (ctrl : Fin 6) (frame : CanFrame), let n := ctrl.val
      s.cfg.f TBU.SRC_CFG 8 3 ≠ n → canOn s.dev n = true → s.dev.f (CAN.STAT n) 0 2 ≠ 3 → s.cfg.b (CAN.CFG n) 4 = false →
      (frame.fdf = true → s.cfg.b (CAN.CFG n) 1 = false → exec (.canRxFrame ctrl frame) s = .next { s with dev := s.dev.recUp n 1 })
      ∧ (frame.fdf = false → frame.exception = false → frame.rtr = true → exec (.canRxFrame ctrl frame) s = .next { s with
          dev := ((s.dev.recDown n).listenerHeard s.cfg n).sat (CAN.RX_OVF_CNT n) 16 16 1 })
      ∧ (frame.fdf = false → frame.exception = false → frame.rtr = false → exec (.canRxFrame ctrl frame) s = .next { s with
          dev := ((s.dev.recDown n).listenerHeard s.cfg n).canDeliver s.cfg n frame }))
  ∧ ∀ (s : State) (port : Fin 4) (frame : EthFrame) (d : Dev), let n := port.val
      (s.dev.ingress s.cfg n frame = (.dropped, d) → exec (.ethIngressFrame port frame) s = .next { s with dev := d })
      ∧ (s.dev.ingress s.cfg n frame = (.osiraka, d) →
          exec (.ethIngressFrame port frame) s = .next { s with dev := d.osiReceive s.cfg (8 + n) frame.payload })
      ∧ (s.dev.ingress s.cfg n frame = (.iec, d) → exec (.ethIngressFrame port frame) s = .next { s with dev := d.iecDatagram s.cfg n frame })
      ∧ ∀ cls, s.dev.ingress s.cfg n frame = (.other cls, d) →
          exec (.ethIngressFrame port frame) s = .next { s with dev := d.bridge s.cfg n cls frame }

/-- R432 to R444. -/
def Obligations.FieldOutputs : Prop :=
  (∀ (s : State) (value : Word), ∃ t, exec (.outSet value) s = .next t ∧ UnitsWritten s t ∧ RegsKept [FIO.OUT_SET] s.dev t.dev
      ∧ t.dev.w FIO.OUT_SET = wd (fld value 0 16) ∧ t.dev.occ = s.dev.occ ∧ t.dev.field.outs = s.dev.field.outs)
  ∧ (∀ s : State, ∃ t, exec (.fieldLinkSlot false) s = .next t ∧ Effect s t [FIO.LINK_ERR_CNT]
        (fun d => { d with field := { d.field with badSlots := d.field.badSlots + 1 } })
      ∧ t.dev.w FIO.LINK_ERR_CNT = (s.dev.bump FIO.LINK_ERR_CNT).w FIO.LINK_ERR_CNT)
  ∧ (∀ s : State, s.dev.mode ≠ 11 → s.dev.field.pendSfm = none → ∃ t, exec (.fieldLinkSlot true) s = .next t ∧ UnitsOnly s t ∧ t.dev.field.badSlots = 0
      ∧ t.dev.field.pendMask = 0 ∧ t.dev.field.pendAout = []
      ∧ ∀ k, k < 16 → (t.dev.out k).cmd = if s.dev.field.pendMask.testBit k then s.dev.field.pendBits.testBit k else (s.dev.out k).cmd)
  ∧ (∀ (s : State) (b : Nat), s.dev.field.pendSfm = some b → ∃ t, exec (.fieldLinkSlot true) s = .next t ∧ UnitsOnly s t
      ∧ t.dev.field.sfmBits = b ∧ t.dev.field.pendSfm = none ∧ t.dev.field.pendMask = s.dev.field.pendMask
      ∧ t.dev.field.pendAout = s.dev.field.pendAout)
  ∧ (∀ (s : State) (out : Fin 16), let k := outLead s.cfg out.val
      ((s.dev.out k).driven = true → ∃ t, exec (.outOverload out) s = .next t ∧ UnitsOnly s t ∧ (t.dev.out k).driven = false
        ∧ (t.dev.out k).overload = true ∧ (t.dev.out k).fast = true ∧ (∀ j, j ≠ k → t.dev.out j = s.dev.out j)
        ∧ Records s.dev t.dev 0x3001 [(k : Int)])
      ∧ ((s.dev.out k).driven = false → exec (.outOverload out) s = .next s)
      ∧ (∃ t, exec (.outOvertemp out) s = .next t ∧ UnitsOnly s t ∧ (t.dev.out k).driven = false ∧ (t.dev.out k).hot = true
        ∧ (t.dev.out k).hotTicks.head? = some s.dev.tick ∧ (∀ j, j ≠ k → t.dev.out j = s.dev.out j) ∧ Records s.dev t.dev 0x3002 [(k : Int)])
      ∧ (∃ t, exec (.outOvertempCooled out) s = .next t ∧ UnitsOnly s t ∧ (t.dev.out k).hot = false
        ∧ (t.dev.out k).overtempLatch = (s.dev.out k).overtempLatch ∧ (∀ j, j ≠ k → t.dev.out j = s.dev.out j) ∧ t.dev.occ = s.dev.occ)
      ∧ ((s.dev.out k).reverse = false → ∃ t, exec (.reverse out) s = .next t ∧ UnitsOnly s t ∧ (t.dev.out k).driven = false
        ∧ (t.dev.out k).reverse = true ∧ (∀ j, j ≠ k → t.dev.out j = s.dev.out j) ∧ Records s.dev t.dev 0x3005 [(k : Int)])
      ∧ (∃ t, exec (.reverseCleared out) s = .next t ∧ UnitsOnly s t ∧ (t.dev.out k).reverse = false
        ∧ (∀ j, j ≠ k → t.dev.out j = s.dev.out j) ∧ t.dev.occ = s.dev.occ)
      ∧ (s.cfg.b (FIO.OUT_CFG k) 6 = true → (s.dev.out k).driven = true → (s.dev.out k).openLoad = false →
        ∃ t, exec (.openLoad out) s = .next t ∧ UnitsOnly s t ∧ (t.dev.out k).openLoad = true
          ∧ (∀ j, j ≠ k → t.dev.out j = s.dev.out j) ∧ Records s.dev t.dev 0x3006 [(k : Int)])
      ∧ (∃ t, exec (.openLoadCleared out) s = .next t ∧ UnitsOnly s t ∧ (t.dev.out k).openLoad = false
        ∧ (∀ j, j ≠ k → t.dev.out j = s.dev.out j) ∧ t.dev.occ = s.dev.occ)
      ∧ ((s.dev.out k).driven = false → ∃ t, exec (.crossFedCleared out) s = .next t ∧ UnitsOnly s t ∧ (t.dev.out k).crossFed = false
        ∧ (t.dev.out k).short = false ∧ ((s.dev.out k).crossFed = false → ∀ j, j ≠ k → t.dev.out j = s.dev.out j) ∧ t.dev.occ = s.dev.occ)
      ∧ (∀ low : Bool, s.cfg.b (FIO.OUT_CFG k) 8 = true → isSafety s.cfg k = false → (s.dev.out k).driven = true →
        ∃ t, exec (.diagOffPulse out low) s = .next t ∧ UnitsOnly s t ∧ (t.dev.out k).suspect = !low
          ∧ (t.dev.out k).diagTick = some t.dev.tick ∧ (∀ j, j ≠ k → t.dev.out j = s.dev.out j) ∧ t.dev.occ = s.dev.occ))
  ∧ (∀ (s : State) (value : Word) (gone : BitVec 16), fld value 16 16 ≠ 0x3E07 → exec (.outClr value gone) s = .next { s with bus := .done 0 })
  ∧ (∀ (s : State) (gone : BitVec 16), (s.dev.out (outLead s.cfg 0)).hot = false → (s.dev.out (outLead s.cfg 0)).crossFed = false → gone.getLsbD 0 = true →
      ∃ t, exec (.outClr 0x3E070001#32 gone) s = .next t ∧ UnitsWritten s t ∧ (t.dev.out (outLead s.cfg 0)).overload = false
        ∧ (t.dev.out (outLead s.cfg 0)).overtempLatch = false ∧ (t.dev.out (outLead s.cfg 0)).faultOff = false ∧ t.dev.occ = s.dev.occ)
  ∧ (∀ (s : State) (value : Word), fld value 16 16 ≠ 0x5AC0 → exec (.supRestore value) s = .next { s with bus := .done 0, dev := s.dev.put FIO.SUP_RES 1 })
  ∧ (∀ s : State, s.dev.b (FIO.SUP_STAT 0) 17 = false → s.dev.b (FIO.SUP_STAT 0) 18 = true →
      ∃ t, exec (.supRestore 0x5AC00001#32) s = .next t ∧ UnitsWritten s t ∧ (t.dev.sup 0).sagSafety = false
        ∧ (t.dev.sup 0).sagOther = false ∧ t.dev.sup 1 = s.dev.sup 1 ∧ t.dev.w FIO.SUP_RES = 0)
  ∧ (∀ (s : State) (group : Fin 2) (mv : Int), 19700 ≤ mv → mv < 40000 → s.dev.b (FIO.SUP_STAT group.val) 17 = false →
      s.dev.b (FIO.SUP_STAT group.val) 16 = false →
      ∃ t, exec (.supplySample group mv) s = .next t ∧ UnitsOnly s t ∧ t.dev.f (FIO.SUP_STAT group.val) 0 16 = (mv / 10).toNat
        ∧ t.dev.b (FIO.SUP_STAT group.val) 16 = false ∧ (t.dev.sup group.val).low = 0 ∧ t.dev.occ = s.dev.occ)
  ∧ (∀ (s : State) (group : Fin 2) (t0 : Nat), (s.dev.sup group.val).goodSince = some t0 → s.dev.b (FIO.SUP_STAT group.val) 17 = true →
      s.cfg.b (FIO.SUP_CFG group.val) 0 = false →
      ∃ t, exec (.sagRestored group) s = .next t ∧ UnitsOnly s t ∧ t.dev.b (FIO.SUP_STAT group.val) 17 = false
        ∧ t.dev.tick = max s.dev.tick (t0 + 100 * ticksPerMs) ∧ (t.dev.sup group.val).sagOther = (s.dev.sup group.val).sagOther
        ∧ t.dev.occ = s.dev.occ)
  ∧ (∀ (s : State) (group : Fin 2) (ma : Nat), ma ≤ 2800 →
      ∃ t, exec (.groupCurrentCleared group ma) s = .next t ∧ UnitsOnly s t ∧ RegsKept [FIO.SUP_STAT group.val] s.dev t.dev
        ∧ t.dev.b (FIO.SUP_STAT group.val) 20 = false ∧ t.dev.f (FIO.SUP_STAT group.val) 24 8 = min 255 (ma / 20))
  ∧ (∀ (s : State) (group : Fin 2) (ma : Nat), 3000 < ma →
      ∃ t, exec (.groupCurrent group ma) s = .next t ∧ UnitsOnly s t ∧ RegsKept [FIO.SUP_STAT group.val, FIO.DIAG_SEEN] s.dev t.dev
        ∧ t.dev.b (FIO.SUP_STAT group.val) 20 = true)
  ∧ ∀ (s : State) (out : Fin 16), let k := outLead s.cfg out.val
      3 ≤ s.dev.mode → s.dev.field.outs = [] → s.dev.b (FIO.SUP_STAT 0) 16 = false → s.dev.b (FIO.SUP_STAT 1) 16 = false →
      ∃ t, exec (.crossFeedCheck out 0) s = .next t ∧ UnitsOnly s t ∧ (t.dev.out k).short = true ∧ Records s.dev t.dev 0x3003 [(k : Int), 0]

/-- R446, R450 to R455. -/
def Obligations.FieldInputs : Prop :=
  (∀ (s : State) (input : Fin 16) (mv : Int), s.cfg.b (FIO.IN_CFG input.val) 0 = false → exec (.inputSample input mv) s = .next s)
  ∧ (∀ (s : State) (input : Fin 16) (mv : Int), s.cfg.b (FIO.IN_CFG input.val) 0 = true → 12000 ≤ mv → mv ≤ 32000 →
      s.dev.field.pulses = [] →
      ∃ t, exec (.inputSample input mv) s = .next t ∧ UnitsOnly s t ∧ t.dev.b FIO.IN_RAW input.val = true
        ∧ t.dev.tick = max s.dev.tick (sampleInstant s.cfg s.dev input.val)
        ∧ t.dev.b FIO.IN_FAULT (16 + input.val) = false ∧ (t.dev.inp input.val).sampled = some t.dev.tick
        ∧ (t.dev.inp input.val).cnt = min ((s.dev.inp input.val).cnt + 1) (s.cfg.f (FIO.IN_CFG input.val) 8 8))
  ∧ (∀ (s : State) (source : Fin 4) (high : BitVec 16), s.cfg.b FIO.TP_CFG source.val = false → exec (.testPulse source high) s = .next s)
  ∧ (∀ (s : State) (source : Fin 4), s.cfg.b FIO.TP_CFG source.val = true → (∀ i, i < 16 → (s.dev.inp i).filt = false) →
      let d : Dev := { s.dev with field := { s.dev.field with
        pulses := ((source.val, pulseStart s.cfg s.dev source.val) :: s.dev.field.pulses).take 4 } }
      exec (.testPulse source 0) s = .next { s with
        dev := d.advanceTo (pulseStart s.cfg s.dev source.val + s.cfg.f FIO.TP_CFG 8 8 * 2000 - 3200) })
  ∧ (∀ (s : State) (source : Fin 4) (i : Fin 16), s.cfg.b FIO.TP_CFG source.val = true → s.cfg.b (FIO.IN_CFG i.val) 0 = true →
      s.cfg.f (FIO.IN_CFG i.val) 16 3 = source.val + 1 → (s.dev.inp i.val).filt = true → s.dev.checkSample s.cfg source.val false i.val
        = (if 10 ≤ (s.dev.inp i.val).right + 1 ∧ s.dev.b FIO.IN_FAULT i.val = true then
            (((s.dev.putInp i.val { s.dev.inp i.val with ownWrong := 0, right := (s.dev.inp i.val).right + 1 }).putB FIO.IN_FAULT i.val
              false).putB FIO.IN_SUSPECT (16 + i.val) false).setFilt s.cfg i.val
          else s.dev.putInp i.val { s.dev.inp i.val with ownWrong := 0, right := (s.dev.inp i.val).right + 1 }))
  ∧ (∀ (s : State) (ch : Fin 8) (count : BitVec 16), s.cfg.b (ANU.AIN_CFG ch.val) 0 = true → s.cfg.b (ANU.AIN_CFG ch.val) 1 = true →
      (s.dev.ain ch.val).shuntOpen = false →
      ∃ t, exec (.ainConversion ch count true) s = .next t ∧ UnitsOnly s t ∧ RegsKept [ANU.AIN_VAL ch.val] s.dev t.dev
        ∧ (t.dev.ain ch.val).shuntOpen = true ∧ (t.dev.ain ch.val).converted = some t.dev.tick ∧ (t.dev.ain ch.val).shuntTick = t.dev.tick
        ∧ (t.dev.ain ch.val).window = (signed 16 count.toNat :: (s.dev.ain ch.val).window).take (2 ^ s.cfg.f (ANU.AIN_CFG ch.val) 2 4)
        ∧ t.dev.b (ANU.AIN_VAL ch.val) 17 = true
        ∧ t.dev.occ = s.dev.occ ++ [⟨0x3102, t.dev.tick, s.dev.eventBeat, [(ch.val : Int)]⟩])
  ∧ (∀ (s : State) (ch : Fin 8), (s.dev.ain ch.val).shuntOpen = true →
      ∃ t, exec (.ainShuntReclose ch) s = .next t ∧ UnitsOnly s t ∧ RegsKept [ANU.AIN_VAL ch.val] s.dev t.dev
        ∧ (t.dev.ain ch.val).shuntOpen = false ∧ t.dev.b (ANU.AIN_VAL ch.val) 17 = false ∧ t.dev.occ = s.dev.occ
        ∧ t.dev.tick = max s.dev.tick ((s.dev.ain ch.val).shuntTick + ticksPerSec))
  ∧ (∀ (s : State) (out : Fin 4) (value : Word), let d := s.dev.putN (ANU.AOUT_SET out.val) (fld value 0 16)
      (s.cfg.b (ANU.AOUT_CFG out.val) 3 = false → exec (.aoutSet out value) s = .next { s with
        bus := .done 0
        dev := { d with field := { d.field with pendAout := d.field.pendAout ++ [(out.val, sfld value 0 16)] } } })
      ∧ (s.cfg.b (ANU.AOUT_CFG out.val) 3 = true → exec (.aoutSet out value) s = .next { s with bus := .done 0, dev := d }))
  ∧ (∀ (s : State) (out : Fin 4), s.cfg.b (ANU.AOUT_CFG out.val) 0 = true →
      (s.cfg.b (ANU.AOUT_CFG out.val) 1 = true → exec (.aoutFault out) s = .next { s with
        dev := (s.dev.putB (ANU.AOUT_STAT out.val) 16 true).event 0x3103 [(out.val : Int), 0] })
      ∧ (s.cfg.b (ANU.AOUT_CFG out.val) 1 = false → exec (.aoutFault out) s = .next { s with
        dev := (s.dev.putB (ANU.AOUT_STAT out.val) 17 true).event 0x3103 [(out.val : Int), 1] }))
  ∧ (∀ (s : State) (ch : Fin 4) (stp : EncStep), s.cfg.b (ENC.ENC_CFG ch.val) 0 = true → s.cfg.b (ENC.ENC_CFG ch.val) 1 = false →
      (stp.invalid = false → stp.tooFast = false → 0 ≤ stp.delta →
        ∃ t, exec (.encCount ch stp) s = .next t ∧ UnitsOnly s t ∧ RegsKept [ENC.ENC_POS ch.val, ENC.ENC_SPEED ch.val] s.dev t.dev
          ∧ t.dev.w (ENC.ENC_POS ch.val) = s.dev.w (ENC.ENC_POS ch.val) + 1 ∧ t.dev.occ = s.dev.occ)
      ∧ (stp.invalid = true → stp.tooFast = false → s.dev.b (ENC.ENC_STAT ch.val) 1 = false →
        ∃ t, exec (.encCount ch stp) s = .next t ∧ UnitsOnly s t ∧ RegsKept [ENC.ENC_STAT ch.val] s.dev t.dev
          ∧ t.dev.b (ENC.ENC_STAT ch.val) 1 = true ∧ t.dev.b (ENC.ENC_STAT ch.val) 2 = true
          ∧ Records s.dev t.dev 0x3201 [(ch.val : Int), 2]))
  ∧ (∀ (s : State) (ch : Fin 4), s.cfg.b (ENC.ENC_CFG ch.val) 0 = true → s.cfg.b (ENC.ENC_CFG ch.val) 1 = true →
      (s.dev.enc ch.val).started = none → exec (.ssiRead ch) s = .next { s with
        dev := s.dev.putEnc ch.val { s.dev.enc ch.val with reading := some s.dev.tick, started := some s.dev.tick } })
  ∧ (∀ (s : State) (ch : Fin 4) (obs : SsiObs) (t0 : Nat), (s.dev.enc ch.val).reading = some t0 → (s.dev.enc ch.val).raw = none →
      obs.preHigh = true → obs.postHigh = true → s.cfg.b (ENC.ENC_CFG ch.val) 6 = false → s.cfg.b (ENC.ENC_CFG ch.val) 5 = false →
      s.cfg.f (ENC.ENC_CFG ch.val) 8 6 = 24 →
      ∃ t, exec (.ssiReadComplete ch obs) s = .next t ∧ UnitsOnly s t ∧ RegsKept [ENC.ENC_POS ch.val, ENC.ENC_SPEED ch.val] s.dev t.dev
        ∧ t.dev.w (ENC.ENC_POS ch.val) = wd (obs.raw.toNat % 2 ^ 24) ∧ (t.dev.enc ch.val).reading = none)
  ∧ (∀ (s : State) (ch : Fin 4), s.cfg.b (ENC.ENC_CFG ch.val) 0 = true → s.cfg.b (ENC.ENC_CFG ch.val) 4 = true →
      s.dev.b (ENC.ENC_STAT ch.val) 0 = false →
      exec (.encIndex ch) s = .next { s with
        dev := ((s.dev.put (ENC.ENC_INDEX ch.val) (s.dev.w (ENC.ENC_POS ch.val))).putB (ENC.ENC_STAT ch.val) 0 true).event 0x3202
          [(ch.val : Int)] })
  ∧ (∀ (s : State) (ch : Fin 4), s.dev.b (ENC.ENC_STAT ch.val) 1 = true →
      ∃ t, exec (.encRestored ch) s = .next t ∧ UnitsOnly s t ∧ RegsKept [ENC.ENC_STAT ch.val] s.dev t.dev
        ∧ t.dev.b (ENC.ENC_STAT ch.val) 1 = false ∧ (t.dev.enc ch.val).source = false
        ∧ t.dev.tick = max s.dev.tick ((s.dev.enc ch.val).faultTick + ticksPerSec))
  ∧ ∀ (s : State) (ch : Fin 4), s.cfg.b (ENC.ENC_CFG ch.val) 0 = true → s.dev.b (ENC.ENC_STAT ch.val) 1 = false →
      ∃ t, exec (.encOpenWire ch) s = .next t ∧ UnitsOnly s t ∧ RegsKept [ENC.ENC_STAT ch.val] s.dev t.dev
        ∧ t.dev.b (ENC.ENC_STAT ch.val) 4 = true ∧ Records s.dev t.dev 0x3201 [(ch.val : Int), 4]

/-- R381 to R401. -/
def Obligations.CanCommands : Prop :=
  (∀ (s : State) (ctrl : Fin 6) (sub : Fin 8) (e : CanEntry) (rest : List CanEntry), let n := ctrl.val
    s.dev.f (CAN.STAT n) 0 2 = 1 → (s.dev.canOf n).onBus = 0 → s.cfg.b (CAN.CFG n) 3 = false → (s.dev.canOf n).fifo = e :: rest →
    offered s.cfg s.dev n = 1 →
    let d := s.dev.putCan n { s.dev.canOf n with
      fifo := { e with sof := true, stamp := s.dev.tick, sub := sub.val, attempts := e.attempts + 1 } :: rest, onBus := 1 }
    (s.dev.b (CAN.STAT n) 2 = false → exec (.canArbitration ctrl true sub) s = .next { s with dev := d } ∧ exec (.nlRetryAttempt ctrl sub) s = .next s)
    ∧ (s.dev.b (CAN.STAT n) 2 = true → exec (.canArbitration ctrl true sub) s = .next s))
  ∧ (∀ (s : State) (ctrl : Fin 6) (sub : Fin 8), let n := ctrl.val
      let d := s.dev.advanceTo ((s.dev.canOf n).nlTick + s.cfg.f (CAN.TXF_CFG n) 16 14 * ticksPerMs)
      s.dev.b (CAN.STAT n) 2 = true → exec (.nlRetryAttempt ctrl sub) s = .next { s with
        dev := (d.putCan n { d.canOf n with nlTick := d.tick }).canStart s.cfg n true sub.val })
  ∧ (∀ (s : State) (ctrl : Fin 6), (s.dev.canOf ctrl.val).onBus = 0 → exec (.canTxComplete ctrl) s = .next s)
  ∧ (∀ (s : State) (ctrl : Fin 6), s.cfg.b (CAN.CFG ctrl.val) 4 = false →
      exec (.canTxComplete ctrl) s = .next { s with dev := s.dev.canSent s.cfg ctrl.val })
  ∧ (∀ (s : State) (ctrl : Fin 6) (e : CanEntry) (rest : List CanEntry), let n := ctrl.val
      (s.dev.canOf n).onBus = 1 → (s.dev.canOf n).fifo = e :: rest → e.kind = 1 → s.dev.b (CAN.STAT n) 2 = false → s.cfg.b (CAN.CFG n) 4 = false →
      s.dev.f (CAN.STAT n) 0 2 = 1 → s.dev.f (CAN.ERR_CNT n) 0 8 = 0 → s.dev.f (CAN.ERR_CNT n) 8 8 = 0 →
      ∃ t, exec (.canTxComplete ctrl) s = .next t ∧ UnitsOnly s t ∧ (t.dev.canOf n).fifo = rest ∧ (t.dev.canOf n).onBus = 0
        ∧ t.dev.f (CAN.ERR_CNT n) 0 8 = 0 ∧ t.dev.f (CAN.STAT n) 16 6 = rest.length % 64
        ∧ t.dev.f (CAN.TXE_WR n) 0 5 = (s.dev.f (CAN.TXE_WR n) 0 5 + 1) % 32 ∧ ∀ m, m ≠ n → t.dev.canOf m = s.dev.canOf m)
  ∧ (∀ (s : State) (ctrl : Fin 6), canOn s.dev ctrl.val = true → s.dev.f (CAN.STAT ctrl.val) 0 2 ≠ 3 →
      exec (.canError ctrl .receive) s = .next { s with dev := s.dev.recUp ctrl.val 1 }
      ∧ exec (.canError ctrl .receiveDominant) s = .next { s with dev := s.dev.recUp ctrl.val 8 }
      ∧ ((s.dev.canOf ctrl.val).onBus ≠ 0 →
          exec (.canError ctrl .ack) s = .next { s with dev := (s.dev.attemptFailed s.cfg ctrl.val).ackError s.cfg ctrl.val }
          ∧ exec (.canError ctrl .transmit) s = .next { s with
              dev := ((s.dev.putF (CAN.ERR_CNT ctrl.val) 16 16 0).attemptFailed s.cfg ctrl.val).tecUp s.cfg ctrl.val }))
  ∧ (∀ (s : State) (ctrl : Fin 6), s.dev.f (CAN.STAT ctrl.val) 0 2 = 3 → (s.dev.canOf ctrl.val).recover = true →
      ∃ t, exec (.busOffRecovery ctrl) s = .next t ∧ UnitsOnly s t ∧ RegsKept [CAN.ERR_CNT ctrl.val, CAN.STAT ctrl.val] s.dev t.dev
        ∧ t.dev.w (CAN.ERR_CNT ctrl.val) = 0 ∧ t.dev.f (CAN.STAT ctrl.val) 0 2 = 1 ∧ (t.dev.canOf ctrl.val).recover = false
        ∧ Records s.dev t.dev 0x2003 [(ctrl.val : Int)])
  ∧ (∀ (s : State) (ctrl : Fin 6) (value : Word), let n := ctrl.val
      (pushResult s.cfg s.dev n ≠ 0 → exec (.txfPush ctrl value) s = .next { s with bus := .done 0, dev := s.dev.putN (CAN.TXF_RES n) (pushResult s.cfg s.dev n) })
      ∧ (pushResult s.cfg s.dev n = 0 → ∃ t, exec (.txfPush ctrl value) s = .next t ∧ UnitsWritten s t
          ∧ RegsKept [CAN.TXF_RES n, CAN.STAT n] s.dev t.dev ∧ t.dev.w (CAN.TXF_RES n) = wd ((s.dev.canOf n).nextTag * 2 ^ 8)
          ∧ (t.dev.canOf n).fifo.length = (s.dev.canOf n).fifo.length + 1
          ∧ (t.dev.canOf n).nextTag = ((s.dev.canOf n).nextTag + 1) % 256)
      ∧ ((∀ e ∈ (s.dev.canOf n).fifo, ¬(e.kind = 1 ∧ e.tag = fld value 0 8)) →
          exec (.txfCancel ctrl value) s = .next { s with bus := .done 0, dev := s.dev.putN (CAN.CANCEL_RES n) 2 })
      ∧ (∀ e : CanEntry, (s.dev.canOf n).fifo = [e] → e.kind = 1 → e.tag = fld value 0 8 → e.sof = false →
          ∃ t, exec (.txfCancel ctrl value) s = .next t ∧ UnitsWritten s t ∧ (t.dev.canOf n).fifo = [] ∧ t.dev.w (CAN.CANCEL_RES n) = 0)
      ∧ (fld value 16 16 = 0x5C0A → exec (.clashClr ctrl value) s = .next { s with
          bus := .done 0
          dev := ((s.dev.putCan n { s.dev.canOf n with stopped := [] }).putB (CAN.STAT n) 6 false).putB (CAN.CLASH_ID n) 31 false })
      ∧ (fld value 16 16 ≠ 0x5C0A → exec (.clashClr ctrl value) s = .next { s with bus := .done 0 }
          ∧ exec (.sleepCmd ctrl value) s = .next { s with bus := .done 0 })
      ∧ (fld value 16 16 = 0x5C0A → s.dev.mode = 3 → canOn s.dev n = true → ∃ t, exec (.sleepCmd ctrl value) s = .next t
          ∧ UnitsWritten s t ∧ t.dev.b (CAN.STAT n) 4 = true ∧ t.dev.f (CAN.STAT n) 0 2 = 0 ∧ (t.dev.canOf n).onBus = 0
          ∧ (t.dev.canOf n).fifo = []))
  ∧ (∀ (s : State) (ctrl : Fin 6) (slot : Fin 4), let n := ctrl.val; let p := slot.val
      s.cfg.b (CAN.PRI_CFG n p) 0 = true → s.cfg.b (CAN.PRI_CFG n p) 1 = false → canOn s.dev n = true →
      let len := dlcLen (s.cfg.f (CAN.PRI_CFG n p) 16 4)
      (s.dev.f (CAN.PRI_STAT n p) 0 2 = 0 → s.dev.b (CAN.STAT n) 2 = false →
        readBuffer s.store s.dev ((Config.implWord 2 n).toNat + 64 * (32 + p)) len = (false, s.store, s.dev) →
        exec (.priReq ctrl slot) s = .next { s with
          bus := .done 0
          dev := (s.dev.putPri n p { data := s.dev.payload (n * 256 + 32 + p) len, sof := false }).putF (CAN.PRI_STAT n p) 0 2 1 })
      ∧ (s.dev.f (CAN.PRI_STAT n p) 0 2 = 0 →
        exec (.priCancel ctrl slot) s = .next { s with bus := .done 0, dev := s.dev.putN (CAN.CANCEL_RES n) 2 })
      ∧ (s.dev.f (CAN.PRI_STAT n p) 0 2 ≠ 0 → (s.dev.priOf n p).sof = false → exec (.priCancel ctrl slot) s = .next { s with
          bus := .done 0
          dev := (((s.dev.putPri n p {}).putF (CAN.PRI_STAT n p) 0 2 0).putF (CAN.PRI_STAT n p) 4 4 2).putN (CAN.CANCEL_RES n) 0 }))
  ∧ (∀ (s : State) (source : Fin 65536),
      (Assoc.get none s.dev.flow.lastItem source.val = none ∨ interfaceTmo s.cfg s.dev source.val = none →
        exec (.sourceTimeout source) s = .next s)
      ∧ ∀ i t, Assoc.get none s.dev.flow.lastItem source.val = some i → interfaceTmo s.cfg s.dev source.val = some t →
          let d := s.dev.advanceTo (i.tick + t)
          exec (.sourceTimeout source) s = .next { s with
            dev := d.capture s.cfg source.val i.cls d.tick (i.quality.toNat ||| qSTALE) i.payload })
  ∧ (∀ (s : State) (ctrl : Fin 6), s.cfg.f (CAN.REF_CFG ctrl.val) 0 2 = 1 → s.cfg.pair = false → canOn s.dev ctrl.val = true →
      (s.dev.canOf ctrl.val).fifo = [] → (s.dev.canOf ctrl.val).stopped = [] → s.cfg.f (CAN.TXF_CFG ctrl.val) 0 6 < 32 →
      s.dev.b (CAN.STAT ctrl.val) 3 = false → (s.dev.canOf ctrl.val).refTick = none →
      ∃ t, exec (.refFrameSend ctrl) s = .next t ∧ UnitsOnly s t ∧ RegsKept [CAN.STAT ctrl.val] s.dev t.dev
        ∧ (t.dev.canOf ctrl.val).fifo.map (fun e => e.kind) = [2]
        ∧ (t.dev.canOf ctrl.val).refSeq = ((s.dev.canOf ctrl.val).refSeq + 1) % 256)
  ∧ (∀ (s : State) (ctrl : Fin 6), let n := ctrl.val
      s.cfg.f (CAN.REF_CFG n) 0 2 = 2 → (s.dev.canOf n).refTick = none →
      let d := (s.dev.putCan n { s.dev.canOf n with refTick := some s.dev.tick }).event 0x200C [(n : Int)]
      (s.cfg.f TBU.SRC_CFG 8 3 = n → exec (.refLost ctrl) s = .next { s with dev := d.disqualify 4 })
      ∧ (s.cfg.f TBU.SRC_CFG 8 3 ≠ n → exec (.refLost ctrl) s = .next { s with dev := d }))
  ∧ (∀ (s : State) (ctrl : Fin 6) (t0 : Nat), let n := ctrl.val
      s.cfg.f (CAN.REF_CFG n) 0 2 = 2 → (s.dev.canOf n).refTick = some t0 → s.cfg.f TBU.SRC_CFG 8 3 ≠ n →
      let d := s.dev.advanceTo (t0 + 3 * s.cfg.f (CAN.REF_CFG n) 16 16 * ticksPerMs)
      exec (.refLost ctrl) s = .next { s with
        dev := (d.putCan n { d.canOf n with refTick := some d.tick }).event 0x200C [(n : Int)] })
  ∧ ∀ (s : State) (ctrl : Fin 6) (load : Fin 101), canOn s.dev ctrl.val = true → (s.dev.canOf ctrl.val).peakSecond = s.dev.second →
      (s.dev.canOf ctrl.val).loads = [] → s.dev.b (CAN.STAT ctrl.val) 3 = false → (s.dev.canOf ctrl.val).loadTick = none →
      ∃ t, exec (.busLoadWindow ctrl load) s = .next t ∧ UnitsOnly s t ∧ RegsKept [CAN.STAT ctrl.val] s.dev t.dev
        ∧ t.dev.f (CAN.STAT ctrl.val) 8 8 = load.val ∧ (t.dev.canOf ctrl.val).loads = [load.val]
        ∧ (t.dev.canOf ctrl.val).peak = max (s.dev.canOf ctrl.val).peak load.val

/-- R404 to R429. -/
def Obligations.EthernetCommands : Prop :=
  (∀ (s : State) (port : Fin 4) (speed : Fin 3), s.cfg.b (ETH.CFG port.val) 0 = true → s.cfg.f (ETH.CFG port.val) 2 2 = 0 →
    exec (.ethLinkUp port speed) s = .next { s with
      dev := (((s.dev.putB (ETH.STAT port.val) 0 true).putF (ETH.STAT port.val) 1 2 (speed.val + 1)).event 0x2101
        [(port.val : Int), ((speed.val + 1 : Nat) : Int)]).ptpStates s.cfg })
  ∧ (∀ (s : State) (port : Fin 4), linkUp s.dev port.val = true → s.dev.queue port.val 7 = [] →
      exec (.ethLinkDown port) s = .next { s with
        dev := (((s.dev.putB (ETH.STAT port.val) 0 false).event 0x2102 [(port.val : Int)]).putQueue port.val 7 []).ptpStates s.cfg })
  ∧ (∀ (s : State) (port : Fin 4) (f : EthTx), linkUp s.dev port.val = true → s.dev.queue port.val 7 = [f] →
      exec (.ethLinkDown port) s = .next { s with
        dev := ((((s.dev.putB (ETH.STAT port.val) 0 false).event 0x2102 [(port.val : Int)]).putQueue port.val 7 []).bump
          (ETH.Q7_DROP_CNT port.val) |>.event 0x2106 [(port.val : Int)]).ptpStates s.cfg })
  ∧ (∀ (s : State) (port : Fin 4), linkUp s.dev port.val = false →
      exec (.ethLinkDown port) s = .next s ∧ exec (.ethEgressFrame port) s = .next s)
  ∧ (∀ (s : State) (filter : Fin 64) (value : Word),
      (fld value 16 16 = 0x51F0 → exec (.sfUnblock filter value) s = .next { s with
        bus := .done 0, dev := s.dev.putB (ETHSW.SF_STAT filter.val) 0 false })
      ∧ (fld value 16 16 ≠ 0x51F0 → exec (.sfUnblock filter value) s = .next { s with bus := .done 0 }))
  ∧ (∀ (s : State) (port : Fin 4), s.cfg.f (ETH.GCL_CFG port.val) 0 7 ≠ 0 → (s.dev.port port.val).gateEnd ≠ 0 →
      let start := (s.dev.port port.val).gateEnd
      let i := if gatePhase s.cfg port.val start = 0 then 0 else (s.dev.f (ETH.STAT port.val) 8 6 + 1) % s.cfg.f (ETH.GCL_CFG port.val) 0 7
      ∃ t, exec (.gateEntryStart port) s = .next t ∧ UnitsOnly s t ∧ RegsKept [ETH.STAT port.val] s.dev t.dev
        ∧ t.dev.f (ETH.STAT port.val) 8 6 = i % 64 ∧ t.dev.tick = max s.dev.tick start
        ∧ (t.dev.port port.val).gateEnd = gateEndOf s.cfg port.val start i)
  ∧ (∀ (s : State) (port : Fin 4), linkUp s.dev port.val = true → s.cfg.b (ETH.CFG port.val) 0 = true →
      exec (.ethEgressFrame port) s = .next { s with
        dev := startFrame s.cfg (s.dev.advanceTo (s.dev.port port.val).lineFree) port.val
          (s.cfg.f (ETH.GCL port.val (s.dev.f (ETH.STAT port.val) 8 6)) 0 8) [7, 6, 5, 4, 3, 2, 1, 0] })
  ∧ (∀ (s : State) (port : Fin 4) (sub : Fin 8), s.dev.f (ETH.STAT port.val) 4 4 = 6 →
      let n := port.val
      let d0 := s.dev.ptpDue s.cfg n 0
      let d1 := s.dev.ptpDue s.cfg n 1
      let d2 := s.dev.ptpDue s.cfg n 2
      let e0 : Dev := { d0 with sw := { d0.sw with ptpSent := (d0.sw.ptpSent.1 + 1, d0.sw.ptpSent.2) } }
      let e1 : Dev := { d1 with sw := { d1.sw with ptpSent := (d1.sw.ptpSent.1, d1.sw.ptpSent.2.1 + 1, d1.sw.ptpSent.2.2) } }
      let e2 : Dev := { d2 with sw := { d2.sw with ptpSent := (d2.sw.ptpSent.1, d2.sw.ptpSent.2.1, d2.sw.ptpSent.2.2 + 1) } }
      exec (.ptpSyncSend port sub) s = .next { s with dev := e0.ethSend s.cfg n ⟨1, ptpLen s.cfg 44, [], none, none⟩ }
      ∧ exec (.ptpAnnounceSend port) s = .next { s with dev := e1.ethSend s.cfg n ⟨1, ptpLen s.cfg 64, announceBody s.cfg e1, none, none⟩ }
      ∧ (s.cfg.b ETHSW.PTP_CFG 1 = true →
          exec (.ptpPdelaySend port sub) s = .next { s with dev := e2.ethSend s.cfg n ⟨1, ptpLen s.cfg 54, [], none, none⟩ }))
  ∧ (∀ (s : State) (port : Fin 4), s.dev.f (ETH.STAT port.val) 4 4 ≠ 6 →
      exec (.ptpSyncSend port 0) s = .next s ∧ exec (.ptpAnnounceSend port) s = .next s)
  ∧ (∀ (s : State) (port : Fin 4) (a : BitVec 64 × Nat), let n := port.val
      (s.dev.port n).announce = some a →
      let e := s.dev.advanceTo ((s.dev.port n).announceTick + s.cfg.f ETHSW.PTP_INT 12 4 * logTicks (s.cfg.s ETHSW.PTP_INT 4 4))
      let d := (e.putPort n { e.port n with announce := none }).ptpStates s.cfg
      (s.cfg.f TBU.SRC_CFG 4 2 = n → exec (.announceReceiptTimeout port) s = .next { s with dev := d.disqualify 2 })
      ∧ (s.cfg.f TBU.SRC_CFG 4 2 ≠ n → exec (.announceReceiptTimeout port) s = .next { s with dev := d }))
  ∧ (∀ (s : State) (src : NymSource) (ann : Announcement), (s.cfg.b NYM.CFG 0 = false → exec (.nymAnnouncement src ann) s = .next s)
      ∧ (s.cfg.b NYM.CFG 0 = true → exec (.nymAnnouncement src ann) s = .next { s with dev := s.dev.nymHear s.cfg src ann }))
  ∧ (∀ (s : State) (entry : Fin 256), ((s.dev.roster entry.val).st = 0 ∨ (s.dev.roster entry.val).st = 3) →
      exec (.nymDepart entry) s = .next s)
  ∧ (∀ (s : State) (entry : Fin 256), (s.dev.roster entry.val).st = 2 →
      ∃ t, exec (.nymDepart entry) s = .next t ∧ UnitsOnly s t ∧ (t.dev.roster entry.val).st = 3
        ∧ (∀ r, r ≠ entry.val → t.dev.roster r = s.dev.roster r) ∧ t.dev.tick = max s.dev.tick ((s.dev.roster entry.val).last + 3 * ticksPerSec))
  ∧ (∀ s : State, s.dev.b NYM.STAT 16 = true →
      exec .addrClashClear s = .next { s with dev := (s.dev.advanceTo (s.dev.nym.clashTick + 3 * ticksPerSec)).putB NYM.STAT 16 false })
  ∧ (∀ s : State, s.dev.b NYM.STAT 16 = false → exec .addrClashClear s = .next s)
  ∧ (∀ (s : State) (value : Word), fld value 16 16 ≠ 0x6E3A →
      exec (.nymAccept value) s = .next { s with bus := .done 0, dev := s.dev.nymResult 1 }
      ∧ exec (.nymForget value) s = .next { s with bus := .done 0, dev := s.dev.nymResult 1 })
  ∧ (∀ s : State, s.cfg.b (NYM.EXP_CFG 0) 0 = true → (s.dev.roster 0).st = 1 → boundTo s.dev 0 0 2 = none →
      ∃ t, exec (.nymAccept 0x6E3A0000#32) s = .next t ∧ UnitsWritten s t ∧ (t.dev.roster 0).st = 2 ∧ (t.dev.roster 0).bind = some 0)
  ∧ (∀ (s : State) (value : Word), fld value 16 16 = 0x6E3A →
      exec (.nymForget value) s = .next { s with bus := .done 0, dev := ((s.dev.putRoster (fld value 0 8) {}).showNym).nymResult 0 })
  ∧ ∀ (s : State) (mac : BitVec 48) (p t0 : Nat), s.dev.sw.table = [(mac.toNat, p, t0)] →
      exec (.addressAgeing mac) s = .next { s with
        dev := { s.dev.advanceTo (t0 + 300 * ticksPerSec) with sw := { s.dev.sw with table := [] } } }

/-- R460, R461, R14: a write of any width to core-writable bytes completes, its bytes read back, all others stay; registers outside the MEM
page stay; an address outside every region ends with a bus error. -/
def Obligations.NarrowWriteStores : Prop :=
  (∀ (s : State) (addr : BitVec 48) (bytes : List Byte) (poisoned : Bool), (regionOf addr.toNat).isSome = true →
    (∀ i, i < bytes.length → coreWritable (addr.toNat + i) = true) →
    ∃ t, exec (.narrowWrite addr bytes poisoned) s = .next t ∧ t.bus = .done 0 ∧ t.cfg = s.cfg ∧ t.pending = s.pending
      ∧ (∀ i, i < bytes.length → (s.store.errs = [] ∧ s.store.poison = []) → t.store.byte (addr.toNat + i) = bytes.getD i 0)
      ∧ (∀ a, (a < addr.toNat ∨ addr.toNat + bytes.length ≤ a) → (s.store.errs = [] ∧ s.store.poison = []) →
          t.store.byte a = s.store.byte a)
      ∧ (∀ k, k / 4096 ≠ 0x40006 → t.dev.w k = s.dev.w k))
  ∧ ∀ (s : State) (addr : BitVec 48) (bytes : List Byte) (poisoned : Bool), regionOf addr.toNat = none →
    exec (.narrowWrite addr bytes poisoned) s = .next { s with bus := .error }

/-- R458, R464 to R466. -/
def Obligations.DemandReadDelivers : Prop :=
  (∀ (s : State) (addr : BitVec 48) (size : Nat) (newer : Bool) (r : Nat), regionOf addr.toNat = some r → coreReadable addr.toNat = true →
    let w := addr.toNat / 32 * 32
    let word : Word := wd (leNat (s.shown s.store addr.toNat (min 4 size)))
    (w ∉ s.store.poison → s.store.err w = [] → ∃ t, exec (.demandRead ⟨addr, size⟩ [] newer .core) s = .next t
      ∧ t = { s with bus := .done word, store := t.store } ∧ ∀ a, t.store.byte a = s.store.byte a)
    ∧ (w ∉ s.store.poison → 1 ≤ (s.store.err w).length → (s.store.err w).length ≤ 4 →
      ∃ t, exec (.demandRead ⟨addr, size⟩ [] newer .core) s = .next t ∧ t.bus = .done word ∧ t.cfg = s.cfg
      ∧ (∀ a, t.store.byte a = s.store.byte a) ∧ t.dev = s.dev.countCE r w (s.store.err w).length false
      ∧ t.dev.w (MEM.CE_CNT r) = ((s.dev.bump (MEM.CE_CNT r)).w (MEM.CE_CNT r))
      ∧ t.dev.occ = s.dev.occ ++ [⟨0x0701, s.dev.tick, s.dev.eventBeat, [(r : Int), w, (s.store.err w).length]⟩]
      ∧ (newer = false → r ≠ 3 → t.store.err w = []))
    ∧ (w ∉ s.store.poison → 5 ≤ (s.store.err w).length → w ∉ s.store.counted →
      ∃ t, exec (.demandRead ⟨addr, size⟩ [] newer .core) s = .next t
      ∧ t.bus = .error ∧ t.cfg = s.cfg ∧ (∀ a, t.store.byte a = s.store.byte a)
      ∧ t.dev.w (MEM.UE_CNT r) = ((s.dev.bump (MEM.UE_CNT r)).w (MEM.UE_CNT r))
      ∧ t.dev.w MEM.POISON_USE_CNT = ((s.dev.bump MEM.POISON_USE_CNT).w MEM.POISON_USE_CNT)
      ∧ t.dev.occ = s.dev.occ ++ [⟨0x0702, s.dev.tick, s.dev.eventBeat, [(r : Int), w]⟩])
    ∧ (w ∈ s.store.poison → ∃ t, exec (.demandRead ⟨addr, size⟩ [] newer .core) s = .next t
      ∧ t.bus = .error ∧ t.cfg = s.cfg ∧ (∀ a, t.store.byte a = s.store.byte a) ∧ t.dev = s.dev.bump MEM.POISON_USE_CNT))
  ∧ ∀ (s : State) (addr : BitVec 48) (size : Nat) (upset : List (Fin 40 × Byte)) (newer : Bool),
      inPage addr.toNat = false → coreReadable addr.toNat = false →
      exec (.demandRead ⟨addr, size⟩ upset newer .core) s = .next { s with bus := .error }

/-- R459, R467, R468, R470. -/
def Obligations.ScrubAndInjection : Prop :=
  (∀ (s : State) (newer : Bool), let r := s.dev.memd.region
    s.cfg.b MEM.SCRUB_CFG r = true → r < 4 → s.dev.memd.word + 1 < regionWords r → wordAddr r s.dev.memd.word ∉ s.store.poison →
    let moved (d : Dev) : Dev := { (d.putN (MEM.LAP_RUN r) (lapRun d)) with memd := { d.memd with word := d.memd.word + 1 } }
    (s.store.err (wordAddr r s.dev.memd.word) = [] → ∃ t, exec (.scrubWord [] newer) s = .next t ∧ t.bus = s.bus ∧ t.cfg = s.cfg
      ∧ (∀ a, t.store.byte a = s.store.byte a) ∧ t.dev = moved s.dev)
    ∧ (∀ n, (s.store.err (wordAddr r s.dev.memd.word)).length = n → 1 ≤ n → n ≤ 4 →
        wordAddr r s.dev.memd.word ∉ Assoc.get [] s.dev.memd.before r →
        ∃ t, exec (.scrubWord [] newer) s = .next t ∧ t.bus = s.bus ∧ t.cfg = s.cfg ∧ (∀ a, t.store.byte a = s.store.byte a)
          ∧ (newer = false → r ≠ 3 → t.store.err (wordAddr r s.dev.memd.word) = [])
          ∧ t.dev.occ = s.dev.occ ++ [⟨0x0701, s.dev.tick, s.dev.eventBeat, [(r : Int), (wordAddr r s.dev.memd.word : Int), n]⟩]
          ∧ t.dev.w (MEM.CE_CNT r) = ((s.dev.bump (MEM.CE_CNT r)).w (MEM.CE_CNT r))
          ∧ t.dev.memd.word = s.dev.memd.word + 1))
  ∧ (∀ (s : State) (region : Fin 4), let lim := s.cfg.f (MEM.LAP_LIMIT region.val) 0 24
    s.dev.memd.region = region.val → lim ≠ 0 → s.dev.memd.lapRaised = false → s.cfg.b MEM.SCRUB_CFG region.val = true →
    let e := s.dev.advanceTo (s.dev.memd.lapStart + (lim + 1) * ticksPerMs)
    let d : Dev := { e with memd := { e.memd with lapRaised := true } }
    exec (.lapAlarm region) s = .next { s with
      dev := ((d.putB MEM.STAT region.val true).putN (MEM.LAP_RUN region.val) (lapRun d)).event 0x0703 [(region.val : Int), lapRun d] })
  ∧ (∀ (s : State) (value : Word),
      (fld value 16 16 = 0x7E31 → bit value 0 = true → (s.dev.mode = 2 ∨ s.dev.mode = 3 ∨ s.dev.mode = 5) →
        exec (.injArm value) s = .next { s with bus := .done 0, dev := s.dev.put MEM.INJ_CTRL 1 })
      ∧ (fld value 16 16 = 0x7E31 → bit value 0 = true → ¬(s.dev.mode = 2 ∨ s.dev.mode = 3 ∨ s.dev.mode = 5) →
        exec (.injArm value) s = .next { s with bus := .done 0, dev := s.dev.putB MEM.INJ_CTRL 2 true })
      ∧ (fld value 16 16 ≠ 0x7E31 ∨ bit value 0 = false → exec (.injArm value) s = .next { s with bus := .done 0 }))
  ∧ ∀ s : State, exec .lpddr4xInitialised s = .next { s with dev := s.dev.putB MEM.STAT 8 true }

/-- R481: FREEZE_START, FREEZE_END, FREEZE_TIMEOUT and what a freeze holds back. -/
def Obligations.RingFreeze : Prop :=
  (∀ s : State, s.dev.b EVR.FREEZE 0 = false → exec .freezeStart s = .next { s with
      bus := .done 0
      dev := { (s.dev.put EVR.FREEZE 1).putB EVR.STAT 0 true with evr := { s.dev.evr with freezeTick := s.dev.tick, dropped := 0 } } })
  ∧ (∀ s : State, s.dev.b EVR.FREEZE 0 = true → exec .freezeStart s = .next { s with bus := .done 0 })
  ∧ (∀ s : State, s.dev.b EVR.FREEZE 0 = false → exec .freezeEnd s = .next { s with bus := .done 0 } ∧ exec .freezeTimeout s = .next s)
  ∧ (∀ s : State, s.dev.b EVR.FREEZE 0 = true → exec .granuleCommit s = .next s)
  ∧ (∀ s : State, s.dev.b EVR.FREEZE 0 = true → s.dev.evr.dropped = 0 →
      exec .freezeEnd s = .next { s with bus := .done 0, dev := (s.dev.put EVR.FREEZE 0).putB EVR.STAT 0 false }
      ∧ exec .freezeTimeout s = .next { s with
          dev := (((s.dev.advanceTo (s.dev.evr.freezeTick + s.cfg.f EVR.CFG 8 6 * ticksPerSec)).event 0x0605).put EVR.FREEZE 0).putB
            EVR.STAT 0 false })
  ∧ (∀ s : State, s.dev.b EVR.FREEZE 0 = true → s.dev.evr.dropped ≠ 0 →
      exec .freezeEnd s = .next { s with
        bus := .done 0
        dev := ({ (s.dev.put EVR.FREEZE 0).putB EVR.STAT 0 false with
          evr := { s.dev.evr with dropped := 0 } } : Dev).event 0x0601 [(s.dev.evr.dropped : Int)] })
  ∧ (∀ (d : Dev) (r : EvrRecord), d.evr.holding.length ≤ 256 →
      (d.hold r).evr.holding.length ≤ 256
      ∧ (d.evr.holding.length < 256 → (d.hold r).evr.holding = d.evr.holding ++ [r] ∧ (d.hold r).evr.dropped = d.evr.dropped)
      ∧ (d.evr.holding.length = 256 → (d.hold r).evr.holding = d.evr.holding.drop 1 ++ [r]
          ∧ (d.hold r).evr.dropped = d.evr.dropped + 1
          ∧ (d.hold r).w EVR.HOLD_DROP_CNT = (d.bump EVR.HOLD_DROP_CNT).w EVR.HOLD_DROP_CNT))

/-- R482; the free values of the nonce are the model's (log 5), the hash is HMAC-SHA-256 (log 18). -/
def Obligations.RingClear : Prop :=
  (∀ (s : State) (value : Word), s.dev.mode = 3 → fld value 16 16 = 0x6C1E → s.dev.b EVR.FREEZE 0 = false → s.dev.b EVR.STAT 1 = true →
    s.dev.b EVR.STAT 2 = false →
    exec (.clrReq value) s = .next { s with
      bus := .done 0
      dev := (({ s.dev with
          free := s.dev.free + 2
          evr := { s.dev.evr with nonce := some (Config.freeWord (s.dev.free + 1) ++ Config.freeWord s.dev.free, s.dev.tick) } } :
        Dev).put EVR.CLR_NONCE_LO (Config.freeWord s.dev.free)).put EVR.CLR_NONCE_HI (Config.freeWord (s.dev.free + 1))
        |>.putF EVR.CLR_RES 0 4 1 })
  ∧ (∀ (s : State) (value : Word), fld value 16 16 ≠ 0x6C1E →
    exec (.clrReq value) s = .next { s with bus := .done 0, dev := s.dev.clearRefused 9 }
    ∧ exec (.clrCmd value) s = .next { s with bus := .done 0, dev := s.dev.clearRefused 9 })
  ∧ (∀ (s : State) (value : Word), fld value 16 16 = 0x6C1E → s.dev.mode ≠ 3 →
    exec (.clrReq value) s = .next { s with bus := .done 0, dev := s.dev.clearRefused 3 }
    ∧ exec (.clrCmd value) s = .next { s with bus := .done 0, dev := s.dev.clearRefused 3 })
  ∧ (∀ (s : State) (value : Word), fld value 16 16 = 0x6C1E → s.dev.mode = 3 → s.dev.b EVR.FREEZE 0 = true →
    exec (.clrReq value) s = .next { s with bus := .done 0, dev := s.dev.clearRefused 4 })
  ∧ (∀ (s : State) (value : Word), fld value 16 16 = 0x6C1E → s.dev.mode = 3 → s.dev.b EVR.FREEZE 0 = false →
    (s.dev.b EVR.STAT 1 = false → exec (.clrReq value) s = .next { s with bus := .done 0, dev := s.dev.clearRefused 5 })
    ∧ (s.dev.b EVR.STAT 1 = true → s.dev.b EVR.STAT 2 = true →
        exec (.clrReq value) s = .next { s with bus := .done 0, dev := s.dev.clearRefused 6 })
    ∧ (s.dev.evr.nonce = none → exec (.clrCmd value) s = .next { s with bus := .done 0, dev := s.dev.clearRefused 7 }))
  ∧ (∀ (d : Dev) (code : Nat), d.clearRefused code = (d.putF EVR.CLR_RES 0 4 code).event 0x0604 [(code : Int)])
  ∧ (∀ (s : State) (value : Word) (n : BitVec 64) (t0 : Nat), fld value 16 16 = 0x6C1E → s.dev.mode = 3 → s.dev.b EVR.FREEZE 0 = false →
    s.dev.evr.nonce = some (n, t0) →
    let answer := (hmacSha256 Config.maintenanceKey
      (leBytes 8 n.toNat ++ leBytes 8 (s.dev.w SYS.UID_HI ++ s.dev.w SYS.UID_LO).toNat)).take 8
    let given := leBytes 8 (s.dev.w EVR.CLR_RESP_HI ++ s.dev.w EVR.CLR_RESP_LO).toNat
    (given = answer → ∃ t, exec (.clrCmd value) s = .next t ∧ t.bus = .done 0 ∧ t.cfg = s.cfg ∧ t.dev.evr.nonce = none
      ∧ t.dev.evr.index.map (fun p => p.1) = [(s.dev.w EVR.SEQ_NEXT).toNat]
      ∧ t.dev.w EVR.TAIL = s.dev.w EVR.HEAD ∧ t.dev.w EVR.TAIL_SEQ = s.dev.w EVR.SEQ_NEXT
      ∧ t.dev.w EVR.SEQ_NEXT = s.dev.w EVR.SEQ_NEXT + 1 ∧ t.dev.w EVR.CLR_RES = 2)
    ∧ (given ≠ answer → s.dev.f EVR.CLR_RES 4 2 < 2 → exec (.clrCmd value) s = .next { s with
        bus := .done 0
        dev := (s.dev.clearRefused 8).putF EVR.CLR_RES 4 2 (s.dev.f EVR.CLR_RES 4 2 + 1) })
    ∧ (given ≠ answer → s.dev.f EVR.CLR_RES 4 2 = 2 → exec (.clrCmd value) s = .next { s with
        bus := .done 0
        dev := { ((s.dev.clearRefused 8).putF EVR.CLR_RES 4 2 0).putB EVR.STAT 2 true with
          evr := { s.dev.evr with lockTick := s.dev.tick } } }))
  ∧ (∀ (s : State) (n : BitVec 64) (t0 : Nat), s.dev.evr.nonce = some (n, t0) →
    exec .nonceExpiry s = .next { s with
      dev := { s.dev.advanceTo (t0 + 60 * ticksPerSec) with evr := { s.dev.evr with nonce := none } } })
  ∧ (∀ s : State, s.dev.evr.nonce = none → exec .nonceExpiry s = .next s)
  ∧ (∀ s : State, s.dev.b EVR.STAT 2 = true → exec .clrLockExpiry s = .next { s with
      dev := (s.dev.advanceTo (s.dev.evr.lockTick + 600 * ticksPerSec)).putB EVR.STAT 2 false })
  ∧ ∀ s : State, s.dev.b EVR.STAT 2 = false → exec .clrLockExpiry s = .next s

/-- R475, R476, R480. -/
def Obligations.RecorderAdmission : Prop :=
  (∀ (s : State) (o : Occurrence), firstOccurrence s.dev.occ = some o → o ∈ s.dev.occ
    ∧ (∀ p ∈ s.dev.occ, o.tick < p.tick ∨ (o.tick = p.tick ∧ o.code ≤ p.code))
    ∧ exec .eventAdmit s = .next { s with dev := takeIn s.cfg s.store { s.dev with occ := s.dev.occ.erase o } o })
  ∧ (∀ s : State, s.dev.occ = [] → exec .eventAdmit s = .next s)
  ∧ (∀ (c : Cfg) (st : Store) (d : Dev) (o : Occurrence), (∃ e ∈ codeEntries st, e.code = o.code) →
      (∀ e ∈ codeEntries st, e.code = o.code → e.flags.testBit 0 = false) → takeIn c st d o = d)
  ∧ (∀ (c : Cfg) (st : Store) (d : Dev) (o : Occurrence), codeEntries st = [] → holds d = false → d.evr.intake.length < 64 →
    Assoc.get 0 d.evr.spent 1024 < c.f EVR.DEF_CFG 0 8 →
    ∃ r : EvrRecord, (takeIn c st d o).evr.intake = d.evr.intake ++ [r] ∧ r.seq = (d.w EVR.SEQ_NEXT).toNat
      ∧ (takeIn c st d o).w EVR.SEQ_NEXT = d.w EVR.SEQ_NEXT + 1
      ∧ Assoc.get 0 (takeIn c st d o).evr.spent 1024 = Assoc.get 0 d.evr.spent 1024 + 1)
  ∧ (∀ (c : Cfg) (st : Store) (d : Dev) (o : Occurrence), codeEntries st = [] → holds d = false → d.evr.intake.length < 64 →
    c.f EVR.DEF_CFG 0 8 ≤ Assoc.get 0 d.evr.spent 1024 →
    (takeIn c st d o).evr.intake = d.evr.intake ∧ (takeIn c st d o).w EVR.SEQ_NEXT = d.w EVR.SEQ_NEXT
      ∧ (takeIn c st d o).w EVR.SUPP_TOTAL = (d.bump EVR.SUPP_TOTAL).w EVR.SUPP_TOTAL)
  ∧ (∀ (c : Cfg) (st : Store) (d : Dev) (o : Occurrence), codeEntries st = [] → holds d = false → 64 ≤ d.evr.intake.length →
    (takeIn c st d o).evr.intake = d.evr.intake ∧ (takeIn c st d o).evr.spent = d.evr.spent
      ∧ (takeIn c st d o).w EVR.SEQ_NEXT = d.w EVR.SEQ_NEXT ∧ (takeIn c st d o).w EVR.LOST_CNT = (d.bump EVR.LOST_CNT).w EVR.LOST_CNT)
  ∧ (∀ (s : State) (entry : Fin 1025), let e := entry.val
      let due := Assoc.get s.dev.evr.filled s.dev.evr.returned e + refillMs s.cfg s.store e * ticksPerMs
      ∃ t, exec (.tokenRefill entry) s = .next t
        ∧ t = { s with dev := { s.dev.advanceTo due with evr := { s.dev.evr with
              spent := t.dev.evr.spent, returned := t.dev.evr.returned } } }
        ∧ Assoc.get 0 t.dev.evr.spent e = Assoc.get 0 s.dev.evr.spent e - 1
        ∧ Assoc.get s.dev.evr.filled t.dev.evr.returned e = due
        ∧ ∀ j, j ≠ e → Assoc.get 0 t.dev.evr.spent j = Assoc.get 0 s.dev.evr.spent j)
  ∧ (∀ s : State, nextRecord s.dev = none → exec .granuleCommit s = .next s)
  ∧ ∀ (s : State) (r : EvrRecord), nextRecord s.dev = some (r, true) → r.bytes.length = 64 → s.dev.evr.written = 0 →
    s.dev.evr.index = [] → (s.dev.w EVR.HEAD).toNat + 1 < ringSize → s.dev.b MEM.INJ_CTRL 0 = false → s.dev.evr.granTick = none →
    ∃ t, exec .granuleCommit s = .next t ∧ t.cfg = s.cfg ∧ t.bus = s.bus
      ∧ t.store = s.store.write (ringBase + 64 * (s.dev.w EVR.HEAD).toNat) r.bytes
      ∧ t.dev.evr.index = [(r.seq, (s.dev.w EVR.HEAD).toNat, 1)] ∧ t.dev.evr.intake = s.dev.evr.intake.drop 1
      ∧ t.dev.w EVR.HEAD = s.dev.w EVR.HEAD + 1 ∧ t.dev.w EVR.TAIL = s.dev.w EVR.HEAD

/-- R483 to R485, R487. -/
def Obligations.HackUnit : Prop :=
  (∀ (s : State) (value : Word),
      (fld value 16 16 = 0x4A5C → exec (.hackFire value) s = .next { s with bus := .done 0, dev := s.dev.hackTrigger s.cfg 1 })
      ∧ (fld value 16 16 ≠ 0x4A5C → exec (.hackFire value) s = .next { s with bus := .done 0 }))
  ∧ (∀ (s : State) (number : Word), exec (.partnerHack number) s = .next { s with dev := (s.dev.put HCK.PARTNER_NUM number).hackTrigger s.cfg 7 })
  ∧ (∀ (c : Cfg) (d : Dev) (src : Nat), 1 ≤ src → src ≤ 7 →
      (c.b HCK.CFG (src - 1) = false → d.hackTrigger c src = d)
      ∧ (c.b HCK.CFG (src - 1) = true → d.hck.pending = none → d.hck.lastTrigger = none →
          d.hackTrigger c src = { d with hck := { d.hck with pending := some (d.tick, 2 ^ (src - 1)) } })
      ∧ (∀ t srcs, c.b HCK.CFG (src - 1) = true → d.hck.pending = some (t, srcs) →
          d.hackTrigger c src =
            ({ d with hck := { d.hck with pending := some (t, srcs ||| 2 ^ (src - 1)) } } : Dev).bump HCK.MERGED_CNT)
      ∧ (∀ t, c.b HCK.CFG (src - 1) = true → d.hck.pending = none → d.hck.lastTrigger = some t → d.tick ≤ t + c.f HCK.CFG 16 16 →
          d.hackTrigger c src = (d.putF HCK.LAST 0 7 (d.f HCK.LAST 0 7 ||| 2 ^ (src - 1))).bump HCK.MERGED_CNT))
  ∧ (∀ s : State, s.dev.hck.pending = none → exec .hackLatch s = .next s)
  ∧ ∀ (s : State) (t0 srcs : Nat), s.dev.hck.pending = some (t0, srcs) → journaling s.cfg s.dev = false →
    (∀ p ∈ pages, s.cfg.b (hdrSNAP_CTRL p.base) 0 = false) → s.cfg.b HCK.CFG 14 = false → s.dev.tick ≤ t0 + 16 →
    ∃ t, exec .hackLatch s = .next t ∧ t.cfg = s.cfg ∧ t.store = s.store ∧ t.bus = s.bus
      ∧ RegsKept [HCK.NUM, HCK.LAST, HCK.LAST_TICK_LO, HCK.LAST_TICK_HI] s.dev t.dev
      ∧ t.dev.tick = t0 + 16 ∧ t.dev.hck.pending = none ∧ t.dev.hck.lastTrigger = some t0
      ∧ t.dev.w HCK.NUM = (if s.dev.w HCK.NUM = 0xFFFFFFFF#32 then 1 else s.dev.w HCK.NUM + 1)
      ∧ t.dev.w HCK.LAST = wd srcs ∧ t.dev.w HCK.LAST_TICK_LO = wd (t0 + 16)
      ∧ t.dev.occ = s.dev.occ ++ [⟨0x0501, t0 + 16, s.dev.eventBeat, [((t.dev.w HCK.NUM).toNat : Int), srcs]⟩]

/-- R489 to R491, R498: start, refusal, abort and end of a full run. -/
def Obligations.FullRun : Prop :=
  (∀ (s : State) (range : RangeObs) (keysZero : Bool), s.dev.mode = 2 → s.dev.pwr.phase = 2 → s.dev.stu.run = none → s.dev.stu.ended = false →
    (withinRange range = false → ∃ t, exec (.selfTestStart range keysZero) s = .next t ∧ t.cfg = s.cfg ∧ t.store = s.store ∧ t.bus = s.bus
      ∧ RegsKept [STU.RESULT, STU.RANGE, STU.FAIL_MASK, STU.SKIP_MASK] s.dev t.dev
      ∧ t.dev.f STU.RESULT 0 3 = 4 ∧ t.dev.w STU.RANGE = wd (rangeWord range) ∧ t.dev.stu.ended = true
      ∧ t.dev.occ = s.dev.occ ++ [⟨0x0804, s.dev.tick, s.dev.eventBeat, [(rangeWord range : Int)]⟩])
    ∧ (withinRange range = true → ∃ t, exec (.selfTestStart range keysZero) s = .next t ∧ t.cfg = s.cfg ∧ t.store = s.store ∧ t.bus = s.bus
      ∧ RegsKept [STU.RESULT, STU.RANGE, STU.FAIL_MASK, STU.SKIP_MASK, STU.KEYS, EVR.STAT, SYS.JTAG_STAT] s.dev t.dev
      ∧ t.dev.f STU.RESULT 0 3 = 1 ∧ t.dev.f STU.RESULT 4 1 = s.dev.stu.requested.toNat ∧ t.dev.w STU.KEYS = wd (1 + keysZero.toNat * 2)
      ∧ t.dev.stu.keys = false ∧ t.dev.stu.run = some (s.dev.stu.requested.toNat, s.dev.tick) ∧ t.dev.w SYS.JTAG_STAT = 0
      ∧ t.dev.w EVR.STAT = setBit (s.dev.w EVR.STAT) 1 false))
  ∧ (∀ (s : State) (stage : Fin 7) (range : RangeObs) (kind t0 : Nat), s.dev.stu.run = some (kind, t0) → 2 ≤ stage.val →
    withinRange range = false →
    ∃ t, exec (.selfTestAbort stage range) s = .next t ∧ t.cfg = s.cfg ∧ t.store = s.store ∧ t.bus = s.bus
      ∧ RegsKept [STU.RESULT, STU.RANGE] s.dev t.dev ∧ t.dev.f STU.RESULT 0 3 = 5 ∧ t.dev.w STU.RANGE = wd (rangeWord range)
      ∧ t.dev.stu.run = none ∧ t.dev.stu.ended = true
      ∧ t.dev.occ = s.dev.occ ++ [⟨0x0805, s.dev.tick, s.dev.eventBeat, [(stage.val : Int), rangeWord range]⟩])
  ∧ (∀ (s : State) (obs : SelfTestObs) (kind t0 : Nat), s.dev.stu.run = some (kind, t0) →
    ∃ t, exec (.selfTestEnd obs) s = .next t ∧ t.cfg = s.cfg ∧ t.bus = s.bus
      ∧ (∀ a, inRegion0 a = true → t.store.byte a = 0) ∧ (∀ a, inRegion0 a = false → t.store.byte a = s.store.byte a)
      ∧ t.dev.stu.run = none ∧ t.dev.stu.ended = true
      ∧ t.dev.f STU.RESULT 0 3 = (if t.dev.w STU.FAIL_MASK = 0 then 2 else 3)
      ∧ (t.dev.w STU.FAIL_MASK = 0 ↔ s.dev.stu.secretsBad = false ∧ (∀ k, k < 11 → obs.sigs.getD k 0 = goldenOf s.dev k)
          ∧ obs.mbist = true ∧ dacAdcOk obs.codes = true ∧ (obs.supplies.1.toNat < 18000 ∨ groupLoopOk obs.loops 0 = true)
          ∧ (obs.supplies.2.toNat < 18000 ∨ groupLoopOk obs.loops 1 = true) ∧ bandgapOk obs.bandgaps = true
          ∧ rfToneOk obs.tones = true ∧ tempOk obs.temps = true))
  ∧ ∀ (s : State) (stage : Fin 7) (range : RangeObs) (obs : SelfTestObs), s.dev.stu.run = none →
    exec (.selfTestAbort stage range) s = .next s ∧ exec (.selfTestEnd obs) s = .next s

/-- R499. -/
def Obligations.ClusterTests : Prop :=
  (∀ (s : State) (value : Word) (range : RangeObs), let n := fld value 0 2
    let refused (code : Nat) : Dev := ((s.dev.putF STU.CL_RES 0 3 4).putF STU.CL_RES 4 2 n).putF STU.CL_RES 8 4 code
    s.dev.stu.cluster = none →
    (fld value 16 16 = 0x57E5 → 2 ≤ clState s.dev n → withinRange range = true → 3 ≤ s.dev.mode → s.dev.mode ≤ 10 →
      exec (.clTest value range) s = .next { s with
        bus := .done 0
        dev := { ((s.dev.putF STU.CL_RES 0 3 1).putF STU.CL_RES 4 2 n).putF STU.CL_RES 8 4 0 with
          stu := { s.dev.stu with cluster := some n } } })
    ∧ (fld value 16 16 ≠ 0x57E5 → exec (.clTest value range) s = .next { s with bus := .done 0, dev := refused 1 })
    ∧ (fld value 16 16 = 0x57E5 → clState s.dev n < 2 →
        exec (.clTest value range) s = .next { s with bus := .done 0, dev := refused 2 })
    ∧ (fld value 16 16 = 0x57E5 → 2 ≤ clState s.dev n → withinRange range = false →
        exec (.clTest value range) s = .next { s with bus := .done 0, dev := refused 4 })
    ∧ (fld value 16 16 = 0x57E5 → 2 ≤ clState s.dev n → withinRange range = true → (s.dev.mode < 3 ∨ 10 < s.dev.mode) →
        exec (.clTest value range) s = .next { s with bus := .done 0, dev := refused 5 }))
  ∧ (∀ (s : State) (value : Word) (range : RangeObs) (m : Nat), s.dev.stu.cluster = some m → fld value 16 16 = 0x57E5 →
      2 ≤ clState s.dev (fld value 0 2) →
      exec (.clTest value range) s = .next { s with bus := .done 0, dev := s.dev.putF STU.CL_RES 8 4 3 })
  ∧ (∀ (s : State) (pass : Bool) (range : RangeObs) (n : Nat), s.dev.stu.cluster = some n →
      let d : Dev := { s.dev with stu := { s.dev.stu with cluster := none } }
      (withinRange range = true →
        exec (.clTestDone false range) s = .next { s with
          dev := ((d.putF STU.CL_RES 0 3 3).putF (SLV.CL_STAT n) 0 2 3).event 0x0807 [(n : Int)] }
        ∧ exec (.clTestDone true range) s = .next { s with
          dev := ((d.putF STU.CL_RES 0 3 2).wrap STU.CL_RES 16 16 1).clusterRestored n })
      ∧ (withinRange range = false →
        exec (.clTestDone pass range) s = .next { s with dev := (d.putF STU.CL_RES 0 3 4).putF STU.CL_RES 8 4 4 }))
  ∧ ∀ (s : State) (pass : Bool) (range : RangeObs), s.dev.stu.cluster = none → exec (.clTestDone pass range) s = .next s

/-- R521, R525, R527 to R531, R539, R402. -/
def Obligations.ResetSources : Prop :=
  (∀ s : State, exec .powerOnReset s = .next (s.deviceReset 1 0 0))
  ∧ (∀ s : State, s.dev.pwr.asleep ≠ 1 → exec .brownOut s = .next (s.deviceReset 2 0 0))
  ∧ (∀ s : State, s.dev.pwr.asleep = 0 →
      exec .overvoltageReset s = .next (s.deviceReset 3 0 0)
      ∧ (∀ rail : Fin 10, 2 ≤ rail.val → rail.val ≤ 6 → exec (.railReset rail) s = .next (s.deviceReset 4 0 0))
      ∧ (∀ rail : Fin 10, (rail.val < 2 ∨ 6 < rail.val) → exec (.railReset rail) s = .next s)
      ∧ exec .thermalReset s = .next (s.deviceReset 5 0 0)
      ∧ exec .pinReset s = .next (s.deviceReset 8 0 0)
      ∧ (s.dev.b SYS.WDT_STAT 16 = true → s.dev.mode ≠ 2 → exec .sysWatchdogExpiry s =
          .next (({ s with dev := s.dev.advanceTo (s.dev.pwr.wdtTick + s.cfg.f SYS.WDT_CFG 0 14 * ticksPerMs) } : State).deviceReset 9 0 0))
      ∧ (s.dev.b SYS.JTAG_STAT 0 = true → exec .jtagReset s = .next (s.deviceReset 10 0 0))
      ∧ (∀ value : Word, fld value 16 16 = 0x9E57 → exec (.rstCmd value) s = .next { s.deviceReset 11 0 0 with bus := .done 0 })
      ∧ (∀ value : Word, fld value 16 16 ≠ 0x9E57 → exec (.rstCmd value) s = .next { s with bus := .done 0 }))
  ∧ (∀ s : State, s.dev.pwr.asleep ≠ 0 → exec .overvoltageReset s = .next s ∧ exec .thermalReset s = .next s ∧ exec .pinReset s = .next s
      ∧ (∀ rail : Fin 10, exec (.railReset rail) s = .next s))
  ∧ (∀ (s : State) (clock : Fin 9) (ppm : BitVec 16) (unlocked : Bool), (unlocked = true ∨ 10000 < ppm.toInt.natAbs) →
      let d := (s.dev.putN (PWR.CLK clock.val) (ppm.toNat + (!unlocked).toNat * 2 ^ 16 + 2 ^ 17)).event 0x0203 [(clock.val : Int)]
      ((clock.val = 0 ∨ (3 ≤ clock.val ∧ clock.val ≤ 6)) → s.dev.pwr.asleep = 0 →
        exec (.clockFault clock ppm unlocked) s = .next (({ s with dev := d } : State).deviceReset 6 0 0))
      ∧ (clock.val = 1 → exec (.clockFault clock ppm unlocked) s = .next { s with dev := d.refInLost s.cfg })
      ∧ ((clock.val = 2 ∨ 7 ≤ clock.val) → exec (.clockFault clock ppm unlocked) s = .next { s with dev := d }))
  ∧ (∀ (s : State) (clock : Fin 9) (ppm : BitVec 16), ppm.toInt.natAbs ≤ 10000 →
      exec (.clockFault clock ppm false) s = .next { s with dev := s.dev.putN (PWR.CLK clock.val) (ppm.toNat + 2 ^ 16) })
  ∧ (∀ s : State, s.dev.pwr.asleep = 1 → exec (.wake .wakeN) s = .next (s.deviceReset 1 1 0) ∧ exec .pinReset s = .next s)
  ∧ (∀ s : State, s.dev.pwr.asleep = 2 → exec (.wake .wakeN) s = .next (s.deviceReset 7 1 0)
      ∧ (s.cfg.b PWR.DORM_CFG 0 = true → exec (.wake .alarm) s =
          .next (({ s with dev := s.dev.toAlarm s.cfg } : State).deviceReset 7 3 0)))
  ∧ ∀ (s : State) (ctrl : Fin 6) (pattern : CanWakePattern), s.dev.pwr.asleep = 2 → s.dev.b (CAN.STAT ctrl.val) 4 = true →
      wakes s.cfg ctrl.val pattern = true →
      exec (.canWake ctrl pattern) s = .next { s.deviceReset 7 2 ctrl.val with
        dev := (s.deviceReset 7 2 ctrl.val).dev.event 0x200B [(ctrl.val : Int), 3] }

/-- R459, R503, R530: every field of state after a reset from any state. Reset values that no table states are the model's choice
(log 3). -/
def Obligations.DeviceResetLeaves : Prop :=
  ∀ (s : State) (cause class_ ctrl : Nat), 1 ≤ cause → cause ≤ 11 →
    let t := s.deviceReset cause class_ ctrl
    t.pending = s.pending
    ∧ (∀ k, k ∉ keptKeys → t.dev.w k = regReset k) ∧ (∀ k, t.cfg.w k = regReset k) ∧ (∀ k, t.cfg.sh k = regReset k)
    ∧ (∀ k, k ∈ [EVR.HEAD, EVR.TAIL, EVR.SEQ_NEXT, EVR.TAIL_SEQ, EVR.OPTIME_LO, EVR.OPTIME_HI, PRC.EPOCH] → t.dev.w k = s.dev.w k)
    ∧ t.dev.w EVR.PWRCYC = (if cause = 1 ∨ cause = 7 then s.dev.w EVR.PWRCYC + 1 else s.dev.w EVR.PWRCYC)
    ∧ (∀ a, inRegion0 a = true ∨ inRegion1 a = true → t.store.byte a = 0)
    ∧ (∀ a, inRegion0 a = false → inRegion1 a = false → t.store.byte a = s.store.byte a)
    ∧ t.dev.mode = 2 ∧ t.dev.crown = false ∧ t.dev.pwr.asleep = 0
    ∧ t.dev.pwr.phase = (if cause = 2 then 0 else 1)
    ∧ (2 ≤ s.dev.pwr.phase → t.dev.w SYS.RST_CAUSE = wd (cause + 2 ^ (cause - 1) * 2 ^ 4 + class_ * 2 ^ 16))
    ∧ t.dev.pwr.minSecVer = s.dev.pwr.minSecVer

/-- R492, R521, R526, R531, R533, R537, R539, R540. -/
def Obligations.PowerCommands : Prop :=
  (∀ (s : State) (rail : Fin 10) (mv1 mv2 : BitVec 16), let r := rail.val
    let shown (ok : Bool) : Dev := (s.dev.putN (PWR.RAIL r) (mv1.toNat + mv2.toNat * 2 ^ 16)).putB PWR.RAIL_STAT r ok
    (s.dev.b PWR.RAIL_STAT r = true → railOut s.dev r mv1.toNat = true →
      exec (.railWarn rail mv1 mv2) s = .next { s with dev := ((shown false).putB PWR.RAIL_WARN r true).event 0x0201 [(r : Int)] })
    ∧ (s.dev.b PWR.RAIL_STAT r = false → railIn s.dev r mv1.toNat = true →
      exec (.railOk rail mv1 mv2) s = .next { s with dev := (shown true).event 0x0202 [(r : Int)] })
    ∧ (s.dev.b PWR.RAIL_STAT r = true → exec (.railOk rail mv1 mv2) s = .next { s with dev := shown true })
    ∧ (s.dev.b PWR.RAIL_STAT r = false → exec (.railWarn rail mv1 mv2) s = .next { s with dev := shown false }))
  ∧ (∀ s : State, exec .calInvalid s = .next { s with dev := s.dev.putB PWR.CAL_HI 31 false })
  ∧ (∀ (s : State) (value : Word),
      (fld value 16 16 = 0x5D11 → s.dev.b SYS.WDT_STAT 16 = true → exec (.wdtFeed value) s = .next { s with
        bus := .done 0
        dev := { s.dev.putF SYS.WDT_STAT 0 14 0 with pwr := { s.dev.pwr with wdtTick := s.dev.tick } } })
      ∧ (fld value 16 16 ≠ 0x5D11 ∨ s.dev.b SYS.WDT_STAT 16 = false → exec (.wdtFeed value) s = .next { s with bus := .done 0 }))
  ∧ (∀ s : State, s.dev.pwr.phase = 1 → exec .phase1Complete s = .next { s with dev := { s.dev with pwr := { s.dev.pwr with phase := 2 } } })
  ∧ (∀ s : State, s.dev.pwr.phase ≠ 1 → exec .phase1Complete s = .next s)
  ∧ (∀ s : State,
      (imageReason s.store s.dev 0x10000000 = 0 → exec (.tryA 0xB0C7 0x0001) s = .next { s with
        bus := .done 0
        dev := ({ s.dev with pwr := { s.dev.pwr with
            prefB := false, trial := s.dev.pwr.trial ||| 1, booted := s.dev.pwr.booted &&& 2, confirmed := s.dev.pwr.confirmed &&& 2 } } :
          Dev).putF SYS.BOOT_RES 0 2 0 })
      ∧ (imageReason s.store s.dev 0x13000000 = 0 → exec (.tryB 0xB0C7 0x0002) s = .next { s with
        bus := .done 0
        dev := ({ s.dev with pwr := { s.dev.pwr with
            prefB := true, trial := s.dev.pwr.trial ||| 2, booted := s.dev.pwr.booted &&& 1, confirmed := s.dev.pwr.confirmed &&& 1 } } :
          Dev).putF SYS.BOOT_RES 0 2 0 })
      ∧ (imageReason s.store s.dev 0x10000000 ∉ [0, 7] →
          exec (.tryA 0xB0C7 0x0001) s = .next { s with bus := .done 0, dev := s.dev.putF SYS.BOOT_RES 0 2 3 })
      ∧ (imageReason s.store s.dev 0x13000000 ∉ [0, 7] →
          exec (.tryB 0xB0C7 0x0002) s = .next { s with bus := .done 0, dev := s.dev.putF SYS.BOOT_RES 0 2 3 }))
  ∧ (∀ s : State, s.dev.f SYS.BOOT_STAT 0 2 = 0 → exec (.confirm 0xB0C70003#32) s = .next { s with
      bus := .done 0
      dev := (({ s.dev with pwr := { s.dev.pwr with
          trial := s.dev.pwr.trial &&& 2, confirmed := s.dev.pwr.confirmed ||| 1 } } : Dev).putB SYS.BOOT_STAT 2 false).putF
        SYS.BOOT_RES 0 2 0 })
  ∧ (∀ s : State, s.dev.f SYS.BOOT_STAT 0 2 = 2 →
      exec (.confirm 0xB0C70003#32) s = .next { s with bus := .done 0, dev := s.dev.putF SYS.BOOT_RES 0 2 2 }
      ∧ exec (.raiseSecver 0xB0C70004#32) s = .next { s with bus := .done 0, dev := s.dev.putF SYS.BOOT_RES 0 2 2 })
  ∧ (∀ s : State, s.dev.f SYS.BOOT_STAT 0 2 < 2 → s.dev.b SYS.BOOT_STAT 2 = false → s.dev.pwr.minSecVer < s.dev.pwr.runSecVer →
      s.dev.pwr.secSteps < 32 →
      exec (.raiseSecver 0xB0C70004#32) s = .next { s with
        bus := .done 0
        dev := ((({ s.dev with pwr := { s.dev.pwr with
            minSecVer := s.dev.pwr.runSecVer, secSteps := s.dev.pwr.secSteps + 1 } } : Dev).putF SYS.BOOT_STAT 16 8
            s.dev.pwr.runSecVer).event 0x0109 [(s.dev.pwr.runSecVer : Int)]).putF SYS.BOOT_RES 0 2 0 })
  ∧ (∀ (s : State) (value : Word), fld value 16 16 ≠ 0xB0C7 →
      exec (.tryA (value.extractLsb' 16 16) (value.extractLsb' 0 16)) s = .next { s with bus := .done 0, dev := s.dev.putF SYS.BOOT_RES 0 2 1 }
      ∧ exec (.tryB (value.extractLsb' 16 16) (value.extractLsb' 0 16)) s = .next { s with bus := .done 0, dev := s.dev.putF SYS.BOOT_RES 0 2 1 }
      ∧ exec (.confirm value) s = .next { s with bus := .done 0, dev := s.dev.putF SYS.BOOT_RES 0 2 1 }
      ∧ exec (.raiseSecver value) s = .next { s with bus := .done 0, dev := s.dev.putF SYS.BOOT_RES 0 2 1 })
  ∧ (∀ (s : State) (x y r sig : BitVec 256), s.dev.stu.keys = true → s.dev.pwr.jtagFails < 3 →
      let d : Dev := { s.dev with pwr := { s.dev.pwr with jtagNonce := none } }
      let failed : Dev := { s.dev with pwr := { s.dev.pwr with jtagNonce := none, jtagFails := s.dev.pwr.jtagFails + 1 } }
      (∀ slot, debugAnswer s.dev x y r sig = some slot → exec (.jtagAuth ⟨x, y⟩ ⟨r, sig⟩) s = .next { s with
          dev := (d.putN SYS.JTAG_STAT (1 + slot * 4)).event 0x0107 [(slot : Int)] })
      ∧ (debugAnswer s.dev x y r sig = none → s.dev.pwr.jtagFails = 2 →
          exec (.jtagAuth ⟨x, y⟩ ⟨r, sig⟩) s = .next { s with dev := (failed.putB SYS.JTAG_STAT 1 true).event 0x0108 })
      ∧ (debugAnswer s.dev x y r sig = none → s.dev.pwr.jtagFails < 2 →
          exec (.jtagAuth ⟨x, y⟩ ⟨r, sig⟩) s = .next { s with dev := failed.event 0x0108 }))
  ∧ (∀ (s : State) (x y r sig : BitVec 256), (s.dev.stu.keys = false ∨ 3 ≤ s.dev.pwr.jtagFails) →
      exec (.jtagAuth ⟨x, y⟩ ⟨r, sig⟩) s = .next { s with dev := s.dev.event 0x0108 })
  ∧ (∀ s : State, s.dev.b SYS.JTAG_STAT 0 = true → s.dev.crown = false →
      exec (.jtagInstruction .haltCore) s =
        .next { s with dev := { s.dev with pwr := { s.dev.pwr with extest := false, coreHalted := true } } }
      ∧ exec (.jtagInstruction .haltMonitor) s =
        .next { s with dev := { s.dev with pwr := { s.dev.pwr with extest := false, monitorHalted := true } } })
  ∧ ∀ s : State, (s.dev.b SYS.JTAG_STAT 0 = false ∨ s.dev.crown = true) →
      exec (.jtagInstruction .haltCore) s = .next { s with dev := { s.dev with pwr := { s.dev.pwr with extest := false } } }
      ∧ exec (.jtagInstruction .haltMonitor) s = .next { s with dev := { s.dev with pwr := { s.dev.pwr with extest := false } } }
      ∧ exec (.jtagInstruction .extest) s = .next { s with dev := { s.dev with pwr := { s.dev.pwr with extest := false } } }

/-- R534 to R536, R538. -/
def Obligations.BootChoice : Prop :=
  (∀ (st : Store) (d : Dev) (a : Nat), imageReason st d a = 0 ↔
      imageField st a 0 4 = 0x4D494E4B ∧ imageField st a 4 2 = 1 ∧ (∀ o ∈ imageReserved, st.byte (a + o) = 0)
      ∧ (imageField st a 0x30 2).testBit (stepBit d) = true ∧ imageKeyOk st d a = true ∧ d.pwr.minSecVer ≤ imageSecVer st a
      ∧ imageSigOk st a = true ∧ sha256 (st.bytes (a + 0x100) (imageLen st a)) = st.bytes (a + 0x60) 32
      ∧ st.readsPoison a (0x100 + imageLen st a) = false)
  ∧ (∀ s : State, s.dev.pwr.phase = 3 → s.dev.stu.requested = false → s.dev.pwr.prefB = false → s.dev.pwr.trial = 0 →
      imageReason s.store s.dev 0x10000000 = 0 →
      ∃ t, exec (.bootImage ()) s = .next t ∧ t.cfg = s.cfg ∧ t.bus = s.bus ∧ t.dev.pwr.phase = 4 ∧ t.dev.stu.keys = true
        ∧ t.store = s.store.copyImage 0x10000000
        ∧ t.dev.f SYS.BOOT_STAT 0 2 = 0 ∧ t.dev.b SYS.BOOT_STAT 3 = false ∧ t.dev.w SYS.WDT_STAT = 0x10000#32
        ∧ t.dev.pwr.runSecVer = imageSecVer s.store 0x10000000
        ∧ t.dev.pwr.entry = some (imageField s.store 0x10000000 0x20 8)
        ∧ t.dev.occ = s.dev.occ ++ [⟨0x0105, max s.dev.tick (s.dev.tick + imageLen s.store 0x10000000), s.dev.eventBeat,
            [0, (imageSecVer s.store 0x10000000 : Int), 0]⟩])
  ∧ (∀ s : State, s.dev.pwr.phase = 3 → s.dev.stu.requested = false → s.dev.pwr.prefB = false → s.dev.pwr.trial = 0 →
      imageReason s.store s.dev 0x10000000 ≠ 0 → imageReason s.store s.dev 0x13000000 ≠ 0 →
      ∃ t, exec (.bootImage ()) s = .next t ∧ t.cfg = s.cfg ∧ t.bus = s.bus ∧ t.store = s.store ∧ t.dev.pwr.phase = 5
        ∧ t.dev.f SYS.BOOT_STAT 0 2 = 2 ∧ t.dev.b SYS.BOOT_STAT 3 = true ∧ t.dev.b HIF.SPI_STAT 1 = true)
  ∧ (∀ s : State, s.dev.pwr.phase ≠ 3 → exec (.bootImage ()) s = .next s)
  ∧ (∀ (s : State) (addr : BitVec 48) (image : List Byte), s.dev.pwr.phase ≠ 5 → exec (.serviceImage ⟨addr, image⟩) s = .next s)
  ∧ ∀ (s : State) (addr : BitVec 48) (image : List Byte), s.dev.pwr.phase = 5 → 0x80000000 ≤ addr.toNat →
      addr.toNat + image.length ≤ 0x14CCCCCC0 → s.dev.b MEM.INJ_CTRL 0 = false →
      let st := s.store.write addr.toNat image
      let d := s.dev.wrap HIF.SPI_STAT 16 16 1
      let r := imageReason st s.dev addr.toNat
      (r ≠ 0 → exec (.serviceImage ⟨addr, image⟩) s = .next { s with
          store := st
          dev := (d.putF SYS.BOOT_STAT 4 4 r).event 0x0106 [2, (r : Int)] })
      ∧ (r = 0 → s.dev.pwr.entry = none → exec (.serviceImage ⟨addr, image⟩) s = .next { s with
          store := st.copyImage addr.toNat
          dev := ((if s.dev.stu.requested then d else d.loadKeys).event 0x0105 [2, (imageSecVer st addr.toNat : Int), 0]).releaseCores st addr.toNat })

/-- R316 to R319, R332; CLASS2_HOLD_EXPIRY under R34, R35. What the link does with frames that wait is log 96. -/
def Obligations.LinkAndHeartbeats : Prop :=
  (∀ s : State, linkState s.dev ≠ 2 → s.dev.stu.keys = true → exec .linkUp s = .next { s with
      dev := (({ s.dev with prc := { s.dev.prc with
          linkQueue := [], flight := [], lineFree := s.dev.tick, txTick := s.dev.tick, linkTick := s.dev.tick } } :
        Dev).putF PRC.STAT 0 2 2).event 0x0A01 })
  ∧ (∀ s : State, (linkState s.dev = 2 ∨ s.dev.stu.keys = false) → exec .linkUp s = .next s)
  ∧ (∀ s : State, linkState s.dev = 2 → tbuSrc s.dev ≠ 6 →
      let e := s.dev.advanceTo (linkDownAt s.dev)
      exec .linkDown s = .next { s with
        dev := (({ e with prc := { e.prc with linkQueue := [], flight := [] } } : Dev).putF PRC.STAT 0 2 1).event 0x0A02 })
  ∧ (∀ s : State, linkState s.dev ≠ 2 → exec .linkDown s = .next s ∧ exec .linkRetransmit s = .next s ∧ exec .idleFrame s = .next s)
  ∧ (∀ (s : State) (f : LinkFlight) (rest : List LinkFlight), linkState s.dev = 2 → s.dev.prc.flight = f :: rest →
      let e := s.dev.advanceTo (f.tick + 5 * ticksPerUs)
      (f.retries < 8 → exec .linkRetransmit s = .next { s with
        dev := ({ e with prc := { e.prc with
            flight := rest ++ [{ f with tick := e.tick, retries := f.retries + 1 }], txTick := e.tick } } : Dev).bump PRC.LINK_ERR_CNT })
      ∧ (8 ≤ f.retries → exec .linkRetransmit s = .next s))
  ∧ (∀ s : State, linkState s.dev = 2 → s.dev.prc.linkQueue = [] →
      let e := s.dev.advanceTo (s.dev.prc.txTick + 10 * ticksPerUs)
      exec .idleFrame s = .next { s with
        dev := { e with prc := { e.prc with idleSent := s.dev.prc.idleSent + 1, txTick := e.tick } } })
  ∧ (∀ s : State, let d : Dev := { s.dev with prc := { s.dev.prc with linkTick := s.dev.tick } }
      (∀ p, exec (.linkFrameReceived false p) s = .next s)
      ∧ exec (.linkFrameReceived true .ack) s = .next { s with
          dev := ({ d with prc := { d.prc with flight := s.dev.prc.flight.drop 1 } } : Dev).linkGo }
      ∧ exec (.linkFrameReceived true .idle) s = .next { s with dev := d }
      ∧ (linkState s.dev = 2 → exec (.linkFrameReceived true .data) s = .next { s with
          dev := { d with prc := { d.prc with acksSent := s.dev.prc.acksSent + 1 } } })
      ∧ (linkState s.dev = 0 → exec (.linkFrameReceived true .training) s = .next { s with dev := d.putF PRC.STAT 0 2 1 }))
  ∧ (∀ s : State, s.cfg.pair = true →
      let e := s.dev.advanceTo (s.dev.esc.boundary + 50 * ticksPerUs)
      ∃ hb : Heartbeat, exec .heartbeatSend s = .next { s with
          dev := ({ e with prc := { e.prc with lastSent := some hb, testSeen := false } } : Dev).linkPush 0 0xB1 48 }
        ∧ hb.role = s.cfg.b PRC.CFG 1 ∧ hb.crowned = s.dev.crown ∧ hb.fail = s.dev.prc.fail ∧ hb.inStep = decide (s.dev.f PRC.STAT 8 3 = 4)
        ∧ hb.testSeen = s.dev.prc.testSeen ∧ hb.mode.toNat = s.dev.mode % 16 ∧ hb.epoch = s.dev.prc.epoch
        ∧ hb.beat.toNat = s.dev.esc.beat % 2 ^ 48 ∧ hb.cfgHash.extractLsb' 0 32 = s.dev.w PRC.CFG_HASH_LO
        ∧ hb.cfgHash.extractLsb' 32 32 = s.dev.w PRC.CFG_HASH_HI
        ∧ (∀ n x l, s.dev.prc.digests = (n, x) :: l → hb.digest = x ∧ hb.digBeat.toNat = n % 2 ^ 48))
  ∧ (∀ (s : State) (hb : Heartbeat), s.cfg.pair = false ∨ hbValid s.dev hb = false → exec (.heartbeatReceived hb) s = .next s)
  ∧ (∀ (s : State) (hb : Heartbeat), s.cfg.pair = true → s.dev.mode = 3 → s.dev.crown = false → tbuSrc s.dev ≠ 6 → s.dev.prc.orphaned = false →
      hb.crcOk = true → hb.crowned = true → hb.fail = false →
      ∃ t, exec (.heartbeatReceived hb) s = .next t ∧ UnitsOnly s t
        ∧ RegsKept [PRC.STAT, PRC.PCFG_HASH_LO, PRC.PCFG_HASH_HI, PRC.EPOCH_MAX] s.dev t.dev ∧ t.dev.occ = s.dev.occ
        ∧ t.dev.b PRC.STAT 2 = true ∧ t.dev.b PRC.STAT 3 = true ∧ t.dev.f PRC.STAT 12 2 = 0 ∧ t.dev.f PRC.STAT 16 4 = hb.mode.toNat
        ∧ t.dev.prc.crownHbSeen = true ∧ t.dev.prc.lastHb = some (hb, s.dev.tick, s.dev.esc.beat)
        ∧ t.dev.w PRC.PCFG_HASH_LO = hb.cfgHash.extractLsb' 0 32 ∧ t.dev.w PRC.PCFG_HASH_HI = hb.cfgHash.extractLsb' 32 32
        ∧ t.dev.w PRC.EPOCH_MAX = (if 0 < seqDiff 32 hb.epoch.toNat (s.dev.w PRC.EPOCH_MAX).toNat then hb.epoch else s.dev.w PRC.EPOCH_MAX))
  ∧ (∀ s : State, s.cfg.pair = true → s.dev.crown = false → s.dev.prc.crownHbSeen = false → s.dev.prc.missBeat ≠ some s.dev.esc.beat →
      tbuSrc s.dev ≠ 6 →
      let e := s.dev.advanceTo (s.dev.esc.boundary + 200 * ticksPerUs)
      let d : Dev := { e with prc := { e.prc with missBeat := some s.dev.esc.beat } }
      (s.dev.f PRC.STAT 12 2 < 2 → exec .heartbeatMissed s = .next { s with dev := d.putF PRC.STAT 12 2 (s.dev.f PRC.STAT 12 2 + 1) })
      ∧ (s.dev.f PRC.STAT 12 2 = 2 → s.dev.mode = 4 → s.dev.prc.trigger = false → s.dev.b PRC.STAT 6 = false →
        exec .heartbeatMissed s = .next { s with
          dev := ({ ((d.putF PRC.STAT 12 2 3).event 0x0A03) with
            prc := { d.prc with seizeOut := 1, trigger := true, seizeBeat := d.esc.beat, seizeTick := d.tick } } : Dev).putB PRC.STAT 6 true
          |>.sat PRC.SEIZE_CNT 0 16 1 |>.event 0x0A04 }))
  ∧ (∀ s : State, s.dev.prc.missBeat = some s.dev.esc.beat → exec .heartbeatMissed s = .next s)
  ∧ (∀ (s : State) (source : Fin 65536) (p : Nat × Item),
      s.dev.flow.held.find? (fun q => q.2.source = source.val && q.2.cls = 2) = some p →
      let d : Dev := { s.dev with flow := { s.dev.flow with held := s.dev.flow.held.erase p } }
      exec (.class2HoldExpiry source) s = .next { s with dev := (d.advanceTo (p.1 + sourceTmo s.cfg d source.val + 1)).classDrop 2 1 })
  ∧ ∀ (s : State) (source : Fin 65536), s.dev.flow.held = [] → exec (.class2HoldExpiry source) s = .next s

/-- R324, R327 to R330. -/
def Obligations.Joining : Prop :=
  (∀ s : State, s.cfg.pair = true → s.dev.mode = 5 → linkState s.dev = 2 → partnerCrowned s.dev = true → s.dev.f PRC.STAT 8 3 = 0 →
      s.dev.prc.askBlocked = false →
      let e := s.dev.advanceTo s.dev.prc.askAfter
      (s.dev.w PRC.CFG_HASH_LO = s.dev.w PRC.PCFG_HASH_LO → s.dev.w PRC.CFG_HASH_HI = s.dev.w PRC.PCFG_HASH_HI →
        exec .transferRequest s = .next { s with
          dev := (({ e with
              prc := { e.prc with transferTick := some e.tick, buffer := [], image := none, level := false, swapMatch := none } }
              : Dev).putF PRC.STAT 8 3 1).putF PRC.TRANSFER 0 8 0 })
      ∧ (s.dev.w PRC.CFG_HASH_LO ≠ s.dev.w PRC.PCFG_HASH_LO → s.dev.b SYS.MODE 12 = false →
        ∃ t, exec .transferRequest s = .next t ∧ UnitsOnly s t ∧ RegsKept [PRC.STAT, PRC.TRANSFER] s.dev t.dev
          ∧ t.dev.f PRC.TRANSFER 8 8 = 1 ∧ t.dev.prc.askBlocked = true ∧ t.dev.prc.askAfter = e.tick + ticksPerSec
          ∧ Records e t.dev 0x0A0C [1]))
  ∧ (∀ s : State, s.dev.mode ≠ 5 → exec .transferRequest s = .next s ∧ exec .transferTimeout s = .next s ∧ exec .catchupTimeout s = .next s)
  ∧ (∀ s : State, journaling s.cfg s.dev = true → ∃ t, exec .transferStart s = .next t ∧ UnitsOnly s t
      ∧ t.dev = { s.dev with occ := t.dev.occ, prc := t.dev.prc } ∧ t.dev.prc.sending = some (ownImage s.cfg s.store s.dev)
      ∧ Records s.dev t.dev 0x0A09 [(s.dev.esc.beat : Int)])
  ∧ (∀ s : State, journaling s.cfg s.dev = false → exec .transferStart s = .next s)
  ∧ (∀ (s : State) (x : StateImage) (t0 : Nat), s.dev.prc.transferTick = some t0 → s.dev.mode = 5 → s.dev.f PRC.STAT 8 3 = 1 →
      s.cfg.due = [] → s.cfg.group = none →
      ∃ t, exec (.transferDone x) s = .next t ∧ t.bus = s.bus ∧ t.pending = s.pending ∧ t.store = s.store.takeState x.memory
        ∧ t.cfg = s.cfg.takeImage x ∧ t.dev.f PRC.STAT 8 3 = 2 ∧ t.dev.f PRC.TRANSFER 0 8 = 100 ∧ t.dev.prc.image = some x
        ∧ t.dev.prc.digests = [(x.beat - 1, x.digest)] ∧ t.dev.prc.transferTick = none ∧ t.dev.fus = x.fus)
  ∧ (∀ (s : State) (x : StateImage), s.dev.prc.transferTick = none → exec (.transferDone x) s = .next s)
  ∧ (∀ (s : State) (x : StateImage), s.dev.prc.image = some x → s.dev.mode = 5 → s.dev.f PRC.STAT 8 3 = 2 →
      ∃ t, exec .stateAdopt s = .next t ∧ UnitsOnly s t ∧ RegsKept [ESC.BEAT_SLIP, PRC.EPOCH] s.dev t.dev
        ∧ t.dev.w PRC.EPOCH = x.epoch ∧ t.dev.prc.epoch = x.epoch ∧ t.dev.w ESC.BEAT_SLIP = x.slip ∧ t.dev.prc.image = none
        ∧ t.dev.tick % 200000000 = 0 ∧ s.dev.tick ≤ t.dev.tick ∧ x.tick ≤ t.dev.tick
        ∧ t.dev.esc.beat = (x.beat + (t.dev.tick - x.tick) / 200000) % 2 ^ 48)
  ∧ (∀ s : State, s.dev.prc.image = none → exec .stateAdopt s = .next s)
  ∧ (∀ (s : State) (t0 : Nat), s.dev.mode = 5 → s.dev.b SYS.MODE 12 = false → s.dev.prc.transferTick = some t0 → s.dev.f PRC.STAT 8 3 = 1 →
      ∃ t, exec .transferTimeout s = .next t ∧ UnitsOnly s t ∧ RegsKept [PRC.STAT, PRC.TRANSFER] s.dev t.dev
        ∧ t.dev.f PRC.TRANSFER 8 8 = 2 ∧ t.dev.f PRC.STAT 8 3 = 0 ∧ t.dev.prc.buffer = []
        ∧ Records (s.dev.advanceTo (t0 + 100 * ticksPerMs)) t.dev 0x0A0C [2])
  ∧ (∀ s : State, s.dev.mode = 5 → s.dev.b SYS.MODE 12 = false → s.dev.f PRC.STAT 8 3 = 2 → 1000 ≤ s.dev.prc.catchBeats →
      ∃ t, exec .catchupTimeout s = .next t ∧ UnitsOnly s t ∧ RegsKept [PRC.STAT, PRC.TRANSFER] s.dev t.dev
        ∧ t.dev.f PRC.TRANSFER 8 8 = 4 ∧ t.dev.f PRC.STAT 8 3 = 0 ∧ t.dev.prc.buffer = [] ∧ Records s.dev t.dev 0x0A0C [4])
  ∧ (∀ s : State, s.dev.prc.catchBeats < 1000 → exec .catchupTimeout s = .next s)
  ∧ (∀ (s : State) (b : JournalBlock), s.cfg.pair = true → s.dev.crown = false → s.dev.mode = 5 → s.dev.f PRC.STAT 8 3 = 1 →
      s.dev.prc.buffer.length < 256 →
      ∃ t, exec (.journalBlockReceived b) s = .next t ∧ UnitsOnly s t ∧ RegsKept [PRC.EPOCH_MAX] s.dev t.dev
        ∧ t.dev.prc.buffer = s.dev.prc.buffer ++ [b])
  ∧ (∀ (s : State) (b : JournalBlock), s.cfg.pair = true → s.dev.crown = false → s.dev.mode = 4 →
      0 ≤ seqDiff 32 b.epoch.toNat s.dev.prc.epoch.toNat →
      (b.crcOk = false → ∃ t, exec (.journalBlockReceived b) s = .next t ∧ UnitsOnly s t ∧ RegsKept [PRC.EPOCH_MAX] s.dev t.dev
        ∧ t.dev.prc.journalBeat = s.dev.prc.journalBeat)
      ∧ (blockGood b = true → s.dev.prc.journalBeat < b.beat → exec (.journalBlockReceived b) s =
          .next (({ s with dev := s.dev.meetEpoch s.cfg b.epoch } : State).runBlock b)))
  ∧ (∀ s : State, s.cfg.pair = true → s.dev.crown = false → s.dev.prc.journalBeat < s.dev.esc.beat - 1 → s.dev.mode = 4 →
      s.dev.prc.captures = [] →
      let e := s.dev.advanceTo (s.dev.esc.boundary + 200 * ticksPerUs)
      ∃ t, exec .orphanBeat s = .next t ∧ UnitsOnly s t ∧ RegsKept [PRC.ORPHAN_CNT] s.dev t.dev
        ∧ (t.dev.w PRC.ORPHAN_CNT).toNat = min 0xFFFFFFFF ((s.dev.w PRC.ORPHAN_CNT).toNat + 1)
        ∧ t.dev.prc.orphaned = true ∧ t.dev.prc.journalBeat = s.dev.esc.beat - 1 ∧ t.dev.tick = e.tick
        ∧ Records e t.dev 0x0A13 [((s.dev.esc.beat - 1 : Nat) : Int)])
  ∧ (∀ s : State, s.dev.crown = true → exec .orphanBeat s = .next s)
  ∧ ∀ (s : State) (n : BitVec 48), s.cfg.pair = true → s.dev.crown = false → s.dev.prc.digests.any (fun e => e.1 = n.toNat) = false →
      s.dev.mode = 4 → s.dev.modes.wanted = [] →
      ∃ t, exec (.digestTimeout n) s = .next t ∧ UnitsOnly s t ∧ RegsKept [PRC.MISMATCH_CNT, PRC.STAT] s.dev t.dev
        ∧ (t.dev.w PRC.MISMATCH_CNT).toNat = min 0xFFFFFFFF ((s.dev.w PRC.MISMATCH_CNT).toNat + 1) ∧ t.dev.f PRC.STAT 8 3 = 5
        ∧ t.dev.modes.wanted = [⟨7, 5⟩] ∧ Records s.dev t.dev 0x0A08 [(n.toNat : Int)]

/-- R334 to R347. -/
def Obligations.CrownAndTakeover : Prop :=
  (∀ s : State, (s.dev.crown = false → exec .seizeAccepted s = .next { s with
          dev := (({ s.dev with prc := { s.dev.prc with seizeIn := true } } : Dev).sat PRC.SEIZE_CNT 16 16 1).event 0x0A05 })
      ∧ (s.dev.crown = true → ∃ t, exec .seizeAccepted s = .next t ∧ UnitsOnly s t ∧ t.dev.crown = false ∧ t.dev.b PRC.STAT 4 = false
        ∧ t.dev.b FIO.WDG_STAT 0 = false))
  ∧ (∀ (s : State) (w : Nat), (w < 10 → exec (.seizeInPulseEnd w) s = .next s)
      ∧ (10 ≤ w → w ≤ 100 → exec (.seizeInPulseEnd w) s = .next { s with dev := { s.dev with prc := { s.dev.prc with testSeen := true } } })
      ∧ (100 < w → w < 150 → exec (.seizeInPulseEnd w) s = .next { s with dev := s.dev.event 0x0A12 [(w : Int)] })
      ∧ (150 ≤ w → exec (.seizeInPulseEnd w) s = .next { s with dev := { s.dev with prc := { s.dev.prc with seizeIn := false } } }))
  ∧ (∀ s : State, s.dev.prc.swapTake = false → exec (.crownInChange false) s = .next { s with
      dev := { s.dev.putB PRC.STAT 5 false with prc := { s.dev.prc with crownLowBeats := 0, crownInTick := s.dev.tick } } })
  ∧ (∀ s : State, s.dev.crown = true → s.cfg.pair = true → s.cfg.b PRC.CFG 1 = true → s.dev.tick ≤ s.dev.prc.latchTick + 8000 →
      ∃ t, exec (.crownInChange true) s = .next t ∧ UnitsOnly s t ∧ t.dev.crown = false ∧ t.dev.b PRC.STAT 5 = true
        ∧ (⟨0x0A14, s.dev.tick, s.dev.eventBeat, []⟩ : Occurrence) ∈ t.dev.occ)
  ∧ (∀ s : State, s.dev.crown = true → s.cfg.b PRC.CFG 1 = false → exec (.crownInChange true) s = .next { s with
      dev := { s.dev.putB PRC.STAT 5 true with prc := { s.dev.prc with crownLowBeats := 0, crownInTick := s.dev.tick } } })
  ∧ (∀ s : State, s.cfg.pair = true → s.cfg.b PRC.CFG 2 = true → s.dev.prc.seizeOut = 0 → s.dev.prc.testSent = false →
      let e := s.dev.advanceTo (s.dev.prc.testTick + 60 * ticksPerSec)
      exec .seizeTestPulse s = .next { s with
        dev := { e with prc := { e.prc with testTick := e.tick, unreported := 0, testSent := true, seizeOut := 2 } } })
  ∧ (∀ s : State, s.cfg.pair = false ∨ s.cfg.b PRC.CFG 2 = false → exec .seizeTestPulse s = .next s)
  ∧ (∀ s : State, s.cfg.pair = true → s.dev.b PRC.STAT 14 = false → 10 ≤ s.dev.prc.wireBeats →
      exec .crownWire s = .next { s with dev := (((s.dev.putB PRC.STAT 14 true).putB PRC.STAT 15 true).event 0x0A11).event 0x0A12 })
  ∧ (∀ s : State, s.dev.prc.wireBeats < 10 → exec .crownWire s = .next s)
  ∧ (∀ s : State, s.dev.mode = 4 → s.dev.crown = false → s.dev.b PRC.STAT 6 = true → s.dev.b PRC.STAT 5 = false → s.dev.prc.seizeIn = false →
      s.dev.prc.crownInTick + 20 * ticksPerUs ≤ s.dev.prc.seizeTick + ticksPerMs →
      ∃ t, exec .takeover s = .next t ∧ UnitsOnly s t ∧ t.dev.crown = true ∧ t.dev.b PRC.STAT 4 = true ∧ t.dev.b PRC.STAT 6 = false
        ∧ t.dev.f PRC.STAT 8 3 = 0 ∧ t.dev.prc.epoch = nextEpoch s.dev ∧ t.dev.w PRC.EPOCH = nextEpoch s.dev
        ∧ t.dev.w PRC.TAKEOVER_BEAT = wd (s.dev.esc.beat % 2 ^ 32) ∧ t.dev.prc.fail = false
        ∧ t.dev.tick = max s.dev.tick (max s.dev.prc.seizeTick s.dev.prc.crownInTick + 20 * ticksPerUs))
  ∧ (∀ d : Dev, nextEpoch d ≠ 0 ∧ (∀ (own high : Nat), d.prc.epoch = wd own → d.w PRC.EPOCH_MAX = wd high → own < 2 ^ 31 → high < 2 ^ 31 →
      (nextEpoch d).toNat = max own high + 1))
  ∧ (∀ s : State, s.dev.b PRC.STAT 5 = true ∨ s.dev.b PRC.STAT 6 = false → exec .takeover s = .next s)
  ∧ (∀ s : State, s.dev.b PRC.STAT 6 = true → (s.dev.b PRC.STAT 5 = true ∨ s.dev.prc.seizeTick + ticksPerMs < s.dev.prc.crownInTick) →
      exec .seizeFailed s = .next { s with
        dev := ((s.dev.advanceTo (s.dev.prc.seizeTick + ticksPerMs)).putB PRC.STAT 6 false).event 0x0A06 })
  ∧ (∀ s : State, s.dev.b PRC.STAT 6 = false → exec .seizeFailed s = .next s)
  ∧ (∀ s : State, triggerStands s.dev = true → s.dev.prc.seizeBeat + 10 ≤ s.dev.esc.beat →
      (s.dev.mode = 4 → s.dev.crown = false → s.dev.b PRC.STAT 6 = false → exec .seizeRetry s = .next { s with
        dev := ({ s.dev with prc := { s.dev.prc with
            seizeOut := 1, trigger := true, seizeBeat := s.dev.esc.beat, seizeTick := s.dev.tick } } : Dev).putB PRC.STAT 6 true
          |>.sat PRC.SEIZE_CNT 0 16 1 |>.event 0x0A04 })
      ∧ (s.dev.crown = true → exec .seizeRetry s = .next s))
  ∧ (∀ s : State, triggerStands s.dev = true → s.dev.esc.beat < s.dev.prc.seizeBeat + 10 → exec .seizeRetry s = .next s)
  ∧ (∀ s : State, triggerStands s.dev = false →
      exec .seizeRetry s = .next { s with dev := { s.dev with prc := { s.dev.prc with trigger := false } } })
  ∧ (∀ s : State, s.dev.prc.seizeOut ≠ 0 →
      let e := s.dev.advanceTo (if s.dev.prc.seizeOut = 1 then s.dev.prc.seizeTick + 250 * ticksPerUs else s.dev.prc.testTick + 20 * ticksPerUs)
      exec .seizeOutPulseEnd s = .next { s with dev := { e with prc := { e.prc with seizeOut := 0 } } })
  ∧ (∀ s : State, s.dev.prc.seizeOut = 0 → exec .seizeOutPulseEnd s = .next s)
  ∧ (∀ (s : State) (value : Word), fld value 16 16 ≠ 0x9A1F →
      let d := (s.dev.wrap PRC.CMD_RES 16 16 1).putF PRC.CMD_RES 0 4 2
      exec (.prcFail value) s = .next { s with bus := .done 0, dev := d } ∧ exec (.swap value) s = .next { s with bus := .done 0, dev := d })
  ∧ (∀ s : State, s.dev.crown = false → let d := (s.dev.wrap PRC.CMD_RES 16 16 1).putF PRC.CMD_RES 0 4 3
      exec (.prcFail 0x9A1F0002#32) s = .next { s with bus := .done 0, dev := d }
      ∧ exec (.swap 0x9A1F0001#32) s = .next { s with bus := .done 0, dev := d })
  ∧ (∀ s : State, s.dev.crown = true →
      (∃ t, exec (.prcFail 0x9A1F0002#32) s = .next t ∧ UnitsWritten s t ∧ t.dev.crown = false ∧ t.dev.prc.fail = true
        ∧ t.dev.f PRC.CMD_RES 0 4 = 0 ∧ t.dev.f PRC.CMD_RES 16 16 = (s.dev.f PRC.CMD_RES 16 16 + 1) % 65536)
      ∧ (s.dev.prc.swap = none → ∃ t, exec (.swap 0x9A1F0001#32) s = .next t ∧ UnitsWritten s t ∧ RegsKept [PRC.CMD_RES] s.dev t.dev
        ∧ t.dev.f PRC.CMD_RES 0 4 = 1 ∧ t.dev.prc.swap = some ⟨s.dev.esc.beat + 3, 0⟩ ∧ t.dev.crown = true)
      ∧ (s.dev.prc.swap ≠ none → exec (.swap 0x9A1F0001#32) s = .next { s with
          bus := .done 0
          dev := (s.dev.wrap PRC.CMD_RES 16 16 1).putF PRC.CMD_RES 0 4 5 }))
  ∧ (∀ (s : State) (x : SwapDev), s.dev.prc.swap = some x → x.atBeat ≤ s.dev.esc.beat → s.dev.crown = true →
      (partnerStandby s.dev = false ∨ s.dev.mode < 6 ∨ 10 < s.dev.mode) →
      exec .swapHandover s = .next ({ s with
        dev := { (({ s.dev with prc := { s.dev.prc with swap := none } } : Dev).putF PRC.CMD_RES 0 4 4).event 0x0A10 with
          modes := { s.dev.modes with openSwap := false } } } : State).closeModes)
  ∧ ∀ (s : State) (x : SwapDev), s.dev.prc.swap = some x → x.atBeat ≤ s.dev.esc.beat → s.dev.crown = true → partnerStandby s.dev = true →
      6 ≤ s.dev.mode → s.dev.mode ≤ 10 → max 1 (s.cfg.f PRC.CFG 16 10) ≤ s.dev.f PRC.DIGEST 0 16 →
      ∃ t, exec .swapHandover s = .next t ∧ UnitsOnly s t ∧ t.dev.crown = false ∧ t.dev.mode = 5 ∧ t.dev.prc.swap = none
        ∧ t.dev.prc.swapMatch = some s.dev.esc.beat

/-- R432, R438. -/
def Obligations.FieldWatchdog : Prop :=
  (∀ (s : State) (value : Word), fld value 16 16 = s.dev.f FIO.WDG_STAT 16 16 →
      ∃ t, exec (.wdgFeed value) s = .next t ∧ UnitsWritten s t ∧ RegsKept [FIO.WDG_STAT] s.dev t.dev
        ∧ t.dev.field.fedTick = s.dev.tick ∧ t.dev.f FIO.WDG_STAT 8 8 = 0
        ∧ t.dev.f FIO.WDG_STAT 16 16 = (if s.dev.f FIO.WDG_STAT 16 16 = 0x3A5C then 0xC5A3 else 0x3A5C)
        ∧ t.dev.f FIO.WDG_STAT 0 8 = s.dev.f FIO.WDG_STAT 0 8)
  ∧ (∀ (s : State) (value : Word), fld value 16 16 ≠ s.dev.f FIO.WDG_STAT 16 16 →
      exec (.wdgFeed value) s = .next { s with bus := .done 0, dev := s.dev.bump FIO.WDG_BAD_CNT })
  ∧ (∀ s : State, s.dev.b FIO.WDG_STAT 0 = false → exec .wdgExpired s = .next s)
  ∧ (∀ s : State, s.dev.field.badSlots < 3 ∨ s.dev.b FIO.WDG_STAT 2 = true → exec .fieldLinkLost s = .next s)
  ∧ (∀ s : State, s.dev.b FIO.WDG_STAT 0 = true → ∃ t, exec .wdgExpired s = .next t ∧ UnitsOnly s t ∧ t.dev.crown = false
      ∧ t.dev.tick = max s.dev.tick (s.dev.field.fedTick + s.cfg.f FIO.WDG_CFG 8 8 * ticksPerMs)
      ∧ t.dev.prc.fail = true ∧ t.dev.field.silent = true ∧ t.dev.b FIO.WDG_STAT 0 = false ∧ t.dev.b FIO.WDG_STAT 1 = true)
  ∧ ∀ s : State, 3 ≤ s.dev.field.badSlots → s.dev.b FIO.WDG_STAT 2 = false →
      ∃ t, exec .fieldLinkLost s = .next t ∧ UnitsOnly s t ∧ t.dev.crown = false
        ∧ t.dev.prc.fail = true ∧ t.dev.b FIO.WDG_STAT 0 = false ∧ t.dev.b FIO.WDG_STAT 1 = true ∧ t.dev.b FIO.WDG_STAT 2 = true

/-- R267 to R269, R275, R290, R293, R296, R311, R313. -/
def Obligations.LawAndLoopCommands : Prop :=
  (∀ (s : State) (v : Word), s.dev.mode ≠ 4 → journaling s.cfg s.dev = false → fld v 16 16 = 0x4A7C → fld v 0 6 < 40 →
      actType s.cfg (fld v 0 6) ≠ 0 → fld v 8 2 = 1 → actState s.dev (fld v 0 6) = 1 →
      ∃ t, exec (.actWithdraw v) s = .next t ∧ UnitsWritten s t
        ∧ RegsKept [LAW.ACT_CMD_RES, LAW.ACT_STAT (fld v 0 6), LAW.ACT_AVAIL 0, LAW.ACT_AVAIL 1] s.dev t.dev
        ∧ t.dev.w LAW.ACT_CMD_RES = wd (fld v 0 6 * 256) ∧ t.dev.w (LAW.ACT_STAT (fld v 0 6)) = wd (4 + 3 * 256)
        ∧ Records s.dev t.dev 0x1307 [(fld v 0 6 : Int), 3])
  ∧ (∀ (s : State) (v : Word) (fb : Nat), s.dev.mode ≠ 4 → journaling s.cfg s.dev = false → fld v 16 16 = 0x4A7C → fld v 0 6 < 40 →
      actType s.cfg (fld v 0 6) ≠ 0 → fld v 8 2 = 2 → actState s.dev (fld v 0 6) ≠ 1 →
      feedbackTrack s.cfg (fld v 0 6) = some fb → trackValid s.dev fb = true →
      s.dev.b (LAW.BUS_PWR (s.cfg.f (LAW.ACT_CFG (fld v 0 6)) 3 3)) 16 = true →
      ∃ t, exec (.actReadmit v) s = .next t ∧ UnitsWritten s t
        ∧ RegsKept [LAW.ACT_CMD_RES, LAW.ACT_STAT (fld v 0 6), LAW.ACT_AVAIL 0, LAW.ACT_AVAIL 1] s.dev t.dev
        ∧ t.dev.w LAW.ACT_CMD_RES = wd (fld v 0 6 * 256) ∧ t.dev.w (LAW.ACT_STAT (fld v 0 6)) = 1
        ∧ Records s.dev t.dev 0x1308 [(fld v 0 6 : Int), (s.dev.f (LAW.ACT_STAT (fld v 0 6)) 8 3 : Int)])
  ∧ (∀ (s : State) (v : Word), s.dev.mode ≠ 4 → fld v 16 16 ≠ 0x4A7C →
      exec (.actWithdraw v) s = .next { s with bus := .done 0, dev := s.dev.putN LAW.ACT_CMD_RES (1 + fld v 0 6 * 256) }
      ∧ exec (.actReadmit v) s = .next { s with bus := .done 0, dev := s.dev.putN LAW.ACT_CMD_RES (1 + fld v 0 6 * 256) })
  ∧ (∀ (s : State) (v : Word) (g : Fin 8) (k : Fin 64), s.dev.mode = 4 →
      let ignored (page : Nat) : Host.Outcome State Fault Refusal := .next { s.ignoreWrite page with bus := .done 0 }
      exec (.actWithdraw v) s = ignored 0x40038000 ∧ exec (.actReadmit v) s = ignored 0x40038000
      ∧ exec (.busPwrWrite g v) s = ignored 0x40038000 ∧ exec (.slRestart v) s = ignored 0x40041000
      ∧ exec (.spWrite k v) s = ignored 0x40040000)
  ∧ (∀ (s : State) (g : Fin 8) (v : Word), s.dev.mode ≠ 4 → journaling s.cfg s.dev = false → bit v 16 = true →
      ∃ t, exec (.busPwrWrite g v) s = .next t ∧ UnitsWritten s t ∧ RegsKept [LAW.BUS_PWR g.val] s.dev t.dev
        ∧ t.dev.w (LAW.BUS_PWR g.val) = wd (v.toNat % 2 ^ 17)
        ∧ t.dev.occ = s.dev.occ ++ (if s.dev.b (LAW.BUS_PWR g.val) 16 then [] else [⟨0x1309, s.dev.tick, s.dev.eventBeat, [(g.val : Int), 1]⟩]))
  ∧ (∀ (s : State) (g : Fin 8), (s.cfg.f LAW.CFG2 24 8 = 0 → exec (.busPwrStale g) s = .next s)
      ∧ (s.cfg.f LAW.CFG2 24 8 ≠ 0 → s.dev.b (LAW.BUS_PWR g.val) 17 = false →
        ∃ t, exec (.busPwrStale g) s = .next t ∧ UnitsOnly s t ∧ RegsKept [LAW.BUS_PWR g.val] s.dev t.dev
          ∧ t.dev.w (LAW.BUS_PWR g.val) = setBit (s.dev.w (LAW.BUS_PWR g.val)) 17 true ∧ s.dev.tick ≤ t.dev.tick))
  ∧ (∀ s : State, (s.cfg.f LAW.JOY_CFG 16 8 = 0 ∨ s.dev.law.joyStale = true → exec .joyStale s = .next s)
      ∧ (s.cfg.f LAW.JOY_CFG 16 8 ≠ 0 → s.dev.law.joyStale = false →
        ∃ t, exec .joyStale s = .next t ∧ UnitsOnly s t ∧ RegsKept [] s.dev t.dev ∧ t.dev.law.joy = (0, 0, 0) ∧ t.dev.law.joyStale = true
          ∧ s.dev.tick ≤ t.dev.tick ∧ t.dev.occ = s.dev.occ ++ [⟨0x130B, t.dev.tick, s.dev.eventBeat, []⟩]))
  ∧ (∀ s : State, s.dev.law.cqTodo ≠ [] ∨ s.dev.law.cqActive = false → exec .cqRunComplete s = .next s)
  ∧ (∀ s : State, s.dev.law.cqTodo = [] → s.dev.slv.jobs.any (fun j => j.stream = 2) = false → s.dev.law.cqActive = true →
      ∃ t, exec .cqRunComplete s = .next t ∧ t.cfg = s.cfg ∧ t.bus = s.bus ∧ t.pending = s.pending ∧ t.dev.law.cqActive = false
        ∧ ∃ branches : List Nat, branches.length = 4 ∧ t.dev.law.nextBranch = some (s.dev.esc.beat, branches))
  ∧ (∀ s : State, (lawRuns s.dev = false ∨ s.dev.esc.beat % 10000 ≠ 0 → exec .envelopeStart s = .next s)
      ∧ (lawRuns s.dev = true → s.dev.esc.beat % 10000 = 0 → exec .envelopeStart s = .next { s with dev := { s.dev with
          law := { s.dev.law with envelope := some (0, s.dev.f LAW.CQ_STAT 0 6), envelopeVals := List.replicate 72 F64.nan } } }))
  ∧ (∀ (s : State) (n : Fin 7) (j : Job), 3 ≤ n.val → s.dev.slv.jobs = [j] → j.stream = n.val → j.phase = .held →
      s.dev.law.cqTodo = [] →
      ∃ t, exec (.holdLimitExpiry n) s = .next t ∧ t.cfg = s.cfg ∧ t.bus = s.bus ∧ t.pending = s.pending ∧ t.dev.slv.jobs = []
        ∧ t.dev.w (SLV.STRM_PUB n.val) = wd j.seq ∧ t.dev.tick = max s.dev.tick (j.heldSince + 10 * 200000)
        ∧ t.dev.b (hdrIRQ_RAW 0x40032000) n.val = true)
  ∧ (∀ (s : State) (n : Fin 7), s.dev.slv.jobs = [] → exec (.holdLimitExpiry n) s = .next s)
  ∧ (∀ (s : State) (v : Word), s.dev.mode ≠ 4 → (fld v 16 16 ≠ 0x1C4E ∨ bit v 0 = false ∨ loopState s.dev (s.dev.f LPE.SLOTSEL 0 6) ≠ 5) →
      exec (.slRestart v) s = .next { s with bus := .done 0 })
  ∧ (∀ (s : State) (v : Word), s.dev.mode ≠ 4 → journaling s.cfg s.dev = false → fld v 16 16 = 0x1C4E → bit v 0 = true →
      loopState s.dev (s.dev.f LPE.SLOTSEL 0 6) = 5 →
      ∃ t, exec (.slRestart v) s = .next t ∧ UnitsWritten s t
        ∧ loopState t.dev (s.dev.f LPE.SLOTSEL 0 6) = (if loopsRun s.cfg s.dev && slEn s.cfg (s.dev.f LPE.SLOTSEL 0 6) then 2 else 1))
  ∧ (∀ (s : State) (k : Fin 64) (v : Word), s.dev.mode ≠ 4 → journaling s.cfg s.dev = false →
      (actuatorSlot s.cfg k.val = false → exec (.spWrite k v) s = .next { s with bus := .done 0, dev := s.dev.put (LPE.SP k.val) v })
      ∧ (actuatorSlot s.cfg k.val = true → exec (.spWrite k v) s = .next { s with bus := .done 0 }))
  ∧ (∀ (s : State) (g : Fin 4) (j : Fin 8) (fb : Option (List (Fin 64 × Int))),
      (loopsRun s.cfg s.dev = false ∨ groupOn s.cfg g.val = false ∨ 2 ^ s.cfg.f (LPE.GRP_CFG g.val) 0 2 ≤ j.val) →
      exec (.loopSample g j fb) s = .next s)
  ∧ ∀ (s : State) (g : Fin 4) (fb : Option (List (Fin 64 × Int))), loopsRun s.cfg s.dev = true → groupOn s.cfg g.val = true →
      s.cfg.b (LPE.GRP_CFG g.val) 2 = false → s.dev.b TBU.STATE 9 = false → (∀ k, s.dev.w (LPE.SL_STAT k) = 0) →
      ∃ t, exec (.loopSample g 0 fb) s = .next t ∧ UnitsOnly s t
        ∧ t.dev.w (LPE.GRP_SEQ g.val) = wd (s.dev.esc.beat * 2 ^ s.cfg.f (LPE.GRP_CFG g.val) 0 2 % 2 ^ 32)
        ∧ s.dev.tick ≤ t.dev.tick ∧ t.dev.occ = s.dev.occ

/-- R224 to R260. -/
def Obligations.SolverCommands : Prop :=
  (∀ (s : State) (n : Fin 8) (v : Word), s.cfg.closed (keyPage (SLV.SLOT_ADDR_LO n.val)) = false →
      ∃ t, exec (.slotStage n v) s = .next t ∧ t.bus = .done 0 ∧ t.store = s.store ∧ t.pending = s.pending ∧ t.cfg.live = s.cfg.live
        ∧ RegsKept [SLV.SLOT_INFO n.val] s.dev t.dev ∧ t.dev.f (SLV.SLOT_INFO n.val) 0 4 = 1 ∧ (t.dev.slot n.val).staged = none)
  ∧ (∀ (s : State) (n : Fin 8) (v : Word), let key := SLV.SLOT_ADDR_LO n.val
      s.cfg.closed (keyPage key) = true → exec (.slotStage n v) s = .next { s.writeShadow key (keyMask key) v with bus := .done 0 })
  ∧ (∀ (s : State) (n : Fin 8), (s.dev.f (SLV.SLOT_INFO n.val) 0 4 ≠ 1 → exec (.stagingDone n) s = .next s)
      ∧ (s.dev.f (SLV.SLOT_INFO n.val) 0 4 = 1 → s.store.poison = [] →
        leAt (s.store.bytes ((s.cfg.sh (SLV.SLOT_ADDR_LO n.val)).toNat + (s.cfg.sh (SLV.SLOT_ADDR_HI n.val)).toNat * 2 ^ 32) 128) 0 4 ≠ 0x4E465954 →
        ∃ t, exec (.stagingDone n) s = .next t ∧ UnitsOnly s t ∧ RegsKept [SLV.SLOT_INFO n.val] s.dev t.dev
          ∧ t.dev.f (SLV.SLOT_INFO n.val) 0 4 = 3 ∧ (t.dev.slot n.val).staged = none))
  ∧ (∀ (s : State) (v : Word), s.store.errs = [] → s.store.poison = [] →
      let a := v.toNat / 64 * 64
      let b := s.store.bytes a 128
      let code := submitCode s.cfg s.store s.dev a b
      (code ≠ 0 → ∃ t, exec (.submit v) s = .next t ∧ t.bus = .done 0 ∧ t.cfg = s.cfg ∧ t.dev.slv = s.dev.slv
        ∧ t.dev.w SLV.SUBMIT_RES = wd (code + leAt b 1 1 % 16 * 16)
        ∧ (t.dev.w SLV.REFUSE_CNT).toNat = min 0xFFFFFFFF ((s.dev.w SLV.REFUSE_CNT).toNat + 1)
        ∧ (∀ x, x ≠ a + 8 → t.store.byte x = s.store.byte x))
      ∧ (code = 0 → ∃ t, exec (.submit v) s = .next t ∧ t.bus = .done 0 ∧ t.cfg = s.cfg
        ∧ t.dev.slv.jobs.length = s.dev.slv.jobs.length + 1
        ∧ t.dev.w SLV.SUBMIT_RES = wd (leAt b 1 1 % 16 * 16)
        ∧ (∀ x, (x < a + 4 ∨ a + 9 ≤ x) → t.store.byte x = s.store.byte x)))
  ∧ (∀ (s : State) (j : Job), s.dev.slv.jobs = [j] → j.phase = .reserved →
      ∃ t, exec .jobSetupStart s = .next t ∧ UnitsOnly s t ∧ t.dev.slv.jobs = [{ j with phase := .setup, setupTick := s.dev.tick }])
  ∧ (∀ (s : State) (j : Job), s.dev.slv.jobs = [j] → j.phase = .suspended → j.level < 4 → j.deadlineHit = false → j.dlTick = none →
      s.dev.mode ≠ 4 → s.dev.mode ≠ 5 →
      ∃ t, exec .jobResume s = .next t ∧ UnitsOnly s t ∧ t.dev.slv.jobs = [{ j with phase := .iterating }])
  ∧ (∀ (s : State) (n : Fin 7) (q : Word) (j : Job), s.dev.slv.jobs = [j] → j.stream = n.val → j.seq = q.toNat → j.phase = .iterating →
      (j.yield = false → exec (.jobSuspend n q) s = .next s)
      ∧ (j.yield = true → ∃ t, exec (.jobSuspend n q) s = .next t ∧ UnitsOnly s t
        ∧ t.dev.slv.jobs = [{ j with phase := .suspended, yield := false, suspensions := min 255 (j.suspensions + 1) }]))
  ∧ (∀ (s : State) (n : Fin 7) (q : Word), s.dev.findJob n.val q.toNat = none →
      exec (.jobSuspend n q) s = .next s ∧ exec (.jobDeadline n q) s = .next s ∧ exec (.standbyJobTimeout n q) s = .next s
      ∧ (∀ o, exec (.setupComplete n q o) s = .next s) ∧ (∀ o, exec (.iterationBoundary n q o) s = .next s)
      ∧ (∀ p, exec (.jobPoison n q p) s = .next s) ∧ ∀ o, exec (.writeBackComplete n q o) s = .next s)
  ∧ (∀ (s : State) (n : Fin 7) (q : Word) (cycles : Nat) (j : Job) (x : Schedule), s.dev.findJob n.val q.toNat = some j → j.phase = .setup →
      (s.dev.slot j.slot).live = some x → j.warm = false → j.dataPoison = false →
      s.store.readsPoison j.paramAddr (8 * x.nParam) = false →
      let params := if 3 ≤ j.stream then s.store.numbers j.paramAddr x.nParam else j.params
      let p := Config.program x.image params
      let start := startPoint p (coldStart p x.kind x.regP x.regD)
      let j' : Job := { j with
        warmUsed := false, warmRejected := false, cycles := satU 32 (j.cycles + cycles), params := params, cur := start
        x0 := some (pointOf p start, start) }
      (j.maxIter = 0 → exec (.setupComplete n q cycles) s = .next { s with dev := s.dev.finishJob j' 4 })
      ∧ (j.maxIter ≠ 0 → exec (.setupComplete n q cycles) s = .next { s with dev := s.dev.goOn j' }))
  ∧ (∀ (s : State) (n : Fin 7) (q : Word) (cycles : Nat) (j : Job), s.dev.findJob n.val q.toNat = some j → j.phase = .iterating →
      (pastDeadline s.dev j = true → exec (.iterationBoundary n q cycles) s = .next { s with dev := s.dev.finishJob j 3 })
      ∧ (∀ x : Schedule, pastDeadline s.dev j = false → (s.dev.slot j.slot).live = some x → cycles ≤ x.cycIter →
        let p := Config.program x.image j.params
        let r := iterateOnce p x.kind x.regP x.regD j.cur
        let j' : Job := { j with
          flags := j.flags ||| (Config.raisedFlags x.image j.params j.cur.flat).toNat, cycles := satU 32 (j.cycles + cycles) }
        let d := s.dev.putN (SLV.SLOT_CYC_LAST j.slot) cycles
        exec (.iterationBoundary n q cycles) s = .next { s with
          dev := if r.2 then d.judgeIterate j' (pointOf p r.1) r.1
            else (d.event 0x120B [(j.k : Int) + 1, 5]).finishJob j' 5 }))
  ∧ (∀ (d : Dev) (j : Job) (p : PointVals) (i : Iterate),
      (nonFinite p ≠ 0 → d.judgeIterate j p i =
        (d.event 0x120B [((j.k + 1 : Nat) : Int), (nonFinite p : Int)]).finishJob { j with k := j.k + 1, cur := i } 5)
      ∧ (nonFinite p = 0 → journaledEnd d j = none →
        ∃ j' : Job, j'.stream = j.stream ∧ j'.seq = j.seq ∧ j'.k = j.k + 1 ∧ j'.cur = i ∧ j'.best.isSome = true
          ∧ (∀ b : Nat × PointVals × BitVec 64 × Iterate, j.best = some b →
              j'.best = if F64.lt (merit j p) b.2.2.1 then some (j.k + 1, p, merit j p, i) else some b)
          ∧ d.judgeIterate j p i =
            if tolMet p.primal j.tolPrimal && tolMet p.dual j.tolDual && tolMet p.gap j.tolGap then d.finishJob j' 1
            else if j.k + 1 = j.maxIter then d.finishJob j' 2
            else d.goOn j'))
  ∧ (∀ (d : Dev) (j : Job) (code : Nat), j.best.isSome = true → code < 16 → j.stream < 7 →
      (d.finishJob j code).f SLV.LAST_END 0 4 = code ∧ (d.finishJob j code).f SLV.LAST_END 4 3 = j.stream
      ∧ (d.finishJob j code).f SLV.LAST_END 8 8 = min 255 j.k ∧ (d.finishJob j code).f SLV.LAST_END 16 16 = j.seq % 65536
      ∧ (d.slv.jobs = [j] → (d.finishJob j code).slv.jobs = [{ j with phase := .writeBack, code := code, yield := false }]))
  ∧ (∀ (s : State) (n : Fin 7) (q : Word) (j : Job), s.dev.findJob n.val q.toNat = some j → s.dev.mode ≠ 4 → s.dev.mode ≠ 5 →
      (j.dlTick = none → j.dlBeat = none → exec (.jobDeadline n q) s = .next s)
      ∧ (∀ t0, j.dlTick = some t0 → j.phase = .iterating →
        exec (.jobDeadline n q) s = .next { s with dev := (s.dev.advanceTo t0).finishJob j 3 })
      ∧ exec (.standbyJobTimeout n q) s = .next s
      ∧ (j.phase = .iterating → exec (.jobPoison n q .scratch) s = .next { s with
          dev := (s.dev.event 0x120C [(j.stream : Int), j.seq, 2]).finishJob j 7 })
      ∧ (j.phase = .setup → j.dataPoison = false → exec (.jobPoison n q .parameters) s = .next { s with
          dev := (s.dev.event 0x120C [(j.stream : Int), j.seq, 0]).putJob { j with dataPoison := true } }))
  ∧ (∀ (s : State) (n : Fin 7) (q : Word) (j : Job) (k code : Nat), s.dev.findJob n.val q.toNat = some j → j.phase = .iterating →
      journaledEnd s.dev j = some (k, code) → journaledBeat s.dev j + 10 ≤ s.dev.esc.beat →
      exec (.standbyJobTimeout n q) s = .next { s with dev := s.dev.finishJob j code })
  ∧ (∀ (s : State) (n : Fin 7) (q : Word) (o : Nat) (j : Job), s.dev.slv.jobs = [j] → j.stream = n.val → j.seq = q.toNat → 3 ≤ n.val →
      j.phase = .writeBack → s.dev.w (SLV.STRM_PUB n.val) = 0 → s.dev.law.cqTodo = [] →
      ∃ t, exec (.writeBackComplete n q o) s = .next t ∧ t.cfg = s.cfg ∧ t.bus = s.bus ∧ t.pending = s.pending ∧ t.dev.slv.jobs = []
        ∧ t.dev.w (SLV.STRM_PUB n.val) = q)
  ∧ (∀ (s : State) (v : Word), (fld v 16 16 ≠ 0x3C7B → exec (.cancel v) s = .next { s with bus := .done 0 })
      ∧ (fld v 16 16 = 0x3C7B → (fld v 0 3 < 3 ∨ 6 < fld v 0 3) →
        exec (.cancel v) s = .next { s with bus := .done 0, dev := s.dev.putN SLV.CANCEL_RES 2 })
      ∧ (fld v 16 16 = 0x3C7B → 3 ≤ fld v 0 3 → fld v 0 3 ≤ 6 →
        (s.dev.findJob (fld v 0 3) (s.dev.w SLV.CANCEL_SEQ).toNat = none →
          exec (.cancel v) s = .next { s with bus := .done 0, dev := s.dev.putN SLV.CANCEL_RES 1 })
        ∧ (∀ j, s.dev.slv.jobs = [j] → j.stream = fld v 0 3 → j.seq = (s.dev.w SLV.CANCEL_SEQ).toNat → s.dev.law.cqTodo = [] →
          ∃ t, exec (.cancel v) s = .next t ∧ UnitsWritten s t ∧ t.dev.slv.jobs = [] ∧ t.dev.w SLV.CANCEL_RES = 0
            ∧ Records s.dev t.dev 0x1202 [(j.stream : Int), j.seq])))
  ∧ (∀ (s : State) (n : Fin 4) (wdg : Bool), (clState s.dev n.val = 3 → exec (.clusterFault n wdg) s = .next s)
      ∧ (clState s.dev n.val ≠ 3 → s.dev.slv.jobs = [] → s.dev.law.cqTodo = [] →
        ∃ t, exec (.clusterFault n wdg) s = .next t ∧ UnitsOnly s t
        ∧ clState t.dev n.val = 3 ∧ Records s.dev t.dev 0x1204 [(n.val : Int), (wdg.toNat : Int)]
        ∧ (t.dev.w (SLV.CL_FAULT_CNT n.val)).toNat = min 0xFFFFFFFF ((s.dev.w (SLV.CL_FAULT_CNT n.val)).toNat + 1))
      ∧ (clState s.dev n.val = 1 → s.dev.slv.jobs = [] →
        exec (.clusterIsolated n) s = .next { s with dev := (s.dev.putF (SLV.CL_STAT n.val) 0 2 2).event 0x1205 [(n.val : Int)] })
      ∧ (clState s.dev n.val ≠ 1 → exec (.clusterIsolated n) s = .next s))
  ∧ ∀ (s : State) (n : Fin 4) (v : Word),
      ((fld v 16 16 ≠ 0x3C7B ∨ bit v 0 = false ∨ inDispatch s.dev < 4) → exec (.clIsolate n v) s = .next { s with bus := .done 0 })
      ∧ (fld v 16 16 = 0x3C7B → bit v 0 = true → inDispatch s.dev = 4 → s.dev.slv.jobs = [] → s.dev.law.cqTodo = [] →
        (∀ k x, (s.dev.slot k).live = some x → x.width ≠ 4) →
        ∃ t, exec (.clIsolate n v) s = .next t ∧ UnitsWritten s t ∧ clState t.dev n.val = 1)

/-- R176, R178, R183, R184, R187, R191, R201, R203, R208. -/
def Obligations.FusionCommands : Prop :=
  (∀ d : Dev, frameDue d = true ↔ d.esc.loaded = true ∧ 3 ≤ d.mode ∧ d.esc.beat % 10 = 0
      ∧ ∀ r l, d.fus.frames = r :: l → r.beat ≠ d.esc.beat)
  ∧ (∀ s : State, frameDue s.dev = false → exec (.fusFrameClose ()) s = .next s)
  ∧ (∀ s : State, frameDue s.dev = true →
      exec (.fusFrameClose ()) s = .next ({ s with
        store := (closeFrame s.cfg s.store s.dev).1, dev := (closeFrame s.cfg s.store s.dev).2 } : State).frameClosed)
  ∧ (∀ t : State, (t.dev.modes.openFrame = false ∨ coastOut t.dev = true → t.frameClosed = t)
      ∧ (t.dev.modes.openFrame = true → coastOut t.dev = false → t.frameClosed =
          ({ t with dev := { t.dev with modes := { t.dev.modes with openFrame := false } } } : State).closeModes))
  ∧ (∀ (c : Cfg) (st : Store) (d : Dev), d.fus.frames = [] → d.fus.ahead = [] → d.flow.delivered = [] → enabledTracks c = [] →
      d.fus.selection = none →
      (closeFrame c st d).2.fus.frames.map (fun r => (r.beat, r.closes, r.items)) = [(d.esc.beat, (d.esc.boundary : Int), [])]
      ∧ (closeFrame c st d).2.fus.seq = (d.fus.seq + 1) % 2 ^ 32 ∧ (closeFrame c st d).2.fus.opens = d.esc.boundary)
  ∧ (∀ s : State, coastOut s.dev = false → exec .coastExpired s = .next s)
  ∧ (∀ s : State, coastOut s.dev = true →
      let d := ((s.dev.putB FUS.SPLIT_STAT 1 true).event 0x1115).want (if inSplit s.dev then 9 else 10) 7
      exec .coastExpired s = .next ({ s with dev := { d with modes := { d.modes with openFrame := false } } } : State).closeModes)
  ∧ (∀ s : State, (s.dev.fus.windHeld ≠ 1 → exec .windHoldExpiry s = .next s)
      ∧ (s.dev.fus.windHeld = 1 → ∃ t, exec .windHoldExpiry s = .next t ∧ UnitsOnly s t ∧ RegsKept [FUS.WIND_STAT] s.dev t.dev
        ∧ t.dev.fus.windHeld = 2 ∧ t.dev.b FUS.WIND_STAT 2 = decide (s.cfg.f FUS.WIND_CFG 16 8 ≠ 0)))
  ∧ (∀ (s : State) (gyro acc : List (BitVec 64)),
      let internal := someValid s.cfg s.dev (fun t => trkClass s.cfg t = 6 && trkInst s.cfg t = 0)
      let ext := s.cfg.f FUS.EGO_CFG 1 6
      let k := s.dev.fus.core
      (internal = true → exec (.inertialPropagation gyro acc) s = .next { s with
        dev := { s.dev with fus := { s.dev.fus with
          nominal := (inertialStep k s.dev.fus.nominal gyro acc).1, accel := (inertialStep k s.dev.fus.nominal gyro acc).2
          ego := 0, egoFast := true } } })
      ∧ (internal = false → (s.cfg.b FUS.EGO_CFG 7 = false ∨ trkClass s.cfg ext ≠ 6 ∨ trackValid s.dev ext = false) → exec (.inertialPropagation gyro acc) s = .next { s with
        dev := { s.dev with fus := { s.dev.fus with
          nominal := vesselStep k s.dev.fus.nominal none, accel := [], ego := 2, egoFast := true } } })
      ∧ (internal = false → s.cfg.b FUS.EGO_CFG 7 = true → trkClass s.cfg ext = 6 → trackValid s.dev ext = true →
        let d := if s.dev.fus.ego = 1 then s.dev else s.dev.event 0x1109
        exec (.inertialPropagation gyro acc) s = .next { s with
          dev := { d with fus := { s.dev.fus with
            nominal := vesselStep k s.dev.fus.nominal ((s.dev.trk ext).last.map (·.2)), accel := []
            ego := 1, egoFast := deliversFast (s.dev.trk ext) } } }))
  ∧ (∀ (s : State) (k : Fin 64), (trkState s.dev k.val < 2 ∨ 4 < trkState s.dev k.val) → exec (.trackTimeout k) s = .next s)
  ∧ (∀ (s : State) (k : Fin 64) (v : Nat), 2 ≤ trkState s.dev k.val → trkState s.dev k.val ≤ 4 → (s.dev.trk k.val).lastValid = some v →
      ∃ t, exec (.trackTimeout k) s = .next t ∧ UnitsOnly s t ∧ trkState t.dev k.val = 1 ∧ trackValid t.dev k.val = false
        ∧ t.dev.tick = max s.dev.tick (v + trkTmo s.cfg k.val * 200000) ∧ (t.dev.trk k.val).lostTick = some t.dev.tick
        ∧ RegsKept [FUS.TRK_STAT k.val, FUS.TRK_VALID (k.val / 32), FUS.TRK_OOS (k.val / 32)] s.dev t.dev
        ∧ t.dev.occ = s.dev.occ ++ [⟨0x1106, t.dev.tick, s.dev.eventBeat, [(k.val : Int)]⟩])
  ∧ (∀ (s : State) (k : Fin 64), (trkClass s.cfg k.val ≠ 9 ∨ trkState s.dev k.val ≠ 1 ∨ (s.dev.trk k.val).lostTick = none) →
      exec (.feedbackLost k) s = .next s)
  ∧ (∀ (s : State) (k : Fin 64) (v : Nat), let n := trkActuator s.cfg k.val
      trkClass s.cfg k.val = 9 → trkState s.dev k.val = 1 → (s.dev.trk k.val).forceZero = false → s.cfg.b FUS.EGO_CFG 0 = true →
      (s.dev.trk k.val).lostTick = some v → n < 40 → actState s.dev n = 1 →
      ∃ t, exec (.feedbackLost k) s = .next t ∧ UnitsOnly s t ∧ (t.dev.trk k.val).forceZero = true ∧ actState t.dev n = 2
        ∧ RegsKept [LAW.ACT_STAT n, LAW.ACT_AVAIL 0, LAW.ACT_AVAIL 1] s.dev t.dev
        ∧ t.dev.tick = max s.dev.tick (v + ticksPerSec)
        ∧ t.dev.occ = s.dev.occ ++ [⟨0x110A, t.dev.tick, s.dev.eventBeat, [(n : Int)]⟩, ⟨0x1307, t.dev.tick, s.dev.eventBeat, [(n : Int), 1]⟩])
  ∧ (∀ (s : State) (v : Word), s.dev.mode ≠ 4 → fld v 16 16 ≠ 0x5E1D →
      exec (.trkRestart v) s = .next { s with bus := .done 0 } ∧ exec (.trkRelease v) s = .next { s with bus := .done 0 }
      ∧ exec (.trkResetClock v) s = .next { s with bus := .done 0 })
  ∧ (∀ (s : State) (v : Word), s.dev.mode = 4 →
      let ignored (page : Nat) : Host.Outcome State Fault Refusal := .next { s.ignoreWrite page with bus := .done 0 }
      exec (.trkRestart v) s = ignored 0x40021000 ∧ exec (.trkRelease v) s = ignored 0x40021000
      ∧ exec (.trkResetClock v) s = ignored 0x40021000 ∧ exec (.splitSel v) s = ignored 0x40023000)
  ∧ (∀ s : State, s.dev.mode ≠ 4 → journaling s.cfg s.dev = false →
      let k := s.dev.f FUS.TRKSEL 0 6
      exec (.trkRestart 0x5E1D0001#32) s = .next { s with bus := .done 0, dev := s.dev.putTrk k { s.dev.trk k with command := some 1 } }
      ∧ exec (.trkRelease 0x5E1D0002#32) s = .next { s with bus := .done 0, dev := s.dev.putTrk k { s.dev.trk k with command := some 2 } }
      ∧ (trkTiming s.cfg k = 0 → exec (.trkResetClock 0x5E1D0003#32) s = .next { s with bus := .done 0 })
      ∧ (trkTiming s.cfg k ≠ 0 → trkState s.dev k ≠ 0 → trkState s.dev k ≠ 6 →
        ∃ t, exec (.trkResetClock 0x5E1D0003#32) s = .next t ∧ UnitsWritten s t ∧ trkState t.dev k = 5 ∧ t.dev.f (FUS.TRK_STAT k) 8 8 = 0
          ∧ (t.dev.trk k).tref = none ∧ (t.dev.trk k).pairs = 0 ∧ t.dev.b (FUS.TRK_OOS (k / 32)) (k % 32) = true
          ∧ Records s.dev t.dev 0x1102 [(k : Int), (s.dev.trk k).resid]))
  ∧ ∀ (s : State) (v : Word), s.dev.mode ≠ 4 → journaling s.cfg s.dev = false →
      ∃ t, exec (.splitSel v) s = .next t ∧ UnitsWritten s t ∧ RegsKept [FUS.SEL_RESULT] s.dev t.dev
        ∧ t.dev.f FUS.SEL_RESULT 8 6 = fld v 0 6 ∧ t.dev.f FUS.SEL_RESULT 16 16 = (s.dev.f FUS.SEL_RESULT 16 16 + 1) % 65536
        ∧ (fld v 16 16 = 0x5B1A → t.dev.f FUS.SEL_RESULT 0 4 = 1 ∧ t.dev.fus.selection = some (fld v 0 6) ∧ t.dev.occ = s.dev.occ)
        ∧ (fld v 16 16 ≠ 0x5B1A → t.dev.f FUS.SEL_RESULT 0 4 = 6 ∧ t.dev.fus.selection = none ∧ Records s.dev t.dev 0x111B [6])

/-- R122 to R132, R148. -/
def Obligations.RangingChannels : Prop :=
  (∀ (s : State) (w : Fin 4) (v : Word), let n := windowChan s.dev w.val
      (chState s.dev n = 0 → exec (.chCfgWrite w .aidDop v) s = .next { s with bus := .done 0, dev := s.dev.put (RBB.CH_AID_DOP n) (v &&& keyMask (RBB.CH_AID_DOP n)) }
        ∧ exec (.chCfgWrite w .cfg v) s = .next { s with bus := .done 0, dev := s.dev.put (RBB.CH_CFG n) (v &&& keyMask (RBB.CH_CFG n)) }
        ∧ exec (.chCfgWrite w .aidCode v) s = .next { s with bus := .done 0, dev := s.dev.put (RBB.CH_AID_CODE n) (v &&& keyMask (RBB.CH_AID_CODE n)) }
        ∧ exec (.chLoopWrite w .corr v) s = .next { s with bus := .done 0, dev := s.dev.put (RBB.CH_CORR n) (v &&& keyMask (RBB.CH_CORR n)) })
      ∧ (chState s.dev n ≠ 0 → ∀ reg, exec (.chCfgWrite w reg v) s = .next { s with bus := .done 0, dev := s.dev.bump RBB.CH_IGN_CNT })
      ∧ (chState s.dev n < 2 → exec (.chLoopWrite w .loop v) s = .next { s with bus := .done 0, dev := s.dev.put (RBB.CH_LOOP n) (v &&& keyMask (RBB.CH_LOOP n)) })
      ∧ (2 ≤ chState s.dev n → exec (.chLoopWrite w .loop v) s = .next { s with bus := .done 0, dev := s.dev.putChan n { s.dev.chan n with pendLoop := some (v &&& keyMask (RBB.CH_LOOP n)) } })
      ∧ (2 ≤ chState s.dev n → spacingOk (chSig s.dev n) (fld (v &&& keyMask (RBB.CH_CORR n)) 0 7) = true →
        exec (.chLoopWrite w .corr v) s = .next { s with bus := .done 0, dev := s.dev.putChan n { s.dev.chan n with pendCorr := some (v &&& keyMask (RBB.CH_CORR n)) } })
      ∧ (chState s.dev n ≠ 0 → spacingOk (chSig s.dev n) (fld (v &&& keyMask (RBB.CH_CORR n)) 0 7) = false →
        exec (.chLoopWrite w .corr v) s = .next { s with bus := .done 0, dev := s.dev.bump RBB.CH_IGN_CNT }))
  ∧ (∀ (s : State) (w : Fin 4), let n := windowChan s.dev w.val
      (∀ r, r ≠ 0 → startResult s.cfg s.dev n true = r → exec (.startAided w) s = .next { s with bus := .done 0, dev := s.dev.putF (RBB.CH_STAT n) 4 4 r })
      ∧ (∀ r, r ≠ 0 → startResult s.cfg s.dev n false = r → exec (.startAcq w) s = .next { s with bus := .done 0, dev := s.dev.putF (RBB.CH_STAT n) 4 4 r })
      ∧ (startResult s.cfg s.dev n true = 0 → ∃ t, exec (.startAided w) s = .next t ∧ UnitsWritten s t ∧ chState t.dev n = 2
        ∧ t.dev.f (RBB.CH_STAT n) 4 4 = 0 ∧ t.dev.w (RBB.CH_LOSS_CNT n) = 0 ∧ t.dev.w (RBB.CH_LOCK_MS n) = 0
        ∧ t.dev.chan n = { ({} : ChanDev) with
            codePhase := s.dev.f (RBB.CH_AID_CODE n) 0 20, doppler := s.dev.w (RBB.CH_AID_DOP n), codeTick := s.dev.tick, pullTick := s.dev.tick })
      ∧ (startResult s.cfg s.dev n false = 0 → ∃ t, exec (.startAcq w) s = .next t ∧ UnitsWritten s t ∧ chState t.dev n = 1
        ∧ t.dev.f (RBB.CH_STAT n) 4 4 = 0 ∧ t.dev.rbb.queue = s.dev.rbb.queue ++ [n])
      ∧ (s.cfg.f SYS.CALIBRE 0 2 ≠ 3 → 256 ≤ n → exec (.stop w) s = .next { s with bus := .done 0, dev := s.dev.putF (RBB.CH_STAT n) 4 4 3 })
      ∧ (s.cfg.f SYS.CALIBRE 0 2 = 3 ∨ n < 256 → ∃ t, exec (.stop w) s = .next t ∧ UnitsWritten s t ∧ chState t.dev n = 0
        ∧ t.dev.f (RBB.CH_STAT n) 4 4 = 0 ∧ t.dev.rbb.queue = s.dev.rbb.queue.filter (· != n)
        ∧ ∀ e, e < 2 → (s.dev.engine e).ch = some n → (t.dev.engine e).abandon = true))
  ∧ (∀ (s : State) (e : Fin 2) (n : Nat) (rest : List Nat), (s.dev.engine e.val).ch = none → s.dev.rbb.queue = n :: rest →
      ∃ t, exec (.acqSearchStart e) s = .next t ∧ UnitsOnly s t ∧ RegsKept [RBB.ACQ_QUEUE, RBB.ENG_STAT e.val] s.dev t.dev
        ∧ t.dev.rbb.queue = rest ∧ t.dev.w (RBB.ENG_STAT e.val) = wd (1 + n * 2)
        ∧ t.dev.engine e.val = ⟨some n, false, s.dev.tick,
            if s.dev.b (RBB.CH_AID_CODE n) 31 then some (s.dev.f (RBB.CH_AID_CODE n) 0 20, s.dev.w (RBB.CH_AID_DOP n)) else none⟩)
  ∧ (∀ (s : State) (e : Fin 2) (code : BitVec 20) (dop : Word) (ratio : BitVec 8), (s.dev.engine e.val).ch = none →
      exec (.acqDone e ⟨code, dop⟩ ratio) s = .next s ∧ exec (.acqSearchMiss e) s = .next s ∧ exec (.acqAbandon e) s = .next s)
  ∧ (∀ (s : State) (e : Fin 2) (code : BitVec 20) (dop : Word) (ratio : BitVec 8) (n : Nat), (s.dev.engine e.val).ch = some n →
      ((s.dev.engine e.val).abandon = false →
        (ratio.toNat < s.cfg.f RBB.ACQ_CFG 16 8 ∨ inSearch s.cfg (s.dev.engine e.val).aid code.toNat dop = false →
          exec (.acqDone e ⟨code, dop⟩ ratio) s = .next s)
        ∧ (s.cfg.f RBB.ACQ_CFG 16 8 ≤ ratio.toNat → inSearch s.cfg (s.dev.engine e.val).aid code.toNat dop = true →
          ∃ t, exec (.acqDone e ⟨code, dop⟩ ratio) s = .next t ∧ UnitsOnly s t ∧ chState t.dev n = 2
            ∧ (t.dev.chan n).codePhase = code.toNat ∧ (t.dev.chan n).doppler = dop ∧ (t.dev.chan n).pullTick = s.dev.tick
            ∧ t.dev.b (RBB.CH_STAT n) 24 = false ∧ (t.dev.engine e.val).ch = none
            ∧ Records s.dev t.dev 0x1006 [(n : Int), code.toNat, dop.toInt])
        ∧ exec (.acqSearchMiss e) s = .next { s with
            dev := ((s.dev.putEngine e.val {}).bump RBB.ACQ_MISS_CNT).putChan n { s.dev.chan n with requeue := some s.dev.tick } }
        ∧ exec (.acqAbandon e) s = .next s)
      ∧ ((s.dev.engine e.val).abandon = true →
        let t : State := { s with dev := (s.dev.putEngine e.val {}).bump RBB.ACQ_ABANDON_CNT }
        exec (.acqAbandon e) s = .next t ∧ exec (.acqDone e ⟨code, dop⟩ ratio) s = .next t ∧ exec (.acqSearchMiss e) s = .next t))
  ∧ (∀ (s : State) (n : Fin 384), ((s.dev.chan n.val).requeue = none ∨ chState s.dev n.val ≠ 1 → exec (.acqRequeue n) s = .next s)
      ∧ (∀ t0, (s.dev.chan n.val).requeue = some t0 → chState s.dev n.val = 1 →
        ∃ t, exec (.acqRequeue n) s = .next t ∧ UnitsOnly s t ∧ RegsKept [RBB.ACQ_QUEUE] s.dev t.dev
          ∧ t.dev.tick = max s.dev.tick (t0 + 200000000)
          ∧ t.dev.rbb.queue = s.dev.rbb.queue ++ [n.val] ∧ (t.dev.chan n.val).requeue = none))
  ∧ (∀ (s : State) (n : Fin 384) (o : IntegrationObs), (chState s.dev n.val < 2 → exec (.integrationEnd n o) s = .next s)
      ∧ (chState s.dev n.val = 3 → s.dev.b (RBB.CH_CFG n.val) 18 = false →
        ∃ t, exec (.integrationEnd n o) s = .next t ∧ UnitsOnly s t
          ∧ RegsKept [RBB.CH_STAT n.val, RBB.CH_LOCK_MS n.val, RBB.CH_LOOP n.val, RBB.CH_CORR n.val] s.dev t.dev
          ∧ chState t.dev n.val = 3 ∧ t.dev.b (RBB.CH_STAT n.val) 25 = o.sync ∧ t.dev.b (RBB.CH_STAT n.val) 26 = o.halfCycle
          ∧ t.dev.f (RBB.CH_STAT n.val) 8 16 = (cn0Now (s.dev.takeTaps n.val o) n.val (chTInt s.dev n.val)).toNat
          ∧ (t.dev.b (RBB.CH_STAT n.val) 24 = false → t.dev.w (RBB.CH_LOCK_MS n.val) = 0)
          ∧ (t.dev.chan n.val).codePhase = o.code.toNat ∧ (t.dev.chan n.val).doppler = o.doppler
          ∧ (t.dev.chan n.val).range = o.range ∧ (t.dev.chan n.val).phase = o.phase
          ∧ (t.dev.chan n.val).pendLoop = none ∧ (t.dev.chan n.val).pendCorr = none))
  ∧ (∀ (s : State) (n : Fin 384),
      (chState s.dev n.val ≠ 2 ∨ s.dev.f (RBB.CH_LOOP n.val) 8 8 = 0 → exec (.pllEngage n) s = .next s)
      ∧ (chState s.dev n.val = 2 → s.dev.f (RBB.CH_LOOP n.val) 8 8 ≠ 0 →
        let d := s.dev.advanceTo ((s.dev.chan n.val).pullTick + 40000000)
        let e := d.putChan n.val { d.chan n.val with pll := true }
        (s.dev.b (RBB.CH_STAT n.val) 24 = true → exec (.pllEngage n) s = .next { s with dev := e.chEnter n.val 3 })
        ∧ (s.dev.b (RBB.CH_STAT n.val) 24 = false → exec (.pllEngage n) s = .next { s with dev := e })))
  ∧ (∀ (d : Dev) (n st : Nat), st < 16 → chState (d.chEnter n st) n = st
      ∧ RegsKept [RBB.CH_ALLOC, RBB.VEC_STAT, RBB.CH_STAT n] d (d.chEnter n st))
  ∧ (∀ (s : State) (n : Fin 384), ((s.dev.chan n.val).lowSince = none ∨ (chState s.dev n.val ≠ 3 ∧ chState s.dev n.val ≠ 4) →
        exec (.chLost n) s = .next s)
      ∧ (∀ t0, (s.dev.chan n.val).lowSince = some t0 → (chState s.dev n.val = 3 ∨ chState s.dev n.val = 4) →
        ∃ t, exec (.chLost n) s = .next t ∧ UnitsOnly s t ∧ chState t.dev n.val = 5
        ∧ t.dev.tick = max s.dev.tick (t0 + s.cfg.f RBB.TRK_CFG 16 8 * 10 * 200000)
        ∧ (t.dev.w (RBB.CH_LOSS_CNT n.val)).toNat = min 0xFFFFFFFF ((s.dev.w (RBB.CH_LOSS_CNT n.val)).toNat + 1)
        ∧ t.dev.w (RBB.CH_LOCK_MS n.val) = 0 ∧ (t.dev.chan n.val).lostSinceEpoch = true ∧ (t.dev.chan n.val).lostTick = t.dev.tick
        ∧ ((t.dev.chan n.val).served = true ↔ chState s.dev n.val = 4)
        ∧ t.dev.occ = s.dev.occ ++ [⟨0x1007, t.dev.tick, s.dev.eventBeat, [(n.val : Int)]⟩]))
  ∧ ∀ (s : State) (n : Fin 384), (chState s.dev n.val ≠ 5 → exec (.reacqTimeout n () ()) s = .next s)
      ∧ (chState s.dev n.val = 5 → ∃ t, exec (.reacqTimeout n () ()) s = .next t ∧ UnitsOnly s t
        ∧ t.dev.tick = max s.dev.tick ((s.dev.chan n.val).lostTick + s.cfg.f RBB.TRK_CFG 24 8 * 200000000)
        ∧ (t.dev.chan n.val).served = false
        ∧ (s.cfg.b RBB.GCFG 8 = false → chState t.dev n.val = 0 ∧ t.dev.rbb.queue = s.dev.rbb.queue)
        ∧ (s.cfg.b RBB.GCFG 8 = true → chState t.dev n.val = 1 ∧ t.dev.rbb.queue = s.dev.rbb.queue ++ [n.val]
          ∧ t.dev.w (RBB.CH_AID_DOP n.val) = (s.dev.chan n.val).doppler ∧ t.dev.b (RBB.CH_AID_CODE n.val) 31 = true))

/-- R115 to R119, R134, R139 to R144, R156, R161. -/
def Obligations.RangingFrontEnd : Prop :=
  (∀ (s : State) (a : Fin 3) (ma : Fin 256), (s.cfg.b (RBB.ANT_CFG a.val) 0 = false ∨ (s.dev.ant a.val).closed = false
      ∨ ma.val < s.cfg.f (RBB.ANT_CFG a.val) 16 8) → exec (.antShort a ma) s = .next s)
  ∧ (∀ (s : State) (a : Fin 3) (ma : Fin 256), s.cfg.b (RBB.ANT_CFG a.val) 0 = true → (s.dev.ant a.val).closed = true →
      s.cfg.f (RBB.ANT_CFG a.val) 16 8 ≤ ma.val →
      ∃ t, exec (.antShort a ma) s = .next t ∧ UnitsOnly s t ∧ t.dev.f (RBB.ANT_STAT a.val) 0 2 = 3
        ∧ t.dev.f (RBB.ANT_STAT a.val) 8 8 = ma.val ∧ t.dev.f (RBB.ANT_STAT a.val) 16 8 = min 255 (s.dev.f (RBB.ANT_STAT a.val) 16 8 + 1)
        ∧ (t.dev.ant a.val).closed = false ∧ exec (.antBiasSample a ma) s = .next t)
  ∧ (∀ (s : State) (a : Fin 3) (ma : Fin 256), s.cfg.b (RBB.ANT_CFG a.val) 0 = true → (s.dev.ant a.val).closed = true →
      ma.val < s.cfg.f (RBB.ANT_CFG a.val) 16 8 → ma.val < s.cfg.f (RBB.ANT_CFG a.val) 8 8 → (s.dev.ant a.val).below < 9 →
      let x : AntDev := { s.dev.ant a.val with below := (s.dev.ant a.val).below + 1, above := 0 }
      exec (.antBiasSample a ma) s = .next { s with dev := (s.dev.putF (RBB.ANT_STAT a.val) 8 8 ma.val).putAnt a.val x })
  ∧ (∀ (s : State) (a : Fin 3), (s.dev.b (RBB.ANT_STAT a.val) 2 = true ∨ s.cfg.b (RBB.ANT_CFG a.val) 0 = false → exec (.antBiasRetry a) s = .next s)
      ∧ (s.dev.b (RBB.ANT_STAT a.val) 2 = false → s.cfg.b (RBB.ANT_CFG a.val) 0 = true →
        exec (.antBiasRetry a) s = .next { s with dev := s.dev.putAnt a.val { s.dev.ant a.val with closed := true } }))
  ∧ (∀ (s : State) (p : Fin 6) (offset : Int) (level : Nat), let l := Assoc.get [] s.dev.rbb.notches p.val
      (notchAt offset l = none → exec (.notchDisengaged p ⟨offset, level⟩) s = .next s)
      ∧ (s.cfg.b (RBB.PATH_CFG p.val) 16 = false ∨ pathOn s.cfg p.val = false ∨ level < s.cfg.f (RBB.PATH_CFG p.val) 0 8 →
        exec (.notchEngaged p offset level) s = .next s)
      ∧ (s.cfg.b (RBB.PATH_CFG p.val) 16 = true → pathOn s.cfg p.val = true → s.cfg.f (RBB.PATH_CFG p.val) 0 8 ≤ level →
        (l = [] → 1 ≤ s.cfg.f (RBB.PATH_CFG p.val) 20 4 →
          ∃ t, exec (.notchEngaged p offset level) s = .next t ∧ UnitsOnly s t ∧ RegsKept [RBB.PATH_STAT p.val] s.dev t.dev
            ∧ t.dev.f (RBB.PATH_STAT p.val) 8 4 = 1 ∧ Assoc.get [] t.dev.rbb.notches p.val = [(offset, level)]
            ∧ Records s.dev t.dev 0x1005 [(p.val : Int), offset])
        ∧ ∀ x, notchAt offset l = some x →
          exec (.notchEngaged p offset level) s = .next { s with dev := s.dev.putNotches p.val (insertNotch (offset, level) (l.erase x)) })
      ∧ ∀ x, notchAt offset l = some x →
        (level + 12 ≤ s.cfg.f (RBB.PATH_CFG p.val) 0 8 →
          exec (.notchDisengaged p ⟨offset, level⟩) s = .next { s with dev := s.dev.putNotches p.val (l.erase x) })
        ∧ (s.cfg.f (RBB.PATH_CFG p.val) 0 8 < level + 12 →
          exec (.notchDisengaged p ⟨offset, level⟩) s = .next { s with dev := s.dev.putNotches p.val (insertNotch (offset, level) (l.erase x)) }))
  ∧ (∀ (s : State) (o : EpochObs), (s.cfg.b RBB.GCFG 0 = false ∨ s.dev.esc.beat % epochBeats s.cfg ≠ 0 →
        exec (.measurementEpoch o) s = .next { s with dev := s.dev.showPaths s.cfg o })
      ∧ (s.cfg.b RBB.GCFG 0 = true → s.dev.esc.beat % epochBeats s.cfg = 0 →
        let p := s.dev.showPaths s.cfg o
        let d := (({ p with rbb := { p.rbb with views := o.views } } : Dev).isbWalk o.isb).doaTests s.cfg
        let d := (((((d.monitors s.cfg o).agcEpoch o).solution s.cfg 0).solution s.cfg 1).solution s.cfg 2)
        let measured := (shownChannels d).filter (chMeasures d)
        exec (.measurementEpoch o) s = .next { s with
          dev := ((if doaRaised d then d else measured.foldl (fun d n => d.observable s.cfg n) d).attitude s.cfg).epochTaken }))
  ∧ (∀ (s : State) (sat : Sat), (s.dev.rbb.excluded.find? (fun e => e.1 == sat) = none → exec (.raimExclusionExpiry sat) s = .next s)
      ∧ (∀ e, s.dev.rbb.excluded.find? (fun e => e.1 == sat) = some e → ∃ t, exec (.raimExclusionExpiry sat) s = .next t ∧ UnitsOnly s t
        ∧ RegsKept [RBB.SOL_INT 0, RBB.SOL_INT 1, RBB.SOL_INT 2] s.dev t.dev
        ∧ t.dev.rbb.excluded = s.dev.rbb.excluded.filter (fun e => e.1 != sat) ∧ t.dev.tick = max s.dev.tick e.2
        ∧ ∀ a, a < 3 → t.dev.f (RBB.SOL_INT a) 16 8 = t.dev.rbb.excluded.length % 256))
  ∧ (∀ (s : State) (p : Fin 6), let l := (Assoc.get [] s.dev.rbb.agcHist p.val).foldr insertNat []
      ((s.dev.w RBB.INT_FLAG).toNat % 2 ^ 15 ≠ 0 ∨ l.length < 600 * epochRate s.cfg → exec (.agcRefLearned p ()) s = .next s)
      ∧ ((s.dev.w RBB.INT_FLAG).toNat % 2 ^ 15 = 0 → 600 * epochRate s.cfg ≤ l.length →
        exec (.agcRefLearned p ()) s = .next { s with dev := s.dev.putN (RBB.AGC_REF p.val) (l.getD ((l.length - 1) / 2) 0 + 65536) }))
  ∧ (∀ (s : State) (l : List Byte) (via : RtcmPort), (corrVia s.cfg via = false ∨ l.head? ≠ some 0xD3 →
        exec (.rtcmFrame l via) s = .next s)
      ∧ (corrVia s.cfg via = true → l.head? = some 0xD3 →
        let len := beNat ((l.drop 1).take 2) % 1024
        let body := (l.drop 3).take len
        let t := beNat (body.take 2) / 16
        (l.length ≠ len + 6 ∨ crc24q (l.take (len + 3)) ≠ beNat (l.drop (len + 3)) →
          exec (.rtcmFrame l via) s = .next { s with dev := s.dev.sat RBB.CORR_BAD_CNT 0 16 1 })
        ∧ (l.length = len + 6 → crc24q (l.take (len + 3)) = beNat (l.drop (len + 3)) →
          (len < 3 ∨ rtcmKnown t = false → exec (.rtcmFrame l via) s = .next { s with dev := s.dev.sat RBB.CORR_BAD_CNT 16 16 1 })
          ∧ (3 ≤ len → isMsm t = true → ∃ u, exec (.rtcmFrame l via) s = .next u ∧ UnitsOnly s u
            ∧ u.dev = { s.dev with rbb := u.dev.rbb } ∧ u.dev.rbb.corrTick = some s.dev.tick ∧ u.dev.rbb.corrStale = false
            ∧ u.dev.rbb.corrections = Assoc.set [] s.dev.rbb.corrections t body))))
  ∧ (∀ s : State, (s.dev.rbb.corrTick = none ∨ s.dev.rbb.corrStale = true → exec .corrStale s = .next s)
      ∧ (∀ t0, s.dev.rbb.corrTick = some t0 → s.dev.rbb.corrStale = false →
        let d := s.dev.advanceTo (t0 + s.cfg.f RBB.CORR_AGE 0 7 * 200000000 + 1)
        exec .corrStale s = .next { s with dev := { d with rbb := { d.rbb with corrStale := true } }.event 0x1008 }))
  ∧ (∀ s : State, (s.dev.rbb.views = [] ∨ shownChannels s.dev = [] → exec (.vectorSteeringWrite ()) s = .next s)
      ∧ ∃ t, exec (.vectorSteeringWrite ()) s = .next t ∧ UnitsOnly s t ∧ RegsKept [] s.dev t.dev
        ∧ ∀ n v, n ∈ shownChannels s.dev → chState s.dev n = 4 → chView s.dev n = some v →
          (t.dev.chan n).nextRates = some (predictedRate s.cfg s.dev n v, predictedRate s.cfg s.dev n v))
  ∧ (∀ s : State, (s.dev.b RBB.VEC_STAT 0 = false → exec .vecMissLimit s = .next s)
      ∧ (s.dev.b RBB.VEC_STAT 0 = true → vecCause s.cfg s.dev = 0 →
        (shownChannels s.dev).any (fun n => chState s.dev n = 4 && s.cfg.f RBB.VEC_CFG 16 3 ≤ (s.dev.chan n).miss) = true →
        ∃ t, exec .vecMissLimit s = .next t ∧ UnitsOnly s t ∧ RegsKept [RBB.VEC_STAT] s.dev t.dev ∧ t.dev.b RBB.VEC_STAT 0 = false
          ∧ t.dev.f RBB.VEC_STAT 1 3 = 3 ∧ t.dev.rbb.missStop = true ∧ Records s.dev t.dev 0x100A [3]))
  ∧ ∀ s : State, ((s.dev.b RBB.VEC_STAT 0 = true ∨ vecCause s.cfg s.dev ≠ 0 ∨ s.dev.rbb.clearFrames < 100) → exec .vecResume s = .next s)
      ∧ (s.dev.b RBB.VEC_STAT 0 = false → vecCause s.cfg s.dev = 0 → 100 ≤ s.dev.rbb.clearFrames →
        exec .vecResume s = .next { s with dev := ((s.dev.putB RBB.VEC_STAT 0 true).putF RBB.VEC_STAT 1 3 0).event 0x100B })
end

