-- ==== Sys2Proof/Laws/Assoc.lean ====
section
/-! SUPPORT. Laws of the sparse tables: reading after writing, and the canonical form every operation keeps. -/
namespace Sys2Proof.Machine

variable {α : Type}

/-! ### Reading -/

theorem Assoc.get_erase_ne (dflt : α) (l : List (Nat × α)) {k j : Nat} (h : j ≠ k) :
    Assoc.get dflt (Assoc.erase l k) j = Assoc.get dflt l j := by
  induction l with
  | nil => rfl
  | cons p t ih =>
    obtain ⟨i, v⟩ := p
    by_cases hi : i = k
    · subst hi; simp [Assoc.erase, Assoc.get, ih, Ne.symm h]
    · simp only [Assoc.erase, Assoc.get, hi, if_false, ih]

theorem Assoc.get_erase_self (dflt : α) (l : List (Nat × α)) (k : Nat) : Assoc.get dflt (Assoc.erase l k) k = dflt := by
  induction l with
  | nil => rfl
  | cons p t ih =>
    obtain ⟨i, v⟩ := p
    by_cases hi : i = k <;> simp [Assoc.erase, Assoc.get, hi, ih]

theorem Assoc.get_insert_ne (dflt : α) (l : List (Nat × α)) {k j : Nat} (v : α) (h : j ≠ k) :
    Assoc.get dflt (Assoc.insert l k v) j = Assoc.get dflt l j := by
  induction l with
  | nil => simp [Assoc.insert, Assoc.get, Ne.symm h]
  | cons p t ih =>
    obtain ⟨i, w⟩ := p
    by_cases hk : k < i
    · simp [Assoc.insert, Assoc.get, hk, Ne.symm h]
    · simp only [Assoc.insert, Assoc.get, hk, if_false, ih]

theorem Assoc.get_insert_erase_self (dflt : α) (l : List (Nat × α)) (k : Nat) (v : α) :
    Assoc.get dflt (Assoc.insert (Assoc.erase l k) k v) k = v := by
  induction l with
  | nil => simp [Assoc.erase, Assoc.insert, Assoc.get]
  | cons p t ih =>
    obtain ⟨i, w⟩ := p
    by_cases hi : i = k
    · simp [Assoc.erase, hi, ih]
    · by_cases hk : k < i <;> simp [Assoc.erase, Assoc.insert, Assoc.get, hi, hk, ih]

/-- Reading the key that was written. -/
@[simp] theorem Assoc.get_set_self [DecidableEq α] (dflt : α) (l : List (Nat × α)) (k : Nat) (v : α) :
    Assoc.get dflt (Assoc.set dflt l k v) k = v := by
  unfold Assoc.set
  split
  · next h => rw [Assoc.get_erase_self, h]
  · exact Assoc.get_insert_erase_self dflt l k v

/-- Writing one key leaves every other key alone, whatever default the others read as. -/
theorem Assoc.get_set_ne [DecidableEq α] (d e : α) (l : List (Nat × α)) {k j : Nat} (v : α) (h : j ≠ k) :
    Assoc.get e (Assoc.set d l k v) j = Assoc.get e l j := by
  unfold Assoc.set
  split
  · exact Assoc.get_erase_ne e l h
  · rw [Assoc.get_insert_ne e _ v h, Assoc.get_erase_ne e l h]

theorem Assoc.get_set [DecidableEq α] (dflt : α) (l : List (Nat × α)) (k j : Nat) (v : α) :
    Assoc.get dflt (Assoc.set dflt l k v) j = if j = k then v else Assoc.get dflt l j := by
  by_cases h : j = k
  · subst h; simp
  · simp [h, Assoc.get_set_ne]

/-! ### The canonical form -/

theorem Assoc.sortedFrom_mono {l : List (Nat × α)} {a b : Nat} (hab : a ≤ b) (h : Assoc.sortedFrom l b = true) :
    Assoc.sortedFrom l a = true := by
  cases l with
  | nil => rfl
  | cons p t =>
    simp only [Assoc.sortedFrom, Bool.and_eq_true, decide_eq_true_eq] at h ⊢
    exact ⟨by omega, h.2⟩

theorem Assoc.sortedFrom_filter (q : Nat × α → Bool) {l : List (Nat × α)} {a : Nat} (h : Assoc.sortedFrom l a = true) :
    Assoc.sortedFrom (l.filter q) a = true := by
  induction l generalizing a with
  | nil => rfl
  | cons p t ih =>
    simp only [Assoc.sortedFrom, Bool.and_eq_true, decide_eq_true_eq] at h
    by_cases hq : q p
    · simp only [List.filter_cons, hq, if_true, Assoc.sortedFrom, Bool.and_eq_true, decide_eq_true_eq]
      exact ⟨h.1, ih h.2⟩
    · simp only [List.filter_cons, hq]
      exact Assoc.sortedFrom_mono (by omega) (ih h.2)

theorem Assoc.erase_eq_filter (l : List (Nat × α)) (k : Nat) : Assoc.erase l k = l.filter (fun p => decide (p.1 ≠ k)) := by
  induction l with
  | nil => rfl
  | cons p t ih =>
    obtain ⟨i, v⟩ := p
    by_cases hi : i = k <;> simp [Assoc.erase, hi, ih]

theorem Assoc.sortedFrom_insert {l : List (Nat × α)} {a k : Nat} (v : α) (hk : a ≤ k) (hn : ∀ p ∈ l, p.1 ≠ k)
    (h : Assoc.sortedFrom l a = true) : Assoc.sortedFrom (Assoc.insert l k v) a = true := by
  induction l generalizing a with
  | nil => simp [Assoc.insert, Assoc.sortedFrom, hk]
  | cons p t ih =>
    obtain ⟨i, w⟩ := p
    simp only [Assoc.sortedFrom, Bool.and_eq_true, decide_eq_true_eq] at h
    by_cases hki : k < i
    · simp only [Assoc.insert, hki, if_true, Assoc.sortedFrom, Bool.and_eq_true, decide_eq_true_eq]
      exact ⟨hk, by omega, h.2⟩
    · have : i ≠ k := hn (i, w) (by simp)
      simp only [Assoc.insert, hki, if_false, Assoc.sortedFrom, Bool.and_eq_true, decide_eq_true_eq]
      exact ⟨h.1, ih (by omega) (fun p hp => hn p (by simp [hp])) h.2⟩

theorem Assoc.mem_insert {l : List (Nat × α)} {k : Nat} {v : α} {p : Nat × α} :
    p ∈ Assoc.insert l k v ↔ p = (k, v) ∨ p ∈ l := by
  induction l with
  | nil => simp [Assoc.insert]
  | cons q t ih =>
    obtain ⟨i, w⟩ := q
    by_cases hki : k < i
    · simp [Assoc.insert, hki]
    · simp only [Assoc.insert, hki, if_false, List.mem_cons, ih]
      tauto

/-- Filtering a canonical table leaves it canonical. -/
theorem Assoc.wf_filter [DecidableEq α] (dflt : Nat → α) (q : Nat × α → Bool) {l : List (Nat × α)} (h : Assoc.wf dflt l = true) :
    Assoc.wf dflt (l.filter q) = true := by
  simp only [Assoc.wf, Bool.and_eq_true, List.all_eq_true, decide_eq_true_eq] at h ⊢
  exact ⟨Assoc.sortedFrom_filter q h.1, fun p hp => h.2 p (List.mem_filter.mp hp).1⟩

/-- A write keeps a table canonical. -/
theorem Assoc.wf_set [DecidableEq α] (dflt : Nat → α) {l : List (Nat × α)} (k : Nat) (v : α) (h : Assoc.wf dflt l = true) :
    Assoc.wf dflt (Assoc.set (dflt k) l k v) = true := by
  have he : Assoc.wf dflt (Assoc.erase l k) = true := by rw [Assoc.erase_eq_filter]; exact Assoc.wf_filter dflt _ h
  unfold Assoc.set
  split
  · exact he
  · next hv =>
    simp only [Assoc.wf, Bool.and_eq_true, List.all_eq_true, decide_eq_true_eq] at he ⊢
    refine ⟨Assoc.sortedFrom_insert v (Nat.zero_le k) ?_ he.1, ?_⟩
    · intro p hp
      rw [Assoc.erase_eq_filter] at hp
      simpa using (List.mem_filter.mp hp).2
    · intro p hp
      rcases Assoc.mem_insert.mp hp with rfl | hp
      · exact hv
      · exact he.2 p hp

end Sys2Proof.Machine
end

