-- ==== Sys2Proof/Laws/Memory.lean ====
section
/-! SUPPORT. Laws of the memories: reading after writing a byte, and that every operation on the store keeps its memory canonical. -/
namespace Sys2Proof.Machine

/-! ### Bytes -/

theorem memWrite_get (m : List Host.Cell) (a b : Nat) (bs : List Byte) (h : b < a ∨ a + bs.length ≤ b) :
    Assoc.get 0 (memWrite m a bs) b = Assoc.get 0 m b := by
  induction bs generalizing m a with
  | nil => rfl
  | cons x t ih =>
    simp only [List.length_cons] at h
    rw [memWrite, ih _ (a + 1) (by omega), Assoc.get_set_ne 0 0 m x (by omega)]

/-- The bytes written are read back. -/
theorem memWrite_get_written (m : List Host.Cell) (a i : Nat) (bs : List Byte) (h : i < bs.length) :
    Assoc.get 0 (memWrite m a bs) (a + i) = bs[i] := by
  induction bs generalizing m a i with
  | nil => simp at h
  | cons x t ih =>
    cases i with
    | zero => rw [memWrite, memWrite_get _ _ _ _ (by omega)]; simp
    | succ j =>
      have := ih (Assoc.set 0 m a x) (a + 1) j (by simpa using h)
      rw [memWrite, show a + (j + 1) = a + 1 + j by omega, this]; simp

/-- A write of the block leaves every byte outside it alone. -/
theorem Store.byte_write (st : Store) (a b : Nat) (bs : List Byte) (h : b < a ∨ a + bs.length ≤ b) :
    (st.write a bs).byte b = st.byte b := memWrite_get st.mem a b bs h

@[simp] theorem Store.bytes_length (st : Store) (a n : Nat) : (st.bytes a n).length = n := by
  induction n generalizing a with
  | zero => rfl
  | succ k ih => simp [Store.bytes, ih]

theorem Store.bytes_getElem? (st : Store) (a n i : Nat) (h : i < n) : (st.bytes a n)[i]? = some (st.byte (a + i)) := by
  induction n generalizing a i with
  | zero => omega
  | succ k ih =>
    cases i with
    | zero => simp [Store.bytes]
    | succ j => rw [Store.bytes, List.getElem?_cons_succ, ih (a + 1) j (by omega)]; congr 2; omega

/-- A part of a run of bytes. -/
theorem Store.bytes_sub (st : Store) (a k o n : Nat) (h : o + n ≤ k) : st.bytes (a + o) n = ((st.bytes a k).drop o).take n := by
  apply List.ext_getElem?
  intro i
  by_cases hi : i < n
  · rw [Store.bytes_getElem? _ _ _ _ hi, List.getElem?_take_of_lt hi, List.getElem?_drop, Store.bytes_getElem? _ _ _ _ (by omega)]
    congr 2; omega
  · rw [List.getElem?_eq_none (by simp; omega), List.getElem?_eq_none (by simp; omega)]

/-- A write of the block is read back. -/
theorem Store.bytes_write (st : Store) (a : Nat) (bs : List Byte) : (st.write a bs).bytes a bs.length = bs := by
  apply List.ext_getElem?
  intro i
  by_cases hi : i < bs.length
  · rw [Store.bytes_getElem? _ _ _ _ hi]
    show some (Assoc.get 0 (memWrite st.mem a bs) (a + i)) = _
    rw [memWrite_get_written st.mem a i bs hi]
    simp [hi]
  · rw [List.getElem?_eq_none (by simp; omega), List.getElem?_eq_none (by omega)]

theorem Store.bytes_write_ne (st : Store) (a b n : Nat) (bs : List Byte) (h : b + n ≤ a ∨ a + bs.length ≤ b) :
    (st.write a bs).bytes b n = st.bytes b n := by
  apply List.ext_getElem?
  intro i
  by_cases hi : i < n
  · rw [Store.bytes_getElem? _ _ _ _ hi, Store.bytes_getElem? _ _ _ _ hi, Store.byte_write st a (b + i) bs (by omega)]
  · rw [List.getElem?_eq_none (by simp; omega), List.getElem?_eq_none (by simp; omega)]
/-! ### The canonical form -/

theorem Memory.wf_set {m : List Host.Cell} (h : Memory.wf m = true) (a : Nat) (b : Byte) :
    Memory.wf (Assoc.set 0 m a b) = true := Assoc.wf_set (fun _ => (0 : Byte)) a b h

theorem Memory.wf_filter {m : List Host.Cell} (h : Memory.wf m = true) (q : Host.Cell → Bool) : Memory.wf (m.filter q) = true :=
  Assoc.wf_filter _ q h

theorem Memory.wf_memWrite {m : List Host.Cell} (h : Memory.wf m = true) (a : Nat) (bs : List Byte) :
    Memory.wf (memWrite m a bs) = true := by
  induction bs generalizing m a with
  | nil => exact h
  | cons x t ih => exact ih (Memory.wf_set h a x) (a + 1)

theorem Memory.wf_putAll {m : List Host.Cell} (h : Memory.wf m = true) (es : List Host.Cell) :
    Memory.wf (es.foldl (fun m e => Assoc.set 0 m e.1 e.2) m) = true := by
  induction es generalizing m with
  | nil => exact h
  | cons e t ih => exact ih (Memory.wf_set h e.1 e.2)

theorem Store.wf_write {st : Store} (h : Memory.wf st.mem = true) (a : Nat) (bs : List Byte) : Memory.wf (st.write a bs).mem = true :=
  Memory.wf_memWrite h a bs

theorem Store.wf_zero {st : Store} (h : Memory.wf st.mem = true) (p : Nat → Bool) : Memory.wf (st.zero p).mem = true :=
  Memory.wf_filter h _

theorem Store.wf_takeImage {st : Store} (h : Memory.wf st.mem = true) (es : List (Nat × Byte)) (a n : Nat) :
    Memory.wf (st.takeImage es a n).mem = true := Memory.wf_putAll (Memory.wf_filter h _) _

theorem Store.wf_takeState {st : Store} (h : Memory.wf st.mem = true) (es : List (Nat × Byte)) :
    Memory.wf (st.takeState es).mem = true := Memory.wf_putAll h es

theorem Memory.wf_putAt {m : List Host.Cell} (h : Memory.wf m = true) (base : Nat) (es : List Host.Cell) :
    Memory.wf (es.foldl (fun m e => Assoc.set 0 m (base + e.1) e.2) m) = true := by
  induction es generalizing m with
  | nil => exact h
  | cons e t ih => exact ih (Memory.wf_set h (base + e.1) e.2)

theorem Store.wf_copyImage {st : Store} (h : Memory.wf st.mem = true) (a : Nat) : Memory.wf (st.copyImage a).mem = true := by
  unfold Store.copyImage
  dsimp only
  split
  · exact h
  · exact Memory.wf_putAt (Store.wf_zero h _) _ _

/-! ### Narrow writes, upsets, poison -/

theorem Memory.wf_foldl {β : Type} (f : List Host.Cell → β → List Host.Cell) (l : List β)
    (hf : ∀ m b, Memory.wf m = true → Memory.wf (f m b) = true) {m : List Host.Cell} (h : Memory.wf m = true) :
    Memory.wf (l.foldl f m) = true := by
  induction l generalizing m with
  | nil => exact h
  | cons b t ih => exact ih (hf m b h)

theorem Store.wf_toPoison {st : Store} (h : Memory.wf st.mem = true) (w : Nat) : Memory.wf (st.toPoison w).mem = true := by
  refine Memory.wf_foldl _ _ (fun m b hm => ?_) h
  split
  · exact Memory.wf_set hm _ _
  · exact hm

@[simp] theorem Store.upset_mem (st : Store) (w : Nat) (u : List (Fin 40 × Byte)) : (st.upset w u).mem = st.mem := rfl

@[simp] theorem inject_mem (st : Store) (d : Dev) (w : Nat) : (inject st d w).1.mem = st.mem := by
  unfold inject; split <;> rfl

@[simp] theorem countUE_mem (st : Store) (d : Dev) (r a : Nat) (scrub : Bool) : (countUE st d r a scrub).1.mem = st.mem := by
  unfold countUE; split <;> rfl

theorem wf_writeWord {st : Store} (h : Memory.wf st.mem = true) (d : Dev) (r w off : Nat) (bs : List Byte) (poisoned : Bool) :
    Memory.wf (writeWord st d r w off bs poisoned).1.mem = true := by
  unfold writeWord
  dsimp only
  rw [inject_mem]
  split <;> (try split) <;> (try split)
  all_goals refine Memory.wf_memWrite ?_ _ _
  all_goals first
    | exact h
    | exact Store.wf_toPoison (by rw [countUE_mem]; exact h) w

theorem wf_writeRun {st : Store} (h : Memory.wf st.mem = true) (n : Nat) (d : Dev) (r a : Nat) (bs : List Byte) (poisoned : Bool) :
    Memory.wf (writeRun n st d r a bs poisoned).1.mem = true := by
  induction n generalizing st d a bs with
  | zero => exact h
  | succ k ih =>
    unfold writeRun
    split
    · exact h
    · exact ih (wf_writeWord h _ _ _ _ _ _) _ _ _

theorem State.reset_memory : Memory.wf State.reset.store.mem = true := by decide

end Sys2Proof.Machine
end

