-- ==== Sys2Proof/Laws/State.lean ====
section
/-! SUPPORT. One lemma per field per update of the state: what the register and event operations leave alone. -/
namespace Sys2Proof.Machine

/-! ### Operations on the registers: every other field of Dev -/

@[simp] theorem Dev.put_tick (d : Dev) (k : Nat) (v : Word) : (d.put k v).tick = d.tick := rfl
@[simp] theorem Dev.put_acc (d : Dev) (k : Nat) (v : Word) : (d.put k v).acc = d.acc := rfl
@[simp] theorem Dev.put_occ (d : Dev) (k : Nat) (v : Word) : (d.put k v).occ = d.occ := rfl
@[simp] theorem Dev.put_limits (d : Dev) (k : Nat) (v : Word) : (d.put k v).limits = d.limits := rfl
@[simp] theorem Dev.put_free (d : Dev) (k : Nat) (v : Word) : (d.put k v).free = d.free := rfl
@[simp] theorem Dev.put_flow (d : Dev) (k : Nat) (v : Word) : (d.put k v).flow = d.flow := rfl
@[simp] theorem Dev.put_modes (d : Dev) (k : Nat) (v : Word) : (d.put k v).modes = d.modes := rfl
@[simp] theorem Dev.put_esc (d : Dev) (k : Nat) (v : Word) : (d.put k v).esc = d.esc := rfl
@[simp] theorem Dev.put_tbu (d : Dev) (k : Nat) (v : Word) : (d.put k v).tbu = d.tbu := rfl
@[simp] theorem Dev.put_rbb (d : Dev) (k : Nat) (v : Word) : (d.put k v).rbb = d.rbb := rfl
@[simp] theorem Dev.put_fus (d : Dev) (k : Nat) (v : Word) : (d.put k v).fus = d.fus := rfl
@[simp] theorem Dev.put_slv (d : Dev) (k : Nat) (v : Word) : (d.put k v).slv = d.slv := rfl
@[simp] theorem Dev.put_law (d : Dev) (k : Nat) (v : Word) : (d.put k v).law = d.law := rfl
@[simp] theorem Dev.put_lpe (d : Dev) (k : Nat) (v : Word) : (d.put k v).lpe = d.lpe := rfl
@[simp] theorem Dev.put_prc (d : Dev) (k : Nat) (v : Word) : (d.put k v).prc = d.prc := rfl
@[simp] theorem Dev.put_sfm (d : Dev) (k : Nat) (v : Word) : (d.put k v).sfm = d.sfm := rfl
@[simp] theorem Dev.put_can (d : Dev) (k : Nat) (v : Word) : (d.put k v).can = d.can := rfl
@[simp] theorem Dev.put_sw (d : Dev) (k : Nat) (v : Word) : (d.put k v).sw = d.sw := rfl
@[simp] theorem Dev.put_nym (d : Dev) (k : Nat) (v : Word) : (d.put k v).nym = d.nym := rfl
@[simp] theorem Dev.put_field (d : Dev) (k : Nat) (v : Word) : (d.put k v).field = d.field := rfl
@[simp] theorem Dev.put_memd (d : Dev) (k : Nat) (v : Word) : (d.put k v).memd = d.memd := rfl
@[simp] theorem Dev.put_evr (d : Dev) (k : Nat) (v : Word) : (d.put k v).evr = d.evr := rfl
@[simp] theorem Dev.put_hck (d : Dev) (k : Nat) (v : Word) : (d.put k v).hck = d.hck := rfl
@[simp] theorem Dev.put_stu (d : Dev) (k : Nat) (v : Word) : (d.put k v).stu = d.stu := rfl
@[simp] theorem Dev.put_uarts (d : Dev) (k : Nat) (v : Word) : (d.put k v).uarts = d.uarts := rfl
@[simp] theorem Dev.put_pwr (d : Dev) (k : Nat) (v : Word) : (d.put k v).pwr = d.pwr := rfl

@[simp] theorem Dev.putN_tick (d : Dev) (k v : Nat) : (d.putN k v).tick = d.tick := rfl
@[simp] theorem Dev.putN_acc (d : Dev) (k v : Nat) : (d.putN k v).acc = d.acc := rfl
@[simp] theorem Dev.putN_occ (d : Dev) (k v : Nat) : (d.putN k v).occ = d.occ := rfl
@[simp] theorem Dev.putN_limits (d : Dev) (k v : Nat) : (d.putN k v).limits = d.limits := rfl
@[simp] theorem Dev.putN_free (d : Dev) (k v : Nat) : (d.putN k v).free = d.free := rfl
@[simp] theorem Dev.putN_flow (d : Dev) (k v : Nat) : (d.putN k v).flow = d.flow := rfl
@[simp] theorem Dev.putN_modes (d : Dev) (k v : Nat) : (d.putN k v).modes = d.modes := rfl
@[simp] theorem Dev.putN_esc (d : Dev) (k v : Nat) : (d.putN k v).esc = d.esc := rfl
@[simp] theorem Dev.putN_tbu (d : Dev) (k v : Nat) : (d.putN k v).tbu = d.tbu := rfl
@[simp] theorem Dev.putN_rbb (d : Dev) (k v : Nat) : (d.putN k v).rbb = d.rbb := rfl
@[simp] theorem Dev.putN_fus (d : Dev) (k v : Nat) : (d.putN k v).fus = d.fus := rfl
@[simp] theorem Dev.putN_slv (d : Dev) (k v : Nat) : (d.putN k v).slv = d.slv := rfl
@[simp] theorem Dev.putN_law (d : Dev) (k v : Nat) : (d.putN k v).law = d.law := rfl
@[simp] theorem Dev.putN_lpe (d : Dev) (k v : Nat) : (d.putN k v).lpe = d.lpe := rfl
@[simp] theorem Dev.putN_prc (d : Dev) (k v : Nat) : (d.putN k v).prc = d.prc := rfl
@[simp] theorem Dev.putN_sfm (d : Dev) (k v : Nat) : (d.putN k v).sfm = d.sfm := rfl
@[simp] theorem Dev.putN_can (d : Dev) (k v : Nat) : (d.putN k v).can = d.can := rfl
@[simp] theorem Dev.putN_sw (d : Dev) (k v : Nat) : (d.putN k v).sw = d.sw := rfl
@[simp] theorem Dev.putN_nym (d : Dev) (k v : Nat) : (d.putN k v).nym = d.nym := rfl
@[simp] theorem Dev.putN_field (d : Dev) (k v : Nat) : (d.putN k v).field = d.field := rfl
@[simp] theorem Dev.putN_memd (d : Dev) (k v : Nat) : (d.putN k v).memd = d.memd := rfl
@[simp] theorem Dev.putN_evr (d : Dev) (k v : Nat) : (d.putN k v).evr = d.evr := rfl
@[simp] theorem Dev.putN_hck (d : Dev) (k v : Nat) : (d.putN k v).hck = d.hck := rfl
@[simp] theorem Dev.putN_stu (d : Dev) (k v : Nat) : (d.putN k v).stu = d.stu := rfl
@[simp] theorem Dev.putN_uarts (d : Dev) (k v : Nat) : (d.putN k v).uarts = d.uarts := rfl
@[simp] theorem Dev.putN_pwr (d : Dev) (k v : Nat) : (d.putN k v).pwr = d.pwr := rfl

@[simp] theorem Dev.putI_tick (d : Dev) (k : Nat) (i : Int) : (d.putI k i).tick = d.tick := rfl
@[simp] theorem Dev.putI_acc (d : Dev) (k : Nat) (i : Int) : (d.putI k i).acc = d.acc := rfl
@[simp] theorem Dev.putI_occ (d : Dev) (k : Nat) (i : Int) : (d.putI k i).occ = d.occ := rfl
@[simp] theorem Dev.putI_limits (d : Dev) (k : Nat) (i : Int) : (d.putI k i).limits = d.limits := rfl
@[simp] theorem Dev.putI_free (d : Dev) (k : Nat) (i : Int) : (d.putI k i).free = d.free := rfl
@[simp] theorem Dev.putI_flow (d : Dev) (k : Nat) (i : Int) : (d.putI k i).flow = d.flow := rfl
@[simp] theorem Dev.putI_modes (d : Dev) (k : Nat) (i : Int) : (d.putI k i).modes = d.modes := rfl
@[simp] theorem Dev.putI_esc (d : Dev) (k : Nat) (i : Int) : (d.putI k i).esc = d.esc := rfl
@[simp] theorem Dev.putI_tbu (d : Dev) (k : Nat) (i : Int) : (d.putI k i).tbu = d.tbu := rfl
@[simp] theorem Dev.putI_rbb (d : Dev) (k : Nat) (i : Int) : (d.putI k i).rbb = d.rbb := rfl
@[simp] theorem Dev.putI_fus (d : Dev) (k : Nat) (i : Int) : (d.putI k i).fus = d.fus := rfl
@[simp] theorem Dev.putI_slv (d : Dev) (k : Nat) (i : Int) : (d.putI k i).slv = d.slv := rfl
@[simp] theorem Dev.putI_law (d : Dev) (k : Nat) (i : Int) : (d.putI k i).law = d.law := rfl
@[simp] theorem Dev.putI_lpe (d : Dev) (k : Nat) (i : Int) : (d.putI k i).lpe = d.lpe := rfl
@[simp] theorem Dev.putI_prc (d : Dev) (k : Nat) (i : Int) : (d.putI k i).prc = d.prc := rfl
@[simp] theorem Dev.putI_sfm (d : Dev) (k : Nat) (i : Int) : (d.putI k i).sfm = d.sfm := rfl
@[simp] theorem Dev.putI_can (d : Dev) (k : Nat) (i : Int) : (d.putI k i).can = d.can := rfl
@[simp] theorem Dev.putI_sw (d : Dev) (k : Nat) (i : Int) : (d.putI k i).sw = d.sw := rfl
@[simp] theorem Dev.putI_nym (d : Dev) (k : Nat) (i : Int) : (d.putI k i).nym = d.nym := rfl
@[simp] theorem Dev.putI_field (d : Dev) (k : Nat) (i : Int) : (d.putI k i).field = d.field := rfl
@[simp] theorem Dev.putI_memd (d : Dev) (k : Nat) (i : Int) : (d.putI k i).memd = d.memd := rfl
@[simp] theorem Dev.putI_evr (d : Dev) (k : Nat) (i : Int) : (d.putI k i).evr = d.evr := rfl
@[simp] theorem Dev.putI_hck (d : Dev) (k : Nat) (i : Int) : (d.putI k i).hck = d.hck := rfl
@[simp] theorem Dev.putI_stu (d : Dev) (k : Nat) (i : Int) : (d.putI k i).stu = d.stu := rfl
@[simp] theorem Dev.putI_uarts (d : Dev) (k : Nat) (i : Int) : (d.putI k i).uarts = d.uarts := rfl
@[simp] theorem Dev.putI_pwr (d : Dev) (k : Nat) (i : Int) : (d.putI k i).pwr = d.pwr := rfl

@[simp] theorem Dev.putF_tick (d : Dev) (k lo n v : Nat) : (d.putF k lo n v).tick = d.tick := rfl
@[simp] theorem Dev.putF_acc (d : Dev) (k lo n v : Nat) : (d.putF k lo n v).acc = d.acc := rfl
@[simp] theorem Dev.putF_occ (d : Dev) (k lo n v : Nat) : (d.putF k lo n v).occ = d.occ := rfl
@[simp] theorem Dev.putF_limits (d : Dev) (k lo n v : Nat) : (d.putF k lo n v).limits = d.limits := rfl
@[simp] theorem Dev.putF_free (d : Dev) (k lo n v : Nat) : (d.putF k lo n v).free = d.free := rfl
@[simp] theorem Dev.putF_flow (d : Dev) (k lo n v : Nat) : (d.putF k lo n v).flow = d.flow := rfl
@[simp] theorem Dev.putF_modes (d : Dev) (k lo n v : Nat) : (d.putF k lo n v).modes = d.modes := rfl
@[simp] theorem Dev.putF_esc (d : Dev) (k lo n v : Nat) : (d.putF k lo n v).esc = d.esc := rfl
@[simp] theorem Dev.putF_tbu (d : Dev) (k lo n v : Nat) : (d.putF k lo n v).tbu = d.tbu := rfl
@[simp] theorem Dev.putF_rbb (d : Dev) (k lo n v : Nat) : (d.putF k lo n v).rbb = d.rbb := rfl
@[simp] theorem Dev.putF_fus (d : Dev) (k lo n v : Nat) : (d.putF k lo n v).fus = d.fus := rfl
@[simp] theorem Dev.putF_slv (d : Dev) (k lo n v : Nat) : (d.putF k lo n v).slv = d.slv := rfl
@[simp] theorem Dev.putF_law (d : Dev) (k lo n v : Nat) : (d.putF k lo n v).law = d.law := rfl
@[simp] theorem Dev.putF_lpe (d : Dev) (k lo n v : Nat) : (d.putF k lo n v).lpe = d.lpe := rfl
@[simp] theorem Dev.putF_prc (d : Dev) (k lo n v : Nat) : (d.putF k lo n v).prc = d.prc := rfl
@[simp] theorem Dev.putF_sfm (d : Dev) (k lo n v : Nat) : (d.putF k lo n v).sfm = d.sfm := rfl
@[simp] theorem Dev.putF_can (d : Dev) (k lo n v : Nat) : (d.putF k lo n v).can = d.can := rfl
@[simp] theorem Dev.putF_sw (d : Dev) (k lo n v : Nat) : (d.putF k lo n v).sw = d.sw := rfl
@[simp] theorem Dev.putF_nym (d : Dev) (k lo n v : Nat) : (d.putF k lo n v).nym = d.nym := rfl
@[simp] theorem Dev.putF_field (d : Dev) (k lo n v : Nat) : (d.putF k lo n v).field = d.field := rfl
@[simp] theorem Dev.putF_memd (d : Dev) (k lo n v : Nat) : (d.putF k lo n v).memd = d.memd := rfl
@[simp] theorem Dev.putF_evr (d : Dev) (k lo n v : Nat) : (d.putF k lo n v).evr = d.evr := rfl
@[simp] theorem Dev.putF_hck (d : Dev) (k lo n v : Nat) : (d.putF k lo n v).hck = d.hck := rfl
@[simp] theorem Dev.putF_stu (d : Dev) (k lo n v : Nat) : (d.putF k lo n v).stu = d.stu := rfl
@[simp] theorem Dev.putF_uarts (d : Dev) (k lo n v : Nat) : (d.putF k lo n v).uarts = d.uarts := rfl
@[simp] theorem Dev.putF_pwr (d : Dev) (k lo n v : Nat) : (d.putF k lo n v).pwr = d.pwr := rfl

@[simp] theorem Dev.putB_tick (d : Dev) (k i : Nat) (b : Bool) : (d.putB k i b).tick = d.tick := rfl
@[simp] theorem Dev.putB_acc (d : Dev) (k i : Nat) (b : Bool) : (d.putB k i b).acc = d.acc := rfl
@[simp] theorem Dev.putB_occ (d : Dev) (k i : Nat) (b : Bool) : (d.putB k i b).occ = d.occ := rfl
@[simp] theorem Dev.putB_limits (d : Dev) (k i : Nat) (b : Bool) : (d.putB k i b).limits = d.limits := rfl
@[simp] theorem Dev.putB_free (d : Dev) (k i : Nat) (b : Bool) : (d.putB k i b).free = d.free := rfl
@[simp] theorem Dev.putB_flow (d : Dev) (k i : Nat) (b : Bool) : (d.putB k i b).flow = d.flow := rfl
@[simp] theorem Dev.putB_modes (d : Dev) (k i : Nat) (b : Bool) : (d.putB k i b).modes = d.modes := rfl
@[simp] theorem Dev.putB_esc (d : Dev) (k i : Nat) (b : Bool) : (d.putB k i b).esc = d.esc := rfl
@[simp] theorem Dev.putB_tbu (d : Dev) (k i : Nat) (b : Bool) : (d.putB k i b).tbu = d.tbu := rfl
@[simp] theorem Dev.putB_rbb (d : Dev) (k i : Nat) (b : Bool) : (d.putB k i b).rbb = d.rbb := rfl
@[simp] theorem Dev.putB_fus (d : Dev) (k i : Nat) (b : Bool) : (d.putB k i b).fus = d.fus := rfl
@[simp] theorem Dev.putB_slv (d : Dev) (k i : Nat) (b : Bool) : (d.putB k i b).slv = d.slv := rfl
@[simp] theorem Dev.putB_law (d : Dev) (k i : Nat) (b : Bool) : (d.putB k i b).law = d.law := rfl
@[simp] theorem Dev.putB_lpe (d : Dev) (k i : Nat) (b : Bool) : (d.putB k i b).lpe = d.lpe := rfl
@[simp] theorem Dev.putB_prc (d : Dev) (k i : Nat) (b : Bool) : (d.putB k i b).prc = d.prc := rfl
@[simp] theorem Dev.putB_sfm (d : Dev) (k i : Nat) (b : Bool) : (d.putB k i b).sfm = d.sfm := rfl
@[simp] theorem Dev.putB_can (d : Dev) (k i : Nat) (b : Bool) : (d.putB k i b).can = d.can := rfl
@[simp] theorem Dev.putB_sw (d : Dev) (k i : Nat) (b : Bool) : (d.putB k i b).sw = d.sw := rfl
@[simp] theorem Dev.putB_nym (d : Dev) (k i : Nat) (b : Bool) : (d.putB k i b).nym = d.nym := rfl
@[simp] theorem Dev.putB_field (d : Dev) (k i : Nat) (b : Bool) : (d.putB k i b).field = d.field := rfl
@[simp] theorem Dev.putB_memd (d : Dev) (k i : Nat) (b : Bool) : (d.putB k i b).memd = d.memd := rfl
@[simp] theorem Dev.putB_evr (d : Dev) (k i : Nat) (b : Bool) : (d.putB k i b).evr = d.evr := rfl
@[simp] theorem Dev.putB_hck (d : Dev) (k i : Nat) (b : Bool) : (d.putB k i b).hck = d.hck := rfl
@[simp] theorem Dev.putB_stu (d : Dev) (k i : Nat) (b : Bool) : (d.putB k i b).stu = d.stu := rfl
@[simp] theorem Dev.putB_uarts (d : Dev) (k i : Nat) (b : Bool) : (d.putB k i b).uarts = d.uarts := rfl
@[simp] theorem Dev.putB_pwr (d : Dev) (k i : Nat) (b : Bool) : (d.putB k i b).pwr = d.pwr := rfl

@[simp] theorem Dev.sat_tick (d : Dev) (k lo n m : Nat) : (d.sat k lo n m).tick = d.tick := rfl
@[simp] theorem Dev.sat_acc (d : Dev) (k lo n m : Nat) : (d.sat k lo n m).acc = d.acc := rfl
@[simp] theorem Dev.sat_occ (d : Dev) (k lo n m : Nat) : (d.sat k lo n m).occ = d.occ := rfl
@[simp] theorem Dev.sat_limits (d : Dev) (k lo n m : Nat) : (d.sat k lo n m).limits = d.limits := rfl
@[simp] theorem Dev.sat_free (d : Dev) (k lo n m : Nat) : (d.sat k lo n m).free = d.free := rfl
@[simp] theorem Dev.sat_flow (d : Dev) (k lo n m : Nat) : (d.sat k lo n m).flow = d.flow := rfl
@[simp] theorem Dev.sat_modes (d : Dev) (k lo n m : Nat) : (d.sat k lo n m).modes = d.modes := rfl
@[simp] theorem Dev.sat_esc (d : Dev) (k lo n m : Nat) : (d.sat k lo n m).esc = d.esc := rfl
@[simp] theorem Dev.sat_tbu (d : Dev) (k lo n m : Nat) : (d.sat k lo n m).tbu = d.tbu := rfl
@[simp] theorem Dev.sat_rbb (d : Dev) (k lo n m : Nat) : (d.sat k lo n m).rbb = d.rbb := rfl
@[simp] theorem Dev.sat_fus (d : Dev) (k lo n m : Nat) : (d.sat k lo n m).fus = d.fus := rfl
@[simp] theorem Dev.sat_slv (d : Dev) (k lo n m : Nat) : (d.sat k lo n m).slv = d.slv := rfl
@[simp] theorem Dev.sat_law (d : Dev) (k lo n m : Nat) : (d.sat k lo n m).law = d.law := rfl
@[simp] theorem Dev.sat_lpe (d : Dev) (k lo n m : Nat) : (d.sat k lo n m).lpe = d.lpe := rfl
@[simp] theorem Dev.sat_prc (d : Dev) (k lo n m : Nat) : (d.sat k lo n m).prc = d.prc := rfl
@[simp] theorem Dev.sat_sfm (d : Dev) (k lo n m : Nat) : (d.sat k lo n m).sfm = d.sfm := rfl
@[simp] theorem Dev.sat_can (d : Dev) (k lo n m : Nat) : (d.sat k lo n m).can = d.can := rfl
@[simp] theorem Dev.sat_sw (d : Dev) (k lo n m : Nat) : (d.sat k lo n m).sw = d.sw := rfl
@[simp] theorem Dev.sat_nym (d : Dev) (k lo n m : Nat) : (d.sat k lo n m).nym = d.nym := rfl
@[simp] theorem Dev.sat_field (d : Dev) (k lo n m : Nat) : (d.sat k lo n m).field = d.field := rfl
@[simp] theorem Dev.sat_memd (d : Dev) (k lo n m : Nat) : (d.sat k lo n m).memd = d.memd := rfl
@[simp] theorem Dev.sat_evr (d : Dev) (k lo n m : Nat) : (d.sat k lo n m).evr = d.evr := rfl
@[simp] theorem Dev.sat_hck (d : Dev) (k lo n m : Nat) : (d.sat k lo n m).hck = d.hck := rfl
@[simp] theorem Dev.sat_stu (d : Dev) (k lo n m : Nat) : (d.sat k lo n m).stu = d.stu := rfl
@[simp] theorem Dev.sat_uarts (d : Dev) (k lo n m : Nat) : (d.sat k lo n m).uarts = d.uarts := rfl
@[simp] theorem Dev.sat_pwr (d : Dev) (k lo n m : Nat) : (d.sat k lo n m).pwr = d.pwr := rfl

@[simp] theorem Dev.wrap_tick (d : Dev) (k lo n m : Nat) : (d.wrap k lo n m).tick = d.tick := rfl
@[simp] theorem Dev.wrap_acc (d : Dev) (k lo n m : Nat) : (d.wrap k lo n m).acc = d.acc := rfl
@[simp] theorem Dev.wrap_occ (d : Dev) (k lo n m : Nat) : (d.wrap k lo n m).occ = d.occ := rfl
@[simp] theorem Dev.wrap_limits (d : Dev) (k lo n m : Nat) : (d.wrap k lo n m).limits = d.limits := rfl
@[simp] theorem Dev.wrap_free (d : Dev) (k lo n m : Nat) : (d.wrap k lo n m).free = d.free := rfl
@[simp] theorem Dev.wrap_flow (d : Dev) (k lo n m : Nat) : (d.wrap k lo n m).flow = d.flow := rfl
@[simp] theorem Dev.wrap_modes (d : Dev) (k lo n m : Nat) : (d.wrap k lo n m).modes = d.modes := rfl
@[simp] theorem Dev.wrap_esc (d : Dev) (k lo n m : Nat) : (d.wrap k lo n m).esc = d.esc := rfl
@[simp] theorem Dev.wrap_tbu (d : Dev) (k lo n m : Nat) : (d.wrap k lo n m).tbu = d.tbu := rfl
@[simp] theorem Dev.wrap_rbb (d : Dev) (k lo n m : Nat) : (d.wrap k lo n m).rbb = d.rbb := rfl
@[simp] theorem Dev.wrap_fus (d : Dev) (k lo n m : Nat) : (d.wrap k lo n m).fus = d.fus := rfl
@[simp] theorem Dev.wrap_slv (d : Dev) (k lo n m : Nat) : (d.wrap k lo n m).slv = d.slv := rfl
@[simp] theorem Dev.wrap_law (d : Dev) (k lo n m : Nat) : (d.wrap k lo n m).law = d.law := rfl
@[simp] theorem Dev.wrap_lpe (d : Dev) (k lo n m : Nat) : (d.wrap k lo n m).lpe = d.lpe := rfl
@[simp] theorem Dev.wrap_prc (d : Dev) (k lo n m : Nat) : (d.wrap k lo n m).prc = d.prc := rfl
@[simp] theorem Dev.wrap_sfm (d : Dev) (k lo n m : Nat) : (d.wrap k lo n m).sfm = d.sfm := rfl
@[simp] theorem Dev.wrap_can (d : Dev) (k lo n m : Nat) : (d.wrap k lo n m).can = d.can := rfl
@[simp] theorem Dev.wrap_sw (d : Dev) (k lo n m : Nat) : (d.wrap k lo n m).sw = d.sw := rfl
@[simp] theorem Dev.wrap_nym (d : Dev) (k lo n m : Nat) : (d.wrap k lo n m).nym = d.nym := rfl
@[simp] theorem Dev.wrap_field (d : Dev) (k lo n m : Nat) : (d.wrap k lo n m).field = d.field := rfl
@[simp] theorem Dev.wrap_memd (d : Dev) (k lo n m : Nat) : (d.wrap k lo n m).memd = d.memd := rfl
@[simp] theorem Dev.wrap_evr (d : Dev) (k lo n m : Nat) : (d.wrap k lo n m).evr = d.evr := rfl
@[simp] theorem Dev.wrap_hck (d : Dev) (k lo n m : Nat) : (d.wrap k lo n m).hck = d.hck := rfl
@[simp] theorem Dev.wrap_stu (d : Dev) (k lo n m : Nat) : (d.wrap k lo n m).stu = d.stu := rfl
@[simp] theorem Dev.wrap_uarts (d : Dev) (k lo n m : Nat) : (d.wrap k lo n m).uarts = d.uarts := rfl
@[simp] theorem Dev.wrap_pwr (d : Dev) (k lo n m : Nat) : (d.wrap k lo n m).pwr = d.pwr := rfl

@[simp] theorem Dev.bump_tick (d : Dev) (k : Nat) : (d.bump k).tick = d.tick := rfl
@[simp] theorem Dev.bump_acc (d : Dev) (k : Nat) : (d.bump k).acc = d.acc := rfl
@[simp] theorem Dev.bump_occ (d : Dev) (k : Nat) : (d.bump k).occ = d.occ := rfl
@[simp] theorem Dev.bump_limits (d : Dev) (k : Nat) : (d.bump k).limits = d.limits := rfl
@[simp] theorem Dev.bump_free (d : Dev) (k : Nat) : (d.bump k).free = d.free := rfl
@[simp] theorem Dev.bump_flow (d : Dev) (k : Nat) : (d.bump k).flow = d.flow := rfl
@[simp] theorem Dev.bump_modes (d : Dev) (k : Nat) : (d.bump k).modes = d.modes := rfl
@[simp] theorem Dev.bump_esc (d : Dev) (k : Nat) : (d.bump k).esc = d.esc := rfl
@[simp] theorem Dev.bump_tbu (d : Dev) (k : Nat) : (d.bump k).tbu = d.tbu := rfl
@[simp] theorem Dev.bump_rbb (d : Dev) (k : Nat) : (d.bump k).rbb = d.rbb := rfl
@[simp] theorem Dev.bump_fus (d : Dev) (k : Nat) : (d.bump k).fus = d.fus := rfl
@[simp] theorem Dev.bump_slv (d : Dev) (k : Nat) : (d.bump k).slv = d.slv := rfl
@[simp] theorem Dev.bump_law (d : Dev) (k : Nat) : (d.bump k).law = d.law := rfl
@[simp] theorem Dev.bump_lpe (d : Dev) (k : Nat) : (d.bump k).lpe = d.lpe := rfl
@[simp] theorem Dev.bump_prc (d : Dev) (k : Nat) : (d.bump k).prc = d.prc := rfl
@[simp] theorem Dev.bump_sfm (d : Dev) (k : Nat) : (d.bump k).sfm = d.sfm := rfl
@[simp] theorem Dev.bump_can (d : Dev) (k : Nat) : (d.bump k).can = d.can := rfl
@[simp] theorem Dev.bump_sw (d : Dev) (k : Nat) : (d.bump k).sw = d.sw := rfl
@[simp] theorem Dev.bump_nym (d : Dev) (k : Nat) : (d.bump k).nym = d.nym := rfl
@[simp] theorem Dev.bump_field (d : Dev) (k : Nat) : (d.bump k).field = d.field := rfl
@[simp] theorem Dev.bump_memd (d : Dev) (k : Nat) : (d.bump k).memd = d.memd := rfl
@[simp] theorem Dev.bump_evr (d : Dev) (k : Nat) : (d.bump k).evr = d.evr := rfl
@[simp] theorem Dev.bump_hck (d : Dev) (k : Nat) : (d.bump k).hck = d.hck := rfl
@[simp] theorem Dev.bump_stu (d : Dev) (k : Nat) : (d.bump k).stu = d.stu := rfl
@[simp] theorem Dev.bump_uarts (d : Dev) (k : Nat) : (d.bump k).uarts = d.uarts := rfl
@[simp] theorem Dev.bump_pwr (d : Dev) (k : Nat) : (d.bump k).pwr = d.pwr := rfl

@[simp] theorem Dev.put64_tick (d : Dev) (lo hi v : Nat) : (d.put64 lo hi v).tick = d.tick := rfl
@[simp] theorem Dev.put64_acc (d : Dev) (lo hi v : Nat) : (d.put64 lo hi v).acc = d.acc := rfl
@[simp] theorem Dev.put64_occ (d : Dev) (lo hi v : Nat) : (d.put64 lo hi v).occ = d.occ := rfl
@[simp] theorem Dev.put64_limits (d : Dev) (lo hi v : Nat) : (d.put64 lo hi v).limits = d.limits := rfl
@[simp] theorem Dev.put64_free (d : Dev) (lo hi v : Nat) : (d.put64 lo hi v).free = d.free := rfl
@[simp] theorem Dev.put64_flow (d : Dev) (lo hi v : Nat) : (d.put64 lo hi v).flow = d.flow := rfl
@[simp] theorem Dev.put64_modes (d : Dev) (lo hi v : Nat) : (d.put64 lo hi v).modes = d.modes := rfl
@[simp] theorem Dev.put64_esc (d : Dev) (lo hi v : Nat) : (d.put64 lo hi v).esc = d.esc := rfl
@[simp] theorem Dev.put64_tbu (d : Dev) (lo hi v : Nat) : (d.put64 lo hi v).tbu = d.tbu := rfl
@[simp] theorem Dev.put64_rbb (d : Dev) (lo hi v : Nat) : (d.put64 lo hi v).rbb = d.rbb := rfl
@[simp] theorem Dev.put64_fus (d : Dev) (lo hi v : Nat) : (d.put64 lo hi v).fus = d.fus := rfl
@[simp] theorem Dev.put64_slv (d : Dev) (lo hi v : Nat) : (d.put64 lo hi v).slv = d.slv := rfl
@[simp] theorem Dev.put64_law (d : Dev) (lo hi v : Nat) : (d.put64 lo hi v).law = d.law := rfl
@[simp] theorem Dev.put64_lpe (d : Dev) (lo hi v : Nat) : (d.put64 lo hi v).lpe = d.lpe := rfl
@[simp] theorem Dev.put64_prc (d : Dev) (lo hi v : Nat) : (d.put64 lo hi v).prc = d.prc := rfl
@[simp] theorem Dev.put64_sfm (d : Dev) (lo hi v : Nat) : (d.put64 lo hi v).sfm = d.sfm := rfl
@[simp] theorem Dev.put64_can (d : Dev) (lo hi v : Nat) : (d.put64 lo hi v).can = d.can := rfl
@[simp] theorem Dev.put64_sw (d : Dev) (lo hi v : Nat) : (d.put64 lo hi v).sw = d.sw := rfl
@[simp] theorem Dev.put64_nym (d : Dev) (lo hi v : Nat) : (d.put64 lo hi v).nym = d.nym := rfl
@[simp] theorem Dev.put64_field (d : Dev) (lo hi v : Nat) : (d.put64 lo hi v).field = d.field := rfl
@[simp] theorem Dev.put64_memd (d : Dev) (lo hi v : Nat) : (d.put64 lo hi v).memd = d.memd := rfl
@[simp] theorem Dev.put64_evr (d : Dev) (lo hi v : Nat) : (d.put64 lo hi v).evr = d.evr := rfl
@[simp] theorem Dev.put64_hck (d : Dev) (lo hi v : Nat) : (d.put64 lo hi v).hck = d.hck := rfl
@[simp] theorem Dev.put64_stu (d : Dev) (lo hi v : Nat) : (d.put64 lo hi v).stu = d.stu := rfl
@[simp] theorem Dev.put64_uarts (d : Dev) (lo hi v : Nat) : (d.put64 lo hi v).uarts = d.uarts := rfl
@[simp] theorem Dev.put64_pwr (d : Dev) (lo hi v : Nat) : (d.put64 lo hi v).pwr = d.pwr := rfl

@[simp] theorem Dev.irq_tick (d : Dev) (page i : Nat) : (d.irq page i).tick = d.tick := rfl
@[simp] theorem Dev.irq_acc (d : Dev) (page i : Nat) : (d.irq page i).acc = d.acc := rfl
@[simp] theorem Dev.irq_occ (d : Dev) (page i : Nat) : (d.irq page i).occ = d.occ := rfl
@[simp] theorem Dev.irq_limits (d : Dev) (page i : Nat) : (d.irq page i).limits = d.limits := rfl
@[simp] theorem Dev.irq_free (d : Dev) (page i : Nat) : (d.irq page i).free = d.free := rfl
@[simp] theorem Dev.irq_flow (d : Dev) (page i : Nat) : (d.irq page i).flow = d.flow := rfl
@[simp] theorem Dev.irq_modes (d : Dev) (page i : Nat) : (d.irq page i).modes = d.modes := rfl
@[simp] theorem Dev.irq_esc (d : Dev) (page i : Nat) : (d.irq page i).esc = d.esc := rfl
@[simp] theorem Dev.irq_tbu (d : Dev) (page i : Nat) : (d.irq page i).tbu = d.tbu := rfl
@[simp] theorem Dev.irq_rbb (d : Dev) (page i : Nat) : (d.irq page i).rbb = d.rbb := rfl
@[simp] theorem Dev.irq_fus (d : Dev) (page i : Nat) : (d.irq page i).fus = d.fus := rfl
@[simp] theorem Dev.irq_slv (d : Dev) (page i : Nat) : (d.irq page i).slv = d.slv := rfl
@[simp] theorem Dev.irq_law (d : Dev) (page i : Nat) : (d.irq page i).law = d.law := rfl
@[simp] theorem Dev.irq_lpe (d : Dev) (page i : Nat) : (d.irq page i).lpe = d.lpe := rfl
@[simp] theorem Dev.irq_prc (d : Dev) (page i : Nat) : (d.irq page i).prc = d.prc := rfl
@[simp] theorem Dev.irq_sfm (d : Dev) (page i : Nat) : (d.irq page i).sfm = d.sfm := rfl
@[simp] theorem Dev.irq_can (d : Dev) (page i : Nat) : (d.irq page i).can = d.can := rfl
@[simp] theorem Dev.irq_sw (d : Dev) (page i : Nat) : (d.irq page i).sw = d.sw := rfl
@[simp] theorem Dev.irq_nym (d : Dev) (page i : Nat) : (d.irq page i).nym = d.nym := rfl
@[simp] theorem Dev.irq_field (d : Dev) (page i : Nat) : (d.irq page i).field = d.field := rfl
@[simp] theorem Dev.irq_memd (d : Dev) (page i : Nat) : (d.irq page i).memd = d.memd := rfl
@[simp] theorem Dev.irq_evr (d : Dev) (page i : Nat) : (d.irq page i).evr = d.evr := rfl
@[simp] theorem Dev.irq_hck (d : Dev) (page i : Nat) : (d.irq page i).hck = d.hck := rfl
@[simp] theorem Dev.irq_stu (d : Dev) (page i : Nat) : (d.irq page i).stu = d.stu := rfl
@[simp] theorem Dev.irq_uarts (d : Dev) (page i : Nat) : (d.irq page i).uarts = d.uarts := rfl
@[simp] theorem Dev.irq_pwr (d : Dev) (page i : Nat) : (d.irq page i).pwr = d.pwr := rfl

@[simp] theorem Dev.event_tick (d : Dev) (code : Nat) (ps : List Int) : (d.event code ps).tick = d.tick := rfl
@[simp] theorem Dev.event_acc (d : Dev) (code : Nat) (ps : List Int) : (d.event code ps).acc = d.acc := rfl
@[simp] theorem Dev.event_regs (d : Dev) (code : Nat) (ps : List Int) : (d.event code ps).regs = d.regs := rfl
@[simp] theorem Dev.event_limits (d : Dev) (code : Nat) (ps : List Int) : (d.event code ps).limits = d.limits := rfl
@[simp] theorem Dev.event_free (d : Dev) (code : Nat) (ps : List Int) : (d.event code ps).free = d.free := rfl
@[simp] theorem Dev.event_flow (d : Dev) (code : Nat) (ps : List Int) : (d.event code ps).flow = d.flow := rfl
@[simp] theorem Dev.event_modes (d : Dev) (code : Nat) (ps : List Int) : (d.event code ps).modes = d.modes := rfl
@[simp] theorem Dev.event_esc (d : Dev) (code : Nat) (ps : List Int) : (d.event code ps).esc = d.esc := rfl
@[simp] theorem Dev.event_tbu (d : Dev) (code : Nat) (ps : List Int) : (d.event code ps).tbu = d.tbu := rfl
@[simp] theorem Dev.event_rbb (d : Dev) (code : Nat) (ps : List Int) : (d.event code ps).rbb = d.rbb := rfl
@[simp] theorem Dev.event_fus (d : Dev) (code : Nat) (ps : List Int) : (d.event code ps).fus = d.fus := rfl
@[simp] theorem Dev.event_slv (d : Dev) (code : Nat) (ps : List Int) : (d.event code ps).slv = d.slv := rfl
@[simp] theorem Dev.event_law (d : Dev) (code : Nat) (ps : List Int) : (d.event code ps).law = d.law := rfl
@[simp] theorem Dev.event_lpe (d : Dev) (code : Nat) (ps : List Int) : (d.event code ps).lpe = d.lpe := rfl
@[simp] theorem Dev.event_prc (d : Dev) (code : Nat) (ps : List Int) : (d.event code ps).prc = d.prc := rfl
@[simp] theorem Dev.event_sfm (d : Dev) (code : Nat) (ps : List Int) : (d.event code ps).sfm = d.sfm := rfl
@[simp] theorem Dev.event_can (d : Dev) (code : Nat) (ps : List Int) : (d.event code ps).can = d.can := rfl
@[simp] theorem Dev.event_sw (d : Dev) (code : Nat) (ps : List Int) : (d.event code ps).sw = d.sw := rfl
@[simp] theorem Dev.event_nym (d : Dev) (code : Nat) (ps : List Int) : (d.event code ps).nym = d.nym := rfl
@[simp] theorem Dev.event_field (d : Dev) (code : Nat) (ps : List Int) : (d.event code ps).field = d.field := rfl
@[simp] theorem Dev.event_memd (d : Dev) (code : Nat) (ps : List Int) : (d.event code ps).memd = d.memd := rfl
@[simp] theorem Dev.event_evr (d : Dev) (code : Nat) (ps : List Int) : (d.event code ps).evr = d.evr := rfl
@[simp] theorem Dev.event_hck (d : Dev) (code : Nat) (ps : List Int) : (d.event code ps).hck = d.hck := rfl
@[simp] theorem Dev.event_stu (d : Dev) (code : Nat) (ps : List Int) : (d.event code ps).stu = d.stu := rfl
@[simp] theorem Dev.event_uarts (d : Dev) (code : Nat) (ps : List Int) : (d.event code ps).uarts = d.uarts := rfl
@[simp] theorem Dev.event_pwr (d : Dev) (code : Nat) (ps : List Int) : (d.event code ps).pwr = d.pwr := rfl

@[simp] theorem Dev.advanceTo_regs (d : Dev) (t : Nat) : (d.advanceTo t).regs = d.regs := rfl
@[simp] theorem Dev.advanceTo_occ (d : Dev) (t : Nat) : (d.advanceTo t).occ = d.occ := rfl
@[simp] theorem Dev.advanceTo_limits (d : Dev) (t : Nat) : (d.advanceTo t).limits = d.limits := rfl
@[simp] theorem Dev.advanceTo_free (d : Dev) (t : Nat) : (d.advanceTo t).free = d.free := rfl
@[simp] theorem Dev.advanceTo_flow (d : Dev) (t : Nat) : (d.advanceTo t).flow = d.flow := rfl
@[simp] theorem Dev.advanceTo_modes (d : Dev) (t : Nat) : (d.advanceTo t).modes = d.modes := rfl
@[simp] theorem Dev.advanceTo_esc (d : Dev) (t : Nat) : (d.advanceTo t).esc = d.esc := rfl
@[simp] theorem Dev.advanceTo_rbb (d : Dev) (t : Nat) : (d.advanceTo t).rbb = d.rbb := rfl
@[simp] theorem Dev.advanceTo_fus (d : Dev) (t : Nat) : (d.advanceTo t).fus = d.fus := rfl
@[simp] theorem Dev.advanceTo_slv (d : Dev) (t : Nat) : (d.advanceTo t).slv = d.slv := rfl
@[simp] theorem Dev.advanceTo_law (d : Dev) (t : Nat) : (d.advanceTo t).law = d.law := rfl
@[simp] theorem Dev.advanceTo_lpe (d : Dev) (t : Nat) : (d.advanceTo t).lpe = d.lpe := rfl
@[simp] theorem Dev.advanceTo_prc (d : Dev) (t : Nat) : (d.advanceTo t).prc = d.prc := rfl
@[simp] theorem Dev.advanceTo_sfm (d : Dev) (t : Nat) : (d.advanceTo t).sfm = d.sfm := rfl
@[simp] theorem Dev.advanceTo_can (d : Dev) (t : Nat) : (d.advanceTo t).can = d.can := rfl
@[simp] theorem Dev.advanceTo_sw (d : Dev) (t : Nat) : (d.advanceTo t).sw = d.sw := rfl
@[simp] theorem Dev.advanceTo_nym (d : Dev) (t : Nat) : (d.advanceTo t).nym = d.nym := rfl
@[simp] theorem Dev.advanceTo_field (d : Dev) (t : Nat) : (d.advanceTo t).field = d.field := rfl
@[simp] theorem Dev.advanceTo_memd (d : Dev) (t : Nat) : (d.advanceTo t).memd = d.memd := rfl
@[simp] theorem Dev.advanceTo_evr (d : Dev) (t : Nat) : (d.advanceTo t).evr = d.evr := rfl
@[simp] theorem Dev.advanceTo_hck (d : Dev) (t : Nat) : (d.advanceTo t).hck = d.hck := rfl
@[simp] theorem Dev.advanceTo_stu (d : Dev) (t : Nat) : (d.advanceTo t).stu = d.stu := rfl
@[simp] theorem Dev.advanceTo_uarts (d : Dev) (t : Nat) : (d.advanceTo t).uarts = d.uarts := rfl
@[simp] theorem Dev.advanceTo_pwr (d : Dev) (t : Nat) : (d.advanceTo t).pwr = d.pwr := rfl

@[simp] theorem Dev.advanceCycles_regs (d : Dev) (n : Nat) : (d.advanceCycles n).regs = d.regs := rfl
@[simp] theorem Dev.advanceCycles_occ (d : Dev) (n : Nat) : (d.advanceCycles n).occ = d.occ := rfl
@[simp] theorem Dev.advanceCycles_limits (d : Dev) (n : Nat) : (d.advanceCycles n).limits = d.limits := rfl
@[simp] theorem Dev.advanceCycles_free (d : Dev) (n : Nat) : (d.advanceCycles n).free = d.free := rfl
@[simp] theorem Dev.advanceCycles_flow (d : Dev) (n : Nat) : (d.advanceCycles n).flow = d.flow := rfl
@[simp] theorem Dev.advanceCycles_modes (d : Dev) (n : Nat) : (d.advanceCycles n).modes = d.modes := rfl
@[simp] theorem Dev.advanceCycles_esc (d : Dev) (n : Nat) : (d.advanceCycles n).esc = d.esc := rfl
@[simp] theorem Dev.advanceCycles_rbb (d : Dev) (n : Nat) : (d.advanceCycles n).rbb = d.rbb := rfl
@[simp] theorem Dev.advanceCycles_fus (d : Dev) (n : Nat) : (d.advanceCycles n).fus = d.fus := rfl
@[simp] theorem Dev.advanceCycles_slv (d : Dev) (n : Nat) : (d.advanceCycles n).slv = d.slv := rfl
@[simp] theorem Dev.advanceCycles_law (d : Dev) (n : Nat) : (d.advanceCycles n).law = d.law := rfl
@[simp] theorem Dev.advanceCycles_lpe (d : Dev) (n : Nat) : (d.advanceCycles n).lpe = d.lpe := rfl
@[simp] theorem Dev.advanceCycles_prc (d : Dev) (n : Nat) : (d.advanceCycles n).prc = d.prc := rfl
@[simp] theorem Dev.advanceCycles_sfm (d : Dev) (n : Nat) : (d.advanceCycles n).sfm = d.sfm := rfl
@[simp] theorem Dev.advanceCycles_can (d : Dev) (n : Nat) : (d.advanceCycles n).can = d.can := rfl
@[simp] theorem Dev.advanceCycles_sw (d : Dev) (n : Nat) : (d.advanceCycles n).sw = d.sw := rfl
@[simp] theorem Dev.advanceCycles_nym (d : Dev) (n : Nat) : (d.advanceCycles n).nym = d.nym := rfl
@[simp] theorem Dev.advanceCycles_field (d : Dev) (n : Nat) : (d.advanceCycles n).field = d.field := rfl
@[simp] theorem Dev.advanceCycles_memd (d : Dev) (n : Nat) : (d.advanceCycles n).memd = d.memd := rfl
@[simp] theorem Dev.advanceCycles_evr (d : Dev) (n : Nat) : (d.advanceCycles n).evr = d.evr := rfl
@[simp] theorem Dev.advanceCycles_hck (d : Dev) (n : Nat) : (d.advanceCycles n).hck = d.hck := rfl
@[simp] theorem Dev.advanceCycles_stu (d : Dev) (n : Nat) : (d.advanceCycles n).stu = d.stu := rfl
@[simp] theorem Dev.advanceCycles_uarts (d : Dev) (n : Nat) : (d.advanceCycles n).uarts = d.uarts := rfl
@[simp] theorem Dev.advanceCycles_pwr (d : Dev) (n : Nat) : (d.advanceCycles n).pwr = d.pwr := rfl

@[simp] theorem Dev.event_occ (d : Dev) (code : Nat) (ps : List Int) :
    (d.event code ps).occ = d.occ ++ [⟨code, d.tick, d.eventBeat, ps⟩] := rfl
@[simp] theorem Dev.advanceTo_tick (d : Dev) (t : Nat) : (d.advanceTo t).tick = max d.tick t := rfl
theorem Dev.advanceTo_tbu (d : Dev) (t : Nat) : (d.advanceTo t).tbu = { d.tbu with cycles := (d.advanceTo t).tbu.cycles } := rfl
@[simp] theorem Dev.advanceTo_tbu_f (d : Dev) (t : Nat) : (d.advanceTo t).tbu.f = d.tbu.f := rfl
@[simp] theorem Dev.advanceTo_tbu_left (d : Dev) (t : Nat) : (d.advanceTo t).tbu.left = d.tbu.left := rfl
@[simp] theorem Dev.advanceTo_tbu_leftTick (d : Dev) (t : Nat) : (d.advanceTo t).tbu.leftTick = d.tbu.leftTick := rfl
@[simp] theorem Dev.advanceTo_tbu_firstOffset (d : Dev) (t : Nat) : (d.advanceTo t).tbu.firstOffset = d.tbu.firstOffset := rfl
@[simp] theorem Dev.advanceTo_tbu_srcs (d : Dev) (t : Nat) : (d.advanceTo t).tbu.srcs = d.tbu.srcs := rfl
@[simp] theorem Dev.advanceTo_tbu_e0 (d : Dev) (t : Nat) : (d.advanceTo t).tbu.e0 = d.tbu.e0 := rfl
@[simp] theorem Dev.advanceTo_tbu_stepDelta (d : Dev) (t : Nat) : (d.advanceTo t).tbu.stepDelta = d.tbu.stepDelta := rfl
@[simp] theorem Dev.advanceTo_tbu_stepRest (d : Dev) (t : Nat) : (d.advanceTo t).tbu.stepRest = d.tbu.stepRest := rfl
@[simp] theorem Dev.advanceTo_tbu_stepAt (d : Dev) (t : Nat) : (d.advanceTo t).tbu.stepAt = d.tbu.stepAt := rfl
@[simp] theorem Dev.advanceTo_tbu_stepSrc (d : Dev) (t : Nat) : (d.advanceTo t).tbu.stepSrc = d.tbu.stepSrc := rfl
@[simp] theorem Dev.advanceTo_tbu_stepFirst (d : Dev) (t : Nat) : (d.advanceTo t).tbu.stepFirst = d.tbu.stepFirst := rfl
@[simp] theorem Dev.advanceTo_tbu_refLost (d : Dev) (t : Nat) : (d.advanceTo t).tbu.refLost = d.tbu.refLost := rfl
@[simp] theorem Dev.advanceTo_tbu_ppsActive (d : Dev) (t : Nat) : (d.advanceTo t).tbu.ppsActive = d.tbu.ppsActive := rfl
@[simp] theorem Dev.advanceTo_tbu_ppsOmit (d : Dev) (t : Nat) : (d.advanceTo t).tbu.ppsOmit = d.tbu.ppsOmit := rfl
@[simp] theorem Dev.advanceTo_tbu_ppsAt (d : Dev) (t : Nat) : (d.advanceTo t).tbu.ppsAt = d.tbu.ppsAt := rfl
@[simp] theorem Dev.advanceTo_tbu_lastSrc (d : Dev) (t : Nat) : (d.advanceTo t).tbu.lastSrc = d.tbu.lastSrc := rfl
@[simp] theorem Dev.advanceTo_tbu_ppsAltered (d : Dev) (t : Nat) : (d.advanceTo t).tbu.ppsAltered = d.tbu.ppsAltered := rfl
@[simp] theorem Dev.advanceTo_tbu_cmpEnd (d : Dev) (t : Nat) : (d.advanceTo t).tbu.cmpEnd = d.tbu.cmpEnd := rfl
@[simp] theorem Dev.advanceTo_tbu_cmpLate (d : Dev) (t : Nat) : (d.advanceTo t).tbu.cmpLate = d.tbu.cmpLate := rfl
@[simp] theorem Dev.advanceTo_tbu_ppsIn (d : Dev) (t : Nat) : (d.advanceTo t).tbu.ppsIn = d.tbu.ppsIn := rfl
@[simp] theorem Dev.advanceTo_tbu_ppsLabel (d : Dev) (t : Nat) : (d.advanceTo t).tbu.ppsLabel = d.tbu.ppsLabel := rfl
@[simp] theorem Dev.advanceTo_tbu_utcNext (d : Dev) (t : Nat) : (d.advanceTo t).tbu.utcNext = d.tbu.utcNext := rfl
@[simp] theorem Dev.advanceTo_tbu_gnss (d : Dev) (t : Nat) : (d.advanceTo t).tbu.gnss = d.tbu.gnss := rfl
@[simp] theorem Dev.advanceTo_tbu_gm (d : Dev) (t : Nat) : (d.advanceTo t).tbu.gm = d.tbu.gm := rfl
@[simp] theorem Dev.advanceCycles_tbu_f (d : Dev) (n : Nat) : (d.advanceCycles n).tbu.f = d.tbu.f := rfl
@[simp] theorem Dev.advanceCycles_tbu_left (d : Dev) (n : Nat) : (d.advanceCycles n).tbu.left = d.tbu.left := rfl
@[simp] theorem Dev.advanceCycles_tbu_leftTick (d : Dev) (n : Nat) : (d.advanceCycles n).tbu.leftTick = d.tbu.leftTick := rfl
@[simp] theorem Dev.advanceCycles_tbu_firstOffset (d : Dev) (n : Nat) : (d.advanceCycles n).tbu.firstOffset = d.tbu.firstOffset := rfl
@[simp] theorem Dev.advanceCycles_tbu_srcs (d : Dev) (n : Nat) : (d.advanceCycles n).tbu.srcs = d.tbu.srcs := rfl
@[simp] theorem Dev.advanceCycles_tbu_e0 (d : Dev) (n : Nat) : (d.advanceCycles n).tbu.e0 = d.tbu.e0 := rfl
@[simp] theorem Dev.advanceCycles_tbu_stepDelta (d : Dev) (n : Nat) : (d.advanceCycles n).tbu.stepDelta = d.tbu.stepDelta := rfl
@[simp] theorem Dev.advanceCycles_tbu_stepRest (d : Dev) (n : Nat) : (d.advanceCycles n).tbu.stepRest = d.tbu.stepRest := rfl
@[simp] theorem Dev.advanceCycles_tbu_stepAt (d : Dev) (n : Nat) : (d.advanceCycles n).tbu.stepAt = d.tbu.stepAt := rfl
@[simp] theorem Dev.advanceCycles_tbu_stepSrc (d : Dev) (n : Nat) : (d.advanceCycles n).tbu.stepSrc = d.tbu.stepSrc := rfl
@[simp] theorem Dev.advanceCycles_tbu_stepFirst (d : Dev) (n : Nat) : (d.advanceCycles n).tbu.stepFirst = d.tbu.stepFirst := rfl
@[simp] theorem Dev.advanceCycles_tbu_refLost (d : Dev) (n : Nat) : (d.advanceCycles n).tbu.refLost = d.tbu.refLost := rfl
@[simp] theorem Dev.advanceCycles_tbu_ppsActive (d : Dev) (n : Nat) : (d.advanceCycles n).tbu.ppsActive = d.tbu.ppsActive := rfl
@[simp] theorem Dev.advanceCycles_tbu_ppsOmit (d : Dev) (n : Nat) : (d.advanceCycles n).tbu.ppsOmit = d.tbu.ppsOmit := rfl
@[simp] theorem Dev.advanceCycles_tbu_ppsAt (d : Dev) (n : Nat) : (d.advanceCycles n).tbu.ppsAt = d.tbu.ppsAt := rfl
@[simp] theorem Dev.advanceCycles_tbu_lastSrc (d : Dev) (n : Nat) : (d.advanceCycles n).tbu.lastSrc = d.tbu.lastSrc := rfl
@[simp] theorem Dev.advanceCycles_tbu_ppsAltered (d : Dev) (n : Nat) : (d.advanceCycles n).tbu.ppsAltered = d.tbu.ppsAltered := rfl
@[simp] theorem Dev.advanceCycles_tbu_cmpEnd (d : Dev) (n : Nat) : (d.advanceCycles n).tbu.cmpEnd = d.tbu.cmpEnd := rfl
@[simp] theorem Dev.advanceCycles_tbu_cmpLate (d : Dev) (n : Nat) : (d.advanceCycles n).tbu.cmpLate = d.tbu.cmpLate := rfl
@[simp] theorem Dev.advanceCycles_tbu_ppsIn (d : Dev) (n : Nat) : (d.advanceCycles n).tbu.ppsIn = d.tbu.ppsIn := rfl
@[simp] theorem Dev.advanceCycles_tbu_ppsLabel (d : Dev) (n : Nat) : (d.advanceCycles n).tbu.ppsLabel = d.tbu.ppsLabel := rfl
@[simp] theorem Dev.advanceCycles_tbu_utcNext (d : Dev) (n : Nat) : (d.advanceCycles n).tbu.utcNext = d.tbu.utcNext := rfl
@[simp] theorem Dev.advanceCycles_tbu_gnss (d : Dev) (n : Nat) : (d.advanceCycles n).tbu.gnss = d.tbu.gnss := rfl
@[simp] theorem Dev.advanceCycles_tbu_gm (d : Dev) (n : Nat) : (d.advanceCycles n).tbu.gm = d.tbu.gm := rfl
@[simp] theorem Dev.advanceCycles_cycles (d : Dev) (n : Nat) : (d.advanceCycles n).tbu.cycles = max d.tbu.cycles n := rfl

@[simp] theorem Dev.eventSec_tick (d : Dev) (code inst : Nat) (ps : List Int) : (d.eventSec code inst ps).tick = d.tick := by
  unfold Dev.eventSec; dsimp only; split <;> rfl
@[simp] theorem Dev.eventSec_acc (d : Dev) (code inst : Nat) (ps : List Int) : (d.eventSec code inst ps).acc = d.acc := by
  unfold Dev.eventSec; dsimp only; split <;> rfl
@[simp] theorem Dev.eventSec_regs (d : Dev) (code inst : Nat) (ps : List Int) : (d.eventSec code inst ps).regs = d.regs := by
  unfold Dev.eventSec; dsimp only; split <;> rfl
@[simp] theorem Dev.eventSec_free (d : Dev) (code inst : Nat) (ps : List Int) : (d.eventSec code inst ps).free = d.free := by
  unfold Dev.eventSec; dsimp only; split <;> rfl
@[simp] theorem Dev.eventSec_flow (d : Dev) (code inst : Nat) (ps : List Int) : (d.eventSec code inst ps).flow = d.flow := by
  unfold Dev.eventSec; dsimp only; split <;> rfl
@[simp] theorem Dev.eventSec_modes (d : Dev) (code inst : Nat) (ps : List Int) : (d.eventSec code inst ps).modes = d.modes := by
  unfold Dev.eventSec; dsimp only; split <;> rfl
@[simp] theorem Dev.eventSec_esc (d : Dev) (code inst : Nat) (ps : List Int) : (d.eventSec code inst ps).esc = d.esc := by
  unfold Dev.eventSec; dsimp only; split <;> rfl
@[simp] theorem Dev.eventSec_tbu (d : Dev) (code inst : Nat) (ps : List Int) : (d.eventSec code inst ps).tbu = d.tbu := by
  unfold Dev.eventSec; dsimp only; split <;> rfl
@[simp] theorem Dev.eventSec_rbb (d : Dev) (code inst : Nat) (ps : List Int) : (d.eventSec code inst ps).rbb = d.rbb := by
  unfold Dev.eventSec; dsimp only; split <;> rfl
@[simp] theorem Dev.eventSec_fus (d : Dev) (code inst : Nat) (ps : List Int) : (d.eventSec code inst ps).fus = d.fus := by
  unfold Dev.eventSec; dsimp only; split <;> rfl
@[simp] theorem Dev.eventSec_slv (d : Dev) (code inst : Nat) (ps : List Int) : (d.eventSec code inst ps).slv = d.slv := by
  unfold Dev.eventSec; dsimp only; split <;> rfl
@[simp] theorem Dev.eventSec_law (d : Dev) (code inst : Nat) (ps : List Int) : (d.eventSec code inst ps).law = d.law := by
  unfold Dev.eventSec; dsimp only; split <;> rfl
@[simp] theorem Dev.eventSec_lpe (d : Dev) (code inst : Nat) (ps : List Int) : (d.eventSec code inst ps).lpe = d.lpe := by
  unfold Dev.eventSec; dsimp only; split <;> rfl
@[simp] theorem Dev.eventSec_prc (d : Dev) (code inst : Nat) (ps : List Int) : (d.eventSec code inst ps).prc = d.prc := by
  unfold Dev.eventSec; dsimp only; split <;> rfl
@[simp] theorem Dev.eventSec_sfm (d : Dev) (code inst : Nat) (ps : List Int) : (d.eventSec code inst ps).sfm = d.sfm := by
  unfold Dev.eventSec; dsimp only; split <;> rfl
@[simp] theorem Dev.eventSec_can (d : Dev) (code inst : Nat) (ps : List Int) : (d.eventSec code inst ps).can = d.can := by
  unfold Dev.eventSec; dsimp only; split <;> rfl
@[simp] theorem Dev.eventSec_sw (d : Dev) (code inst : Nat) (ps : List Int) : (d.eventSec code inst ps).sw = d.sw := by
  unfold Dev.eventSec; dsimp only; split <;> rfl
@[simp] theorem Dev.eventSec_nym (d : Dev) (code inst : Nat) (ps : List Int) : (d.eventSec code inst ps).nym = d.nym := by
  unfold Dev.eventSec; dsimp only; split <;> rfl
@[simp] theorem Dev.eventSec_field (d : Dev) (code inst : Nat) (ps : List Int) : (d.eventSec code inst ps).field = d.field := by
  unfold Dev.eventSec; dsimp only; split <;> rfl
@[simp] theorem Dev.eventSec_memd (d : Dev) (code inst : Nat) (ps : List Int) : (d.eventSec code inst ps).memd = d.memd := by
  unfold Dev.eventSec; dsimp only; split <;> rfl
@[simp] theorem Dev.eventSec_evr (d : Dev) (code inst : Nat) (ps : List Int) : (d.eventSec code inst ps).evr = d.evr := by
  unfold Dev.eventSec; dsimp only; split <;> rfl
@[simp] theorem Dev.eventSec_hck (d : Dev) (code inst : Nat) (ps : List Int) : (d.eventSec code inst ps).hck = d.hck := by
  unfold Dev.eventSec; dsimp only; split <;> rfl
@[simp] theorem Dev.eventSec_stu (d : Dev) (code inst : Nat) (ps : List Int) : (d.eventSec code inst ps).stu = d.stu := by
  unfold Dev.eventSec; dsimp only; split <;> rfl
@[simp] theorem Dev.eventSec_uarts (d : Dev) (code inst : Nat) (ps : List Int) : (d.eventSec code inst ps).uarts = d.uarts := by
  unfold Dev.eventSec; dsimp only; split <;> rfl
@[simp] theorem Dev.eventSec_pwr (d : Dev) (code inst : Nat) (ps : List Int) : (d.eventSec code inst ps).pwr = d.pwr := by
  unfold Dev.eventSec; dsimp only; split <;> rfl

/-! ### Operations on the configuration -/

@[simp] theorem Cfg.putH_live (c : Cfg) (k : Nat) (v : Word) : (c.putH k v).live = c.live := rfl
@[simp] theorem Cfg.putH_shadow (c : Cfg) (k : Nat) (v : Word) : (c.putH k v).shadow = c.shadow := rfl
@[simp] theorem Cfg.putH_prior (c : Cfg) (k : Nat) (v : Word) : (c.putH k v).prior = c.prior := rfl
@[simp] theorem Cfg.putH_due (c : Cfg) (k : Nat) (v : Word) : (c.putH k v).due = c.due := rfl
@[simp] theorem Cfg.putH_group (c : Cfg) (k : Nat) (v : Word) : (c.putH k v).group = c.group := rfl
@[simp] theorem Cfg.putH_esc (c : Cfg) (k : Nat) (v : Word) : (c.putH k v).esc = c.esc := rfl
@[simp] theorem Cfg.putH_staged (c : Cfg) (k : Nat) (v : Word) : (c.putH k v).staged = c.staged := rfl
@[simp] theorem Cfg.putH_imageOk (c : Cfg) (k : Nat) (v : Word) : (c.putH k v).imageOk = c.imageOk := rfl
@[simp] theorem Cfg.putH_classChecked (c : Cfg) (k : Nat) (v : Word) : (c.putH k v).classChecked = c.classChecked := rfl
@[simp] theorem Cfg.putH_neutralPct (c : Cfg) (k : Nat) (v : Word) : (c.putH k v).neutralPct = c.neutralPct := rfl
@[simp] theorem Cfg.putShadow_live (c : Cfg) (k : Nat) (v : Word) : (c.putShadow k v).live = c.live := rfl
@[simp] theorem Cfg.putShadow_hdr (c : Cfg) (k : Nat) (v : Word) : (c.putShadow k v).hdr = c.hdr := rfl
@[simp] theorem Cfg.putShadow_prior (c : Cfg) (k : Nat) (v : Word) : (c.putShadow k v).prior = c.prior := rfl
@[simp] theorem Cfg.putShadow_due (c : Cfg) (k : Nat) (v : Word) : (c.putShadow k v).due = c.due := rfl
@[simp] theorem Cfg.putShadow_group (c : Cfg) (k : Nat) (v : Word) : (c.putShadow k v).group = c.group := rfl
@[simp] theorem Cfg.putShadow_esc (c : Cfg) (k : Nat) (v : Word) : (c.putShadow k v).esc = c.esc := rfl
@[simp] theorem Cfg.putShadow_staged (c : Cfg) (k : Nat) (v : Word) : (c.putShadow k v).staged = c.staged := rfl
@[simp] theorem Cfg.putShadow_imageOk (c : Cfg) (k : Nat) (v : Word) : (c.putShadow k v).imageOk = c.imageOk := rfl
@[simp] theorem Cfg.putShadow_classChecked (c : Cfg) (k : Nat) (v : Word) : (c.putShadow k v).classChecked = c.classChecked := rfl
@[simp] theorem Cfg.putShadow_neutralPct (c : Cfg) (k : Nat) (v : Word) : (c.putShadow k v).neutralPct = c.neutralPct := rfl

/-! ### Register writes and reads by key -/

@[simp] theorem Dev.w_put_self (d : Dev) (k : Nat) (v : Word) : (d.put k v).w k = v := Assoc.get_set_self _ _ _ _

theorem Dev.w_put_ne (d : Dev) {k j : Nat} (v : Word) (h : j ≠ k) : (d.put k v).w j = d.w j := Assoc.get_set_ne _ _ _ _ h

theorem Dev.w_put (d : Dev) (k j : Nat) (v : Word) : (d.put k v).w j = if j = k then v else d.w j := by
  by_cases h : j = k
  · subst h; simp
  · simp [h, Dev.w_put_ne]

@[simp] theorem Dev.w_putN_self (d : Dev) (k v : Nat) : (d.putN k v).w k = wd v := Dev.w_put_self d k _
theorem Dev.w_putN_ne (d : Dev) {k j : Nat} (v : Nat) (h : j ≠ k) : (d.putN k v).w j = d.w j := Dev.w_put_ne d _ h
theorem Dev.w_putI_ne (d : Dev) {k j : Nat} (i : Int) (h : j ≠ k) : (d.putI k i).w j = d.w j := Dev.w_put_ne d _ h
@[simp] theorem Dev.w_putF_self (d : Dev) (k lo n v : Nat) : (d.putF k lo n v).w k = setFld (d.w k) lo n v := Dev.w_put_self d k _
theorem Dev.w_putF_ne (d : Dev) {k j : Nat} (lo n v : Nat) (h : j ≠ k) : (d.putF k lo n v).w j = d.w j := Dev.w_put_ne d _ h
@[simp] theorem Dev.w_putB_self (d : Dev) (k i : Nat) (b : Bool) : (d.putB k i b).w k = setBit (d.w k) i b := Dev.w_put_self d k _
theorem Dev.w_putB_ne (d : Dev) {k j : Nat} (i : Nat) (b : Bool) (h : j ≠ k) : (d.putB k i b).w j = d.w j := Dev.w_put_ne d _ h
@[simp] theorem Dev.w_event (d : Dev) (code : Nat) (ps : List Int) (j : Nat) : (d.event code ps).w j = d.w j := rfl
@[simp] theorem Dev.w_advanceTo (d : Dev) (t j : Nat) : (d.advanceTo t).w j = d.w j := rfl
@[simp] theorem Dev.w_advanceCycles (d : Dev) (n j : Nat) : (d.advanceCycles n).w j = d.w j := rfl
@[simp] theorem Dev.w_eventSec (d : Dev) (code inst : Nat) (ps : List Int) (j : Nat) : (d.eventSec code inst ps).w j = d.w j := by
  unfold Dev.w; simp

/-- A header register of the configuration that was written. -/
@[simp] theorem Cfg.h_putH_self (c : Cfg) (k : Nat) (v : Word) : (c.putH k v).h k = v := Assoc.get_set_self _ _ _ _
theorem Cfg.h_putH_ne (c : Cfg) {k j : Nat} (v : Word) (h : j ≠ k) : (c.putH k v).h j = c.h j := Assoc.get_set_ne _ _ _ _ h
@[simp] theorem Cfg.sh_putShadow_self (c : Cfg) (k : Nat) (v : Word) : (c.putShadow k v).sh k = v := Assoc.get_set_self _ _ _ _
theorem Cfg.sh_putShadow_ne (c : Cfg) {k j : Nat} (v : Word) (h : j ≠ k) : (c.putShadow k v).sh j = c.sh j :=
  Assoc.get_set_ne _ _ _ _ h

end Sys2Proof.Machine
end

