-- ==== Sys2Proof/Laws/Words.lean ====
section
/-! SUPPORT. Laws of the fields of words: a field that was written is read back, a field apart from it is left alone. -/
namespace Sys2Proof.Machine

theorem fld_lt (w : Word) (lo n : Nat) : fld w lo n < 2 ^ n := Nat.mod_lt _ (Nat.two_pow_pos n)

/-- A word as the parts above, in and below a field. -/
theorem word_parts (x lo n : Nat) :
    x = x / 2 ^ (lo + n) * 2 ^ (lo + n) + x / 2 ^ lo % 2 ^ n * 2 ^ lo + x % 2 ^ lo := by
  have h1 : x = x / 2 ^ lo * 2 ^ lo + x % 2 ^ lo := (Nat.div_add_mod' x _).symm
  have h2 : x / 2 ^ lo = x / 2 ^ (lo + n) * 2 ^ n + x / 2 ^ lo % 2 ^ n := by
    rw [pow_add, ← Nat.div_div_eq_div_mul]; exact (Nat.div_add_mod' _ _).symm
  have h3 : x / 2 ^ lo * 2 ^ lo = x / 2 ^ (lo + n) * 2 ^ (lo + n) + x / 2 ^ lo % 2 ^ n * 2 ^ lo := by
    conv_lhs => rw [h2]
    rw [pow_add]; ring
  omega

theorem toNat_setFld (w : Word) {lo n : Nat} (v : Nat) (h : lo + n ≤ 32) :
    (setFld w lo n v).toNat = w.toNat / 2 ^ (lo + n) * 2 ^ (lo + n) + v % 2 ^ n * 2 ^ lo + w.toNat % 2 ^ lo := by
  have hw := word_parts w.toNat lo n
  have hsub : w.toNat - fld w lo n * 2 ^ lo + v % 2 ^ n * 2 ^ lo
      = w.toNat / 2 ^ (lo + n) * 2 ^ (lo + n) + v % 2 ^ n * 2 ^ lo + w.toNat % 2 ^ lo := by
    unfold fld; omega
  rw [setFld, hsub, BitVec.toNat_ofNat]
  apply Nat.mod_eq_of_lt
  have hv : v % 2 ^ n * 2 ^ lo + w.toNat % 2 ^ lo < 2 ^ (lo + n) := by
    have a : v % 2 ^ n + 1 ≤ 2 ^ n := Nat.mod_lt _ (Nat.two_pow_pos n)
    have b : w.toNat % 2 ^ lo < 2 ^ lo := Nat.mod_lt _ (Nat.two_pow_pos lo)
    calc v % 2 ^ n * 2 ^ lo + w.toNat % 2 ^ lo < (v % 2 ^ n + 1) * 2 ^ lo := by rw [Nat.add_mul]; omega
      _ ≤ 2 ^ n * 2 ^ lo := Nat.mul_le_mul_right _ a
      _ = 2 ^ (lo + n) := by rw [pow_add]; ring
  have hq : w.toNat / 2 ^ (lo + n) < 2 ^ (32 - (lo + n)) := by
    apply Nat.div_lt_of_lt_mul
    rw [← pow_add, show lo + n + (32 - (lo + n)) = 32 by omega]
    exact w.isLt
  calc _ < w.toNat / 2 ^ (lo + n) * 2 ^ (lo + n) + 2 ^ (lo + n) := by omega
    _ = (w.toNat / 2 ^ (lo + n) + 1) * 2 ^ (lo + n) := by ring
    _ ≤ 2 ^ (32 - (lo + n)) * 2 ^ (lo + n) := Nat.mul_le_mul_right _ hq
    _ = 2 ^ 32 := by rw [← pow_add, show 32 - (lo + n) + (lo + n) = 32 by omega]

/-- The field that was written. -/
theorem fld_setFld (w : Word) {lo n : Nat} (v : Nat) (h : lo + n ≤ 32) : fld (setFld w lo n v) lo n = v % 2 ^ n := by
  have b : w.toNat % 2 ^ lo < 2 ^ lo := Nat.mod_lt _ (Nat.two_pow_pos lo)
  rw [fld, toNat_setFld w v h,
    show w.toNat / 2 ^ (lo + n) * 2 ^ (lo + n) + v % 2 ^ n * 2 ^ lo + w.toNat % 2 ^ lo
      = w.toNat % 2 ^ lo + 2 ^ lo * (w.toNat / 2 ^ (lo + n) * 2 ^ n + v % 2 ^ n) by rw [pow_add]; ring,
    Nat.add_mul_div_left _ _ (Nat.two_pow_pos lo), Nat.div_eq_of_lt b, Nat.zero_add, Nat.mul_comm,
    Nat.mul_add_mod, Nat.mod_mod]

/-- A field above the one written. -/
theorem fld_setFld_above (w : Word) {lo n lo' n' : Nat} (v : Nat) (h : lo + n ≤ 32) (ha : lo + n ≤ lo') :
    fld (setFld w lo n v) lo' n' = fld w lo' n' := by
  have hd : ∀ x : Nat, x / 2 ^ lo' = x / 2 ^ (lo + n) / 2 ^ (lo' - (lo + n)) := fun x => by
    rw [Nat.div_div_eq_div_mul, ← pow_add, show lo + n + (lo' - (lo + n)) = lo' by omega]
  have hs : v % 2 ^ n * 2 ^ lo + w.toNat % 2 ^ lo < 2 ^ (lo + n) := by
    have a : v % 2 ^ n + 1 ≤ 2 ^ n := Nat.mod_lt _ (Nat.two_pow_pos n)
    have b : w.toNat % 2 ^ lo < 2 ^ lo := Nat.mod_lt _ (Nat.two_pow_pos lo)
    calc v % 2 ^ n * 2 ^ lo + w.toNat % 2 ^ lo < (v % 2 ^ n + 1) * 2 ^ lo := by rw [Nat.add_mul]; omega
      _ ≤ 2 ^ n * 2 ^ lo := Nat.mul_le_mul_right _ a
      _ = 2 ^ (lo + n) := by rw [pow_add]; ring
  have hq : (setFld w lo n v).toNat / 2 ^ (lo + n) = w.toNat / 2 ^ (lo + n) := by
    rw [toNat_setFld w v h, Nat.add_assoc, Nat.mul_comm, Nat.mul_add_div (Nat.two_pow_pos _), Nat.div_eq_of_lt hs, Nat.add_zero]
  rw [fld, fld, hd, hd w.toNat, hq]

/-- A field below the one written. -/
theorem fld_setFld_below (w : Word) {lo n lo' n' : Nat} (v : Nat) (h : lo + n ≤ 32) (hb : lo' + n' ≤ lo) :
    fld (setFld w lo n v) lo' n' = fld w lo' n' := by
  have hm : ∀ x : Nat, x / 2 ^ lo' % 2 ^ n' = x % 2 ^ lo / 2 ^ lo' % 2 ^ n' := fun x => by
    have e : 2 ^ lo = 2 ^ lo' * 2 ^ (lo - lo') := by rw [← pow_add]; congr 1; omega
    rw [e, Nat.mod_mul_right_div_self]
    have e2 : 2 ^ (lo - lo') = 2 ^ n' * 2 ^ (lo - lo' - n') := by rw [← pow_add]; congr 1; omega
    rw [e2, Nat.mod_mul_right_mod]
  have hq : (setFld w lo n v).toNat % 2 ^ lo = w.toNat % 2 ^ lo := by
    rw [toNat_setFld w v h,
      show w.toNat / 2 ^ (lo + n) * 2 ^ (lo + n) + v % 2 ^ n * 2 ^ lo + w.toNat % 2 ^ lo
        = w.toNat % 2 ^ lo + 2 ^ lo * (w.toNat / 2 ^ (lo + n) * 2 ^ n + v % 2 ^ n) by rw [pow_add]; ring,
      Nat.add_mul_mod_self_left, Nat.mod_mod]
  rw [fld, fld, hm, hm w.toNat, hq]

/-- A bit is the field of one bit. -/
theorem bit_eq_fld (w : Word) (i : Nat) : bit w i = decide (fld w i 1 = 1) := by
  unfold bit fld
  rw [BitVec.getLsbD, Nat.testBit_eq_decide_div_mod_eq, pow_one]

theorem bit_setBit (w : Word) {i : Nat} (b : Bool) (h : i < 32) : bit (setBit w i b) i = b := by
  rw [bit_eq_fld, setBit, fld_setFld w _ (by omega)]; cases b <;> rfl

theorem bit_setBit_ne (w : Word) {i j : Nat} (b : Bool) (h : i < 32) (hj : j ≠ i) : bit (setBit w i b) j = bit w j := by
  rw [bit_eq_fld, bit_eq_fld, setBit]
  rcases Nat.lt_or_gt_of_ne hj with hlt | hgt
  · rw [fld_setFld_below w _ (by omega) (by omega)]
  · rw [fld_setFld_above w _ (by omega) (by omega)]

theorem bit_setFld_apart (w : Word) {lo n i : Nat} (v : Nat) (h : lo + n ≤ 32) (hi : i < lo ∨ lo + n ≤ i) :
    bit (setFld w lo n v) i = bit w i := by
  rw [bit_eq_fld, bit_eq_fld]
  rcases hi with hb | ha
  · rw [fld_setFld_below w _ h (by omega)]
  · rw [fld_setFld_above w _ h ha]

end Sys2Proof.Machine
end

