-- ==== Sys2Proof/Laws/Ops.lean ====
section
/-! SUPPORT. One lemma per shared operation that says what it can do: register fields of the units, outcomes of the command forms, writes
to shadow and control registers, journal and capture. -/
namespace Sys2Proof.Machine

/-! ### Fields of the units' registers -/

theorem Dev.f_lt (d : Dev) (k lo n : Nat) : d.f k lo n < 2 ^ n := fld_lt _ _ _

theorem Dev.f_putF_self (d : Dev) (k : Nat) {lo n : Nat} (v : Nat) (h : lo + n ≤ 32) : (d.putF k lo n v).f k lo n = v % 2 ^ n := by
  unfold Dev.f; rw [Dev.w_putF_self, fld_setFld _ _ h]

theorem Dev.f_putF_apart (d : Dev) (k : Nat) {lo n lo' n' : Nat} (v : Nat) (h : lo + n ≤ 32) (ha : lo + n ≤ lo' ∨ lo' + n' ≤ lo) :
    (d.putF k lo n v).f k lo' n' = d.f k lo' n' := by
  unfold Dev.f; rw [Dev.w_putF_self]
  rcases ha with ha | ha
  · exact fld_setFld_above _ _ h ha
  · exact fld_setFld_below _ _ h ha

theorem Dev.f_putF_ne (d : Dev) {k j : Nat} (lo n v lo' n' : Nat) (h : j ≠ k) : (d.putF k lo n v).f j lo' n' = d.f j lo' n' := by
  unfold Dev.f; rw [Dev.w_putF_ne d lo n v h]

theorem Dev.f_put_ne (d : Dev) {k j : Nat} (v : Word) (lo n : Nat) (h : j ≠ k) : (d.put k v).f j lo n = d.f j lo n := by
  unfold Dev.f; rw [Dev.w_put_ne d v h]

theorem Dev.f_putN_ne (d : Dev) {k j : Nat} (v lo n : Nat) (h : j ≠ k) : (d.putN k v).f j lo n = d.f j lo n := Dev.f_put_ne d _ _ _ h

theorem Dev.f_putB_ne (d : Dev) {k j : Nat} (i : Nat) (b : Bool) (lo n : Nat) (h : j ≠ k) : (d.putB k i b).f j lo n = d.f j lo n :=
  Dev.f_put_ne d _ _ _ h

theorem Dev.f_putB_apart (d : Dev) (k : Nat) {i lo n : Nat} (b : Bool) (h : i < 32) (ha : i < lo ∨ lo + n ≤ i) :
    (d.putB k i b).f k lo n = d.f k lo n := Dev.f_putF_apart d k (lo := i) (n := 1) b.toNat h (by omega)

theorem Dev.b_putB_self (d : Dev) (k : Nat) {i : Nat} (b : Bool) (h : i < 32) : (d.putB k i b).b k i = b := by
  unfold Dev.b; rw [Dev.w_putB_self, bit_setBit _ _ h]

theorem Dev.b_putB_apart (d : Dev) (k : Nat) {i j : Nat} (b : Bool) (h : i < 32) (hj : j ≠ i) : (d.putB k i b).b k j = d.b k j := by
  unfold Dev.b; rw [Dev.w_putB_self, bit_setBit_ne _ _ h hj]

theorem Dev.b_put_ne (d : Dev) {k j : Nat} (v : Word) (i : Nat) (h : j ≠ k) : (d.put k v).b j i = d.b j i := by
  unfold Dev.b; rw [Dev.w_put_ne d v h]

theorem Dev.b_putB_ne (d : Dev) {k j : Nat} (i : Nat) (b : Bool) (m : Nat) (h : j ≠ k) : (d.putB k i b).b j m = d.b j m :=
  Dev.b_put_ne d _ _ h

theorem Dev.b_putF_ne (d : Dev) {k j : Nat} (lo n v m : Nat) (h : j ≠ k) : (d.putF k lo n v).b j m = d.b j m := Dev.b_put_ne d _ _ h

theorem Dev.b_putN_ne (d : Dev) {k j : Nat} (v m : Nat) (h : j ≠ k) : (d.putN k v).b j m = d.b j m := Dev.b_put_ne d _ _ h

theorem Dev.b_putF_apart (d : Dev) (k : Nat) {lo n m : Nat} (v : Nat) (h : lo + n ≤ 32) (hm : m < lo ∨ lo + n ≤ m) :
    (d.putF k lo n v).b k m = d.b k m := by
  unfold Dev.b; rw [Dev.w_putF_self, bit_setFld_apart _ _ h hm]

/-- A 32-bit counter that counts: one more, saturating (R35). -/
theorem Dev.bump_eq (d : Dev) (k : Nat) : d.bump k = d.putN k (min ((d.w k).toNat + 1) 0xFFFFFFFF) := by
  have hf : d.f k 0 32 = (d.w k).toNat := by
    unfold Dev.f fld; rw [pow_zero, Nat.div_one, Nat.mod_eq_of_lt (d.w k).isLt]
  have hs : ∀ v : Nat, setFld (d.w k) 0 32 v = wd v := fun v => by
    have h0 : fld (d.w k) 0 32 = (d.w k).toNat := hf
    apply BitVec.eq_of_toNat_eq
    rw [setFld, h0, wd, BitVec.toNat_ofNat, BitVec.toNat_ofNat, pow_zero, Nat.mul_one, Nat.mul_one, Nat.sub_self, Nat.zero_add,
      Nat.mod_mod]
  unfold Dev.bump Dev.sat Dev.putF Dev.putN
  rw [hs, hf, satU]
  rfl

theorem Dev.bump_toNat (d : Dev) (k : Nat) : ((d.bump k).w k).toNat = min 0xFFFFFFFF ((d.w k).toNat + 1) := by
  rw [Dev.bump_eq, Dev.w_putN_self, wd, BitVec.toNat_ofNat, Nat.min_comm]
  exact Nat.mod_eq_of_lt (by omega)

theorem Dev.w_bump_ne (d : Dev) {k j : Nat} (h : j ≠ k) : (d.bump k).w j = d.w j := Dev.w_putF_ne d _ _ _ h

/-- The mode and the registers of the mode see no other register. -/
theorem Dev.mode_put (d : Dev) {k : Nat} (v : Word) (h : k ≠ SYS.MODE) : (d.put k v).mode = d.mode := Dev.f_put_ne d v _ _ h.symm
theorem Dev.mode_putF (d : Dev) {k : Nat} (lo n v : Nat) (h : k ≠ SYS.MODE) : (d.putF k lo n v).mode = d.mode := Dev.mode_put d _ h
theorem Dev.mode_putB (d : Dev) {k : Nat} (i : Nat) (b : Bool) (h : k ≠ SYS.MODE) : (d.putB k i b).mode = d.mode := Dev.mode_put d _ h
theorem Dev.mode_putN (d : Dev) {k : Nat} (v : Nat) (h : k ≠ SYS.MODE) : (d.putN k v).mode = d.mode := Dev.mode_put d _ h
@[simp] theorem Dev.mode_event (d : Dev) (code : Nat) (ps : List Int) : (d.event code ps).mode = d.mode := rfl

/-! ### The forms of commands -/

theorem onDev_eq (s : State) (f : Cfg → Dev → Dev) : onDev s f = .next { s with dev := f s.cfg s.dev } := rfl
theorem onWrite_eq (s : State) (f : Cfg → Dev → Dev) : onWrite s f = .next { s with dev := f s.cfg s.dev, bus := .done 0 } := rfl

/-- A register write through the journal: in Standby it only counts as ignored, elsewhere it is carried out, journaled when accepted. -/
theorem onControl_standby {s : State} (addr : Nat) (value : Word) (station element : Nat) (f : Cfg → Dev → Bool × Dev)
    (h : s.dev.mode = 4) : onControl s addr value station element f = .next { s.ignoreWrite (keyPage addr) with bus := .done 0 } := by
  rw [onControl, if_pos h]

theorem onControl_refused {s : State} (addr : Nat) (value : Word) (station element : Nat) (f : Cfg → Dev → Bool × Dev)
    (h : s.dev.mode ≠ 4) (hf : (f s.cfg s.dev).1 = false) :
    onControl s addr value station element f = .next { s with dev := (f s.cfg s.dev).2, bus := .done 0 } := by
  rw [onControl, if_neg h, onWrite_eq]; simp [hf]

theorem onControl_taken {s : State} (addr : Nat) (value : Word) (station element : Nat) (f : Cfg → Dev → Bool × Dev)
    (h : s.dev.mode ≠ 4) (hf : (f s.cfg s.dev).1 = true) :
    onControl s addr value station element f = .next { s with
      dev := (f s.cfg s.dev).2.journal s.cfg (.control (wd addr) value (BitVec.ofNat 8 station) (BitVec.ofNat 8 element) [])
      bus := .done 0 } := by
  rw [onControl, if_neg h, onWrite_eq]; simp [hf]

/-! ### Shadow writes (R502, R323) -/

theorem ignoreWrite_store (s : State) (page : Nat) : (s.ignoreWrite page).store = s.store := rfl
theorem ignoreWrite_live (s : State) (page : Nat) : (s.ignoreWrite page).cfg.live = s.cfg.live := rfl
theorem ignoreWrite_shadow (s : State) (page : Nat) : (s.ignoreWrite page).cfg.shadow = s.cfg.shadow := rfl

theorem writeShadow_closed {s : State} (key : Nat) (mask value : Word) (h : s.cfg.closed (keyPage key) = true) :
    s.writeShadow key mask value = s.ignoreWrite (keyPage key) := by rw [State.writeShadow, if_pos h]

/-- An open page takes the write into the shadow alone: no unit and no live register sees it. -/
theorem writeShadow_open {s : State} (key : Nat) (mask value : Word) (h : s.cfg.closed (keyPage key) = false) :
    (s.writeShadow key mask value).cfg.sh key = (s.cfg.sh key &&& ~~~mask) ||| (value &&& mask)
      ∧ (∀ j, j ≠ key → (s.writeShadow key mask value).cfg.sh j = s.cfg.sh j)
      ∧ (s.writeShadow key mask value).cfg.live = s.cfg.live
      ∧ (s.writeShadow key mask value).dev = s.dev ∧ (s.writeShadow key mask value).store = s.store := by
  have e : s.writeShadow key mask value = { s with
      cfg := (s.cfg.putShadow key ((s.cfg.sh key &&& ~~~mask) ||| (value &&& mask))).putH (hdrSTAT (keyPage key))
        (setBit ((s.cfg.putShadow key ((s.cfg.sh key &&& ~~~mask) ||| (value &&& mask))).h (hdrSTAT (keyPage key))) 0 true) } := by
    rw [State.writeShadow, if_neg (by simp [h])]
  rw [e]
  exact ⟨Cfg.sh_putShadow_self _ _ _, fun j hj => Cfg.sh_putShadow_ne _ _ hj, rfl, rfl, rfl⟩

/-! ### Journal and capture -/

/-- What waits for the pair link and what has gone over it are in the units of the pair alone (R317). -/
theorem linkPump_prc (n : Nat) (d : Dev) : linkPump n d = { d with prc := (linkPump n d).prc } := by
  induction n generalizing d with
  | zero => rfl
  | succ k ih =>
    unfold linkPump
    dsimp only
    split
    · rfl
    · split
      · rfl
      · rw [ih]

theorem linkPush_prc (d : Dev) (rank kind bytes : Nat) :
    d.linkPush rank kind bytes = { d with prc := (d.linkPush rank kind bytes).prc } := by
  unfold Dev.linkPush Dev.linkGo
  split
  · rfl
  · dsimp only
    rw [linkPump_prc, linkPump_prc _ d]

/-- A record is journaled by an active module with a partner present, and changes the units of the pair alone (R321, R322). -/
theorem journal_prc (d : Dev) (c : Cfg) (r : JournalRecord) : d.journal c r = { d with prc := (d.journal c r).prc } := by
  unfold Dev.journal
  split
  · rfl
  · cases r <;> first | rfl | exact linkPush_prc _ _ _ _

theorem journal_none {d : Dev} {c : Cfg} (r : JournalRecord) (h : journaling c d = false) : d.journal c r = d := by
  unfold Dev.journal; simp [h]

/-- Of the records only LOOP_FB leaves before the block is sealed (R321, R322). -/
theorem journal_block {d : Dev} {c : Cfg} (r : JournalRecord) (h : journaling c d = true) (hr : recordType r ≠ 0x11) :
    d.journal c r = { d with prc := { d.prc with block := d.prc.block ++ [r] } } := by
  unfold Dev.journal
  cases r <;> simp_all [recordType]

@[simp] theorem journal_w (d : Dev) (c : Cfg) (r : JournalRecord) (k : Nat) : (d.journal c r).w k = d.w k := by rw [journal_prc]; rfl
@[simp] theorem journal_tick (d : Dev) (c : Cfg) (r : JournalRecord) : (d.journal c r).tick = d.tick := by rw [journal_prc]
@[simp] theorem journal_occ (d : Dev) (c : Cfg) (r : JournalRecord) : (d.journal c r).occ = d.occ := by rw [journal_prc]
@[simp] theorem journal_flow (d : Dev) (c : Cfg) (r : JournalRecord) : (d.journal c r).flow = d.flow := by rw [journal_prc]

/-- An item leaves its producer into the captures of the beat, and no register sees it (R29). -/
theorem sendItem_flow (d : Dev) (c : Cfg) (i : Item) :
    (d.sendItem c i).flow.captured = d.flow.captured ++ [i] ∧ (∀ k, (d.sendItem c i).w k = d.w k) ∧ (d.sendItem c i).tick = d.tick
      ∧ (d.sendItem c i).occ = d.occ := by
  unfold Dev.sendItem
  exact ⟨by rw [journal_flow], fun k => journal_w _ _ _ _, journal_tick _ _ _, journal_occ _ _ _⟩

/-- The item that an input becomes (R8, R10, R11). -/
def capturedItem (d : Dev) (c : Cfg) (src cls tick bits : Nat) (payload : List Byte) : Item :=
  let src := src % 65536
  ⟨tick, src, (Assoc.get 65535 d.flow.nums src + 1) % 65536,
    quality (if sourceOutOfStep c d src then bits ||| qOUT_OF_STEP else bits), payload.take 255, cls⟩

/-- An input that passes the gate, with a credit for its class, becomes one item with the next number of its source (R8, R31, R34). -/
theorem capture_taken {d : Dev} {c : Cfg} (src cls tick bits : Nat) (payload : List Byte)
    (h : (gatedSource c d (src % 65536) && d.mode != 4) = false)
    (hc : (takeCredit (Assoc.get none d.flow.credits (src % 65536)) cls).isSome = true) :
    (d.capture c src cls tick bits payload).flow.captured = d.flow.captured ++ [capturedItem d c src cls tick bits payload]
      ∧ (∀ k, (d.capture c src cls tick bits payload).w k = d.w k) ∧ (d.capture c src cls tick bits payload).tick = d.tick
      ∧ (d.capture c src cls tick bits payload).occ = d.occ := by
  unfold Dev.capture
  simp only [h, Bool.false_eq_true, if_false]
  split
  · exact sendItem_flow _ _ _
  · simp_all

/-- A gated input only counts (R428). -/
theorem capture_gated {d : Dev} {c : Cfg} (src cls tick bits : Nat) (payload : List Byte)
    (h : (gatedSource c d (src % 65536) && d.mode != 4) = true) : d.capture c src cls tick bits payload = d.bump NYM.GATED_CNT := by
  unfold Dev.capture; simp only [h, if_true]

/-! ### The queue -/

/-- A step takes the front command and runs it on the state with the queue's rest. -/
theorem step_cons {s : State} {i : Instr} {rest : List Instr} (h : s.pending = i :: rest) : step s = exec i { s with pending := rest } := by
  unfold step; rw [h]

end Sys2Proof.Machine
end

