-- ==== Sys2Proof/Laws/Sha.lean ====
section
/-! SUPPORT. Lengths: a hash is 32 bytes, whatever was hashed; the bytes of a number, and the number they spell. -/
namespace Sys2Proof.Machine

theorem shaRound_length (h : List Word) (kw : Word × Word) (hl : h.length = 8) : (shaRound h kw).length = 8 := by
  obtain ⟨a, b, c, d, e, f, g, x, rfl⟩ : ∃ a b c d e f g x, h = [a, b, c, d, e, f, g, x] := by
    match h, hl with
    | [a, b, c, d, e, f, g, x], _ => exact ⟨a, b, c, d, e, f, g, x, rfl⟩
  rfl

theorem shaRounds_length (l : List (Word × Word)) (h : List Word) (hl : h.length = 8) : (l.foldl shaRound h).length = 8 := by
  induction l generalizing h with
  | nil => exact hl
  | cons kw l ih => exact ih _ (shaRound_length h kw hl)

theorem shaBlock_length (h : List Word) (block : List Byte) (hl : h.length = 8) : (shaBlock h block).length = 8 := by
  simp [shaBlock, shaRounds_length _ h hl, hl]

theorem shaBlocks_length (l : List (List Byte)) (h : List Word) (hl : h.length = 8) : (l.foldl shaBlock h).length = 8 := by
  induction l generalizing h with
  | nil => exact hl
  | cons b l ih => exact ih _ (shaBlock_length h b hl)

theorem sha256_length (m : List Byte) : (sha256 m).length = 32 := by
  simp [sha256, beBytes, List.length_flatMap, shaBlocks_length _ shaStart rfl]

theorem hmacSha256_length (key m : List Byte) : (hmacSha256 key m).length = 32 := sha256_length _

/-- Bytes spell a number that spells them back (R8). -/
theorem leBytes_length (n v : Nat) : (leBytes n v).length = n := by
  induction n generalizing v with
  | zero => rfl
  | succ k ih => rw [leBytes, List.length_cons, ih]

theorem leBytes_leNat (l : List Byte) : leBytes l.length (leNat l) = l := by
  induction l with
  | nil => rfl
  | cons b t ih =>
    have h1 : BitVec.ofNat 8 (b.toNat + 256 * leNat t) = b := by
      apply BitVec.eq_of_toNat_eq
      rw [BitVec.toNat_ofNat]
      have := b.isLt
      omega
    have h2 : (b.toNat + 256 * leNat t) / 256 = leNat t := by
      have := b.isLt
      omega
    simp only [leNat, leBytes, List.length_cons, h1, h2, ih]

theorem leNat_lt (l : List Byte) : leNat l < 256 ^ l.length := by
  induction l with
  | nil => decide
  | cons b t ih =>
    have := b.isLt
    simp only [leNat, List.length_cons, Nat.pow_succ]
    omega

end Sys2Proof.Machine
end

