-- ==== Sys2Proof/Tests/Slice0.lean ====
section
/-! SUPPORT. Small tests: terms that WellFormed refuses, for every statement a state and operands that meet the hypotheses of each of its
clauses, and single steps whose results the spec states. -/
namespace Sys2Proof.Tests
open Sys2Proof Sys2Proof.Machine

/-- A state after reset with these live register values and these values of the units' registers. -/
def st (live regs : List (Nat × Word)) : State := { State.reset with cfg := { live := live }, dev := { regs := regs } }

/-- The same in a mode. -/
def inMode (m : Nat) (live regs : List (Nat × Word)) : State := st live (regs ++ [(SYS.MODE, wd m)])

/-- A state with its units changed. -/
def upd (s : State) (f : Dev → Dev) : State := { s with dev := f s.dev }

/-- The command answers a next state. -/
def answers (o : Out) : Bool := match o with | .next _ => true | _ => false

/-- The state a command answers. -/
def after (o : Out) : State := match o with | .next t => t | _ => State.reset

/-- A heartbeat, an image, observations and records with every field at its plainest. -/
def hb0 : Heartbeat := ⟨false, false, false, false, false, 0, 0, 0, 0, 0, 0, true⟩
def img0 : StateImage := ⟨0, 0, 0, 0, 0, 0, [], [], [], [], {}, {}, []⟩

/-! ### Hypotheses met: one state, and operands, for each clause of each statement -/

theorem test_hyp_StepRunsFront : ({ State.reset with pending := [.linkUp] } : State).pending = [.linkUp] := by decide

theorem test_hyp_IdleStepIsOneCycle : State.reset.pending = [] ∧ State.reset.dev.acc < 5 * 2 ^ 32 := by decide

theorem test_hyp_MemoryStaysCanonical : MemoryOk State.reset ∧ answers (step State.reset) = true := by
  unfold MemoryOk; decide

theorem test_hyp_RegisterMapsStayCanonical : RegistersOk State.reset ∧ answers (step State.reset) = true := by
  unfold RegistersOk; decide

theorem test_hyp_MemoryFrame : touchesMemory .linkUp = false ∧ answers (exec .linkUp State.reset) = true := by decide

theorem test_hyp_ConfigurationFrame : touchesRegisters .linkUp = false ∧ answers (exec .linkUp State.reset) = true := by decide

theorem test_hyp_SequenceCheck :
    let s : SeqState := { last := some 65535 }
    s.last = some 65535 ∧ (0 : Nat) = (65535 + 1) % 65536 ∧ (1 : Nat) = (65535 + 2) % 65536
      ∧ (32766 : Nat) = (65535 + 32767) % 65536 ∧ (65535 : Nat) = (65534 + 1) % 65536 ∧ (65535 : Nat) = (32767 + 32768) % 65536 := by decide

/-- Just before the boundary that ends Self-test. -/
def endOfTest : State := upd (inMode 2 [] []) fun d => { d with stu := { d.stu with ended := true } }

theorem test_hyp_BeatNumber :
    (endOfTest.dev.pwr.asleep = 0 ∧ endOfTest.dev.pwr.phase ≠ 0 ∧ endOfTest.dev.mode = 2 ∧ endOfTest.dev.stu.ended = true
      ∧ endOfTest.dev.esc.loaded = false)
    ∧ (∃ d : Dev, d.esc.loaded = true ∧ d.esc.slipLive = false) ∧ (∃ d : Dev, d.esc.loaded = true ∧ d.esc.slipLive = true)
    ∧ (∃ s : State, s.dev.pwr.phase = 0) ∧ (∃ s : State, s.dev.pwr.asleep ≠ 0)
    ∧ ((inMode 3 [] []).dev.pwr.asleep = 0 ∧ (inMode 3 [] []).dev.pwr.phase ≠ 0 ∧ (inMode 3 [] []).dev.mode ≠ 2
      ∧ (inMode 3 [] []).dev.b TBU.STATE 9 = false) :=
  ⟨by decide, ⟨{ esc := { loaded := true, slipLive := false } }, by decide⟩, ⟨{ esc := { loaded := true, slipLive := true } }, by decide⟩,
    ⟨upd State.reset fun d => { d with pwr := { d.pwr with phase := 0 } }, by decide⟩,
    ⟨upd State.reset fun d => { d with pwr := { d.pwr with asleep := 1 } }, by decide⟩, by decide⟩

/-- A cause of a transition stands; with it, in the second, an accepted request for Lock-out. -/
def wanting : State := upd (inMode 8 [] []) fun d => { d with modes := { d.modes with wanted := [⟨5, 5⟩] } }
def lockingOut : State := upd wanting fun d => { d with modes := { d.modes with request := some 0x6D0E000B } }

theorem test_hyp_BoundaryOrder :
    2 < (({ (inMode 3 [] []).closeBeat with dev := (inMode 3 [] []).closeBeat.dev.endRamp (inMode 3 [] []).closeBeat.cfg } :
      State).modeStep).dev.mode
    ∧ (firstWanted wanting.cfg wanting.dev = some (5, 5) ∧ lockoutAsked wanting.cfg wanting.dev = false)
    ∧ (firstWanted lockingOut.cfg lockingOut.dev = some (5, 5) ∧ lockoutAsked lockingOut.cfg lockingOut.dev = true ∧ (5 : Nat) ≠ 0x0C)
    ∧ (firstWanted (inMode 3 [] []).cfg (inMode 3 [] []).dev = none ∧ (inMode 3 [] []).dev.modes.request = none)
    ∧ (swapDue (inMode 7 [] []).dev = false ∧ (inMode 7 [] []).dev.mode < 8) := by decide

/-- A beat whose frame has not closed, and one whose frame has. -/
def framing (frames : List FrameRec) : State :=
  upd (inMode 3 [] []) fun d => { d with esc := { d.esc with loaded := true, beat := 20 }, fus := { d.fus with frames := frames } }
def frame20 : FrameRec := ⟨20, 0, 0, {}, [], [], [], [], [], [], 0, []⟩

/-- Coasting that has just run out, with a swap open at this boundary. -/
def coasted : State :=
  upd (inMode 3 [] [(FUS.SPLIT_STAT, 0)]) fun d =>
    { d with fus := { d.fus with coasting := true }, modes := { d.modes with openSwap := true } }

/-- A swap due now, on the active, on the standby and on one that is neither. -/
def swapping (m : Nat) (latch : Bool) (regs : List (Nat × Word)) : State :=
  upd (inMode m [(PRC.CFG, 7)] (regs ++ [(PRC.STAT, 0x40004), (PRC.DIGEST, 1)])) fun d =>
    { d with prc := { d.prc with latch := latch, swap := some ⟨0, 0⟩ } }

set_option maxRecDepth 20000 in
theorem test_hyp_ModeCommands_swap :
    State.reset.dev.prc.swap = none
    ∧ (let s := swapping 7 true []; let d : Dev := { s.dev with prc := { s.dev.prc with swap := none } }
       s.dev.prc.swap = some ⟨0, 0⟩ ∧ (⟨0, 0⟩ : SwapDev).atBeat ≤ s.dev.esc.beat ∧ d.crown = true ∧ (d.handover s.cfg ⟨0, 0⟩).mode ≠ s.dev.mode)
    ∧ (let s := swapping 4 false []; let d : Dev := { s.dev with prc := { s.dev.prc with swap := none } }
       d.crown = false ∧ d.mode = 4 ∧ latchFree d = true)
    ∧ (let s := swapping 5 false []; let d : Dev := { s.dev with prc := { s.dev.prc with swap := none } }
       d.crown = false ∧ d.mode ≠ 4) := by decide

theorem test_hyp_ModeCommands :
    ((inMode 3 [] [(TBU.STATE, 0x200)]).dev.b TBU.STATE 9 = true ∧ (inMode 3 [] [(TBU.STATE, 0x200)]).dev.mode ≠ 2)
    ∧ State.reset.dev.b TBU.STATE 9 = false
    ∧ (State.reset.dev.modes.request = none ∧ journaling State.reset.cfg State.reset.dev = false)
    ∧ (∃ s : State, s.dev.modes.request = some 6 ∧ journaling s.cfg s.dev = false)
    ∧ (∃ s : State, s.dev.modes.neutralSince = some 7 ∧ s.dev.b SYS.MODE 15 = true)
    ∧ State.reset.dev.modes.neutralSince = none
    ∧ (let s := framing []
       s.dev.esc.loaded = true ∧ 3 ≤ s.dev.mode ∧ s.dev.esc.beat % 10 = 0 ∧ (∀ r ∈ s.dev.fus.frames.head?, r.beat ≠ s.dev.esc.beat))
    ∧ ((State.reset.dev.esc.loaded = false ∨ State.reset.dev.mode < 3) ∧ ∃ r ∈ (framing [frame20]).dev.fus.frames.head?, r.beat = 20)
    ∧ (coastOut coasted.dev = true ∧ coasted.dev.modes.openSwap = true) ∧ coastOut State.reset.dev = false :=
  ⟨by decide, by decide, by decide,
    ⟨upd (inMode 3 [] []) fun d => { d with modes := { d.modes with request := some 6 } }, by decide⟩,
    ⟨upd (st [] [(SYS.MODE, 0x8008)]) fun d => { d with modes := { d.modes with neutralSince := some 7 } }, by decide⟩,
    by decide, ⟨by decide, by decide, by decide, by simp [framing, upd]⟩, by decide, by decide, by decide⟩

theorem test_hyp_ModeEntry : ∃ d : Dev, d.crown = true ∧ d.mode ≠ 3 :=
  ⟨{ (inMode 6 [] []).dev with prc := { latch := true } }, by decide⟩

theorem test_hyp_RequestCodes :
    fld (0x6D0E0006 : Word) 16 16 = 0x6D0E ∧ fld (0x6D0F0006 : Word) 16 16 ≠ 0x6D0E ∧ fld (0x6D0E0006 : Word) 0 4 = 6
    ∧ fld (0x6D0E0007 : Word) 0 4 = 7 ∧ fld (0x6D0E000A : Word) 0 4 = 10
    ∧ (inMode 11 [] []).dev.mode = 11 ∧ (inMode 4 [] []).dev.mode = 4 ∧ (inMode 3 [] []).dev.mode = 3
    ∧ firstFailing (inMode 3 [] []).cfg (inMode 3 [] []).dev [1, 2, 3, 10] = 1
    ∧ firstFailing { hdr := [(hdrCFG_SEQ 0x40000000, 1)], imageOk := true } (inMode 3 [] [(STU.RESULT, 2)]).dev [1, 2, 3, 10] = 0 := by decide

/-- A pallet at tick 1000, and a state that waits for it alone. -/
def pallet (action axis : Nat) (arg : Word) : DuePallet :=
  { tick := 1000, cls := 0, action := action, wheel := 0, pallet := 3, axis := axis, arg := arg, folded := false }
def waits (action axis : Nat) (arg : Word) : State :=
  { State.reset with
    cfg := { esc := [(ESC.SYNC_CFG 5, 1)] }
    dev := { esc := { due := [pallet action axis arg] } } }
/-- Its units as the pallet leaves them, started `late` ticks after its instant. -/
def taken (action axis : Nat) (arg : Word) (late : Nat) : Option Dev := ((waits action axis arg).dev.takePallet action late).map (·.2)

theorem test_hyp_LatePallets :
    ((waits 0 0 0).dev.esc.due = [pallet 0 0 0] ∧ (waits 0 0 0).dev.esc.issued = none ∧ (pallet 0 0 0).action = 0 ∧ (200 : Nat) ≤ 200
      ∧ (pallet 0 0 0).tick + 200 ≤ (pallet 0 0 0).tick + 200 ∧ (pallet 0 0 0).tick + 200 < (pallet 0 0 0).tick + 201)
    ∧ ((waits 1 0 0).dev.esc.due = [pallet 1 0 0] ∧ (pallet 1 0 0).action ≠ 0)
    ∧ State.reset.dev.esc.due = [] := by decide

theorem test_hyp_SyncPulses :
    ((taken 1 0 5 0).isSome = true ∧ (taken 1 0 5 0).all (fun e => !syncHeld (waits 1 0 5).cfg e 5) = true
      ∧ (taken 1 0 4 0).all (fun e => syncHeld (waits 1 0 4).cfg e 4) = true)
    ∧ (let s := upd (waits 1 0 5) fun d => { d with esc := { d.esc with syncs := [(5, { active := true, until_ := 5000 })] } }
       (s.dev.takePallet 1 0).all (fun r => (Assoc.get {} r.2.esc.syncs 5 : SyncDev).active
        && decide (((r.2.tbu.cycles : Int) + cyclesTo r.2 r.1.tick).toNat < 5000)) = true)
    ∧ (Assoc.get {} State.reset.dev.esc.syncs 5 : SyncDev).active = false := by decide

/-- Axis 0 in use, its next boundary at 0, the increment 16, the encoder at this count. -/
def axisOn (m pendings : Nat) (count : Word) : State :=
  upd { inMode m [] [(ENC.ENC_POS 0, count)] with cfg := { esc := [(ESC.AX_INC 0, 16), (ESC.AX_STALL 0, 5)] } } fun d =>
    { d with esc := { d.esc with axes := [(0, { on := true, pend := List.replicate pendings 7 })] } }
def axisDiff (s : State) : Int := signed 32 (axisPosition s.cfg 0 (s.dev.w (ENC.ENC_POS 0)) - (axisDev s.dev 0).nextB).toNat

theorem test_hyp_AngleAxes :
    ((axisDev State.reset.dev 0).on = false ∧ axisDiff (axisOn 3 0 0xFFFFFFFF) < 0 ∧ (axisOn 2 0 0).dev.mode < 3)
    ∧ (let s := axisOn 3 0 15
       (axisDev s.dev 0).on = true ∧ 0 ≤ axisDiff s ∧ (axisDiff s).toNat < axisInc s.cfg 0 ∧ 3 ≤ s.dev.mode ∧ (axisDev s.dev 0).pend = []
        ∧ s.dev.b ESC.AX_STAT 0 = false)
    ∧ (axisDev (axisOn 3 1 0).dev 0).pend = [7] ∧ (axisDev (axisOn 3 1 0).dev 0).served = none
    ∧ (axisDev (upd State.reset fun d => { d with esc := { d.esc with axes := [(0, { pend := [7], served := some 5 })] } }).dev 0).served = some 5
    ∧ fld ((axisOn 3 0 0).cfg.e (ESC.AX_STALL 0)) 0 14 ≠ 0 := by decide

theorem test_hyp_PalletActions :
    ((taken 3 0 9 0).isSome ∧ (taken 4 0 9 0).isSome ∧ (taken 7 0 9 0).isSome) 
    ∧ ((taken 2 0 9 0).isSome ∧ lawOwns (waits 2 0 9).cfg 9 = false ∧ loopsOwn (waits 2 0 9).cfg 9 = false)
    ∧ ((taken 2 0 16 0).isSome ∧ lawOwns (waits 2 0 16).cfg 16 = true ∧ loopsOwn (waits 2 0 16).cfg 16 = false)
    ∧ (let c := (st [(LPE.GRP_CFG 2, 0x904)] []).cfg; lawOwns c 9 = false ∧ loopsOwn c 9 = true)
    ∧ ((taken 5 0 5 0).isSome ∧ fld (5 : Word) 0 4 < 6 ∧ 8 ≤ fld (8 : Word) 0 4 ∧ fld (11 : Word) 0 4 ≤ 11)
    ∧ ((taken 6 0 0 0).isSome ∧ (waits 6 0 0).groupPages = [])
    ∧ (({ waits 6 1 0 with cfg := { hdr := [(hdrSTAT pageSYS, 2)] } } : State).groupPages ≠ [] ∧ (pallet 6 1 0).axis ≠ 0) := by decide

theorem test_hyp_TimeCommands :
    ((inMode 3 [(TBU.SRC_CFG, 0x1000)] [(TBU.STATE, 0x400)]).cfg.f TBU.SRC_CFG 12 2 ≠ 0
      ∧ (inMode 3 [] [(TBU.STATE, 0x400)]).dev.b TBU.STATE 10 = true)
    ∧ ((st [(TBU.SRC_CFG, 0)] []).cfg.f TBU.SRC_CFG 12 2 = 0)
    ∧ (fld (0x7A120001 : Word) 16 16 ≠ 0x7A11 ∧ bit (0x7A110003 : Word) 0 = bit (0x7A110003 : Word) 1
      ∧ (inMode 3 [] []).dev.b TBU.STATE 8 = false ∧ (inMode 3 [] []).dev.mode ≠ 4)
    ∧ ((inMode 3 [] [(TBU.STATE, 0x20100)]).dev.crown = false ∧ (inMode 3 [] [(TBU.STATE, 0x20100)]).dev.b TBU.STATE 8 = true
      ∧ (inMode 3 [] [(TBU.STATE, 0x20100)]).dev.b TBU.STATE 9 = false
      ∧ ∀ n ∈ [1, 2, 3, 4], ((inMode 3 [] [(TBU.STATE, 0x20100)]).dev.source n).qualified = false)
    ∧ ((st [] [(TBU.STATE, 0x20)]).dev.tbu.gm ≠ (2 : BitVec 64).toNat ∧ tbuSrc (st [] [(TBU.STATE, 0x20)]).dev = 2
      ∧ (st [] [(TBU.STATE, 0x20)]).dev.b TBU.STATE 8 = false ∧ State.reset.dev.tbu.gm = (0 : BitVec 64).toNat)
    ∧ (bit ((st [(TBU.UTC_OFS, 0x20025)] []).cfg.w TBU.UTC_OFS) 17 = true ∧ State.reset.dev.tbu.utcNext = none)
    ∧ (bit ((st [(TBU.UTC_OFS, 0x25)] []).cfg.w TBU.UTC_OFS) 17 = false ∧ bit ((st [(TBU.UTC_OFS, 0x25)] []).cfg.w TBU.UTC_OFS) 18 = false)
    ∧ ((st [(TBU.PPSIN_CFG, 3)] []).cfg.b TBU.PPSIN_CFG 0 = true ∧ (st [(TBU.PPSIN_CFG, 3)] []).cfg.b TBU.PPSIN_CFG 1 = !false
      ∧ (st [(TBU.PPSIN_CFG, 0)] []).cfg.b TBU.PPSIN_CFG 0 = false)
    ∧ State.reset.dev.tbu.left = 0 := by decide

/-- A source at its evaluation. -/
def disciplined (n : Nat) (x : SourceDev) (state : Word) : Dev :=
  { (st [] [(TBU.STATE, state)]).dev with tbu := { srcs := [(n, x)] } }

theorem test_hyp_SourceDiscipline :
    ((inMode 3 [(TBU.SRC_CFG, 0)] []).cfg.b TBU.SRC_CFG 0 = false ∧ tbuState (inMode 3 [] []).dev = 0 ∧ (inMode 3 [] []).dev.b TBU.STATE 9 = false
      ∧ (inMode 3 [] []).dev.b TBU.STATE 8 = false ∧ (inMode 3 [] []).dev.mode ≠ 4 ∧ (inMode 3 [] []).dev.mode ≠ 5
      ∧ tbuSrc (inMode 3 [] []).dev ≠ 6 ∧ (inMode 3 [] []).dev.tbu.gnss = none)
    ∧ (let c := (st [(TBU.JUMP_THR, 100)] []).cfg; let d := disciplined 4 { qualified := true, offset := -100 } 0x41
       bestSource d = some 4 ∧ withinThr c (d.source 4).offset = true ∧ onSource d = true ∧ (4 : Nat) = tbuSrc d)
    ∧ (let d := disciplined 1 { qualified := true } 0x50
       bestSource d = some 1 ∧ onSource d = false ∧ bestSource State.reset.dev = none)
    ∧ tbuState (st [] [(TBU.STATE, 3)]).dev = 3 ∧ tbuState (st [] [(TBU.STATE, 1)]).dev = 1 ∧ tbuState (st [] [(TBU.STATE, 2)]).dev = 2
    ∧ ((st [(TBU.SRC_CFG, 1)] []).cfg.b TBU.SRC_CFG (1 - 1) = true ∧ (1 : Nat) ≠ 3 ∧ (⟨true, false, some (-3, 7), 0⟩ : SourceShown).offset = some (-3, 7)
      ∧ (st [] []).dev.source 1 = {})
    ∧ ((⟨false, true, none, 0⟩ : SourceShown).bad = true ∧ (1 : Nat) ≤ ((st [] []).dev.source 1).bad + 1) := by decide

/-- No source is enabled when SRC_CFG is 0. -/
theorem test_hyp_SourceDiscipline_none : ∀ n, (st [(TBU.SRC_CFG, 0)] []).cfg.b TBU.SRC_CFG n = false := by
  intro n
  show bit 0#32 n = false
  simp [bit]

theorem test_hyp_PulsesAndCompares :
    ((st [(TBU.PPS_CFG 0, 1)] []).cfg.f (TBU.PPS_CFG 0) 0 2 = 1 ∧ (st [] []).dev.b TBU.STATE 9 = false ∧ (st [] []).dev.tbu.ppsOmit = none
      ∧ (st [(TBU.PPS_CFG 0, 1)] []).cfg.b (TBU.PPS_CFG 0) 3 = false ∧ (st [] []).dev.tbu.ppsAltered = 0)
    ∧ (let d := (upd State.reset fun d => { d with tbu := { d.tbu with ppsActive := [(1, true)], ppsAt := [(1, some 5)] } }).dev
       Assoc.get false d.tbu.ppsActive 1 = true ∧ Assoc.get none d.tbu.ppsAt 1 = some 5)
    ∧ (bit (0x10002 : Word) 0 = false ∧ (st [] []).dev.tbu.cmpLate = 0 ∧ bit (0x10001 : Word) 1 = false ∧ fld (0x10001 : Word) 2 2 = 0
      ∧ cmpDistance (st [] []).dev 15 ≤ 0)
    ∧ (bit (0xD : Word) 0 = true ∧ fld (0xD : Word) 2 2 = 3)
    ∧ (st [] []).dev.b (TBU.CMP_CTRL 15) 0 = false
    ∧ ((st [] [(TBU.CMP_CTRL 15, 1)]).dev.w (TBU.CMP_CTRL 15) = 1 ∧ cmpDistance (st [] [(TBU.CMP_CTRL 15, 1), (TBU.CMP_TGT_LO 15, 9)]).dev 15 < 0
      ∧ (st [] []).dev.tbu.cmpLate.testBit 15 = false)
    ∧ ((st [(TBU.PPS_CFG 1, 2)] []).cfg.f (TBU.PPS_CFG 1) 0 2 = 2
      ∧ Assoc.get 0 (upd State.reset fun d => { d with tbu := { d.tbu with cmpEnd := [(1, 50)] } }).dev.tbu.cmpEnd 1 ≠ 0) := by decide

/-- ETH0 as the client port, a better clock announced on it. -/
def client : State := st [(TBU.SRC_CFG, 0), (ETHSW.PTP_CFG, 0xFF0001), (ETH.CFG 0, 0x11)] [(TBU.STATE, 0x20), (ETH.STAT 0, 0x91)]
def better : PtpMessage := .announce 1 0 6 33 100 128 0 37 true false false
def heard : Dev := client.dev.putPort 0 { client.dev.port 0 with announce := some (1, clockRank 0 6 33 100 128 1 0), announceTick := 0 }

theorem client_better : clockRank 0 6 33 100 128 1 0 < ownRank client.cfg heard := by
  have h : ∀ a b v p g n : Nat, 255 * 2 ^ 120 ≤ clockRank 255 a b v p g n := by
    intro a b v p g n; unfold clockRank; omega
  have e : client.cfg.f ETHSW.PTP_CFG 16 8 = 255 := by decide
  refine Nat.lt_of_lt_of_le (by decide : _ < 255 * 2 ^ 120) ?_
  unfold ownRank
  rw [e]
  exact h _ _ _ _ _ _

theorem client_slave : ptpPortState client.cfg heard 0 = 9 := by
  have r : (List.range 4).filterMap (fun p => (heard.port p).announce.map (fun a => (a.2, p))) = [(clockRank 0 6 33 100 128 1 0, 0)] := by decide
  have e : (!client.cfg.b ETHSW.PTP_CFG 0 || !client.cfg.b (ETH.CFG 0) 4 || !client.cfg.b (ETH.CFG 0) 0 || !linkUp heard 0) = false := by decide
  have q : client.cfg.f TBU.SRC_CFG 4 2 = 0 := by decide
  unfold ptpPortState
  rw [e, r]
  simp [client_better, q]

theorem client_kept : client.dev.ptpReceive client.cfg 0 better = heard := by
  have h0 : heard.f (ETH.STAT 0) 4 4 = 9 := by decide
  have h1 : heard.f (ETH.STAT 1) 4 4 = ptpPortState client.cfg heard 1 := by decide
  have h2 : heard.f (ETH.STAT 2) 4 4 = ptpPortState client.cfg heard 2 := by decide
  have h3 : heard.f (ETH.STAT 3) 4 4 = ptpPortState client.cfg heard 3 := by decide
  show heard.ptpStates client.cfg = heard
  unfold Dev.ptpStates
  simp [List.range, List.range.loop, client_slave, h0, h1, h2, h3]

theorem test_hyp_SlewAndUtc :
    ((upd (st [] [(TBU.STATE, 2)]) fun d => { d with tbu := { d.tbu with left := -5 } }).dev.tbu.left ≠ 0
      ∧ tbuState (st [] [(TBU.STATE, 2)]).dev = 2 ∧ (st [] [(TBU.STATE, 2)]).dev.b TBU.STATE 8 = false)
    ∧ (tbuSrc (client.dev.ptpReceive client.cfg 0 better) = 2 ∧ client.cfg.f TBU.SRC_CFG 4 2 = 0
      ∧ (client.dev.ptpReceive client.cfg 0 better).f (ETH.STAT 0) 4 4 = 9 ∧ fld (client.cfg.w TBU.UTC_OFS) 17 2 = 0)
    ∧ client.cfg.f TBU.SRC_CFG 4 2 ≠ 3
    ∧ (client.cfg.b ETHSW.PTP_CFG 0 = true ∧ client.cfg.b (ETH.CFG 0) 4 = true ∧ heard.f (ETH.STAT 0) 4 4 = 9
      ∧ (heard.port 0).announce = some (((1 : BitVec 64)), clockRank 0 6 33 100 128 1 0)) := by
  refine ⟨by decide, ?_, by decide, by decide⟩
  rw [client_kept]
  decide

theorem test_hyp_RegisterWrites :
    (inPage (0x40000000 : Word).toNat = true ∧ inPage (0x50000000 : Word).toNat = false ∧ (3 : Nat) % 4 ≠ 0)
    ∧ keyAccess 0x40000100 = some .ro
    ∧ keyAccess (regKey State.reset.dev 0x40020FF8) = none
    ∧ keyAccess (regKey State.reset.dev PRC.MISMATCH_CNT) = some .cnt
    ∧ keyAccess (regKey State.reset.dev TBU.CMP_STAT) = some .w1c ∧ TBU.CMP_STAT ≠ ESC.AX_STAT
    ∧ (keyAccess (regKey State.reset.dev PRC.CFG) = some .rws ∧ State.reset.cfg.closed (keyPage PRC.CFG) = false)
    ∧ (({ State.reset with cfg := { hdr := [(hdrSTAT 0x40009000, 8)] } } : State).cfg.closed (keyPage PRC.CFG) = true)
    ∧ (inPage (RBB.CHSEL 0) = true ∧ 0x100 ≤ RBB.CHSEL 0 % 4096 ∧ keyAccess (regKey State.reset.dev (RBB.CHSEL 0)) = some .rw) ∧ keyAccess (regKey State.reset.dev SYS.MODE_REQ) = some .wo
    ∧ (inPage (0x40000000 : BitVec 48).toNat = true ∧ (2 : Nat) ≠ 4 ∧ inPage ESC.BEAT_LO = true ∧ inPage TBU.TICK_LO = true)
    ∧ (inPage PRC.CFG = true ∧ 0x100 ≤ PRC.CFG % 4096 ∧ 0x40000000 ≤ PRC.CFG ∧ PRC.CFG ≠ SYS.GLOBAL_STAT ∧ PRC.CFG ≠ ESC.BEAT_LO
      ∧ PRC.CFG ≠ TBU.TICK_LO ∧ PRC.CFG < NYM.RST_UID_LO ∧ PRC.CFG < NYM.EXP_STAT 0 ∧ keyAccess (regKey State.reset.dev PRC.CFG) = some .rws
      ∧ State.reset.dev.b (hdrCTRL (PRC.CFG / 4096 * 4096)) 1 = false
      ∧ (st [] [(hdrCTRL 0x40009000, 2)]).dev.b (hdrCTRL (PRC.CFG / 4096 * 4096)) 1 = true) := by decide

theorem test_hyp_PageLock : (pageAt (0x40009000 : Word).toNat).isSome = true := by decide

/-- ESC's shadow differs from its live contents in one register. -/
def staged : State := { inMode 3 [] [] with cfg := { shadow := [(ESC.AX_STALL 0, 7)] } }

theorem test_hyp_CommitProtocol :
    (pageAt (0x40009004 : Word).toNat).isNone = true
    ∧ ((pageAt pageESC).isSome = true ∧ pageESC ≠ pageSTU ∧ staged.dev.mode ≠ 4 ∧ bit (staged.cfg.h (hdrSTAT pageESC)) 3 = false
      ∧ staged.cfg.due.find? (fun e => e.1 = pageESC) = none)
    ∧ (RegistersOk staged ∧ staged.dev.crown = false
      ∧ State.pageFail { staged with cfg := (staged.cfg.putMark pageESC 1#32).putTiming pageESC 0 0 } [pageESC] staged.dev.mode pageESC = none)
    ∧ ((inMode 4 [] []).dev.mode = 4 ∧ pageJournaled 0x40009000 = false)
    ∧ (fld (0x6C0B0001 : Word) 16 16 ≠ 0x6C0A ∧ bit (0x6C0A0000 : Word) 0 = false)
    ∧ staged.groupPages = [] := by
  unfold RegistersOk; decide

/-- A character as a UART receives it, and UART 11 with messages that end at LF. -/
def char (v : Byte) : RxByte := ⟨v, false, true, 0⟩
def uartOn : State := st [(UART.UCFG 11, 1)] []

set_option maxRecDepth 20000 in
theorem test_hyp_UartCommands :
    (st [(UART.UCFG 11, 0)] []).cfg.b (UART.UCFG 11) 0 = false
    ∧ (uartOn.cfg.b (UART.UCFG 11) 0 = true ∧ messageLen uartOn.cfg 11 [char 0x24] = none ∧ uartOn.dev.uarts = []
      ∧ messageLen uartOn.cfg 11 [char 0x24, char 0x0A] = some 2)
    ∧ ([{ char 0x24 with stop := false }].all (rxOk uartOn.cfg 11) = false ∧ [char 0x24, char 0x0A].all (rxOk uartOn.cfg 11) = true
      ∧ uartOn.cfg.b TBU.PPSIN_CFG 0 = false) := by decide

/-- Safety outputs 12 and 13 in use, 12 driven, the pulse test on, RST_CFG naming an input. -/
def sfmOn : State := upd (inMode 8 [(SFM.CFG, 0x13), (SFM.RST_CFG, 0x80)] [(SFM.STAT, 0x100)]) fun d =>
  { d with field := { d.field with outs := [(12, { driven := true })] }, sfm := { d.sfm with armCycle := some 4 } }

/-- Connection 0 sends, connection 1 receives and is in DATA, to expire at tick 8. -/
def osi (m : Nat) : State :=
  upd (inMode m [(SFM.OSI_CONN_CFG 0, 0x1), (SFM.OSI_CONN_CFG 1, 0x3)] [(SFM.OSI_STAT 1, 2)]) fun d => d.putConn 1 { expire := some 8 }
/-- A heartbeat PDU for it. -/
def pdu : List Byte :=
  let l : List Byte := [0x12, 0, 0, 0, 1, 0, 0, 0, 1, 0]
  l ++ leBytes 4 (crc32cFrom ((osi 3).cfg.w (SFM.OSI_IDENT 1)).toNat l)

theorem test_hyp_SafetyMonitor :
    State.reset.dev.mode ≤ 2 ∧ 3 ≤ (inMode 3 [] []).dev.mode
    ∧ (sfmOn.cfg.b SFM.CFG 4 = true ∧ (testedOuts sfmOn.cfg).contains 0 = true ∧ (sfmOn.dev.out (12 + 0)).driven = true
      ∧ (sfmOn.dev.out (12 + 1)).driven = false)
    ∧ (fld (0x2E5E0000 : Word) 16 16 ≠ 0x2E5D ∧ fld (0x2E5D0000 : Word) 16 16 = 0x2E5D ∧ sfmOn.dev.mode ≠ 11 ∧ (inMode 11 [] []).dev.mode = 11)
    ∧ (sfmOn.dev.b SFM.STAT 8 = true ∧ sfmOn.dev.sfm.armCycle = some 4 ∧ State.reset.dev.b SFM.STAT 8 = false)
    ∧ ((st [(SFM.RST_CFG, 0)] []).cfg.b SFM.RST_CFG 7 = false ∧ sfmOn.cfg.b SFM.RST_CFG 7 = true) := by decide

set_option maxRecDepth 20000 in
theorem test_hyp_SafetyMonitor_osiraka :
    ((osi 4).dev.mode ≠ 3 ∧ (osi 3).dev.mode = 3 ∧ (osi 3).dev.modes.rampBeat = false ∧ precond (osi 3).cfg (osi 3).dev 3 = true
      ∧ (sendConns (osi 3).cfg).contains 0 = true ∧ ((osi 3).dev.conn 0).hbTick = none)
    ∧ (([1, 2, 3] : List Byte).length < 4 ∧ pduMalformed 0 pdu = false ∧ recvConns (inMode 3 [] []).cfg = [])
    ∧ (pduMalformed 0 pdu = false
      ∧ (recvConns (osi 3).cfg).find? (fun k => osiPort (osi 3).cfg k = 0 && osiId (osi 3).cfg k = leAt pdu 2 2) = some 1
      ∧ crc32cFrom ((osi 3).cfg.w (SFM.OSI_IDENT 1)).toNat (pdu.take (10 + leAt pdu 1 1)) = leAt pdu (10 + leAt pdu 1 1) 4
      ∧ seqDiff 16 (leAt pdu 4 2) ((osi 3).dev.conn 1).seq = 1)
    ∧ ((recvConns (osi 3).cfg).contains 1 = true ∧ (osi 3).dev.f (SFM.OSI_STAT 1) 0 2 = 2 ∧ ((osi 3).dev.conn 1).expire = some 8
      ∧ (osi 3).dev.f (SFM.OSI_STAT 0) 0 2 = 0) := by decide

/-- A classical data frame, CAN controller 5 on the bus and Ethernet port 3 in use. -/
def frame0 : CanFrame := ⟨0x123, false, false, false, false, false, false, [1], 0⟩
def busOn : State := inMode 3 [(CAN.CFG 5, 1)] [(CAN.STAT 5, 1)]
def eth3 : State := st [(ETH.CFG 3, 1), (ETHSW.UDP_PORTS, 0x1234), (ETHSW.IEC_GRP 7, 0xEA601805)] []
def ethFrame (ip : Option (BitVec 32 × BitVec 32)) (udp : Option (BitVec 16 × BitVec 16)) : EthFrame := ⟨64, 1, 2, none, ip, udp, [], 0⟩

set_option maxRecDepth 20000 in
theorem test_hyp_FramesReceived :
    (busOn.cfg.f TBU.SRC_CFG 8 3 ≠ 5 ∧ canOn State.reset.dev 5 = false ∧ (st [] [(CAN.STAT 5, 3)]).dev.f (CAN.STAT 5) 0 2 = 3)
    ∧ (canOn busOn.dev 5 = true ∧ busOn.dev.f (CAN.STAT 5) 0 2 ≠ 3 ∧ busOn.cfg.b (CAN.CFG 5) 4 = false ∧ busOn.cfg.b (CAN.CFG 5) 1 = false
      ∧ ({ frame0 with fdf := true } : CanFrame).fdf = true ∧ frame0.fdf = false ∧ frame0.exception = false ∧ frame0.rtr = false
      ∧ ({ frame0 with rtr := true } : CanFrame).rtr = true)
    ∧ ((st [(ETH.CFG 3, 0)] []).dev.ingress (st [(ETH.CFG 3, 0)] []).cfg 3 (ethFrame none none)).1 = .dropped
    ∧ (eth3.dev.ingress eth3.cfg 3 (ethFrame (some (1, 2)) (some (3, 0x1234)))).1 = .osiraka
    ∧ (eth3.dev.ingress eth3.cfg 3 (ethFrame (some (1, 0xEFC00005)) (some (3, 0xEA60)))).1 = .iec
    ∧ ∃ cls, (eth3.dev.ingress eth3.cfg 3 (ethFrame none none)).1 = .other cls := by
  refine ⟨by decide, by decide, by decide, by decide, by decide, ⟨_, rfl⟩⟩

/-- An output, a supply group, an input, an analogue channel, an encoder channel in a chosen condition. -/
def withOut (x : OutDev) : State := upd (inMode 8 [(FIO.OUT_CFG 15, 0x141), (SFM.CFG, 0)] []) fun d =>
  { d with field := { d.field with outs := [(15, x)] } }

theorem test_hyp_FieldOutputs :
    ((inMode 8 [] []).dev.mode ≠ 11 ∧ (inMode 8 [] []).dev.field.pendSfm = none
      ∧ (upd State.reset fun d => { d with field := { d.field with pendSfm := some 3 } }).dev.field.pendSfm = some 3)
    ∧ (outLead (withOut {}).cfg 15 = 15 ∧ ((withOut { driven := true }).dev.out 15).driven = true ∧ ((withOut {}).dev.out 15).driven = false
      ∧ ((withOut {}).dev.out 15).reverse = false ∧ (withOut {}).cfg.b (FIO.OUT_CFG 15) 6 = true
      ∧ ((withOut { driven := true }).dev.out 15).openLoad = false ∧ (withOut {}).cfg.b (FIO.OUT_CFG 15) 8 = true
      ∧ isSafety (withOut {}).cfg 15 = false ∧ ((withOut {}).dev.out 15).crossFed = false)
    ∧ fld (0x3E080001 : Word) 16 16 ≠ 0x3E07
    ∧ ((State.reset.dev.out (outLead State.reset.cfg 0)).hot = false ∧ (State.reset.dev.out (outLead State.reset.cfg 0)).crossFed = false ∧ (1 : BitVec 16).getLsbD 0 = true)
    ∧ fld (0x5AC10001 : Word) 16 16 ≠ 0x5AC0
    ∧ ((st [] [(FIO.SUP_STAT 0, 0x40000)]).dev.b (FIO.SUP_STAT 0) 17 = false ∧ (st [] [(FIO.SUP_STAT 0, 0x40000)]).dev.b (FIO.SUP_STAT 0) 18 = true)
    ∧ ((19700 : Int) ≤ 19700 ∧ (39999 : Int) < 40000 ∧ (st [] [(FIO.SUP_STAT 1, 0)]).dev.b (FIO.SUP_STAT 1) 17 = false
      ∧ (st [] [(FIO.SUP_STAT 1, 0)]).dev.b (FIO.SUP_STAT 1) 16 = false)
    ∧ (∃ d : Dev, (d.sup 1).goodSince = some 9 ∧ d.b (FIO.SUP_STAT 1) 17 = true)
    ∧ (st [(FIO.SUP_CFG 1, 0)] []).cfg.b (FIO.SUP_CFG 1) 0 = false
    ∧ ((2800 : Nat) ≤ 2800 ∧ (3000 : Nat) < 3001)
    ∧ (let s := inMode 3 [] [(FIO.SUP_STAT 0, 0), (FIO.SUP_STAT 1, 0)]
       3 ≤ s.dev.mode ∧ s.dev.field.outs = [] ∧ s.dev.b (FIO.SUP_STAT 0) 16 = false ∧ s.dev.b (FIO.SUP_STAT 1) 16 = false) :=
  ⟨by decide, by decide, by decide, by decide, by decide, by decide, by decide,
    ⟨{ regs := [(FIO.SUP_STAT 1, 0x20000)], field := { sups := [(1, { goodSince := some 9 })] } }, by decide⟩, by decide, by decide, by decide⟩

/-- Channels in use: input 0, test pulses of source 0, analogue channels, encoders by counting (2) and by SSI (3). -/
def chans : State := st [(FIO.IN_CFG 0, 1), (FIO.IN_CFG 1, 0), (FIO.TP_CFG, 1), (ANU.AIN_CFG 7, 3), (ANU.AOUT_CFG 3, 1), (ANU.AOUT_CFG 2, 0xB), (ENC.ENC_CFG 2, 0x11), (ENC.ENC_CFG 3, 0x1803)]
  [(ENC.ENC_STAT 1, 2)]

theorem test_hyp_FieldInputs :
    (chans.cfg.b (FIO.IN_CFG 1) 0 = false ∧ chans.cfg.b (FIO.IN_CFG 0) 0 = true ∧ (12000 : Int) ≤ 12000 ∧ (32000 : Int) ≤ 32000
      ∧ chans.dev.field.pulses = [])
    ∧ (chans.cfg.b FIO.TP_CFG 3 = false ∧ chans.cfg.b FIO.TP_CFG 0 = true ∧ ∀ i, i < 16 → (chans.dev.inp i).filt = false)
    ∧ (let s := upd (st [(FIO.IN_CFG 7, 0x40001), (FIO.TP_CFG, 8)] []) fun d => d.putInp 7 { filt := true }
       s.cfg.b FIO.TP_CFG 3 = true ∧ s.cfg.b (FIO.IN_CFG 7) 0 = true ∧ s.cfg.f (FIO.IN_CFG 7) 16 3 = 3 + 1 ∧ (s.dev.inp 7).filt = true)
    ∧ (chans.cfg.b (ANU.AIN_CFG 7) 0 = true ∧ chans.cfg.b (ANU.AIN_CFG 7) 1 = true ∧ (chans.dev.ain 7).shuntOpen = false)
    ∧ (∃ d : Dev, (d.ain 7).shuntOpen = true)
    ∧ (chans.cfg.b (ANU.AOUT_CFG 3) 3 = false ∧ chans.cfg.b (ANU.AOUT_CFG 3) 0 = true ∧ chans.cfg.b (ANU.AOUT_CFG 2) 3 = true
      ∧ chans.cfg.b (ANU.AOUT_CFG 3) 1 = false ∧ chans.cfg.b (ANU.AOUT_CFG 2) 0 = true ∧ chans.cfg.b (ANU.AOUT_CFG 2) 1 = true)
    ∧ (chans.cfg.b (ENC.ENC_CFG 2) 0 = true ∧ chans.cfg.b (ENC.ENC_CFG 2) 1 = false ∧ chans.dev.b (ENC.ENC_STAT 2) 1 = false
      ∧ (⟨0, false, false⟩ : EncStep).tooFast = false ∧ (⟨0, true, false⟩ : EncStep).invalid = true)
    ∧ (chans.cfg.b (ENC.ENC_CFG 3) 0 = true ∧ chans.cfg.b (ENC.ENC_CFG 3) 1 = true ∧ (chans.dev.enc 3).started = none)
    ∧ (∃ d : Dev, (d.enc 3).reading = some 5 ∧ (d.enc 3).raw = none)
    ∧ (chans.cfg.b (ENC.ENC_CFG 3) 6 = false ∧ chans.cfg.b (ENC.ENC_CFG 3) 5 = false ∧ chans.cfg.f (ENC.ENC_CFG 3) 8 6 = 24
      ∧ (⟨5, true, true, true⟩ : SsiObs).preHigh = true ∧ (⟨5, true, true, true⟩ : SsiObs).postHigh = true)
    ∧ (chans.cfg.b (ENC.ENC_CFG 2) 4 = true ∧ chans.dev.b (ENC.ENC_STAT 2) 0 = false)
    ∧ chans.dev.b (ENC.ENC_STAT 1) 1 = true :=
  ⟨by decide, by decide, by decide, by decide, ⟨{ field := { ains := [(7, { shuntOpen := true })] } }, by decide⟩, by decide, by decide, by decide,
    ⟨{ field := { encs := [(3, { reading := some 5 })] } }, by decide⟩, by decide, by decide, by decide⟩

/-! ### CAN -/

/-- A firmware frame, its start of frame not sent, and controller 5 on the bus with it. -/
def entry0 : CanEntry := canEntry 1 7 0x123 1 [1]
def busWith (retry onBus : Nat) (e : CanEntry) : State :=
  upd (inMode 3 [(CAN.CFG 5, 1), (CAN.PRI_CFG 5 3, 0x10001)] [(CAN.STAT 5, wd (1 + retry * 4)), (CAN.ERR_CNT 5, 0), (CAN.TXF_HDR 5, 0x10)]) fun d =>
    { d with can := [(5, { fifo := [e], onBus := onBus })] }

/-- Memory with no error and no mark reads clean everywhere. -/
theorem reset_clean (w : Nat) : State.reset.store.decode w = .clean := by
  simp [State.reset, Store.decode, Store.err, Assoc.get]

theorem foldl_same {α β : Type} (f : α → β → α) (x : α) (l : List β) (h : ∀ b ∈ l, f x b = x) : l.foldl f x = x := by
  induction l with
  | nil => rfl
  | cons b l ih =>
    rw [List.foldl_cons, h b (by simp)]
    exact ih fun c hc => h c (by simp [hc])

theorem reset_readBuffer (d : Dev) (base len : Nat) : readBuffer State.reset.store d base len = (false, State.reset.store, d) := by
  unfold readBuffer
  split
  · rfl
  · exact foldl_same _ _ _ fun k _ => by simp [reset_clean]

theorem test_hyp_CanCommands_fifo :
    ((busWith 0 0 entry0).dev.f (CAN.STAT 5) 0 2 = 1 ∧ ((busWith 0 0 entry0).dev.canOf 5).onBus = 0
      ∧ (busWith 0 0 entry0).cfg.b (CAN.CFG 5) 3 = false ∧ ((busWith 0 0 entry0).dev.canOf 5).fifo = [entry0]
      ∧ offered (busWith 0 0 entry0).cfg (busWith 0 0 entry0).dev 5 = 1
      ∧ (busWith 0 0 entry0).dev.b (CAN.STAT 5) 2 = false ∧ (busWith 1 0 entry0).dev.b (CAN.STAT 5) 2 = true
      ∧ offered (busWith 1 0 entry0).cfg (busWith 1 0 entry0).dev 5 = 1)
    ∧ ((busWith 0 1 entry0).cfg.b (CAN.CFG 5) 4 = false ∧ ((busWith 0 1 entry0).dev.canOf 5).onBus = 1 ∧ entry0.kind = 1
      ∧ (busWith 0 1 entry0).dev.f (CAN.ERR_CNT 5) 0 8 = 0 ∧ (busWith 0 1 entry0).dev.f (CAN.ERR_CNT 5) 8 8 = 0)
    ∧ (canOn busOn.dev 5 = true ∧ busOn.dev.f (CAN.STAT 5) 0 2 ≠ 3 ∧ ((busWith 0 1 entry0).dev.canOf 5).onBus ≠ 0)
    ∧ (let d : Dev := { regs := [(CAN.STAT 5, 3)], can := [(5, { recover := true })] }
       d.f (CAN.STAT 5) 0 2 = 3 ∧ (d.canOf 5).recover = true)
    ∧ (pushResult State.reset.cfg State.reset.dev 5 ≠ 0 ∧ pushResult (busWith 0 0 entry0).cfg (busWith 0 0 entry0).dev 5 = 0)
    ∧ ((∀ e ∈ (busOn.dev.canOf 5).fifo, ¬(e.kind = 1 ∧ e.tag = fld (7 : Word) 0 8)) ∧ entry0.tag = fld (7 : Word) 0 8 ∧ entry0.sof = false)
    ∧ (fld (0x5C0A0000 : Word) 16 16 = 0x5C0A ∧ fld (0x5C0B0000 : Word) 16 16 ≠ 0x5C0A ∧ busOn.dev.mode = 3) := by decide

theorem test_hyp_CanCommands :
    ((busWith 0 0 entry0).cfg.b (CAN.PRI_CFG 5 3) 0 = true ∧ (busWith 0 0 entry0).cfg.b (CAN.PRI_CFG 5 3) 1 = false
      ∧ canOn (busWith 0 0 entry0).dev 5 = true
      ∧ (busWith 0 0 entry0).dev.f (CAN.PRI_STAT 5 3) 0 2 = 0 ∧ (st [] [(CAN.PRI_STAT 5 3, 1)]).dev.f (CAN.PRI_STAT 5 3) 0 2 ≠ 0
      ∧ ((busWith 0 0 entry0).dev.priOf 5 3).sof = false ∧ (busWith 0 0 entry0).dev.b (CAN.STAT 5) 2 = false)
    ∧ readBuffer (busWith 0 0 entry0).store (busWith 0 0 entry0).dev ((Config.implWord 2 5).toNat + 64 * (32 + 3)) 8
      = (false, (busWith 0 0 entry0).store, (busWith 0 0 entry0).dev)
    ∧ (Assoc.get none State.reset.dev.flow.lastItem 65535 = none ∧ interfaceTmo State.reset.cfg State.reset.dev 65535 = none)
    ∧ (let s := upd (st [(RBB.VEC_DISC, 0xFE80)] []) fun d => { d with flow := { d.flow with lastItem := [(65535, some ⟨0, 65535, 0, 1, [], 3⟩)] } }
       Assoc.get none s.dev.flow.lastItem 65535 = some ⟨0, 65535, 0, 1, [], 3⟩ ∧ interfaceTmo s.cfg s.dev 65535 = some (2 * ticksPerMs))
    ∧ (let s := inMode 3 [(CAN.CFG 5, 1), (CAN.REF_CFG 5, 1), (PRC.CFG, 0), (CAN.TXF_CFG 5, 24)] [(CAN.STAT 5, 1)]
       s.cfg.f (CAN.REF_CFG 5) 0 2 = 1 ∧ s.cfg.pair = false ∧ canOn s.dev 5 = true ∧ (s.dev.canOf 5).fifo = [] ∧ (s.dev.canOf 5).stopped = []
        ∧ s.cfg.f (CAN.TXF_CFG 5) 0 6 < 32 ∧ s.dev.b (CAN.STAT 5) 3 = false ∧ (s.dev.canOf 5).refTick = none)
    ∧ (let s := st [(CAN.REF_CFG 5, 2), (TBU.SRC_CFG, 0x500)] []
       s.cfg.f (CAN.REF_CFG 5) 0 2 = 2 ∧ (s.dev.canOf 5).refTick = none ∧ s.cfg.f TBU.SRC_CFG 8 3 = 5 ∧ (st [] []).cfg.f TBU.SRC_CFG 8 3 ≠ 5)
    ∧ (({ can := [(5, { refTick := some 4 })] } : Dev).canOf 5).refTick = some 4
    ∧ ((busOn.dev.canOf 5).peakSecond = busOn.dev.second ∧ (busOn.dev.canOf 5).loads = [] ∧ busOn.dev.b (CAN.STAT 5) 3 = false
      ∧ (busOn.dev.canOf 5).loadTick = none) := by
  refine ⟨by decide, reset_readBuffer _ _ _, by decide, by decide, by decide, by decide, by decide, by decide⟩

/-! ### Ethernet and Nymyen -/

/-- Port 2 in use with its link up, a gate list of three entries, PTP transmitting, Nymyen in use. -/
def port2 : State := st [(ETH.CFG 2, 1), (ETH.GCL_CFG 2, 3), (ETHSW.PTP_CFG, 2), (NYM.CFG, 1), (NYM.EXP_CFG 0, 1)]
  [(ETH.STAT 2, 0x61), (NYM.STAT, 0x10000)]

theorem test_hyp_EthernetCommands :
    (port2.cfg.b (ETH.CFG 2) 0 = true ∧ port2.cfg.f (ETH.CFG 2) 2 2 = 0)
    ∧ (linkUp port2.dev 2 = true ∧ port2.dev.queue 2 7 = [] ∧ linkUp port2.dev 3 = false
      ∧ (port2.dev.putQueue 2 7 [⟨0, 64, [], none, none⟩]).queue 2 7 = [⟨0, 64, [], none, none⟩])
    ∧ (fld (0x51F00000 : Word) 16 16 = 0x51F0 ∧ fld (0x51F10000 : Word) 16 16 ≠ 0x51F0)
    ∧ (port2.cfg.f (ETH.GCL_CFG 2) 0 7 ≠ 0 ∧ ((upd port2 fun d => d.putPort 2 { gateEnd := 900 }).dev.port 2).gateEnd ≠ 0)
    ∧ (linkUp port2.dev 2 = true ∧ port2.cfg.b (ETH.CFG 2) 0 = true ∧ port2.dev.f (ETH.STAT 2) 4 4 = 6 ∧ port2.cfg.b ETHSW.PTP_CFG 1 = true
      ∧ port2.dev.f (ETH.STAT 3) 4 4 ≠ 6)
    ∧ (((upd port2 fun d => d.putPort 2 { announce := some (1, 2) }).dev.port 2).announce = some (1, 2) ∧ (st [(TBU.SRC_CFG, 0x20)] []).cfg.f TBU.SRC_CFG 4 2 = 2
      ∧ port2.cfg.f TBU.SRC_CFG 4 2 ≠ 2)
    ∧ (port2.dev.b NYM.STAT 16 = true ∧ State.reset.dev.b NYM.STAT 16 = false)
    ∧ (State.reset.cfg.b NYM.CFG 0 = false ∧ port2.cfg.b NYM.CFG 0 = true)
    ∧ ((port2.dev.roster 255).st = 0 ∧ ((upd port2 fun d => d.putRoster 255 { st := 2 }).dev.roster 255).st = 2)
    ∧ (fld (0x6E3B0000 : Word) 16 16 ≠ 0x6E3A ∧ fld (0x6E3A00FF : Word) 16 16 = 0x6E3A)
    ∧ (let s := upd port2 fun d => d.putRoster 0 { st := 1 }
       s.cfg.b (NYM.EXP_CFG 0) 0 = true ∧ (s.dev.roster 0).st = 1 ∧ boundTo s.dev 0 0 2 = none)
    ∧ (upd port2 fun d => { d with sw := { table := [(5, 1, 77)] } }).dev.sw.table = [((5 : BitVec 48).toNat, 1, 77)] := by decide

/-! ### Memory integrity -/

/-- A state whose memory word at this address holds these error patterns. -/
def upset (w : Nat) (e : List (Nat × Byte)) : State := { State.reset with store := { State.reset.store with errs := [(w, e)] } }

theorem test_hyp_NarrowWriteStores :
    ((regionOf (0x20000000 : BitVec 48).toNat).isSome = true
      ∧ (∀ i, i < 2 → coreWritable ((0x20000000 : BitVec 48).toNat + i) = true) ∧ (∀ i, i < 4 → coreWritable (0x201BFFFC + i) = true)
      ∧ State.reset.store.errs = [] ∧ State.reset.store.poison = [] ∧ (0x20000002 : Nat) ≤ 0x20000002)
    ∧ regionOf (0x201FFFFF + 1 : Nat) = none ∧ regionOf (0x666666666666 : BitVec 48).toNat = none := by decide

theorem test_hyp_DemandReadDelivers :
    (regionOf (0x20000004 : BitVec 48).toNat = some 0 ∧ coreReadable (0x20000004 : BitVec 48).toNat = true
      ∧ ((0x20000004 : BitVec 48).toNat / 32 * 32) ∉ State.reset.store.poison ∧ State.reset.store.err 0x20000000 = [])
    ∧ (let s := upset 0x20000000 [(3, 1)]; 1 ≤ (s.store.err 0x20000000).length ∧ (s.store.err 0x20000000).length ≤ 4 ∧ (0 : Nat) ≠ 3)
    ∧ (let s := upset 0x20000000 [(0, 1), (1, 1), (2, 1), (3, 1), (4, 1)]
       5 ≤ (s.store.err 0x20000000).length ∧ (0x20000000 : Nat) ∉ s.store.counted)
    ∧ (let s := { State.reset with store := { State.reset.store with poison := [0x20000000] } }; 0x20000000 ∈ s.store.poison)
    ∧ (inPage (0x50C00000 : BitVec 48).toNat = false ∧ coreReadable (0x50C00000 : BitVec 48).toNat = false) := by decide

theorem test_hyp_ScrubAndInjection :
    (let s := st [(MEM.SCRUB_CFG, 4)] []
     let s := upd s fun d => { d with memd := { d.memd with region := 2 } }
     s.cfg.b MEM.SCRUB_CFG s.dev.memd.region = true ∧ s.dev.memd.region < 4 ∧ s.dev.memd.word + 1 < regionWords s.dev.memd.region
      ∧ wordAddr s.dev.memd.region s.dev.memd.word ∉ s.store.poison ∧ s.store.err (wordAddr s.dev.memd.region s.dev.memd.word) = []
      ∧ wordAddr s.dev.memd.region s.dev.memd.word ∉ Assoc.get [] s.dev.memd.before s.dev.memd.region
      ∧ ((upset (wordAddr 2 0) [(3, 1)]).store.err (wordAddr 2 0)).length = 1)
    ∧ (let s := upd (st [(MEM.LAP_LIMIT 3, 9), (MEM.SCRUB_CFG, 8)] []) fun d => { d with memd := { d.memd with region := 3 } }
       s.dev.memd.region = 3 ∧ s.cfg.f (MEM.LAP_LIMIT 3) 0 24 ≠ 0 ∧ s.dev.memd.lapRaised = false ∧ s.cfg.b MEM.SCRUB_CFG 3 = true)
    ∧ (fld (0x7E310001 : Word) 16 16 = 0x7E31 ∧ bit (0x7E310001 : Word) 0 = true ∧ (inMode 5 [] []).dev.mode = 5
      ∧ ¬((inMode 6 [] []).dev.mode = 2 ∨ (inMode 6 [] []).dev.mode = 3 ∨ (inMode 6 [] []).dev.mode = 5) ∧ bit (0x7E310000 : Word) 0 = false) := by
  decide

/-! ### Recorder and hack unit -/

/-- The recorder ready, frozen as asked, with so many drops. -/
def frozen (f : Word) (n : Nat) : State := upd (st [] [(EVR.FREEZE, f), (EVR.STAT, 8)]) fun d => { d with evr := { d.evr with dropped := n } }

def record0 : EvrRecord := ⟨7, List.replicate 64 0⟩

theorem test_hyp_RingFreeze :
    ((frozen 0 0).dev.b EVR.FREEZE 0 = false ∧ (frozen 1 0).dev.b EVR.FREEZE 0 = true ∧ (frozen 1 0).dev.evr.dropped = 0
      ∧ (frozen 1 3).dev.evr.dropped ≠ 0)
    ∧ (frozen 0 0).dev.evr.holding.length < 256 := by decide

theorem test_hyp_RingFreeze_full : ∃ d : Dev, d.evr.holding.length = 256 :=
  ⟨{ evr := { holding := List.replicate 256 record0 } }, List.length_replicate⟩

/-- Mode 3 with a nonce shown, this answer in CLR_RESP and so many wrong ones before it. -/
def answering (a : BitVec 64) (wrong : Word) : State :=
  upd (inMode 3 [] [(EVR.CLR_RES, wrong <<< 4), (EVR.CLR_RESP_LO, a.extractLsb' 0 32), (EVR.CLR_RESP_HI, a.extractLsb' 32 32),
    (SYS.UID_LO, 1), (SYS.UID_HI, 2), (EVR.FREEZE, 0)]) fun d => { d with evr := { d.evr with nonce := some (5, 9) } }

theorem test_hyp_RingClear :
    (let s := inMode 3 [] [(EVR.STAT, 2), (EVR.FREEZE, 0)]
     s.dev.mode = 3 ∧ fld (0x6C1E0000 : Word) 16 16 = 0x6C1E ∧ s.dev.b EVR.FREEZE 0 = false ∧ s.dev.b EVR.STAT 1 = true
      ∧ s.dev.b EVR.STAT 2 = false ∧ s.dev.evr.nonce = none)
    ∧ (fld (0x6C1F0000 : Word) 16 16 ≠ 0x6C1E ∧ State.reset.dev.mode ≠ 3)
    ∧ (inMode 3 [] [(EVR.FREEZE, 1)]).dev.b EVR.FREEZE 0 = true
    ∧ (inMode 3 [] [(EVR.STAT, 0)]).dev.b EVR.STAT 1 = false
    ∧ ((inMode 3 [] [(EVR.STAT, 6)]).dev.b EVR.STAT 1 = true ∧ (inMode 3 [] [(EVR.STAT, 6)]).dev.b EVR.STAT 2 = true) := by decide

/-- The state of the answers below, with no, one or two wrong ones before: the last wrong one is the third. -/
theorem test_hyp_RingClear_state (a : BitVec 64) (w : Word) : (answering a w).dev.mode = 3 ∧ (answering a w).dev.b EVR.FREEZE 0 = false
    ∧ (answering a w).dev.evr.nonce = some (5, 9) ∧ (answering a w).dev.f EVR.CLR_RES 4 2 = fld (w <<< 4) 4 2
    ∧ fld ((2 : Word) <<< 4) 4 2 = 2 ∧ fld ((0 : Word) <<< 4) 4 2 = 0 :=
  ⟨show fld (wd 3) 0 4 = 3 by decide, show bit (0 : Word) 0 = false by decide, rfl, rfl, by decide, by decide⟩

theorem answering_resp (a : BitVec 64) (w : Word) :
    (answering a w).dev.w EVR.CLR_RESP_HI ++ (answering a w).dev.w EVR.CLR_RESP_LO = a := by
  show a.extractLsb' 32 32 ++ a.extractLsb' 0 32 = a
  apply BitVec.eq_of_getLsbD_eq
  intro i hi
  simp only [BitVec.getLsbD_append, BitVec.getLsbD_extractLsb']
  by_cases h : i < 32
  · simp [h]
  · have h2 : i - 32 < 32 := by omega
    have h3 : 32 + (i - 32) = i := by omega
    simp [h, h2, h3]

/-- The answer the recorder expects of `answering`. -/
def rightAnswer (a : BitVec 64) (w : Word) : List Byte :=
  (hmacSha256 Config.maintenanceKey
    (leBytes 8 (5 : BitVec 64).toNat ++ leBytes 8 ((answering a w).dev.w SYS.UID_HI ++ (answering a w).dev.w SYS.UID_LO).toNat)).take 8

theorem rightAnswer_same (a b : BitVec 64) (v w : Word) : rightAnswer a v = rightAnswer b w := rfl

theorem rightAnswer_length (a : BitVec 64) (w : Word) : (rightAnswer a w).length = 8 := by
  simp [rightAnswer, hmacSha256_length]

theorem leBytes_inj8 {a b : BitVec 64} (h : leBytes 8 a.toNat = leBytes 8 b.toNat) : a = b := by
  have h2 : ∀ n v, leNat (leBytes n v) = v % 256 ^ n := by
    intro n
    induction n with
    | zero => intro v; simp [leBytes, leNat, Nat.mod_one]
    | succ k ih =>
      intro v
      simp only [leBytes, leNat, ih, BitVec.toNat_ofNat, Nat.pow_succ]
      have e := Nat.mod_mul (x := v) (a := 256) (b := 256 ^ k)
      rw [Nat.mul_comm (256 ^ k) 256, e]
  have h3 := congrArg leNat h
  rw [h2, h2] at h3
  apply BitVec.eq_of_toNat_eq
  have := a.isLt
  have := b.isLt
  omega

/-- A right answer, and after no or two wrong ones a wrong one: both meet the hypotheses of the clear. -/
theorem test_hyp_RingClear_answers : ∃ a : BitVec 64, ∀ w : Word,
    leBytes 8 ((answering a w).dev.w EVR.CLR_RESP_HI ++ (answering a w).dev.w EVR.CLR_RESP_LO).toNat = rightAnswer a w
    ∧ leBytes 8 ((answering (a + 1) w).dev.w EVR.CLR_RESP_HI ++ (answering (a + 1) w).dev.w EVR.CLR_RESP_LO).toNat ≠ rightAnswer (a + 1) w := by
  have hr : leBytes 8 (BitVec.ofNat 64 (leNat (rightAnswer 0 0))).toNat = rightAnswer 0 0 := by
    have h : leNat (rightAnswer 0 0) < 2 ^ 64 := by
      have h := leNat_lt (rightAnswer 0 0)
      rw [rightAnswer_length] at h
      exact h
    rw [BitVec.toNat_ofNat, Nat.mod_eq_of_lt h]
    have e := leBytes_leNat (rightAnswer 0 0)
    rwa [rightAnswer_length] at e
  refine ⟨BitVec.ofNat 64 (leNat (rightAnswer 0 0)), fun w => ⟨?_, ?_⟩⟩
  · rw [answering_resp, rightAnswer_same _ 0 _ 0]
    exact hr
  · intro h
    rw [answering_resp, rightAnswer_same _ 0 _ 0] at h
    have h2 := leBytes_inj8 (h.trans hr.symm)
    have h1 : (1 : BitVec 64) = 0 := by
      have h3 := congrArg (· - BitVec.ofNat 64 (leNat (rightAnswer 0 0))) h2
      simp only [BitVec.sub_self] at h3
      rwa [BitVec.add_comm, BitVec.add_sub_cancel] at h3
    exact absurd h1 (by decide)

/-- A code table whose one entry is enabled, and one that is not. -/
def table (flags : Byte) : Store := { State.reset.store with mem := [(codeBase, 1), (codeBase + 3, flags)] }

theorem test_hyp_RecorderAdmission :
    (let s := upd (frozen 0 0) fun d => { d with occ := [⟨0x0601, 4, 0, []⟩] }
     firstOccurrence s.dev.occ = some ⟨0x0601, 4, 0, []⟩)
    ∧ State.reset.dev.occ = []
    ∧ (codeEntries State.reset.store = [] ∧ holds (st [] [(EVR.STAT, 8), (EVR.FREEZE, 0), (SYS.MODE, 3)]).dev = false
      ∧ State.reset.dev.evr.intake.length < 64 ∧ Assoc.get 0 State.reset.dev.evr.spent 1024 < (st [(EVR.DEF_CFG, 8)] []).cfg.f EVR.DEF_CFG 0 8
      ∧ (st [(EVR.DEF_CFG, 0)] []).cfg.f EVR.DEF_CFG 0 8 ≤ Assoc.get 0 State.reset.dev.evr.spent 1024)
    ∧ nextRecord State.reset.dev = none
    ∧ (let s := upd (st [] [(EVR.STAT, 8), (EVR.FREEZE, 0), (SYS.MODE, 3), (EVR.HEAD, 0)]) fun d => { d with evr := { d.evr with intake := [record0] } }
       nextRecord s.dev = some (record0, true) ∧ record0.bytes.length = 64 ∧ s.dev.evr.written = 0 ∧ s.dev.evr.index = []
        ∧ (s.dev.w EVR.HEAD).toNat + 1 < ringSize ∧ s.dev.b MEM.INJ_CTRL 0 = false ∧ s.dev.evr.granTick = none) := by decide

/-- The code table's entry for an occurrence, disabled: flags bit 0 of it is 0. -/
theorem test_hyp_RecorderAdmission_disabled :
    (∃ e ∈ codeEntries (table 0), e.code = 1) ∧ (∀ e ∈ codeEntries (table 0), e.code = 1 → e.flags.testBit 0 = false) := by decide

theorem test_hyp_RecorderAdmission_full :
    ∃ d : Dev, holds d = false ∧ 64 ≤ d.evr.intake.length :=
  ⟨{ regs := [(EVR.STAT, 8), (EVR.FREEZE, 0), (SYS.MODE, 3)], evr := { intake := List.replicate 64 record0 } }, by decide⟩

theorem test_hyp_HackUnit :
    (fld (0x4A5C0000 : Word) 16 16 = 0x4A5C ∧ fld (0x4A5D0000 : Word) 16 16 ≠ 0x4A5C ∧ State.reset.dev.hck.pending = none)
    ∧ (let s := st [(HCK.CFG, 0x100044)] []
       s.cfg.b HCK.CFG (1 - 1) = false ∧ s.cfg.b HCK.CFG (7 - 1) = true ∧ s.dev.hck.pending = none ∧ s.dev.hck.lastTrigger = none)
    ∧ (let s := upd (st [(HCK.CFG, 0x100044)] []) fun d => { d with tick := 16, hck := { d.hck with lastTrigger := some 0 } }
       s.cfg.b HCK.CFG (3 - 1) = true ∧ s.dev.hck.lastTrigger = some 0 ∧ s.dev.tick ≤ 0 + s.cfg.f HCK.CFG 16 16)
    ∧ (let s := upd State.reset fun d => { d with hck := { d.hck with pending := some (7, 1), lastTrigger := some 3 } }
       s.dev.hck.pending = some (7, 1) ∧ journaling s.cfg s.dev = false ∧ s.cfg.b HCK.CFG 14 = false
        ∧ (∀ p ∈ pages, s.cfg.b (hdrSNAP_CTRL p.base) 0 = false) ∧ s.dev.tick ≤ 7 + 16) := by decide

/-! ### Self-test, power and boot -/

def range0 : RangeObs := ⟨[30, -30], [100]⟩
def range1 : RangeObs := ⟨[31], [0]⟩

theorem test_hyp_FullRun :
    (let s := upd (inMode 2 [] []) fun d => { d with pwr := { d.pwr with phase := 2 } }
     s.dev.mode = 2 ∧ s.dev.pwr.phase = 2 ∧ s.dev.stu.run = none ∧ s.dev.stu.ended = false)
    ∧ (withinRange range0 = true ∧ withinRange range1 = false) ∧ State.reset.dev.stu.run = none
    ∧ (upd State.reset fun d => { d with stu := { d.stu with run := some (1, 5) } }).dev.stu.run = some (1, 5)
    ∧ (inRegion0 0x20000000 = true ∧ inRegion0 0x20200000 = false) := by decide

theorem test_hyp_ClusterTests :
    (let s := inMode 10 [] [(SLV.CL_STAT 3, 2)]
     fld (0x57E50003 : Word) 16 16 = 0x57E5 ∧ 2 ≤ clState s.dev (fld (0x57E50003 : Word) 0 2) ∧ s.dev.stu.cluster = none
      ∧ withinRange range0 = true ∧ 3 ≤ s.dev.mode ∧ s.dev.mode ≤ 10)
    ∧ (fld (0x57E60003 : Word) 16 16 ≠ 0x57E5 ∧ clState State.reset.dev 0 < 2 ∧ withinRange range1 = false)
    ∧ (let s := inMode 11 [] [(SLV.CL_STAT 3, 2)]
       2 ≤ clState s.dev 3 ∧ 10 < s.dev.mode)
    ∧ (upd (inMode 10 [] [(SLV.CL_STAT 3, 2)]) fun d => { d with stu := { d.stu with cluster := some 3 } }).dev.stu.cluster = some 3 := by decide

/-- Power and reset states. -/
def asleepIn (n : Nat) (live regs : List (Nat × Word)) : State := upd (st live regs) fun d => { d with pwr := { d.pwr with asleep := n } }
def phased (n : Nat) : State := upd (st [] [(SYS.WDT_STAT, 0)]) fun d => { d with pwr := { d.pwr with phase := n } }

theorem test_hyp_ResetSources :
    (State.reset.dev.pwr.asleep ≠ 1 ∧ State.reset.dev.pwr.asleep = 0 ∧ 2 ≤ (6 : Fin 10).val ∧ (6 : Fin 10).val ≤ 6 ∧ 6 < (7 : Fin 10).val)
    ∧ ((inMode 3 [] [(SYS.WDT_STAT, 0x10000)]).dev.b SYS.WDT_STAT 16 = true ∧ (inMode 3 [] [(SYS.WDT_STAT, 0x10000)]).dev.mode ≠ 2
      ∧ (st [] [(SYS.JTAG_STAT, 1)]).dev.b SYS.JTAG_STAT 0 = true)
    ∧ (fld (0x9E570000 : Word) 16 16 = 0x9E57 ∧ fld (0x9E580000 : Word) 16 16 ≠ 0x9E57)
    ∧ ((0 : Fin 9).val = 0 ∧ 3 ≤ (6 : Fin 9).val ∧ (6 : Fin 9).val ≤ 6 ∧ 7 ≤ (7 : Fin 9).val
      ∧ 10000 < (0xD8EF : BitVec 16).toInt.natAbs ∧ (0xD8F0 : BitVec 16).toInt.natAbs ≤ 10000)
    ∧ (asleepIn 1 [] []).dev.pwr.asleep = 1 ∧ (asleepIn 2 [(PWR.DORM_CFG, 1)] []).cfg.b PWR.DORM_CFG 0 = true
    ∧ (let s := asleepIn 2 [(CAN.WAKE_CFG 5, 1)] [(CAN.STAT 5, 0x10)]
       s.dev.pwr.asleep = 2 ∧ s.dev.b (CAN.STAT 5) 4 = true ∧ wakes s.cfg 5 (.dominant 5) = true) := by decide

theorem test_hyp_DeviceResetLeaves :
    (1 ≤ 1 ∧ 11 ≤ 11) ∧ 0 ∉ keptKeys ∧ EVR.HEAD ∈ keptKeys ∧ inRegion0 0x20000000 = true ∧ inRegion1 0x80000000 = true
      ∧ inRegion0 0x50000000 = false ∧ inRegion1 0x50000000 = false ∧ 2 ≤ (phased 2).dev.pwr.phase := by decide

/-- A header whose body is empty, LOAD and ENTRY 0x80001000, SECVER 4, key slot 3, every silicon step, signed (ECDSA P-256, SHA-256). -/
def signedImage : List Byte :=
  leBytes 128 0x55b852781b9995a44c939b64e441ae2724b96f99c8f4fb9a141cfc9842c4b0e300000000000000000000000000000000000000000000000000000000000000000000000000000000000000000000ffff00000000000000000000000080001000000000008000100000000000000000000000000000000004000300014d494e4b
    ++ leBytes 128 0x5da0dc6d29d169197d9d8be1c7d0e6e5d079a070eb9890a48bef81eba5c873e5cda8f705838c6638e54a5090717d1c88ebeeb1ad4318dc3ed3f2fb5c167739f1168935d084d9923dd14e836ba7a70ec61e92f54c39c196748659bf809061555471c3e758c4904285bba7e53118ed0f524adeb0757d25bd2f8e7b0d76dfa714c

/-- The SHA-256 digest of its public key, its first byte lowest. -/
def signedKeyHash : BitVec 256 := 0x3056420286a8501abf286b2d2400f33f802c8896d52c5c21b668bd58c476d6bd

/-- That image in both slots and in LPDDR4X, and its key hash and a debug key hash in OTP; a nonce stands. -/
def imaged (n : Nat) : State :=
  { upd (st [] [(SYS.ID_STEP, 0x10), (SYS.UID_LO, 0x05060708), (SYS.UID_HI, 0x01020304), (SYS.WDT_STAT, 0)]) (fun d => { d with
      stu := { d.stu with keys := true }
      pwr := { d.pwr with
        phase := n, jtagNonce := some 5, minSecVer := 4, keyHashes := [0, 0, 0, signedKeyHash], debugHashes := [0, 0, 0, signedKeyHash] } }) with
    store := ((State.reset.store.write 0x10000000 signedImage).write 0x13000000 signedImage).write 0x80000000 signedImage }

theorem signed_field (st : Store) (a o n : Nat) (h : st.bytes a 256 = signedImage) (hn : o + n ≤ 256) :
    imageField st a o n = leNat ((signedImage.drop o).take n) := by
  rw [imageField, Store.bytes_sub st a 256 o n hn, h]

theorem signed_byte (st : Store) (a o : Nat) (h : st.bytes a 256 = signedImage) (ho : o < 256) : st.byte (a + o) = signedImage.getD o 0 := by
  have e := Store.bytes_getElem? st a 256 o ho
  rw [h] at e
  rw [List.getD_eq_getElem?_getD, e]
  rfl

set_option maxRecDepth 100000 in
theorem signed_signature : ecdsaHolds (leNat ((signedImage.drop 0xC0).take 32)) (leNat ((signedImage.drop 0xE0).take 32))
    (leNat ((signedImage.drop 0x80).take 32)) (leNat ((signedImage.drop 0xA0).take 32)) (signedImage.take 128) = true := by decide +kernel

set_option maxRecDepth 100000 in
theorem signed_key : hashNumber (sha256 ((signedImage.drop 0xC0).take 64)) = signedKeyHash := by decide +kernel

set_option maxRecDepth 100000 in
theorem signed_empty : sha256 [] = (signedImage.drop 0x60).take 32 := by decide +kernel

/-- Wherever it stands the image is valid for a device with its key hash. -/
theorem signed_valid (st : Store) (d : Dev) (a : Nat) (h : st.bytes a 256 = signedImage) (hs : stepBit d = 1) (hm : d.pwr.minSecVer ≤ 4)
    (hr : d.pwr.revoked = 0) (hk : d.pwr.keyHashes = [0, 0, 0, signedKeyHash]) (hp : st.poison = []) (he : st.errs = []) :
    imageReason st d a = 0 := by
  have f := fun o n => signed_field st a o n h
  have len : imageLen st a = 0 := by rw [imageLen, f _ _ (by decide)]; decide
  have res : imageReserved.any (fun o => st.byte (a + o) != 0) = false := by
    rw [List.any_eq_false]
    intro o ho
    have h1 : o < 256 ∧ signedImage.getD o 0 = 0 := by revert o; decide
    rw [signed_byte st a o h h1.1, h1.2]; decide
  have key : imageKeyOk st d a = true := by
    unfold imageKeyOk
    rw [f _ _ (by decide), Store.bytes_sub st a 256 0xC0 64 (by decide), h, signed_key, hr, hk]
    decide
  have sig : imageSigOk st a = true := by
    unfold imageSigOk
    rw [f _ _ (by decide), f _ _ (by decide), f _ _ (by decide), f _ _ (by decide), show a = a + 0 from rfl,
      Store.bytes_sub st a 256 0 128 (by decide), h]
    exact signed_signature
  have ver : imageSecVer st a = 4 := by rw [imageSecVer, f _ _ (by decide)]; decide
  have poi : st.readsPoison a (0x100 + imageLen st a) = false := by simp [Store.readsPoison, Store.poisoned, hp, he]
  unfold imageReason
  rw [f _ _ (by decide), f _ _ (by decide), f _ _ (by decide), res, hs, key, sig, ver, poi, len, show st.bytes (a + 0x100) 0 = [] from rfl,
    Store.bytes_sub st a 256 0x60 32 (by decide), h, signed_empty]
  rw [if_neg (by decide), if_neg (by decide), if_neg (by decide), if_neg (by omega), if_neg (by decide), if_neg (by simp), if_neg (by decide)]

theorem signedImage_length : signedImage.length = 256 := by rw [signedImage, List.length_append, leBytes_length, leBytes_length]

theorem imaged_step (n : Nat) : stepBit (imaged n).dev = 1 := show stepBit (imaged 0).dev = 1 by decide

theorem imaged_bytes (n : Nat) : (imaged n).store.bytes 0x10000000 256 = signedImage ∧ (imaged n).store.bytes 0x13000000 256 = signedImage
    ∧ (imaged n).store.bytes 0x80000000 256 = signedImage := by
  have l := signedImage_length
  refine ⟨?_, ?_, ?_⟩
  · show (((State.reset.store.write 0x10000000 signedImage).write 0x13000000 signedImage).write 0x80000000 signedImage).bytes _ 256 = _
    rw [Store.bytes_write_ne _ _ _ _ _ (by omega), Store.bytes_write_ne _ _ _ _ _ (by omega), ← l, Store.bytes_write]
  · show (((State.reset.store.write 0x10000000 signedImage).write 0x13000000 signedImage).write 0x80000000 signedImage).bytes _ 256 = _
    rw [Store.bytes_write_ne _ _ _ _ _ (by omega), ← l, Store.bytes_write]
  · show (((State.reset.store.write 0x10000000 signedImage).write 0x13000000 signedImage).write 0x80000000 signedImage).bytes _ 256 = _
    rw [← l, Store.bytes_write]

theorem imaged_valid (n a : Nat) (h : (imaged n).store.bytes a 256 = signedImage) : imageReason (imaged n).store (imaged n).dev a = 0 :=
  signed_valid _ _ a h (imaged_step n) (Nat.le_refl 4) rfl rfl rfl rfl

theorem test_hyp_signed_image : imageReason (imaged 3).store (imaged 3).dev 0x10000000 = 0
    ∧ imageReason (imaged 3).store (imaged 3).dev 0x13000000 = 0 :=
  ⟨imaged_valid 3 _ (imaged_bytes 3).1, imaged_valid 3 _ (imaged_bytes 3).2.1⟩

/-- The image that stands in LPDDR4X, sent once more, is valid there. -/
theorem test_hyp_service_image : imageReason ((imaged 5).store.write 0x80000000 signedImage) (imaged 5).dev 0x80000000 = 0 := by
  refine signed_valid _ _ _ ?_ (imaged_step 5) (Nat.le_refl 4) rfl rfl rfl rfl
  have l := signedImage_length
  rw [← l, Store.bytes_write]

theorem no_image (a : Nat) : imageReason State.reset.store (phased 3).dev a = 1 := by
  have h : imageField State.reset.store a 0 4 = 0 := rfl
  unfold imageReason
  rw [h, if_pos (by simp)]

theorem test_hyp_no_image :
    imageReason State.reset.store (phased 3).dev 0x10000000 ∉ [0, 7] ∧ imageReason State.reset.store (phased 3).dev 0x13000000 ∉ [0, 7] := by
  rw [no_image, no_image]; decide

theorem test_hyp_debug_answer :
    debugAnswer (imaged 3).dev 0x5cda8f705838c6638e54a5090717d1c88ebeeb1ad4318dc3ed3f2fb5c167739f
      0x5da0dc6d29d169197d9d8be1c7d0e6e5d079a070eb9890a48bef81eba5c873e 0x471c3e758c4904285bba7e53118ed0f524adeb0757d25bd2f8e7b0d76dfa714c
      0x83ef20eea5734d9c496f7b1a024dc8cdb469a75270063735ff2ff5d1ea14c8de = some 3 := by decide +kernel

theorem test_hyp_PowerCommands :
    (let s := st [] [(PWR.RAIL_STAT, 1)]
     s.dev.b PWR.RAIL_STAT (0 : Fin 10).val = true ∧ railOut s.dev (0 : Fin 10).val (4700 : BitVec 16).toNat = true)
    ∧ ((st [] [(PWR.RAIL_STAT, 0)]).dev.b PWR.RAIL_STAT (0 : Fin 10).val = false
      ∧ railIn (st [] [(PWR.RAIL_STAT, 0)]).dev (0 : Fin 10).val (5000 : BitVec 16).toNat = true)
    ∧ (fld (0x5D110000 : Word) 16 16 = 0x5D11 ∧ (st [] [(SYS.WDT_STAT, 0x10000)]).dev.b SYS.WDT_STAT 16 = true
      ∧ fld (0x5D120000 : Word) 16 16 ≠ 0x5D11)
    ∧ ((phased 1).dev.pwr.phase = 1 ∧ (phased 2).dev.pwr.phase ≠ 1)
    ∧ ((st [] [(SYS.BOOT_STAT, 0)]).dev.f SYS.BOOT_STAT 0 2 = 0 ∧ (st [] [(SYS.BOOT_STAT, 2)]).dev.f SYS.BOOT_STAT 0 2 = 2)
    ∧ (let s := upd (st [] [(SYS.BOOT_STAT, 0)]) fun d => { d with pwr := { d.pwr with runSecVer := 4, secSteps := 31 } }
       s.dev.f SYS.BOOT_STAT 0 2 < 2 ∧ s.dev.b SYS.BOOT_STAT 2 = false ∧ s.dev.pwr.minSecVer < s.dev.pwr.runSecVer ∧ s.dev.pwr.secSteps < 32)
    ∧ fld (0xB0C80001 : Word) 16 16 ≠ 0xB0C7 ∧ ((0xB0C7 : BitVec 16) ++ (0x0001 : BitVec 16) = (0xB0C70001 : Word))
    ∧ (let s := upd State.reset fun d => { d with stu := { d.stu with keys := true }, pwr := { d.pwr with jtagFails := 2 } }
       s.dev.stu.keys = true ∧ s.dev.pwr.jtagFails < 3 ∧ s.dev.pwr.jtagFails = 2 ∧ debugAnswer s.dev 0 0 0 0 = none)
    ∧ (let s := upd State.reset fun d => { d with stu := { d.stu with keys := true } }
       s.dev.stu.keys = true ∧ s.dev.pwr.jtagFails < 2 ∧ debugAnswer s.dev 0 0 0 0 = none)
    ∧ State.reset.dev.stu.keys = false
    ∧ ((st [] [(SYS.JTAG_STAT, 1)]).dev.b SYS.JTAG_STAT 0 = true ∧ (st [] [(SYS.JTAG_STAT, 1)]).dev.crown = false
      ∧ (st [] [(SYS.JTAG_STAT, 0)]).dev.b SYS.JTAG_STAT 0 = false) := by decide

theorem test_hyp_BootChoice :
    ((imaged 3).dev.pwr.phase = 3 ∧ (imaged 3).dev.stu.requested = false ∧ (imaged 3).dev.pwr.prefB = false ∧ (imaged 3).dev.pwr.trial = 0)
    ∧ ((phased 3).dev.pwr.phase = 3 ∧ (phased 3).dev.stu.requested = false ∧ (phased 3).dev.pwr.prefB = false ∧ (phased 3).dev.pwr.trial = 0)
    ∧ State.reset.dev.pwr.phase ≠ 3
    ∧ ((phased 5).dev.pwr.phase = 5 ∧ (st [] [(MEM.INJ_CTRL, 0)]).dev.b MEM.INJ_CTRL 0 = false
      ∧ imageReason ((phased 5).store.write 0x80000000 [1]) (phased 5).dev 0x80000000 ≠ 0)
    ∧ (let s := imaged 5
       s.dev.pwr.phase = 5 ∧ s.dev.pwr.entry = none) := by decide +kernel

/-! ### The pair -/

/-- One of a pair in a mode with this PRC.STAT, and its pair state. -/
def paired (m : Nat) (stat : Word) (f : PrcDev → PrcDev) : State :=
  upd (inMode m [(PRC.CFG, 7)] [(PRC.STAT, stat), (PRC.CFG_HASH_LO, 0), (PRC.PCFG_HASH_LO, 0)]) fun d => { d with prc := f d.prc }

theorem test_hyp_LinkAndHeartbeats :
    (linkState (paired 3 0 id).dev = 0 ∧ (paired 3 0 id).dev.stu.keys = false ∧ linkState (paired 3 2 id).dev = 2 ∧ tbuSrc (paired 3 2 id).dev ≠ 6
      ∧ (let s := upd (paired 3 1 id) fun d => { d with stu := { d.stu with keys := true } }
         linkState s.dev ≠ 2 ∧ s.dev.stu.keys = true))
    ∧ (let s := paired 3 2 fun p => { p with flight := [⟨0xB1, 48, 0, 7⟩] }
       s.dev.prc.flight = ⟨0xB1, 48, 0, 7⟩ :: [] ∧ (⟨0xB1, 48, 0, 7⟩ : LinkFlight).retries < 8 ∧ 8 ≤ (⟨0xB1, 48, 0, 8⟩ : LinkFlight).retries
        ∧ s.dev.prc.linkQueue = [])
    ∧ ((paired 3 2 id).cfg.pair = true ∧ (paired 3 2 fun p => { p with digests := [(4, 5)] }).dev.prc.digests = (4, 5) :: []
      ∧ State.reset.cfg.pair = false ∧ hbValid (paired 4 2 id).dev { hb0 with beat := 2 } = false)
    ∧ (let s := paired 3 2 id; let hb := { hb0 with crowned := true }
       s.dev.mode = 3 ∧ s.dev.crown = false ∧ s.dev.prc.orphaned = false ∧ hb.crcOk = true ∧ hb.crowned = true ∧ hb.fail = false)
    ∧ (let s := paired 3 0x1002 id
       s.cfg.pair = true ∧ s.dev.crown = false ∧ s.dev.prc.crownHbSeen = false ∧ s.dev.prc.missBeat ≠ some s.dev.esc.beat
        ∧ s.dev.f PRC.STAT 12 2 < 2)
    ∧ (let s := paired 4 0x2002 id
       s.dev.f PRC.STAT 12 2 = 2 ∧ s.dev.prc.missBeat ≠ some s.dev.esc.beat ∧ tbuSrc s.dev ≠ 6 ∧ s.dev.mode = 4 ∧ s.dev.prc.trigger = false
        ∧ s.dev.b PRC.STAT 6 = false)
    ∧ (paired 4 2 fun p => { p with missBeat := some 0 }).dev.prc.missBeat = some (paired 4 2 id).dev.esc.beat
    ∧ (let x : Item := ⟨0, 7, 1, 1, [], 2⟩
       (upd State.reset fun d => { d with flow := { d.flow with held := [(5, x)] } }).dev.flow.held.find?
        (fun q => q.2.source = (7 : Fin 65536).val && q.2.cls = 2) = some (5, x))
    ∧ State.reset.dev.flow.held = [] := by decide

/-- A journal block of no records. -/
def block0 (beat : Nat) (ok : Bool) : JournalBlock := ⟨[], beat, 0, 0, ok⟩

theorem test_hyp_Joining :
    (let s := paired 5 0xE id
     s.cfg.pair = true ∧ s.dev.mode = 5 ∧ linkState s.dev = 2 ∧ partnerCrowned s.dev = true ∧ s.dev.f PRC.STAT 8 3 = 0
      ∧ s.dev.prc.askBlocked = false ∧ s.dev.w PRC.CFG_HASH_LO = s.dev.w PRC.PCFG_HASH_LO
      ∧ s.dev.w PRC.CFG_HASH_HI = s.dev.w PRC.PCFG_HASH_HI ∧ s.dev.b SYS.MODE 12 = false
      ∧ (upd s fun d => d.put PRC.CFG_HASH_LO 1).dev.w PRC.CFG_HASH_LO ≠ (upd s fun d => d.put PRC.CFG_HASH_LO 1).dev.w PRC.PCFG_HASH_LO)
    ∧ State.reset.dev.mode ≠ 5
    ∧ (let s := paired 6 4 fun p => { p with latch := true }; journaling s.cfg s.dev = true) ∧ journaling State.reset.cfg State.reset.dev = false
    ∧ (let s := paired 5 0x102 fun p => { p with transferTick := some 4 }
       s.dev.prc.transferTick = some 4 ∧ s.dev.mode = 5 ∧ s.dev.f PRC.STAT 8 3 = 1 ∧ s.cfg.due = [] ∧ s.cfg.group = none
        ∧ s.dev.b SYS.MODE 12 = false ∧ s.cfg.pair = true ∧ s.dev.crown = false ∧ s.dev.prc.buffer.length < 256)
    ∧ State.reset.dev.prc.transferTick = none
    ∧ (let s := paired 5 0x202 fun p => { p with image := some img0, catchBeats := 1000 }
       s.dev.prc.image = some img0 ∧ s.dev.mode = 5 ∧ s.dev.f PRC.STAT 8 3 = 2 ∧ s.dev.b SYS.MODE 12 = false ∧ 1000 ≤ s.dev.prc.catchBeats)
    ∧ (State.reset.dev.prc.image = none ∧ State.reset.dev.prc.catchBeats < 1000)
    ∧ (let s := upd (paired 4 2 id) fun d => { d with esc := { d.esc with beat := 3 } }
       s.cfg.pair = true ∧ s.dev.crown = false ∧ s.dev.mode = 4 ∧ 0 ≤ seqDiff 32 (block0 2 false).epoch.toNat s.dev.prc.epoch.toNat
        ∧ (block0 2 false).crcOk = false ∧ blockGood (block0 2 true) = true ∧ s.dev.prc.journalBeat < (block0 2 true).beat
        ∧ s.dev.prc.journalBeat < s.dev.esc.beat - 1 ∧ s.dev.prc.captures = [] ∧ s.dev.prc.digests.any (fun e => e.1 = (9 : BitVec 48).toNat) = false
        ∧ s.dev.modes.wanted = [])
    ∧ (paired 6 4 fun p => { p with latch := true }).dev.crown = true := by decide

theorem test_hyp_CrownAndTakeover :
    (State.reset.dev.crown = false ∧ (paired 6 4 fun p => { p with latch := true }).dev.crown = true)
    ∧ ((9 : Nat) < 10 ∧ (100 : Nat) ≤ 100 ∧ (100 : Nat) < 101 ∧ (149 : Nat) < 150) ∧ State.reset.dev.prc.swapTake = false
    ∧ (let s := paired 6 4 fun p => { p with latch := true, latchTick := 0 }
       s.dev.crown = true ∧ s.cfg.pair = true ∧ s.cfg.b PRC.CFG 1 = true ∧ s.dev.tick ≤ s.dev.prc.latchTick + 8000
        ∧ s.cfg.b PRC.CFG 2 = true ∧ s.dev.prc.seizeOut = 0 ∧ s.dev.prc.testSent = false ∧ s.dev.prc.swap = none ∧ triggerStands (paired 6 4 fun p => { p with latch := true, crownLowBeats := 2 }).dev = true
        ∧ (paired 6 4 fun p => { p with latch := true, swap := some ⟨0, 0⟩ }).dev.prc.swap ≠ none)
    ∧ (let s := upd State.reset fun d => { d with prc := { d.prc with latch := true } }; s.dev.crown = true ∧ s.cfg.b PRC.CFG 1 = false)
    ∧ (let s := paired 3 8 fun p => { p with wireBeats := 10 }
       s.cfg.pair = true ∧ s.dev.b PRC.STAT 14 = false ∧ 10 ≤ s.dev.prc.wireBeats)
    ∧ (let s := paired 3 8 id; s.dev.b PRC.STAT 14 = false ∧ s.dev.prc.wireBeats < 10)
    ∧ (let s := paired 4 0x40 id; s.dev.mode = 4 ∧ s.dev.crown = false ∧ s.dev.b PRC.STAT 6 = true ∧ s.dev.b PRC.STAT 5 = false
        ∧ s.dev.prc.seizeIn = false ∧ s.dev.prc.crownInTick + 20 * ticksPerUs ≤ s.dev.prc.seizeTick + ticksPerMs)
    ∧ (let s := paired 4 0x40 fun p => { p with crownInTick := 200001 }
       s.dev.b PRC.STAT 6 = true ∧ s.dev.prc.seizeTick + ticksPerMs < s.dev.prc.crownInTick)
    ∧ (let d := (paired 4 0 fun p => { p with epoch := 6 }).dev; d.prc.epoch = wd 6 ∧ d.w PRC.EPOCH_MAX = wd 0)
    ∧ ((paired 4 0x60 id).dev.b PRC.STAT 5 = true ∧ (paired 4 0 id).dev.b PRC.STAT 6 = false)
    ∧ (let s := paired 4 0x3000 fun p => { p with seizeBeat := 5 }
       triggerStands s.dev = true ∧ s.dev.esc.beat < s.dev.prc.seizeBeat + 10)
    ∧ (triggerStands State.reset.dev = false ∧ State.reset.dev.prc.seizeOut = 0 ∧ (paired 4 0 fun p => { p with seizeOut := 2 }).dev.prc.seizeOut ≠ 0)
    ∧ (let s := upd (paired 6 0x3000 fun p => { p with latch := true }) fun d => { d with esc := { d.esc with beat := 10 } }
       triggerStands s.dev = true ∧ s.dev.prc.seizeBeat + 10 ≤ s.dev.esc.beat ∧ s.dev.crown = true)
    ∧ (let s := upd (paired 4 0x3000 id) fun d => { d with esc := { d.esc with beat := 10 } }
       triggerStands s.dev = true ∧ s.dev.prc.seizeBeat + 10 ≤ s.dev.esc.beat ∧ s.dev.mode = 4 ∧ s.dev.crown = false ∧ s.dev.b PRC.STAT 6 = false)
    ∧ fld (0x9A200001 : Word) 16 16 ≠ 0x9A1F
    ∧ (let s := paired 5 4 fun p => { p with latch := true, swap := some ⟨0, 0⟩ }
       s.dev.prc.swap = some ⟨0, 0⟩ ∧ (⟨0, 0⟩ : SwapDev).atBeat ≤ s.dev.esc.beat ∧ s.dev.crown = true ∧ s.dev.mode < 6
        ∧ partnerStandby s.dev = false)
    ∧ (let s := upd (paired 10 0x40004 fun p => { p with latch := true, swap := some ⟨0, 0⟩ }) fun d => d.put PRC.DIGEST 1
       s.dev.crown = true ∧ partnerStandby s.dev = true ∧ 6 ≤ s.dev.mode ∧ s.dev.mode ≤ 10
        ∧ max 1 (s.cfg.f PRC.CFG 16 10) ≤ s.dev.f PRC.DIGEST 0 16) := by decide

theorem test_hyp_FieldWatchdog :
    fld (0x3A5C0000 : Word) 16 16 = (st [] [(FIO.WDG_STAT, 0x3A5C0000)]).dev.f FIO.WDG_STAT 16 16
    ∧ fld (0x3A5D0000 : Word) 16 16 ≠ (st [] [(FIO.WDG_STAT, 0x3A5C0000)]).dev.f FIO.WDG_STAT 16 16
    ∧ (st [] [(FIO.WDG_STAT, 0x3A5C0000)]).dev.b FIO.WDG_STAT 0 = false ∧ State.reset.dev.field.badSlots < 3
    ∧ (st [] [(FIO.WDG_STAT, 0x3A5C0004)]).dev.b FIO.WDG_STAT 2 = true ∧ (st [] [(FIO.WDG_STAT, 0x3A5C0001)]).dev.b FIO.WDG_STAT 0 = true
    ∧ (let s := upd (st [] [(FIO.WDG_STAT, 0)]) fun d => { d with field := { d.field with badSlots := 3 } }
       3 ≤ s.dev.field.badSlots ∧ s.dev.b FIO.WDG_STAT 2 = false) := by decide

/-! ### Control law and loops -/

/-- Actuator 39 of type 1 on bus group 7, its feedback on track 5. -/
def act39 (state valid power : Word) : State :=
  inMode 6 [(LAW.ACT_CFG 39, 0x39), (LAW.FB_BASE, 0x100), (FUS.TRK_CFG 5, 0x1270009)]
    [(LAW.ACT_STAT 39, state), (FUS.TRK_VALID 0, valid), (LAW.BUS_PWR 7, power)]

def job0 (stream seq : Nat) (phase : JobPhase) : Job :=
  { stream := stream, seq := seq, slot := 1, level := 3, width := 1, warm := false, irq := false, maxIter := 0, dlTick := none, dlBeat := none,
    tolPrimal := 0, tolDual := 0, tolGap := 0, paramAddr := 0, warmAddr := 0, resultAddr := 0, phase := phase, clusters := [0], yield := false,
    deadlineHit := false, k := 0, best := none, x0 := none, code := 0, warmUsed := false, warmRejected := false, flags := 0, cycles := 0,
    suspensions := 0, setupTick := 0, heldSince := 0, tag := 0, t0 := 0, dataPoison := false, params := [], cur := ⟨[], [], [], []⟩ }

def jobs (l : List Job) : State := upd (inMode 6 [] []) fun d => { d with slv := { d.slv with jobs := l } }

theorem test_hyp_LawAndLoopCommands :
    (let s := act39 1 0 0; let v : Word := 0x4A7C0127
     s.dev.mode ≠ 4 ∧ journaling s.cfg s.dev = false ∧ fld v 16 16 = 0x4A7C ∧ fld v 0 6 < 40 ∧ actType s.cfg (fld v 0 6) ≠ 0
      ∧ fld v 8 2 = 1 ∧ actState s.dev (fld v 0 6) = 1)
    ∧ (let s := act39 2 0x20 0x10000; let v : Word := 0x4A7C0227
       fld v 8 2 = 2 ∧ actState s.dev (fld v 0 6) ≠ 1 ∧ feedbackTrack s.cfg (fld v 0 6) = some 5 ∧ trackValid s.dev 5 = true
        ∧ s.dev.b (LAW.BUS_PWR (s.cfg.f (LAW.ACT_CFG (fld v 0 6)) 3 3)) 16 = true)
    ∧ fld (0x4A7D0127 : Word) 16 16 ≠ 0x4A7C ∧ bit (0x10005 : Word) 16 = true
    ∧ ((st [(LAW.CFG2, 0)] []).cfg.f LAW.CFG2 24 8 = 0 ∧ (st [(LAW.CFG2, 0x1000000)] []).cfg.f LAW.CFG2 24 8 ≠ 0
      ∧ State.reset.dev.b (LAW.BUS_PWR 7) 17 = false)
    ∧ ((st [(LAW.JOY_CFG, 0)] []).cfg.f LAW.JOY_CFG 16 8 = 0 ∧ (st [(LAW.JOY_CFG, 0x10000)] []).cfg.f LAW.JOY_CFG 16 8 ≠ 0
      ∧ (upd State.reset fun d => { d with law := { d.law with joyStale := false } }).dev.law.joyStale = false)
    ∧ (State.reset.dev.law.cqActive = false
      ∧ let s := upd State.reset fun d => { d with law := { d.law with cqActive := true } }
        s.dev.law.cqTodo = [] ∧ s.dev.slv.jobs.any (fun j => j.stream = 2) = false ∧ s.dev.law.cqActive = true)
    ∧ (lawRuns State.reset.dev = false ∧ lawRuns (inMode 6 [] []).dev = true ∧ (inMode 6 [] []).dev.esc.beat % 10000 = 0)
    ∧ ((inMode 4 [] []).dev.mode = 4 ∧ actuatorSlot (inMode 6 [] []).cfg 63 = false
      ∧ actuatorSlot (inMode 6 [(LAW.ACT_CFG 39, 0x3F39)] []).cfg 63 = true)
    ∧ ((jobs [job0 6 4 .held]).dev.slv.jobs = [job0 6 4 .held] ∧ (job0 6 4 .held).stream = (6 : Fin 7).val ∧ 3 ≤ (6 : Fin 7).val
      ∧ State.reset.dev.slv.jobs = [])
    ∧ (let s := inMode 6 [] [(LPE.SLOTSEL, 63), (LPE.SL_STAT 63, 5)]
       fld (0x1C4E0001 : Word) 16 16 = 0x1C4E ∧ bit (0x1C4E0001 : Word) 0 = true ∧ loopState s.dev (s.dev.f LPE.SLOTSEL 0 6) = 5
        ∧ fld (0x1C4F0001 : Word) 16 16 ≠ 0x1C4E)
    ∧ (loopsRun State.reset.cfg State.reset.dev = false
      ∧ let s := inMode 6 [(LPE.CFG, 1), (LPE.SL_CFG 63, 1), (LPE.GRP_CFG 3, 0)] []
        loopsRun s.cfg s.dev = true ∧ groupOn s.cfg 3 = true ∧ s.cfg.b (LPE.GRP_CFG 3) 2 = false ∧ s.dev.b TBU.STATE 9 = false
          ∧ 2 ^ s.cfg.f (LPE.GRP_CFG 3) 0 2 ≤ (1 : Fin 8).val) := by decide

theorem regReset_slStat (k : Nat) : regReset (LPE.SL_STAT k) = 0 := by
  have h1 : keyPage (LPE.SL_STAT k) = 0x40041000 := by unfold keyPage LPE.SL_STAT; omega
  have h2 : keyOff (LPE.SL_STAT k) = 0x164 := by unfold keyOff LPE.SL_STAT; omega
  unfold regReset keyRow
  rw [h1, h2]
  decide

/-- Group 3 of the loops runs in Manual, no slot has a state yet. -/
def loopsOn : State := inMode 6 [(LPE.CFG, 1), (LPE.SL_CFG 63, 1), (LPE.GRP_CFG 3, 0)] []

theorem test_hyp_LawAndLoopCommands_slots : loopsRun loopsOn.cfg loopsOn.dev = true ∧ groupOn loopsOn.cfg 3 = true
    ∧ loopsOn.cfg.b (LPE.GRP_CFG 3) 2 = false ∧ loopsOn.dev.b TBU.STATE 9 = false ∧ ∀ k, loopsOn.dev.w (LPE.SL_STAT k) = 0 := by
  refine ⟨by decide, by decide, by decide, by decide, fun k => ?_⟩
  have h : ¬ SYS.MODE = LPE.SL_STAT k := by unfold SYS.MODE LPE.SL_STAT; omega
  rw [← regReset_slStat k]
  show Assoc.get _ [(SYS.MODE, wd 6)] _ = _
  simp [Assoc.get, h]

/-! ### Solver -/

/-- Slot 1 live and enabled, a job descriptor for stream 3 at the start of the scratchpad. -/
def sch0 : Schedule := ⟨0, 1, 1, 1, 0, 0, 0, 0, 0, 10, 10, 10, 10, 10, 0, 0, []⟩
def slots : State :=
  { inMode 6 [(SLV.CFG, 0x401), (SLV.SLOT_CFG 1, 7)] [(SLV.SLOT_INFO 1, 1), (SLV.STRM_PUB 6, 0)] with
    store := { State.reset.store with mem := [(0x20000000, 1), (0x20000001, 3), (0x20000023, 0x80)] } }
def liveSlot : State := upd slots fun d => { d with slv := { d.slv with slots := [(1, { live := some sch0 })] } }
def withJob (j : Job) : State := upd liveSlot fun d => { d with slv := { d.slv with jobs := [j] } }
def pointZero : PointVals := ⟨0, 0, 0, 0⟩
/-- 1.0 in binary64. -/
def oneF : BitVec 64 := 0x3FF0000000000000
def iterZero : Iterate := ⟨[], [], [], []⟩

theorem test_hyp_SolverCommands_slots :
    slots.cfg.closed (keyPage (SLV.SLOT_ADDR_LO 7)) = false
    ∧ (slots.dev.f (SLV.SLOT_INFO 1) 0 4 = 1 ∧ slots.store.poison = []
      ∧ leAt (slots.store.bytes ((slots.cfg.sh (SLV.SLOT_ADDR_LO 1)).toNat + (slots.cfg.sh (SLV.SLOT_ADDR_HI 1)).toNat * 2 ^ 32) 128) 0 4 ≠ 0x4E465954
      ∧ (st [] [(SLV.SLOT_INFO 1, 2)]).dev.f (SLV.SLOT_INFO 1) 0 4 ≠ 1)
    ∧ (slots.store.errs = [] ∧ submitCode slots.cfg slots.store slots.dev 0x20000000 (slots.store.bytes 0x20000000 128) ≠ 0
      ∧ submitCode liveSlot.cfg liveSlot.store liveSlot.dev 0x20000000 (liveSlot.store.bytes 0x20000000 128) = 0) := by decide

set_option maxRecDepth 20000 in
theorem test_hyp_SolverCommands_jobs :
    ((withJob (job0 3 4 .reserved)).dev.slv.jobs = [job0 3 4 .reserved] ∧ (job0 3 4 .reserved).phase = .reserved)
    ∧ (let j := job0 3 4 .suspended; j.phase = .suspended ∧ j.level < 4 ∧ j.deadlineHit = false ∧ j.dlTick = none
        ∧ (withJob j).dev.mode ≠ 4 ∧ (withJob j).dev.mode ≠ 5)
    ∧ (let j := job0 6 4 .iterating; j.stream = (6 : Fin 7).val ∧ j.seq = (4 : Word).toNat ∧ j.phase = .iterating ∧ j.yield = false
        ∧ ({ j with yield := true } : Job).yield = true)
    ∧ State.reset.dev.findJob 6 4 = none
    ∧ (let j := job0 3 4 .setup
       (withJob j).dev.findJob 3 4 = some j ∧ j.phase = .setup ∧ ((withJob j).dev.slot j.slot).live = some sch0 ∧ j.warm = false
        ∧ j.dataPoison = false ∧ (withJob j).store.readsPoison j.paramAddr (8 * sch0.nParam) = false ∧ j.maxIter = 0
        ∧ ({ j with maxIter := 1 } : Job).maxIter ≠ 0)
    ∧ (let j := job0 3 4 .iterating
       (withJob j).dev.findJob 3 4 = some j ∧ j.phase = .iterating ∧ ({ j with dlTick := some 0 } : Job).dlTick = some 0
        ∧ (withJob j).dev.mode ≠ 4 ∧ (withJob j).dev.mode ≠ 5 ∧ j.dlTick = none ∧ j.dlBeat = none
        ∧ pastDeadline (withJob j).dev { j with dlTick := some 0 } = true ∧ pastDeadline (withJob j).dev j = false
        ∧ ((withJob j).dev.slot j.slot).live = some sch0 ∧ 10 ≤ sch0.cycIter
        ∧ nonFinite ⟨0x7FF0000000000000, 0, 0, 0⟩ ≠ 0 ∧ nonFinite pointZero = 0 ∧ journaledEnd (withJob j).dev j = none)
    ∧ (({ job0 3 4 .iterating with best := some (0, pointZero, 0, iterZero) } : Job).best.isSome = true ∧ 15 < 16 ∧ (6 : Nat) < 7) := by
  refine ⟨by decide, by decide, by decide, by decide, by decide, by decide, by decide⟩

theorem test_hyp_SolverCommands_ends :
    (let j := job0 2 4 .iterating
     let s := upd (inMode 4 [] []) fun d => { d with slv := { d.slv with jobs := [j], journal := [(2, 4, 9, 1, 0)] }, esc := { d.esc with beat := 10 } }
     s.dev.findJob 2 4 = some j ∧ j.phase = .iterating ∧ journaledEnd s.dev j = some (9, 1)
      ∧ journaledBeat s.dev j + 10 ≤ s.dev.esc.beat)
    ∧ (let j := job0 6 4 .writeBack
       (withJob j).dev.slv.jobs = [j] ∧ j.stream = (6 : Fin 7).val ∧ j.seq = (4 : Word).toNat ∧ 3 ≤ (6 : Fin 7).val ∧ j.phase = .writeBack
        ∧ (withJob j).dev.w (SLV.STRM_PUB 6) = 0
        ∧ (withJob j).dev.law.cqTodo = [])
    ∧ (fld (0x3C7C0000 : Word) 16 16 ≠ 0x3C7B ∧ fld (0x3C7B0002 : Word) 16 16 = 0x3C7B ∧ fld (0x3C7B0002 : Word) 0 3 < 3
      ∧ 6 < fld (0x3C7B0007 : Word) 0 3 ∧ 3 ≤ fld (0x3C7B0003 : Word) 0 3 ∧ fld (0x3C7B0006 : Word) 0 3 ≤ 6)
    ∧ (let s := withJob (job0 6 0 .queued)
       s.dev.slv.jobs = [job0 6 0 .queued] ∧ (job0 6 0 .queued).stream = fld (0x3C7B0006 : Word) 0 3
        ∧ (job0 6 0 .queued).seq = (s.dev.w SLV.CANCEL_SEQ).toNat ∧ s.dev.findJob 3 (s.dev.w SLV.CANCEL_SEQ).toNat = none)
    ∧ (clState (st [] [(SLV.CL_STAT 3, 3)]).dev 3 = 3 ∧ clState (st [] [(SLV.CL_STAT 3, 1)]).dev 3 = 1
      ∧ (st [] [(SLV.CL_STAT 3, 1)]).dev.slv.jobs = [] ∧ (st [] [(SLV.CL_STAT 3, 1)]).dev.law.cqTodo = []
      ∧ inDispatch (st [] [(SLV.CL_STAT 3, 1)]).dev < 4)
    ∧ (bit (0x3C7B0001 : Word) 0 = true ∧ bit (0x3C7B0000 : Word) 0 = false
      ∧ inDispatch (st [] [(SLV.CL_STAT 0, 0), (SLV.CL_STAT 1, 0), (SLV.CL_STAT 2, 0), (SLV.CL_STAT 3, 0)]).dev = 4)
    ∧ (∀ k, ((State.reset.dev.slot k).live = none)) := by
  refine ⟨by decide, by decide, by decide, by decide, by decide, by decide, fun k => rfl⟩

/-! ### Fusion -/

/-- Track 63 of a class, in a state, with this source. -/
def track63 (cfg stat : Word) (t : TrackDev) : State :=
  upd (inMode 6 [(FUS.TRK_CFG 63, cfg), (LAW.FB_BASE, 0x100), (FUS.EGO_CFG, 1)] [(FUS.TRK_STAT 63, stat), (FUS.TRKSEL, 63), (LAW.ACT_STAT 39, 1)]) fun d => d.putTrk 63 t

/-- A motion track at 63, VALID or not, chosen as the external source or not. -/
def motion (cfg valid ego : Word) : State := inMode 6 [(FUS.TRK_CFG 63, cfg), (FUS.EGO_CFG, ego)] [(FUS.TRK_VALID 1, valid)]
def internalValid (s : State) : Bool := someValid s.cfg s.dev (fun t => trkClass s.cfg t = 6 && trkInst s.cfg t = 0)

theorem test_hyp_FusionCommands_propagation :
    internalValid (motion 6 0x80000000 0) = true
    ∧ (let s := motion 6 0 0; internalValid s = false ∧ s.cfg.b FUS.EGO_CFG 7 = false)
    ∧ (let s := motion 6 0 0xFE
       internalValid s = false ∧ s.cfg.f FUS.EGO_CFG 1 6 = 63 ∧ s.cfg.b FUS.EGO_CFG 7 = true ∧ trackValid s.dev 63 = false)
    ∧ (let s := motion 5 0x80000000 0xFE; internalValid s = false ∧ s.cfg.b FUS.EGO_CFG 7 = true ∧ trkClass s.cfg 63 ≠ 6)
    ∧ (let s := motion 0x16 0x80000000 0xFE
       internalValid s = false ∧ s.cfg.b FUS.EGO_CFG 7 = true ∧ s.cfg.f FUS.EGO_CFG 1 6 = 63 ∧ trkClass s.cfg 63 = 6
        ∧ trackValid s.dev 63 = true) := by decide

theorem test_hyp_FusionCommands :
    (let s := framing []
     frameDue State.reset.dev = false ∧ frameDue s.dev = true ∧ s.dev.fus.frames = [] ∧ s.dev.fus.ahead = [] ∧ s.dev.flow.delivered = []
      ∧ enabledTracks s.cfg = [] ∧ s.dev.fus.selection = none)
    ∧ (let s := coasted
       coastOut s.dev = true ∧ coastOut State.reset.dev = false ∧ State.reset.dev.modes.openFrame = false
        ∧ (upd State.reset fun d => { d with modes := { d.modes with openFrame := true } }).dev.modes.openFrame = true
        ∧ coastOut (upd State.reset fun d => { d with modes := { d.modes with openFrame := true } }).dev = false)
    ∧ (State.reset.dev.fus.windHeld ≠ 1 ∧ (upd State.reset fun d => { d with fus := { d.fus with windHeld := 1 } }).dev.fus.windHeld = 1)
    ∧ (let s := track63 0x1270009 4 { lastValid := some 9 }
       trkState (track63 9 1 {}).dev 63 < 2 ∧ 4 < trkState (track63 9 5 {}).dev 63 ∧ 2 ≤ trkState s.dev 63 ∧ trkState s.dev 63 ≤ 4
        ∧ (s.dev.trk 63).lastValid = some 9)
    ∧ (let s := track63 0x1270009 1 { lostTick := some 9 }
       trkClass (track63 8 1 {}).cfg 63 ≠ 9 ∧ trkState (track63 9 2 {}).dev 63 ≠ 1 ∧ ((track63 9 1 {}).dev.trk 63).lostTick = none
        ∧ trkClass s.cfg 63 = 9 ∧ trkState s.dev 63 = 1 ∧ (s.dev.trk 63).forceZero = false ∧ s.cfg.b FUS.EGO_CFG 0 = true
        ∧ (s.dev.trk 63).lostTick = some 9 ∧ trkActuator s.cfg 63 = 39 ∧ actState s.dev 39 = 1)
    ∧ (let s := track63 0x109 2 {}
       s.dev.mode ≠ 4 ∧ (inMode 4 [] []).dev.mode = 4 ∧ fld (0x5E1E0001 : Word) 16 16 ≠ 0x5E1D ∧ journaling s.cfg s.dev = false
        ∧ trkTiming (track63 9 2 {}).cfg (s.dev.f FUS.TRKSEL 0 6) = 0 ∧ trkTiming s.cfg (s.dev.f FUS.TRKSEL 0 6) ≠ 0
        ∧ trkState s.dev (s.dev.f FUS.TRKSEL 0 6) ≠ 0 ∧ trkState s.dev (s.dev.f FUS.TRKSEL 0 6) ≠ 6)
    ∧ (fld (0x5B1A0000 : Word) 16 16 = 0x5B1A ∧ fld (0x5B1B0000 : Word) 16 16 ≠ 0x5B1A) := by decide

/-! ### Ranging -/

/-- Channel 0 with these registers, its path on. -/
def chan0 (cfg loop aid stat : Word) : State :=
  st [(RBB.ANT_CFG 0, 6), (RBB.GCFG, 0x101)]
    [(RBB.CHSEL 0, 0), (RBB.CH_CFG 0, cfg), (RBB.CH_LOOP 0, loop), (RBB.CH_CORR 0, 0x10), (RBB.CH_AID_CODE 0, aid), (RBB.CH_STAT 0, stat)]
def chanWith (f : ChanDev → ChanDev) : State := upd (chan0 0x100 1 0 1) fun d => d.putChan 0 (f (d.chan 0))
def engine0 (x : EngineDev) : State := upd (chan0 0x100 1 0 1) fun d => d.putEngine 0 x

/-- An engine searching for channel 0, THR 10, cold searches to 5 kHz. -/
def searching (x : EngineDev) : State := upd (st [(RBB.ACQ_CFG, 0x320A0000)] []) fun d => d.putEngine 0 x

theorem test_hyp_RangingChannels :
    (windowChan (chan0 0x100 1 0 0).dev 0 = 0 ∧ chState (chan0 0x100 1 0 0).dev 0 = 0 ∧ chState (chan0 0x100 1 0 2).dev 0 ≠ 0
      ∧ chState (chan0 0x100 1 0 1).dev 0 < 2 ∧ 2 ≤ chState (chan0 0x100 1 0 2).dev 0
      ∧ spacingOk (chSig (chan0 0x100 1 0 2).dev 0) (fld (0x10 &&& keyMask (RBB.CH_CORR 0)) 0 7) = true
      ∧ spacingOk (chSig (chan0 0x100 1 0 2).dev 0) (fld (0 &&& keyMask (RBB.CH_CORR 0)) 0 7) = false)
    ∧ (startResult (chan0 0x100 0 0 0).cfg (chan0 0x100 0 0 0).dev 0 true = 5 ∧ startResult (chan0 0x100 0 0 0).cfg (chan0 0x100 0 0 0).dev 0 false = 5
      ∧ startResult (chan0 0x100 1 0x80000000 0).cfg (chan0 0x100 1 0x80000000 0).dev 0 true = 0
      ∧ startResult (chan0 0x100 1 0 0).cfg (chan0 0x100 1 0 0).dev 0 false = 0)
    ∧ ((st [(SYS.CALIBRE, 0)] [(RBB.CHSEL 0, 383)]).cfg.f SYS.CALIBRE 0 2 ≠ 3
      ∧ windowChan (st [(SYS.CALIBRE, 0)] [(RBB.CHSEL 0, 383)]).dev 0 = 383 ∧ (st [(SYS.CALIBRE, 3)] []).cfg.f SYS.CALIBRE 0 2 = 3)
    ∧ (let s := upd State.reset fun d => { d with rbb := { d.rbb with queue := [7, 8] } }
       (s.dev.engine 1).ch = none ∧ s.dev.rbb.queue = 7 :: [8])
    ∧ (let s := searching { ch := some 0 }
       (s.dev.engine 0).ch = some 0 ∧ (s.dev.engine 0).abandon = false ∧ (9 : BitVec 8).toNat < s.cfg.f RBB.ACQ_CFG 16 8
        ∧ s.cfg.f RBB.ACQ_CFG 16 8 ≤ (10 : BitVec 8).toNat ∧ inSearch s.cfg (s.dev.engine 0).aid (0 : BitVec 20).toNat 0 = true
        ∧ inSearch s.cfg (s.dev.engine 0).aid (0 : BitVec 20).toNat 1280001 = false)
    ∧ ((searching { ch := some 0, abandon := true }).dev.engine 0).abandon = true
    ∧ (((chanWith fun x => x).dev.chan 0).requeue = none
      ∧ ((chanWith fun x => { x with requeue := some 4 }).dev.chan 0).requeue = some 4
      ∧ chState (chanWith fun x => { x with requeue := some 4 }).dev 0 = 1)
    ∧ (chState State.reset.dev 383 < 2 ∧ chState (chan0 0x100 1 0 3).dev 0 = 3 ∧ (chan0 0x100 1 0 3).dev.b (RBB.CH_CFG 0) 18 = false)
    ∧ (chState (chan0 0x100 0x101 0 0x1000002).dev 0 = 2 ∧ (chan0 0x100 0x101 0 0x1000002).dev.f (RBB.CH_LOOP 0) 8 8 ≠ 0
      ∧ (chan0 0x100 0x101 0 0x1000002).dev.b (RBB.CH_STAT 0) 24 = true ∧ (chan0 0x100 0x101 0 2).dev.b (RBB.CH_STAT 0) 24 = false)
    ∧ (((chanWith fun x => { x with lowSince := some 3 }).dev.chan 0).lowSince = some 3 ∧ ((chanWith id).dev.chan 0).lowSince = none
      ∧ chState (chan0 0 0 0 3).dev 0 = 3 ∧ chState (chan0 0 0 0 4).dev 0 = 4)
    ∧ (chState (chan0 0 0 0 5).dev 0 = 5 ∧ (chan0 0 0 0 5).cfg.b RBB.GCFG 8 = true
      ∧ (st [(RBB.GCFG, 1)] []).cfg.b RBB.GCFG 8 = false) := by decide

/-- A type 1 antenna supply, closed, with limits; path 5 with notches allowed. -/
def front : State := upd (st [(RBB.ANT_CFG 2, 0x960A07), (RBB.PATH_CFG 5, 0x110020)] [(RBB.ANT_STAT 2, 0), (RBB.INT_FLAG, 0)]) fun d =>
  d.putAnt 2 { closed := true }
def vec (cfg stat est : Word) : State := st [(RBB.VEC_CFG, cfg)] [(RBB.VEC_STAT, stat), (FUS.EST_STAT, est), (RBB.CH_STAT 3, 4)]
def view0 : SatView := ⟨⟨0, 1⟩, [], 0, 0⟩
/-- A message 1074 of two bytes, its parity to follow. -/
def msm : List Byte := [0xD3, 0, 3, 0x43, 0x20, 0]
def msmFrame : List Byte := msm ++ (leBytes 3 (crc24q msm)).reverse

/-- As many equal gains as 600 s hold at one epoch a second. -/
def learning : State := upd (st [(RBB.GCFG, 1)] [(RBB.INT_FLAG, 0)]) fun d => { d with rbb := { d.rbb with agcHist := [(5, List.replicate 600 7)] } }

theorem insertNat_length (x : Nat) (l : List Nat) : (insertNat x l).length = l.length + 1 := by
  induction l with
  | nil => rfl
  | cons y t ih => unfold insertNat; split <;> simp [ih]

theorem sorted_length (l : List Nat) : (l.foldr insertNat []).length = l.length := by
  induction l with
  | nil => rfl
  | cons y t ih => simp [insertNat_length, ih]

theorem test_hyp_RangingFrontEnd_learning : (learning.dev.w RBB.INT_FLAG).toNat % 2 ^ 15 = 0
    ∧ 600 * epochRate learning.cfg ≤ ((Assoc.get [] learning.dev.rbb.agcHist 5).foldr insertNat []).length
    ∧ ((Assoc.get [] State.reset.dev.rbb.agcHist 5).foldr insertNat []).length < 600 * epochRate learning.cfg := by
  refine ⟨by decide, ?_, by decide⟩
  rw [sorted_length]
  show 600 * epochRate learning.cfg ≤ (List.replicate 600 7).length
  rw [List.length_replicate]
  decide

set_option maxRecDepth 20000 in
theorem test_hyp_RangingFrontEnd :
    ((st [(RBB.ANT_CFG 2, 0)] []).cfg.b (RBB.ANT_CFG 2) 0 = false ∧ front.cfg.b (RBB.ANT_CFG 2) 0 = true ∧ (front.dev.ant 2).closed = true
      ∧ front.cfg.f (RBB.ANT_CFG 2) 16 8 ≤ 150 ∧ (149 : Fin 256).val < front.cfg.f (RBB.ANT_CFG 2) 16 8)
    ∧ (9 < front.cfg.f (RBB.ANT_CFG 2) 16 8 ∧ 9 < front.cfg.f (RBB.ANT_CFG 2) 8 8 ∧ (front.dev.ant 2).below < 9)
    ∧ (front.dev.b (RBB.ANT_STAT 2) 2 = false ∧ (st [] [(RBB.ANT_STAT 2, 4)]).dev.b (RBB.ANT_STAT 2) 2 = true)
    ∧ (Assoc.get [] front.dev.rbb.notches 5 = [] ∧ front.cfg.b (RBB.PATH_CFG 5) 16 = true ∧ pathOn front.cfg 5 = true
      ∧ front.cfg.f (RBB.PATH_CFG 5) 0 8 ≤ 32 ∧ 31 < front.cfg.f (RBB.PATH_CFG 5) 0 8 ∧ 1 ≤ front.cfg.f (RBB.PATH_CFG 5) 20 4
      ∧ 20 + 12 ≤ front.cfg.f (RBB.PATH_CFG 5) 0 8 ∧ front.cfg.f (RBB.PATH_CFG 5) 0 8 < 21 + 12
      ∧ notchAt 4 [] = none ∧ notchAt 50004 [(4, 40)] = some (4, 40))
    ∧ ((st [(RBB.GCFG, 0)] []).cfg.b RBB.GCFG 0 = false
      ∧ (let s := st [(RBB.GCFG, 1)] []; s.cfg.b RBB.GCFG 0 = true ∧ s.dev.esc.beat % epochBeats s.cfg = 0)
      ∧ (let s := upd (st [(RBB.GCFG, 1)] []) fun d => { d with esc := { d.esc with beat := 999 } }
         s.dev.esc.beat % epochBeats s.cfg ≠ 0))
    ∧ (State.reset.dev.rbb.excluded = []
      ∧ (upd State.reset fun d => { d with rbb := { d.rbb with excluded := [(⟨6, 255⟩, 99)] } }).dev.rbb.excluded.find?
        (fun e => e.1 == ⟨6, 255⟩) = some (⟨6, 255⟩, 99))
    ∧ ((st [] [(RBB.INT_FLAG, 4)]).dev.w RBB.INT_FLAG).toNat % 2 ^ 15 ≠ 0
    ∧ (corrVia (st [(RBB.CORR_SRC, 0)] []).cfg (.udp 0) = false ∧ corrVia (st [(RBB.CORR_SRC, 0x12340001)] []).cfg (.udp 0x1234) = true
      ∧ corrVia (st [(RBB.CORR_SRC, 0x2E)] []).cfg (.uart 11) = true ∧ corrVia (st [(RBB.CORR_SRC, 0x2E)] []).cfg (.uart 10) = false
      ∧ msmFrame.head? = some 0xD3 ∧ msm.length ≠ beNat ((msm.drop 1).take 2) % 1024 + 6)
    ∧ (let len := beNat ((msmFrame.drop 1).take 2) % 1024
       msmFrame.length = len + 6 ∧ 3 ≤ len ∧ crc24q (msmFrame.take (len + 3)) = beNat (msmFrame.drop (len + 3))
        ∧ isMsm (beNat (((msmFrame.drop 3).take len).take 2) / 16) = true)
    ∧ (rtcmKnown 0 = false ∧ crc24q (msmFrame.take 6) ≠ beNat (msmFrame.drop 7))
    ∧ (State.reset.dev.rbb.corrTick = none
      ∧ let s := upd State.reset fun d => { d with rbb := { d.rbb with corrTick := some 6, corrStale := false } }
        s.dev.rbb.corrTick = some 6 ∧ s.dev.rbb.corrStale = false)
    ∧ (State.reset.dev.rbb.views = []
      ∧ let s := upd (st [] [(RBB.CH_STAT 3, 4), (RBB.CH_CFG 3, 0x100)]) fun d => { d with rbb := { d.rbb with views := [view0] } }
        3 ∈ shownChannels s.dev ∧ chState s.dev 3 = 4 ∧ chView s.dev 3 = some view0)
    ∧ ((vec 1 0 4).dev.b RBB.VEC_STAT 0 = false ∧ (vec 1 1 4).dev.b RBB.VEC_STAT 0 = true ∧ vecCause (vec 1 1 4).cfg (vec 1 1 4).dev = 0
      ∧ (shownChannels (vec 1 1 4).dev).any (fun n => chState (vec 1 1 4).dev n = 4 && (vec 1 1 4).cfg.f RBB.VEC_CFG 16 3 ≤ ((vec 1 1 4).dev.chan n).miss) = true)
    ∧ (vecCause (vec 0 0 4).cfg (vec 0 0 4).dev ≠ 0 ∧ (vec 1 0 4).dev.rbb.clearFrames < 100
      ∧ let s := upd (vec 1 0 4) fun d => { d with rbb := { d.rbb with clearFrames := 100 } }
        s.dev.b RBB.VEC_STAT 0 = false ∧ vecCause s.cfg s.dev = 0 ∧ 100 ≤ s.dev.rbb.clearFrames) := by
  refine ⟨by decide, by decide, by decide, by decide, by decide, by decide, by decide, by decide, by decide, by decide, by decide, by decide, by decide, by decide, by decide⟩

/-! ### Results the spec states, one step each -/

/-- Table 3.10: the plan of 03_escapement.md, its values in effect, one beat before beat 1 000 150. -/
def plan310 : RegMap :=
  [(ESC.WHL_CFG 0, 0x7000A), (ESC.WHL_LIST 0, 0x100), (ESC.WHL_CFG 1, 0x9600C8), (ESC.WHL_LIST 1, 0x101), (ESC.SYNC_CFG 0, 5), (ESC.SYNC_CFG 1, 5),
    (ESC.PAL_A 0, 0x11), (ESC.PAL_B 0, 0x140), (ESC.PAL_A 1, 0x9C4011), (ESC.PAL_B 1, 0x641)]
def beforeRanger : State :=
  { upd (inMode 3 plan310 []) (fun d => { d with tick := 1000149 * 200000, esc := { d.esc with loaded := true, beat := 1000149, boundary := 1000149 * 200000 } }) with
    cfg := { live := plan310, esc := plan310 } }

/-- 03_escapement.md: the ranger wheel fires at beat 1 000 150 and SYNC1 rises at tick 200 030 040 000. -/
theorem test_beatBoundary_plansRanger :
    let t := (after (exec .beatBoundary beforeRanger)).dev
    t.esc.beat = 1000150 ∧ t.tick = 200030000000 ∧ t.esc.due = [⟨200030040000, 1, 1, 1, 1, 0, 0x641, false⟩] := by decide

/-- 22_registers.md, before Table 22.11: the ranger moves from wheel 1 to wheel 3 and track 14 with it. -/
def esc3 : RegMap :=
  [(ESC.WHL_CFG 0, 0x7000A), (ESC.WHL_LIST 0, 0x100), (ESC.WHL_CFG 1, 0), (ESC.WHL_LIST 1, 0x101), (ESC.WHL_CFG 3, 0x9600C8),
    (ESC.WHL_LIST 3, 0x101), (ESC.SYNC_CFG 0, 5), (ESC.SYNC_CFG 1, 5), (ESC.PAL_A 0, 0x11), (ESC.PAL_B 0, 0x140), (ESC.PAL_A 1, 0x9C4011),
    (ESC.PAL_B 1, 0x641)]
def moving : State :=
  { inMode 3 [] [] with cfg := { live := plan310 ++ [(FUS.TRK_CFG 14, 0x0C210603)], shadow := esc3 ++ [(FUS.TRK_CFG 14, 0x0C210E03)],
                                 hdr := [(hdrCFG_SEQ 0x40002000, 17), (hdrCFG_SEQ 0x40021000, 9)] } }

/-- Table 22.11: ESC alone is refused by rule 4 of Table 7.10, COMMIT_STAT 0x1101_0402, CFG_SEQ stays 17. -/
theorem test_commit_refusedByFus :
    let t := after (exec (.commit 0x40002000 1) moving)
    t.cfg.h (hdrCOMMIT_STAT 0x40002000) = 0x11010402 ∧ t.cfg.h (hdrCFG_SEQ 0x40002000) = 17 ∧ (t.dev.occ.map (·.code)) = [0x0101] := by decide

/-- Table 22.11: both pages marked, GLOBAL_COMMIT with AT 1 pending at beat 70 000. -/
def marked : State :=
  upd (after (exec (.globalCommit 0x6C0A0011) (after (exec (.mark 0x40021000 4) (after (exec (.mark 0x40002000 4) moving)))))) fun d =>
    { d with tick := 70000 * 200000, esc := { d.esc with loaded := true, beat := 70000, boundary := 70000 * 200000 } }

/-- Table 22.11, beat 70 001: GLOBAL_STAT 0x0000_0008, COMMIT_STAT 4 on each, CFG_SEQ 18 and 10, COMMIT_BEAT 70 001. -/
theorem test_globalCommit_applies :
    let t := after (exec .beatBoundary marked)
    t.cfg.h SYS.GLOBAL_STAT = 8 ∧ t.cfg.h (hdrCOMMIT_STAT 0x40002000) = 4 ∧ t.cfg.h (hdrCOMMIT_STAT 0x40021000) = 4
      ∧ t.cfg.h (hdrCFG_SEQ 0x40002000) = 18 ∧ t.cfg.h (hdrCFG_SEQ 0x40021000) = 10 ∧ t.cfg.h (hdrCOMMIT_BEAT 0x40002000) = 70001
      ∧ t.cfg.w (FUS.TRK_CFG 14) = 0x0C210E03 := by decide

/-- 01_architecture.md: 65 530 then 3 is accepted with 8 lost; then 65 534 is discarded as reordered. -/
theorem test_seqCheck_example :
    let s : SeqState := (({ last := some 65530 } : SeqState).check 3).2
    (({ last := some 65530 } : SeqState).check 3).1 = true ∧ s.lost = 8 ∧ (s.check 65534).1 = false ∧ (s.check 65534).2.reorder = 1 := by decide

/-- 04_timebase.md: with a target of 0x100 and the count at 0xFF_FFFF_FF00, d is -512. -/
theorem test_cmpDistance_example :
    cmpDistance (upd (st [] [(TBU.CMP_TGT_LO 0, 0x100), (TBU.CMP_TGT_HI 0, 0)]) fun d => { d with tick := 0xFFFFFFFF00 }).dev 0 = -512 := by decide

/-- 13_loop_engine.md: the cascade of thruster 2 on a standby, which takes the feedback of the LOOP_FB record. -/
def cascade : State :=
  let l : RegMap :=
    [(LPE.CFG, 1), (LPE.GRP_CFG 0, 2), (LPE.SL_CFG 8, 0x109), (LPE.SL_FMT 8, 0x1A1F1F), (LPE.SL_FB 8, 0x1000), (LPE.SL_UMIN 8, 0x80000000),
      (LPE.SL_UMAX 8, 0x7FFFFFFF), (LPE.SL_IMIN 8, 0), (LPE.SL_IMAX 8, 0), (LPE.SL_GAIN 8, 0x100), (LPE.SL_PLAUS 8, 0), (LPE.SL_CFG 9, 0x8403),
      (LPE.SL_FMT 9, 0x1C1F1F), (LPE.SL_FB 9, 0x1003), (LPE.SL_UMIN 9, 0x80000000), (LPE.SL_UMAX 9, 2040109465), (LPE.SL_IMIN 9, 0x80000000),
      (LPE.SL_IMAX 9, 0x7FFFFFFF), (LPE.SL_GAIN 9, 0x101), (LPE.SL_PLAUS 9, 0)]
  { upd (st l [(SYS.MODE, 0x1604), (LPE.SP 8, 0x20000000), (LPE.SL_STAT 8, 2), (LPE.SL_STAT 9, 2), (LPE.SL_I 9, 120000000)]) (fun d =>
      { d with lpe := { slots := [(9, { fresh := false })] } }) with
    store := { State.reset.store with mem := [(0x201C6003, 0x48), (0x201C6023, 0x20), (0x201C6024, 0xE1), (0x201C6025, 0x7A), (0x201C6026, 0x14),
      (0x201C6033, 0x10)] } }

set_option maxRecDepth 20000 in
/-- 13_loop_engine.md: u8 = 1 073 479 680, it = 121 340 866, u9 = 657 687 490, and the ANU value rounds to 10 036. -/
theorem test_loopSample_cascade :
    let t := (after (exec (.loopSample 0 0 (some [(8, 7282), (9, 0x3000)])) cascade)).dev
    loopOut t 8 = 1073479680 ∧ t.s (LPE.SL_I 9) 0 32 = 121340866 ∧ loopOut t 9 = 657687490 ∧ satS 16 (mulS 657687490 1 16) = 10036 := by decide

/-- 19_memory_integrity.md: four bytes of a word in error are corrected, five are not. -/
def burst (n : Nat) : State :=
  { State.reset with store := { State.reset.store with mem := [(0x20000006, 0x55)], errs := [(0x20000000, (List.range n).map fun i => (5 + i, 1))] } }
theorem test_demandRead_fourBytes : (after (exec (.demandRead ⟨0x20000004, 4⟩ [] true .core) (burst 4))).bus = .done 0x00550000 := by decide
theorem test_demandRead_fiveBytes : (after (exec (.demandRead ⟨0x20000004, 4⟩ [] true .core) (burst 5))).bus = .error := by decide

/-! ### Ill-formed terms, one for each check of WellFormed, are refused -/

theorem test_wf_refuses :
    Instr.wf (.jumpAccept 2) = false ∧ Instr.wf (.jumpDecline 1) = false ∧ Instr.wf (.trkRestart 2) = false
      ∧ Instr.wf (.trkRelease 3) = false ∧ Instr.wf (.trkResetClock 1) = false ∧ Instr.wf (.actWithdraw 0x200) = false
      ∧ Instr.wf (.actReadmit 0x100) = false ∧ Instr.wf (.prcFail 1) = false ∧ Instr.wf (.swap 2) = false
      ∧ Instr.wf (.nymAccept 0x8000) = false ∧ Instr.wf (.nymForget 0x4000) = false ∧ Instr.wf (.shadowWrite 0x40002201 0) = false
      ∧ Instr.wf (.registerWrite 0x40000110 3 0) = false ∧ Instr.wf (.commit 0x40002004 1) = false
      ∧ Instr.wf (.commit 0x40002000 3) = false ∧ Instr.wf (.discard 0x40002000 1) = false ∧ Instr.wf (.mark 0x40002000 5) = false
      ∧ Instr.wf (.lock 0x40002028 0) = false ∧ Instr.wf (.tryA 0xB0C7 0x0002) = false
      ∧ Instr.wf (.tryB 0xB0C7 0x0001) = false ∧ Instr.wf (.confirm 0xB0C70004) = false
      ∧ Instr.wf (.raiseSecver 0xB0C70003) = false ∧ Instr.wf (.uartMessage 0 [] () ()) = false := by decide

end Sys2Proof.Tests
end

section
/-! SUPPORT. The general properties of a step: the quality byte, register writes and reads, and that no command stops the block or touches
the queue. -/
namespace Sys2Proof.Machine

/-- Settles O1: the step's own equation on a queue with a front. -/
theorem stepRunsFront : Obligations.StepRunsFront := fun _ _ _ h => step_cons h

/-! ### The quality byte (R11, Table 0.5) -/

/-- The bits that keep an item from being VALID. -/
def invalidating : Nat := qSTALE + qRANGE + qOUT_OF_STEP + qPOISON + qINVALID

theorem quality_eq (bits : Nat) :
    quality bits = BitVec.ofNat 8 ((bits &&& 254) + if bits &&& invalidating = 0 then 1 else 0) := rfl

theorem and_254_even (bits : Nat) : (bits &&& 254) % 2 = 0 := by
  rw [Nat.and_mod_two_pow (n := 1)]; simp

/-- VALID is set exactly when none of the bits that exclude it was asked for. -/
theorem quality_valid (bits : Nat) : (quality bits).getLsbD 0 = decide (bits &&& invalidating = 0) := by
  have heven := and_254_even bits
  rw [quality_eq, BitVec.getLsbD_ofNat, Nat.testBit_zero]
  split
  · next h => simp [h]; omega
  · next h => simp [h]

/-- The other bits of a quality byte are those asked for. -/
theorem quality_bit (bits : Nat) {j : Nat} (h1 : 1 ≤ j) (h7 : j ≤ 7) : (quality bits).getLsbD j = bits.testBit j := by
  obtain ⟨i, rfl⟩ : ∃ i, j = i + 1 := ⟨j - 1, by omega⟩
  have hhalf : ∀ c ≤ 1, ((bits &&& 254) + c) / 2 = (bits &&& 254) / 2 := fun c hc => by
    have := and_254_even bits; omega
  have hmask : ∀ i < 7, Nat.testBit 254 (i + 1) = true := by decide
  rw [quality_eq, BitVec.getLsbD_ofNat, Nat.testBit_succ, hhalf _ (by split <;> omega), ← Nat.testBit_succ, Nat.testBit_and,
    hmask i (by omega), Bool.and_true]
  simp; omega

/-- A VALID quality byte shows none of the bits that exclude it. -/
theorem quality_bit_of_valid {bits j : Nat} (hv : (quality bits).getLsbD 0 = true) (h1 : 1 ≤ j) (h7 : j ≤ 7)
    (hj : invalidating.testBit j = true) : (quality bits).getLsbD j = false := by
  have hnone : bits &&& invalidating = 0 := by rwa [quality_valid, decide_eq_true_eq] at hv
  have hbit : (bits &&& invalidating).testBit j = false := by rw [hnone, Nat.zero_testBit]
  rw [Nat.testBit_and, hj, Bool.and_true] at hbit
  rw [quality_bit bits h1 h7, hbit]

/-- Settles O13: STALE, RANGE, OUT_OF_STEP and POISON are bits 1, 2, 4 and 7 of those that exclude VALID. -/
theorem validItems : Obligations.ValidItems := by
  intro bits _
  refine ⟨fun hv => ⟨?_, ?_, ?_, ?_⟩, fun j => quality_bit bits, fun i => rfl⟩
  all_goals exact quality_bit_of_valid hv (by omega) (by omega) (by decide)

/-! ### Register writes (R14, R15, R502, Table 22.4) -/

section
variable {s : State} {a : Nat} (value : Word) (ho : 0x100 ≤ a % 4096)
include ho

/-- Outside the page header a write acts by the access type of its register alone. -/
theorem writeWord_ignored (hk : keyAccess (regKey s.dev a) = none ∨ keyAccess (regKey s.dev a) = some .ro
    ∨ keyAccess (regKey s.dev a) = some .wo) : s.writeWord a value = s := by
  rw [State.writeWord, if_neg (by omega)]
  rcases hk with hk | hk | hk <;> simp only [hk]

theorem writeWord_cnt (hk : keyAccess (regKey s.dev a) = some .cnt) :
    s.writeWord a value = { s with dev := s.dev.put (regKey s.dev a) 0 } := by
  rw [State.writeWord, if_neg (by omega)]; simp only [hk]

theorem writeWord_w1c (hk : keyAccess (regKey s.dev a) = some .w1c) :
    s.writeWord a value = { s with
      dev := s.dev.put (regKey s.dev a) (s.dev.w (regKey s.dev a) &&& ~~~(value &&& clearable (regKey s.dev a))) } := by
  rw [State.writeWord, if_neg (by omega)]; simp only [hk]

theorem writeWord_w1s (hk : keyAccess (regKey s.dev a) = some .w1s) :
    s.writeWord a value = { s with
      dev := s.dev.put (regKey s.dev a) (s.dev.w (regKey s.dev a) ||| (value &&& keyMask (regKey s.dev a))) } := by
  rw [State.writeWord, if_neg (by omega)]; simp only [hk]

theorem writeWord_rw (hk : keyAccess (regKey s.dev a) = some .rw) :
    s.writeWord a value = { s with dev := s.dev.writeRW (regKey s.dev a) value } := by
  rw [State.writeWord, if_neg (by omega)]; simp only [hk]

theorem writeWord_rws (hk : keyAccess (regKey s.dev a) = some .rws) :
    s.writeWord a value = s.writeShadow (regKey s.dev a) (keyMask (regKey s.dev a)) value := by
  rw [State.writeWord, if_neg (by omega)]; simp only [hk]

end

/-- Any access but that of an aligned word in a page ends with a bus error. -/
theorem registerWrite_error {addr value : Word} {size : Nat} (s : State)
    (h : size ≠ 4 ∨ addr.toNat % 4 ≠ 0 ∨ inPage addr.toNat = false) :
    exec (.registerWrite addr size value) s = .next { s with bus := .error } := by
  have hbad : (size != 4 || addr.toNat % 4 != 0 || !inPage addr.toNat) = true := by simpa [or_assoc] using h
  exact if_pos hbad

/-- An aligned word in a page is written, by either of the two commands. -/
theorem registerWrite_word {addr : Word} (s : State) (value : Word) (h4 : addr.toNat % 4 = 0) (hp : inPage addr.toNat = true) :
    exec (.registerWrite addr 4 value) s = .next { s.writeWord addr.toNat value with bus := .done 0 } :=
  if_neg (by simp [h4, hp])

theorem shadowWrite_word {addr : Word} (s : State) (value : Word) (h4 : addr.toNat % 4 = 0) (hp : inPage addr.toNat = true) :
    exec (.shadowWrite addr value) s = .next { s.writeWord addr.toNat value with bus := .done 0 } :=
  if_neg (by simp [h4, hp])

/-- An open page's STAT shows DIRTY after a shadow write. -/
theorem writeShadow_dirty {s : State} (key : Nat) (mask value : Word) (h : s.cfg.closed (keyPage key) = false) :
    (s.writeShadow key mask value).cfg.h (hdrSTAT (keyPage key)) = setBit (s.cfg.h (hdrSTAT (keyPage key))) 0 true := by
  rw [State.writeShadow, if_neg (by simp [h])]
  exact Cfg.h_putH_self _ _ _

/-- An ignored write counts in IGNORED, saturating. -/
theorem ignoreWrite_counts (s : State) (page : Nat) :
    fld ((s.ignoreWrite page).cfg.h (hdrSTAT page)) 8 8 = min 255 (fld (s.cfg.h (hdrSTAT page)) 8 8 + 1) := by
  have hself : (s.ignoreWrite page).cfg.h (hdrSTAT page)
      = setFld (s.cfg.h (hdrSTAT page)) 8 8 (satU 8 (fld (s.cfg.h (hdrSTAT page)) 8 8 + 1)) := Cfg.h_putH_self _ _ _
  rw [hself, fld_setFld _ _ (by omega), satU]
  omega

/-- Of the units' registers an ignored write changes IRQ_RAW of its page. -/
theorem ignoreWrite_regsKept (s : State) (page : Nat) : RegsKept [hdrIRQ_RAW page] s.dev (s.ignoreWrite page).dev := by
  intro k hk
  have hne : k ≠ hdrIRQ_RAW page := by simpa using hk
  exact (Dev.w_eventSec _ _ _ _ _).trans (Dev.w_putB_ne _ _ _ hne)

/-- An ignored write raises WRITE_IGNORED. -/
theorem ignoreWrite_raises (s : State) (page : Nat) : (s.ignoreWrite page).dev.b (hdrIRQ_RAW page) 26 = true := by
  have hw : (s.ignoreWrite page).dev.w (hdrIRQ_RAW page) = (s.dev.irq page 26).w (hdrIRQ_RAW page) := Dev.w_eventSec _ _ _ _ _
  rw [Dev.b, hw]
  exact Dev.b_putB_self _ _ _ (by omega)

/-! ### Register reads (R14, R15) -/

theorem demandRead_page {addr : BitVec 48} (s : State) (size : Nat) (upset : List (Fin 40 × Byte)) (newer : Bool) (use_ : PoisonUse)
    (hp : inPage addr.toNat = true) :
    exec (.demandRead ⟨addr, size⟩ upset newer use_) s = readRegister s addr.toNat size :=
  if_pos hp

theorem readRegister_error {a size : Nat} (s : State) (h : size ≠ 4 ∨ a % 4 ≠ 0) :
    readRegister s a size = .next { s with bus := .error } := by
  have hbad : (size != 4 || a % 4 != 0) = true := by simpa using h
  exact if_pos hbad

theorem readRegister_word {a : Nat} (s : State) (h4 : a % 4 = 0) :
    readRegister s a 4 =
      if a = ESC.BEAT_LO then execBeatLoRead s else if a = TBU.TICK_LO then execTickLoRead s
      else .next { s with bus := .done (peek s.cfg s.dev a) } := by
  rw [readRegister, if_neg (by simp [h4])]

/-- What a register that no table forms from other state reads: 0 where it is unassigned or write-only, and of an RWS register the live
value, or with SHOW of its page the shadow. -/
theorem peek_register {a : Nat} (c : Cfg) (d : Dev) (hp : inPage a = true) (ho : 0x100 ≤ a % 4096) (hg : a ≠ SYS.GLOBAL_STAT)
    (hb : a ≠ ESC.BEAT_LO) (ht : a ≠ TBU.TICK_LO) (hr : a < NYM.RST_UID_LO ∨ NYM.RST_BIND < a)
    (he : a < NYM.EXP_STAT 0 ∨ NYM.EXP_STAT 63 < a) :
    (keyAccess (regKey d a) = none ∨ keyAccess (regKey d a) = some .wo → peek c d a = 0)
      ∧ (keyAccess (regKey d a) = some .rws →
        peek c d a = if d.b (hdrCTRL (a / 4096 * 4096)) 1 then c.sh (regKey d a) else c.w (regKey d a)) := by
  obtain ⟨p, hpage⟩ := Option.isSome_iff_exists.mp hp
  simp only [peek, hpage]
  rw [if_neg (by omega), if_neg hg, if_neg hb, if_neg ht, if_neg (by omega), if_neg (by omega)]
  refine ⟨fun hk => ?_, fun hk => ?_⟩
  · rcases hk with hk | hk <;> simp only [hk]
  · simp only [hk]; rfl

/-- A write to an RWS register reaches the shadow by either of the two commands. -/
theorem registerWrite_rws {s : State} {addr : Word} (value : Word) (h4 : addr.toNat % 4 = 0) (hp : inPage addr.toNat = true)
    (ho : 0x100 ≤ addr.toNat % 4096) (hk : keyAccess (regKey s.dev addr.toNat) = some .rws) :
    let t := s.writeShadow (regKey s.dev addr.toNat) (keyMask (regKey s.dev addr.toNat)) value
    exec (.registerWrite addr 4 value) s = .next { t with bus := .done 0 }
      ∧ exec (.shadowWrite addr value) s = .next { t with bus := .done 0 } := by
  rw [registerWrite_word s value h4 hp, shadowWrite_word s value h4 hp, writeWord_rws value ho hk]
  exact ⟨rfl, rfl⟩

/-- The two registers whose reads latch. -/
theorem readRegister_beatLo (s : State) : readRegister s ESC.BEAT_LO 4 = exec .beatLoRead s := by
  rw [readRegister_word s rfl, if_pos rfl]
  rfl

theorem readRegister_tickLo (s : State) : readRegister s TBU.TICK_LO 4 = exec .tickLoRead s := by
  rw [readRegister_word s rfl, if_neg (by decide), if_pos rfl]
  rfl

/-- Settles O29: the outer cases are a bus error, a register write, a read through DEMAND_READ, and the word that a read answers. -/
theorem registerWrites : Obligations.RegisterWrites := by
  refine ⟨fun s addr value size h => registerWrite_error s h, fun s addr value h4 hp ho => ?_,
    fun s addr size upset newer use_ hp => ?_, fun c d a hp ho _ hg hb ht hr he => ?_⟩
  · have hword := registerWrite_word s value h4 hp
    refine ⟨fun hk => ?_, fun hk => ?_, fun hk => ?_, fun hk => ?_, fun hk hopen => ?_, fun hk hclosed => ?_⟩
    · rw [hword, writeWord_ignored value ho hk]
    · rw [hword, writeWord_cnt value ho hk]
    · rw [hword, writeWord_w1c value ho hk]
    · rw [hword, writeWord_rw value ho hk]
    · obtain ⟨hreg, hshadow⟩ := registerWrite_rws value h4 hp ho hk
      obtain ⟨hsh, hother, hlive, hdev, hstore⟩ := writeShadow_open _ (keyMask (regKey s.dev addr.toNat)) value hopen
      exact ⟨_, hreg, hshadow, hdev, hstore, rfl, hlive, hsh, hother, writeShadow_dirty _ _ _ hopen⟩
    · obtain ⟨hreg, hshadow⟩ := registerWrite_rws value h4 hp ho hk
      rw [writeShadow_closed _ _ _ hclosed] at hreg hshadow
      generalize keyPage (regKey s.dev addr.toNat) = page at *
      exact ⟨_, hreg, hshadow, ignoreWrite_store s page, rfl, ignoreWrite_live s page, ignoreWrite_shadow s page,
        ignoreWrite_counts s page, ignoreWrite_regsKept s page, ignoreWrite_raises s page⟩
  · simp only [demandRead_page s _ _ _ _ hp]
    refine ⟨fun h => readRegister_error s h, fun h4 hb ht => ?_, fun hb => hb ▸ readRegister_beatLo s,
      fun ht => ht ▸ readRegister_tickLo s⟩
    rw [readRegister_word s h4, if_neg hb, if_neg ht]
  · obtain ⟨hzero, hrws⟩ := peek_register c d hp ho hg hb ht hr he
    refine ⟨hzero, fun hk hshow => ?_, fun hk hshow => ?_⟩
    · rw [hrws hk, hshow]; rfl
    · rw [hrws hk, hshow]; rfl

/-! ### The queue under the named operations on the state (log 2): none of them touches it -/

theorem ite_pending {c : Prop} [Decidable c] {s t : State} {q : List Instr} (hs : s.pending = q) (ht : t.pending = q) :
    (if c then s else t).pending = q := by
  split
  · exact hs
  · exact ht

theorem foldl_pending {α : Type} {f : State → α → State} {l : List α} {s : State} (hf : ∀ s a, (f s a).pending = s.pending) :
    (l.foldl f s).pending = s.pending := by
  induction l generalizing s with
  | nil => rfl
  | cons a l ih => exact ih.trans (hf s a)

theorem ignoreWrite_pending (s : State) (page : Nat) : (s.ignoreWrite page).pending = s.pending := rfl

theorem writeShadow_pending (s : State) (key : Nat) (mask value : Word) : (s.writeShadow key mask value).pending = s.pending :=
  ite_pending rfl rfl

theorem sourceUtc_pending (s : State) (utc : Int) (valid l61 l59 : Bool) : (s.sourceUtc utc valid l61 l59).pending = s.pending :=
  ite_pending rfl rfl

theorem canHear_pending (s : State) (n : Nat) (frame : CanFrame) (own : Bool) : (s.canHear n frame own).pending = s.pending :=
  ite_pending (sourceUtc_pending _ _ _ _ _) rfl

/-! Commits (R503 to R516) -/

theorem refusePage_pending (s : State) (p : Nat) (f : CommitFail) : (s.refusePage p f).pending = s.pending := rfl
theorem refuseGroup_pending (s : State) (n : Nat) (f : CommitFail) : (s.refuseGroup n f).pending = s.pending := rfl

theorem recheckWheels_pending (s : State) : s.recheckWheels.pending = s.pending := by
  unfold State.recheckWheels
  dsimp only
  split
  · exact foldl_pending fun _ _ => refusePage_pending _ _ _
  · refine ite_pending ((refuseGroup_pending _ _ _).trans ?_) ?_
    all_goals exact foldl_pending fun _ _ => refusePage_pending _ _ _

theorem applyPages_pending (s : State) (group : Bool) (ps : List Nat) : (s.applyPages group ps).pending = s.pending :=
  ite_pending (recheckWheels_pending _) rfl

theorem journalCommit_pending (s : State) (addr value : Nat) (ps : List Nat) : (s.journalCommit addr value ps).pending = s.pending :=
  ite_pending rfl rfl

theorem applyContents_pending (s : State) (addr : Nat) (es : List (Nat × Word)) : (s.applyContents addr es).pending = s.pending :=
  ite_pending (applyPages_pending _ _ _) (applyPages_pending _ _ _)

theorem commitPage_pending (s : State) (p : Nat) : (s.commitPage p).pending = s.pending := by
  unfold State.commitPage
  split
  · rfl
  · exact (journalCommit_pending _ _ _ _).trans (applyPages_pending _ _ _)

theorem commitGroup_pending (s : State) (mode value : Nat) : (s.commitGroup mode value).1.pending = s.pending := by
  unfold State.commitGroup
  dsimp only
  split
  · exact (journalCommit_pending _ _ _ _).trans (ite_pending rfl (applyPages_pending _ _ _))
  · rfl

theorem boundaryCommits_pending (s : State) : s.boundaryCommits.pending = s.pending := by
  unfold State.boundaryCommits
  refine (foldl_pending fun t p => ?_).trans ?_
  · split
    · rfl
    · exact ite_pending (commitPage_pending _ _) rfl
  · dsimp only
    split
    · rfl
    · exact ite_pending (commitGroup_pending _ _ _) rfl

theorem modeEdgeCommit_pending (s : State) : s.modeEdgeCommit.1.pending = s.pending := by
  unfold State.modeEdgeCommit
  split
  · rfl
  · exact commitGroup_pending _ _ _

theorem requestCommit_pending (s : State) (p : Nat) (value : Word) : (s.requestCommit p value).pending = s.pending := by
  have hrefused (t : State) (f : CommitFail) (ht : t.pending = s.pending) : (t.refusePage p f).pending = s.pending :=
    (refusePage_pending t p f).trans ht
  unfold State.requestCommit
  refine ite_pending (refusePage_pending _ _ _) (ite_pending ?_ (ite_pending (hrefused _ _ ?_) (ite_pending (hrefused _ _ ?_)
    (ite_pending (hrefused _ _ ?_) (ite_pending (commitPage_pending _ _) rfl)))))
  · exact (commitPage_pending _ _).trans (ite_pending rfl rfl)
  all_goals exact ite_pending rfl rfl

theorem requestDiscard_pending (s : State) (p : Nat) (value : Word) : (s.requestDiscard p value).pending = s.pending := rfl

theorem requestMark_pending (s : State) (p : Nat) (value : Word) : (s.requestMark p value).pending = s.pending := rfl

theorem requestGroup_pending (s : State) (at_ wheel : Nat) : (s.requestGroup at_ wheel).pending = s.pending :=
  ite_pending (refuseGroup_pending _ _ _) (ite_pending (refuseGroup_pending _ _ _) (ite_pending (commitGroup_pending _ _ _) rfl))

theorem shadowCtrl_pending (s : State) (p : Nat) (value : Word) : (s.shadowCtrl p value).pending = s.pending :=
  ite_pending (ite_pending (ignoreWrite_pending _ _) (requestDiscard_pending _ _ _))
    (ite_pending (requestCommit_pending _ _ _) (ite_pending (ignoreWrite_pending _ _) (requestMark_pending _ _ _)))

/-! Register writes (R14, Table 22.1) -/

theorem writeHeader_pending (s : State) (page off : Nat) (value : Word) : (s.writeHeader page off value).pending = s.pending :=
  ite_pending rfl (ite_pending rfl (ite_pending rfl (ite_pending rfl (ite_pending (writeShadow_pending _ _ _ _) rfl))))

/-! The pair's journal (R322 to R332) -/

theorem applyControl_pending (s : State) (beat : Nat) (addr value : Word) (station element : Nat) (es : List (Nat × Word)) :
    (s.applyControl beat addr value station element es).pending = s.pending :=
  ite_pending (applyContents_pending _ _ _) (ite_pending rfl (ite_pending rfl (ite_pending rfl (ite_pending rfl (ite_pending rfl
    (ite_pending rfl (ite_pending rfl rfl)))))))

theorem applyRecord_pending (s : State) (beat : Nat) (r : JournalRecord) : (s.applyRecord beat r).pending = s.pending := by
  cases r with
  | control => exact applyControl_pending _ _ _ _ _ _ _
  | item | loopFb | jobEnd | transition | time | hack => rfl

theorem runBlock_pending (s : State) (b : JournalBlock) : (s.runBlock b).pending = s.pending :=
  foldl_pending fun s r => applyRecord_pending s b.beat r

theorem joinBlock_pending (s : State) (b : JournalBlock) : (s.joinBlock b).pending = s.pending :=
  ite_pending rfl (ite_pending (runBlock_pending _ _) rfl)

theorem catchUp_pending (s : State) : s.catchUp.pending = s.pending := by
  have hjoin (t : State) (b : JournalBlock) : (if pairSync t.dev = 2 then t.joinBlock b else t).pending = t.pending :=
    ite_pending (joinBlock_pending t b) rfl
  unfold State.catchUp
  refine ite_pending rfl (ite_pending ?_ ?_)
  · dsimp only
    exact foldl_pending hjoin
  · exact foldl_pending hjoin

/-! Resets (R459, R530) -/

theorem deviceReset_pending (s : State) (cause class_ ctrl : Nat) : (s.deviceReset cause class_ ctrl).pending = s.pending := rfl

theorem resetBy_pending (s : State) (cause : Nat) : (s.resetBy cause).pending = s.pending := ite_pending (deviceReset_pending _ _ _ _) rfl

/-! The beat boundary (R40, R41, R514) -/

theorem stepToSelfTest_pending (s : State) (station : Nat) : (s.stepToSelfTest station).pending = s.pending := rfl

theorem stepTo_pending (s : State) (target station : Nat) : (s.stepTo target station).pending = s.pending :=
  ite_pending (stepToSelfTest_pending _ _) (ite_pending rfl rfl)

theorem requestStep_pending (s : State) : s.requestStep.pending = s.pending := by
  have hedge (c : Prop) [Decidable c] (t : State) (ht : t.pending = s.pending) :
      (if c then t.modeEdgeCommit else (t, true)).1.pending = s.pending := by
    split
    · exact (modeEdgeCommit_pending t).trans ht
    · exact ht
  unfold State.requestStep
  split
  · rfl
  · exact ite_pending rfl (ite_pending rfl (ite_pending (hedge _ _ rfl) ((stepTo_pending _ _ _).trans (hedge _ _ rfl))))

theorem settleModes_pending (s : State) : s.settleModes.pending = s.pending := by
  unfold State.settleModes
  dsimp only
  split
  · exact ite_pending (requestStep_pending _) rfl
  · exact requestStep_pending _

theorem modeStep_pending (s : State) : s.modeStep.pending = s.pending := ite_pending rfl (settleModes_pending _)

theorem closeModes_pending (s : State) : s.closeModes.pending = s.pending := ite_pending rfl (settleModes_pending _)

theorem frameClosed_pending (s : State) : s.frameClosed.pending = s.pending := ite_pending rfl (closeModes_pending _)

theorem closeBeat_pending (s : State) : s.closeBeat.pending = s.pending := catchUp_pending _

theorem boundaryWork_pending (s : State) : s.boundaryWork.pending = s.pending := by
  have hmode : ∀ t : State, t.pending = s.closeBeat.pending → t.modeStep.pending = s.pending := fun t ht =>
    (modeStep_pending t).trans (ht.trans (closeBeat_pending s))
  exact ite_pending (hmode _ rfl) ((boundaryCommits_pending _).trans (hmode _ rfl))

theorem stepBoundary_pending (s : State) : s.stepBoundary.pending = s.pending := boundaryWork_pending _

theorem testBeat_pending (s : State) : s.testBeat.pending = s.pending := ite_pending rfl (requestStep_pending _)

theorem beat_pending (s : State) : s.beat.pending = s.pending :=
  ite_pending rfl (ite_pending (testBeat_pending _) (ite_pending (stepBoundary_pending _) (ite_pending rfl (boundaryWork_pending _))))

theorem replan_pending (s : State) (p : DuePallet) : (s.replan p).pending = s.pending := rfl

/-- A write of a word leaves the queue alone: in the header by the register it names, elsewhere by its access type. -/
theorem writeWord_pending (s : State) (a : Nat) (value : Word) : (s.writeWord a value).pending = s.pending := by
  by_cases ho : 0x100 ≤ a % 4096
  · cases hk : keyAccess (regKey s.dev a) with
    | none => rw [writeWord_ignored value ho (.inl hk)]
    | some acc =>
      cases acc with
      | ro => rw [writeWord_ignored value ho (.inr (.inl hk))]
      | wo => rw [writeWord_ignored value ho (.inr (.inr hk))]
      | rws => rw [writeWord_rws value ho hk, writeShadow_pending]
      | rw => rw [writeWord_rw value ho hk]
      | w1c => rw [writeWord_w1c value ho hk]
      | w1s => rw [writeWord_w1s value ho hk]
      | cnt => rw [writeWord_cnt value ho hk]
  · rw [State.writeWord, if_pos (by omega), writeHeader_pending]

/-! ### Outcomes (log 11): the forms of commands -/

/-- The outcome of a command that completes: a next state with the queue as it was. -/
def KeepsQueue (s : State) (o : Out) : Prop := ∃ t, o = .next t ∧ t.pending = s.pending

theorem next_keepsQueue {s t : State} (h : t.pending = s.pending) : KeepsQueue s (.next t) := ⟨t, rfl, h⟩

theorem ite_keepsQueue {s : State} {c : Prop} [Decidable c] {o p : Out} (ho : KeepsQueue s o) (hp : KeepsQueue s p) :
    KeepsQueue s (if c then o else p) := by
  split
  · exact ho
  · exact hp

/-- The form of `onDev`, `onWrite`, `onRead`, `onMem` and `onMemWrite`: a state that takes new units, memories and bus reply. -/
theorem update_keepsQueue (s : State) (bus : BusReply) (st : Store) (d : Dev) :
    KeepsQueue s (.next { s with bus := bus, store := st, dev := d }) := next_keepsQueue rfl

/-! ### Commands that have an outcome of their own -/

section
variable (s : State)

theorem palletCommit_keepsQueue (late : Nat) : KeepsQueue s (exec (.palletCommit late) s) := by
  refine next_keepsQueue ?_
  dsimp only
  split
  · rfl
  · exact ite_pending rfl (ite_pending ((replan_pending _ _).trans (commitGroup_pending _ _ _)) (commitGroup_pending _ _ _))

theorem fusFrameClose_keepsQueue (obs : Unit) : KeepsQueue s (exec (.fusFrameClose obs) s) :=
  next_keepsQueue (ite_pending (frameClosed_pending _) rfl)

theorem coastExpired_keepsQueue : KeepsQueue s (exec .coastExpired s) :=
  ite_keepsQueue (next_keepsQueue rfl) (next_keepsQueue (closeModes_pending _))

theorem swapHandover_keepsQueue : KeepsQueue s (exec .swapHandover s) := by
  change KeepsQueue s (execSwapHandover s)
  unfold execSwapHandover
  dsimp only
  split
  · exact next_keepsQueue rfl
  · exact ite_keepsQueue (next_keepsQueue rfl) (ite_keepsQueue
      (ite_keepsQueue (next_keepsQueue (closeModes_pending _)) (next_keepsQueue rfl))
      (ite_keepsQueue (next_keepsQueue rfl) (ite_keepsQueue (next_keepsQueue rfl) (next_keepsQueue rfl))))

theorem journalBlockReceived_keepsQueue (block : JournalBlock) : KeepsQueue s (exec (.journalBlockReceived block) s) :=
  next_keepsQueue (ite_pending rfl (ite_pending rfl (ite_pending rfl (ite_pending (ite_pending (runBlock_pending _ _) rfl)
    (ite_pending rfl (ite_pending (joinBlock_pending _ _) (ite_pending (ite_pending rfl rfl) rfl)))))))

theorem orphanBeat_keepsQueue : KeepsQueue s (exec .orphanBeat s) :=
  next_keepsQueue (ite_pending rfl (ite_pending rfl (ite_pending rfl rfl)))

theorem transferDone_keepsQueue (image : StateImage) : KeepsQueue s (exec (.transferDone image) s) := by
  refine next_keepsQueue ?_
  dsimp only
  split
  · rfl
  · exact ite_pending rfl (recheckWheels_pending _)

theorem leap_keepsQueue : KeepsQueue s (exec .leap s) := ite_keepsQueue (next_keepsQueue rfl) (next_keepsQueue rfl)

theorem ptpMessageReceive_keepsQueue (port : Fin 4) (msg : PtpMessage) : KeepsQueue s (exec (.ptpMessageReceive port msg) s) := by
  cases msg with
  | announce => exact ite_keepsQueue (next_keepsQueue (sourceUtc_pending _ _ _ _ _)) (next_keepsQueue rfl)
  | _ => exact next_keepsQueue rfl

theorem canTxComplete_keepsQueue (ctrl : Fin 6) : KeepsQueue s (exec (.canTxComplete ctrl) s) := by
  change KeepsQueue s (execCanTxComplete ctrl s)
  unfold execCanTxComplete
  dsimp only
  split
  · exact next_keepsQueue rfl
  · exact next_keepsQueue (ite_pending (canHear_pending _ _ _ _) rfl)

theorem slotStage_keepsQueue (slot : Fin 8) (value : Word) : KeepsQueue s (exec (.slotStage slot value) s) :=
  ite_keepsQueue (next_keepsQueue (writeShadow_pending _ _ _ _)) (next_keepsQueue (writeShadow_pending _ _ _ _))

/-! Memories (R460 to R466) -/

theorem narrowWrite_keepsQueue (addr : BitVec 48) (bytes : List Byte) (poisoned : Bool) :
    KeepsQueue s (exec (.narrowWrite addr bytes poisoned) s) := by
  change KeepsQueue s (execNarrowWrite addr bytes poisoned s)
  unfold execNarrowWrite
  dsimp only
  split
  · exact next_keepsQueue rfl
  · exact ite_keepsQueue (next_keepsQueue rfl) (next_keepsQueue rfl)

theorem readMemory_keepsQueue (r a size : Nat) (upset : List (Fin 40 × Byte)) (newer : Bool) (usedBy : PoisonUse) :
    KeepsQueue s (s.readMemory r a size upset newer usedBy) := by
  unfold State.readMemory
  dsimp only
  split <;> exact next_keepsQueue rfl

theorem readRegister_keepsQueue (a size : Nat) : KeepsQueue s (readRegister s a size) :=
  ite_keepsQueue (next_keepsQueue rfl) (ite_keepsQueue (next_keepsQueue rfl) (ite_keepsQueue (next_keepsQueue rfl) (next_keepsQueue rfl)))

theorem demandRead_keepsQueue (access : ReadAccess) (upset : List (Fin 40 × Byte)) (newer : Bool) (usedBy : PoisonUse) :
    KeepsQueue s (exec (.demandRead access upset newer usedBy) s) := by
  change KeepsQueue s (execDemandRead access upset newer usedBy s)
  unfold execDemandRead
  refine ite_keepsQueue (readRegister_keepsQueue _ _ _) ?_
  split
  · exact next_keepsQueue rfl
  · exact ite_keepsQueue (next_keepsQueue rfl) (readMemory_keepsQueue _ _ _ _ _ _ _)

/-! Registers (R14, R502 to R511) -/

theorem registerWrite_keepsQueue (addr : Word) (size : Nat) (value : Word) : KeepsQueue s (exec (.registerWrite addr size value) s) :=
  ite_keepsQueue (next_keepsQueue rfl) (next_keepsQueue (writeWord_pending _ _ _))

theorem shadowWrite_keepsQueue (addr value : Word) : KeepsQueue s (exec (.shadowWrite addr value) s) :=
  ite_keepsQueue (next_keepsQueue rfl) (next_keepsQueue (writeWord_pending _ _ _))

/-- COMMIT, DISCARD and MARK are each a write of SHADOW_CTRL. -/
theorem shadowCtrl_keepsQueue (page value : Word) : KeepsQueue s (exec (.commit page value) s) :=
  ite_keepsQueue (next_keepsQueue rfl) (next_keepsQueue (shadowCtrl_pending _ _ _))

theorem lock_keepsQueue (page value : Word) : KeepsQueue s (exec (.lock page value) s) :=
  ite_keepsQueue (next_keepsQueue rfl) (next_keepsQueue rfl)

theorem globalCommit_keepsQueue (value : Word) : KeepsQueue s (exec (.globalCommit value) s) := by
  refine next_keepsQueue ?_
  dsimp only
  exact ite_pending rfl (ite_pending (ignoreWrite_pending _ _) (requestGroup_pending _ _ _))

/-! Resets and wake (R402, R521 to R531) -/

theorem railReset_keepsQueue (rail : Fin 10) : KeepsQueue s (exec (.railReset rail) s) :=
  next_keepsQueue (ite_pending (resetBy_pending _ _) rfl)

theorem brownOut_keepsQueue : KeepsQueue s (exec .brownOut s) := next_keepsQueue (ite_pending rfl (deviceReset_pending _ _ _ _))

theorem sysWatchdogExpiry_keepsQueue : KeepsQueue s (exec .sysWatchdogExpiry s) :=
  next_keepsQueue (ite_pending (resetBy_pending _ _) rfl)

theorem jtagReset_keepsQueue : KeepsQueue s (exec .jtagReset s) := next_keepsQueue (ite_pending (resetBy_pending _ _) rfl)

theorem rstCmd_keepsQueue (value : Word) : KeepsQueue s (exec (.rstCmd value) s) := by
  refine next_keepsQueue ?_
  dsimp only
  exact ite_pending (resetBy_pending _ _) rfl

theorem clockFault_keepsQueue (clock : Fin 9) (ppm : BitVec 16) (unlocked : Bool) :
    KeepsQueue s (exec (.clockFault clock ppm unlocked) s) :=
  ite_keepsQueue (next_keepsQueue rfl) (next_keepsQueue (ite_pending (resetBy_pending _ _) rfl))

theorem wake_keepsQueue (cause : WakeCause) : KeepsQueue s (exec (.wake cause) s) := by
  cases cause with
  | wakeN => exact next_keepsQueue (ite_pending (deviceReset_pending _ _ _ _) (ite_pending (deviceReset_pending _ _ _ _) rfl))
  | alarm => exact next_keepsQueue (ite_pending (deviceReset_pending _ _ _ _) rfl)

theorem canWake_keepsQueue (ctrl : Fin 6) (pattern : CanWakePattern) : KeepsQueue s (exec (.canWake ctrl pattern) s) :=
  next_keepsQueue (ite_pending (deviceReset_pending s 7 2 ctrl.val) rfl)

end

/-- Every command completes: it is one of the forms, or has a lemma above. -/
theorem exec_keepsQueue (i : Instr) (s : State) : KeepsQueue s (exec i s) := by
  cases i with
  -- the units alone
  | neutralWaitClear | class2HoldExpiry | anglePositionUpdate | angleBeatServe | axisStall | syncPulseEnd | refInLost
  | refInRestored | sourceEvaluation | gmChange | ppsPulse | ppsPulseEnd | ppsInEdge | compareFire | cmpPulseEnd | ptpEventEgress
  | slewComplete | antBiasSample | antShort | antBiasRetry | notchEngaged | notchDisengaged | acqSearchStart | acqDone
  | acqSearchMiss | acqRequeue | acqAbandon | integrationEnd | pllEngage | chLost | reacqTimeout | measurementEpoch
  | raimExclusionExpiry | agcRefLearned | rtcmFrame | corrStale | vectorSteeringWrite | vecMissLimit | vecResume | windHoldExpiry
  | inertialPropagation | trackTimeout | feedbackLost | jobSetupStart | iterationBoundary | jobSuspend | jobResume
  | clusterIsolated | jobDeadline | jobPoison | standbyJobTimeout | busPwrStale | joyStale | envelopeStart | linkUp | linkDown
  | linkRetransmit | idleFrame | linkFrameReceived | heartbeatSend | heartbeatReceived | heartbeatMissed | digestTimeout
  | transferRequest | transferStart | stateAdopt | transferTimeout | catchupTimeout | seizeAccepted | seizeInPulseEnd
  | crownInChange | seizeTestPulse | crownWire | takeover | seizeFailed | seizeRetry | sfmCycle | offPulseTest | resetArmExpiry
  | resetInputRise | resetInputTrailing | osiHeartbeat | osiPduReceive | osiExpiry | canArbitration | canError | busOffRecovery
  | nlRetryAttempt | sourceTimeout | refFrameSend | refLost | busLoadWindow | ethLinkUp | ethLinkDown | ethIngressFrame
  | gateEntryStart | ethEgressFrame | ptpSyncSend | ptpAnnounceSend | ptpPdelaySend | announceReceiptTimeout | nymAnnouncement
  | nymDepart | addrClashClear | fieldLinkSlot | fieldLinkLost | supplySample | sagRestored | wdgExpired | crossFeedCheck
  | diagOffPulse | outOverload | outOvertemp | openLoad | reverse | groupCurrent | inputSample | testPulse | ainConversion
  | ainShuntReclose | aoutFault | encCount | ssiRead | ssiReadComplete | encIndex | encRestored | lapAlarm | eventAdmit
  | freezeTimeout | nonceExpiry | clrLockExpiry | hackLatch | partnerHack | selfTestStart | selfTestAbort | clTestDone
  | uartMessage | railWarn | railOk | phase1Complete | calInvalid | jtagAuth | lpddr4xInitialised | seizeOutPulseEnd
  | outOvertempCooled | reverseCleared | openLoadCleared | groupCurrentCleared | crossFedCleared | encOpenWire | addressAgeing
  | jtagInstruction | palletNone | palletSync | palletSample | palletLatch | palletHack =>
    exact update_keepsQueue s _ _ _
  -- a register write of the units
  | modeReq | cmpArm | chCfgWrite | chLoopWrite | startAided | startAcq | stop | resetArm | txfPush | txfCancel | priCancel
  | clashClr | sleepCmd | sfUnblock | nymAccept | nymForget | outSet | supRestore | wdgFeed | outClr | aoutSet | injArm
  | freezeStart | freezeEnd | clrReq | hackFire | clTest | uartTx | wdtFeed | prcFail | swap | tryA | tryB | confirm | raiseSecver =>
    exact update_keepsQueue s _ _ _
  -- a register read
  | beatLoRead | tickLoRead =>
    exact update_keepsQueue s _ _ _
  -- units and memories
  | holdLimitExpiry | palletJob | palletRelease | stagingDone | setupComplete | writeBackComplete | clusterFault | cqRunComplete
  | loopSample | scrubWord | granuleCommit | tokenRefill | selfTestEnd | bootImage | serviceImage | submit | cancel | clIsolate
  | priReq | clrCmd =>
    exact update_keepsQueue s _ _ _
  -- a write that a standby ignores (R323)
  | jumpAccept | jumpDecline | trkRestart | trkRelease | trkResetClock | splitSel | actWithdraw | actReadmit | busPwrWrite
  | slRestart | spWrite =>
    exact ite_keepsQueue (next_keepsQueue rfl) (update_keepsQueue s _ _ _)
  | beatBoundary => exact next_keepsQueue (beat_pending s)
  | timeStepInstant => exact next_keepsQueue (ite_pending (stepBoundary_pending s) rfl)
  | canRxFrame => exact next_keepsQueue (canHear_pending _ _ _ _)
  | powerOnReset => exact next_keepsQueue (deviceReset_pending _ _ _ _)
  | overvoltageReset | thermalReset | pinReset => exact next_keepsQueue (resetBy_pending _ _)
  | commit page value | discard page value | mark page value => exact shadowCtrl_keepsQueue s page value
  | palletCommit => exact palletCommit_keepsQueue s _
  | fusFrameClose => exact fusFrameClose_keepsQueue s _
  | coastExpired => exact coastExpired_keepsQueue s
  | swapHandover => exact swapHandover_keepsQueue s
  | journalBlockReceived => exact journalBlockReceived_keepsQueue s _
  | orphanBeat => exact orphanBeat_keepsQueue s
  | transferDone => exact transferDone_keepsQueue s _
  | leap => exact leap_keepsQueue s
  | ptpMessageReceive => exact ptpMessageReceive_keepsQueue s _ _
  | canTxComplete => exact canTxComplete_keepsQueue s _
  | slotStage => exact slotStage_keepsQueue s _ _
  | narrowWrite => exact narrowWrite_keepsQueue s _ _ _
  | demandRead => exact demandRead_keepsQueue s _ _ _ _
  | registerWrite => exact registerWrite_keepsQueue s _ _ _
  | shadowWrite => exact shadowWrite_keepsQueue s _ _
  | lock => exact lock_keepsQueue s _ _
  | globalCommit => exact globalCommit_keepsQueue s _
  | railReset => exact railReset_keepsQueue s _
  | brownOut => exact brownOut_keepsQueue s
  | sysWatchdogExpiry => exact sysWatchdogExpiry_keepsQueue s
  | jtagReset => exact jtagReset_keepsQueue s
  | rstCmd => exact rstCmd_keepsQueue s _
  | clockFault => exact clockFault_keepsQueue s _ _ _
  | wake => exact wake_keepsQueue s _
  | canWake => exact canWake_keepsQueue s _ _

/-- Settles O6. -/
theorem everyCommandCompletes : Obligations.EveryCommandCompletes := exec_keepsQueue

end Sys2Proof.Machine
end

section
/-! SUPPORT. Items: the order in which they are delivered and the sequence check of their source. -/
namespace Sys2Proof.Machine

/-! ### The order of items (R29) -/

/-- The order in which items are delivered: ascending capture tick, then ascending source. -/
def ItemLe (a b : Item) : Prop := a.tick < b.tick ∨ (a.tick = b.tick ∧ a.source ≤ b.source)

theorem itemBefore_iff {a b : Item} : itemBefore a b = true ↔ ItemLe a b := by simp [itemBefore, ItemLe]

theorem itemLe_trans {a b c : Item} (hab : ItemLe a b) (hbc : ItemLe b c) : ItemLe a c := by
  unfold ItemLe at *; omega

theorem itemLe_of_not {a b : Item} (h : ¬ ItemLe a b) : ItemLe b a := by
  unfold ItemLe at *; omega

theorem insertItem_perm (i : Item) (l : List Item) : (insertItem i l).Perm (i :: l) := by
  induction l with
  | nil => exact .refl _
  | cons j t ih =>
    unfold insertItem
    split
    · exact (ih.cons j).trans (.swap i j t)
    · exact .refl _

/-- An item inserted into an ordered list leaves it ordered. -/
theorem insertItem_pairwise (i : Item) {l : List Item} (h : l.Pairwise ItemLe) : (insertItem i l).Pairwise ItemLe := by
  induction l with
  | nil => exact List.pairwise_singleton _ _
  | cons j t ih =>
    obtain ⟨hj, ht⟩ := List.pairwise_cons.mp h
    unfold insertItem
    split
    · next hji =>
      refine List.pairwise_cons.mpr ⟨fun x hx => ?_, ih ht⟩
      rcases List.mem_cons.mp ((insertItem_perm i t).mem_iff.mp hx) with rfl | hx
      · exact itemBefore_iff.mp hji
      · exact hj x hx
    · next hji =>
      have hij : ItemLe i j := itemLe_of_not (mt itemBefore_iff.mpr hji)
      refine List.pairwise_cons.mpr ⟨fun x hx => ?_, h⟩
      rcases List.mem_cons.mp hx with rfl | hx
      · exact hij
      · exact itemLe_trans hij (hj x hx)

/-- Items inserted one after another join those that were there. -/
theorem foldl_insertItem_perm (l acc : List Item) : (l.foldl (fun acc i => insertItem i acc) acc).Perm (l ++ acc) := by
  induction l generalizing acc with
  | nil => exact .refl _
  | cons i t ih => exact (ih _).trans (((insertItem_perm i acc).append_left t).trans List.perm_middle)

theorem foldl_insertItem_pairwise (l : List Item) {acc : List Item} (h : acc.Pairwise ItemLe) :
    (l.foldl (fun acc i => insertItem i acc) acc).Pairwise ItemLe := by
  induction l generalizing acc with
  | nil => exact h
  | cons i t ih => exact ih (insertItem_pairwise i h)

theorem sortItems_perm (l : List Item) : (sortItems l).Perm l := by
  have h := foldl_insertItem_perm l []
  rwa [List.append_nil] at h

theorem sortItems_pairwise (l : List Item) : (sortItems l).Pairwise ItemLe := foldl_insertItem_pairwise l .nil

/-- Settles O11: sorting by insertion permutes the items and leaves them in order. -/
theorem itemsInOrder : Obligations.ItemsInOrder := fun l => ⟨sortItems_perm l, sortItems_pairwise l⟩

/-! ### The sequence check (R30, R31) -/

/-- A number ahead of the last one, by less than half the range, differs by how far it is ahead. -/
theorem seqDiff_ahead (l : Nat) {g : Nat} (hg : g < 32768) : seqDiff 16 ((l + g) % 65536) l = g := by
  have hbits : unsigned 16 (((l + g) % 65536 : Nat) - (l : Int)) = g := by rw [unsigned]; omega
  rw [seqDiff, hbits, signed, if_pos (by omega)]

/-- One behind it, by at most half the range, differs by how far it is behind. -/
theorem seqDiff_behind (n : Nat) {g : Nat} (h1 : 1 ≤ g) (hg : g ≤ 32768) : seqDiff 16 n ((n + g) % 65536) = -g := by
  have hbits : unsigned 16 ((n : Int) - ((n + g) % 65536 : Nat)) = 65536 - g := by rw [unsigned]; omega
  rw [seqDiff, hbits, signed, if_neg (by omega)]
  omega

section
variable {st : SeqState} {l n : Nat} (hlast : st.last = some l)
include hlast

theorem SeqState.check_next (hd : seqDiff 16 n l = 1) : st.check n = (true, { st with last := some n }) := by
  simp only [SeqState.check, hlast, hd, if_true]

theorem SeqState.check_gap {g : Nat} (hd : seqDiff 16 n l = g) (hg : 2 ≤ g) :
    st.check n = (true, { st with last := some n, lost := st.lost + (g - 1) }) := by
  have hlost : ((g : Int) - 1).toNat = g - 1 := by omega
  simp only [SeqState.check, hlast, hd, hlost]
  rw [if_neg (by omega), if_pos (by omega)]

theorem SeqState.check_repeated (hd : seqDiff 16 n l = 0) : st.check n = (false, { st with dup := st.dup + 1 }) := by
  simp [SeqState.check, hlast, hd]

theorem SeqState.check_behind (hd : seqDiff 16 n l < 0) : st.check n = (false, { st with reorder := st.reorder + 1 }) := by
  simp only [SeqState.check, hlast]
  rw [if_neg (by omega), if_neg (by omega), if_neg (by omega)]

end

/-- Settles O12: each case of the check by the signed difference of its numbers. -/
theorem sequenceCheck : Obligations.SequenceCheck := by
  intro st l n hlast hl hn
  refine ⟨?_, ?_, ?_, ?_⟩
  · rintro rfl
    exact SeqState.check_next hlast (seqDiff_ahead _ (by omega))
  · rintro g h2 hg rfl
    exact SeqState.check_gap hlast (seqDiff_ahead l hg) h2
  · rintro rfl
    have hsame : seqDiff 16 ((n + 0) % 65536) n = 0 := seqDiff_ahead _ (by omega)
    rw [Nat.add_zero, Nat.mod_eq_of_lt hl] at hsame
    exact SeqState.check_repeated hlast hsame
  · rintro g h1 hg rfl
    exact SeqState.check_behind hlast (by rw [seqDiff_behind n h1 hg]; omega)

end Sys2Proof.Machine
end

section
/-! SUPPORT. The pair: its link, the heartbeats that leave, arrive and are missing, and items held back at their producer. -/
namespace Sys2Proof.Machine

/-! ### Outcomes and registers -/

/-- What a command of the units answers, where it makes the units `e`. -/
theorem next_dev {s : State} {d e : Dev} (h : d = e) : (.next { s with dev := d } : Out) = .next { s with dev := e } := by rw [h]

/-- A command that leaves the units as they are leaves the whole state. -/
theorem next_same {s : State} {d : Dev} (h : d = s.dev) : (.next { s with dev := d } : Out) = .next s := next_dev h

section
variable {ks : List Nat} {d e : Dev}

theorem regsKept_refl : RegsKept ks d d := fun _ _ => rfl

/-- Writing one of the named registers keeps the others. -/
theorem regsKept_put (h : RegsKept ks d e) {k : Nat} (v : Word) (hk : k ∈ ks) : RegsKept ks d (e.put k v) := fun j hj =>
  (Dev.w_put_ne e v (ne_of_mem_of_not_mem hk hj).symm).trans (h j hj)

theorem regsKept_mode (h : RegsKept ks d e) (hk : SYS.MODE ∉ ks) : e.mode = d.mode := by rw [Dev.mode, Dev.f, h _ hk]; rfl

theorem regsKept_tbuSrc (h : RegsKept ks d e) (hk : TBU.STATE ∉ ks) : tbuSrc e = tbuSrc d := by rw [tbuSrc, Dev.f, h _ hk]; rfl

end

theorem tbuSrc_put (d : Dev) {k : Nat} (v : Word) (h : TBU.STATE ≠ k) : tbuSrc (d.put k v) = tbuSrc d := Dev.f_put_ne d v _ _ h

theorem tbuSrc_congr {d e : Dev} (h : e.regs = d.regs) : tbuSrc e = tbuSrc d := by
  unfold tbuSrc Dev.f Dev.w
  rw [h]

/-! ### What neither ends partner time nor compares digests -/

/-- Partner time cannot end where it is not the source (R332). -/
theorem partnerTimeLost_of_source {d : Dev} (c : Cfg) (h : tbuSrc d ≠ 6) : d.partnerTimeLost c = d := if_pos (by simp [h])

/-- Digests are compared by a module that holds the crown, stands by or joins (R327). -/
theorem compareDigest_off {d : Dev} (c : Cfg) (hc : d.crown = false) (h4 : d.mode ≠ 4) (h5 : d.mode ≠ 5) : d.compareDigest c = d := by
  unfold Dev.compareDigest
  split
  · rfl
  · exact if_pos (by simp [hc, h4, h5])

/-! ### The pair link (R316, R317) -/

section
variable {s : State}

theorem linkUp_trains (h : linkState s.dev ≠ 2) (hk : s.dev.stu.keys = true) :
    exec .linkUp s = .next { s with
      dev := (({ s.dev with prc := { s.dev.prc with
          linkQueue := [], flight := [], lineFree := s.dev.tick, txTick := s.dev.tick, linkTick := s.dev.tick } } :
        Dev).putF PRC.STAT 0 2 2).event 0x0A01 } :=
  next_dev (if_neg (by simp [h, hk]))

theorem linkUp_idle (h : linkState s.dev = 2 ∨ s.dev.stu.keys = false) : exec .linkUp s = .next s :=
  next_same (if_pos (by simpa using h))

/-- Losing the link ends partner time; on another source it only drops what waits. -/
theorem linkDown_drops (h : linkState s.dev = 2) (hsrc : tbuSrc s.dev ≠ 6) :
    let e := s.dev.advanceTo (linkDownAt s.dev)
    exec .linkDown s = .next { s with
      dev := (({ e with prc := { e.prc with linkQueue := [], flight := [] } } : Dev).putF PRC.STAT 0 2 1).event 0x0A02 } := by
  refine next_dev ((if_neg (by simp [h])).trans (partnerTimeLost_of_source _ ?_))
  rw [tbuSrc_congr (Dev.event_regs _ _ _), Dev.putF, tbuSrc_put _ _ (by decide)]
  exact hsrc

theorem linkDown_idle (h : linkState s.dev ≠ 2) : exec .linkDown s = .next s := next_same (if_pos (by simp [h]))

theorem linkRetransmit_again {f : LinkFlight} {rest : List LinkFlight} (h : linkState s.dev = 2) (hf : s.dev.prc.flight = f :: rest)
    (hr : f.retries < 8) :
    let e := s.dev.advanceTo (f.tick + 5 * ticksPerUs)
    exec .linkRetransmit s = .next { s with
      dev := ({ e with prc := { e.prc with
          flight := rest ++ [{ f with tick := e.tick, retries := f.retries + 1 }], txTick := e.tick } } : Dev).bump PRC.LINK_ERR_CNT } := by
  refine next_dev ?_
  simp only [hf]
  exact if_neg (by simp [h, hr])

/-- Nothing goes again over a link that is not up, nor after eight times. -/
theorem linkRetransmit_idle (h : linkState s.dev ≠ 2 ∨ ∀ f ∈ s.dev.prc.flight.head?, 8 ≤ f.retries) :
    exec .linkRetransmit s = .next s := by
  refine next_same ?_
  cases hf : s.dev.prc.flight with
  | nil => simp only [hf]
  | cons f rest =>
    simp only [hf]
    exact if_pos (by simpa [hf] using h)

theorem idleFrame_leaves (h : linkState s.dev = 2) (hq : s.dev.prc.linkQueue = []) :
    let e := s.dev.advanceTo (s.dev.prc.txTick + 10 * ticksPerUs)
    exec .idleFrame s = .next { s with dev := { e with prc := { e.prc with idleSent := s.dev.prc.idleSent + 1, txTick := e.tick } } } :=
  next_dev (if_neg (by simp [h, hq]))

theorem idleFrame_idle (h : linkState s.dev ≠ 2) : exec .idleFrame s = .next s := next_same (if_pos (by simp [h]))

theorem linkFrameReceived_bad (p : LinkPayload) : exec (.linkFrameReceived false p) s = .next s := next_same rfl

/-- The instant of the last valid frame, which each frame sets. -/
def Dev.heardLink (d : Dev) : Dev := { d with prc := { d.prc with linkTick := d.tick } }

theorem linkFrameReceived_data (h : linkState s.dev = 2) :
    exec (.linkFrameReceived true .data) s = .next { s with
      dev := { s.dev.heardLink with prc := { s.dev.heardLink.prc with acksSent := s.dev.prc.acksSent + 1 } } } :=
  next_dev (if_pos h)

theorem linkFrameReceived_training (h : linkState s.dev = 0) :
    exec (.linkFrameReceived true .training) s = .next { s with dev := s.dev.heardLink.putF PRC.STAT 0 2 1 } :=
  next_dev (if_pos h)

end

/-! ### The heartbeat that leaves (R318, Table 14.1) -/

theorem heartbeatSend_paired {s : State} (h : s.cfg.pair = true) :
    let e := s.dev.advanceTo (s.dev.esc.boundary + 50 * ticksPerUs)
    exec .heartbeatSend s = .next { s with
      dev := ({ e with prc := { e.prc with lastSent := some (ownHeartbeat s.cfg e), testSeen := false } } : Dev).linkPush 0 0xB1 48 } :=
  next_dev (if_neg (by simp [h]))

theorem ownHeartbeat_cfgHash (c : Cfg) (d : Dev) :
    (ownHeartbeat c d).cfgHash.extractLsb' 0 32 = d.w PRC.CFG_HASH_LO
      ∧ (ownHeartbeat c d).cfgHash.extractLsb' 32 32 = d.w PRC.CFG_HASH_HI :=
  ⟨BitVec.extractLsb'_append_eq_right, BitVec.extractLsb'_append_eq_left⟩

/-- It carries the digest formed last, with its beat. -/
theorem ownHeartbeat_digest (c : Cfg) {d : Dev} {n : Nat} {x : BitVec 128} {l : List (Nat × BitVec 128)} (h : d.prc.digests = (n, x) :: l) :
    (ownHeartbeat c d).digest = x ∧ (ownHeartbeat c d).digBeat.toNat = n % 2 ^ 48 := by
  refine ⟨by simp only [ownHeartbeat, h], ?_⟩
  simp only [ownHeartbeat, h]
  exact BitVec.toNat_ofNat _ _

/-! ### The heartbeat that is missing, and the seize (R319, R342, R343) -/

/-- A seize pulse begins: SEIZE_OUT, SEIZING, the count and its event (R343). -/
def Dev.pulseSeize (d : Dev) : Dev :=
  ((({ d with prc := { d.prc with seizeOut := 1, trigger := true, seizeBeat := d.esc.beat, seizeTick := d.tick } } :
    Dev).putB PRC.STAT 6 true).sat PRC.SEIZE_CNT 0 16 1).event 0x0A04

theorem pulseSeize_tbuSrc (d : Dev) : tbuSrc d.pulseSeize = tbuSrc d := by
  unfold Dev.pulseSeize Dev.sat Dev.putF Dev.putB
  rw [tbuSrc_congr (Dev.event_regs _ _ _), tbuSrc_put _ _ (by decide), tbuSrc_put _ _ (by decide)]
  rfl

/-- A standby with no pulse in progress pulses SEIZE_OUT. -/
theorem seize_pulses {d : Dev} (hm : d.mode = 4) (hc : d.crown = false) (hp : d.b PRC.STAT 6 = false) : d.seize = d.pulseSeize :=
  if_neg (by simp [hm, hc, hp])

theorem seizeOnTrigger_first {d : Dev} (h : d.prc.trigger = false) : d.seizeOnTrigger = d.seize := if_neg (by simp [h])

/-- The beat whose crown heartbeat is judged to be missing, 200 microseconds after its boundary. -/
def Dev.judgeBeat (d : Dev) : Dev :=
  let e := d.advanceTo (d.esc.boundary + 200 * ticksPerUs)
  { e with prc := { e.prc with missBeat := some d.esc.beat } }

/-- One more miss: the third is an event in Standby. -/
def Dev.countMiss (d : Dev) : Dev :=
  let e := d.putF PRC.STAT 12 2 (min 3 (d.f PRC.STAT 12 2 + 1))
  if d.f PRC.STAT 12 2 = 2 && e.mode = 4 then e.event 0x0A03 else e

theorem countMiss_early {d : Dev} (h : d.f PRC.STAT 12 2 < 2) : d.countMiss = d.putF PRC.STAT 12 2 (d.f PRC.STAT 12 2 + 1) := by
  rw [Dev.countMiss, if_neg (by simp; omega), Nat.min_eq_right (by omega)]

theorem countMiss_third {d : Dev} (h : d.f PRC.STAT 12 2 = 2) (hm : d.mode = 4) :
    d.countMiss = (d.putF PRC.STAT 12 2 3).event 0x0A03 := by
  have hmode : (d.putF PRC.STAT 12 2 3).mode = 4 := (Dev.mode_putF d _ _ _ (by decide)).trans hm
  rw [Dev.countMiss, h]
  exact if_pos (by simp [hmode])

/-- The third miss of a standby is its first trigger. -/
theorem countMiss_seizes {d : Dev} (h : d.f PRC.STAT 12 2 = 2) (hm : d.mode = 4) (hc : d.crown = false) (ht : d.prc.trigger = false)
    (hp : d.b PRC.STAT 6 = false) : d.countMiss.seizeOnTrigger = ((d.putF PRC.STAT 12 2 3).event 0x0A03).pulseSeize := by
  have hmode : ((d.putF PRC.STAT 12 2 3).event 0x0A03).mode = 4 := by rw [Dev.mode_event, Dev.mode_putF d _ _ _ (by decide), hm]
  have hlatch : ((d.putF PRC.STAT 12 2 3).event 0x0A03).crown = false := by rw [Dev.crown, Dev.event_prc, Dev.putF_prc]; exact hc
  have hpulse : ((d.putF PRC.STAT 12 2 3).event 0x0A03).b PRC.STAT 6 = false := by
    rw [Dev.b, Dev.w_event, ← Dev.b, Dev.b_putF_apart d _ _ (by omega) (by omega), hp]
  rw [countMiss_third h hm, seizeOnTrigger_first (by rw [Dev.event_prc, Dev.putF_prc, ht]), seize_pulses hmode hlatch hpulse]

/-- Misses are judged once a beat. -/
theorem heartbeatMissed_idle {s : State} (h : s.dev.prc.missBeat = some s.dev.esc.beat) : exec .heartbeatMissed s = .next s :=
  next_same (if_pos (by simp [h]))

section
variable {s : State} (hpair : s.cfg.pair = true) (hcrown : s.dev.crown = false) (hseen : s.dev.prc.crownHbSeen = false)
  (hbeat : s.dev.prc.missBeat ≠ some s.dev.esc.beat)
include hpair hcrown hseen hbeat

/-- A miss counts; from the third on it is a trigger. -/
theorem heartbeatMissed_counts :
    let e := s.dev.judgeBeat.countMiss
    exec .heartbeatMissed s = .next { s with
      dev := (if 2 ≤ s.dev.f PRC.STAT 12 2 then e.seizeOnTrigger else e).partnerTimeLost s.cfg } :=
  next_dev (if_neg (by simp [hpair, hcrown, hseen, hbeat]))

variable (hsrc : tbuSrc s.dev ≠ 6)
include hsrc

theorem heartbeatMissed_early (hn : s.dev.f PRC.STAT 12 2 < 2) :
    exec .heartbeatMissed s = .next { s with dev := s.dev.judgeBeat.putF PRC.STAT 12 2 (s.dev.f PRC.STAT 12 2 + 1) } := by
  rw [heartbeatMissed_counts hpair hcrown hseen hbeat, if_neg (by omega), countMiss_early (d := s.dev.judgeBeat) hn]
  exact next_dev (partnerTimeLost_of_source _ ((tbuSrc_put _ _ (by decide)).trans_ne hsrc))

theorem heartbeatMissed_third (hn : s.dev.f PRC.STAT 12 2 = 2) (hm : s.dev.mode = 4) (ht : s.dev.prc.trigger = false)
    (hp : s.dev.b PRC.STAT 6 = false) :
    exec .heartbeatMissed s = .next { s with dev := ((s.dev.judgeBeat.putF PRC.STAT 12 2 3).event 0x0A03).pulseSeize } := by
  rw [heartbeatMissed_counts hpair hcrown hseen hbeat, if_pos (by omega), countMiss_seizes (d := s.dev.judgeBeat) hn hm hcrown ht hp]
  refine next_dev (partnerTimeLost_of_source _ ?_)
  rw [pulseSeize_tbuSrc, tbuSrc_congr (Dev.event_regs _ _ _), Dev.putF, tbuSrc_put _ _ (by decide)]
  exact hsrc

end

/-! ### The heartbeat that arrives (R318, R319, R340) -/

theorem heartbeatReceived_refused {s : State} {hb : Heartbeat} (h : s.cfg.pair = false ∨ hbValid s.dev hb = false) :
    exec (.heartbeatReceived hb) s = .next s :=
  next_same (if_pos (by simpa using h))

/-- A valid heartbeat as the pair logic notes it (R318, R319, R339). -/
def Dev.noteHeartbeat (d : Dev) (hb : Heartbeat) : Dev :=
  { d with prc := { d.prc with
    lastHb := some (hb, d.tick, d.esc.beat), testSent := d.prc.testSent && !hb.testSeen
    unreported := if hb.testSeen then 0 else d.prc.unreported
    crownHbBeat := if hb.crowned then some d.esc.beat else d.prc.crownHbBeat, crownHbSeen := d.prc.crownHbSeen || hb.crowned } }

@[simp] theorem w_noteHeartbeat (d : Dev) (hb : Heartbeat) (k : Nat) : (d.noteHeartbeat hb).w k = d.w k := rfl

/-- What the registers show of the partner after its heartbeat: present, its crown, mode and configuration hash. -/
def Dev.showPartner (d : Dev) (hb : Heartbeat) : Dev :=
  ((((d.putB PRC.STAT 2 true).putB PRC.STAT 3 hb.crowned).putF PRC.STAT 16 4 hb.mode.toNat).put PRC.PCFG_HASH_LO
    (hb.cfgHash.extractLsb' 0 32)).put PRC.PCFG_HASH_HI (hb.cfgHash.extractLsb' 32 32)

@[simp] theorem showPartner_prc (d : Dev) (hb : Heartbeat) : (d.showPartner hb).prc = d.prc := by
  rw [Dev.showPartner, Dev.put_prc, Dev.put_prc, Dev.putF_prc, Dev.putB_prc, Dev.putB_prc]
@[simp] theorem showPartner_occ (d : Dev) (hb : Heartbeat) : (d.showPartner hb).occ = d.occ := by
  rw [Dev.showPartner, Dev.put_occ, Dev.put_occ, Dev.putF_occ, Dev.putB_occ, Dev.putB_occ]

/-- What a crown heartbeat does beside: no misses, its epoch met, a standby that orphaned a beat diverges, FAIL is a trigger. -/
def Dev.heedCrown (d : Dev) (c : Cfg) (hb : Heartbeat) : Dev :=
  let d := if hb.crowned then (d.putF PRC.STAT 12 2 0).meetEpoch c hb.epoch else d
  let d := if hb.crowned && d.prc.orphaned then d.diverge else d
  if hb.crowned && hb.fail then d.seizeOnTrigger else d

/-- A trigger that no longer stands ends. -/
def Dev.endTrigger (d : Dev) : Dev := if triggerStands d then d else { d with prc := { d.prc with trigger := false } }

theorem endTrigger_eq (d : Dev) : d.endTrigger = { d with prc := { d.prc with trigger := d.prc.trigger && triggerStands d } } := by
  cases h : triggerStands d <;> simp [Dev.endTrigger, h]

@[simp] theorem w_endTrigger (d : Dev) (k : Nat) : d.endTrigger.w k = d.w k := by rw [endTrigger_eq]; rfl
@[simp] theorem endTrigger_occ (d : Dev) : d.endTrigger.occ = d.occ := by rw [endTrigger_eq]

/-- The epoch of a heartbeat against the highest one met (R340). -/
def Dev.keepEpoch (d : Dev) (e : Word) : Dev :=
  if 0 < seqDiff 32 e.toNat (d.w PRC.EPOCH_MAX).toNat then d.put PRC.EPOCH_MAX e else d

theorem keepEpoch_regs (d : Dev) (e : Word) : d.keepEpoch e = { d with regs := (d.keepEpoch e).regs } := by
  unfold Dev.keepEpoch; split <;> rfl

@[simp] theorem keepEpoch_prc (d : Dev) (e : Word) : (d.keepEpoch e).prc = d.prc := by rw [keepEpoch_regs]
@[simp] theorem keepEpoch_occ (d : Dev) (e : Word) : (d.keepEpoch e).occ = d.occ := by rw [keepEpoch_regs]

theorem w_keepEpoch_self (d : Dev) (e : Word) :
    (d.keepEpoch e).w PRC.EPOCH_MAX = if 0 < seqDiff 32 e.toNat (d.w PRC.EPOCH_MAX).toNat then e else d.w PRC.EPOCH_MAX := by
  unfold Dev.keepEpoch; split
  · exact Dev.w_put_self _ _ _
  · rfl

theorem w_keepEpoch_ne (d : Dev) (e : Word) {k : Nat} (h : k ≠ PRC.EPOCH_MAX) : (d.keepEpoch e).w k = d.w k := by
  unfold Dev.keepEpoch; split
  · exact Dev.w_put_ne _ _ h
  · rfl

/-- A module without the crown only keeps the highest epoch it meets (R340). -/
theorem meetEpoch_uncrowned {d : Dev} (c : Cfg) (e : Word) (h : d.crown = false) : d.meetEpoch c e = d.keepEpoch e := by
  have hcrown : (d.keepEpoch e).crown = false := by rw [keepEpoch_regs]; exact h
  show (if (d.keepEpoch e).crown && decide (0 < seqDiff 32 e.toNat (d.keepEpoch e).prc.epoch.toNat) then _ else d.keepEpoch e) = _
  rw [hcrown]
  rfl

/-- What the registers show after a crown heartbeat that brings neither FAIL nor an end of Standby. -/
def Dev.showCrown (d : Dev) (hb : Heartbeat) : Dev := ((d.showPartner hb).putF PRC.STAT 12 2 0).keepEpoch hb.epoch

@[simp] theorem showCrown_prc (d : Dev) (hb : Heartbeat) : (d.showCrown hb).prc = d.prc := by
  rw [Dev.showCrown, keepEpoch_prc, Dev.putF_prc, showPartner_prc]
@[simp] theorem showCrown_occ (d : Dev) (hb : Heartbeat) : (d.showCrown hb).occ = d.occ := by
  rw [Dev.showCrown, keepEpoch_occ, Dev.putF_occ, showPartner_occ]

theorem heedCrown_follows {d : Dev} (c : Cfg) {hb : Heartbeat} (hcrown : d.crown = false) (horph : d.prc.orphaned = false)
    (hcrowned : hb.crowned = true) (hfail : hb.fail = false) : d.heedCrown c hb = (d.putF PRC.STAT 12 2 0).keepEpoch hb.epoch := by
  have hmeet : (d.putF PRC.STAT 12 2 0).meetEpoch c hb.epoch = (d.putF PRC.STAT 12 2 0).keepEpoch hb.epoch :=
    meetEpoch_uncrowned c hb.epoch hcrown
  simp [Dev.heedCrown, hcrowned, hfail, hmeet, horph]

/-- The registers in which a crown heartbeat shows. -/
def crownKeys : List Nat := [PRC.STAT, PRC.PCFG_HASH_LO, PRC.PCFG_HASH_HI, PRC.EPOCH_MAX]

theorem showCrown_regsKept (d : Dev) (hb : Heartbeat) : RegsKept crownKeys d (d.showCrown hb) := by
  have hshow : RegsKept crownKeys d ((d.showPartner hb).putF PRC.STAT 12 2 0) := by
    unfold Dev.showPartner Dev.putF Dev.putB
    iterate 6 refine regsKept_put ?_ _ (by decide)
    exact regsKept_refl
  unfold Dev.showCrown Dev.keepEpoch
  split
  · exact regsKept_put hshow _ (by decide)
  · exact hshow

/-- The units after a crown heartbeat of that kind. -/
def Dev.hearCrown (d : Dev) (hb : Heartbeat) : Dev := ((d.noteHeartbeat hb).showCrown hb).endTrigger

theorem w_hearCrown (d : Dev) (hb : Heartbeat) (k : Nat) : (d.hearCrown hb).w k = ((d.noteHeartbeat hb).showCrown hb).w k :=
  w_endTrigger _ k

theorem hearCrown_prc (d : Dev) (hb : Heartbeat) : (d.hearCrown hb).prc
    = { (d.noteHeartbeat hb).prc with trigger := d.prc.trigger && triggerStands ((d.noteHeartbeat hb).showCrown hb) } := by
  rw [Dev.hearCrown, endTrigger_eq, showCrown_prc]
  rfl

theorem hearCrown_occ (d : Dev) (hb : Heartbeat) : (d.hearCrown hb).occ = d.occ := by
  rw [Dev.hearCrown, endTrigger_occ, showCrown_occ]
  rfl

theorem hearCrown_regsKept (d : Dev) (hb : Heartbeat) : RegsKept crownKeys d (d.hearCrown hb) := fun k hk => by
  rw [w_hearCrown, showCrown_regsKept _ hb k hk, w_noteHeartbeat]

theorem hearCrown_crown (d : Dev) (hb : Heartbeat) : (d.hearCrown hb).crown = d.crown := by
  rw [Dev.crown, hearCrown_prc]
  rfl

/-- A valid heartbeat that is not of an older epoch is taken. -/
theorem heartbeatReceived_taken {s : State} {hb : Heartbeat} (hpair : s.cfg.pair = true) (hvalid : hbValid s.dev hb = true)
    (hcrown : s.dev.crown = false) (hmode : s.dev.mode ≠ 4) :
    exec (.heartbeatReceived hb) s = .next { s with
      dev := (((((s.dev.noteHeartbeat hb).showPartner hb).heedCrown s.cfg hb).endTrigger).compareDigest s.cfg).partnerTimeLost s.cfg } :=
  next_dev ((if_neg (by simp [hpair, hvalid])).trans (if_neg (by simp [hcrown, hmode])))

theorem heartbeatReceived_crown {s : State} {hb : Heartbeat} (hpair : s.cfg.pair = true) (hmode : s.dev.mode = 3)
    (hcrown : s.dev.crown = false) (hsrc : tbuSrc s.dev ≠ 6) (horph : s.dev.prc.orphaned = false) (hcrc : hb.crcOk = true)
    (hcrowned : hb.crowned = true) (hfail : hb.fail = false) :
    exec (.heartbeatReceived hb) s = .next { s with dev := s.dev.hearCrown hb } := by
  have hheed := heedCrown_follows (d := (s.dev.noteHeartbeat hb).showPartner hb) s.cfg (by rw [Dev.crown, showPartner_prc]; exact hcrown)
    (by rw [showPartner_prc]; exact horph) hcrowned hfail
  have hkept := hearCrown_regsKept s.dev hb
  have hstays : (s.dev.hearCrown hb).mode = 3 := (regsKept_mode hkept (by decide)).trans hmode
  have hcompare : (s.dev.hearCrown hb).compareDigest s.cfg = s.dev.hearCrown hb :=
    compareDigest_off _ ((hearCrown_crown _ _).trans hcrown) (by omega) (by omega)
  have hsource : (s.dev.hearCrown hb).partnerTimeLost s.cfg = s.dev.hearCrown hb :=
    partnerTimeLost_of_source _ ((regsKept_tbuSrc hkept (by decide)).trans_ne hsrc)
  rw [heartbeatReceived_taken hpair (by simp [hbValid, hcrc, hmode]) hcrown (by omega), hheed]
  exact next_dev ((congrArg (Dev.partnerTimeLost · s.cfg) hcompare).trans hsource)

section
variable (d : Dev) (hb : Heartbeat)

theorem w_hearCrown_stat : (d.hearCrown hb).w PRC.STAT
    = setFld (setFld (setBit (setBit (d.w PRC.STAT) 2 true) 3 hb.crowned) 16 4 hb.mode.toNat) 12 2 0 := by
  rw [w_hearCrown, Dev.showCrown, w_keepEpoch_ne _ _ (by decide), Dev.w_putF_self, Dev.showPartner, Dev.w_put_ne _ _ (by decide),
    Dev.w_put_ne _ _ (by decide), Dev.w_putF_self, Dev.w_putB_self, Dev.w_putB_self, w_noteHeartbeat]

/-- The pair logic after a crown heartbeat: it is the last one, and one of the beat in progress. -/
theorem hearCrown_noted (hcrowned : hb.crowned = true) :
    (d.hearCrown hb).prc.crownHbSeen = true ∧ (d.hearCrown hb).prc.lastHb = some (hb, d.tick, d.esc.beat) := by
  rw [hearCrown_prc]
  exact ⟨by simp [Dev.noteHeartbeat, hcrowned], rfl⟩

/-- PRC.STAT after a crown heartbeat: the partner is present, its crown and mode are shown, MISSED is 0. -/
theorem hearCrown_stat : (d.hearCrown hb).b PRC.STAT 2 = true ∧ (d.hearCrown hb).b PRC.STAT 3 = hb.crowned
    ∧ (d.hearCrown hb).f PRC.STAT 12 2 = 0 ∧ (d.hearCrown hb).f PRC.STAT 16 4 = hb.mode.toNat := by
  unfold Dev.b Dev.f
  rw [w_hearCrown_stat]
  refine ⟨?_, ?_, ?_, ?_⟩
  · rw [bit_setFld_apart _ _ (by omega) (by omega), bit_setFld_apart _ _ (by omega) (by omega), bit_setBit_ne _ _ (by omega) (by omega),
      bit_setBit _ _ (by omega)]
  · rw [bit_setFld_apart _ _ (by omega) (by omega), bit_setFld_apart _ _ (by omega) (by omega), bit_setBit _ _ (by omega)]
  · exact fld_setFld _ _ (by omega)
  · rw [fld_setFld_above _ _ (by omega) (by omega), fld_setFld _ _ (by omega), Nat.mod_eq_of_lt hb.mode.isLt]

theorem w_hearCrown_hash : (d.hearCrown hb).w PRC.PCFG_HASH_LO = hb.cfgHash.extractLsb' 0 32
    ∧ (d.hearCrown hb).w PRC.PCFG_HASH_HI = hb.cfgHash.extractLsb' 32 32 := by
  rw [w_hearCrown, w_hearCrown]
  unfold Dev.showCrown Dev.showPartner
  rw [w_keepEpoch_ne _ _ (by decide), w_keepEpoch_ne _ _ (by decide), Dev.w_putF_ne _ _ _ _ (by decide), Dev.w_putF_ne _ _ _ _ (by decide)]
  exact ⟨(Dev.w_put_ne _ _ (by decide)).trans (Dev.w_put_self _ _ _), Dev.w_put_self _ _ _⟩

theorem w_hearCrown_epoch : (d.hearCrown hb).w PRC.EPOCH_MAX
    = if 0 < seqDiff 32 hb.epoch.toNat (d.w PRC.EPOCH_MAX).toNat then hb.epoch else d.w PRC.EPOCH_MAX := by
  have hkept : (((d.noteHeartbeat hb).showPartner hb).putF PRC.STAT 12 2 0).w PRC.EPOCH_MAX = d.w PRC.EPOCH_MAX := by
    unfold Dev.showPartner Dev.putF Dev.putB
    iterate 6 rw [Dev.w_put_ne _ _ (by decide)]
    exact w_noteHeartbeat _ _ _
  rw [w_hearCrown, Dev.showCrown, w_keepEpoch_self, hkept]

end

/-! ### Held items (R34, R35) -/

theorem class2HoldExpiry_drops {s : State} {source : Fin 65536} {p : Nat × Item}
    (h : s.dev.flow.held.find? (fun q => q.2.source = source.val && q.2.cls = 2) = some p) :
    let d : Dev := { s.dev with flow := { s.dev.flow with held := s.dev.flow.held.erase p } }
    exec (.class2HoldExpiry source) s = .next { s with dev := (d.advanceTo (p.1 + sourceTmo s.cfg d source.val + 1)).classDrop 2 1 } := by
  refine next_dev ?_
  simp only [h]

theorem class2HoldExpiry_idle {s : State} (source : Fin 65536) (h : s.dev.flow.held = []) : exec (.class2HoldExpiry source) s = .next s := by
  refine next_same ?_
  simp only [h, List.find?_nil]

/-- Settles O52: the link, its frames, the heartbeat that leaves, the one that arrives, the one that is missing, held items. -/
theorem linkAndHeartbeats : Obligations.LinkAndHeartbeats := by
  refine ⟨fun s => linkUp_trains, fun s => linkUp_idle, fun s => linkDown_drops,
    fun s h => ⟨linkDown_idle h, linkRetransmit_idle (.inl h), idleFrame_idle h⟩, fun s f rest h hf => ⟨linkRetransmit_again h hf, ?_⟩,
    fun s => idleFrame_leaves, fun s => ⟨linkFrameReceived_bad, rfl, rfl, linkFrameReceived_data, linkFrameReceived_training⟩,
    fun s hpair => ?_, fun s hb => heartbeatReceived_refused, fun s hb hpair hmode hcrown hsrc horph hcrc hcrowned hfail => ?_,
    fun s hpair hcrown hseen hbeat hsrc => ⟨?_, ?_⟩, fun s => heartbeatMissed_idle, fun s source p => class2HoldExpiry_drops,
    fun s => class2HoldExpiry_idle⟩
  · intro hr
    exact linkRetransmit_idle (.inr (by simpa [hf] using hr))
  · obtain ⟨hlo, hhi⟩ := ownHeartbeat_cfgHash s.cfg (s.dev.advanceTo (s.dev.esc.boundary + 50 * ticksPerUs))
    exact ⟨_, heartbeatSend_paired hpair, rfl, rfl, rfl, rfl, rfl, BitVec.toNat_ofNat _ _, rfl, BitVec.toNat_ofNat _ _, hlo, hhi,
      fun n x l h => ownHeartbeat_digest _ h⟩
  · obtain ⟨hpresent, hshown, hmissed, hmodeShown⟩ := hearCrown_stat s.dev hb
    obtain ⟨hseen, hlast⟩ := hearCrown_noted s.dev hb hcrowned
    obtain ⟨hlo, hhi⟩ := w_hearCrown_hash s.dev hb
    exact ⟨_, heartbeatReceived_crown hpair hmode hcrown hsrc horph hcrc hcrowned hfail, rfl, hearCrown_regsKept s.dev hb,
      hearCrown_occ _ _, hpresent, hshown.trans hcrowned, hmissed, hmodeShown, hseen, hlast, hlo, hhi, w_hearCrown_epoch s.dev hb⟩
  · exact heartbeatMissed_early hpair hcrown hseen hbeat hsrc
  · exact heartbeatMissed_third hpair hcrown hseen hbeat hsrc

end Sys2Proof.Machine
end

section
/-! SUPPORT. Requests: the codes of MODE_RESULT in the order in which they are tested, and the rows from Configure. -/
namespace Sys2Proof.Machine

/-! ### Refusals before the table is consulted (R43, R56, Table 2.6) -/

section
variable (c : Cfg) {d : Dev} {value : Word}

theorem requestCode_badKey (d : Dev) (h : fld value 16 16 ≠ 0x6D0E) : requestCode c d value = (5, 0) := if_pos (bne_iff_ne.mpr h)

variable (hkey : fld value 16 16 = 0x6D0E)
include hkey

theorem requestCode_lockedOut (hmode : d.mode = 11) : requestCode c d value = (7, 0) := by
  simp [requestCode, hkey, hmode]

theorem requestCode_standby (hmode : d.mode = 4) (hlo : 6 ≤ fld value 0 4) (hhi : fld value 0 4 ≤ 10) :
    requestCode c d value = (6, 0) := by
  simp [requestCode, hkey, hmode, hlo, hhi]

/-! ### What the table decides (R44, R45, Table 2.8) -/

variable (hlock : d.mode ≠ 11) (hstandby : d.mode ≠ 4)
include hlock hstandby

theorem requestCode_noRow (hrow : requestRow d.mode (fld value 0 4) = none) : requestCode c d value = (3, 0) := by
  simp [requestCode, hkey, hlock, hstandby, hrow]

variable {l : List Nat} (hrow : requestRow d.mode (fld value 0 4) = some l)
include hrow

/-- The first precondition of the row that fails is named. -/
theorem requestCode_precondition (hfails : firstFailing c d l ≠ 0) : requestCode c d value = (4, firstFailing c d l) := by
  simp [requestCode, hkey, hlock, hstandby, hrow, hfails]

theorem requestCode_accepted (htarget : fld value 0 4 ≠ 4) (hholds : firstFailing c d l = 0) : requestCode c d value = (0, 0) := by
  simp [requestCode, hkey, hlock, hstandby, hrow, htarget, hholds]

end

/-! ### The rows from Configure (Table 2.8) -/

/-- No row leads from Configure to a crowned mode above Manual. -/
theorem requestRow_configure_none {m t : Nat} (hm : m = 3) (hlo : 7 ≤ t) (hhi : t ≤ 10) : requestRow m t = none := by
  have hrows : ∀ t ≤ 10, 7 ≤ t → requestRow 3 t = none := by decide
  rw [hm]
  exact hrows t hhi hlo

theorem requestRow_configure_manual {m t : Nat} (hm : m = 3) (ht : t = 6) : requestRow m t = some [1, 2, 3, 10] := by
  rw [hm, ht]
  rfl

/-- Settles O19: key, Lock-out and Standby come first, then the row from Configure and its preconditions. -/
theorem requestCodes : Obligations.RequestCodes := by
  intro c d value
  refine ⟨requestCode_badKey c d, requestCode_lockedOut c, requestCode_standby c, fun hkey hmode hlo hhi => ?_,
    fun hkey hmode ht hholds => ?_, fun hkey hmode ht hfails => ?_⟩
  · exact requestCode_noRow c hkey (by omega) (by omega) (requestRow_configure_none hmode hlo hhi)
  · exact requestCode_accepted c hkey (by omega) (by omega) (requestRow_configure_manual hmode ht) (by omega) hholds
  · exact requestCode_precondition c hkey (by omega) (by omega) (requestRow_configure_manual hmode ht) hfails

end Sys2Proof.Machine
end

section
/-! SUPPORT. The axis 0 beat boundary: the beat number, the end of Self-test, and what no mode edge touches. -/
namespace Sys2Proof.Machine

/-! ### What the work at a mode edge leaves alone -/

/-- Of two conditions of the units: time, escapement, mode logic and self-test are the same, and so are the current mode and BEAT_SLIP. -/
structure EdgeKept (d e : Dev) : Prop where
  tick : e.tick = d.tick
  esc : e.esc = d.esc
  modes : e.modes = d.modes
  stu : e.stu = d.stu
  mode : e.mode = d.mode
  slip : e.w ESC.BEAT_SLIP = d.w ESC.BEAT_SLIP

namespace EdgeKept

variable {d e f : Dev}

theorem refl (d : Dev) : EdgeKept d d := ⟨rfl, rfl, rfl, rfl, rfl, rfl⟩

theorem trans (h : EdgeKept d e) (g : EdgeKept e f) : EdgeKept d f :=
  ⟨g.tick.trans h.tick, g.esc.trans h.esc, g.modes.trans h.modes, g.stu.trans h.stu, g.mode.trans h.mode, g.slip.trans h.slip⟩

/-- A change of the other units, of the occurrences or of their limits. -/
theorem other (h : EdgeKept d e) (hr : f.regs = e.regs := by rfl) (ht : f.tick = e.tick := by rfl) (he : f.esc = e.esc := by rfl)
    (hm : f.modes = e.modes := by rfl) (hs : f.stu = e.stu := by rfl) : EdgeKept d f := by
  refine h.trans ⟨ht, he, hm, hs, ?_, ?_⟩
  · unfold Dev.mode Dev.f Dev.w
    rw [hr]
  · unfold Dev.w
    rw [hr]

theorem event (h : EdgeKept d e) {code : Nat} {ps : List Int} : EdgeKept d (e.event code ps) := h.other

section
variable {k : Nat} (h : EdgeKept d e)
include h

/-- A write of any register but SYS.MODE and BEAT_SLIP, whatever its form. -/
theorem put {v : Word} (hk : k ≠ SYS.MODE ∧ k ≠ ESC.BEAT_SLIP := by decide) : EdgeKept d (e.put k v) :=
  h.trans ⟨rfl, rfl, rfl, rfl, Dev.mode_put e v hk.1, Dev.w_put_ne e v hk.2.symm⟩

theorem putN {v : Nat} (hk : k ≠ SYS.MODE ∧ k ≠ ESC.BEAT_SLIP := by decide) : EdgeKept d (e.putN k v) := h.put hk
theorem putF {lo n v : Nat} (hk : k ≠ SYS.MODE ∧ k ≠ ESC.BEAT_SLIP := by decide) : EdgeKept d (e.putF k lo n v) := h.put hk
theorem putB {i : Nat} {b : Bool} (hk : k ≠ SYS.MODE ∧ k ≠ ESC.BEAT_SLIP := by decide) : EdgeKept d (e.putB k i b) := h.put hk
theorem bump (hk : k ≠ SYS.MODE ∧ k ≠ ESC.BEAT_SLIP := by decide) : EdgeKept d (e.bump k) := h.put hk

/-- A write of the bits of SYS.MODE above the current mode. -/
theorem putF_mode {lo n v : Nat} (hw : lo + n ≤ 32 := by decide) (hlo : 4 ≤ lo := by decide) : EdgeKept d (e.putF SYS.MODE lo n v) :=
  h.trans ⟨rfl, rfl, rfl, rfl, Dev.f_putF_apart e _ v hw (.inr hlo), Dev.w_putF_ne e _ _ _ (by decide)⟩

theorem putB_mode {i : Nat} {b : Bool} (hw : i + 1 ≤ 32 := by decide) (hlo : 4 ≤ i := by decide) : EdgeKept d (e.putB SYS.MODE i b) :=
  h.putF_mode hw hlo

theorem foldl {α : Type} {g : Dev → α → Dev} {l : List α} (hg : ∀ e, EdgeKept d e → ∀ a, EdgeKept d (g e a)) :
    EdgeKept d (l.foldl g e) := by
  induction l generalizing e with
  | nil => exact h
  | cons a t ih => exact ih (hg e h a)

end

theorem ite {c : Prop} [Decidable c] (he : EdgeKept d e) (hf : EdgeKept d f) : EdgeKept d (if c then e else f) := by
  split
  · exact he
  · exact hf

theorem sendsSetpoints (h : EdgeKept d e) : sendsSetpoints e = sendsSetpoints d := by
  rw [Machine.sendsSetpoints, Machine.sendsSetpoints, h.mode, h.modes]

end EdgeKept

/-- The registers of an array that starts above BEAT_SLIP are neither it nor SYS.MODE. -/
theorem apart_of_above {b i : Nat} (h : ESC.BEAT_SLIP < b) : b + i ≠ SYS.MODE ∧ b + i ≠ ESC.BEAT_SLIP := by
  have hmode : SYS.MODE < ESC.BEAT_SLIP := by decide
  omega

/-! ### Outputs and the crown at a mode edge -/

theorem showOut_edgeKept (d : Dev) (c : Cfg) (lead k : Nat) : EdgeKept d (d.showOut c lead k) := by
  unfold Dev.showOut
  exact .putB (.putB (.put (.refl d) (apart_of_above (by decide))))

theorem driveGroup_edgeKept (d : Dev) (c : Cfg) (slow : Bool) (lead : Nat) : EdgeKept d (d.driveGroup c slow lead) := by
  unfold Dev.driveGroup
  dsimp only
  exact .foldl (.other (.refl d)) fun e he k => he.trans (showOut_edgeKept e c lead k)

theorem driveOutputs_edgeKept (d : Dev) (c : Cfg) (slow : Bool) : EdgeKept d (d.driveOutputs c slow) := by
  unfold Dev.driveOutputs
  exact .foldl (.refl d) fun e he lead => he.trans (driveGroup_edgeKept e c slow lead)

theorem driveAouts_edgeKept (d : Dev) (c : Cfg) : EdgeKept d (d.driveAouts c) := by
  unfold Dev.driveAouts
  refine .foldl (.refl d) fun e he o => .putB (.putF (.other he) ?_) ?_
  all_goals exact apart_of_above (by decide)

theorem driveField_edgeKept (d : Dev) (c : Cfg) (slow : Bool) : EdgeKept d (d.driveField c slow) :=
  (driveOutputs_edgeKept d c slow).trans (driveAouts_edgeKept _ c)

theorem showSfm_edgeKept (d : Dev) (c : Cfg) : EdgeKept d (d.showSfm c) := by
  unfold Dev.showSfm
  exact .putF (.putB (.putB (.putF (.putB (.refl d)))))

theorem sfmDrive_edgeKept (d : Dev) (c : Cfg) : EdgeKept d (d.sfmDrive c) := by
  unfold Dev.sfmDrive
  dsimp only
  exact .trans (.trans (.other (.refl d)) (driveOutputs_edgeKept _ c false)) (showSfm_edgeKept _ c)

theorem ptpStates_edgeKept (d : Dev) (c : Cfg) : EdgeKept d (d.ptpStates c) := by
  unfold Dev.ptpStates
  exact .foldl (.refl d) fun e he n => .ite he (.event (.putF he (apart_of_above (by decide))))

theorem crownFollows_edgeKept (d : Dev) (c : Cfg) (slow : Bool) : EdgeKept d (d.crownFollows c slow) := by
  unfold Dev.crownFollows
  refine .trans (.trans (.foldl (.putB_mode (.putB (.refl d))) fun e he n => .putB he ?_) (ptpStates_edgeKept _ c))
    (driveField_edgeKept _ c slow)
  exact apart_of_above (by decide)

theorem dropCrown_edgeKept (d : Dev) (c : Cfg) (slow : Bool) : EdgeKept d (d.dropCrown c slow) := by
  unfold Dev.dropCrown
  exact .ite (.refl d) (.trans (.putB (.other (.refl d))) (crownFollows_edgeKept _ c slow))

/-! ### Jobs and loops at a mode edge -/

theorem showSolver_edgeKept (d : Dev) : EdgeKept d d.showSolver := by
  unfold Dev.showSolver
  refine .foldl (.foldl (.foldl (.putN (.refl d)) fun e he n => .putF he ?_) fun e he n => .putN he ?_)
    fun e he n => .putN he ?_
  all_goals exact apart_of_above (by decide)

theorem reserveOne_edgeKept (d : Dev) (j : Job) : EdgeKept d (d.reserveOne j) := by
  unfold Dev.reserveOne
  exact .ite (.refl d) (.other (.refl d))

theorem reserve_edgeKept (d : Dev) : EdgeKept d d.reserve := by
  unfold Dev.reserve
  exact .trans (.foldl (.refl d) fun e he j => he.trans (reserveOne_edgeKept e j)) (showSolver_edgeKept _)

theorem cancelJob_edgeKept (d : Dev) (j : Job) : EdgeKept d (d.cancelJob j) := by
  unfold Dev.cancelJob
  refine .event (.bump (.other (.refl d)) ?_)
  exact apart_of_above (by decide)

theorem cancelStream_edgeKept (d : Dev) (n : Nat) : EdgeKept d (d.cancelStream n) := by
  unfold Dev.cancelStream
  exact .trans (.foldl (.refl d) fun e he j => he.trans (cancelJob_edgeKept e j)) (reserve_edgeKept _)

/-- An edge into a mode without the law ends its jobs. -/
theorem lawModeEdge_edgeKept (d : Dev) (c : Cfg) (old cause : Nat) {new : Nat} (h : new < 6) :
    EdgeKept d (d.lawModeEdge c old new cause) := by
  rw [Dev.lawModeEdge, if_pos (by simp [h])]
  extract_lets e
  have hjobs : EdgeKept d e := .trans (.trans (cancelStream_edgeKept d 0) (cancelStream_edgeKept _ 1)) (cancelStream_edgeKept _ 2)
  clear_value e
  exact hjobs.other

/-- The output of a slot, in a mode that sends no set-points, changes only what waits for the field link and the slot's own record. -/
theorem slotEmit_edgeKept {d : Dev} (c : Cfg) (k : Nat) (u : Option Int) (h : sendsSetpoints d = false) :
    EdgeKept d (d.slotEmit c k u) := by
  unfold Dev.slotEmit
  dsimp only
  rw [h, if_neg Bool.false_ne_true]
  exact .ite (.ite (.other (.refl d)) (.refl d)) (.ite (.refl d) (.ite (.ite (.other (.refl d)) (.other (.refl d))) (.refl d)))

theorem haltSlot_edgeKept {d : Dev} (c : Cfg) (k state : Nat) (h : sendsSetpoints d = false) : EdgeKept d (d.haltSlot c k state) := by
  unfold Dev.haltSlot
  extract_lets x e
  have hshown : EdgeKept d (((e.putN (LPE.SL_STAT k) state).putN (LPE.SL_I k) 0).putN (LPE.U k) 0) := by
    refine .putN (.putN (.putN (.other (.refl d)) ?_) ?_) ?_
    all_goals exact apart_of_above (by decide)
  exact hshown.trans (slotEmit_edgeKept c k none (hshown.sendsSetpoints.trans h))

theorem runSlot_edgeKept (d : Dev) (k : Nat) : EdgeKept d (d.runSlot k) := by
  unfold Dev.runSlot
  dsimp only
  refine .putN (.putN (.putN (.other (.refl d)) ?_) ?_) ?_
  all_goals exact apart_of_above (by decide)

theorem showLoops_edgeKept (d : Dev) : EdgeKept d d.showLoops := by
  unfold Dev.showLoops
  exact .putN (.putN (.putN (.putN (.refl d))))

/-- The slots of the loop engine after an edge into a mode that sends no set-points. -/
theorem loopSync_edgeKept {d : Dev} (c : Cfg) (h : sendsSetpoints d = false) : EdgeKept d (d.loopSync c) := by
  have hhalt : ∀ e, EdgeKept d e → ∀ k state, EdgeKept d (e.haltSlot c k state) := fun e he k state =>
    he.trans (haltSlot_edgeKept c k state (he.sendsSetpoints.trans h))
  unfold Dev.loopSync
  refine .trans (.foldl (.refl d) fun e he k => ?_) (showLoops_edgeKept _)
  exact .ite (.ite he (hhalt e he k 0)) (.ite (.ite (he.trans (runSlot_edgeKept e k)) he) (.ite he (hhalt e he k 1)))

/-! ### The edge into Configure (R37, R41, Table 2.8) -/

/-- The units once a transition shows in the mode registers: the modes, the cause, the beat of entry. -/
def Dev.showEdge (d : Dev) (new cause : Nat) : Dev :=
  let e := ((d.putF SYS.MODE 0 4 new).putF SYS.MODE 4 4 d.mode).putF SYS.MODE 16 8 cause
  e.putN SYS.MODE_ENTRY e.esc.beat

/-- The ramp beat begins, or does not. -/
def Dev.setRamp (d : Dev) (ramp : Bool) : Dev := { d with modes := { d.modes with rampBeat := ramp } }

@[simp] theorem mode_setRamp (d : Dev) (ramp : Bool) : (d.setRamp ramp).mode = d.mode := rfl
@[simp] theorem w_setRamp (d : Dev) (ramp : Bool) (k : Nat) : (d.setRamp ramp).w k = d.w k := rfl
@[simp] theorem setRamp_tick (d : Dev) (ramp : Bool) : (d.setRamp ramp).tick = d.tick := rfl
@[simp] theorem setRamp_esc (d : Dev) (ramp : Bool) : (d.setRamp ramp).esc = d.esc := rfl
@[simp] theorem setRamp_rampBeat (d : Dev) (ramp : Bool) : (d.setRamp ramp).modes.rampBeat = ramp := rfl

theorem mode_showEdge (d : Dev) {new : Nat} (cause : Nat) (h : new < 16) : (d.showEdge new cause).mode = new := by
  rw [Dev.showEdge, Dev.mode_putN _ _ (by decide), Dev.mode, Dev.f_putF_apart _ _ _ (by omega) (by omega),
    Dev.f_putF_apart _ _ _ (by omega) (by omega), Dev.f_putF_self _ _ _ (by omega)]
  exact Nat.mod_eq_of_lt h

theorem w_showEdge (d : Dev) (new cause : Nat) : (d.showEdge new cause).w ESC.BEAT_SLIP = d.w ESC.BEAT_SLIP := by
  rw [Dev.showEdge, Dev.w_putN_ne _ _ (by decide), Dev.w_putF_ne _ _ _ _ (by decide), Dev.w_putF_ne _ _ _ _ (by decide),
    Dev.w_putF_ne _ _ _ _ (by decide)]

theorem showEdge_tick (d : Dev) (new cause : Nat) : (d.showEdge new cause).tick = d.tick := by
  rw [Dev.showEdge, Dev.putN_tick, Dev.putF_tick, Dev.putF_tick, Dev.putF_tick]

theorem showEdge_esc (d : Dev) (new cause : Nat) : (d.showEdge new cause).esc = d.esc := by
  rw [Dev.showEdge, Dev.putN_esc, Dev.putF_esc, Dev.putF_esc, Dev.putF_esc]

theorem edgeConfigure_edgeKept (d : Dev) : EdgeKept d d.edgeConfigure := by
  unfold Dev.edgeConfigure
  refine .ite (.refl d) (.foldl (.other (.refl d)) fun e he w => .putN he ?_)
  exact apart_of_above (by decide)

theorem edgeCrown_edgeKept (d : Dev) (c : Cfg) {new : Nat} (cause : Nat) (h : new < 6) : EdgeKept d (d.edgeCrown c new cause) := by
  rw [Dev.edgeCrown, if_neg (by omega)]
  refine .ite (.refl d) ?_
  rw [if_neg (by omega)]
  exact dropCrown_edgeKept d c false

theorem edgeBits_edgeKept (d : Dev) (old cause : Nat) {new : Nat} (h : new ≠ 7) : EdgeKept d (d.edgeBits old new cause) := by
  have hbits : d.edgeBits old new cause = (d.putB SYS.MODE 14 false).putB SYS.MODE 15 (decide (new = 6) && (old = 3 || old = 11)) := by
    simp [Dev.edgeBits, h]
  rw [hbits]
  exact .putB_mode (.putB_mode (.refl d))

theorem edgeLockout_off {d : Dev} (c : Cfg) (h : d.mode ≠ 11) : d.edgeLockout c = d := if_pos (by simp [h])

theorem restPaired_off {d : Dev} (c : Cfg) (h4 : d.mode ≠ 4) (h5 : d.mode ≠ 5) : d.restPaired c = d := if_pos (by simp [h4, h5])

theorem journal_edgeKept (d : Dev) (c : Cfg) (r : JournalRecord) : EdgeKept d (d.journal c r) := by
  rw [journal_prc]
  exact .other (.refl d)

/-- Of the units whose mode is Configure, the rest of the edge leaves mode, time, beat number and BEAT_SLIP alone. -/
theorem settleConfigure_edgeKept {d : Dev} (c : Cfg) (hmode : d.mode = 3) (hramp : d.modes.rampBeat = false) :
    EdgeKept d ((((d.edgeLockout c).edgeConfigure).restPaired c).loopSync c) := by
  have hconf := edgeConfigure_edgeKept d
  have hstay : d.edgeConfigure.mode = 3 := hconf.mode.trans hmode
  have hoff : sendsSetpoints d.edgeConfigure = false := by
    rw [sendsSetpoints, hstay, hconf.modes, hramp]
    rfl
  rw [edgeLockout_off c (by omega), restPaired_off c (by omega) (by omega)]
  exact hconf.trans (loopSync_edgeKept c hoff)

/-- The edge that ends Self-test: beside the mode registers, mode, time, beat number and BEAT_SLIP stay. -/
theorem enterMode_configure_edgeKept (d : Dev) (c : Cfg) : EdgeKept ((d.showEdge 3 2).setRamp false) (d.enterMode c 3 2 0) := by
  have hmode : ((d.showEdge 3 2).setRamp false).mode = 3 := (mode_setRamp _ _).trans (mode_showEdge d 2 (by decide))
  unfold Dev.enterMode
  extract_lets old ramp shown entered edge checked known event lost crowned bits law cleared settled driven safe
  have hramp : ramp = false := by simp [ramp]
  have hentered : entered = d.showEdge 3 2 := rfl
  clear_value entered
  have hchecked : checked = entered.setRamp ramp := rfl
  rw [hramp, hentered] at hchecked
  have hknown : EdgeKept checked known := .ite (.event (.putB (.refl _))) (.refl _)
  have hcrowned : EdgeKept checked crowned := .trans (.ite (.event (.event hknown)) (.event hknown)) (edgeCrown_edgeKept _ c _ (by decide))
  have hbits : EdgeKept checked bits := .ite hcrowned (hcrowned.trans (edgeBits_edgeKept _ _ _ (by decide)))
  have hlaw : EdgeKept checked law := .ite hbits (.ite hbits (hbits.trans (lawModeEdge_edgeKept _ c _ _ (by decide))))
  have hcleared : EdgeKept checked cleared := .ite hlaw (.putF_mode hlaw)
  rw [hchecked] at hcleared
  have hsettled := hcleared.trans (settleConfigure_edgeKept c (hcleared.mode.trans hmode) (by rw [hcleared.modes, setRamp_rampBeat]))
  have hdriven : EdgeKept ((d.showEdge 3 2).setRamp false) driven := .ite hsettled (.putB hsettled)
  exact ((hdriven.trans (sfmDrive_edgeKept driven c)).trans (driveField_edgeKept _ c false)).trans (journal_edgeKept _ c _)

/-! ### The boundary that ends Self-test (R41, R60, R498) -/

theorem countMs_edgeKept (d : Dev) : EdgeKept d d.countMs := by
  unfold Dev.countMs
  extract_lets op shown fed
  have hshown : EdgeKept d shown := .putN (.putN (.refl d))
  have hfed : EdgeKept d fed := .ite (.putF hshown) hshown
  exact .ite (.putF hfed) hfed

theorem modeResult_edgeKept (d : Dev) (code target prec : Nat) : EdgeKept d (d.modeResult code target prec) := by
  unfold Dev.modeResult
  exact .ite (.event (.putN (.refl d))) (.putN (.refl d))

theorem displaceRequest_kept (d : Dev) : d.displaceRequest.tick = d.tick ∧ d.displaceRequest.esc = d.esc := by
  unfold Dev.displaceRequest
  split
  · exact ⟨rfl, rfl⟩
  · have hkept := modeResult_edgeKept { d with modes := { d.modes with request := none } }
    exact ⟨(hkept _ _ _).tick, (hkept _ _ _).esc⟩

/-! ### The beat number (R60, R104) -/

theorem putI_slip (d : Dev) (i : Int) : (d.putI ESC.BEAT_SLIP i).w ESC.BEAT_SLIP = BitVec.ofInt 32 i := by
  refine (Dev.w_put_self _ _ _).trans (BitVec.eq_of_toNat_eq ?_)
  rw [wd, unsigned, BitVec.toNat_ofNat, BitVec.toNat_ofInt]
  omega

theorem numberBeat_loads {d : Dev} (h : d.esc.loaded = false) :
    d.numberBeat.esc = { d.esc with beat := d.esc.boundary / 200000 % 2 ^ 48, loaded := true, slipLive := false }
      ∧ d.numberBeat.w ESC.BEAT_SLIP = 0 := by
  unfold Dev.numberBeat
  simp only [h, ticksPerMs]
  exact ⟨rfl, putI_slip _ _⟩

theorem numberBeat_counts {d : Dev} (h : d.esc.loaded = true) :
    d.numberBeat.esc = { d.esc with beat := (d.esc.beat + 1) % 2 ^ 48 }
      ∧ d.numberBeat.w ESC.BEAT_SLIP
        = BitVec.ofInt 32 (if d.esc.slipLive then ((d.esc.boundary / 200000 : Nat) : Int) - d.numberBeat.esc.beat else 0) := by
  unfold Dev.numberBeat
  simp only [h]
  exact ⟨rfl, putI_slip _ _⟩

theorem numberBeat_tick (d : Dev) : d.numberBeat.tick = d.tick := by
  cases h : d.esc.loaded <;> simp only [Dev.numberBeat, h] <;> rfl

/-! ### The boundary (R41, R59, R60) -/

/-- A finished Self-test: nothing wanted and no request waits, phase 3 begins. -/
def Dev.endSelfTest (d : Dev) : Dev := { d with
  stu := { d.stu with ended := false }, pwr := { d.pwr with phase := 3, phase2Tick := d.tick }
  modes := { d.modes with wanted := [], request := none } }

/-- The units as Configure is entered: the beat number is loaded, the recorder is ready, the reset is recorded. -/
def Dev.leaveSelfTest (d : Dev) : Dev :=
  let e := d.endSelfTest.numberBeat.putB EVR.STAT 3 true
  if e.stu.requested then e else e.event 0x0104 [(fld (e.w SYS.RST_CAUSE) 0 4 : Int), fld (e.w SYS.RST_CAUSE) 4 12]

theorem exitSelfTest_eq (d : Dev) (c : Cfg) : d.exitSelfTest c = d.leaveSelfTest.enterMode c 3 2 0 := rfl

theorem leaveSelfTest_edgeKept (d : Dev) : EdgeKept d.endSelfTest.numberBeat d.leaveSelfTest := by
  have hready : EdgeKept d.endSelfTest.numberBeat (d.endSelfTest.numberBeat.putB EVR.STAT 3 true) := .putB (.refl _)
  exact .ite hready hready.event

/-- Configure is entered at the boundary that ends Self-test, and the beat number is that of its tick. -/
theorem exitSelfTest_beat {d : Dev} (c : Cfg) (h : d.esc.loaded = false) :
    (d.exitSelfTest c).mode = 3 ∧ (d.exitSelfTest c).tick = d.tick ∧ (d.exitSelfTest c).w ESC.BEAT_SLIP = 0
      ∧ (d.exitSelfTest c).esc = { d.esc with beat := d.esc.boundary / 200000 % 2 ^ 48, loaded := true, slipLive := false } := by
  have hedge := enterMode_configure_edgeKept d.leaveSelfTest c
  have hleft := leaveSelfTest_edgeKept d
  obtain ⟨hesc, hslip⟩ := numberBeat_loads (d := d.endSelfTest) h
  rw [exitSelfTest_eq, hedge.mode, hedge.tick, hedge.slip, hedge.esc, mode_setRamp, setRamp_tick, w_setRamp, setRamp_esc,
    mode_showEdge _ _ (by decide), showEdge_tick, w_showEdge, showEdge_esc, hleft.tick, hleft.slip, hleft.esc, numberBeat_tick]
  exact ⟨rfl, rfl, hslip, hesc⟩

/-- A module that sleeps, or whose rails have not risen, has no boundaries. -/
theorem beat_none {s : State} (h : s.dev.pwr.asleep ≠ 0 ∨ s.dev.pwr.phase = 0) : s.beat = s := if_pos (by simpa using h)

section
variable {s : State} (hawake : s.dev.pwr.asleep = 0) (hphase : s.dev.pwr.phase ≠ 0)
include hawake hphase

theorem beat_selfTestEnds (hmode : s.dev.mode = 2) (hended : s.dev.stu.ended = true) :
    s.beat = { s with dev := s.dev.toBoundary.countMs.displaceRequest.exitSelfTest s.cfg } := by
  have hstu : s.dev.toBoundary.countMs.stu.ended = true := by
    rw [(countMs_edgeKept _).stu]
    exact hended
  rw [State.beat, if_neg (by simp [hawake, hphase]), if_pos hmode]
  exact if_pos hstu

theorem beat_counts (hmode : s.dev.mode ≠ 2) (hstep : s.dev.b TBU.STATE 9 = false) :
    s.beat = ({ s with dev := s.dev.toBoundary.numberBeat } : State).boundaryWork := by
  rw [State.beat, if_neg (by simp [hawake, hphase]), if_neg hmode, if_neg (by simp [stepPending, hstep]),
    if_neg (by simp [stepPending, hstep])]

end

/-- Settles O15: the boundary that ends Self-test loads the beat number, every other one counts it. -/
theorem beatNumber : Obligations.BeatNumber := by
  refine ⟨fun s hawake hphase hmode hended hloaded => ?_, fun d hloaded => ?_, fun s h => congrArg Host.Outcome.next (beat_none h),
    fun s hawake hphase hmode hstep => congrArg Host.Outcome.next (beat_counts hawake hphase hmode hstep)⟩
  · have hms := countMs_edgeKept s.dev.toBoundary
    obtain ⟨htick, hesc⟩ := displaceRequest_kept s.dev.toBoundary.countMs
    have hescs := hesc.trans hms.esc
    obtain ⟨hconf, hnow, hslip, hbeat⟩ :=
      exitSelfTest_beat (d := s.dev.toBoundary.countMs.displaceRequest) s.cfg (by rw [hescs]; exact hloaded)
    rw [hescs] at hbeat
    refine ⟨_, congrArg Host.Outcome.next (beat_selfTestEnds hawake hphase hmode hended), rfl, hconf, ?_, ?_, ?_, ?_, hslip⟩
    · rw [hbeat]
    · rw [hbeat]
      rfl
    · rw [hbeat]
      exact (hnow.trans htick).trans hms.tick
    · rw [hbeat]
  · obtain ⟨hesc, hslip⟩ := numberBeat_counts hloaded
    refine ⟨by rw [hesc], fun hlive => ?_, fun hlive => ?_⟩
    · rw [hslip, hlive]
      rfl
    · rw [hslip, hlive]
      rfl

end Sys2Proof.Machine
end

section
/-! SUPPORT. The escapement's commands: pallets that start, SYNC pulses, angle axes, reads that latch. -/
namespace Sys2Proof.Machine

/-! ### A pallet starts (R71, R73) -/

section
variable {d : Dev} {p : DuePallet} {rest : List DuePallet}

/-- The units as a pallet that starts at `start` leaves them: it is out of the queue and the last one issued. -/
def Dev.issue (d : Dev) (rest : List DuePallet) (start : Nat) : Dev :=
  ({ d with esc := { d.esc with due := rest, issued := some start } } : Dev).advanceTo start

/-- A pallet counted and recorded as late (R73). -/
def Dev.palletLate (d : Dev) (p : DuePallet) (lag : Nat) : Dev :=
  (d.bump ESC.PAL_LATE_CNT).event 0x0304 [(p.wheel : Int), p.pallet, lag]

/-- The front pallet starts when its action is asked for; more than a microsecond after its instant it is late. -/
theorem takePallet_front (h : d.esc.due = p :: rest) (late : Nat) :
    d.takePallet p.action late = some (p,
      if 200 < palletStart d p late - p.tick then (d.issue rest (palletStart d p late)).palletLate p (palletStart d p late - p.tick)
      else d.issue rest (palletStart d p late)) := by
  simp only [Dev.takePallet, h, bne_self_eq_false, Bool.false_eq_true, if_false]
  rfl

theorem takePallet_inTime (h : d.esc.due = p :: rest) {late : Nat} (hs : palletStart d p late ≤ p.tick + 200) :
    d.takePallet p.action late = some (p, d.issue rest (palletStart d p late)) := by
  rw [takePallet_front h, if_neg (by omega)]

theorem takePallet_late (h : d.esc.due = p :: rest) {late : Nat} (hs : p.tick + 200 < palletStart d p late) :
    d.takePallet p.action late
      = some (p, (d.issue rest (palletStart d p late)).palletLate p (palletStart d p late - p.tick)) := by
  rw [takePallet_front h, if_pos (by omega)]

theorem takePallet_otherAction (h : d.esc.due = p :: rest) {action : Nat} (late : Nat) (ha : p.action ≠ action) :
    d.takePallet action late = none := by
  simp only [Dev.takePallet, h]
  exact if_pos (bne_iff_ne.mpr ha)

theorem takePallet_empty (h : d.esc.due = []) (action late : Nat) : d.takePallet action late = none := by
  simp only [Dev.takePallet, h]

theorem palletStart_first (h : d.esc.issued = none) (p : DuePallet) (late : Nat) : palletStart d p late = p.tick + late := by
  simp only [palletStart, h]

end

/-! ### Commands of pallets -/

section
variable {s : State} {action late : Nat} (f : Cfg → DuePallet → Dev → Dev)

theorem onPallet_taken {p : DuePallet} {d : Dev} (h : s.dev.takePallet action late = some (p, d)) :
    onPallet s action late f = .next { s with dev := f s.cfg p d } := next_dev (by simp only [h])

theorem onPallet_none (h : s.dev.takePallet action late = none) : onPallet s action late f = .next s := next_same (by simp only [h])

end

theorem palletNone_taken {s : State} {p : DuePallet} {d : Dev} {late : Nat} (h : s.dev.takePallet 0 late = some (p, d)) :
    exec (.palletNone late) s = .next { s with dev := d } := onPallet_taken (fun _ _ d => d) h

theorem palletNone_idle {s : State} (late : Nat) (h : s.dev.esc.due = []) : exec (.palletNone late) s = .next s :=
  onPallet_none (fun _ _ d => d) (takePallet_empty h 0 late)

/-- Settles O21: the front of the queue and the lag of its start decide. -/
theorem latePallets : Obligations.LatePallets := by
  refine ⟨fun d p rest late start hdue hstart => ?_, fun d p rest action late hdue => takePallet_otherAction hdue late,
    fun d action late hdue => takePallet_empty hdue action late, fun s p rest late hdue hissued haction hlate => ?_,
    fun s late => palletNone_idle late⟩
  · have hdef : start = palletStart d p late := hstart
    subst hdef
    exact ⟨takePallet_inTime hdue, takePallet_late hdue⟩
  · have hstart := palletStart_first hissued p late
    have htaken := takePallet_inTime hdue (late := late) (by omega)
    rw [haction, hstart] at htaken
    exact palletNone_taken htaken

/-! ### SYNC pulses (R75 to R77) -/

/-- What the escapement holds of SYNC output `o`, and the same after a change of it. -/
def syncDev (d : Dev) (o : Nat) : SyncDev := Assoc.get {} d.esc.syncs o
def Dev.setSync (d : Dev) (o : Nat) (x : SyncDev) : Dev := { d with esc := { d.esc with syncs := Assoc.set {} d.esc.syncs o x } }

/-- The cycle of the timebase clock on which the pallet's tick falls, and the one at which its pulse ends. -/
def syncEdge (d : Dev) (p : DuePallet) : Nat := ((d.tbu.cycles : Int) + cyclesTo d p.tick).toNat
def syncTill (d : Dev) (p : DuePallet) : Nat := syncEdge d p + fld p.arg 4 10 * ticksPerUs

section
variable {c : Cfg} {d : Dev} {p : DuePallet}

theorem pulseSync_held (h : syncHeld c (d.triggered p.wheel p.tick) (fld p.arg 0 4) = true) :
    d.pulseSync c p = d.triggered p.wheel p.tick := if_pos h

variable (h : syncHeld c (d.triggered p.wheel p.tick) (fld p.arg 0 4) = false)
include h

theorem pulseSync_starts (hrest : (syncDev d (fld p.arg 0 4)).active = false) :
    d.pulseSync c p = (d.triggered p.wheel p.tick).setSync (fld p.arg 0 4) { active := true, until_ := syncTill d p } :=
  (if_neg (by simp [h])).trans (if_neg (Bool.eq_false_iff.mp (Bool.and_eq_false_iff.mpr (.inl hrest))))

theorem pulseSync_overlaps (hactive : (syncDev d (fld p.arg 0 4)).active = true)
    (hearly : syncEdge d p < (syncDev d (fld p.arg 0 4)).until_) :
    let x := syncDev d (fld p.arg 0 4)
    d.pulseSync c p = (((d.triggered p.wheel p.tick).setSync (fld p.arg 0 4) { x with until_ := max x.until_ (syncTill d p) }).bump
      ESC.SYNC_OVL_CNT).event 0x0305 [(fld p.arg 0 4 : Int)] :=
  (if_neg (by simp [h])).trans (if_pos (Bool.and_eq_true_iff.mpr ⟨hactive, decide_eq_true hearly⟩))

end

theorem palletSync_taken {s : State} {p : DuePallet} {d e : Dev} {late : Nat} (h : s.dev.takePallet 1 late = some (p, d))
    (he : d.pulseSync s.cfg p = e) : exec (.palletSync late) s = .next { s with dev := e } :=
  (onPallet_taken (fun c p d => d.pulseSync c p) h).trans (next_dev he)

section
variable {s : State} {out : Fin 16}

theorem syncPulseEnd_rests (h : (syncDev s.dev out.val).active = true) :
    exec (.syncPulseEnd out) s = .next { s with dev := (s.dev.advanceCycles (syncDev s.dev out.val).until_).setSync out.val {} } :=
  next_dev (if_neg fun hrest => Bool.eq_false_iff.mp ((Bool.not_eq_true' _).mp hrest) h)

theorem syncPulseEnd_idle (h : (syncDev s.dev out.val).active = false) : exec (.syncPulseEnd out) s = .next s :=
  next_same (if_pos ((Bool.not_eq_true' _).mpr h))

end

/-- Settles O22: the output held, at rest, active; then its end. -/
theorem syncPulses : Obligations.SyncPulses := by
  refine ⟨fun s p e late htaken => ⟨fun hheld => ?_, fun hfree hrest => ?_, fun hfree hactive hearly => ?_⟩,
    fun s out x hx hactive => ?_, fun s out => syncPulseEnd_idle⟩
  · exact palletSync_taken htaken (pulseSync_held hheld)
  · exact palletSync_taken htaken (pulseSync_starts hfree hrest)
  · exact palletSync_taken htaken (pulseSync_overlaps hfree hactive hearly)
  · subst hx
    exact syncPulseEnd_rests hactive

/-! ### The actions of pallets (R68, R70, R384, R413, R513) -/

section
variable {s : State} {p : DuePallet} {d : Dev} {late : Nat}

theorem palletSample_taken (h : s.dev.takePallet 3 late = some (p, d)) :
    exec (.palletSample late) s = .next { s with dev := d.sampleGroup s.cfg (fld p.arg 0 8) } :=
  onPallet_taken (fun c p d => d.sampleGroup c (fld p.arg 0 8)) h

theorem palletHack_taken (h : s.dev.takePallet 7 late = some (p, d)) :
    exec (.palletHack late) s = .next { s with dev := d.hackTrigger s.cfg 5 } := onPallet_taken (fun c _ d => d.hackTrigger c 5) h

theorem palletLatch_taken (h : s.dev.takePallet 4 late = some (p, d)) :
    exec (.palletLatch late) s = .next { s with
      dev := (List.range 4).foldl (fun (d : Dev) ch => if bit p.arg ch then d.latchEncoder s.cfg ch else d) d } :=
  onPallet_taken (fun c p d => (List.range 4).foldl (fun (d : Dev) ch => if bit p.arg ch then d.latchEncoder c ch else d) d) h

/-- What a JOB pallet does with memories and units: nobody's group is recorded, the law's jobs run, then the loop groups it paces. -/
def jobRun (c : Cfg) (st : Store) (d : Dev) (p : DuePallet) (fb : Option (List (Fin 64 × Int))) : Store × Dev :=
  let g := fld p.arg 0 8
  if !lawOwns c g && !loopsOwn c g then (st, d.eventSec 0x0307 0 [(p.wheel : Int), p.pallet])
  else
    let r := if lawOwns c g then lawGroup c st d g else (st, d)
    (r.1, if loopsOwn c g then r.2.pacedSamples c r.1 g fb else r.2)

theorem palletJob_taken (h : s.dev.takePallet 2 late = some (p, d)) (fb : Option (List (Fin 64 × Int))) :
    exec (.palletJob late fb) s
      = .next { s with store := (jobRun s.cfg s.store d p fb).1, dev := (jobRun s.cfg s.store d p fb).2 } := by
  show execPalletJob late fb s = _
  simp only [execPalletJob, onMem, h]
  rfl

variable (c : Cfg) (st : Store) (fb : Option (List (Fin 64 × Int)))

theorem jobRun_unowned (hlaw : lawOwns c (fld p.arg 0 8) = false) (hloops : loopsOwn c (fld p.arg 0 8) = false) :
    jobRun c st d p fb = (st, d.eventSec 0x0307 0 [(p.wheel : Int), p.pallet]) := if_pos (by simp [hlaw, hloops])

theorem jobRun_law (hlaw : lawOwns c (fld p.arg 0 8) = true) (hloops : loopsOwn c (fld p.arg 0 8) = false) :
    jobRun c st d p fb = lawGroup c st d (fld p.arg 0 8) := by simp [jobRun, hlaw, hloops]

theorem jobRun_loops (hlaw : lawOwns c (fld p.arg 0 8) = false) (hloops : loopsOwn c (fld p.arg 0 8) = true) :
    jobRun c st d p fb = (st, d.pacedSamples c st (fld p.arg 0 8) fb) := by simp [jobRun, hlaw, hloops]

/-- What a RELEASE pallet does: the slot goes to the CAN or Ethernet port it names. -/
def releaseRun (c : Cfg) (st : Store) (d : Dev) (p : DuePallet) : Store × Dev :=
  let port := fld p.arg 0 4
  if port < 6 then releaseCan c st d port (fld p.arg 8 8)
  else if 8 ≤ port ∧ port ≤ 11 then releaseEth c st d (port - 8) (fld p.arg 8 8)
  else (st, d)

theorem palletRelease_taken (h : s.dev.takePallet 5 late = some (p, d)) :
    exec (.palletRelease late) s
      = .next { s with store := (releaseRun s.cfg s.store d p).1, dev := (releaseRun s.cfg s.store d p).2 } := by
  show execPalletRelease late s = _
  simp only [execPalletRelease, onMem, h]
  rfl

theorem releaseRun_can (h : fld p.arg 0 4 < 6) : releaseRun c st d p = releaseCan c st d (fld p.arg 0 4) (fld p.arg 8 8) := if_pos h

theorem releaseRun_eth (hlo : 8 ≤ fld p.arg 0 4) (hhi : fld p.arg 0 4 ≤ 11) :
    releaseRun c st d p = releaseEth c st d (fld p.arg 0 4 - 8) (fld p.arg 8 8) :=
  (if_neg (by omega)).trans (if_pos ⟨hlo, hhi⟩)

/-- What a COMMIT pallet does once it has left the queue: the group, and a new plan of the beat where ESC changed at its boundary. -/
def State.commitPallet (u : State) (p : DuePallet) : State :=
  if u.groupPages.isEmpty then u
  else
    let r := u.commitGroup u.dev.mode (globalWord 0 0)
    if r.2 && u.groupPages.contains pageESC && (p.axis = 0 && fld (u.cfg.e (ESC.PAL_A p.pallet)) 8 18 = 0) then r.1.replan p else r.1

theorem palletCommit_taken (h : s.dev.takePallet 6 late = some (p, d)) :
    exec (.palletCommit late) s = .next (({ s with dev := d } : State).commitPallet p) := by
  show execPalletCommit late s = _
  simp only [execPalletCommit, h]
  rfl

theorem commitPallet_unmarked {u : State} (h : u.groupPages = []) (p : DuePallet) : u.commitPallet p = u :=
  if_pos (by rw [h]; rfl)

/-- Off the time axis every marked page is applied, and the pallets of the beat stay those planned. -/
theorem commitPallet_otherAxis {u : State} (h : u.groupPages ≠ []) (haxis : p.axis ≠ 0) :
    u.commitPallet p = (u.commitGroup u.dev.mode (globalWord 0 0)).1 :=
  (if_neg (by simpa using h)).trans (if_neg (by simp [haxis]))

end

/-- Settles O24: action by action, once the pallet has left the queue. -/
theorem palletActions : Obligations.PalletActions := by
  intro s p d late
  refine ⟨palletSample_taken, palletLatch_taken, palletHack_taken, fun fb htaken hlaw hloops => ?_, fun fb htaken hlaw hloops => ?_,
    fun fb htaken hlaw hloops => ?_, fun htaken hport => ?_, fun htaken hlo hhi => ?_,
    fun htaken => ⟨fun hnone => ?_, fun hsome haxis => ?_⟩⟩
  · rw [palletJob_taken htaken, jobRun_unowned s.cfg s.store fb hlaw hloops]
  · rw [palletJob_taken htaken, jobRun_law s.cfg s.store fb hlaw hloops]
  · rw [palletJob_taken htaken, jobRun_loops s.cfg s.store fb hlaw hloops]
  · rw [palletRelease_taken htaken, releaseRun_can s.cfg s.store hport]
  · rw [palletRelease_taken htaken, releaseRun_eth s.cfg s.store hlo hhi]
  · rw [palletCommit_taken htaken, commitPallet_unmarked hnone]
  · rw [palletCommit_taken htaken, commitPallet_otherAxis hsome haxis]

/-! ### Angle axes (R62 to R66) -/

/-- How far the encoder position of axis `a` lies past its next boundary. -/
def axisDiff (c : Cfg) (d : Dev) (a : Nat) : Int :=
  signed 32 (axisPosition c a (d.w (ENC.ENC_POS a)) - (axisDev d a).nextB).toNat

section
variable {s : State} {axis : Fin 4}

theorem anglePositionUpdate_idle
    (h : (axisDev s.dev axis.val).on = false ∨ axisDiff s.cfg s.dev axis.val < 0 ∨ s.dev.mode < 3) :
    exec (.anglePositionUpdate axis ()) s = .next s := next_same (if_pos (by simpa [axisDiff, or_assoc] using h))

/-- The units after one completed beat `n` of axis `a`: it counts, waits in the axis' queue, and the next boundary moves on. -/
def Dev.axisBeat (d : Dev) (c : Cfg) (a : Nat) : Dev :=
  let n := (d.w (ESC.AX_BEAT a)).toNat + 1
  (d.wrap (ESC.AX_BEAT a) 0 32 1).putAxis a { axisDev d a with
    nextB := (axisDev d a).nextB + wd (axisInc c a), pend := [wd n], lastBeat := d.tick, stalledAt := 0 }

theorem anglePositionUpdate_one (hon : (axisDev s.dev axis.val).on = true) (hpast : 0 ≤ axisDiff s.cfg s.dev axis.val)
    (hone : (axisDiff s.cfg s.dev axis.val).toNat < axisInc s.cfg axis.val) (hmode : 3 ≤ s.dev.mode)
    (hempty : (axisDev s.dev axis.val).pend = []) (hstall : s.dev.b ESC.AX_STAT axis.val = false) :
    exec (.anglePositionUpdate axis ()) s = .next { s with dev := s.dev.axisBeat s.cfg axis.val } := by
  have hkept : (s.dev.wrap (ESC.AX_BEAT axis.val) 0 32 1).b ESC.AX_STAT axis.val = false := by
    rw [Dev.wrap, Dev.b_putF_ne _ _ _ _ _ (by unfold ESC.AX_STAT ESC.AX_BEAT; omega), hstall]
  have hmoves : ¬ (!(axisDev s.dev axis.val).on || decide (axisDiff s.cfg s.dev axis.val < 0) || decide (s.dev.mode < 3)) = true := by
    simp only [hon, Bool.not_true, Bool.false_or, Bool.or_eq_true, decide_eq_true_eq]
    omega
  refine next_dev ((if_neg hmoves).trans ?_)
  extract_lets n first room lost counted resumed queued
  have hn : n = 1 := congrArg (· + 1) (Nat.div_eq_of_lt hone)
  have hroom : room = 1 := by
    simp only [room, hn, hempty, List.length_nil]
    rfl
  have hresumed : resumed = s.dev.wrap (ESC.AX_BEAT axis.val) 0 32 1 := by
    simp only [resumed, counted, hn, hkept]
    rfl
  have hlost : lost = 0 := by omega
  rw [if_pos hlost]
  simp only [queued, hresumed, hn, hroom, hempty, Nat.one_mul, List.nil_append]
  rfl

theorem angleBeatServe_idle (h : (axisDev s.dev axis.val).pend = []) : exec (.angleBeatServe axis) s = .next s :=
  next_same (by simp only [h])

/-- The oldest waiting beat `n` of axis `a` is served now: its wheels fire (R66). -/
def Dev.serveBeat (d : Dev) (c : Cfg) (a : Nat) (x : AxisDev) (n : Word) (rest : List Word) : Dev :=
  (d.putAxis a { x with pend := rest, served := some d.tick }).turnWheels c (a + 1) n.toNat d.tick []

theorem angleBeatServe_first {n : Word} {rest : List Word} (h : (axisDev s.dev axis.val).pend = n :: rest)
    (hserved : (axisDev s.dev axis.val).served = none) :
    exec (.angleBeatServe axis) s = .next { s with dev := s.dev.serveBeat s.cfg axis.val (axisDev s.dev axis.val) n rest } :=
  next_dev (by simp only [h, hserved]; rfl)

theorem angleBeatServe_next {n : Word} {rest : List Word} {t : Nat} (h : (axisDev s.dev axis.val).pend = n :: rest)
    (hserved : (axisDev s.dev axis.val).served = some t) :
    exec (.angleBeatServe axis) s
      = .next { s with dev := (s.dev.advanceTo (t + 200)).serveBeat s.cfg axis.val (axisDev s.dev axis.val) n rest } :=
  next_dev (by simp only [h, hserved]; rfl)

/-- Axis `a` stalls: the instant is noted, both bits of AX_STAT are set, the last beat is recorded (R65). -/
def Dev.stallAxis (d : Dev) (a : Nat) : Dev :=
  let e := (d.putAxis a { axisDev d a with stalledAt := d.tick }).putB ESC.AX_STAT a true
  (e.putB ESC.AX_STAT (8 + a) true).event 0x0301 [(a + 1 : Int), (e.w (ESC.AX_BEAT a)).toNat]

theorem axisStall_stalls (hon : (axisDev s.dev axis.val).on = true) (hms : fld (s.cfg.e (ESC.AX_STALL axis.val)) 0 14 ≠ 0)
    (hstall : s.dev.b ESC.AX_STAT axis.val = false) :
    let till := (axisDev s.dev axis.val).lastBeat + fld (s.cfg.e (ESC.AX_STALL axis.val)) 0 14 * ticksPerMs
    exec (.axisStall axis) s = .next { s with dev := (s.dev.advanceTo till).stallAxis axis.val } :=
  next_dev (if_neg (by simp [hon, hms, hstall]))

end

/-! What shows of an axis afterwards -/

/-- The whole of a word as a field. -/
theorem setFld_word (w : Word) (v : Nat) : setFld w 0 32 v = wd v := by
  have hw := w.isLt
  apply BitVec.eq_of_toNat_eq
  rw [toNat_setFld w v (by omega), wd, BitVec.toNat_ofNat]
  omega

theorem wd_succ (w : Word) : wd (w.toNat + 1) = w + 1 := by
  apply BitVec.eq_of_toNat_eq
  rw [wd, BitVec.toNat_ofNat, BitVec.toNat_add]
  rfl

/-- A word counts up by one, modulo 2^32. -/
theorem w_wrap_word (d : Dev) (k : Nat) : (d.wrap k 0 32 1).w k = d.w k + 1 := by
  have hf : d.f k 0 32 = (d.w k).toNat := by
    rw [Dev.f, fld, pow_zero, Nat.div_one, Nat.mod_eq_of_lt (d.w k).isLt]
  rw [Dev.wrap, Dev.w_putF_self, setFld_word, hf, wd_succ]

theorem axBeat_ne_axStat (a : Nat) : ESC.AX_BEAT a ≠ ESC.AX_STAT := by
  unfold ESC.AX_BEAT ESC.AX_STAT
  omega

section
variable (d : Dev) (a : Nat)

@[simp] theorem w_putAxis (x : AxisDev) (k : Nat) : (d.putAxis a x).w k = d.w k := rfl
@[simp] theorem putAxis_occ (x : AxisDev) : (d.putAxis a x).occ = d.occ := rfl
@[simp] theorem putAxis_tick (x : AxisDev) : (d.putAxis a x).tick = d.tick := rfl
@[simp] theorem putAxis_eventBeat (x : AxisDev) : (d.putAxis a x).eventBeat = d.eventBeat := rfl
@[simp] theorem axisDev_putAxis_self (x : AxisDev) : axisDev (d.putAxis a x) a = x := Assoc.get_set_self _ _ _ _

theorem putB_eventBeat (k i : Nat) (b : Bool) : (d.putB k i b).eventBeat = d.eventBeat := rfl

/-- Beside one register, counting there and a new condition of an axis change the escapement alone. -/
theorem putAxis_wrap (x : AxisDev) (k lo n m : Nat) : (d.wrap k lo n m).putAxis a x
    = { d with esc := ((d.wrap k lo n m).putAxis a x).esc, regs := ((d.wrap k lo n m).putAxis a x).regs } := rfl

theorem axisBeat_effect (s : State) (c : Cfg) : Effect s { s with dev := s.dev.axisBeat c a } [ESC.AX_BEAT a]
    (fun d => { d with esc := (s.dev.axisBeat c a).esc }) := by
  refine ⟨rfl, putAxis_wrap _ _ _ _ _ _ _, fun k hk => ?_⟩
  have hne : k ≠ ESC.AX_BEAT a := by simpa using hk
  exact (w_putAxis _ _ _ _).trans (Dev.w_putF_ne _ _ _ _ hne)

theorem w_axisBeat (c : Cfg) : (d.axisBeat c a).w (ESC.AX_BEAT a) = d.w (ESC.AX_BEAT a) + 1 := by
  rw [Dev.axisBeat, w_putAxis, w_wrap_word]

theorem axisBeat_esc (c : Cfg) : (d.axisBeat c a).esc = { d.esc with axes := (d.axisBeat c a).esc.axes } := rfl

theorem axisBeat_axis (c : Cfg) : axisDev (d.axisBeat c a) a = { axisDev d a with
    nextB := (axisDev d a).nextB + wd (axisInc c a), pend := [d.w (ESC.AX_BEAT a) + 1], lastBeat := d.tick, stalledAt := 0 } := by
  rw [Dev.axisBeat, axisDev_putAxis_self, wd_succ]

theorem stallAxis_regsKept : RegsKept [ESC.AX_STAT] d (d.stallAxis a) := by
  have hkept : RegsKept [ESC.AX_STAT] d (((d.putAxis a { axisDev d a with stalledAt := d.tick }).putB ESC.AX_STAT a true).putB
      ESC.AX_STAT (8 + a) true) := regsKept_put (regsKept_put (fun _ _ => rfl) _ (by simp)) _ (by simp)
  exact hkept

theorem stallAxis_tick : (d.stallAxis a).tick = d.tick := by
  rw [Dev.stallAxis, Dev.event_tick, Dev.putB_tick, Dev.putB_tick, putAxis_tick]

theorem stallAxis_occ : (d.stallAxis a).occ
    = d.occ ++ [⟨0x0301, d.tick, d.eventBeat, [(a + 1 : Int), (d.w (ESC.AX_BEAT a)).toNat]⟩] := by
  rw [Dev.stallAxis, Dev.event_occ, Dev.putB_occ, Dev.putB_occ, putAxis_occ, Dev.putB_tick, Dev.putB_tick, putAxis_tick, putB_eventBeat,
    putB_eventBeat, putAxis_eventBeat, Dev.w_putB_ne _ _ _ (axBeat_ne_axStat a), w_putAxis]

variable {a}

theorem stallAxis_stat (ha : a < 4) : (d.stallAxis a).b ESC.AX_STAT a = true ∧ (d.stallAxis a).b ESC.AX_STAT (8 + a) = true := by
  rw [Dev.stallAxis, Dev.b, Dev.b, Dev.w_event, ← Dev.b, ← Dev.b]
  exact ⟨(Dev.b_putB_apart _ _ _ (by omega) (by omega)).trans (Dev.b_putB_self _ _ _ (by omega)), Dev.b_putB_self _ _ _ (by omega)⟩

end

/-! ### Reads that latch (R84, Table 3.3) -/

/-- Settles O23: the position update, the beat that is served, the axis that stalls, then the two reads. -/
theorem angleAxes : Obligations.AngleAxes := by
  refine ⟨fun s axis => anglePositionUpdate_idle, fun s axis hon hpast hone hmode hempty hstall => ?_, fun s axis => angleBeatServe_idle,
    fun s axis n rest hpend => ⟨angleBeatServe_first hpend, fun t => angleBeatServe_next hpend⟩, fun s axis hon hms hstall => ?_,
    fun s => rfl, fun s => rfl⟩
  · exact ⟨_, anglePositionUpdate_one hon hpast hone hmode hempty hstall, axisBeat_effect axis.val s s.cfg, axisBeat_esc _ _ _,
      w_axisBeat _ _ _, axisBeat_axis _ _ _⟩
  · obtain ⟨hbit, hlatched⟩ := stallAxis_stat (s.dev.advanceTo _) axis.isLt
    exact ⟨_, axisStall_stalls hon hms hstall, rfl, rfl, rfl, stallAxis_regsKept _ _, hbit, hlatched, stallAxis_tick _ _,
      (stallAxis_occ _ _).trans (by rw [stallAxis_tick]; rfl)⟩

end Sys2Proof.Machine
end

section
/-! SUPPORT. The commands of a boundary and of the mode registers. -/
namespace Sys2Proof.Machine

/-! ### The step instant and the mode registers (R40, R49, R78, R101) -/

section
variable {s : State}

theorem timeStepInstant_announced (h : s.dev.b TBU.STATE 9 = true) (hmode : s.dev.mode ≠ 2) :
    exec .timeStepInstant s = .next s.stepBoundary := congrArg Host.Outcome.next (if_pos (by simp [stepPending, h, hmode]))

theorem timeStepInstant_idle (h : s.dev.b TBU.STATE 9 = false) : exec .timeStepInstant s = .next s :=
  congrArg Host.Outcome.next (if_neg (by simp [stepPending, h]))

theorem neutralWaitClear_clears {t : Nat} (h : s.dev.modes.neutralSince = some t) (hwait : s.dev.b SYS.MODE 15 = true) :
    exec .neutralWaitClear s = .next { s with dev := (s.dev.advanceTo (t + ticksPerSec / 2)).putB SYS.MODE 15 false } :=
  next_dev (by simp only [h]; exact if_pos hwait)

theorem neutralWaitClear_idle (h : s.dev.modes.neutralSince = none) : exec .neutralWaitClear s = .next s :=
  next_same (by simp only [h])

/-- A request waits for the next boundary. -/
def Dev.holdRequest (d : Dev) (value : Word) : Dev := { d with modes := { d.modes with request := some value } }

@[simp] theorem w_holdRequest (d : Dev) (value : Word) (k : Nat) : (d.holdRequest value).w k = d.w k := rfl
@[simp] theorem f_holdRequest (d : Dev) (value : Word) (k lo n : Nat) : (d.holdRequest value).f k lo n = d.f k lo n := rfl
@[simp] theorem holdRequest_request (d : Dev) (value : Word) : (d.holdRequest value).modes.request = some value := rfl
@[simp] theorem journaling_holdRequest (c : Cfg) (d : Dev) (value : Word) : journaling c (d.holdRequest value) = journaling c d := rfl

/-- An earlier request of the beat is SUPERSEDED. -/
def Dev.supersede (d : Dev) : Dev := match d.modes.request with | none => d | some w => d.modeResult 8 (fld w 0 4) 0

theorem supersede_none {d : Dev} (h : d.modes.request = none) : d.supersede = d := by simp only [Dev.supersede, h]

theorem supersede_some {d : Dev} {w : Word} (h : d.modes.request = some w) : d.supersede = d.modeResult 8 (fld w 0 4) 0 := by
  simp only [Dev.supersede, h]

/-- A module that does not journal only holds the request. -/
theorem modeReq_holds (value : Word) (h : journaling s.cfg (s.dev.supersede.holdRequest value) = false) :
    exec (.modeReq value) s = .next { s with bus := .done 0, dev := s.dev.supersede.holdRequest value } := by
  have hheld : ∀ r, (if (s.dev.supersede.holdRequest value).mode = 4 then s.dev.supersede.holdRequest value
      else (s.dev.supersede.holdRequest value).journal s.cfg r) = s.dev.supersede.holdRequest value := fun r => by
    rw [journal_none r h, ite_self]
  exact congrArg (fun d => (.next { s with bus := .done 0, dev := d } : Out)) (hheld _)

end

section
variable (d : Dev) (code target prec : Nat)

theorem modeResult_w : (d.modeResult code target prec).w SYS.MODE_RESULT
    = wd (code + target % 16 * 2 ^ 8 + prec * 2 ^ 16 + (d.f SYS.MODE_RESULT 24 8 + 1) % 256 * 2 ^ 24) := by
  unfold Dev.modeResult
  split
  · rw [Dev.w_event, Dev.w_putN_self]
  · rw [Dev.w_putN_self]

theorem modeResult_regsKept : RegsKept [SYS.MODE_RESULT] d (d.modeResult code target prec) := fun k hk => by
  have hne : k ≠ SYS.MODE_RESULT := by simpa using hk
  unfold Dev.modeResult
  split
  · rw [Dev.w_event, Dev.w_putN_ne _ _ hne]
  · rw [Dev.w_putN_ne _ _ hne]

theorem modeResult_prc : (d.modeResult code target prec).prc = d.prc := by
  unfold Dev.modeResult
  split
  · rw [Dev.event_prc, Dev.putN_prc]
  · rw [Dev.putN_prc]

theorem journaling_modeResult (c : Cfg) : journaling c (d.modeResult code target prec) = journaling c d := by
  rw [journaling, journaling, Dev.crown, Dev.crown, modeResult_prc, Dev.b, modeResult_regsKept _ _ _ _ _ (by decide)]
  rfl

end

/-- The fields of MODE_RESULT (Table 2.4): the code, the target, and the results counted modulo 256. -/
theorem modeResult_fields (d : Dev) {code target prec : Nat} (hcode : code < 256) (htarget : target < 16) (hprec : prec < 256) :
    (d.modeResult code target prec).f SYS.MODE_RESULT 0 8 = code ∧ (d.modeResult code target prec).f SYS.MODE_RESULT 8 4 = target
      ∧ (d.modeResult code target prec).f SYS.MODE_RESULT 24 8 = (d.f SYS.MODE_RESULT 24 8 + 1) % 256 := by
  simp only [Dev.f, modeResult_w, wd]
  generalize fld (d.w SYS.MODE_RESULT) 24 8 = n
  simp only [fld, BitVec.toNat_ofNat]
  omega

/-! ### The frame of a boundary (R191, R201) -/

section
variable {s : State}

theorem fusFrameClose_closes (h : frameDue s.dev = true) :
    exec (.fusFrameClose ()) s = .next ({ s with
      store := (closeFrame s.cfg s.store s.dev).1, dev := (closeFrame s.cfg s.store s.dev).2 } : State).frameClosed :=
  congrArg Host.Outcome.next (if_pos h)

theorem fusFrameClose_idle (h : frameDue s.dev = false) : exec (.fusFrameClose ()) s = .next s :=
  congrArg Host.Outcome.next (if_neg (Bool.eq_false_iff.mp h))

/-- A frame is due at a loaded boundary of modes 3 and above whose beat is a multiple of 10, while none has closed at it. -/
theorem frameDue_iff (d : Dev) : frameDue d = true
    ↔ d.esc.loaded = true ∧ 3 ≤ d.mode ∧ d.esc.beat % 10 = 0 ∧ ∀ r ∈ d.fus.frames.head?, r.beat ≠ d.esc.beat := by
  unfold frameDue
  cases d.fus.frames <;> simp [and_assoc]

/-- What waits for the boundary's frame or swap waits on. -/
theorem closeModes_open {t : State} (h : t.dev.modes.openFrame = true ∨ t.dev.modes.openSwap = true) : t.closeModes = t :=
  if_pos (by simpa using h)

theorem want_openSwap (d : Dev) (cause target : Nat) : (d.want cause target).modes.openSwap = d.modes.openSwap := by
  unfold Dev.want
  split <;> rfl

theorem coastExpired_waits (h : coastOut s.dev = true) (hswap : s.dev.modes.openSwap = true) :
    let e := ((s.dev.putB FUS.SPLIT_STAT 1 true).event 0x1115).want (if inSplit s.dev then 9 else 10) 7
    exec .coastExpired s = .next { s with dev := { e with modes := { e.modes with openFrame := false } } } := by
  extract_lets e
  have hopen : e.modes.openSwap = true := (want_openSwap _ _ _).trans hswap
  exact (if_neg (by simp [h])).trans (congrArg Host.Outcome.next (closeModes_open (.inr hopen)))

theorem coastExpired_idle (h : coastOut s.dev = false) : exec .coastExpired s = .next s := if_pos (by simp [h])

end

/-! ### The handover of a swap (R347) -/

section
variable {s : State}

theorem swapHandover_none (h : s.dev.prc.swap = none) : exec .swapHandover s = .next s := by
  show execSwapHandover s = _
  simp only [execSwapHandover, h]

/-- The pending swap is taken up. -/
def Dev.endSwap (d : Dev) : Dev := { d with prc := { d.prc with swap := none } }

variable {x : SwapDev} (hswap : s.dev.prc.swap = some x) (hdue : x.atBeat ≤ s.dev.esc.beat)
include hswap hdue

theorem swapHandover_active (hcrown : s.dev.endSwap.crown = true) (hmode : (s.dev.endSwap.handover s.cfg x).mode ≠ s.dev.mode) :
    let e := (s.dev.endSwap.handover s.cfg x).displaceRequest
    exec .swapHandover s = .next { s with
      dev := { e with modes := { e.modes with openSwap := false, openFrame := false, wanted := keepWanted e 5 } } } := by
  show execSwapHandover s = _
  simp only [execSwapHandover, hswap]
  rw [if_neg (by omega)]
  exact (if_pos hcrown).trans (if_neg hmode)

theorem swapHandover_standby (hcrown : s.dev.endSwap.crown = false) (hmode : s.dev.endSwap.mode = 4)
    (hfree : latchFree s.dev.endSwap = true) : exec .swapHandover s = .next { s with dev := s.dev.endSwap.takeOver s.cfg } := by
  show execSwapHandover s = _
  simp only [execSwapHandover, hswap]
  rw [if_neg (by omega)]
  exact (if_neg (Bool.eq_false_iff.mp hcrown)).trans ((if_neg (fun hne => bne_iff_ne.mp hne hmode)).trans (if_pos hfree))

theorem swapHandover_neither (hcrown : s.dev.endSwap.crown = false) (hmode : s.dev.endSwap.mode ≠ 4) :
    exec .swapHandover s = .next { s with dev := s.dev.endSwap } := by
  show execSwapHandover s = _
  simp only [execSwapHandover, hswap]
  rw [if_neg (by omega)]
  exact (if_neg (Bool.eq_false_iff.mp hcrown)).trans (if_pos (bne_iff_ne.mpr hmode))

end

/-- Settles O17: the step instant, the mode registers, the frame, the coasting that has run out, the swap. -/
theorem modeCommands : Obligations.ModeCommands := by
  refine ⟨fun s => timeStepInstant_announced, fun s => timeStepInstant_idle, fun s value hnone hjournal => ?_,
    fun s value w hsome hjournal => ?_, fun s t0 => neutralWaitClear_clears, fun s => neutralWaitClear_idle,
    fun s hloaded hmode hbeat hopen => fusFrameClose_closes ((frameDue_iff _).mpr ⟨hloaded, hmode, hbeat, hopen⟩), fun s h => ?_,
    fun s => coastExpired_waits, fun s => coastExpired_idle, fun s => swapHandover_none,
    fun s x hswap hdue => ⟨swapHandover_active hswap hdue, swapHandover_standby hswap hdue, swapHandover_neither hswap hdue⟩⟩
  · have hheld := modeReq_holds (s := s) value (by rw [supersede_none hnone, journaling_holdRequest, hjournal])
    rw [supersede_none hnone] at hheld
    exact hheld
  · have hresult := supersede_some hsome
    have hquiet : journaling s.cfg (s.dev.supersede.holdRequest value) = false := by
      rw [hresult, journaling_holdRequest, journaling_modeResult, hjournal]
    obtain ⟨hcode, htarget, hcount⟩ := modeResult_fields s.dev (code := 8) (target := fld w 0 4) (prec := 0) (by omega) (fld_lt w 0 4)
      (by omega)
    have hheld := modeReq_holds value hquiet
    rw [hresult] at hheld
    refine ⟨_, hheld, rfl, rfl, rfl, holdRequest_request _ _, fun k hk => ?_, ?_, ?_, ?_⟩
    · rw [w_holdRequest, modeResult_regsKept _ _ _ _ k hk]
    · rw [f_holdRequest, hcode]
    · rw [f_holdRequest, htarget]
    · rw [f_holdRequest, hcount]
  · refine fusFrameClose_idle (Bool.eq_false_iff.mpr fun hdue => ?_)
    obtain ⟨hloaded, hmode, hbeat, hopen⟩ := (frameDue_iff _).mp hdue
    rcases h with h | h | h | ⟨r, hr, hclosed⟩
    · exact absurd hloaded (by simp [h])
    · omega
    · exact h hbeat
    · exact hopen r hr hclosed

end Sys2Proof.Machine
end

section
/-! SUPPORT. The frame of the configuration, and the command that breaks it: COAST_EXPIRED carries out the request that waits for it, and a
full run of Self-test requested from Configure resets every register. -/
namespace Sys2Proof.Machine

/-! ### A full run requested from Configure (R27, R489, Table 2.8) -/

theorem requestRow_configure_selfTest {m t : Nat} (hm : m = 3) (ht : t = 2) : requestRow m t = some [] := by
  rw [hm, ht]
  rfl

/-- The row has no precondition: the run begins. -/
theorem requestStep_selfTest {s : State} {w : Word} (hreq : s.dev.modes.request = some w) (hmode : s.dev.mode = 3)
    (hkey : fld w 16 16 = 0x6D0E) (ht : fld w 0 4 = 2) :
    ∃ d : Dev, s.requestStep = ({ s with dev := d } : State).stepToSelfTest (fld w 8 8) := by
  have hcode : requestCode s.cfg { s.dev with modes := { s.dev.modes with request := none } } w = (0, 0) :=
    requestCode_accepted s.cfg hkey (hmode.trans_ne (by decide)) (hmode.trans_ne (by decide)) (requestRow_configure_selfTest hmode ht)
      (by omega) rfl
  simp only [State.requestStep, hreq, hcode, ht]
  rw [if_neg (by decide), if_neg (by simp), if_neg (by simp), if_neg (by simp)]
  exact ⟨_, rfl⟩

/-- Where no automatic transition stands, the request is carried out. -/
theorem settleModes_selfTest {s : State} {w : Word} (hnone : firstWanted s.cfg s.dev = none) (hreq : s.dev.modes.request = some w)
    (hmode : s.dev.mode = 3) (hkey : fld w 16 16 = 0x6D0E) (ht : fld w 0 4 = 2) : s.settleModes.cfg = s.cfg.cold := by
  let u : State := { s with dev := { s.dev with modes := { s.dev.modes with openFrame := false, openSwap := false } } }
  have hquiet : firstWanted u.cfg u.dev = none := hnone
  obtain ⟨d, hrun⟩ := requestStep_selfTest (s := u) hreq hmode hkey ht
  have hcfg : s.settleModes.cfg = u.requestStep.cfg := by
    show State.cfg (match firstWanted u.cfg u.dev with | some _ => _ | none => _) = _
    rw [hquiet]
  rw [hcfg, hrun]
  rfl

/-! ### COAST_EXPIRED in Configure (R50, R52, R201) -/

/-- The units once coasting has run out: shown, recorded, the degradation wanted, the boundary's frame closed. -/
def Dev.endCoast (d : Dev) : Dev :=
  let e := ((d.putB FUS.SPLIT_STAT 1 true).event 0x1115).want (if inSplit d then 9 else 10) 7
  { e with modes := { e.modes with openFrame := false } }

theorem coastExpired_closes {s : State} (h : coastOut s.dev = true) :
    exec .coastExpired s = .next ({ s with dev := s.dev.endCoast } : State).closeModes := if_neg (by simp [h])

theorem closeModes_closed {s : State} (hframe : s.dev.modes.openFrame = false) (hswap : s.dev.modes.openSwap = false) :
    s.closeModes = s.settleModes := if_neg (by simp [hframe, hswap])

theorem want_mode (d : Dev) (cause target : Nat) : (d.want cause target).mode = d.mode := by
  unfold Dev.want
  split <;> rfl

theorem want_request (d : Dev) (cause target : Nat) : (d.want cause target).modes.request = d.modes.request := by
  unfold Dev.want
  split <;> rfl

theorem want_first {d : Dev} (h : d.modes.wanted = []) (cause target : Nat) :
    (d.want cause target).modes.wanted = [⟨cause, target⟩] := by
  simp [Dev.want, h]

theorem endCoast_mode (d : Dev) : d.endCoast.mode = d.mode :=
  (want_mode _ _ _).trans (Dev.mode_putB d (k := FUS.SPLIT_STAT) 1 true (by decide))

theorem endCoast_openSwap (d : Dev) : d.endCoast.modes.openSwap = d.modes.openSwap := want_openSwap _ _ _

theorem endCoast_request (d : Dev) : d.endCoast.modes.request = d.modes.request := want_request _ _ _

theorem endCoast_wanted {d : Dev} (h : d.modes.wanted = []) :
    d.endCoast.modes.wanted = [⟨if inSplit d then 9 else 10, 7⟩] :=
  want_first (d := (d.putB FUS.SPLIT_STAT 1 true).event 0x1115) h _ _

/-- The degradations of a loss of position lead out of the automatic modes alone. -/
theorem autoTarget_configure {c : Cfg} {d : Dev} {cause : Nat} (hmode : d.mode = 3) (h : cause = 9 ∨ cause = 10) :
    autoTarget c d cause = none := by
  rcases h with rfl | rfl <;> simp [autoTarget, hmode]

theorem firstWanted_endCoast {c : Cfg} {d : Dev} (hmode : d.mode = 3) (h : d.modes.wanted = []) : firstWanted c d.endCoast = none := by
  have hnone : ∀ cause, cause = 9 ∨ cause = 10 → autoTarget c d.endCoast cause = none := fun _ =>
    autoTarget_configure ((endCoast_mode d).trans hmode)
  rw [firstWanted, endCoast_wanted h, List.foldl_cons, List.foldl_nil, hnone _ (by split <;> simp)]

/-- In Configure, with nothing else open or wanted, COAST_EXPIRED carries out a request for a full run of Self-test. -/
theorem coastExpired_selfTest {s : State} {w : Word} (hcoast : coastOut s.dev = true) (hmode : s.dev.mode = 3)
    (hswap : s.dev.modes.openSwap = false) (hwanted : s.dev.modes.wanted = []) (hreq : s.dev.modes.request = some w)
    (hkey : fld w 16 16 = 0x6D0E) (ht : fld w 0 4 = 2) : ∃ t, exec .coastExpired s = .next t ∧ t.cfg = s.cfg.cold := by
  refine ⟨_, coastExpired_closes hcoast, ?_⟩
  rw [closeModes_closed rfl ((endCoast_openSwap _).trans hswap)]
  exact settleModes_selfTest (firstWanted_endCoast hmode hwanted) ((endCoast_request _).trans hreq) ((endCoast_mode _).trans hmode) hkey ht

/-- Configure, coasting just run out, with UTC_OFS committed and a full run of Self-test requested. -/
def coastingRequest : State :=
  { State.reset with
    cfg := { live := [(TBU.UTC_OFS, 37)], shadow := [(TBU.UTC_OFS, 37)] }
    dev := { regs := [(FUS.SPLIT_STAT, 0), (SYS.MODE, 3)], fus := { coasting := true }, modes := { request := some 0x6D0E0002#32 } } }

/-- Refutes O10: COAST_EXPIRED is none of the commands that may change a register, and the request that it carries out resets UTC_OFS. -/
theorem not_configurationFrame : ¬ Obligations.ConfigurationFrame := by
  intro h
  obtain ⟨t, hnext, hcold⟩ := coastExpired_selfTest (s := coastingRequest) (w := 0x6D0E0002#32) (by decide) (by decide) rfl rfl rfl
    (by decide) (by decide)
  have hkept := (h .coastExpired coastingRequest t rfl hnext).1
  rw [hcold] at hkept
  exact absurd hkept (by decide)

end Sys2Proof.Machine
end

section
/-! SUPPORT. The timebase: its cycle, the rules of its register fields, the discipline of a second, the commands of time. -/
namespace Sys2Proof.Machine

/-! ### One cycle of the timebase clock (R84) -/

/-- RATE is far smaller than a cycle: the scale never stands still. -/
theorem cycleStep_pos (d : Dev) : 0 < cycleStep d := by
  unfold cycleStep Dev.s sfld signed
  split <;> omega

/-- The cycle that follows adds exactly 5 ns and RATE, whole ticks to the count and the rest to the accumulator. -/
theorem advanceCycles_next (d : Dev) :
    let e := d.advanceCycles (d.tbu.cycles + 1)
    ((e.tick : Int) - d.tick) * (5 * 2 ^ 32) + e.acc = d.acc + 5 * 2 ^ 32 + d.s TBU.RATE 0 32
      ∧ e.acc < 5 * 2 ^ 32 ∧ d.tick ≤ e.tick ∧ e.tbu.cycles = d.tbu.cycles + 1 := by
  have hpos := cycleStep_pos d
  have hone : ((d.tbu.cycles + 1 - d.tbu.cycles : Nat) : Int) = 1 := by omega
  have hstep : cycleStep d = 5 * 2 ^ 32 + d.s TBU.RATE 0 32 := rfl
  simp only [Dev.advanceCycles, hone, one_mul]
  omega

/-! ### What the operations of the timebase leave alone -/

/-- RATE alone shows the slew (R84, R92). -/
theorem showRate_shows (d : Dev) (c : Cfg) : ∃ r, d.showRate c = d.putI TBU.RATE r := ⟨_, rfl⟩

/-- A refusal that ends changes TBU.STATE and the refused source (R97, R98). -/
theorem clearRefusal_eq (d : Dev) :
    d.clearRefusal = { d with regs := d.clearRefusal.regs, tbu := { d.tbu with srcs := d.clearRefusal.tbu.srcs } } := by
  simp only [Dev.clearRefusal, Dev.putSource, Dev.putF, Dev.putB, Dev.put]

theorem outranked_eq (d : Dev) :
    d.outranked = { d with regs := d.outranked.regs, tbu := { d.tbu with srcs := d.outranked.tbu.srcs } } := by
  unfold Dev.outranked
  split
  · exact clearRefusal_eq d
  · rfl

/-- The squelched PPS outputs rest (R106). -/
def Dev.restSquelched (d : Dev) (c : Cfg) : Dev :=
  [0, 1].foldl (fun (d : Dev) o => if squelched c d o then d.ppsLevel o false else d) d

/-- CLOCK_CLASS takes its value of Table 4.2, and what it squelches rests. -/
theorem tbuClass_shows (d : Dev) (c : Cfg) : ∃ v, d.tbuClass c = (d.putF TBU.STATE 16 8 v).restSquelched c := ⟨_, rfl⟩

theorem restSquelched_eq (d : Dev) (c : Cfg) :
    d.restSquelched c = { d with tbu := { d.tbu with ppsActive := (d.restSquelched c).tbu.ppsActive } } := by
  unfold Dev.restSquelched
  simp only [List.foldl_cons, List.foldl_nil]
  split <;> split <;> rfl

theorem tbuClass_eq (d : Dev) (c : Cfg) : d.tbuClass c
    = { d with regs := (d.tbuClass c).regs, tbu := { d.tbu with ppsActive := (d.tbuClass c).tbu.ppsActive } } := by
  obtain ⟨r, hr⟩ : ∃ r, d.tbuClass c = ({ d with regs := r } : Dev).restSquelched c := ⟨_, (tbuClass_shows d c).choose_spec⟩
  rw [hr, restSquelched_eq]

/-- LOCKED in place of SLEWING (R92). -/
def Dev.lockSlewed (d : Dev) : Dev := if tbuState d = 2 then d.putF TBU.STATE 0 2 1 else d

theorem lockSlewed_regs (d : Dev) : d.lockSlewed = { d with regs := d.lockSlewed.regs } := by
  unfold Dev.lockSlewed
  split <;> rfl

/-- Nothing is left to correct (R92). -/
def Dev.zeroLeft (d : Dev) : Dev := { d with tbu := { d.tbu with left := 0 } }

theorem slewEnd_shows (d : Dev) (c : Cfg) :
    ∃ r, d.slewEnd c = ((d.zeroLeft.putI TBU.RATE r).lockSlewed.outranked).tbuClass c := by
  obtain ⟨r, hr⟩ := showRate_shows d.zeroLeft c
  exact ⟨r, by rw [← hr]; rfl⟩

/-- The end of the slew leaves the scale as it stands (R92). -/
theorem slewEnd_scale (d : Dev) (c : Cfg) :
    (d.slewEnd c).tick = d.tick ∧ (d.slewEnd c).acc = d.acc ∧ (d.slewEnd c).tbu.cycles = d.tbu.cycles := by
  obtain ⟨r, hr⟩ := slewEnd_shows d c
  rw [hr, tbuClass_eq, outranked_eq, lockSlewed_regs]
  exact ⟨rfl, rfl, rfl⟩

/-- A cycle moves the scale as the clock does, whatever the slew shows on it. -/
theorem timebaseCycle_scale (d : Dev) (c : Cfg) :
    let e := d.advanceCycles (d.tbu.cycles + 1)
    (d.timebaseCycle c).tick = e.tick ∧ (d.timebaseCycle c).acc = e.acc ∧ (d.timebaseCycle c).tbu.cycles = e.tbu.cycles := by
  unfold Dev.timebaseCycle
  extract_lets e
  split
  · exact ⟨rfl, rfl, rfl⟩
  · split
    · exact slewEnd_scale e c
    · obtain ⟨r, hr⟩ := showRate_shows e c
      rw [hr]
      exact ⟨rfl, rfl, rfl⟩

theorem timebaseCycle_noSlew {d : Dev} (c : Cfg) (h : d.tbu.left = 0) : d.timebaseCycle c = d.advanceCycles (d.tbu.cycles + 1) :=
  if_pos h

theorem step_idle {s : State} (h : s.pending = []) : step s = .next { s with dev := s.dev.timebaseCycle s.cfg } := by
  simp only [step, h]

/-- Settles O2: the cycle's sum is exact, and a slew on it moves no more of the scale. -/
theorem idleStepIsOneCycle : Obligations.IdleStepIsOneCycle := by
  intro s hidle _
  obtain ⟨htick, hacc, hcycles⟩ := timebaseCycle_scale s.dev s.cfg
  obtain ⟨hsum, hrest, hforward, hcount⟩ := advanceCycles_next s.dev
  refine ⟨_, step_idle hidle, rfl, ?_, ?_, ?_, ?_, fun hleft => ?_⟩
  · simp only [htick, hacc, hsum]
  · simp only [hacc, hrest]
  · simp only [htick, hforward]
  · simp only [hcycles, hcount]
  · simp only [timebaseCycle_noSlew s.cfg hleft]
    rfl

/-! ### Pulses of the PPS outputs (R106, R107) -/

/-- The whole second of an output's pulse is reached and noted. -/
def Dev.reachPulse (d : Dev) (o t : Nat) : Dev :=
  let e := d.advanceTo t
  { e with tbu := { e.tbu with ppsAt := Assoc.set none e.tbu.ppsAt o (some t) } }

theorem squelched_off {c : Cfg} {o : Nat} (d : Dev) (h : c.b (TBU.PPS_CFG o) 3 = false) : squelched c d o = false := by
  simp [squelched, h]

theorem ppsActive_ppsLevel (d : Dev) (o : Nat) (v : Bool) : Assoc.get false (d.ppsLevel o v).tbu.ppsActive o = v :=
  Assoc.get_set_self _ _ _ _

section
variable {s : State} {out : Fin 2}

/-- Where neither a step nor a squelch touches it, the pulse begins. -/
theorem ppsPulse_begins (hmode : s.cfg.f (TBU.PPS_CFG out.val) 0 2 = 1) (hstep : s.dev.b TBU.STATE 9 = false)
    (homit : s.dev.tbu.ppsOmit = none) (hsquelch : s.cfg.b (TBU.PPS_CFG out.val) 3 = false) (haltered : s.dev.tbu.ppsAltered = 0) :
    exec (.ppsPulse out) s = .next { s with dev := (s.dev.reachPulse out.val (nextPulse s.dev out.val)).ppsLevel out.val true } := by
  refine next_dev ((if_neg (by simp [hmode])).trans ?_)
  extract_lets t reached _ noted before _ pulsed
  have hpending : stepPending noted = false := hstep
  have hnone : noted.tbu.ppsOmit = none := homit
  have hwhole : noted.tbu.ppsAltered = 0 := haltered
  have hpulsed : pulsed = noted := if_neg (by rw [hwhole]; simp)
  rw [if_neg (by simp [before, hpending, hnone]), if_neg (by simp [squelched_off noted hsquelch]), hpulsed]
  rfl

theorem ppsPulseEnd_rests {start : Nat} (hmode : s.cfg.f (TBU.PPS_CFG out.val) 0 2 = 1)
    (hactive : Assoc.get false s.dev.tbu.ppsActive out.val = true) (hat : Assoc.get none s.dev.tbu.ppsAt out.val = some start) :
    exec (.ppsPulseEnd out) s = .next { s with
      dev := (s.dev.advanceTo (start + s.cfg.f (TBU.PPS_CFG out.val) 8 8 * ticksPerMs)).ppsLevel out.val false } := by
  refine next_dev ((if_neg (by simp [hmode, hactive])).trans ?_)
  rw [hat]
  rfl

end

/-! ### Compare units (R109 to R111) -/

/-- A write of CMP_CTRL that R111 refuses. -/
def cmpRefused (c : Cfg) (d : Dev) (u : Nat) (value : Word) : Bool :=
  let out := fld value 2 2
  bit value 0 && ((bit value 1 && decide ((d.w (TBU.CMP_PER u)).toNat < 1000)) || out = 3
    || (out != 0 && fld value 16 16 = 0) || ((out = 1 || out = 2) && c.f (TBU.PPS_CFG (out - 1)) 0 2 != 2))

/-- The write arms a unit whose target has passed (R109). -/
def cmpArmsLate (d : Dev) (u : Nat) (value : Word) : Bool := bit value 0 && decide (0 < cmpDistance d u)

/-- Whether unit `u` is late is noted. -/
def Dev.noteCmpLate (d : Dev) (u : Nat) (late : Bool) : Dev :=
  { d with tbu := { d.tbu with
    cmpLate := if d.tbu.cmpLate.testBit u = late then d.tbu.cmpLate else d.tbu.cmpLate ^^^ 2 ^ u } }

theorem noteCmpLate_same {d : Dev} {u : Nat} {late : Bool} (h : d.tbu.cmpLate.testBit u = late) : d.noteCmpLate u late = d := by
  rw [Dev.noteCmpLate, if_pos h]

section
variable {s : State} {unit : Fin 16} {value : Word}

theorem cmpArm_refused (h : cmpRefused s.cfg s.dev unit.val value = true) :
    exec (.cmpArm unit value) s = .next { s with
      bus := .done 0, dev := (s.dev.putB (TBU.CMP_CTRL unit.val) 0 false).event 0x040B [(unit.val : Int)] } :=
  congrArg (fun d => (.next { s with bus := .done 0, dev := d } : Out)) (if_pos h)

theorem cmpArm_taken (h : cmpRefused s.cfg s.dev unit.val value = false) :
    exec (.cmpArm unit value) s = .next { s with
      bus := .done 0
      dev := (s.dev.noteCmpLate unit.val (cmpArmsLate s.dev unit.val value)).putN (TBU.CMP_CTRL unit.val)
        (value.toNat % 64 + fld value 16 16 * 2 ^ 16) } :=
  congrArg (fun d => (.next { s with bus := .done 0, dev := d } : Out)) (if_neg (Bool.eq_false_iff.mp h))

/-- Where no unit is late, an arming in time writes the control alone. -/
theorem cmpArm_inTime (h : cmpRefused s.cfg s.dev unit.val value = false) (hnone : s.dev.tbu.cmpLate = 0)
    (htime : cmpArmsLate s.dev unit.val value = false) :
    exec (.cmpArm unit value) s = .next { s with
      bus := .done 0, dev := s.dev.putN (TBU.CMP_CTRL unit.val) (value.toNat % 64 + fld value 16 16 * 2 ^ 16) } := by
  have hsame : s.dev.tbu.cmpLate.testBit unit.val = cmpArmsLate s.dev unit.val value := by rw [hnone, htime, Nat.zero_testBit]
  rw [cmpArm_taken h, noteCmpLate_same hsame]

theorem cmpRefused_unarmed (c : Cfg) (d : Dev) (u : Nat) (h : bit value 0 = false) : cmpRefused c d u value = false := by
  simp [cmpRefused, h]

/-- A one-shot unit without an output has nothing to refuse. -/
theorem cmpRefused_plain (c : Cfg) (d : Dev) (u : Nat) (hper : bit value 1 = false) (hout : fld value 2 2 = 0) :
    cmpRefused c d u value = false := by
  simp [cmpRefused, hper, hout]

theorem cmpRefused_output (c : Cfg) (d : Dev) (u : Nat) (harm : bit value 0 = true) (hout : fld value 2 2 = 3) :
    cmpRefused c d u value = true := by
  simp [cmpRefused, harm, hout]

theorem cmpArmsLate_unarmed (d : Dev) (u : Nat) (h : bit value 0 = false) : cmpArmsLate d u value = false := by
  simp [cmpArmsLate, h]

theorem cmpArmsLate_ahead {d : Dev} {u : Nat} (value : Word) (h : cmpDistance d u ≤ 0) : cmpArmsLate d u value = false := by
  simp [cmpArmsLate, h]

theorem compareFire_unarmed (h : s.dev.b (TBU.CMP_CTRL unit.val) 0 = false) : exec (.compareFire unit) s = .next s :=
  next_same (if_pos (by simp [h]))

end

/-- A one-shot unit without output, interrupt and trigger sets its status bit and disarms. -/
theorem cmpFire_plain {d : Dev} {u : Nat} (c : Cfg) (dist : Nat) (hctrl : d.w (TBU.CMP_CTRL u) = 1)
    (hlate : d.tbu.cmpLate.testBit u = false) :
    d.cmpFire c u dist = (d.putB TBU.CMP_STAT u true).putB (TBU.CMP_CTRL u) 0 false := by
  have hout : fld 1#32 2 2 = 0 := by decide
  have hirq : bit 1#32 4 = false := by decide
  have htrigger : bit 1#32 5 = false := by decide
  have honce : bit 1#32 1 = false := by decide
  simp [Dev.cmpFire, hctrl, hout, hirq, htrigger, honce, hlate]

theorem compareFire_plain {s : State} {unit : Fin 16} (hctrl : s.dev.w (TBU.CMP_CTRL unit.val) = 1)
    (hahead : cmpDistance s.dev unit.val < 0)
    (hlate : s.dev.tbu.cmpLate.testBit unit.val = false) :
    exec (.compareFire unit) s = .next { s with
      dev := ((s.dev.advanceTo (s.dev.tick + (cmpDistance s.dev unit.val).natAbs)).putB TBU.CMP_STAT unit.val true).putB
        (TBU.CMP_CTRL unit.val) 0 false } := by
  have harmed : s.dev.b (TBU.CMP_CTRL unit.val) 0 = true := by
    rw [Dev.b, hctrl]
    decide
  refine next_dev ((if_neg (by simp [harmed])).trans ?_)
  extract_lets dist reached
  have hreached : reached = s.dev.advanceTo (s.dev.tick + (cmpDistance s.dev unit.val).natAbs) := if_pos hahead
  rw [hreached]
  exact cmpFire_plain _ _ hctrl hlate

/-- The latest pulse ordered on an output ends (R108). -/
def Dev.endCmpPulse (d : Dev) (o t : Nat) : Dev :=
  let e := d.advanceTo t
  { e with tbu := { e.tbu with cmpEnd := Assoc.set 0 e.tbu.cmpEnd o 0 } }.ppsLevel o false

theorem cmpEnd_endCmpPulse (d : Dev) (o t : Nat) : Assoc.get 0 (d.endCmpPulse o t).tbu.cmpEnd o = 0 :=
  Assoc.get_set_self 0 d.tbu.cmpEnd o 0

theorem cmpPulseEnd_rests {s : State} {out : Fin 2} (hmode : s.cfg.f (TBU.PPS_CFG out.val) 0 2 = 2)
    (hordered : Assoc.get 0 s.dev.tbu.cmpEnd out.val ≠ 0) :
    exec (.cmpPulseEnd out) s = .next { s with dev := s.dev.endCmpPulse out.val (Assoc.get 0 s.dev.tbu.cmpEnd out.val) } :=
  next_dev (if_neg (by simp [hmode, hordered]))

/-! ### Departing time frames (R87, R113) -/

theorem ptpChecksum_layer2 {old : PtpEgress} (new : PtpEgress) (h : old.carrier = .layer2) : ptpChecksum old new = new := by
  simp only [ptpChecksum, h]

/-- A Sync leaves with its stamp as origin time. -/
theorem ptpRewrite_sync {f : PtpEgress} (tick lat : Nat) (req : Option (Nat × Nat)) (h : f.kind = .sync) :
    (ptpRewrite tick lat req f).originSec = BitVec.ofNat 48 ((tick * 5 + 5 * f.sub.val / 8 + lat) / 10 ^ 9)
      ∧ (ptpRewrite tick lat req f).originNs = BitVec.ofNat 32 ((tick * 5 + 5 * f.sub.val / 8 + lat) % 10 ^ 9) := by
  simp [ptpRewrite, h]

@[simp] theorem port_putPort (d : Dev) (n : Nat) (x : EthDev) : (d.putPort n x).port n = x := Assoc.get_set_self _ _ _ _

/-- The frame as it leaves port `n` is kept there with its frame check sequence, and no unit but the switch changes. -/
theorem ptpEventEgress_sync {s : State} {port : Fin 4} {frame : PtpEgress} (hkind : frame.kind = .sync)
    (hcarrier : frame.carrier = .layer2) :
    let f := ptpRewrite s.dev.tick (s.cfg.f (ETH.LAT port.val) 0 16) (s.dev.port port.val).pdelayIn frame
    exec (.ptpEventEgress port frame) s = .next { s with
      dev := s.dev.putPort port.val { s.dev.port port.val with egress := some (f, frameCheck (ptpBytes f)) } } := by
  refine next_dev ?_
  simp only [ptpChecksum_layer2 _ hcarrier, hkind]
  rfl

/-- Settles O27: a pulse and its end, the write of a unit's control, its firing, the end of its pulse, a Sync that leaves. -/
theorem pulsesAndCompares : Obligations.PulsesAndCompares := by
  refine ⟨fun s out => ppsPulse_begins, fun s out start => ppsPulseEnd_rests, fun s unit value hnone h => ?_,
    fun s unit value harm hout => cmpArm_refused (cmpRefused_output _ _ _ harm hout), fun s unit => compareFire_unarmed,
    fun s unit => compareFire_plain, fun s out hmode hordered => ?_, fun s port frame hkind hcarrier => ?_⟩
  · rcases h with hunarmed | ⟨hper, hout, hahead⟩
    · exact cmpArm_inTime (cmpRefused_unarmed _ _ _ hunarmed) hnone (cmpArmsLate_unarmed _ _ hunarmed)
    · exact cmpArm_inTime (cmpRefused_plain _ _ _ hper hout) hnone (cmpArmsLate_ahead _ hahead)
  · exact ⟨_, cmpPulseEnd_rests hmode hordered, ⟨rfl, rfl, regsKept_refl⟩, rfl, cmpEnd_endCmpPulse _ _ _,
      ppsActive_ppsLevel _ _ _⟩
  · obtain ⟨hsec, hns⟩ := ptpRewrite_sync s.dev.tick (s.cfg.f (ETH.LAT port.val) 0 16) (s.dev.port port.val).pdelayIn hkind
    exact ⟨_, ptpEventEgress_sync hkind hcarrier, ⟨rfl, rfl, regsKept_refl⟩, _, by rw [port_putPort], hsec, hns⟩

/-! ### Sources and their refusal (R90, R97, R98) -/

theorem regsKept_trans {ks : List Nat} {d e f : Dev} (h : RegsKept ks d e) (h' : RegsKept ks e f) : RegsKept ks d f := fun k hk =>
  (h' k hk).trans (h k hk)

/-- A state of the units that differs outside the registers keeps them. -/
theorem regsKept_congr {ks : List Nat} {d e f : Dev} (h : RegsKept ks d e) (hregs : f.regs = e.regs) : RegsKept ks d f := fun k hk => by
  rw [← h k hk, Dev.w, Dev.w, hregs]

theorem source_congr {d e : Dev} (h : e.tbu = d.tbu) (n : Nat) : e.source n = d.source n := by rw [Dev.source, Dev.source, h]

@[simp] theorem source_putSource (d : Dev) (n : Nat) (x : SourceDev) : (d.putSource n x).source n = x := Assoc.get_set_self _ _ _ _

theorem source_putSource_ne (d : Dev) {n m : Nat} (x : SourceDev) (h : m ≠ n) : (d.putSource n x).source m = d.source m :=
  Assoc.get_set_ne _ _ _ _ h

@[simp] theorem putSource_tick (d : Dev) (n : Nat) (x : SourceDev) : (d.putSource n x).tick = d.tick := rfl
@[simp] theorem putSource_occ (d : Dev) (n : Nat) (x : SourceDev) : (d.putSource n x).occ = d.occ := rfl
@[simp] theorem putSource_prc (d : Dev) (n : Nat) (x : SourceDev) : (d.putSource n x).prc = d.prc := rfl
@[simp] theorem putSource_eventBeat (d : Dev) (n : Nat) (x : SourceDev) : (d.putSource n x).eventBeat = d.eventBeat := rfl

/-- The registers as they show that no source is refused any more. -/
def Dev.showNoRefusal (d : Dev) : Dev := ((d.putB TBU.STATE 8 false).putF TBU.STATE 12 4 0).putF TBU.STATE 24 3 0

theorem showNoRefusal_tbu (d : Dev) : d.showNoRefusal.tbu = d.tbu := by
  rw [Dev.showNoRefusal, Dev.putF_tbu, Dev.putF_tbu, Dev.putB_tbu]

theorem clearRefusal_steps (d : Dev) :
    d.clearRefusal = (d.putSource (refusedSrc d) { d.source (refusedSrc d) with refused := false }).showNoRefusal := rfl

theorem clearRefusal_regsKept (d : Dev) : RegsKept [TBU.STATE] d d.clearRefusal := by
  have hmem : TBU.STATE ∈ [TBU.STATE] := List.mem_singleton_self _
  rw [clearRefusal_steps]
  exact regsKept_put (regsKept_put (regsKept_put (fun _ _ => rfl) _ hmem) _ hmem) _ hmem

theorem showNoRefusal_refused (d : Dev) : d.showNoRefusal.b TBU.STATE 8 = false := by
  rw [Dev.showNoRefusal, Dev.b_putF_apart _ _ _ (by omega) (by omega), Dev.b_putF_apart _ _ _ (by omega) (by omega),
    Dev.b_putB_self _ _ _ (by omega)]

section
variable (d : Dev)

theorem clearRefusal_tick : d.clearRefusal.tick = d.tick := by rw [clearRefusal_eq]
theorem clearRefusal_occ : d.clearRefusal.occ = d.occ := by rw [clearRefusal_eq]
theorem clearRefusal_prc : d.clearRefusal.prc = d.prc := by rw [clearRefusal_eq]
theorem clearRefusal_esc : d.clearRefusal.esc = d.esc := by rw [clearRefusal_eq]
theorem clearRefusal_eventBeat : d.clearRefusal.eventBeat = d.eventBeat := by rw [Dev.eventBeat, Dev.eventBeat, clearRefusal_esc]

end

theorem clearRefusal_refused (d : Dev) : d.clearRefusal.b TBU.STATE 8 = false := by
  rw [clearRefusal_steps, showNoRefusal_refused]

/-- Of the sources the end of a refusal changes only that the refused one is refused. -/
theorem clearRefusal_source (d : Dev) (n : Nat) :
    (d.clearRefusal.source n).qualified = (d.source n).qualified ∧ (d.clearRefusal.source n).excluded = (d.source n).excluded := by
  rw [clearRefusal_steps, source_congr (showNoRefusal_tbu _)]
  by_cases hn : n = refusedSrc d
  · subst hn
    rw [source_putSource]
    exact ⟨rfl, rfl⟩
  · rw [source_putSource_ne _ _ hn]
    exact ⟨rfl, rfl⟩

/-- No source can be taken when each is unqualified, declined or refused. -/
theorem bestSource_none {d : Dev} (h : ∀ n ∈ [1, 2, 3, 4], (d.source n).qualified = false ∨ (d.source n).excluded = true
    ∨ (d.source n).refused = true) : bestSource d = none := by
  refine List.find?_eq_none.mpr fun n hn => ?_
  rcases h n hn with h | h | h <;> simp [h]

/-! ### A step is announced (R99, R101) -/

/-- The slew stands still where it is. -/
def Dev.haltSlew (d : Dev) : Dev := { d with tbu := { d.tbu with left := 0, leftTick := d.tick } }

theorem dropSlew_shows (d : Dev) (c : Cfg) : ∃ r, d.dropSlew c = (d.haltSlew.putI TBU.RATE r).lockSlewed := by
  obtain ⟨r, hr⟩ := showRate_shows d.haltSlew c
  exact ⟨r, by rw [← hr]; rfl⟩

/-- A slew that is abandoned changes RATE and TBU.STATE and leaves nothing to correct. -/
theorem dropSlew_eq (d : Dev) (c : Cfg) : d.dropSlew c = { d.haltSlew with regs := (d.dropSlew c).regs } := by
  obtain ⟨r, hr⟩ := dropSlew_shows d c
  rw [hr, lockSlewed_regs]
  rfl

theorem lockSlewed_regsKept {ks : List Nat} (d : Dev) (h : TBU.STATE ∈ ks) : RegsKept ks d d.lockSlewed := by
  unfold Dev.lockSlewed
  split
  · exact regsKept_put regsKept_refl _ h
  · exact regsKept_refl

theorem dropSlew_regsKept {ks : List Nat} (d : Dev) (c : Cfg) (hstate : TBU.STATE ∈ ks) (hrate : TBU.RATE ∈ ks) :
    RegsKept ks d (d.dropSlew c) := by
  obtain ⟨r, hr⟩ := dropSlew_shows d c
  rw [hr]
  have hshown : RegsKept ks d (d.haltSlew.putI TBU.RATE r) := regsKept_put (e := d.haltSlew) (fun _ _ => rfl) _ hrate
  exact regsKept_trans hshown (lockSlewed_regsKept _ hstate)

section
variable (d : Dev) (c : Cfg)

theorem dropSlew_tick : (d.dropSlew c).tick = d.tick := by rw [dropSlew_eq]; rfl
theorem dropSlew_occ : (d.dropSlew c).occ = d.occ := by rw [dropSlew_eq]; rfl
theorem dropSlew_esc : (d.dropSlew c).esc = d.esc := by rw [dropSlew_eq]; rfl
theorem dropSlew_prc : (d.dropSlew c).prc = d.prc := by rw [dropSlew_eq]; rfl
theorem dropSlew_eventBeat : (d.dropSlew c).eventBeat = d.eventBeat := by rw [Dev.eventBeat, Dev.eventBeat, dropSlew_esc]

end

/-- The step that is announced. -/
def Dev.noteStep (d : Dev) (src : Nat) (delta rest : Int) (instant : Nat) (first : Bool) : Dev :=
  { d with tbu := { d.tbu with stepDelta := delta, stepRest := rest, stepAt := instant, stepSrc := src, stepFirst := first } }

section
variable (d : Dev) (src : Nat) (delta rest : Int) (instant : Nat) (first : Bool)

theorem noteStep_tick : (d.noteStep src delta rest instant first).tick = d.tick := rfl
theorem noteStep_occ : (d.noteStep src delta rest instant first).occ = d.occ := rfl
theorem noteStep_prc : (d.noteStep src delta rest instant first).prc = d.prc := rfl
theorem noteStep_eventBeat : (d.noteStep src delta rest instant first).eventBeat = d.eventBeat := rfl

end

/-- The registers as they show a step that is announced. -/
def Dev.showPending (d : Dev) : Dev := (d.putB TBU.STATE 9 true).putB ESC.STEP_STAT 24 true

theorem armStep_shows (d : Dev) (c : Cfg) (src who : Nat) (delta rest : Int) (instant : Nat) :
    ∃ first, d.armStep c src who delta rest instant
      = ((d.dropSlew c).noteStep src delta rest instant first).showPending.event 0x0405 [delta, who, (instant : Int) + delta] :=
  ⟨_, rfl⟩

section
variable (d : Dev) (c : Cfg) (src who : Nat) (delta rest : Int) (instant : Nat)

theorem armStep_regsKept : RegsKept [TBU.STATE, TBU.RATE, ESC.STEP_STAT] d (d.armStep c src who delta rest instant) := by
  obtain ⟨first, h⟩ := armStep_shows d c src who delta rest instant
  rw [h]
  have hnoted : RegsKept [TBU.STATE, TBU.RATE, ESC.STEP_STAT] d ((d.dropSlew c).noteStep src delta rest instant first) :=
    regsKept_congr (dropSlew_regsKept d c (by simp) (by simp)) rfl
  exact regsKept_congr (regsKept_put (regsKept_put hnoted _ (by simp)) _ (by simp)) (Dev.event_regs _ _ _)

theorem armStep_pending : (d.armStep c src who delta rest instant).b TBU.STATE 9 = true
    ∧ (d.armStep c src who delta rest instant).b ESC.STEP_STAT 24 = true := by
  obtain ⟨first, h⟩ := armStep_shows d c src who delta rest instant
  rw [h, Dev.b, Dev.b, Dev.w_event, Dev.w_event, ← Dev.b, ← Dev.b]
  exact ⟨(Dev.b_putB_ne _ _ _ _ (by decide)).trans (Dev.b_putB_self _ _ _ (by omega)), Dev.b_putB_self _ _ _ (by omega)⟩

/-- The announced step as the timebase holds it, the slew standing still. -/
theorem armStep_tbu : ∃ first, (d.armStep c src who delta rest instant).tbu = { d.tbu with
    left := 0, leftTick := d.tick, stepDelta := delta, stepRest := rest, stepAt := instant, stepSrc := src, stepFirst := first } := by
  obtain ⟨first, h⟩ := armStep_shows d c src who delta rest instant
  refine ⟨first, ?_⟩
  rw [h, Dev.event_tbu, Dev.showPending, Dev.putB_tbu, Dev.putB_tbu, Dev.noteStep, dropSlew_eq]
  rfl

theorem armStep_prc : (d.armStep c src who delta rest instant).prc = d.prc := by
  obtain ⟨first, h⟩ := armStep_shows d c src who delta rest instant
  rw [h, Dev.event_prc, Dev.showPending, Dev.putB_prc, Dev.putB_prc, noteStep_prc, dropSlew_prc]

theorem armStep_crown : (d.armStep c src who delta rest instant).crown = d.crown := by rw [Dev.crown, Dev.crown, armStep_prc]

theorem armStep_occ : (d.armStep c src who delta rest instant).occ
    = d.occ ++ [⟨0x0405, d.tick, d.eventBeat, [delta, who, (instant : Int) + delta]⟩] := by
  obtain ⟨first, h⟩ := armStep_shows d c src who delta rest instant
  rw [h, Dev.event_occ, Dev.showPending, Dev.putB_occ, Dev.putB_occ, Dev.putB_tick, Dev.putB_tick, putB_eventBeat, putB_eventBeat,
    noteStep_occ, noteStep_tick, noteStep_eventBeat, dropSlew_occ, dropSlew_tick, dropSlew_eventBeat]

end

/-- A step accepted by a module without the crown is announced for 3 ms later and journaled nowhere (R99, R101, R321). -/
theorem acceptStep_uncrowned {d : Dev} (c : Cfg) (src who : Nat) (theta : Int) (h : d.crown = false) :
    d.acceptStep c src who theta
      = d.armStep c src who (stepTicks theta) (theta - 5 * stepTicks theta) (stepInstant d (stepTicks theta) 3) := by
  have hwait : (if d.crown && partnerStandby d then 4 else 3) = 3 := if_neg (by simp [h])
  rw [Dev.acceptStep, hwait]
  exact journal_none _ (by rw [journaling, armStep_crown, h, Bool.and_false, Bool.false_and])

/-! ### JUMP_ACCEPT and JUMP_DECLINE (R99, R100) -/

section
variable {d : Dev} {c : Cfg} {value : Word}

theorem jumpCommand_ignored (h : fld value 16 16 ≠ 0x7A11 ∨ bit value 0 = bit value 1 ∨ d.b TBU.STATE 8 = false) :
    d.jumpCommand c value = (false, d) := if_pos (by simpa [or_assoc] using h.imp_right fun h => h.imp_right .inl)

variable (hkey : fld value 16 16 = 0x7A11) (hrefused : d.b TBU.STATE 8 = true) (hpending : d.b TBU.STATE 9 = false)
include hkey hrefused hpending

theorem jumpCommand_accepts (h0 : bit value 0 = true) (h1 : bit value 1 = false) :
    d.jumpCommand c value = (true, d.acceptStep c (refusedSrc d) 0 (d.source (refusedSrc d)).offset) :=
  (if_neg (by simp [hkey, hrefused, stepPending, hpending, h0, h1])).trans (if_pos h0)

/-- The refused source is declined: it waits until it disqualifies and qualifies again. -/
def Dev.declineRefused (d : Dev) : Dev :=
  (d.putSource (refusedSrc d) { d.source (refusedSrc d) with excluded := true }).clearRefusal.event 0x0406

/-- With no other source to take, a decline only ends the refusal. -/
theorem jumpCommand_declines (h0 : bit value 0 = false) (h1 : bit value 1 = true) (hnone : bestSource d.declineRefused = none) :
    d.jumpCommand c value = (true, d.declineRefused) := by
  refine (if_neg (by simp [hkey, hrefused, stepPending, hpending, h0, h1])).trans ((if_neg (by simp [h0])).trans ?_)
  show (true, if onSource d.declineRefused then d.declineRefused else
    match bestSource d.declineRefused with | none => d.declineRefused | some _ => d.declineRefused.chooseSource c 5) = _
  rw [hnone, ite_self]

end

section
variable (d : Dev)

/-- Of the sources a decline changes the refused one. -/
theorem declineRefused_source (n : Nat) : (d.declineRefused.source n).qualified = (d.source n).qualified
    ∧ (d.declineRefused.source (refusedSrc d)).excluded = true := by
  have hkept := clearRefusal_source (d.putSource (refusedSrc d) { d.source (refusedSrc d) with excluded := true })
  rw [Dev.declineRefused, source_congr (Dev.event_tbu _ _ _), source_congr (Dev.event_tbu _ _ _), (hkept n).1, (hkept _).2]
  refine ⟨?_, by rw [source_putSource]⟩
  by_cases hn : n = refusedSrc d
  · subst hn
    rw [source_putSource]
  · rw [source_putSource_ne _ _ hn]

theorem declineRefused_regsKept : RegsKept [TBU.STATE] d d.declineRefused :=
  regsKept_congr (regsKept_trans (fun _ _ => rfl) (clearRefusal_regsKept (d.putSource _ _))) (Dev.event_regs _ _ _)

theorem declineRefused_refused : d.declineRefused.b TBU.STATE 8 = false := by
  rw [Dev.declineRefused, Dev.b, Dev.w_event, ← Dev.b, clearRefusal_refused]

theorem declineRefused_prc : d.declineRefused.prc = d.prc := by
  rw [Dev.declineRefused, Dev.event_prc, clearRefusal_prc, putSource_prc]

theorem declineRefused_occ : d.declineRefused.occ = d.occ ++ [⟨0x0406, d.tick, d.eventBeat, []⟩] := by
  rw [Dev.declineRefused, Dev.event_occ, clearRefusal_occ, clearRefusal_tick, clearRefusal_eventBeat, putSource_occ, putSource_tick,
    putSource_eventBeat]

end

theorem bestSource_declineRefused {d : Dev} (h : ∀ n ∈ [1, 2, 3, 4], (d.source n).qualified = false ∨ n = refusedSrc d) :
    bestSource d.declineRefused = none := bestSource_none fun n hn => by
  obtain ⟨hqualified, hexcluded⟩ := declineRefused_source d n
  rcases h n hn with h | rfl
  · exact .inl (hqualified.trans h)
  · exact .inr (.inl hexcluded)

section
variable {s : State} {value : Word} (hmode : s.dev.mode ≠ 4)
include hmode

/-- Both commands are one write (R100), which does nothing when it is not taken. -/
theorem jump_ignored (h : fld value 16 16 ≠ 0x7A11 ∨ bit value 0 = bit value 1 ∨ s.dev.b TBU.STATE 8 = false) :
    exec (.jumpAccept value) s = .next { s with bus := .done 0 } ∧ exec (.jumpDecline value) s = .next { s with bus := .done 0 } := by
  have hignored := jumpCommand_ignored (c := s.cfg) h
  have hwrite := onControl_refused TBU.JUMP_ACCEPT value 0 255 (fun c d => d.jumpCommand c value) hmode (by rw [hignored])
  simp only [hignored] at hwrite
  exact ⟨hwrite, hwrite⟩

/-- A module that does not journal takes the write alone. -/
theorem jump_taken {e : Dev} (h : s.dev.jumpCommand s.cfg value = (true, e)) (hcrown : e.crown = false) :
    exec (.jumpAccept value) s = .next { s with dev := e, bus := .done 0 }
      ∧ exec (.jumpDecline value) s = .next { s with dev := e, bus := .done 0 } := by
  have hquiet : journaling s.cfg e = false := by rw [journaling, hcrown, Bool.and_false, Bool.false_and]
  have hwrite := onControl_taken TBU.JUMP_ACCEPT value 0 255 (fun c d => d.jumpCommand c value) hmode (by rw [h])
  simp only [h, journal_none _ hquiet] at hwrite
  exact ⟨hwrite, hwrite⟩

end

/-! ### REF_IN, the grandmaster, the leap second, PPS_IN (R86, R89, R90, R103, R105) -/

section
variable {s : State}

theorem refInLost_unused (h : s.cfg.f TBU.SRC_CFG 12 2 = 0) : exec .refInLost s = .next s := next_same (if_pos (by simp [h]))
theorem refInRestored_unused (h : s.cfg.f TBU.SRC_CFG 12 2 = 0) : exec .refInRestored s = .next s := next_same (if_pos (by simp [h]))

/-- The client port follows another grandmaster (R103). -/
def Dev.followMaster (d : Dev) (c : Cfg) (gm : Nat) : Dev :=
  let n := c.f TBU.SRC_CFG 4 2
  let e := (d.putPort n { d.port n with syncs := [] }).putSource 2 { d.source 2 with fresh := false, refused := false }
  ({ e with tbu := { e.tbu with gm := gm, firstOffset := tbuSrc e = 2 || e.tbu.firstOffset } } : Dev).event 0x0409

theorem gmChange_follows {gm : BitVec 64} (h : s.dev.tbu.gm ≠ gm.toNat) (hrefused : s.dev.b TBU.STATE 8 = false) :
    exec (.gmChange gm) s = .next { s with dev := s.dev.followMaster s.cfg gm.toNat } :=
  next_dev ((if_neg h).trans (congrArg (fun d : Dev => d.followMaster s.cfg gm.toNat) (if_neg (by simp [hrefused]))))

/-- Beside the timebase and the port's offsets only the event is recorded. -/
theorem followMaster_eq (d : Dev) (c : Cfg) (gm : Nat) : d.followMaster c gm = { d with
    tbu := (d.followMaster c gm).tbu, sw := (d.followMaster c gm).sw
    occ := d.occ ++ [⟨0x0409, d.tick, d.eventBeat, []⟩] } := by
  simp only [Dev.followMaster, Dev.putPort, Dev.putSource, Dev.event]
  rfl

theorem followMaster_source (d : Dev) (c : Cfg) (gm : Nat) : ((d.followMaster c gm).source 2).fresh = false := by
  have hsource : (d.followMaster c gm).source 2 = { d.source 2 with fresh := false, refused := false } := source_putSource _ _ _
  rw [hsource]

theorem followMaster_port (d : Dev) (c : Cfg) (gm : Nat) : ((d.followMaster c gm).port (c.f TBU.SRC_CFG 4 2)).syncs = [] := by
  have hport : (d.followMaster c gm).port (c.f TBU.SRC_CFG 4 2) = { d.port (c.f TBU.SRC_CFG 4 2) with syncs := [] } :=
    port_putPort d _ _
  rw [hport]

theorem followMaster_first {d : Dev} (c : Cfg) (gm : Nat) (h : tbuSrc d = 2) : (d.followMaster c gm).tbu.firstOffset = true := by
  have hfirst : (d.followMaster c gm).tbu.firstOffset = (decide (tbuSrc d = 2) || d.tbu.firstOffset) := rfl
  simp [hfirst, h]

theorem leap_inserts (h61 : bit (s.cfg.w TBU.UTC_OFS) 17 = true) (hnext : s.dev.tbu.utcNext = none) :
    let w := s.cfg.w TBU.UTC_OFS
    let d := s.dev.advanceTo (utcDayEnd w s.dev.tick)
    exec .leap s = .next { s with
      cfg := s.cfg.putUtc (setFld (setFld w 0 16 (unsigned 16 (sfld w 0 16 + 1))) 17 2 0)
      dev := { d.event 0x040D with tbu := { d.tbu with utcNext := none } } } := by
  show execLeap s = _
  simp only [execLeap, h61, hnext, if_true]
  exact if_neg (by decide)

theorem leap_unflagged (h61 : bit (s.cfg.w TBU.UTC_OFS) 17 = false) (h59 : bit (s.cfg.w TBU.UTC_OFS) 18 = false) :
    exec .leap s = .next s := if_pos (by simp [h61, h59])

end

/-- Settles O25: REF_IN, the two jump commands, the grandmaster, the leap second, an edge of PPS_IN, a slew that has ended. -/
theorem timeCommands : Obligations.TimeCommands := by
  refine ⟨fun s hused hok => next_dev (if_neg (by simp [hused, hok])), fun s hused hlost => next_dev (if_neg (by simp [hused, hlost])),
    fun s hunused => ⟨refInLost_unused hunused, refInRestored_unused hunused⟩, fun s value hmode h => jump_ignored hmode h,
    fun s hmode hcrown hrefused hpending => ?_, fun s hmode hcrown hrefused hpending hnone => ?_,
    fun s gm hother hsrc hrefused => ?_, fun s gm hsame => next_same (if_pos hsame), fun s h61 hnext => leap_inserts h61 hnext,
    fun s => leap_unflagged, fun s rising sub => ⟨fun hon hpol => ?_, fun hoff => ?_⟩, fun s hleft => next_same (if_pos hleft)⟩
  · have harm := acceptStep_uncrowned s.cfg (refusedSrc s.dev) 0 (s.dev.source (refusedSrc s.dev)).offset hcrown
    have hjump := jumpCommand_accepts (c := s.cfg) (value := 0x7A110001#32) (by decide) hrefused hpending (by decide) (by decide)
    rw [harm] at hjump
    extract_lets delta
    obtain ⟨hstep, hstat⟩ := armStep_pending s.dev s.cfg (refusedSrc s.dev) 0 delta
      ((s.dev.source (refusedSrc s.dev)).offset - 5 * delta) (stepInstant s.dev delta 3)
    obtain ⟨first, htbu⟩ := armStep_tbu s.dev s.cfg (refusedSrc s.dev) 0 delta
      ((s.dev.source (refusedSrc s.dev)).offset - 5 * delta) (stepInstant s.dev delta 3)
    refine ⟨_, (jump_taken hmode hjump ((armStep_crown _ _ _ _ _ _ _).trans hcrown)).1, rfl, rfl, rfl,
      armStep_regsKept _ _ _ _ _ _ _, hstep, hstat, ?_, ?_, ?_, ?_, armStep_occ _ _ _ _ _ _ _⟩
    all_goals simp only [htbu, delta]
  · have hjump := jumpCommand_declines (c := s.cfg) (value := 0x7A110002#32) (by decide) hrefused hpending (by decide) (by decide)
      (bestSource_declineRefused hnone)
    have hquiet : s.dev.declineRefused.crown = false := by rw [Dev.crown, declineRefused_prc]; exact hcrown
    exact ⟨_, (jump_taken hmode hjump hquiet).2, rfl, rfl, rfl, declineRefused_regsKept _, declineRefused_refused _,
      (declineRefused_source s.dev 0).2, declineRefused_occ _⟩
  · exact ⟨_, gmChange_follows hother hrefused, rfl, followMaster_eq s.dev s.cfg gm.toNat, rfl, followMaster_first s.cfg gm.toNat hsrc,
      followMaster_source s.dev s.cfg gm.toNat, followMaster_port s.dev s.cfg gm.toNat⟩
  · exact next_dev (if_pos (by simp [hon, hpol]))
  · exact next_same (if_neg (by rcases hoff with h | h <;> simp [h]))


/-! ### The end of a slew (R92) -/

theorem restSquelched_regs (d : Dev) (c : Cfg) : (d.restSquelched c).regs = d.regs := by rw [restSquelched_eq]

section
variable (d : Dev) (c : Cfg)

/-- The clock class changes one field of TBU.STATE. -/
theorem tbuClass_regsKept {ks : List Nat} (h : TBU.STATE ∈ ks) : RegsKept ks d (d.tbuClass c) := by
  obtain ⟨v, hv⟩ := tbuClass_shows d c
  rw [hv]
  exact regsKept_congr (regsKept_put regsKept_refl _ h) (restSquelched_regs _ c)

theorem tbuClass_f {lo n : Nat} (h : lo + n ≤ 16 ∨ 24 ≤ lo) : (d.tbuClass c).f TBU.STATE lo n = d.f TBU.STATE lo n := by
  obtain ⟨v, hv⟩ := tbuClass_shows d c
  rw [hv, Dev.f, Dev.w, restSquelched_regs, ← Dev.w, ← Dev.f]
  exact Dev.f_putF_apart d _ _ (by omega) (by omega)

theorem tbuState_tbuClass : tbuState (d.tbuClass c) = tbuState d := tbuClass_f d c (.inl (by omega))
theorem tbuSrc_tbuClass : tbuSrc (d.tbuClass c) = tbuSrc d := tbuClass_f d c (.inl (by omega))

theorem tbuClass_left : (d.tbuClass c).tbu.left = d.tbu.left := by rw [tbuClass_eq]
theorem tbuClass_e0 : (d.tbuClass c).tbu.e0 = d.tbu.e0 := by rw [tbuClass_eq]

end

/-- Where no source is refused, no refusal ends. -/
theorem outranked_none {d : Dev} (h : d.b TBU.STATE 8 = false) : d.outranked = d := if_neg (by simp [h])

theorem lockSlewed_slewing {d : Dev} (h : tbuState d = 2) : d.lockSlewed = d.putF TBU.STATE 0 2 1 := if_pos h

/-- SLEWING with no source refused ends LOCKED: RATE, the state and the class are all that is shown. -/
theorem slewEnd_slewing {d : Dev} (c : Cfg) (hslew : tbuState d = 2) (hrefused : d.b TBU.STATE 8 = false) :
    ∃ r, d.slewEnd c = ((d.zeroLeft.putI TBU.RATE r).putF TBU.STATE 0 2 1).tbuClass c := by
  obtain ⟨r, hr⟩ := slewEnd_shows d c
  have hstate : tbuState (d.zeroLeft.putI TBU.RATE r) = 2 := (Dev.f_put_ne d.zeroLeft _ _ _ (by decide)).trans hslew
  have hnone : ((d.zeroLeft.putI TBU.RATE r).putF TBU.STATE 0 2 1).b TBU.STATE 8 = false :=
    (Dev.b_putF_apart _ _ _ (by omega) (by omega)).trans ((Dev.b_put_ne d.zeroLeft _ _ (by decide)).trans hrefused)
  exact ⟨r, by rw [hr, lockSlewed_slewing hstate, outranked_none hnone]⟩

theorem slewEnd_locks {d : Dev} (c : Cfg) (hslew : tbuState d = 2) (hrefused : d.b TBU.STATE 8 = false) :
    RegsKept [TBU.STATE, TBU.RATE] d (d.slewEnd c) ∧ tbuState (d.slewEnd c) = 1 ∧ (d.slewEnd c).tbu.left = 0 := by
  obtain ⟨r, hr⟩ := slewEnd_slewing c hslew hrefused
  have hshown : RegsKept [TBU.STATE, TBU.RATE] d ((d.zeroLeft.putI TBU.RATE r).putF TBU.STATE 0 2 1) :=
    regsKept_put (regsKept_put (e := d.zeroLeft) (fun _ _ => rfl) _ (by simp)) _ (by simp)
  rw [hr, tbuState_tbuClass, tbuClass_left, Dev.putF_tbu]
  exact ⟨regsKept_trans hshown (tbuClass_regsKept _ c (by simp)), Dev.f_putF_self _ _ _ (by omega), rfl⟩

/-! ### The UTC offset of an Announce, the offset of a Sync (R91, R105, R419) -/

theorem putUtc_w (c : Cfg) (v : Word) : (c.putUtc v).w TBU.UTC_OFS = v ∧ (c.putUtc v).sh TBU.UTC_OFS = v := by
  have hreset : regReset TBU.UTC_OFS = 0 := by decide
  rw [Cfg.w, Cfg.sh, hreset]
  exact ⟨Assoc.get_set_self _ _ _ _, Assoc.get_set_self _ _ _ _⟩

theorem putUtc_w_ne (c : Cfg) (v : Word) {k : Nat} (h : k ≠ TBU.UTC_OFS) :
    (c.putUtc v).w k = c.w k ∧ (c.putUtc v).sh k = c.sh k :=
  ⟨Assoc.get_set_ne _ _ _ _ h, Assoc.get_set_ne _ _ _ _ h⟩

/-- Without a valid offset, or without a flagged leap, the offset announced is taken at once. -/
theorem sourceUtc_atOnce {s : State} (utc : Int) (valid l61 l59 : Bool)
    (h : bit (s.cfg.w TBU.UTC_OFS) 16 = false ∨ fld (s.cfg.w TBU.UTC_OFS) 17 2 = 0) :
    s.sourceUtc utc valid l61 l59 = { s with
      cfg := s.cfg.putUtc (wd (unsigned 16 utc + valid.toNat * 2 ^ 16 + l61.toNat * 2 ^ 17 + l59.toNat * 2 ^ 18)) } :=
  if_neg (by rcases h with h | h <;> simp [h])

section
variable {s : State} {port : Fin 4} {gm : BitVec 64}

section
variable (p1 cc acc p2 : BitVec 8) (var steps : BitVec 16) (utc : Int) (valid l61 l59 : Bool)

/-- An Announce of the selected source on the client port: the class follows it, the UTC offset is taken at once. -/
theorem announce_selected (hsrc : tbuSrc (s.dev.ptpReceive s.cfg port.val (.announce gm p1 cc acc var p2 steps utc valid l61 l59)) = 2)
    (hport : s.cfg.f TBU.SRC_CFG 4 2 = port.val)
    (hclient : (s.dev.ptpReceive s.cfg port.val (.announce gm p1 cc acc var p2 steps utc valid l61 l59)).f (ETH.STAT port.val) 4 4 = 9)
    (hnow : bit (s.cfg.w TBU.UTC_OFS) 16 = false ∨ fld (s.cfg.w TBU.UTC_OFS) 17 2 = 0) :
    exec (.ptpMessageReceive port (.announce gm p1 cc acc var p2 steps utc valid l61 l59)) s = .next { s with
      dev := (s.dev.ptpReceive s.cfg port.val (.announce gm p1 cc acc var p2 steps utc valid l61 l59)).tbuClass s.cfg
      cfg := s.cfg.putUtc (wd (unsigned 16 utc + valid.toNat * 2 ^ 16 + l61.toNat * 2 ^ 17 + l59.toNat * 2 ^ 18)) } :=
  (if_pos (by simp [hsrc, hport, hclient])).trans (congrArg Host.Outcome.next (sourceUtc_atOnce utc valid l61 l59 hnow))

theorem announce_elsewhere (h : tbuSrc (s.dev.ptpReceive s.cfg port.val (.announce gm p1 cc acc var p2 steps utc valid l61 l59)) ≠ 2
      ∨ s.cfg.f TBU.SRC_CFG 4 2 ≠ port.val) :
    exec (.ptpMessageReceive port (.announce gm p1 cc acc var p2 steps utc valid l61 l59)) s
      = .next { s with dev := s.dev.ptpReceive s.cfg port.val (.announce gm p1 cc acc var p2 steps utc valid l61 l59) } :=
  if_neg (by rcases h with h | h <;> simp [h])

end

/-- On the client port the Sync of the master announced there gives an offset (R91, R419). -/
theorem ptpReceive_sync {d : Dev} {c : Cfg} {n r : Nat} {gm : BitVec 64} (origin : Nat) (corr : BitVec 64) (log : Int) (sub : Fin 8)
    (hon : c.b ETHSW.PTP_CFG 0 = true) (hport : c.b (ETH.CFG n) 4 = true) (hclient : d.f (ETH.STAT n) 4 4 = 9)
    (hmaster : (d.port n).announce = some (gm, r)) :
    d.ptpReceive c n (.sync gm origin corr log sub) = d.putPort n { d.port n with
      syncs := ((origin : Int) + signed 64 corr.toNat / 65536 + (d.port n).pathDelay
        - ((d.tick * 5 + 5 * sub.val / 8 : Nat) - c.f (ETH.LAT n) 16 16), d.tick) :: (d.port n).syncs
      lastSync := some (d.tick, logTicks log) } :=
  (if_neg (by simp [hon, hport])).trans (if_pos (by simp [hclient, hmaster]))

end

theorem slewComplete_ends {s : State} (h : s.dev.tbu.left ≠ 0) :
    let per := 5 * max 1 (s.cfg.f TBU.SLEW 0 7)
    exec .slewComplete s = .next { s with
      dev := (s.dev.advanceTo (s.dev.tbu.leftTick + (s.dev.tbu.left.natAbs + per - 1) / per)).slewEnd s.cfg } :=
  next_dev (if_neg h)

/-- Settles O28: the slew that ends, an Announce of the selected source and of another, a Sync on the client port. -/
theorem slewAndUtc : Obligations.SlewAndUtc := by
  refine ⟨fun s hleft hslew hrefused => ?_, fun s port gm p1 cc acc p2 var steps utc valid l61 l59 hsrc hport hclient hnow => ?_,
    fun s port gm p1 cc acc p2 var steps utc valid l61 l59 => announce_elsewhere p1 cc acc p2 var steps utc valid l61 l59,
    fun s port gm origin corr log sub r hon hport hclient hmaster =>
      next_dev (ptpReceive_sync origin corr log sub hon hport hclient hmaster)⟩
  · have hends := slewComplete_ends hleft
    extract_lets per at hends
    obtain ⟨htick, _, _⟩ :=
      slewEnd_scale (s.dev.advanceTo (s.dev.tbu.leftTick + (s.dev.tbu.left.natAbs + per - 1) / per)) s.cfg
    obtain ⟨hkept, hlocked, hnone⟩ := slewEnd_locks
      (d := s.dev.advanceTo (s.dev.tbu.leftTick + (s.dev.tbu.left.natAbs + per - 1) / per)) s.cfg hslew hrefused
    exact ⟨_, hends, rfl, rfl, rfl, hkept, hlocked, hnone, htick ▸ le_max_left _ _⟩
  · obtain ⟨hlive, hshadow⟩ :=
      putUtc_w s.cfg (wd (unsigned 16 utc + valid.toNat * 2 ^ 16 + l61.toNat * 2 ^ 17 + l59.toNat * 2 ^ 18))
    exact ⟨_, announce_selected p1 cc acc p2 var steps utc valid l61 l59 hsrc hport hclient hnow, rfl, rfl, rfl, hlive,
      hshadow.trans hlive.symm, fun k => putUtc_w_ne s.cfg _⟩

/-! ### A second's evaluation with no source enabled (R90, R91) -/

/-- The rate is noted for the clock tests (R159). -/
def Dev.noteRate (d : Dev) : Dev := { d with rbb := { d.rbb with freqHist := (d.tbu.f :: d.rbb.freqHist).take 60 } }

/-- The four sources of Table 4.1 start anew. -/
def Dev.forgetSources (d : Dev) : Dev := (((d.putSource 1 {}).putSource 2 {}).putSource 3 {}).putSource 4 {}

/-- The four sources are judged in turn (R90, Table 4.1). -/
def Dev.judgeSources (d : Dev) (c : Cfg) : Dev :=
  let d := d.qualify c 1 6 2 (gnssShows d)
  ((d.qualify c 2 6 1 (ptpShows c d)).qualify c 3 5 1 (ppsShows c d)).qualify c 4 6 1 (canShows c d)

/-- The edge of PPS_IN is used up (R91). -/
def Dev.useEdge (d : Dev) : Dev := d.putSource 3 { d.source 3 with fresh := false }

/-- The offsets of the second are used up (R91). -/
def Dev.clearSyncs (d : Dev) (c : Cfg) : Dev :=
  d.putPort (c.f TBU.SRC_CFG 4 2) { d.port (c.f TBU.SRC_CFG 4 2) with syncs := [] }

/-- What an evaluation does once the sources are judged: it follows the step announced, the partner or a source. -/
def Dev.followSource (d : Dev) (c : Cfg) (was : Int) : Dev :=
  if stepPending d then d.showOffset
  else if partnerTimed d then d.partnerSecond c
  else
    let d := (d.partnerTimeLost c).refusedMeasure c was
    if stepPending d then d
    else if onSource d || (bestSource d).isSome then d.chooseSource c 5
    else d

theorem clockTests_noSolution {d : Dev} (c : Cfg) (h : d.tbu.gnss = none) : d.clockTests c = d.noteRate := by
  simp only [Dev.clockTests, h]
  rfl

theorem qualify_disabled {c : Cfg} {n : Nat} (d : Dev) (need limit : Nat) (o : SourceShown) (h : c.b TBU.SRC_CFG (n - 1) = false) :
    d.qualify c n need limit o = d.putSource n {} := if_pos (by simp [h])

theorem holdSecond_off {d : Dev} (c : Cfg) (h : tbuState d ≠ 3) : d.holdSecond c = d := if_pos (by simp [h])

theorem refusedMeasure_none {d : Dev} (c : Cfg) (was : Int) (h : d.b TBU.STATE 8 = false) : d.refusedMeasure c was = d :=
  if_pos (by simp [h])

theorem partnerTimed_alone {d : Dev} (h4 : d.mode ≠ 4) (h5 : d.mode ≠ 5) : partnerTimed d = false := by simp [partnerTimed, h4, h5]

theorem tbuState_congr {d e : Dev} (h : e.regs = d.regs) : tbuState e = tbuState d := by
  rw [tbuState, tbuState, Dev.f, Dev.f, Dev.w, Dev.w, h]

theorem onSource_freerun {d : Dev} (h : tbuState d = 0) : onSource d = false := by simp [onSource, h]

theorem source_forgetSources (d : Dev) {n : Nat} (h : n ∈ [1, 2, 3, 4]) : d.forgetSources.source n = {} := by
  simp only [List.mem_cons, List.not_mem_nil, or_false] at h
  rcases h with rfl | rfl | rfl | rfl <;> simp [Dev.forgetSources, source_putSource_ne]

/-- Free-running, alone and with no source to take, nothing is followed. -/
theorem followSource_freerun {d : Dev} (c : Cfg) (was : Int) (hstate : tbuState d = 0) (hpending : stepPending d = false)
    (hrefused : d.b TBU.STATE 8 = false) (h4 : d.mode ≠ 4) (h5 : d.mode ≠ 5) (hsrc : tbuSrc d ≠ 6) (hnone : bestSource d = none) :
    d.followSource c was = d := by
  have hmeasured : (d.partnerTimeLost c).refusedMeasure c was = d := by
    rw [partnerTimeLost_of_source c hsrc, refusedMeasure_none c was hrefused]
  rw [Dev.followSource, hmeasured]
  simp [hpending, partnerTimed_alone h4 h5, onSource_freerun hstate, hnone]

/-- The evaluation, step by step (R91). -/
theorem sourceEvaluation_steps (s : State) : exec (.sourceEvaluation () () () ()) s = .next { s with
    dev := (((((s.dev.clockTests s.cfg).judgeSources s.cfg).clearSyncs s.cfg).holdSecond s.cfg).followSource s.cfg
      ((s.dev.clockTests s.cfg).source (refusedSrc (s.dev.clockTests s.cfg))).offset).useEdge } := rfl

theorem judgeSources_disabled {c : Cfg} (d : Dev) (h : ∀ n, c.b TBU.SRC_CFG n = false) : d.judgeSources c = d.forgetSources := by
  simp only [Dev.judgeSources, qualify_disabled _ _ _ _ (h _), Dev.forgetSources]

/-- The units once the sources are judged, with nothing enabled. -/
def Dev.judgeNone (d : Dev) (c : Cfg) : Dev := d.noteRate.forgetSources.clearSyncs c

section
variable (d : Dev) (c : Cfg)

theorem forgetSources_eq : d.forgetSources = { d with tbu := d.forgetSources.tbu } := by
  simp only [Dev.forgetSources, Dev.putSource]

theorem clearSyncs_eq : d.clearSyncs c = { d with sw := (d.clearSyncs c).sw } := rfl

theorem clearSyncs_tbu : (d.clearSyncs c).tbu = d.tbu := rfl

theorem judgeNone_eq : d.judgeNone c = { d with
    tbu := (d.judgeNone c).tbu, rbb := (d.judgeNone c).rbb, sw := (d.judgeNone c).sw } := by
  unfold Dev.judgeNone
  rw [clearSyncs_eq, forgetSources_eq]
  rfl

theorem judgeNone_regs : (d.judgeNone c).regs = d.regs := by rw [judgeNone_eq]

theorem judgeNone_w (k : Nat) : (d.judgeNone c).w k = d.w k := by rw [Dev.w, Dev.w, judgeNone_regs]

theorem source_judgeNone {n : Nat} (h : n ∈ [1, 2, 3, 4]) : (d.judgeNone c).source n = {} :=
  (source_congr (clearSyncs_tbu d.noteRate.forgetSources c) n).trans (source_forgetSources _ h)

theorem useEdge_eq : d.useEdge = { d with tbu := d.useEdge.tbu } := by
  simp only [Dev.useEdge, Dev.putSource]

theorem evaluated_regs : (d.judgeNone c).useEdge.regs = d.regs := by rw [useEdge_eq, judgeNone_regs]

theorem source_useEdge_judgeNone {n : Nat} (h : n ∈ [1, 2, 3, 4]) : (d.judgeNone c).useEdge.source n = {} := by
  unfold Dev.useEdge
  by_cases hn : n = 3
  · rw [hn, source_putSource, source_judgeNone d c (by simp)]
  · rw [source_putSource_ne _ _ hn, source_judgeNone d c h]

end

/-- Of the units the timebase, its clock tests and the switch change. -/
theorem evaluated_effect (s : State) : Effect s { s with dev := (s.dev.judgeNone s.cfg).useEdge } [] fun d => { d with
    tbu := (s.dev.judgeNone s.cfg).useEdge.tbu, rbb := (s.dev.judgeNone s.cfg).useEdge.rbb
    sw := (s.dev.judgeNone s.cfg).useEdge.sw } := by
  refine ⟨rfl, ?_, regsKept_congr regsKept_refl (evaluated_regs s.dev s.cfg)⟩
  show (s.dev.judgeNone s.cfg).useEdge = _
  rw [useEdge_eq, judgeNone_eq]

theorem sourceEvaluation_none {s : State} (hoff : ∀ n, s.cfg.b TBU.SRC_CFG n = false) (hstate : tbuState s.dev = 0)
    (hpending : s.dev.b TBU.STATE 9 = false) (hrefused : s.dev.b TBU.STATE 8 = false) (h4 : s.dev.mode ≠ 4) (h5 : s.dev.mode ≠ 5)
    (hsrc : tbuSrc s.dev ≠ 6) (hgnss : s.dev.tbu.gnss = none) :
    exec (.sourceEvaluation () () () ()) s = .next { s with dev := (s.dev.judgeNone s.cfg).useEdge } := by
  have hnone : bestSource (s.dev.judgeNone s.cfg) = none := bestSource_none fun n hn => .inl (by rw [source_judgeNone _ _ hn])
  have hjudged : (((s.dev.clockTests s.cfg).judgeSources s.cfg).clearSyncs s.cfg) = s.dev.judgeNone s.cfg := by
    rw [clockTests_noSolution _ hgnss, judgeSources_disabled _ hoff, Dev.judgeNone]
  have hfree : tbuState (s.dev.judgeNone s.cfg) = 0 := (tbuState_congr (judgeNone_regs _ _)).trans hstate
  have hheld : (s.dev.judgeNone s.cfg).holdSecond s.cfg = s.dev.judgeNone s.cfg := holdSecond_off _ (by omega)
  rw [sourceEvaluation_steps, hjudged, hheld, followSource_freerun s.cfg _ hfree]
  · rw [stepPending, Dev.b, judgeNone_w]; exact hpending
  · rw [Dev.b, judgeNone_w]; exact hrefused
  · rw [Dev.mode, Dev.f, judgeNone_w]; exact h4
  · rw [Dev.mode, Dev.f, judgeNone_w]; exact h5
  · rw [tbuSrc_congr (judgeNone_regs _ _)]; exact hsrc
  · exact hnone

/-! ### A source is taken, disciplined by or refused (R91, R92, R97) -/

section
variable {d : Dev} {n : Nat} (c : Cfg) (fuel : Nat)

theorem chooseSource_within {c : Cfg} (hbest : bestSource d = some n) (hthr : withinThr c (d.source n).offset = true) :
    d.chooseSource c (fuel + 1) = if onSource d && n = tbuSrc d then d.disciplineFrom c n else d.takeSource c n := by
  simp [Dev.chooseSource, hbest, hthr]

theorem chooseSource_none (hbest : bestSource d = none) : d.chooseSource c (fuel + 1) = d.holdover c := by
  simp only [Dev.chooseSource, hbest]

end

/-- JUMP_REFUSED, CONSISTENT and the number of the source that is refused are shown. -/
def Dev.showRefusal (d : Dev) (n : Nat) : Dev := ((d.putB TBU.STATE 8 true).putF TBU.STATE 12 4 1).putF TBU.STATE 24 3 n

/-- Source `n` may not be taken. -/
def Dev.markRefused (d : Dev) (n : Nat) : Dev := d.putSource n { d.source n with refused := true }

theorem refuse_shows (d : Dev) (n : Nat) (theta : Int) : d.refuse n theta = ((d.markRefused n).showRefusal n).event 0x0404 [theta, n] := rfl

section
variable (d : Dev) (n : Nat)

theorem showRefusal_tbu : (d.showRefusal n).tbu = d.tbu := by rw [Dev.showRefusal, Dev.putF_tbu, Dev.putF_tbu, Dev.putB_tbu]

theorem showRefusal_regsKept : RegsKept [TBU.STATE] d (d.showRefusal n) :=
  have hmem := List.mem_singleton_self TBU.STATE
  regsKept_put (regsKept_put (regsKept_put regsKept_refl _ hmem) _ hmem) _ hmem

theorem showRefusal_fields (h : n < 8) : (d.showRefusal n).b TBU.STATE 8 = true ∧ refusedSrc (d.showRefusal n) = n
    ∧ (d.showRefusal n).f TBU.STATE 12 4 = 1 := by
  refine ⟨?_, (Dev.f_putF_self _ _ _ (by omega)).trans (Nat.mod_eq_of_lt h), ?_⟩
  · exact (Dev.b_putF_apart _ _ _ (by omega) (by omega)).trans
      ((Dev.b_putF_apart _ _ _ (by omega) (by omega)).trans (Dev.b_putB_self _ _ _ (by omega)))
  · exact (Dev.f_putF_apart _ _ _ (by omega) (by omega)).trans (Dev.f_putF_self _ _ _ (by omega))

variable (theta : Int)

theorem refuse_state (h : n < 8) : (d.refuse n theta).b TBU.STATE 8 = true ∧ refusedSrc (d.refuse n theta) = n
    ∧ (d.refuse n theta).f TBU.STATE 12 4 = 1 := by
  rw [refuse_shows, refusedSrc, Dev.b, Dev.f, Dev.f, Dev.w_event]
  exact showRefusal_fields (d.markRefused n) n h

theorem refuse_source : ((d.refuse n theta).source n).refused = true := by
  rw [refuse_shows, source_congr (Dev.event_tbu _ _ _), source_congr (showRefusal_tbu _ _), Dev.markRefused, source_putSource]

theorem refuse_regsKept : RegsKept [TBU.STATE] d (d.refuse n theta) :=
  regsKept_congr (regsKept_trans (fun _ _ => rfl) (showRefusal_regsKept (d.markRefused n) n)) (Dev.event_regs _ _ _)

theorem refuse_occ : (d.refuse n theta).occ = d.occ ++ [⟨0x0404, d.tick, d.eventBeat, [theta, n]⟩] := by
  have hbeat : ((d.markRefused n).showRefusal n).eventBeat = d.eventBeat := by
    rw [Dev.eventBeat, Dev.showRefusal, Dev.putF_esc, Dev.putF_esc, Dev.putB_esc]
    rfl
  rw [refuse_shows, Dev.event_occ, hbeat, Dev.showRefusal, Dev.putF_occ, Dev.putF_occ, Dev.putB_occ, Dev.putF_tick, Dev.putF_tick,
    Dev.putB_tick]
  rfl

end

/-! ### HOLDOVER (R94, R95) -/

/-- The uncertainty at the start of the holdover is kept (R95). -/
def Dev.noteError (d : Dev) (e0 : Nat) : Dev := { d with tbu := { d.tbu with e0 := e0, firstOffset := true } }

/-- The registers as they show the holdover, its time 0. -/
def Dev.showHoldover (d : Dev) : Dev := ((d.putF TBU.STATE 0 2 3).putF TBU.STATE 4 3 5).putN TBU.HOLD_TIME 0

section
variable (d : Dev)

theorem showHoldover_state : (d.showHoldover).f TBU.STATE 0 2 = 3 ∧ d.showHoldover.f TBU.STATE 4 3 = 5 := by
  rw [Dev.showHoldover, Dev.f_putN_ne _ _ _ _ (by decide), Dev.f_putN_ne _ _ _ _ (by decide)]
  exact ⟨(Dev.f_putF_apart _ _ _ (by omega) (by omega)).trans (Dev.f_putF_self _ _ _ (by omega)), Dev.f_putF_self _ _ _ (by omega)⟩

theorem showHoldover_time : d.showHoldover.w TBU.HOLD_TIME = 0 := by
  rw [Dev.showHoldover, Dev.w_putN_self]
  rfl

theorem showHoldover_regsKept : RegsKept [TBU.STATE, TBU.HOLD_TIME] d d.showHoldover :=
  regsKept_put (regsKept_put (regsKept_put regsKept_refl _ (by simp)) _ (by simp)) _ (by simp)

theorem showHoldover_tbu : d.showHoldover.tbu = d.tbu := by rw [Dev.showHoldover, Dev.putN_tbu, Dev.putF_tbu, Dev.putF_tbu]

end

theorem holdover_enters {d : Dev} (c : Cfg) (h : tbuState d = 1 ∨ tbuState d = 2) :
    d.holdover c = ((((d.noteError (d.w TBU.EST_ERR).toNat).dropSlew c).showHoldover).event 0x0402
      [((d.w TBU.EST_ERR).toNat : Int)]).tbuClass c :=
  if_neg (by rcases h with h | h <;> simp [h])

theorem holdover_stays {d : Dev} (c : Cfg) (h : tbuState d = 0 ∨ tbuState d = 3) : d.holdover c = d :=
  if_pos (by rcases h with h | h <;> simp [h])

section
variable {d : Dev} (c : Cfg) (h : tbuState d = 1 ∨ tbuState d = 2)
include h

theorem holdover_state : tbuState (d.holdover c) = 3 ∧ tbuSrc (d.holdover c) = 5 := by
  rw [holdover_enters c h, tbuState_tbuClass, tbuSrc_tbuClass, tbuState, tbuSrc, Dev.f, Dev.f, Dev.w_event]
  exact showHoldover_state _

theorem holdover_e0 : (d.holdover c).tbu.e0 = (d.w TBU.EST_ERR).toNat := by
  rw [holdover_enters c h, tbuClass_e0, Dev.event_tbu, showHoldover_tbu, dropSlew_eq]
  rfl

theorem holdover_time : (d.holdover c).w TBU.HOLD_TIME = 0 := by
  rw [holdover_enters c h, tbuClass_regsKept _ c (List.mem_singleton_self _) _ (by decide), Dev.w_event, showHoldover_time]

theorem holdover_estErr : (d.holdover c).w TBU.EST_ERR = d.w TBU.EST_ERR := by
  have hdropped := dropSlew_regsKept (ks := [TBU.STATE, TBU.RATE]) (d.noteError (d.w TBU.EST_ERR).toNat) c (by simp) (by simp)
  rw [holdover_enters c h, tbuClass_regsKept _ c (List.mem_singleton_self _) _ (by decide), Dev.w_event,
    showHoldover_regsKept _ _ (by decide), hdropped _ (by decide)]
  rfl

end

/-! ### Qualification (R90) -/

section
variable {c : Cfg} {d : Dev} {n : Nat} (need limit : Nat) {o : SourceShown} (hon : c.b TBU.SRC_CFG (n - 1) = true)
include hon

theorem qualify_good {v : Int} {t : Nat} (hn : n ≠ 3) (hgood : o.good = true) (hbad : o.bad = false) (hoffset : o.offset = some (v, t))
    (hnew : d.source n = {}) : d.qualify c n need limit o
      = d.putSource n { good := min need 1, qualified := decide (need ≤ 1), offset := v, refTick := t, unc := o.unc, fresh := true } := by
  simp [Dev.qualify, hon, hn, hgood, hbad, hoffset, hnew]

theorem qualify_bad (hbad : o.bad = true) (hlimit : limit ≤ (d.source n).bad + 1) :
    ((d.qualify c n need limit o).source n).qualified = false ∧ ((d.qualify c n need limit o).source n).good = 0 := by
  cases hoffset : o.offset <;> simp [Dev.qualify, hon, hbad, hoffset, hlimit]

end

/-- Settles O26: an evaluation with nothing enabled, the choice of a source, HOLDOVER, a refusal, good and failing evaluations. -/
theorem sourceDiscipline : Obligations.SourceDiscipline := by
  refine ⟨fun s hoff hstate hpending hrefused h4 h5 hsrc hgnss => ?_, fun c d n fuel hbest hthr => ⟨fun hon hn => ?_, fun hoff => ?_⟩,
    fun c d fuel => chooseSource_none c fuel, fun c d => holdover_stays c, fun c d h => ?_, fun d n theta hn => ?_,
    fun c d n need limit o v t hon hn hgood hbad hoffset hnew => ?_, fun c d n need limit o => qualify_bad need limit⟩
  · exact ⟨_, sourceEvaluation_none hoff hstate hpending hrefused h4 h5 hsrc hgnss, evaluated_effect s,
      fun n hn => source_useEdge_judgeNone _ _ hn⟩
  · rw [chooseSource_within fuel hbest hthr, if_pos (by simp [hon, hn])]
  · rw [chooseSource_within fuel hbest hthr, if_neg (by simp [hoff])]
  · obtain ⟨hstate, hsrc⟩ := holdover_state c h
    exact ⟨hstate, hsrc, holdover_time c h, holdover_e0 c h, holdover_estErr c h⟩
  · obtain ⟨hshown, hnumber, hconsistent⟩ := refuse_state d n theta hn
    exact ⟨hshown, hnumber, hconsistent, refuse_source d n theta, refuse_regsKept d n theta, refuse_occ d n theta⟩
  · rw [qualify_good need limit hon hn hgood hbad hoffset hnew, source_putSource]
end Sys2Proof.Machine
end

section
/-! SUPPORT. Ranging channels: their registers, starts and stops, acquisition, tracking, loss of lock and reacquisition. -/
namespace Sys2Proof.Machine

/-! ### Outcomes and registers of channels -/

/-- What a register write answers, where it makes the units `e`. -/
theorem done_dev {s : State} {d e : Dev} (h : d = e) :
    (.next { s with dev := d, bus := .done 0 } : Out) = .next { s with dev := e, bus := .done 0 } := by rw [h]

/-- Two registers of one channel. -/
theorem channelKeys_ne {a b n : Nat} (h : a ≠ b) : a + 0x100000000 * n ≠ b + 0x100000000 * n := by omega

/-- A register of a channel, and one that lies below it outside the channels. -/
theorem channelKey_ne {a b n : Nat} (h : b < a) : a + 0x100000000 * n ≠ b := by omega

/-- A register of a channel, and the status register of an engine. -/
theorem chStat_ne_engStat {n e : Nat} (h : e < 2) : RBB.CH_STAT n ≠ RBB.ENG_STAT e :=
  channelKey_ne (by unfold RBB.ENG_STAT; omega)

theorem b_of_regsKept {ks : List Nat} {d e : Dev} (h : RegsKept ks d e) {k : Nat} (hk : k ∉ ks) (i : Nat) : e.b k i = d.b k i := by
  rw [Dev.b, Dev.b, h k hk]

/-- The status register of a channel after writes of others. -/
theorem chState_congr {d e : Dev} {n : Nat} (h : e.w (RBB.CH_STAT n) = d.w (RBB.CH_STAT n)) : chState e n = chState d n := by
  rw [chState, chState, Dev.f, Dev.f, h]

section
variable (d : Dev) (n : Nat) (x : ChanDev)

@[simp] theorem chan_putChan : (d.putChan n x).chan n = x := Assoc.get_set_self _ _ _ _
@[simp] theorem w_putChan (k : Nat) : (d.putChan n x).w k = d.w k := rfl
@[simp] theorem putChan_tick : (d.putChan n x).tick = d.tick := rfl
@[simp] theorem putChan_occ : (d.putChan n x).occ = d.occ := rfl
@[simp] theorem putChan_eventBeat : (d.putChan n x).eventBeat = d.eventBeat := rfl
@[simp] theorem putChan_queue : (d.putChan n x).rbb.queue = d.rbb.queue := rfl
@[simp] theorem putChan_engine (e : Nat) : (d.putChan n x).engine e = d.engine e := rfl

theorem putChan_regsKept {ks : List Nat} {d e : Dev} (h : RegsKept ks d e) : RegsKept ks d (e.putChan n x) := h

end

/-- What a channel holds, what an engine holds and the queue, where the baseband holds the same. -/
theorem chan_congr {d e : Dev} (h : e.rbb = d.rbb) (n : Nat) : e.chan n = d.chan n := by rw [Dev.chan, Dev.chan, h]
theorem engine_congr {d e : Dev} (h : e.rbb = d.rbb) (m : Nat) : e.engine m = d.engine m := by rw [Dev.engine, Dev.engine, h]

section
variable (d : Dev) (n code : Nat) (ps : List Int)

theorem chState_event : chState (d.event code ps) n = chState d n := rfl
theorem chan_event : (d.event code ps).chan n = d.chan n := rfl
theorem engine_event : (d.event code ps).engine n = d.engine n := rfl
theorem b_event (k i : Nat) : (d.event code ps).b k i = d.b k i := rfl

end

/-! ### A channel changes state (Table 5.8, Table 5.12, Table 6.4) -/

section
variable (d : Dev) (n st : Nat)

theorem chEnter_regsKept : RegsKept [RBB.CH_ALLOC, RBB.VEC_STAT, RBB.CH_STAT n] d (d.chEnter n st) :=
  regsKept_put (regsKept_put (regsKept_put regsKept_refl _ (by simp)) _ (by simp)) _ (by simp)

/-- The other registers of a channel stay. -/
theorem w_chEnter {a : Nat} (h : RBB.VEC_STAT < a ∧ a ≠ RBB.CH_STAT 0) :
    (d.chEnter n st).w (a + 0x100000000 * n) = d.w (a + 0x100000000 * n) :=
  have halloc : RBB.CH_ALLOC < RBB.VEC_STAT := by decide
  chEnter_regsKept d n st _ (by
    simp only [List.mem_cons, List.not_mem_nil, or_false, not_or]
    exact ⟨channelKey_ne (halloc.trans h.1), channelKey_ne h.1, channelKeys_ne h.2⟩)

theorem chState_chEnter {st : Nat} (h : st < 16) : chState (d.chEnter n st) n = st :=
  (Dev.f_putF_self _ _ _ (by omega)).trans (Nat.mod_eq_of_lt h)

/-- The fields of the status above the state stay. -/
theorem f_chEnter {lo m : Nat} (h : 4 ≤ lo) : (d.chEnter n st).f (RBB.CH_STAT n) lo m = d.f (RBB.CH_STAT n) lo m :=
  (Dev.f_putF_apart _ _ _ (by omega) (.inl h)).trans
    ((Dev.f_putF_ne _ _ _ _ _ _ (channelKey_ne (by decide))).trans (Dev.f_putF_ne _ _ _ _ _ _ (channelKey_ne (by decide))))

theorem b_chEnter {i : Nat} (h : 4 ≤ i) : (d.chEnter n st).b (RBB.CH_STAT n) i = d.b (RBB.CH_STAT n) i :=
  (Dev.b_putF_apart _ _ _ (by omega) (.inr h)).trans
    ((Dev.b_putF_ne _ _ _ _ _ (channelKey_ne (by decide))).trans (Dev.b_putF_ne _ _ _ _ _ (channelKey_ne (by decide))))

@[simp] theorem chEnter_tick : (d.chEnter n st).tick = d.tick := by simp only [Dev.chEnter, Dev.putF_tick]
@[simp] theorem chEnter_occ : (d.chEnter n st).occ = d.occ := by simp only [Dev.chEnter, Dev.putF_occ]
@[simp] theorem chEnter_rbb : (d.chEnter n st).rbb = d.rbb := by simp only [Dev.chEnter, Dev.putF_rbb]
@[simp] theorem chEnter_esc : (d.chEnter n st).esc = d.esc := by simp only [Dev.chEnter, Dev.putF_esc]
@[simp] theorem chEnter_eventBeat : (d.chEnter n st).eventBeat = d.eventBeat := by rw [Dev.eventBeat, chEnter_esc, Dev.eventBeat]

end

/-! ### Writes of a channel's registers (R125, R127) -/

section
variable {s : State} {w : Fin 4} {v : Word}

theorem chIntegrates_iff (d : Dev) (n : Nat) : chIntegrates d n = true ↔ 2 ≤ chState d n := by simp [chIntegrates]

theorem chCfgWrite_ignored (h : chState s.dev (windowChan s.dev w.val) ≠ 0) (reg : ChCfgReg) :
    exec (.chCfgWrite w reg v) s = .next { s with bus := .done 0, dev := s.dev.bump RBB.CH_IGN_CNT } := done_dev (if_neg h)

theorem chLoopWrite_loop_atOnce (h : chState s.dev (windowChan s.dev w.val) < 2) :
    exec (.chLoopWrite w .loop v) s = .next { s with
      bus := .done 0
      dev := s.dev.put (RBB.CH_LOOP (windowChan s.dev w.val)) (v &&& keyMask (RBB.CH_LOOP (windowChan s.dev w.val))) } :=
  done_dev (if_neg (by rw [chIntegrates_iff]; omega))

theorem chLoopWrite_loop_waits (h : 2 ≤ chState s.dev (windowChan s.dev w.val)) :
    exec (.chLoopWrite w .loop v) s = .next { s with
      bus := .done 0
      dev := s.dev.putChan (windowChan s.dev w.val) { s.dev.chan (windowChan s.dev w.val) with
        pendLoop := some (v &&& keyMask (RBB.CH_LOOP (windowChan s.dev w.val))) } } :=
  done_dev (if_pos ((chIntegrates_iff _ _).mpr h))

theorem chLoopWrite_corr_atOnce (h : chState s.dev (windowChan s.dev w.val) = 0) :
    exec (.chLoopWrite w .corr v) s = .next { s with
      bus := .done 0
      dev := s.dev.put (RBB.CH_CORR (windowChan s.dev w.val)) (v &&& keyMask (RBB.CH_CORR (windowChan s.dev w.val))) } :=
  done_dev ((if_neg (by simp [h])).trans (if_neg (by rw [chIntegrates_iff]; omega)))

theorem chLoopWrite_corr_waits (h : 2 ≤ chState s.dev (windowChan s.dev w.val))
    (hspacing : spacingOk (chSig s.dev (windowChan s.dev w.val))
      (fld (v &&& keyMask (RBB.CH_CORR (windowChan s.dev w.val))) 0 7) = true) :
    exec (.chLoopWrite w .corr v) s = .next { s with
      bus := .done 0
      dev := s.dev.putChan (windowChan s.dev w.val) { s.dev.chan (windowChan s.dev w.val) with
        pendCorr := some (v &&& keyMask (RBB.CH_CORR (windowChan s.dev w.val))) } } :=
  done_dev ((if_neg (by simp [hspacing])).trans (if_pos ((chIntegrates_iff _ _).mpr h)))

theorem chLoopWrite_corr_ignored (h : chState s.dev (windowChan s.dev w.val) ≠ 0)
    (hspacing : spacingOk (chSig s.dev (windowChan s.dev w.val))
      (fld (v &&& keyMask (RBB.CH_CORR (windowChan s.dev w.val))) 0 7) = false) :
    exec (.chLoopWrite w .corr v) s = .next { s with bus := .done 0, dev := s.dev.bump RBB.CH_IGN_CNT } :=
  done_dev (if_pos (by simp [h, hspacing]))

end

/-! ### The acquisition queue and its engines (R129) -/

section
variable (d : Dev) (n : Nat)

theorem enqueue_regsKept : RegsKept [RBB.ACQ_QUEUE] d (d.enqueue n) :=
  regsKept_put (e := { d with rbb := { d.rbb with queue := d.rbb.queue ++ [n] } }) (fun _ _ => rfl) _ (by simp)

theorem w_enqueue {k : Nat} (h : k ≠ RBB.ACQ_QUEUE) : (d.enqueue n).w k = d.w k :=
  enqueue_regsKept d n k (by simpa using h)

theorem enqueue_queue : (d.enqueue n).rbb.queue = d.rbb.queue ++ [n] := rfl
theorem enqueue_tick : (d.enqueue n).tick = d.tick := rfl
theorem chan_enqueue (m : Nat) : (d.enqueue n).chan m = d.chan m := rfl

/-- What ENGe_STAT shows of an engine: whether it searches, and for which channel. -/
def engineWord (x : EngineDev) : Nat :=
  match x.ch with
  | none => 0
  | some n => 1 + n * 2

variable (e : Nat) (x : EngineDev)

theorem putEngine_eq : d.putEngine e x
    = ({ d with rbb := { d.rbb with engines := Assoc.set {} d.rbb.engines e x } } : Dev).putN (RBB.ENG_STAT e) (engineWord x) := by
  unfold Dev.putEngine engineWord
  cases x.ch <;> rfl

theorem putEngine_regsKept : RegsKept [RBB.ENG_STAT e] d (d.putEngine e x) := by
  rw [putEngine_eq]
  exact regsKept_put (fun _ _ => rfl) _ (by simp)

@[simp] theorem engine_putEngine : (d.putEngine e x).engine e = x := by
  rw [putEngine_eq]
  exact Assoc.get_set_self _ _ _ _

theorem engine_putEngine_ne {m : Nat} (h : m ≠ e) : (d.putEngine e x).engine m = d.engine m := by
  rw [putEngine_eq]
  exact Assoc.get_set_ne _ _ _ _ h

theorem w_putEngine : (d.putEngine e x).w (RBB.ENG_STAT e) = wd (engineWord x) := by rw [putEngine_eq, Dev.w_putN_self]

@[simp] theorem putEngine_tick : (d.putEngine e x).tick = d.tick := by rw [putEngine_eq]; rfl
@[simp] theorem putEngine_occ : (d.putEngine e x).occ = d.occ := by rw [putEngine_eq]; rfl
@[simp] theorem putEngine_eventBeat : (d.putEngine e x).eventBeat = d.eventBeat := by rw [putEngine_eq]; rfl
@[simp] theorem putEngine_queue : (d.putEngine e x).rbb.queue = d.rbb.queue := by rw [putEngine_eq]; rfl

end

/-! ### A channel enters PULL_IN (R126, R129, R131, R132) -/

/-- What a channel takes over as it enters PULL_IN: code phase, Doppler and the instant; the FLL runs alone. -/
def Dev.setPull (d : Dev) (n code : Nat) (dop : Word) : Dev :=
  d.putChan n { d.chan n with
    goodSince := none, lowSince := none, codePhase := code, doppler := dop, codeTick := d.tick, pullTick := d.tick, prompts := []
    requeue := none, served := false, pll := false }

section
variable (d : Dev) (n code : Nat) (dop : Word)

theorem w_setPull (k : Nat) : (d.setPull n code dop).w k = d.w k := rfl

theorem pullIn_eq : d.pullIn n code dop = ((d.setPull n code dop).putB (RBB.CH_STAT n) 24 false).chEnter n 2 := rfl

theorem pullIn_rbb : (d.pullIn n code dop).rbb = (d.setPull n code dop).rbb := by rw [pullIn_eq, chEnter_rbb, Dev.putB_rbb]

theorem chState_pullIn : chState (d.pullIn n code dop) n = 2 := by
  rw [pullIn_eq]
  exact chState_chEnter _ n (by omega)

theorem f_pullIn {lo m : Nat} (hlo : 4 ≤ lo) (hm : lo + m ≤ 24) :
    (d.pullIn n code dop).f (RBB.CH_STAT n) lo m = d.f (RBB.CH_STAT n) lo m := by
  rw [pullIn_eq, f_chEnter _ n 2 hlo, Dev.f_putB_apart _ _ _ (by omega) (.inr hm), Dev.f, w_setPull]
  rfl

/-- The other registers of the channel stay. -/
theorem w_pullIn {a : Nat} (h : RBB.VEC_STAT < a ∧ a ≠ RBB.CH_STAT 0) :
    (d.pullIn n code dop).w (a + 0x100000000 * n) = d.w (a + 0x100000000 * n) := by
  have hne : a + 0x100000000 * n ≠ RBB.CH_STAT n := channelKeys_ne h.2
  rw [pullIn_eq, w_chEnter _ n 2 h, Dev.w_putB_ne _ _ _ hne, w_setPull]

theorem pullIn_unlocked : (d.pullIn n code dop).b (RBB.CH_STAT n) 24 = false := by
  rw [pullIn_eq, b_chEnter _ n 2 (by omega), Dev.b_putB_self _ _ _ (by omega)]

theorem chan_pullIn : (d.pullIn n code dop).chan n = { d.chan n with
    goodSince := none, lowSince := none, codePhase := code, doppler := dop, codeTick := d.tick, pullTick := d.tick, prompts := []
    requeue := none, served := false, pll := false } := by
  rw [chan_congr (pullIn_rbb d n code dop), Dev.setPull, chan_putChan]

theorem pullIn_engine (e : Nat) : (d.pullIn n code dop).engine e = d.engine e := by
  rw [engine_congr (pullIn_rbb d n code dop), Dev.setPull, putChan_engine]

theorem pullIn_occ : (d.pullIn n code dop).occ = d.occ := by rw [pullIn_eq, chEnter_occ, Dev.putB_occ, Dev.setPull, putChan_occ]
theorem pullIn_tick : (d.pullIn n code dop).tick = d.tick := by rw [pullIn_eq, chEnter_tick, Dev.putB_tick, Dev.setPull, putChan_tick]
theorem pullIn_eventBeat : (d.pullIn n code dop).eventBeat = d.eventBeat := by
  rw [pullIn_eq, chEnter_eventBeat, putB_eventBeat, Dev.setPull, putChan_eventBeat]

end

/-! ### Starts (R126, Table 5.9) -/

section
variable (d : Dev) (n : Nat)

/-- The registers at a START that is carried out: CH_STAT keeps the state, the counts are 0. -/
theorem w_chStart (k : Nat) : (d.chStart n).w k
    = (((d.put (RBB.CH_STAT n) (wd (chState d n))).putN (RBB.CH_LOSS_CNT n) 0).putN (RBB.CH_LOCK_MS n) 0).w k := w_putChan _ _ _ _

theorem chStart_tick : (d.chStart n).tick = d.tick := rfl
theorem chStart_queue : (d.chStart n).rbb.queue = d.rbb.queue := rfl

theorem chStart_result : (d.chStart n).f (RBB.CH_STAT n) 4 4 = 0 := by
  have hstat : (d.chStart n).w (RBB.CH_STAT n) = wd (chState d n) :=
    (w_chStart d n _).trans ((Dev.w_putN_ne _ _ (channelKeys_ne (by decide))).trans
      ((Dev.w_putN_ne _ _ (channelKeys_ne (by decide))).trans (Dev.w_put_self _ _ _)))
  have hstate : chState d n < 2 ^ 4 := Dev.f_lt _ _ _ _
  rw [Dev.f, hstat, fld, wd, BitVec.toNat_ofNat]
  omega

theorem chStart_losses : (d.chStart n).w (RBB.CH_LOSS_CNT n) = 0 :=
  (w_chStart d n _).trans ((Dev.w_putN_ne _ _ (channelKeys_ne (by decide))).trans (Dev.w_putN_self _ _ _))

theorem chStart_lockTime : (d.chStart n).w (RBB.CH_LOCK_MS n) = 0 := (w_chStart d n _).trans (Dev.w_putN_self _ _ _)

theorem chan_chStart : (d.chStart n).chan n = {} := chan_putChan _ n _

/-- A START_AIDED carried out: the result, the counts, and a channel that holds its aid alone. -/
theorem chStart_pullIn_shows (code : Nat) (dop : Word) : let t := (d.chStart n).pullIn n code dop
    t.f (RBB.CH_STAT n) 4 4 = 0 ∧ t.w (RBB.CH_LOSS_CNT n) = 0 ∧ t.w (RBB.CH_LOCK_MS n) = 0
      ∧ t.chan n = { ({} : ChanDev) with codePhase := code, doppler := dop, codeTick := d.tick, pullTick := d.tick } := by
  refine ⟨?_, ?_, ?_, ?_⟩
  · rw [f_pullIn _ _ _ _ (by omega) (by omega), chStart_result]
  · exact (w_pullIn (d.chStart n) n code dop (by decide)).trans (chStart_losses d n)
  · exact (w_pullIn (d.chStart n) n code dop (by decide)).trans (chStart_lockTime d n)
  · rw [chan_pullIn, chan_chStart, chStart_tick]

/-- A START_ACQ carried out: WAIT_ACQ with the result 0, at the tail of the queue. -/
theorem chStart_enqueue_shows : let t := ((d.chStart n).chEnter n 1).enqueue n
    chState t n = 1 ∧ t.f (RBB.CH_STAT n) 4 4 = 0 ∧ t.rbb.queue = d.rbb.queue ++ [n] := by
  have hkept : (((d.chStart n).chEnter n 1).enqueue n).w (RBB.CH_STAT n) = ((d.chStart n).chEnter n 1).w (RBB.CH_STAT n) :=
    w_enqueue _ n (channelKey_ne (by decide))
  refine ⟨?_, ?_, ?_⟩
  · rw [chState_congr hkept, chState_chEnter _ _ (by omega)]
  · rw [Dev.f, hkept, ← Dev.f, f_chEnter _ _ _ (by omega), chStart_result]
  · rw [enqueue_queue, chEnter_rbb, chStart_queue]

end

section
variable {s : State} {w : Fin 4} {r : Nat}

theorem startAided_refused (hr : r ≠ 0) (h : startResult s.cfg s.dev (windowChan s.dev w.val) true = r) :
    exec (.startAided w) s = .next { s with
      bus := .done 0, dev := s.dev.putF (RBB.CH_STAT (windowChan s.dev w.val)) 4 4 r } := by
  subst h
  exact done_dev (if_pos (by simpa using hr))

theorem startAcq_refused (hr : r ≠ 0) (h : startResult s.cfg s.dev (windowChan s.dev w.val) false = r) :
    exec (.startAcq w) s = .next { s with
      bus := .done 0, dev := s.dev.putF (RBB.CH_STAT (windowChan s.dev w.val)) 4 4 r } := by
  subst h
  exact done_dev (if_pos (by simpa using hr))

theorem startAided_taken (h : startResult s.cfg s.dev (windowChan s.dev w.val) true = 0) :
    exec (.startAided w) s = .next { s with
      bus := .done 0
      dev := (s.dev.chStart (windowChan s.dev w.val)).pullIn (windowChan s.dev w.val)
        (s.dev.f (RBB.CH_AID_CODE (windowChan s.dev w.val)) 0 20) (s.dev.w (RBB.CH_AID_DOP (windowChan s.dev w.val))) } :=
  done_dev (if_neg (by simp [h]))

theorem startAcq_taken (h : startResult s.cfg s.dev (windowChan s.dev w.val) false = 0) :
    exec (.startAcq w) s = .next { s with
      bus := .done 0
      dev := ((s.dev.chStart (windowChan s.dev w.val)).chEnter (windowChan s.dev w.val) 1).enqueue (windowChan s.dev w.val) } :=
  done_dev (if_neg (by simp [h]))

end

/-! ### STOP (R122, R126) -/

/-- A register takes a value that waits, if one does. -/
def Dev.putSome (d : Dev) (k : Nat) (o : Option Word) : Dev :=
  match o with
  | none => d
  | some v => d.put k v

section
variable (d : Dev) (k : Nat) (o : Option Word)

theorem putSome_eq : d.putSome k o = { d with regs := (d.putSome k o).regs } := by cases o <;> rfl

theorem putSome_regsKept {ks : List Nat} {d e : Dev} (h : RegsKept ks d e) {k : Nat} (o : Option Word) (hk : k ∈ ks) :
    RegsKept ks d (e.putSome k o) := by
  cases o with
  | none => exact h
  | some v => exact regsKept_put h v hk

@[simp] theorem putSome_tick : (d.putSome k o).tick = d.tick := by rw [putSome_eq]
@[simp] theorem putSome_rbb : (d.putSome k o).rbb = d.rbb := by rw [putSome_eq]

end

section
variable (d : Dev) (n : Nat)

theorem takeLoop_eq : d.takeLoop n
    = ((d.putSome (RBB.CH_LOOP n) (d.chan n).pendLoop).putSome (RBB.CH_CORR n) (d.chan n).pendCorr).putChan n
        { d.chan n with pendLoop := none, pendCorr := none } := rfl

theorem takeLoop_regsKept {ks : List Nat} (hloop : RBB.CH_LOOP n ∈ ks) (hcorr : RBB.CH_CORR n ∈ ks) : RegsKept ks d (d.takeLoop n) := by
  rw [takeLoop_eq]
  exact putChan_regsKept _ _ (putSome_regsKept (putSome_regsKept regsKept_refl _ hloop) _ hcorr)

theorem w_takeLoop {k : Nat} (hloop : k ≠ RBB.CH_LOOP n) (hcorr : k ≠ RBB.CH_CORR n) :
    (d.takeLoop n).w k = d.w k :=
  takeLoop_regsKept d n (ks := [RBB.CH_LOOP n, RBB.CH_CORR n]) (by simp) (by simp) k (by simp [hloop, hcorr])

theorem chan_takeLoop : (d.takeLoop n).chan n = { d.chan n with pendLoop := none, pendCorr := none } := by rw [takeLoop_eq, chan_putChan]

theorem takeLoop_tick : (d.takeLoop n).tick = d.tick := by rw [takeLoop_eq, putChan_tick, putSome_tick, putSome_tick]
theorem takeLoop_queue : (d.takeLoop n).rbb.queue = d.rbb.queue := by rw [takeLoop_eq, putChan_queue, putSome_rbb, putSome_rbb]
theorem takeLoop_engine (e : Nat) : (d.takeLoop n).engine e = d.engine e := by
  rw [takeLoop_eq, putChan_engine, engine_congr (putSome_rbb _ _ _), engine_congr (putSome_rbb _ _ _)]

/-- Nothing waits for the channel: no search, no service, no rates. -/
def Dev.unserve (d : Dev) (n : Nat) : Dev := d.putChan n { d.chan n with requeue := none, served := false, nextRates := none }

theorem f_unserve (k lo m : Nat) : (d.unserve n).f k lo m = d.f k lo m := rfl
theorem unserve_queue : (d.unserve n).rbb.queue = d.rbb.queue := rfl
theorem unserve_engine (e : Nat) : (d.unserve n).engine e = d.engine e := rfl

theorem dequeue_queue : (d.dequeue n).rbb.queue = d.rbb.queue.filter (· != n) := rfl
theorem dequeue_engine (e : Nat) : (d.dequeue n).engine e = d.engine e := rfl

/-- The channel is IDLE and out of the queue, with the result 0. -/
def Dev.idleChan (d : Dev) (n : Nat) : Dev := ((((d.takeLoop n).dequeue n).chEnter n 0).putF (RBB.CH_STAT n) 4 4 0).unserve n

theorem chState_idleChan : chState (d.idleChan n) n = 0 := by
  rw [chState, Dev.idleChan, f_unserve, Dev.f_putF_apart _ _ _ (by omega) (.inr (by omega))]
  exact chState_chEnter _ n (by omega)

theorem idleChan_result : (d.idleChan n).f (RBB.CH_STAT n) 4 4 = 0 := by
  rw [Dev.idleChan, f_unserve]
  exact Dev.f_putF_self _ _ _ (by omega)

theorem idleChan_queue : (d.idleChan n).rbb.queue = d.rbb.queue.filter (· != n) := by
  rw [Dev.idleChan, unserve_queue, Dev.putF_rbb, chEnter_rbb, dequeue_queue, takeLoop_queue]

theorem idleChan_engine (e : Nat) : (d.idleChan n).engine e = d.engine e := by
  rw [Dev.idleChan, unserve_engine, engine_congr (Dev.putF_rbb _ _ _ _ _), engine_congr (chEnter_rbb _ _ _), dequeue_engine,
    takeLoop_engine]

variable (e : Nat)

/-- A search of engine `e` for the channel is to be abandoned. -/
def Dev.haltSearch (d : Dev) (n e : Nat) : Dev :=
  if (d.engine e).ch = some n then d.putEngine e { d.engine e with abandon := true } else d

theorem haltSearch_regsKept : RegsKept [RBB.ENG_STAT e] d (d.haltSearch n e) := by
  unfold Dev.haltSearch
  split
  · exact putEngine_regsKept d e _
  · exact regsKept_refl

theorem haltSearch_queue : (d.haltSearch n e).rbb.queue = d.rbb.queue := by
  unfold Dev.haltSearch
  split
  · exact putEngine_queue d e _
  · rfl

theorem engine_haltSearch_ne {m : Nat} (h : m ≠ e) : (d.haltSearch n e).engine m = d.engine m := by
  unfold Dev.haltSearch
  split
  · exact engine_putEngine_ne d e _ h
  · rfl

variable {d n e}

theorem haltSearch_abandons (h : (d.engine e).ch = some n) : ((d.haltSearch n e).engine e).abandon = true := by
  rw [Dev.haltSearch, if_pos h, engine_putEngine]

end

section
variable (d : Dev) (n : Nat)

/-- Both engines, in turn. -/
def Dev.haltSearches (d : Dev) (n : Nat) : Dev := (d.haltSearch n 0).haltSearch n 1

theorem w_haltSearches : (d.haltSearches n).w (RBB.CH_STAT n) = d.w (RBB.CH_STAT n) :=
  (haltSearch_regsKept _ n 1 _ (by simpa using chStat_ne_engStat (by omega))).trans
    (haltSearch_regsKept d n 0 _ (by simpa using chStat_ne_engStat (by omega)))

theorem haltSearches_queue : (d.haltSearches n).rbb.queue = d.rbb.queue := (haltSearch_queue _ n 1).trans (haltSearch_queue d n 0)

theorem haltSearches_abandons {d : Dev} {n e : Nat} (he : e < 2) (h : (d.engine e).ch = some n) :
    ((d.haltSearches n).engine e).abandon = true := by
  unfold Dev.haltSearches
  interval_cases e
  · rw [engine_haltSearch_ne _ _ _ (by omega)]
    exact haltSearch_abandons h
  · exact haltSearch_abandons (by rw [engine_haltSearch_ne _ _ _ (by omega), h])

theorem haltSearches_result : ((d.idleChan n).haltSearches n).f (RBB.CH_STAT n) 4 4 = 0 := by
  rw [Dev.f, w_haltSearches, ← Dev.f, idleChan_result]

end

section
variable {s : State} {w : Fin 4}

theorem stop_refused (hcalibre : s.cfg.f SYS.CALIBRE 0 2 ≠ 3) (hn : 256 ≤ windowChan s.dev w.val) :
    exec (.stop w) s = .next { s with
      bus := .done 0, dev := s.dev.putF (RBB.CH_STAT (windowChan s.dev w.val)) 4 4 3 } :=
  done_dev (if_pos (by simp [hcalibre, hn]))

theorem stop_taken (h : s.cfg.f SYS.CALIBRE 0 2 = 3 ∨ windowChan s.dev w.val < 256) :
    exec (.stop w) s = .next { s with
      bus := .done 0, dev := (s.dev.idleChan (windowChan s.dev w.val)).haltSearches (windowChan s.dev w.val) } :=
  done_dev (if_neg (by rcases h with h | h <;> simp [h]))

end

/-! ### A search begins and ends (R126, R129) -/

/-- The aid of a channel's search: its code phase and Doppler, if it has one. -/
def searchAid (d : Dev) (n : Nat) : Option (Nat × Word) :=
  if d.b (RBB.CH_AID_CODE n) 31 then some (d.f (RBB.CH_AID_CODE n) 0 20, d.w (RBB.CH_AID_DOP n)) else none

/-- The head of the queue is taken, `rest` remains. -/
def Dev.takeHead (d : Dev) (rest : List Nat) : Dev :=
  { d with rbb := { d.rbb with queue := rest } }.putF RBB.ACQ_QUEUE 0 9 rest.length

theorem takeHead_regsKept (d : Dev) (rest : List Nat) : RegsKept [RBB.ACQ_QUEUE] d (d.takeHead rest) :=
  regsKept_put (e := { d with rbb := { d.rbb with queue := rest } }) (fun _ _ => rfl) _ (by simp)

theorem w_takeHead (d : Dev) (rest : List Nat) {k : Nat} (h : k ≠ RBB.ACQ_QUEUE) :
    (d.takeHead rest).w k = d.w k :=
  takeHead_regsKept d rest k (by simpa using h)

theorem searchAid_takeHead (d : Dev) (rest : List Nat) (n : Nat) : searchAid (d.takeHead rest) n = searchAid d n := by
  have hcode : (d.takeHead rest).w (RBB.CH_AID_CODE n) = d.w (RBB.CH_AID_CODE n) :=
    w_takeHead d rest (channelKey_ne (by decide))
  have hdop : (d.takeHead rest).w (RBB.CH_AID_DOP n) = d.w (RBB.CH_AID_DOP n) :=
    w_takeHead d rest (channelKey_ne (by decide))
  rw [searchAid, searchAid, Dev.b, Dev.b, Dev.f, Dev.f, hcode, hdop]

section
variable (d : Dev) (n : Nat)

theorem takeHead_putEngine_shows (rest : List Nat) (e : Nat) (x : EngineDev) : let t := (d.takeHead rest).putEngine e x
    RegsKept [RBB.ACQ_QUEUE, RBB.ENG_STAT e] d t ∧ t.rbb.queue = rest ∧ t.w (RBB.ENG_STAT e) = wd (engineWord x) := by
  refine ⟨fun k hk => ?_, ?_, w_putEngine _ _ _⟩
  · simp only [List.mem_cons, List.not_mem_nil, or_false, not_or] at hk
    obtain ⟨hqueue, hengine⟩ := hk
    rw [putEngine_regsKept _ e x k (by simpa using hengine), w_takeHead d rest hqueue]
  · rw [putEngine_queue]
    rfl

/-- A cell that is found: the channel in PULL_IN there without lock, the engine free, the find recorded. -/
theorem pullIn_event_shows (e code : Nat) (dop : Word) (ps : List Int) : let t := ((d.putEngine e {}).pullIn n code dop).event 0x1006 ps
    chState t n = 2 ∧ (t.chan n).codePhase = code ∧ (t.chan n).doppler = dop ∧ (t.chan n).pullTick = d.tick
      ∧ t.b (RBB.CH_STAT n) 24 = false ∧ (t.engine e).ch = none ∧ Records d t 0x1006 ps := by
  extract_lets t
  rw [chState_event, chan_event, engine_event, b_event, chState_pullIn, chan_pullIn, pullIn_unlocked, pullIn_engine, engine_putEngine]
  refine ⟨rfl, rfl, rfl, putEngine_tick d e {}, rfl, rfl, ?_⟩
  rw [Records, Dev.event_occ, pullIn_occ, putEngine_occ, pullIn_tick, putEngine_tick, pullIn_eventBeat, putEngine_eventBeat]

end

section
variable {s : State} {e : Fin 2} {n : Nat}

theorem acqSearchStart_takes {rest : List Nat} (hfree : (s.dev.engine e.val).ch = none) (hqueue : s.dev.rbb.queue = n :: rest) :
    exec (.acqSearchStart e) s = .next { s with
      dev := (s.dev.takeHead rest).putEngine e.val ⟨some n, false, s.dev.tick, searchAid s.dev n⟩ } := by
  rw [← searchAid_takeHead s.dev rest n]
  exact next_dev (by simp only [hfree, hqueue]; rfl)

section
variable {cell : AcqCell} {ratio : BitVec 8}

theorem acqDone_idle (h : (s.dev.engine e.val).ch = none) : exec (.acqDone e cell ratio) s = .next s := next_same (by simp only [h])

theorem acqDone_refused (hch : (s.dev.engine e.val).ch = some n) (hgoes : (s.dev.engine e.val).abandon = false)
    (h : ratio.toNat < s.cfg.f RBB.ACQ_CFG 16 8 ∨ inSearch s.cfg (s.dev.engine e.val).aid cell.code.toNat cell.dop = false) :
    exec (.acqDone e cell ratio) s = .next s := by
  refine next_same ?_
  simp only [hch, hgoes, Bool.false_eq_true, if_false]
  exact if_pos (by rcases h with h | h <;> simp [h])

theorem acqDone_finds (hch : (s.dev.engine e.val).ch = some n) (hgoes : (s.dev.engine e.val).abandon = false)
    (hratio : s.cfg.f RBB.ACQ_CFG 16 8 ≤ ratio.toNat)
    (hcell : inSearch s.cfg (s.dev.engine e.val).aid cell.code.toNat cell.dop = true) :
    exec (.acqDone e cell ratio) s = .next { s with
      dev := ((s.dev.putEngine e.val {}).pullIn n cell.code.toNat cell.dop).event 0x1006 [n, cell.code.toNat, cell.dop.toInt] } := by
  refine next_dev ?_
  simp only [hch, hgoes, Bool.false_eq_true, if_false]
  exact if_neg (by simp [hratio, hcell])

theorem acqDone_abandons (hch : (s.dev.engine e.val).ch = some n) (hstop : (s.dev.engine e.val).abandon = true) :
    exec (.acqDone e cell ratio) s = .next { s with dev := s.dev.acqAbandon e.val } := next_dev (by simp only [hch, hstop, if_true])

end

theorem acqSearchMiss_idle (h : (s.dev.engine e.val).ch = none) : exec (.acqSearchMiss e) s = .next s := next_same (by simp only [h])

theorem acqSearchMiss_waits (hch : (s.dev.engine e.val).ch = some n) (hgoes : (s.dev.engine e.val).abandon = false) :
    exec (.acqSearchMiss e) s = .next { s with
      dev := ((s.dev.putEngine e.val {}).bump RBB.ACQ_MISS_CNT).putChan n { s.dev.chan n with requeue := some s.dev.tick } } :=
  next_dev (by simp only [hch, hgoes, Bool.false_eq_true, if_false])

theorem acqSearchMiss_abandons (hch : (s.dev.engine e.val).ch = some n) (hstop : (s.dev.engine e.val).abandon = true) :
    exec (.acqSearchMiss e) s = .next { s with dev := s.dev.acqAbandon e.val } := next_dev (by simp only [hch, hstop, if_true])

theorem acqAbandon_idle (h : (s.dev.engine e.val).ch = none ∨ (s.dev.engine e.val).abandon = false) :
    exec (.acqAbandon e) s = .next s := next_same (if_neg (by rcases h with h | h <;> simp [h]))

theorem acqAbandon_abandons (hch : (s.dev.engine e.val).ch = some n) (hstop : (s.dev.engine e.val).abandon = true) :
    exec (.acqAbandon e) s = .next { s with dev := s.dev.acqAbandon e.val } := next_dev (if_pos (by simp [hch, hstop]))

end

section
variable {s : State} {n : Fin 384}

theorem acqRequeue_idle (h : (s.dev.chan n.val).requeue = none ∨ chState s.dev n.val ≠ 1) : exec (.acqRequeue n) s = .next s := by
  refine next_same ?_
  dsimp only
  split
  · rfl
  · next t hwaits => exact if_pos (by simpa [hwaits] using h)

theorem acqRequeue_queues {t : Nat} (hwaits : (s.dev.chan n.val).requeue = some t) (hstate : chState s.dev n.val = 1) :
    exec (.acqRequeue n) s = .next { s with
      dev := ((s.dev.advanceTo (t + 200000000)).putChan n.val { s.dev.chan n.val with requeue := none }).enqueue n.val } :=
  next_dev (by simp only [hwaits]; exact if_neg (by simp [hstate]))

end

/-! ### Integrations of a channel in TRACK (R125, R131) -/

/-- CH_STAT shows C/N0, the lock, synchronisation and half cycles. -/
def Dev.showTaps (d : Dev) (n cn0 : Nat) (lock : Bool) (o : IntegrationObs) : Dev :=
  (((d.putF (RBB.CH_STAT n) 8 16 cn0).putB (RBB.CH_STAT n) 24 lock).putB (RBB.CH_STAT n) 25 o.sync).putB (RBB.CH_STAT n) 26 o.halfCycle

/-- The lock time runs on with the lock, else it is 0. -/
def Dev.countLock (d : Dev) (n tInt : Nat) (lock : Bool) : Dev :=
  if lock then d.sat (RBB.CH_LOCK_MS n) 0 32 tInt else d.putN (RBB.CH_LOCK_MS n) 0

/-- What the channel keeps of the indicators of an integration with this C/N0. -/
def ChanDev.takeIndicators (x : ChanDev) (c : Cfg) (cn0 tick : Nat) (lost : Bool) (o : IntegrationObs) : ChanDev :=
  { x with
    goodSince := sinceWhen (decide (goodCn0 c ≤ cn0)) x.goodSince tick
    lowSince := sinceWhen (decide (cn0 < c.f RBB.TRK_CFG 0 8 * 256)) x.lowSince tick
    highSince := sinceWhen (decide (c.f RBB.CN0_CFG 0 8 * 256 < cn0)) x.highSince tick
    range := o.range, phase := o.phase, lostSinceEpoch := x.lostSinceEpoch || lost }

/-- The instant at which a channel was last near the limit of C/N0. -/
def Dev.noteHigh (d : Dev) (h : Option Nat) : Dev := { d with rbb := { d.rbb with highTick := h } }

section
variable (d : Dev) (n : Nat)

section
variable (cn0 tInt : Nat) (lock : Bool) (o : IntegrationObs)

theorem showTaps_regsKept : RegsKept [RBB.CH_STAT n] d (d.showTaps n cn0 lock o) :=
  have hmem := List.mem_singleton_self (RBB.CH_STAT n)
  regsKept_put (regsKept_put (regsKept_put (regsKept_put regsKept_refl _ hmem) _ hmem) _ hmem) _ hmem

theorem chState_showTaps : chState (d.showTaps n cn0 lock o) n = chState d n := by
  rw [chState, Dev.showTaps, Dev.f_putB_apart _ _ _ (by omega) (by omega), Dev.f_putB_apart _ _ _ (by omega) (by omega),
    Dev.f_putB_apart _ _ _ (by omega) (by omega), Dev.f_putF_apart _ _ _ (by omega) (by omega), chState]

theorem showTaps_cn0 : (d.showTaps n cn0 lock o).f (RBB.CH_STAT n) 8 16 = cn0 % 2 ^ 16 := by
  rw [Dev.showTaps, Dev.f_putB_apart _ _ _ (by omega) (by omega), Dev.f_putB_apart _ _ _ (by omega) (by omega),
    Dev.f_putB_apart _ _ _ (by omega) (by omega), Dev.f_putF_self _ _ _ (by omega)]

theorem showTaps_flags : (d.showTaps n cn0 lock o).b (RBB.CH_STAT n) 24 = lock ∧ (d.showTaps n cn0 lock o).b (RBB.CH_STAT n) 25 = o.sync
    ∧ (d.showTaps n cn0 lock o).b (RBB.CH_STAT n) 26 = o.halfCycle := by
  refine ⟨?_, ?_, Dev.b_putB_self _ _ _ (by omega)⟩
  · rw [Dev.showTaps, Dev.b_putB_apart _ _ _ (by omega) (by omega), Dev.b_putB_apart _ _ _ (by omega) (by omega),
      Dev.b_putB_self _ _ _ (by omega)]
  · rw [Dev.showTaps, Dev.b_putB_apart _ _ _ (by omega) (by omega), Dev.b_putB_self _ _ _ (by omega)]

theorem countLock_regsKept : RegsKept [RBB.CH_LOCK_MS n] d (d.countLock n tInt lock) := by
  unfold Dev.countLock
  split <;> exact regsKept_put regsKept_refl _ (by simp)

theorem w_countLock {k : Nat} (h : k ≠ RBB.CH_LOCK_MS n) : (d.countLock n tInt lock).w k = d.w k :=
  countLock_regsKept d n tInt lock k (by simpa using h)

theorem countLock_unlocked : (d.countLock n tInt false).w (RBB.CH_LOCK_MS n) = 0 := by
  rw [Dev.countLock, if_neg (by simp), Dev.w_putN_self]
  rfl

end

section
variable (c : Cfg) (tInt : Nat) (o : IntegrationObs)

/-- The indicators show in the registers, in the channel and in the instant of the last high C/N0. -/
theorem lockState_shows : ∃ (lock : Bool) (x : ChanDev) (h : Option Nat), d.lockState c n tInt o
    = (let e := (d.showTaps n (cn0Now d n tInt).toNat lock o).countLock n tInt lock
       (e.putChan n (x.takeIndicators c (cn0Now d n tInt).toNat e.tick (d.b (RBB.CH_STAT n) 24 && !lock) o)).noteHigh h) := by
  unfold Dev.lockState
  extract_lets k was cn0 ind lock shown counted x top noted
  by_cases hnear : top < cn0 + 768
  · exact ⟨lock, x, some noted.tick, if_pos hnear⟩
  · exact ⟨lock, x, noted.rbb.highTick, if_neg hnear⟩

theorem w_takeTaps (k : Nat) : (d.takeTaps n o).w k = d.w k := w_putChan _ _ _ _

@[simp] theorem chan_noteHigh (h : Option Nat) : (d.noteHigh h).chan n = d.chan n := rfl
@[simp] theorem w_noteHigh (h : Option Nat) (k : Nat) : (d.noteHigh h).w k = d.w k := rfl

/-- An integration whose NCOs the channel follows: taps, indicators, the writes that wait, code phase and Doppler. -/
def Dev.integrateTaps (d : Dev) (c : Cfg) (n : Nat) (o : IntegrationObs) : Dev :=
  (((d.takeTaps n o).lockState c n (chTInt d n) o).takeLoop n).takeNco n o

/-- C/N0 as an integration shows it. -/
def cn0Taken (d : Dev) (n : Nat) (o : IntegrationObs) : Nat := (cn0Now (d.takeTaps n o) n (chTInt d n)).toNat

/-- The registers after an integration, but for the loop word and the spacing. -/
theorem w_integrateTaps : ∃ lock, ∀ k, k ≠ RBB.CH_LOOP n → k ≠ RBB.CH_CORR n → (d.integrateTaps c n o).w k
    = (((d.takeTaps n o).showTaps n (cn0Taken d n o) lock o).countLock n (chTInt d n) lock).w k := by
  obtain ⟨lock, x, h, hshown⟩ := lockState_shows (d.takeTaps n o) n c (chTInt d n) o
  refine ⟨lock, fun k hloop hcorr => ?_⟩
  rw [Dev.integrateTaps, Dev.takeNco, w_putChan, w_takeLoop _ n hloop hcorr, hshown, w_noteHigh, w_putChan]
  rfl

theorem integrateTaps_regsKept :
    RegsKept [RBB.CH_STAT n, RBB.CH_LOCK_MS n, RBB.CH_LOOP n, RBB.CH_CORR n] d (d.integrateTaps c n o) := by
  obtain ⟨lock, hw⟩ := w_integrateTaps d n c o
  intro k hk
  simp only [List.mem_cons, List.not_mem_nil, or_false, not_or] at hk
  obtain ⟨hstat, hlock, hloop, hcorr⟩ := hk
  rw [hw k hloop hcorr, w_countLock _ _ _ _ hlock, showTaps_regsKept _ n _ lock o k (by simpa using hstat), w_takeTaps]

/-- What CH_STAT and the lock time show after an integration. -/
theorem integrateTaps_stat : chState (d.integrateTaps c n o) n = chState d n ∧ (d.integrateTaps c n o).b (RBB.CH_STAT n) 25 = o.sync
    ∧ (d.integrateTaps c n o).b (RBB.CH_STAT n) 26 = o.halfCycle ∧ (d.integrateTaps c n o).f (RBB.CH_STAT n) 8 16 = cn0Taken d n o
    ∧ ((d.integrateTaps c n o).b (RBB.CH_STAT n) 24 = false → (d.integrateTaps c n o).w (RBB.CH_LOCK_MS n) = 0) := by
  obtain ⟨lock, hw⟩ := w_integrateTaps d n c o
  obtain ⟨hlock, hsync, hhalf⟩ := showTaps_flags (d.takeTaps n o) n (cn0Taken d n o) lock o
  have hstat : (d.integrateTaps c n o).w (RBB.CH_STAT n) = ((d.takeTaps n o).showTaps n (cn0Taken d n o) lock o).w (RBB.CH_STAT n) :=
    (hw _ (channelKeys_ne (by decide)) (channelKeys_ne (by decide))).trans (w_countLock _ _ _ _ (channelKeys_ne (by decide)))
  have hcn0 : cn0Taken d n o < 2 ^ 16 := (cn0Now (d.takeTaps n o) n (chTInt d n)).isLt
  rw [Dev.b, Dev.b, Dev.b, Dev.f, hstat, ← Dev.b, ← Dev.b, ← Dev.b, ← Dev.f, hlock, hsync, hhalf, showTaps_cn0,
    Nat.mod_eq_of_lt hcn0]
  refine ⟨?_, rfl, rfl, rfl, fun hoff => ?_⟩
  · rw [chState_congr hstat, chState_showTaps, chState_congr (w_takeTaps d n o _)]
  · rw [hw (RBB.CH_LOCK_MS n) (channelKeys_ne (by decide)) (channelKeys_ne (by decide)), hoff, countLock_unlocked]

/-- What the channel holds after an integration. -/
theorem integrateTaps_chan :
    ((d.integrateTaps c n o).chan n).codePhase = o.code.toNat ∧ ((d.integrateTaps c n o).chan n).doppler = o.doppler
    ∧ ((d.integrateTaps c n o).chan n).range = o.range ∧ ((d.integrateTaps c n o).chan n).phase = o.phase
    ∧ ((d.integrateTaps c n o).chan n).pendLoop = none ∧ ((d.integrateTaps c n o).chan n).pendCorr = none := by
  obtain ⟨lock, x, h, hshown⟩ := lockState_shows (d.takeTaps n o) n c (chTInt d n) o
  rw [Dev.integrateTaps, Dev.takeNco, chan_putChan, chan_takeLoop, hshown, chan_noteHigh, chan_putChan]
  exact ⟨rfl, rfl, rfl, rfl, rfl, rfl⟩

end
end

section
variable {s : State} {n : Fin 384} {o : IntegrationObs}

theorem integrationEnd_idle (h : chState s.dev n.val < 2) : exec (.integrationEnd n o) s = .next s := next_same (if_pos h)

/-- A channel in TRACK that may not enter VECTOR goes on in TRACK. -/
theorem integrationEnd_tracks (hstate : chState s.dev n.val = 3) (hscalar : s.dev.b (RBB.CH_CFG n.val) 18 = false) :
    exec (.integrationEnd n o) s = .next { s with dev := s.dev.integrateTaps s.cfg n.val o } := by
  have hkept : (s.dev.integrateTaps s.cfg n.val o).b (RBB.CH_CFG n.val) 18 = false :=
    (b_of_regsKept (integrateTaps_regsKept s.dev n.val s.cfg o)
      (by simp [RBB.CH_CFG, RBB.CH_STAT, RBB.CH_LOCK_MS, RBB.CH_LOOP, RBB.CH_CORR]) 18).trans hscalar
  exact next_dev ((if_neg (by omega)).trans ((if_neg (by omega)).trans ((if_pos hstate).trans
    (if_neg (c := ((s.dev.integrateTaps s.cfg n.val o).b (RBB.CH_CFG n.val) 18 && _) = true) (by simp [hkept])))))

end

/-! ### The PLL engages (R131) -/

/-- The PLL is in use. -/
def Dev.engage (d : Dev) (n : Nat) : Dev := d.putChan n { d.chan n with pll := true }

/-- Where a PLL is configured, the carrier lock decides. -/
theorem mayTrack_pll {d : Dev} {n : Nat} (h : d.f (RBB.CH_LOOP n) 8 8 ≠ 0) : mayTrack d n = d.b (RBB.CH_STAT n) 24 := by
  simp [mayTrack, h]

section
variable {s : State} {n : Fin 384}

theorem pllEngage_idle (h : chState s.dev n.val ≠ 2 ∨ s.dev.f (RBB.CH_LOOP n.val) 8 8 = 0) : exec (.pllEngage n) s = .next s :=
  next_same (if_pos (by simpa using h))

theorem pllEngage_engages (hstate : chState s.dev n.val = 2) (hpll : s.dev.f (RBB.CH_LOOP n.val) 8 8 ≠ 0) :
    exec (.pllEngage n) s = .next { s with
      dev := if s.dev.b (RBB.CH_STAT n.val) 24 then
          ((s.dev.advanceTo ((s.dev.chan n.val).pullTick + 40000000)).engage n.val).chEnter n.val 3
        else (s.dev.advanceTo ((s.dev.chan n.val).pullTick + 40000000)).engage n.val } := by
  have hlock : mayTrack ((s.dev.advanceTo ((s.dev.chan n.val).pullTick + 40000000)).engage n.val) n.val
      = s.dev.b (RBB.CH_STAT n.val) 24 := mayTrack_pll hpll
  rw [← hlock]
  exact next_dev (if_neg (by simp [hstate, hpll]))

end

/-! ### Lock is lost (R132, R133, R148) -/

/-- The channel is LOST and counts it, its lock time 0. -/
def Dev.countLoss (d : Dev) (n : Nat) : Dev := ((d.chEnter n 5).bump (RBB.CH_LOSS_CNT n)).putN (RBB.CH_LOCK_MS n) 0

/-- The channel keeps the loss for the next epoch, its instant, and whether it is served on. -/
def Dev.noteLoss (d : Dev) (n : Nat) (served : Bool) : Dev :=
  d.putChan n { d.chan n with lostSinceEpoch := true, served := served, nextRates := none, lostTick := d.tick }

section
variable (d : Dev) (n : Nat)

theorem chState_countLoss : chState (d.countLoss n) n = 5 := by
  have hkept : (d.countLoss n).w (RBB.CH_STAT n) = (d.chEnter n 5).w (RBB.CH_STAT n) :=
    (Dev.w_putN_ne _ _ (channelKeys_ne (by decide))).trans (Dev.w_bump_ne _ (channelKeys_ne (by decide)))
  rw [chState_congr hkept, chState_chEnter _ _ (by omega)]

theorem countLoss_losses : ((d.countLoss n).w (RBB.CH_LOSS_CNT n)).toNat = min 0xFFFFFFFF ((d.w (RBB.CH_LOSS_CNT n)).toNat + 1) := by
  have hkept : (d.chEnter n 5).w (RBB.CH_LOSS_CNT n) = d.w (RBB.CH_LOSS_CNT n) := w_chEnter d n 5 (by decide)
  have hcounted : (d.countLoss n).w (RBB.CH_LOSS_CNT n) = ((d.chEnter n 5).bump (RBB.CH_LOSS_CNT n)).w (RBB.CH_LOSS_CNT n) :=
    Dev.w_putN_ne _ _ (channelKeys_ne (by decide))
  rw [hcounted, Dev.bump_toNat, hkept]

theorem countLoss_lockTime : (d.countLoss n).w (RBB.CH_LOCK_MS n) = 0 := Dev.w_putN_self _ _ _

theorem countLoss_tick : (d.countLoss n).tick = d.tick := by
  rw [Dev.countLoss, Dev.putN_tick, Dev.bump_tick, chEnter_tick]
theorem countLoss_occ : (d.countLoss n).occ = d.occ := by rw [Dev.countLoss, Dev.putN_occ, Dev.bump_occ, chEnter_occ]
theorem countLoss_eventBeat : (d.countLoss n).eventBeat = d.eventBeat := by
  rw [Dev.eventBeat, Dev.countLoss, Dev.putN_esc, Dev.bump_esc, chEnter_esc, Dev.eventBeat]

theorem chan_noteLoss (served : Bool) : (d.noteLoss n served).chan n
    = { d.chan n with lostSinceEpoch := true, served := served, nextRates := none, lostTick := d.tick } := chan_putChan _ _ _

theorem w_noteLoss (served : Bool) (k : Nat) : (d.noteLoss n served).w k = d.w k := rfl
theorem noteLoss_tick (served : Bool) : (d.noteLoss n served).tick = d.tick := rfl
theorem noteLoss_occ (served : Bool) : (d.noteLoss n served).occ = d.occ := rfl
theorem noteLoss_eventBeat (served : Bool) : (d.noteLoss n served).eventBeat = d.eventBeat := rfl

/-- A loss that is noted: LOST, counted, the lock time 0, the channel's notes of it, the event. -/
theorem noteLoss_shows (served : Bool) (ps : List Int) : let t := ((d.countLoss n).noteLoss n served).event 0x1007 ps
    chState t n = 5 ∧ t.tick = d.tick ∧ (t.w (RBB.CH_LOSS_CNT n)).toNat = min 0xFFFFFFFF ((d.w (RBB.CH_LOSS_CNT n)).toNat + 1)
      ∧ t.w (RBB.CH_LOCK_MS n) = 0 ∧ (t.chan n).lostSinceEpoch = true ∧ (t.chan n).lostTick = t.tick ∧ (t.chan n).served = served
      ∧ Records d t 0x1007 ps := by
  extract_lets t
  have htick : t.tick = d.tick := by rw [Dev.event_tick, noteLoss_tick, countLoss_tick]
  have hocc : Records d t 0x1007 ps := by
    rw [Records, Dev.event_occ, noteLoss_occ, noteLoss_tick, noteLoss_eventBeat, countLoss_occ, countLoss_tick, countLoss_eventBeat]
  rw [htick, chState_event, Dev.w_event, Dev.w_event, chan_event, chState_congr (w_noteLoss _ _ _ _), w_noteLoss, w_noteLoss, chan_noteLoss,
    chState_countLoss, countLoss_losses, countLoss_lockTime, countLoss_tick]
  exact ⟨rfl, rfl, rfl, rfl, rfl, rfl, rfl, hocc⟩

end

section
variable {s : State} {n : Fin 384}

theorem chLost_idle (h : (s.dev.chan n.val).lowSince = none ∨ (chState s.dev n.val ≠ 3 ∧ chState s.dev n.val ≠ 4)) :
    exec (.chLost n) s = .next s := by
  refine next_same ?_
  dsimp only
  split
  · rfl
  · next t hlow => exact if_pos (by simpa [hlow] using h)

theorem chLost_loses {t : Nat} (hlow : (s.dev.chan n.val).lowSince = some t)
    (hstate : chState s.dev n.val = 3 ∨ chState s.dev n.val = 4) :
    exec (.chLost n) s = .next { s with
      dev := (((s.dev.advanceTo (t + s.cfg.f RBB.TRK_CFG 16 8 * 10 * 200000)).countLoss n.val).noteLoss n.val
        (decide (chState s.dev n.val = 4))).event 0x1007 [(n.val : Int)] } := by
  refine next_dev ?_
  simp only [hlow]
  exact if_neg (by rcases hstate with h | h <;> simp [h])

end

/-! ### Reacquisition (R132) -/

/-- The fusion engine serves the channel no more; what waits for it is taken. -/
def Dev.endService (d : Dev) (n : Nat) : Dev := (d.putChan n { d.chan n with served := false }).takeLoop n

/-- The channel searches anew around the prediction: its Doppler, and its code phase carried on. -/
def Dev.searchPredicted (d : Dev) (n : Nat) : Dev :=
  ((((d.put (RBB.CH_AID_DOP n) (d.chan n).doppler).putN (RBB.CH_AID_CODE n) (codeNow d n + 2 ^ 31)).chEnter n 1).enqueue n)

section
variable (d : Dev) (n : Nat)

theorem chan_endService : (d.endService n).chan n = { d.chan n with pendLoop := none, pendCorr := none, served := false } := by
  rw [Dev.endService, chan_takeLoop, chan_putChan]

theorem endService_tick : (d.endService n).tick = d.tick := by rw [Dev.endService, takeLoop_tick, putChan_tick]
theorem endService_queue : (d.endService n).rbb.queue = d.rbb.queue := by rw [Dev.endService, takeLoop_queue, putChan_queue]

theorem codeNow_lt : codeNow d n < 2 ^ 20 := Nat.mod_lt _ (by omega)

theorem chState_searchPredicted : chState (d.searchPredicted n) n = 1 := by
  rw [Dev.searchPredicted, chState_congr (w_enqueue _ n (channelKey_ne (by decide))), chState_chEnter _ _ (by omega)]

theorem searchPredicted_doppler : (d.searchPredicted n).w (RBB.CH_AID_DOP n) = (d.chan n).doppler := by
  have hkept : (d.searchPredicted n).w (RBB.CH_AID_DOP n)
      = ((d.put (RBB.CH_AID_DOP n) (d.chan n).doppler).putN (RBB.CH_AID_CODE n) (codeNow d n + 2 ^ 31)).w (RBB.CH_AID_DOP n) :=
    (w_enqueue _ n (channelKey_ne (by decide))).trans (w_chEnter _ n 1 (by decide))
  rw [hkept]
  exact (Dev.w_putN_ne _ _ (channelKeys_ne (by decide))).trans (Dev.w_put_self _ _ _)

theorem searchPredicted_aided : (d.searchPredicted n).b (RBB.CH_AID_CODE n) 31 = true := by
  have hcode : (d.searchPredicted n).w (RBB.CH_AID_CODE n) = wd (codeNow d n + 2 ^ 31) :=
    (w_enqueue _ n (channelKey_ne (by decide))).trans ((w_chEnter _ n 1 (by decide)).trans (Dev.w_putN_self _ _ _))
  have hlt := codeNow_lt d n
  rw [Dev.b, hcode, bit_eq_fld, fld, wd, BitVec.toNat_ofNat, decide_eq_true_eq]
  omega

theorem searchPredicted_tick : (d.searchPredicted n).tick = d.tick := by
  rw [Dev.searchPredicted, enqueue_tick, chEnter_tick, Dev.putN_tick, Dev.put_tick]
theorem searchPredicted_queue : (d.searchPredicted n).rbb.queue = d.rbb.queue ++ [n] := by
  rw [Dev.searchPredicted, enqueue_queue, chEnter_rbb, Dev.putN_rbb, Dev.put_rbb]
theorem chan_searchPredicted (m : Nat) : (d.searchPredicted n).chan m = d.chan m := by
  rw [Dev.searchPredicted, chan_enqueue, chan_congr (chEnter_rbb _ _ _), chan_congr (Dev.putN_rbb _ _ _), chan_congr (Dev.put_rbb _ _ _)]

/-- Without AUTO_ACQ the channel is IDLE, and the queue stays. -/
theorem endService_chEnter_shows : let t := (d.endService n).chEnter n 0
    t.tick = d.tick ∧ (t.chan n).served = false ∧ chState t n = 0 ∧ t.rbb.queue = d.rbb.queue := by
  extract_lets t
  rw [chEnter_tick, chan_congr (chEnter_rbb _ _ _), chEnter_rbb, chan_endService, endService_tick, endService_queue,
    chState_chEnter _ _ (by omega)]
  exact ⟨rfl, rfl, rfl, rfl⟩

/-- With it the channel searches again, aided by the prediction. -/
theorem searchPredicted_shows : let t := (d.endService n).searchPredicted n
    t.tick = d.tick ∧ (t.chan n).served = false ∧ chState t n = 1 ∧ t.rbb.queue = d.rbb.queue ++ [n]
      ∧ t.w (RBB.CH_AID_DOP n) = (d.chan n).doppler ∧ t.b (RBB.CH_AID_CODE n) 31 = true := by
  extract_lets t
  rw [searchPredicted_tick, chan_searchPredicted, chState_searchPredicted, searchPredicted_queue, searchPredicted_doppler,
    searchPredicted_aided, chan_endService, endService_tick, endService_queue]
  exact ⟨rfl, rfl, rfl, rfl, rfl, rfl⟩

end

section
variable {s : State} {n : Fin 384}

theorem reacqTimeout_idle (h : chState s.dev n.val ≠ 5) : exec (.reacqTimeout n () ()) s = .next s :=
  next_same (if_pos (by simpa using h))

theorem reacqTimeout_ends (hstate : chState s.dev n.val = 5) :
    exec (.reacqTimeout n () ()) s = .next { s with
      dev := if s.cfg.b RBB.GCFG 8 then
          ((s.dev.advanceTo ((s.dev.chan n.val).lostTick + s.cfg.f RBB.TRK_CFG 24 8 * 200000000)).endService n.val).searchPredicted n.val
        else ((s.dev.advanceTo ((s.dev.chan n.val).lostTick + s.cfg.f RBB.TRK_CFG 24 8 * 200000000)).endService n.val).chEnter n.val 0 } :=
  next_dev (if_neg (by simp [hstate]))

end

/-- Settles O59: registers, starts and stops, the search, integrations in TRACK, the PLL, the loss of lock, reacquisition. -/
theorem rangingChannels : Obligations.RangingChannels := by
  refine ⟨fun s w v => ?_, fun s w => ?_, fun s e n rest hfree hqueue => ?_, fun s e code dop ratio h => ?_,
    fun s e code dop ratio n hch => ⟨fun hgoes => ?_, fun hstop => ?_⟩, fun s n => ⟨acqRequeue_idle, fun t hwaits hstate => ?_⟩,
    fun s n o => ⟨integrationEnd_idle, fun hstate hscalar => ?_⟩,
    fun s n => ⟨pllEngage_idle, fun hstate hpll => ⟨fun hlock => ?_, fun hlock => ?_⟩⟩,
    fun d n st h => ⟨chState_chEnter d n h, chEnter_regsKept d n st⟩, fun s n => ⟨chLost_idle, fun t hlow hstate => ?_⟩,
    fun s n => ⟨reacqTimeout_idle, fun hstate => ?_⟩⟩
  · exact ⟨fun h => ⟨done_dev (if_pos h), done_dev (if_pos h), done_dev (if_pos h), chLoopWrite_corr_atOnce h⟩, chCfgWrite_ignored,
      chLoopWrite_loop_atOnce, chLoopWrite_loop_waits, chLoopWrite_corr_waits, chLoopWrite_corr_ignored⟩
  · refine ⟨fun r => startAided_refused, fun r => startAcq_refused, fun h => ?_, fun h => ?_, stop_refused, fun h => ?_⟩
    · exact ⟨_, startAided_taken h, rfl, chState_pullIn _ _ _ _, chStart_pullIn_shows _ _ _ _⟩
    · exact ⟨_, startAcq_taken h, rfl, chStart_enqueue_shows _ _⟩
    · exact ⟨_, stop_taken h, rfl, (chState_congr (w_haltSearches _ _)).trans (chState_idleChan _ _), haltSearches_result _ _,
        (haltSearches_queue _ _).trans (idleChan_queue _ _), fun e he hch =>
          haltSearches_abandons he ((idleChan_engine _ _ e).symm ▸ hch)⟩
  · obtain ⟨hkept, hqueue', hstat⟩ := takeHead_putEngine_shows s.dev rest e.val ⟨some n, false, s.dev.tick, searchAid s.dev n⟩
    exact ⟨_, acqSearchStart_takes hfree hqueue, rfl, hkept, hqueue', hstat, engine_putEngine _ _ _⟩
  · exact ⟨acqDone_idle h, acqSearchMiss_idle h, acqAbandon_idle (.inl h)⟩
  · refine ⟨acqDone_refused (cell := ⟨code, dop⟩) hch hgoes, fun hratio hcell => ?_, acqSearchMiss_waits hch hgoes,
      acqAbandon_idle (.inr hgoes)⟩
    exact ⟨_, acqDone_finds hch hgoes hratio hcell, rfl, pullIn_event_shows s.dev n e.val code.toNat dop _⟩
  · exact ⟨acqAbandon_abandons hch hstop, acqDone_abandons hch hstop, acqSearchMiss_abandons hch hstop⟩
  · exact ⟨_, acqRequeue_queues hwaits hstate, rfl, enqueue_regsKept _ _, rfl, rfl, congrArg ChanDev.requeue (chan_putChan _ _ _)⟩
  · obtain ⟨hsame, hsync, hhalf, hcn0, hoff⟩ := integrateTaps_stat s.dev n.val s.cfg o
    exact ⟨_, integrationEnd_tracks hstate hscalar, rfl, integrateTaps_regsKept _ _ _ _, hsame.trans hstate, hsync, hhalf, hcn0, hoff,
      integrateTaps_chan _ _ _ _⟩
  · exact (pllEngage_engages hstate hpll).trans (next_dev (if_pos hlock))
  · exact (pllEngage_engages hstate hpll).trans (next_dev (if_neg (by simp [hlock])))
  · obtain ⟨hlost, htick, hcount, htime, hsince, hinstant, hserved, hevent⟩ := noteLoss_shows
      (s.dev.advanceTo (t + s.cfg.f RBB.TRK_CFG 16 8 * 10 * 200000)) n.val (decide (chState s.dev n.val = 4)) [(n.val : Int)]
    exact ⟨_, chLost_loses hlow hstate, rfl, hlost, htick, hcount, htime, hsince, hinstant, by simp [hserved],
      hevent.trans (by rw [htick]; rfl)⟩
  · have hends := reacqTimeout_ends hstate
    cases hauto : s.cfg.b RBB.GCFG 8 <;> rw [hauto] at hends
    · obtain ⟨htick, hserved, hidle, hqueue⟩ := endService_chEnter_shows
        (s.dev.advanceTo ((s.dev.chan n.val).lostTick + s.cfg.f RBB.TRK_CFG 24 8 * 200000000)) n.val
      exact ⟨_, hends, rfl, htick, hserved, fun _ => ⟨hidle, hqueue⟩, nofun⟩
    · obtain ⟨htick, hserved, hwaits⟩ := searchPredicted_shows
        (s.dev.advanceTo ((s.dev.chan n.val).lostTick + s.cfg.f RBB.TRK_CFG 24 8 * 200000000)) n.val
      exact ⟨_, hends, rfl, htick, hserved, nofun, fun _ => hwaits⟩

end Sys2Proof.Machine
end

section
/-! SUPPORT. The ranging front end and its supervision: antennas, notches, epochs, exclusions, corrections, vector steering. -/
namespace Sys2Proof.Machine

/-! ### Antenna supplies (R115, R116) -/

section
variable (d : Dev) (a : Nat) (x : AntDev)

@[simp] theorem ant_putAnt : (d.putAnt a x).ant a = x := Assoc.get_set_self _ _ _ _

theorem ant_congr {d e : Dev} (h : e.rbb = d.rbb) (a : Nat) : e.ant a = d.ant a := by rw [Dev.ant, Dev.ant, h]

variable (ma : Nat)

/-- The switch opens; the current and one more short are shown. -/
def Dev.openSwitch (d : Dev) (a ma : Nat) : Dev :=
  ((d.putAnt a { d.ant a with closed := false, below := 0, above := 0 }).putF (RBB.ANT_STAT a) 8 8 ma).sat (RBB.ANT_STAT a) 16 8 1

/-- Ten shorts latch the switch open. -/
def Dev.latchShort (d : Dev) (a : Nat) : Dev :=
  if d.f (RBB.ANT_STAT a) 16 8 < 10 then d else (d.putB (RBB.ANT_STAT a) 2 true).event 0x1003 [a]

theorem openSwitch_closed : ((d.openSwitch a ma).ant a).closed = false := by
  rw [Dev.openSwitch, ant_congr (Dev.sat_rbb _ _ _ _ _), ant_congr (Dev.putF_rbb _ _ _ _ _), ant_putAnt]

theorem openSwitch_current : (d.openSwitch a ma).f (RBB.ANT_STAT a) 8 8 = ma % 2 ^ 8 :=
  (Dev.f_putF_apart _ _ _ (by omega) (by omega)).trans (Dev.f_putF_self _ _ _ (by omega))

theorem openSwitch_count : (d.openSwitch a ma).f (RBB.ANT_STAT a) 16 8 = min 255 (d.f (RBB.ANT_STAT a) 16 8 + 1) := by
  have hkept : ((d.putAnt a { d.ant a with closed := false, below := 0, above := 0 }).putF (RBB.ANT_STAT a) 8 8 ma).f (RBB.ANT_STAT a) 16 8
      = d.f (RBB.ANT_STAT a) 16 8 := Dev.f_putF_apart _ _ _ (by omega) (by omega)
  rw [Dev.openSwitch, Dev.sat, Dev.f_putF_self _ _ _ (by omega), hkept, satU]
  omega

theorem latchShort_closed : (d.latchShort a).ant a = d.ant a := by
  unfold Dev.latchShort
  split <;> rfl

theorem f_latchShort {lo m : Nat} (h : lo + m ≤ 2 ∨ 3 ≤ lo) :
    (d.latchShort a).f (RBB.ANT_STAT a) lo m = d.f (RBB.ANT_STAT a) lo m := by
  unfold Dev.latchShort
  split
  · rfl
  · exact Dev.f_putB_apart d _ _ (by omega) (by omega)

/-- The class SHORT has no event of its own. -/
theorem antClass_short : d.antClass a 3 ma = d.putF (RBB.ANT_STAT a) 0 2 3 := by simp [Dev.antClass]

/-- A short: the switch open, the class SHORT, the event, and the latch. -/
def Dev.shorted (d : Dev) (a ma : Nat) : Dev := (((d.openSwitch a ma).antClass a 3 ma).event 0x1002 [a, ma]).latchShort a

theorem f_shorted {lo m : Nat} (h : 3 ≤ lo) : (d.shorted a ma).f (RBB.ANT_STAT a) lo m = (d.openSwitch a ma).f (RBB.ANT_STAT a) lo m := by
  rw [Dev.shorted, f_latchShort _ _ (.inr h), Dev.f, Dev.w_event, antClass_short]
  exact Dev.f_putF_apart _ _ _ (by omega) (by omega)

theorem shorted_class : (d.shorted a ma).f (RBB.ANT_STAT a) 0 2 = 3 := by
  rw [Dev.shorted, f_latchShort _ _ (.inl (by omega)), Dev.f, Dev.w_event, antClass_short]
  exact Dev.f_putF_self _ _ _ (by omega)

theorem shorted_closed : ((d.shorted a ma).ant a).closed = false := by
  rw [Dev.shorted, latchShort_closed, ant_congr (Dev.event_rbb _ _ _), antClass_short, ant_congr (Dev.putF_rbb _ _ _ _ _),
    openSwitch_closed]

/-- What ANT_STAT shows of a short. -/
theorem shorted_shows (h : ma < 2 ^ 8) : (d.shorted a ma).f (RBB.ANT_STAT a) 0 2 = 3 ∧ (d.shorted a ma).f (RBB.ANT_STAT a) 8 8 = ma
    ∧ (d.shorted a ma).f (RBB.ANT_STAT a) 16 8 = min 255 (d.f (RBB.ANT_STAT a) 16 8 + 1) := by
  rw [shorted_class, f_shorted _ _ _ (by omega), openSwitch_current, Nat.mod_eq_of_lt h, f_shorted _ _ _ (by omega), openSwitch_count]
  exact ⟨rfl, rfl, rfl⟩

end

section
variable {s : State} {a : Fin 3} {ma : Fin 256}

theorem antShort_idle (h : s.cfg.b (RBB.ANT_CFG a.val) 0 = false ∨ (s.dev.ant a.val).closed = false
    ∨ ma.val < s.cfg.f (RBB.ANT_CFG a.val) 16 8) : exec (.antShort a ma) s = .next s :=
  next_same (if_pos (by rcases h with h | h | h <;> simp [h]))

section
variable (hon : s.cfg.b (RBB.ANT_CFG a.val) 0 = true) (hclosed : (s.dev.ant a.val).closed = true)
include hon hclosed

theorem antShort_shorted (hshort : s.cfg.f (RBB.ANT_CFG a.val) 16 8 ≤ ma.val) :
    s.dev.antShort s.cfg a.val ma.val = s.dev.shorted a.val ma.val := if_neg (by simp [hon, hclosed, hshort])

theorem antShort_shorts (hshort : s.cfg.f (RBB.ANT_CFG a.val) 16 8 ≤ ma.val) :
    exec (.antShort a ma) s = .next { s with dev := s.dev.shorted a.val ma.val } := next_dev (antShort_shorted hon hclosed hshort)

theorem antBiasSample_shorts (hshort : s.cfg.f (RBB.ANT_CFG a.val) 16 8 ≤ ma.val) :
    exec (.antBiasSample a ma) s = .next { s with dev := s.dev.shorted a.val ma.val } :=
  next_dev ((if_neg (by simp [hon])).trans ((if_neg (by simp [hclosed])).trans
    ((if_pos hshort).trans (antShort_shorted hon hclosed hshort))))

/-- A low sample counts towards OPEN until the tenth. -/
theorem antBiasSample_low (hshort : ma.val < s.cfg.f (RBB.ANT_CFG a.val) 16 8) (hlow : ma.val < s.cfg.f (RBB.ANT_CFG a.val) 8 8)
    (hcount : (s.dev.ant a.val).below < 9) :
    exec (.antBiasSample a ma) s = .next { s with
      dev := (s.dev.putF (RBB.ANT_STAT a.val) 8 8 ma.val).putAnt a.val
        { s.dev.ant a.val with below := (s.dev.ant a.val).below + 1, above := 0 } } := by
  have hsat : satU 8 ((s.dev.ant a.val).below + 1) = (s.dev.ant a.val).below + 1 := by
    rw [satU]
    omega
  refine next_dev ((if_neg (by simp [hon])).trans ((if_neg (by simp [hclosed])).trans
    ((if_neg (by omega)).trans ((if_pos hlow).trans ((if_pos (by omega)).trans ?_)))))
  rw [hsat]

end

theorem antBiasRetry_idle (h : s.dev.b (RBB.ANT_STAT a.val) 2 = true ∨ s.cfg.b (RBB.ANT_CFG a.val) 0 = false) :
    exec (.antBiasRetry a) s = .next s := next_same (if_pos (by rcases h with h | h <;> simp [h]))

theorem antBiasRetry_closes (hlatch : s.dev.b (RBB.ANT_STAT a.val) 2 = false) (hon : s.cfg.b (RBB.ANT_CFG a.val) 0 = true) :
    exec (.antBiasRetry a) s = .next { s with dev := s.dev.putAnt a.val { s.dev.ant a.val with closed := true } } :=
  next_dev (if_neg (by simp [hlatch, hon]))

end

/-! ### Notches (R118) -/

section
variable (d : Dev) (p : Nat) (l : List (Int × Nat))

theorem putNotches_regsKept : RegsKept [RBB.PATH_STAT p] d (d.putNotches p l) :=
  regsKept_put (e := { d with rbb := { d.rbb with notches := Assoc.set [] d.rbb.notches p l } }) (fun _ _ => rfl) _ (by simp)

theorem putNotches_shown : (d.putNotches p l).f (RBB.PATH_STAT p) 8 4 = l.length % 2 ^ 4 := Dev.f_putF_self _ _ _ (by omega)

theorem putNotches_notches : Assoc.get [] (d.putNotches p l).rbb.notches p = l := Assoc.get_set_self _ _ _ _

theorem putNotches_records (code : Nat) (ps : List Int) : Records d ((d.putNotches p l).event code ps) code ps := rfl

/-- A line that engages a path's first notch. -/
theorem putNotches_event_shows (x : Int × Nat) (ps : List Int) : let t := (d.putNotches p [x]).event 0x1005 ps
    RegsKept [RBB.PATH_STAT p] d t ∧ t.f (RBB.PATH_STAT p) 8 4 = 1 ∧ Assoc.get [] t.rbb.notches p = [x] ∧ Records d t 0x1005 ps := by
  extract_lets t
  rw [Dev.event_rbb, Dev.f, Dev.w_event, ← Dev.f, putNotches_shown, putNotches_notches]
  exact ⟨regsKept_congr (putNotches_regsKept d p [x]) (Dev.event_regs _ _ _), rfl, rfl, putNotches_records d p [x] _ ps⟩

end

section
variable {s : State} {p : Fin 6} {offset : Int} {level : Nat}

theorem notchDisengaged_idle (h : notchAt offset (Assoc.get [] s.dev.rbb.notches p.val) = none) :
    exec (.notchDisengaged p ⟨offset, level⟩) s = .next s := next_same (by simp only [h])

theorem notchEngaged_idle (h : s.cfg.b (RBB.PATH_CFG p.val) 16 = false ∨ pathOn s.cfg p.val = false
    ∨ level < s.cfg.f (RBB.PATH_CFG p.val) 0 8) : exec (.notchEngaged p offset level) s = .next s :=
  next_same (if_pos (by rcases h with h | h | h <;> simp [h]))

section
variable {x : Int × Nat} (hat : notchAt offset (Assoc.get [] s.dev.rbb.notches p.val) = some x)
include hat

theorem notchDisengaged_falls (hlevel : level + 12 ≤ s.cfg.f (RBB.PATH_CFG p.val) 0 8) :
    exec (.notchDisengaged p ⟨offset, level⟩) s = .next { s with
      dev := s.dev.putNotches p.val ((Assoc.get [] s.dev.rbb.notches p.val).erase x) } :=
  next_dev (by simp only [hat]; exact if_pos hlevel)

theorem notchDisengaged_goesOn (hlevel : s.cfg.f (RBB.PATH_CFG p.val) 0 8 < level + 12) :
    exec (.notchDisengaged p ⟨offset, level⟩) s = .next { s with
      dev := s.dev.putNotches p.val (insertNotch (offset, level) ((Assoc.get [] s.dev.rbb.notches p.val).erase x)) } :=
  next_dev (by simp only [hat]; exact if_neg (by omega))

end

section
variable (hallowed : s.cfg.b (RBB.PATH_CFG p.val) 16 = true) (hpath : pathOn s.cfg p.val = true)
  (hlevel : s.cfg.f (RBB.PATH_CFG p.val) 0 8 ≤ level)
include hallowed hpath hlevel

theorem notchEngaged_follows {x : Int × Nat} (hat : notchAt offset (Assoc.get [] s.dev.rbb.notches p.val) = some x) :
    exec (.notchEngaged p offset level) s = .next { s with
      dev := s.dev.putNotches p.val (insertNotch (offset, level) ((Assoc.get [] s.dev.rbb.notches p.val).erase x)) } :=
  next_dev ((if_neg (by simp [hallowed, hpath, hlevel])).trans (by simp only [hat]))

theorem notchEngaged_first (hnone : Assoc.get [] s.dev.rbb.notches p.val = []) (hmax : 1 ≤ s.cfg.f (RBB.PATH_CFG p.val) 20 4) :
    exec (.notchEngaged p offset level) s = .next { s with
      dev := (s.dev.putNotches p.val [(offset, level)]).event 0x1005 [(p.val : Int), offset] } := by
  have htaken : (insertNotch (offset, level) []).take (s.cfg.f (RBB.PATH_CFG p.val) 20 4) = [(offset, level)] := List.take_of_length_le hmax
  refine next_dev ((if_neg (by simp [hallowed, hpath, hlevel])).trans ?_)
  simp [hnone, notchAt, htaken]

end
end

/-! ### Measurement epochs (R119, R134) -/

/-- Fields shown one after another change no part of the escapement. -/
theorem foldl_putF_esc {α : Type} (l : List α) (d : Dev) (k v : α → Nat) (lo n : Nat) :
    (l.foldl (fun d x => d.putF (k x) lo n (v x)) d).esc = d.esc := by
  induction l generalizing d with
  | nil => rfl
  | cons x t ih => exact ih _

theorem showPaths_esc (d : Dev) (c : Cfg) (o : EpochObs) : (d.showPaths c o).esc = d.esc :=
  (foldl_putF_esc _ _ _ _ _ _).trans (foldl_putF_esc _ _ _ _ _ _)

/-- The checks of an epoch, on the satellites then known. -/
def Dev.runChecks (d : Dev) (c : Cfg) (o : EpochObs) : Dev :=
  let e := { d with rbb := { d.rbb with views := o.views } }.isbWalk o.isb
  ((e.doaTests c).monitors c o).agcEpoch o

/-- The solutions of the antennas, in turn. -/
def Dev.solveAll (d : Dev) (c : Cfg) : Dev := [0, 1, 2].foldl (fun d a => d.solution c a) d

/-- The observables, unless a DOA flag is raised, and the attitude. -/
def Dev.report (d : Dev) (c : Cfg) : Dev :=
  ((if doaRaised d then d else ((shownChannels d).filter (chMeasures d)).foldl (fun d n => d.observable c n) d).attitude c).epochTaken

theorem solveAll_eq (d : Dev) (c : Cfg) : d.solveAll c = ((d.solution c 0).solution c 1).solution c 2 := by
  simp only [Dev.solveAll, List.foldl_cons, List.foldl_nil]

section
variable {s : State} {o : EpochObs}

theorem measurementEpoch_shows (h : s.cfg.b RBB.GCFG 0 = false ∨ s.dev.esc.beat % epochBeats s.cfg ≠ 0) :
    exec (.measurementEpoch o) s = .next { s with dev := s.dev.showPaths s.cfg o } :=
  next_dev (if_pos (by rw [showPaths_esc]; simpa using h))

theorem measurementEpoch_measures (hon : s.cfg.b RBB.GCFG 0 = true) (hbeat : s.dev.esc.beat % epochBeats s.cfg = 0) :
    exec (.measurementEpoch o) s = .next { s with dev := (((s.dev.showPaths s.cfg o).runChecks s.cfg o).solveAll s.cfg).report s.cfg } :=
  next_dev (if_neg (by rw [showPaths_esc]; simp [hon, hbeat]))

end

/-! ### Exclusions end, gains are learnt (R156, R161) -/

/-- An exclusion of the satellite ends. -/
def Dev.readmit (d : Dev) (sat : Sat) : Dev := { d with rbb := { d.rbb with excluded := d.rbb.excluded.filter (fun e => e.1 != sat) } }

/-- Every antenna shows how many satellites are excluded. -/
def Dev.showExclusions (d : Dev) : Dev := (List.range 3).foldl (fun d a => d.putF (RBB.SOL_INT a) 16 8 d.rbb.excluded.length) d

section
variable (d : Dev)

theorem showExclusions_eq : d.showExclusions = ((d.putF (RBB.SOL_INT 0) 16 8 d.rbb.excluded.length).putF (RBB.SOL_INT 1) 16 8
    d.rbb.excluded.length).putF (RBB.SOL_INT 2) 16 8 d.rbb.excluded.length := by
  have hantennas : List.range 3 = [0, 1, 2] := rfl
  simp only [Dev.showExclusions, hantennas, List.foldl_cons, List.foldl_nil]
  rw [Dev.putF_rbb, Dev.putF_rbb, Dev.putF_rbb]

theorem showExclusions_regsKept : RegsKept [RBB.SOL_INT 0, RBB.SOL_INT 1, RBB.SOL_INT 2] d d.showExclusions := by
  rw [showExclusions_eq]
  exact regsKept_put (regsKept_put (regsKept_put regsKept_refl _ (by simp)) _ (by simp)) _ (by simp)

theorem showExclusions_rbb : d.showExclusions.rbb = d.rbb := by rw [showExclusions_eq, Dev.putF_rbb, Dev.putF_rbb, Dev.putF_rbb]
theorem showExclusions_tick : d.showExclusions.tick = d.tick := by rw [showExclusions_eq, Dev.putF_tick, Dev.putF_tick, Dev.putF_tick]

theorem showExclusions_shown {a : Nat} (h : a < 3) : d.showExclusions.f (RBB.SOL_INT a) 16 8 = d.rbb.excluded.length % 256 := by
  change _ = d.rbb.excluded.length % 2 ^ 8
  rw [showExclusions_eq]
  interval_cases a
  · rw [Dev.f_putF_ne _ _ _ _ _ _ (by decide), Dev.f_putF_ne _ _ _ _ _ _ (by decide), Dev.f_putF_self _ _ _ (by omega)]
  · rw [Dev.f_putF_ne _ _ _ _ _ _ (by decide), Dev.f_putF_self _ _ _ (by omega)]
  · rw [Dev.f_putF_self _ _ _ (by omega)]

end

/-- An exclusion that has ended: what the antennas show, what is excluded still, the instant. -/
theorem readmit_shows (d : Dev) (sat : Sat) (k : Nat) : let t := ((d.advanceTo k).readmit sat).showExclusions
    RegsKept [RBB.SOL_INT 0, RBB.SOL_INT 1, RBB.SOL_INT 2] d t ∧ t.rbb.excluded = d.rbb.excluded.filter (fun e => e.1 != sat)
      ∧ t.tick = max d.tick k ∧ ∀ a, a < 3 → t.f (RBB.SOL_INT a) 16 8 = t.rbb.excluded.length % 256 := by
  have hkept := showExclusions_regsKept ((d.advanceTo k).readmit sat)
  extract_lets t
  rw [showExclusions_rbb, showExclusions_tick]
  exact ⟨hkept, rfl, rfl, fun a => showExclusions_shown _⟩

section
variable {s : State} {sat : Sat}

theorem raimExclusionExpiry_idle (h : s.dev.rbb.excluded.find? (fun e => e.1 == sat) = none) :
    exec (.raimExclusionExpiry sat) s = .next s := next_same (by simp only [h])

theorem raimExclusionExpiry_ends {e : Sat × Nat} (h : s.dev.rbb.excluded.find? (fun e => e.1 == sat) = some e) :
    exec (.raimExclusionExpiry sat) s = .next { s with dev := ((s.dev.advanceTo e.2).readmit sat).showExclusions } :=
  next_dev (by simp only [h]; rfl)

end

/-- The gains learnt on a path, in order. -/
def sortedGains (d : Dev) (p : Nat) : List Nat := (Assoc.get [] d.rbb.agcHist p).foldr insertNat []

section
variable {s : State} {p : Fin 6}

theorem agcRefLearned_idle (h : (s.dev.w RBB.INT_FLAG).toNat % 2 ^ 15 ≠ 0 ∨ (sortedGains s.dev p.val).length < 600 * epochRate s.cfg) :
    exec (.agcRefLearned p ()) s = .next s := next_same (if_pos (by simpa [sortedGains] using h))

theorem agcRefLearned_learns (hclear : (s.dev.w RBB.INT_FLAG).toNat % 2 ^ 15 = 0)
    (hlong : 600 * epochRate s.cfg ≤ (sortedGains s.dev p.val).length) :
    exec (.agcRefLearned p ()) s = .next { s with
      dev := s.dev.putN (RBB.AGC_REF p.val)
        ((sortedGains s.dev p.val).getD (((sortedGains s.dev p.val).length - 1) / 2) 0 + 65536) } :=
  next_dev (if_neg (by simpa [sortedGains] using ⟨hclear, hlong⟩))

end

/-! ### Corrections (R139, R140) -/

/-- The length that a frame gives, its message, its type. -/
def rtcmLength (l : List Byte) : Nat := beNat ((l.drop 1).take 2) % 1024
def rtcmBody (l : List Byte) : List Byte := (l.drop 3).take (rtcmLength l)
def rtcmType (l : List Byte) : Nat := beNat ((rtcmBody l).take 2) / 16

/-- MSM corrections are taken: their age starts anew. -/
def Dev.takeMsm (d : Dev) (t : Nat) (body : List Byte) : Dev :=
  { d with rbb := { d.rbb with corrections := Assoc.set [] d.rbb.corrections t body, corrTick := some d.tick, corrStale := false } }

theorem takeMsm_shows (d : Dev) (t : Nat) (body : List Byte) : let u := d.takeMsm t body
    u = { d with rbb := u.rbb } ∧ u.rbb.corrTick = some d.tick ∧ u.rbb.corrStale = false
      ∧ u.rbb.corrections = Assoc.set [] d.rbb.corrections t body := ⟨rfl, rfl, rfl, rfl⟩

section
variable {s : State} {l : List Byte} {via : RtcmPort}

theorem rtcmFrame_ignored (h : corrVia s.cfg via = false ∨ l.head? ≠ some 0xD3) : exec (.rtcmFrame l via) s = .next s :=
  next_same (if_pos (by simpa using h))

section
variable (hvia : corrVia s.cfg via = true) (hhead : l.head? = some 0xD3)
include hvia hhead

theorem rtcmFrame_bad (h : l.length ≠ rtcmLength l + 6 ∨ crc24q (l.take (rtcmLength l + 3)) ≠ beNat (l.drop (rtcmLength l + 3))) :
    exec (.rtcmFrame l via) s = .next { s with dev := s.dev.sat RBB.CORR_BAD_CNT 0 16 1 } :=
  next_dev ((if_neg (by simp [hvia, hhead])).trans (if_pos (by simpa [rtcmLength] using h)))

variable (hlength : l.length = rtcmLength l + 6) (hcrc : crc24q (l.take (rtcmLength l + 3)) = beNat (l.drop (rtcmLength l + 3)))
include hlength hcrc

omit hvia hhead in
/-- Length and parity are right. -/
theorem rtcm_whole : (l.length != rtcmLength l + 6 || crc24q (l.take (rtcmLength l + 3)) != beNat (l.drop (rtcmLength l + 3))) = false := by
  simp [hlength, hcrc]

theorem rtcmFrame_unknown (h : rtcmLength l < 3 ∨ rtcmKnown (rtcmType l) = false) :
    exec (.rtcmFrame l via) s = .next { s with dev := s.dev.sat RBB.CORR_BAD_CNT 16 16 1 } :=
  next_dev ((if_neg (by simp [hvia, hhead])).trans ((if_neg (Bool.eq_false_iff.mp (rtcm_whole hlength hcrc))).trans
    (if_pos (by simpa [rtcmLength, rtcmType, rtcmBody] using h))))

theorem rtcmFrame_msm (hlong : 3 ≤ rtcmLength l) (hmsm : isMsm (rtcmType l) = true) :
    exec (.rtcmFrame l via) s = .next { s with dev := s.dev.takeMsm (rtcmType l) (rtcmBody l) } := by
  have hknown : rtcmKnown (rtcmType l) = true := by rw [rtcmKnown, hmsm, Bool.true_or]
  exact next_dev ((if_neg (by simp [hvia, hhead])).trans ((if_neg (Bool.eq_false_iff.mp (rtcm_whole hlength hcrc))).trans
    ((if_neg (c := (decide (rtcmLength l < 3) || !rtcmKnown (rtcmType l)) = true) (by simp [hknown, hlong])).trans (if_pos hmsm))))

end
end

section
variable {s : State}

theorem corrStale_idle (h : s.dev.rbb.corrTick = none ∨ s.dev.rbb.corrStale = true) : exec .corrStale s = .next s := by
  refine next_same ?_
  dsimp only
  split
  · rfl
  · next t htick => exact if_pos (by simpa [htick] using h)

/-- The corrections are stale. -/
def Dev.noteStale (d : Dev) : Dev := { d with rbb := { d.rbb with corrStale := true } }

theorem corrStale_passes {t : Nat} (htick : s.dev.rbb.corrTick = some t) (hfresh : s.dev.rbb.corrStale = false) :
    exec .corrStale s = .next { s with
      dev := (s.dev.advanceTo (t + s.cfg.f RBB.CORR_AGE 0 7 * 200000000 + 1)).noteStale.event 0x1008 } :=
  next_dev (by simp only [htick]; exact if_neg (by simp [hfresh]))

end

/-! ### Vector steering (R142 to R144) -/

/-- Of the units only what the channels hold differs. -/
def ChansOnly (d e : Dev) : Prop := e = { d with rbb := { d.rbb with chans := e.rbb.chans } }

/-- Steering of one channel: its rates, or the prediction where it is served on. -/
def Dev.steerChan (d : Dev) (c : Cfg) (n : Nat) : Dev :=
  match chView d n with
  | none => d
  | some v =>
    let rate := predictedRate c d n v
    if chState d n = 4 then d.putChan n { d.chan n with nextRates := some (rate, rate) }
    else if (d.chan n).served then d.putChan n { d.chan n with codePhase := codeNow d n, codeTick := d.tick, doppler := dopplerOf d n rate }
    else d

section
variable {c : Cfg} {d e : Dev} {n : Nat} {v : SatView}

theorem chansOnly_putChan (h : ChansOnly d e) (m : Nat) (x : ChanDev) : ChansOnly d (e.putChan m x) := by
  rw [h]
  rfl

theorem chansOnly_regsKept (h : ChansOnly d e) : RegsKept [] d e := by
  rw [h]
  exact fun _ _ => rfl

theorem chansOnly_chState (h : ChansOnly d e) (n : Nat) : chState e n = chState d n := by
  rw [h]
  rfl

theorem chansOnly_chView (h : ChansOnly d e) (n : Nat) : chView e n = chView d n := by
  rw [h]
  rfl

theorem chansOnly_predictedRate (h : ChansOnly d e) (c : Cfg) (n : Nat) (v : SatView) : predictedRate c e n v = predictedRate c d n v := by
  rw [h]
  rfl

theorem chan_putChan_ne (d : Dev) {n m : Nat} (x : ChanDev) (h : m ≠ n) : (d.putChan n x).chan m = d.chan m := Assoc.get_set_ne _ _ _ _ h

theorem steerChan_unknown (h : chView d n = none) : d.steerChan c n = d := by simp only [Dev.steerChan, h]

theorem steerChan_chansOnly (h : ChansOnly d e) (c : Cfg) (m : Nat) : ChansOnly d (e.steerChan c m) := by
  unfold Dev.steerChan
  split
  · exact h
  · dsimp only
    split_ifs
    · exact chansOnly_putChan h _ _
    · exact chansOnly_putChan h _ _
    · exact h

theorem chan_steerChan_ne (d : Dev) (c : Cfg) {n m : Nat} (h : m ≠ n) : (d.steerChan c n).chan m = d.chan m := by
  unfold Dev.steerChan
  split
  · rfl
  · dsimp only
    split_ifs
    · exact chan_putChan_ne _ _ h
    · exact chan_putChan_ne _ _ h
    · rfl

/-- A channel in VECTOR whose satellite is known takes the predicted rate twice. -/
theorem steerChan_vector (hstate : chState d n = 4) (hview : chView d n = some v) :
    ((d.steerChan c n).chan n).nextRates = some (predictedRate c d n v, predictedRate c d n v) := by
  simp only [Dev.steerChan, hview, hstate, if_true, chan_putChan]

theorem steer_chansOnly (c : Cfg) (l : List Nat) (h : ChansOnly d e) : ChansOnly d (l.foldl (fun d n => d.steerChan c n) e) := by
  induction l generalizing e with
  | nil => exact h
  | cons m t ih => exact ih (steerChan_chansOnly h c m)

/-- Every channel of the list in VECTOR with a known satellite holds its rates in the end. -/
theorem steer_vector (c : Cfg) (l : List Nat) (h : ChansOnly d e) (hstate : chState d n = 4) (hview : chView d n = some v)
    (hn : n ∈ l ∨ (e.chan n).nextRates = some (predictedRate c d n v, predictedRate c d n v)) :
    ((l.foldl (fun d n => d.steerChan c n) e).chan n).nextRates = some (predictedRate c d n v, predictedRate c d n v) := by
  induction l generalizing e with
  | nil => exact hn.resolve_left (List.not_mem_nil)
  | cons m t ih =>
    refine ih (steerChan_chansOnly h c m) ?_
    by_cases hm : n = m
    · subst hm
      right
      rw [steerChan_vector ((chansOnly_chState h n).trans hstate) ((chansOnly_chView h n).trans hview), chansOnly_predictedRate h]
    · rw [chan_steerChan_ne e c hm]
      exact hn.imp_left fun hmem => (List.mem_cons.mp hmem).resolve_left hm

theorem steer_unknown (c : Cfg) (l : List Nat) (h : ∀ n, chView d n = none) : l.foldl (fun d n => d.steerChan c n) d = d := by
  induction l with
  | nil => rfl
  | cons m t ih => rw [List.foldl_cons, steerChan_unknown (h m), ih]

end

section
variable {s : State}

theorem vectorSteeringWrite_steers : exec (.vectorSteeringWrite ()) s = .next { s with
    dev := (shownChannels s.dev).foldl (fun d n => d.steerChan s.cfg n) s.dev } := rfl

theorem vectorSteeringWrite_idle (h : s.dev.rbb.views = [] ∨ shownChannels s.dev = []) : exec (.vectorSteeringWrite ()) s = .next s := by
  refine vectorSteeringWrite_steers.trans (next_same ?_)
  rcases h with hviews | hnone
  · exact steer_unknown s.cfg _ fun n => by rw [chView, hviews, List.find?_nil]
  · rw [hnone, List.foldl_nil]

end

/-- A stop by misses is noted. -/
def Dev.noteMisses (d : Dev) : Dev := { d with rbb := { d.rbb with missStop := true } }

/-- Steering ends with a cause: the frames are counted anew. -/
def Dev.stopSteering (d : Dev) (cause : Nat) : Dev :=
  (({ d with rbb := { d.rbb with clearFrames := 0 } } : Dev).putB RBB.VEC_STAT 0 false).putF RBB.VEC_STAT 1 3 cause

section
variable {c : Cfg} {d : Dev}

/-- Where no other cause is present, the misses are the cause. -/
theorem vecCause_noteMisses (h : vecCause c d = 0) : vecCause c d.noteMisses = 3 := by
  unfold vecCause at h
  split_ifs at h with hoff hdoa hsplit hest hmiss
  have hmissed : d.noteMisses.rbb.missStop = true := rfl
  exact (if_neg hoff).trans ((if_neg hdoa).trans ((if_neg hsplit).trans ((if_neg hest).trans (if_pos hmissed))))

theorem vecRefresh_stops (hcause : vecCause c d ≠ 0) (hsteers : d.b RBB.VEC_STAT 0 = true) :
    d.vecRefresh c = (d.stopSteering (vecCause c d)).event 0x100A [vecCause c d] := (if_neg hcause).trans (if_pos hsteers)

end

section
variable (d : Dev) (cause : Nat)

theorem stopSteering_regsKept : RegsKept [RBB.VEC_STAT] d (d.stopSteering cause) :=
  have hmem := List.mem_singleton_self RBB.VEC_STAT
  regsKept_put (regsKept_put (e := { d with rbb := { d.rbb with clearFrames := 0 } }) (fun _ _ => rfl) _ hmem) _ hmem

theorem stopSteering_steers : (d.stopSteering cause).b RBB.VEC_STAT 0 = false := by
  rw [Dev.stopSteering, Dev.b_putF_apart _ _ _ (by omega) (by omega), Dev.b_putB_self _ _ _ (by omega)]

theorem stopSteering_cause : (d.stopSteering cause).f RBB.VEC_STAT 1 3 = cause % 2 ^ 3 := Dev.f_putF_self _ _ _ (by omega)

/-- Steering stopped by misses, as VEC_STAT shows it and an event records it. -/
theorem noteMisses_shows (ps : List Int) : let t := (d.noteMisses.stopSteering 3).event 0x100A ps
    RegsKept [RBB.VEC_STAT] d t ∧ t.b RBB.VEC_STAT 0 = false ∧ t.f RBB.VEC_STAT 1 3 = 3 ∧ t.rbb.missStop = true
      ∧ Records d t 0x100A ps := by
  extract_lets t
  rw [b_event, Dev.f, Dev.w_event, ← Dev.f, stopSteering_steers, stopSteering_cause]
  exact ⟨stopSteering_regsKept d.noteMisses 3, rfl, rfl, rfl, rfl⟩

end

section
variable {s : State}

theorem vecMissLimit_idle (h : s.dev.b RBB.VEC_STAT 0 = false) : exec .vecMissLimit s = .next s := next_same (if_neg (by simp [h]))

theorem vecMissLimit_stops (hsteers : s.dev.b RBB.VEC_STAT 0 = true) (hcause : vecCause s.cfg s.dev = 0)
    (hmissed : (shownChannels s.dev).any (fun n => chState s.dev n = 4 && s.cfg.f RBB.VEC_CFG 16 3 ≤ (s.dev.chan n).miss) = true) :
    exec .vecMissLimit s = .next { s with dev := (s.dev.noteMisses.stopSteering 3).event 0x100A [3] } := by
  have hthree := vecCause_noteMisses hcause
  have hstops : s.dev.noteMisses.vecRefresh s.cfg = (s.dev.noteMisses.stopSteering 3).event 0x100A [3] := by
    rw [vecRefresh_stops (d := s.dev.noteMisses) (by omega) hsteers, hthree]
    rfl
  exact next_dev ((if_pos (by rw [hsteers, hmissed]; rfl)).trans hstops)

theorem vecResume_idle (h : s.dev.b RBB.VEC_STAT 0 = true ∨ vecCause s.cfg s.dev ≠ 0 ∨ s.dev.rbb.clearFrames < 100) :
    exec .vecResume s = .next s := next_same (if_pos (by simpa [or_assoc] using h))

theorem vecResume_resumes (hstill : s.dev.b RBB.VEC_STAT 0 = false) (hcause : vecCause s.cfg s.dev = 0)
    (hclear : 100 ≤ s.dev.rbb.clearFrames) :
    exec .vecResume s = .next { s with dev := ((s.dev.putB RBB.VEC_STAT 0 true).putF RBB.VEC_STAT 1 3 0).event 0x100B } :=
  next_dev (if_neg (by simp [hstill, hcause, hclear]))

end

/-- Settles O60: antennas, notches, epochs, exclusions, gains, corrections, steering. -/
theorem rangingFrontEnd : Obligations.RangingFrontEnd := by
  refine ⟨fun s a ma => antShort_idle, fun s a ma hon hclosed hshort => ?_, fun s a ma => antBiasSample_low,
    fun s a => ⟨antBiasRetry_idle, antBiasRetry_closes⟩, fun s p offset level => ?_,
    fun s o => ⟨measurementEpoch_shows, fun hon hbeat => ?_⟩,
    fun s sat => ⟨raimExclusionExpiry_idle, fun e he => ?_⟩, fun s p => ⟨agcRefLearned_idle, agcRefLearned_learns⟩,
    fun s l via => ⟨rtcmFrame_ignored, fun hvia hhead => ?_⟩, fun s => ⟨corrStale_idle, fun t => corrStale_passes⟩, fun s => ?_,
    fun s => ⟨vecMissLimit_idle, fun hsteers hcause hmissed => ?_⟩, fun s => ⟨vecResume_idle, vecResume_resumes⟩⟩
  · obtain ⟨hclass, hcurrent, hcount⟩ := shorted_shows s.dev a.val ma.val ma.isLt
    exact ⟨_, antShort_shorts hon hclosed hshort, rfl, hclass, hcurrent, hcount, shorted_closed _ _ _,
      antBiasSample_shorts hon hclosed hshort⟩
  · refine ⟨notchDisengaged_idle, notchEngaged_idle, fun hallowed hpath hlevel => ⟨fun hnone hmax => ?_, fun x =>
      notchEngaged_follows hallowed hpath hlevel⟩, fun x hat => ⟨notchDisengaged_falls hat, notchDisengaged_goesOn hat⟩⟩
    exact ⟨_, notchEngaged_first hallowed hpath hlevel hnone hmax, rfl, putNotches_event_shows s.dev p.val (offset, level) _⟩
  · have hmeasured := measurementEpoch_measures (o := o) hon hbeat
    rw [solveAll_eq, Dev.report] at hmeasured
    exact hmeasured
  · exact ⟨_, raimExclusionExpiry_ends he, rfl, readmit_shows s.dev sat e.2⟩
  · exact ⟨rtcmFrame_bad hvia hhead, fun hlength hcrc => ⟨rtcmFrame_unknown hvia hhead hlength hcrc, fun hlong hmsm =>
      ⟨_, rtcmFrame_msm hvia hhead hlength hcrc hlong hmsm, rfl, takeMsm_shows s.dev (rtcmType l) (rtcmBody l)⟩⟩⟩
  · have honly : ChansOnly s.dev s.dev := rfl
    exact ⟨vectorSteeringWrite_idle, _, vectorSteeringWrite_steers, rfl, chansOnly_regsKept (steer_chansOnly _ _ honly),
      fun n v hn hstate hview => steer_vector s.cfg _ honly hstate hview (.inl hn)⟩
  · exact ⟨_, vecMissLimit_stops hsteers hcause hmissed, rfl, noteMisses_shows s.dev [3]⟩

end Sys2Proof.Machine
end

section
/-! SUPPORT. Fusion: what shows a track, its timeouts, and the commands TRK_CMD and SPLIT_SEL. -/
namespace Sys2Proof.Machine

/-- From `d` to `e` only registers have changed. -/
def RegsOnly (d e : Dev) : Prop := e = { d with regs := e.regs }

theorem regsOnly_put {d e : Dev} (h : RegsOnly d e) (k : Nat) (v : Word) : RegsOnly d (e.put k v) := by
  have hregs : ∀ l, ({ e with regs := l } : Dev) = { d with regs := l } := fun l => by rw [h]
  exact hregs _

theorem regsOnly_refl (d : Dev) : RegsOnly d d := rfl

/-- A module journals by its crown and by what PRC.STAT shows of its partner. -/
theorem journaling_congr {d e : Dev} (hprc : e.prc = d.prc) (hstat : e.w PRC.STAT = d.w PRC.STAT) (c : Cfg) :
    journaling c e = journaling c d := by
  rw [journaling, journaling, Dev.crown, Dev.crown, hprc, Dev.b, Dev.b, hstat]

/-! ### A track's state and what shows it (R166, R169, Table 7.2) -/

/-- The registers that show a track's state: TRK_STAT, TRK_VALID, TRK_OOS. -/
def trackKeys (t : Nat) : List Nat := [FUS.TRK_STAT t, FUS.TRK_VALID (t / 32), FUS.TRK_OOS (t / 32)]

theorem trkStat_ne_trkValid (t : Nat) : FUS.TRK_STAT t ≠ FUS.TRK_VALID (t / 32) := by unfold FUS.TRK_STAT FUS.TRK_VALID; omega
theorem trkStat_ne_trkOos (t : Nat) : FUS.TRK_STAT t ≠ FUS.TRK_OOS (t / 32) := by unfold FUS.TRK_STAT FUS.TRK_OOS; omega
theorem trkValid_ne_trkOos (i : Nat) : FUS.TRK_VALID i ≠ FUS.TRK_OOS i := by unfold FUS.TRK_VALID FUS.TRK_OOS; omega

section
variable (d : Dev) (c : Cfg) (t st : Nat) (x : TrackDev)

@[simp] theorem trk_putTrk : (d.putTrk t x).trk t = x := Assoc.get_set_self _ _ _ _
@[simp] theorem w_putTrk (k : Nat) : (d.putTrk t x).w k = d.w k := rfl
@[simp] theorem putTrk_tick : (d.putTrk t x).tick = d.tick := rfl
@[simp] theorem putTrk_prc : (d.putTrk t x).prc = d.prc := rfl
@[simp] theorem putTrk_occ : (d.putTrk t x).occ = d.occ := rfl
@[simp] theorem putTrk_eventBeat : (d.putTrk t x).eventBeat = d.eventBeat := rfl

/-- Showing a track writes VALID twice, the weight and OUT_OF_STEP: only a track in RAMP or ACTIVE is VALID (R169). -/
theorem showTrk_writes : ∃ v n, d.showTrk c t =
    (((d.putB (FUS.TRK_STAT t) 3 v).putF (FUS.TRK_STAT t) 16 8 n).putB (FUS.TRK_VALID (t / 32)) (t % 32) v).putB (FUS.TRK_OOS (t / 32))
      (t % 32) (decide (trkState d t = 5))
      ∧ (trkState d t ≠ 3 → trkState d t ≠ 4 → v = false) :=
  ⟨_, _, rfl, fun h3 h4 => by simp [h3, h4]⟩

theorem trkState_putF {st : Nat} (h : st < 8) : trkState (d.putF (FUS.TRK_STAT t) 0 3 st) t = st :=
  (Dev.f_putF_self _ _ _ (by omega)).trans (Nat.mod_eq_of_lt h)

theorem setTrk_regsKept : RegsKept (trackKeys t) d (d.setTrk c t st) := by
  obtain ⟨v, n, heq, -⟩ := showTrk_writes (d.putF (FUS.TRK_STAT t) 0 3 st) c t
  rw [Dev.setTrk, heq]
  exact regsKept_put (regsKept_put (regsKept_put (regsKept_put (regsKept_put regsKept_refl _ (by simp [trackKeys])) _
    (by simp [trackKeys])) _ (by simp [trackKeys])) _ (by simp [trackKeys])) _ (by simp [trackKeys])

/-- The field of the state is at bits 0 to 2, VALID at 3, the weight at 16 to 23: the fields between stay. -/
theorem f_showTrk {lo n : Nat} (h : lo + n ≤ 3 ∨ (4 ≤ lo ∧ lo + n ≤ 16)) :
    (d.showTrk c t).f (FUS.TRK_STAT t) lo n = d.f (FUS.TRK_STAT t) lo n := by
  obtain ⟨v, m, heq, -⟩ := showTrk_writes d c t
  rw [heq, Dev.f_putB_ne _ _ _ _ _ (trkStat_ne_trkOos t), Dev.f_putB_ne _ _ _ _ _ (trkStat_ne_trkValid t),
    Dev.f_putF_apart _ _ _ (by omega) (by omega), Dev.f_putB_apart _ _ _ (by omega) (by omega)]

theorem trkState_setTrk {st : Nat} (h : st < 8) : trkState (d.setTrk c t st) t = st :=
  (f_showTrk _ _ _ (by omega)).trans (trkState_putF d t h)

/-- The count of good items of a quarantine stays. -/
theorem setTrk_goodItems : (d.setTrk c t st).f (FUS.TRK_STAT t) 8 8 = d.f (FUS.TRK_STAT t) 8 8 :=
  (f_showTrk _ _ _ (by omega)).trans (Dev.f_putF_apart _ _ _ (by omega) (by omega))

theorem trackValid_setTrk {st : Nat} (h : st < 8) (h3 : st ≠ 3) (h4 : st ≠ 4) : trackValid (d.setTrk c t st) t = false := by
  obtain ⟨v, n, heq, hvalid⟩ := showTrk_writes (d.putF (FUS.TRK_STAT t) 0 3 st) c t
  rw [trkState_putF d t h] at hvalid
  rw [Dev.setTrk, heq, trackValid, Dev.b_putB_ne _ _ _ _ (trkValid_ne_trkOos _), Dev.b_putB_self _ _ _ (Nat.mod_lt _ (by omega)),
    hvalid h3 h4]

theorem setTrk_outOfStep {st : Nat} (h : st < 8) : (d.setTrk c t st).b (FUS.TRK_OOS (t / 32)) (t % 32) = decide (st = 5) := by
  obtain ⟨v, n, heq, -⟩ := showTrk_writes (d.putF (FUS.TRK_STAT t) 0 3 st) c t
  rw [Dev.setTrk, heq, Dev.b_putB_self _ _ _ (Nat.mod_lt _ (by omega)), trkState_putF d t h]

theorem setTrk_regsOnly : RegsOnly d (d.setTrk c t st) := by
  obtain ⟨v, n, heq, -⟩ := showTrk_writes (d.putF (FUS.TRK_STAT t) 0 3 st) c t
  rw [Dev.setTrk, heq]
  exact regsOnly_put (regsOnly_put (regsOnly_put (regsOnly_put (regsOnly_put (regsOnly_refl d) _ _) _ _) _ _) _ _) _ _

theorem setTrk_tick : (d.setTrk c t st).tick = d.tick := by rw [setTrk_regsOnly]
theorem setTrk_occ : (d.setTrk c t st).occ = d.occ := by rw [setTrk_regsOnly]
theorem setTrk_prc : (d.setTrk c t st).prc = d.prc := by rw [setTrk_regsOnly]
theorem setTrk_eventBeat : (d.setTrk c t st).eventBeat = d.eventBeat := by rw [setTrk_regsOnly, Dev.eventBeat, Dev.eventBeat]
theorem trk_setTrk (u : Nat) : (d.setTrk c t st).trk u = d.trk u := by rw [setTrk_regsOnly, Dev.trk, Dev.trk]

theorem trkState_event (code : Nat) (ps : List Int) : trkState (d.event code ps) t = trkState d t := rfl
theorem trackValid_event (code : Nat) (ps : List Int) : trackValid (d.event code ps) t = trackValid d t := rfl
theorem trk_event (code : Nat) (ps : List Int) : (d.event code ps).trk t = d.trk t := rfl
theorem trk_advanceTo (tick : Nat) : (d.advanceTo tick).trk t = d.trk t := rfl
theorem putF_eventBeat (k lo n v : Nat) : (d.putF k lo n v).eventBeat = d.eventBeat := rfl
theorem trk_putF (k lo n v : Nat) : (d.putF k lo n v).trk t = d.trk t := rfl

end

/-! ### Timeouts of tracks (R166, R184, R267) -/

section
variable {s : State} {k : Fin 64}

theorem trackTimeout_idle (h : trkState s.dev k.val < 2 ∨ 4 < trkState s.dev k.val) : exec (.trackTimeout k) s = .next s :=
  next_same (if_pos (by simp; omega))

/-- A track that timed out: its last item is STALE, and SUBSTITUTED where a set-point stands in; it is lost from `tick` on. -/
def TrackDev.lose (x : TrackDev) (stands : Bool) (tick : Nat) : TrackDev :=
  { x with lastQuality := quality (x.lastQuality.toNat ||| qSTALE ||| (if stands then qSUBSTITUTED else 0)), lostTick := some tick }

/-- The units after the timeout: the track waits, recorded. -/
def Dev.loseTrack (d : Dev) (c : Cfg) (t : Nat) : Dev :=
  ((d.putTrk t ((d.trk t).lose (trkClass c t = 9 && c.b FUS.EGO_CFG 0) d.tick)).setTrk c t 1).event 0x1106 [(t : Int)]

theorem trackTimeout_waits {v : Nat} (hlo : 2 ≤ trkState s.dev k.val) (hhi : trkState s.dev k.val ≤ 4)
    (hvalid : (s.dev.trk k.val).lastValid = some v) :
    exec (.trackTimeout k) s = .next { s with
      dev := (s.dev.advanceTo (v + trkTmo s.cfg k.val * ticksPerMs)).loseTrack s.cfg k.val } := by
  refine next_dev ((if_neg (by simp [hlo, hhi])).trans ?_)
  simp only [hvalid, Dev.loseTrack, TrackDev.lose, trk_advanceTo]

theorem loseTrack_shows (d : Dev) (c : Cfg) (t : Nat) :
    trkState (d.loseTrack c t) t = 1 ∧ trackValid (d.loseTrack c t) t = false ∧ (d.loseTrack c t).tick = d.tick
      ∧ ((d.loseTrack c t).trk t).lostTick = some d.tick ∧ RegsKept (trackKeys t) d (d.loseTrack c t)
      ∧ (d.loseTrack c t).occ = d.occ ++ [⟨0x1106, d.tick, d.eventBeat, [(t : Int)]⟩] := by
  refine ⟨?_, ?_, ?_, ?_, fun k hk => ?_, ?_⟩
  · rw [Dev.loseTrack, trkState_event, trkState_setTrk _ _ _ (by omega)]
  · rw [Dev.loseTrack, trackValid_event, trackValid_setTrk _ _ _ (by omega) (by omega) (by omega)]
  · rw [Dev.loseTrack, Dev.event_tick, setTrk_tick, putTrk_tick]
  · rw [Dev.loseTrack, trk_event, trk_setTrk, trk_putTrk, TrackDev.lose]
  · rw [Dev.loseTrack, Dev.w_event, setTrk_regsKept _ _ _ _ _ hk, w_putTrk]
  · rw [Dev.loseTrack, Dev.event_occ, setTrk_occ, putTrk_occ, setTrk_tick, putTrk_tick, setTrk_eventBeat, putTrk_eventBeat]

theorem feedbackLost_idle (h : trkClass s.cfg k.val ≠ 9 ∨ trkState s.dev k.val ≠ 1 ∨ (s.dev.trk k.val).lostTick = none) :
    exec (.feedbackLost k) s = .next s := by
  refine next_same ?_
  cases hlost : (s.dev.trk k.val).lostTick with
  | none => simp only [hlost]
  | some v =>
    simp only [hlost]
    exact if_pos (by simpa [hlost, or_assoc] using Or.inl h)

/-- The force is taken as zero, with a substituted set-point recorded, and the actuator goes. -/
theorem feedbackLost_trips {v : Nat} (hclass : trkClass s.cfg k.val = 9) (hwait : trkState s.dev k.val = 1)
    (hforce : (s.dev.trk k.val).forceZero = false) (hstand : s.cfg.b FUS.EGO_CFG 0 = true)
    (hlost : (s.dev.trk k.val).lostTick = some v) :
    exec (.feedbackLost k) s = .next { s with
      dev := (((s.dev.advanceTo (v + ticksPerSec)).putTrk k.val { s.dev.trk k.val with forceZero := true }).event 0x110A
        [(trkActuator s.cfg k.val : Int)]).actTrip (trkActuator s.cfg k.val) 2 1 } := by
  refine next_dev ?_
  simp only [hlost]
  refine (if_neg (by simp [hclass, hwait, hforce])).trans ?_
  rw [if_pos hstand]

end

section
variable (d : Dev) (n st cause : Nat)

/-- The registers of an actuator that leaves AVAILABLE. -/
def actuatorKeys (n : Nat) : List Nat := [LAW.ACT_STAT n, LAW.ACT_AVAIL 0, LAW.ACT_AVAIL 1]

theorem actStat_ne_actAvail {i : Nat} (h : i < 2) : LAW.ACT_STAT n ≠ LAW.ACT_AVAIL i := by unfold LAW.ACT_STAT LAW.ACT_AVAIL; omega

theorem actTrip_regsKept : RegsKept (actuatorKeys n) d (d.actTrip n st cause) := by
  unfold Dev.actTrip
  split
  · have hstat : RegsKept (actuatorKeys n) d ((d.putN (LAW.ACT_STAT n) (st + cause * 2 ^ 8)).event 0x1307 [(n : Int), (cause : Int)]) :=
      regsKept_put regsKept_refl _ (by simp [actuatorKeys])
    exact regsKept_put (regsKept_put hstat _ (by simp [actuatorKeys])) _ (by simp [actuatorKeys])
  · exact regsKept_refl

theorem w_showAvail : d.showAvail.w (LAW.ACT_STAT n) = d.w (LAW.ACT_STAT n) :=
  (Dev.w_putN_ne _ _ (actStat_ne_actAvail n (by omega))).trans (Dev.w_putN_ne _ _ (actStat_ne_actAvail n (by omega)))

theorem actTrip_fus : (d.actTrip n st cause).fus = d.fus := by
  unfold Dev.actTrip
  split <;> rfl

theorem actTrip_tick : (d.actTrip n st cause).tick = d.tick := by
  unfold Dev.actTrip
  split <;> rfl

variable {d n} (h : actState d n = 1)
include h

theorem actTrip_w : (d.actTrip n st cause).w (LAW.ACT_STAT n) = wd (st + cause * 2 ^ 8) := by
  rw [Dev.actTrip, if_pos h, w_showAvail, Dev.w_event, Dev.w_putN_self]

theorem actTrip_occ : (d.actTrip n st cause).occ = d.occ ++ [⟨0x1307, d.tick, d.eventBeat, [(n : Int), (cause : Int)]⟩] := by
  rw [Dev.actTrip, if_pos h]
  rfl

end

/-- A feedback that is lost trips the actuator (R267, Table 11.7). -/
theorem actTrip_feedback {d : Dev} {n : Nat} (h : actState d n = 1) : actState (d.actTrip n 2 1) n = 2 := by
  rw [actState, Dev.f, actTrip_w 2 1 h]
  rfl

theorem feedbackLost_shows {d : Dev} {t n : Nat} {x : TrackDev} (tick : Nat) (hstat : actState d n = 1) :
    let u := (((d.advanceTo tick).putTrk t x).event 0x110A [(n : Int)]).actTrip n 2 1
    u.trk t = x ∧ actState u n = 2 ∧ RegsKept (actuatorKeys n) d u ∧ u.tick = max d.tick tick
      ∧ u.occ = d.occ ++ [⟨0x110A, u.tick, d.eventBeat, [(n : Int)]⟩, ⟨0x1307, u.tick, d.eventBeat, [(n : Int), 1]⟩] := by
  extract_lets u
  have hlost : actState (((d.advanceTo tick).putTrk t x).event 0x110A [(n : Int)]) n = 1 := hstat
  refine ⟨?_, actTrip_feedback hlost, actTrip_regsKept _ n 2 1, actTrip_tick _ _ _ _, ?_⟩
  · rw [Dev.trk, actTrip_fus, ← Dev.trk, trk_event, trk_putTrk]
  · rw [actTrip_tick, actTrip_occ 2 1 hlost, Dev.event_occ, List.append_assoc]
    rfl

/-! ### Commands of tracks (R168, R176, R185, Table 7.7) -/

section
variable {d : Dev} {c : Cfg} {t : Nat} {v : Word}

theorem trkCmd_badKey (h : fld v 16 16 ≠ 0x5E1D) : d.trkCmd c t v = (false, d) := if_pos (by simpa using h)

/-- RESTART and RELEASE are kept for the close. -/
theorem trkCmd_kept (hkey : fld v 16 16 = 0x5E1D) (hcmd : fld v 0 2 = 1 ∨ fld v 0 2 = 2) :
    d.trkCmd c t v = (true, d.putTrk t { d.trk t with command := some (fld v 0 2) }) :=
  (if_neg (by simp [hkey])).trans (if_pos (by simpa using hcmd))

theorem trkCmd_unclocked (hkey : fld v 16 16 = 0x5E1D) (hcmd : fld v 0 2 = 3) (htiming : trkTiming c t = 0) :
    d.trkCmd c t v = (true, d) :=
  (if_neg (by simp [hkey])).trans ((if_neg (by simp [hcmd])).trans (if_neg (by simp [htiming])))

/-- A clock model that starts again has no reference instant and no pairs (R176). -/
def TrackDev.resetClock (x : TrackDev) : TrackDev := { x with tref := none, delays := [], pairs := 0, oosEntries := x.oosEntries + 1 }

/-- The units after RESET_CLOCK on a clocked track: out of step, no good item counted. -/
def Dev.resetClock (d : Dev) (c : Cfg) (t : Nat) : Dev :=
  (((d.putTrk t (d.trk t).resetClock).putF (FUS.TRK_STAT t) 8 8 0).setTrk c t 5).event 0x1102 [(t : Int), (d.trk t).resid]

theorem trkCmd_resets (hkey : fld v 16 16 = 0x5E1D) (hcmd : fld v 0 2 = 3) (htiming : trkTiming c t ≠ 0) (hon : trkState d t ≠ 0)
    (hheld : trkState d t ≠ 6) : d.trkCmd c t v = (true, d.resetClock c t) :=
  (if_neg (by simp [hkey])).trans ((if_neg (by simp [hcmd])).trans (if_pos (by simp [hcmd, htiming, hon, hheld])))

theorem resetClock_shows (d : Dev) (c : Cfg) (t : Nat) :
    trkState (d.resetClock c t) t = 5 ∧ (d.resetClock c t).f (FUS.TRK_STAT t) 8 8 = 0
      ∧ (d.resetClock c t).trk t = (d.trk t).resetClock ∧ (d.resetClock c t).b (FUS.TRK_OOS (t / 32)) (t % 32) = true
      ∧ Records d (d.resetClock c t) 0x1102 [(t : Int), (d.trk t).resid] := by
  refine ⟨?_, ?_, ?_, ?_, ?_⟩
  · rw [Dev.resetClock, trkState_event, trkState_setTrk _ _ _ (by omega)]
  · rw [Dev.resetClock, Dev.f, Dev.w_event, ← Dev.f, setTrk_goodItems, Dev.f_putF_self _ _ _ (by omega), Nat.zero_mod]
  · rw [Dev.resetClock, trk_event, trk_setTrk, trk_putF, trk_putTrk]
  · rw [Dev.resetClock, b_event, setTrk_outOfStep _ _ _ (by omega)]
    exact decide_eq_true rfl
  · rw [Records, Dev.resetClock, Dev.event_occ, setTrk_occ, Dev.putF_occ, putTrk_occ, setTrk_tick, Dev.putF_tick, putTrk_tick,
      setTrk_eventBeat, putF_eventBeat, putTrk_eventBeat]

theorem resetClock_prc (d : Dev) (c : Cfg) (t : Nat) : (d.resetClock c t).prc = d.prc := by
  rw [Dev.resetClock, Dev.event_prc, setTrk_prc, Dev.putF_prc, putTrk_prc]

theorem journaling_resetClock (d : Dev) (c : Cfg) (t : Nat) : journaling c (d.resetClock c t) = journaling c d := by
  have hstat : PRC.STAT ∉ trackKeys t := by
    simp only [trackKeys, List.mem_cons, List.not_mem_nil, or_false, not_or]
    unfold PRC.STAT FUS.TRK_STAT FUS.TRK_VALID FUS.TRK_OOS
    omega
  refine journaling_congr (resetClock_prc d c t) ?_ c
  rw [Dev.resetClock, Dev.w_event, setTrk_regsKept _ _ _ _ _ hstat,
    Dev.w_putF_ne _ _ _ _ (ne_of_mem_of_not_mem (List.mem_cons_self ..) hstat).symm, w_putTrk]

end

section
variable {s : State} {v : Word}

/-- TRK_RESTART, TRK_RELEASE and TRK_RESET_CLOCK are one write of TRK_CMD to the selected track. -/
def trkCmdWrite (s : State) (v : Word) : Out :=
  onControl s (FUS.TRK_CMD 0) v 0 (s.dev.f FUS.TRKSEL 0 6) fun c d => d.trkCmd c (d.f FUS.TRKSEL 0 6) v

theorem trkRestart_eq : exec (.trkRestart v) s = trkCmdWrite s v := rfl
theorem trkRelease_eq : exec (.trkRelease v) s = trkCmdWrite s v := rfl
theorem trkResetClock_eq : exec (.trkResetClock v) s = trkCmdWrite s v := rfl

theorem trkCmdWrite_badKey (hmode : s.dev.mode ≠ 4) (hkey : fld v 16 16 ≠ 0x5E1D) :
    trkCmdWrite s v = .next { s with bus := .done 0 } := by
  have hcmd := trkCmd_badKey (d := s.dev) (c := s.cfg) (t := s.dev.f FUS.TRKSEL 0 6) hkey
  refine (onControl_refused _ _ _ _ _ hmode ?_).trans (done_dev ?_)
  · rw [hcmd]
  · rw [hcmd]

theorem trkCmdWrite_standby (hmode : s.dev.mode = 4) : trkCmdWrite s v = .next { s.ignoreWrite 0x40021000 with bus := .done 0 } :=
  onControl_standby _ _ _ _ _ hmode

/-- A module that does not journal takes the write alone. -/
theorem trkCmdWrite_taken {e : Dev} (hmode : s.dev.mode ≠ 4) (h : s.dev.trkCmd s.cfg (s.dev.f FUS.TRKSEL 0 6) v = (true, e))
    (hquiet : journaling s.cfg e = false) : trkCmdWrite s v = .next { s with dev := e, bus := .done 0 } := by
  refine (onControl_taken _ _ _ _ _ hmode ?_).trans (done_dev ?_)
  · rw [h]
  · rw [h]
    exact journal_none _ hquiet

end

/-! ### SPLIT_SEL (R203, Table 8.3) -/

section
variable (d : Dev) (track code : Nat)

/-- SEL_RESULT shows the code and the track of a selection, and counts it. -/
def Dev.showSelection (d : Dev) (track code : Nat) : Dev :=
  ((d.putF FUS.SEL_RESULT 0 4 code).putF FUS.SEL_RESULT 8 6 track).wrap FUS.SEL_RESULT 16 16 1

theorem showSelection_regsKept : RegsKept [FUS.SEL_RESULT] d (d.showSelection track code) :=
  regsKept_put (regsKept_put (regsKept_put regsKept_refl _ (by simp)) _ (by simp)) _ (by simp)

theorem showSelection_prc : (d.showSelection track code).prc = d.prc := by
  rw [Dev.showSelection, Dev.wrap_prc, Dev.putF_prc, Dev.putF_prc]

theorem showSelection_occ : (d.showSelection track code).occ = d.occ := by
  rw [Dev.showSelection, Dev.wrap_occ, Dev.putF_occ, Dev.putF_occ]

theorem showSelection_tick : (d.showSelection track code).tick = d.tick := by
  rw [Dev.showSelection, Dev.wrap_tick, Dev.putF_tick, Dev.putF_tick]

theorem showSelection_eventBeat : (d.showSelection track code).eventBeat = d.eventBeat := by
  rw [Dev.eventBeat, Dev.showSelection, Dev.wrap_esc, Dev.putF_esc, Dev.putF_esc, Dev.eventBeat]

theorem showSelection_code : (d.showSelection track code).f FUS.SEL_RESULT 0 4 = code % 2 ^ 4 := by
  rw [Dev.showSelection, Dev.wrap, Dev.f_putF_apart _ _ _ (by omega) (by omega), Dev.f_putF_apart _ _ _ (by omega) (by omega),
    Dev.f_putF_self _ _ _ (by omega)]

theorem showSelection_track : (d.showSelection track code).f FUS.SEL_RESULT 8 6 = track % 2 ^ 6 := by
  rw [Dev.showSelection, Dev.wrap, Dev.f_putF_apart _ _ _ (by omega) (by omega), Dev.f_putF_self _ _ _ (by omega)]

theorem showSelection_count : (d.showSelection track code).f FUS.SEL_RESULT 16 16 = (d.f FUS.SEL_RESULT 16 16 + 1) % 2 ^ 16 := by
  rw [Dev.showSelection, Dev.wrap, Dev.f_putF_self _ _ _ (by omega), Dev.f_putF_apart _ _ _ (by omega) (by omega),
    Dev.f_putF_apart _ _ _ (by omega) (by omega)]

end

/-- The selection that waits for the next close. -/
def Dev.select (d : Dev) (o : Option Nat) : Dev := { d with fus := { d.fus with selection := o } }

section
variable (d : Dev) (o : Option Nat)

@[simp] theorem w_select (k : Nat) : (d.select o).w k = d.w k := rfl
@[simp] theorem f_select (k lo n : Nat) : (d.select o).f k lo n = d.f k lo n := rfl
@[simp] theorem select_selection : (d.select o).fus.selection = o := rfl
@[simp] theorem select_prc : (d.select o).prc = d.prc := rfl
@[simp] theorem select_occ : (d.select o).occ = d.occ := rfl
@[simp] theorem select_tick : (d.select o).tick = d.tick := rfl
@[simp] theorem select_eventBeat : (d.select o).eventBeat = d.eventBeat := rfl

end

/-- What a selection that writes `code` shows: SEL_RESULT alone, with the code, the track and the count. -/
def SelectionShown (d e : Dev) (track code : Nat) : Prop :=
  RegsKept [FUS.SEL_RESULT] d e ∧ e.f FUS.SEL_RESULT 8 6 = track ∧ e.f FUS.SEL_RESULT 16 16 = (d.f FUS.SEL_RESULT 16 16 + 1) % 2 ^ 16
    ∧ e.f FUS.SEL_RESULT 0 4 = code

theorem selectionShown_event {d e : Dev} {track code : Nat} (h : SelectionShown d e track code) (n : Nat) (ps : List Int) :
    SelectionShown d (e.event n ps) track code := h

theorem select_shows (d : Dev) (v : Word) {code : Nat} (o : Option Nat) (h : code < 2 ^ 4) :
    SelectionShown d ((d.showSelection (fld v 0 6) code).select o) (fld v 0 6) code := by
  refine ⟨fun k hk => ?_, ?_, ?_, ?_⟩
  · rw [w_select, showSelection_regsKept _ _ _ _ hk]
  · rw [f_select, showSelection_track, fld, Nat.mod_mod]
  · rw [f_select, showSelection_count]
  · rw [f_select, showSelection_code, Nat.mod_eq_of_lt h]

section
variable {d : Dev} {v : Word}

theorem splitSelect_taken (h : fld v 16 16 = 0x5B1A) :
    d.splitSelect v = (true, (d.showSelection (fld v 0 6) 1).select (some (fld v 0 6))) := by
  simp only [Dev.splitSelect, h, decide_true, if_true]
  rfl

theorem splitSelect_badKey (h : fld v 16 16 ≠ 0x5B1A) :
    d.splitSelect v = (false, ((d.showSelection (fld v 0 6) 6).select none).event 0x111B [6]) := by
  simp only [Dev.splitSelect, h, decide_false, Bool.false_eq_true, if_false]
  rfl

end

section
variable {s : State} {v : Word}

theorem splitSel_standby (hmode : s.dev.mode = 4) : exec (.splitSel v) s = .next { s.ignoreWrite 0x40023000 with bus := .done 0 } :=
  onControl_standby _ _ _ _ _ hmode

theorem splitSel_taken (hmode : s.dev.mode ≠ 4) (hquiet : journaling s.cfg s.dev = false) (h : fld v 16 16 = 0x5B1A) :
    exec (.splitSel v) s = .next { s with
      dev := (s.dev.showSelection (fld v 0 6) 1).select (some (fld v 0 6)), bus := .done 0 } := by
  have htaken := splitSelect_taken (d := s.dev) h
  refine (onControl_taken _ _ _ _ _ hmode ?_).trans (done_dev ?_)
  · rw [htaken]
  · rw [htaken]
    refine journal_none _ ((journaling_congr ?_ ?_ _).trans hquiet)
    · rw [select_prc, showSelection_prc]
    · rw [w_select, showSelection_regsKept _ _ _ _ (by decide)]

theorem splitSel_badKey (hmode : s.dev.mode ≠ 4) (h : fld v 16 16 ≠ 0x5B1A) :
    exec (.splitSel v) s = .next { s with
      dev := ((s.dev.showSelection (fld v 0 6) 6).select none).event 0x111B [6], bus := .done 0 } := by
  have hrefused := splitSelect_badKey (d := s.dev) h
  refine (onControl_refused _ _ _ _ _ hmode ?_).trans (done_dev ?_)
  · rw [hrefused]
  · rw [hrefused]

end

end Sys2Proof.Machine
end

section
/-! SUPPORT. Fusion: what the close of a frame that takes nothing leaves in the history, then coasting, the wind hold and the
propagation. -/
namespace Sys2Proof.Machine

/-! ### The boundary, the opening, the record's sequence and the history (R178, R209) -/

/-- What a close reads and writes of the boundary and of the frames: beat, boundary, opening, sequence, waiting selection, history. -/
def frameShown (d : Dev) : Nat × Nat × Int × Nat × Option Nat × List FrameRec :=
  (d.esc.beat, d.esc.boundary, d.fus.opens, d.fus.seq, d.fus.selection, d.fus.frames)

/-- From `d` to `e` no frame opens or closes, and the record is not formed. -/
def FrameKept (d e : Dev) : Prop := frameShown e = frameShown d

namespace FrameKept

variable {d e f : Dev}

theorem refl (d : Dev) : FrameKept d d := rfl
theorem trans (h : FrameKept d e) (g : FrameKept e f) : FrameKept d f := Eq.trans g h

theorem beat (h : FrameKept d e) : e.esc.beat = d.esc.beat := congrArg (·.1) h
theorem boundary (h : FrameKept d e) : e.esc.boundary = d.esc.boundary := congrArg (·.2.1) h
theorem opens (h : FrameKept d e) : e.fus.opens = d.fus.opens := congrArg (·.2.2.1) h
theorem seq (h : FrameKept d e) : e.fus.seq = d.fus.seq := congrArg (·.2.2.2.1) h
theorem selection (h : FrameKept d e) : e.fus.selection = d.fus.selection := congrArg (·.2.2.2.2.1) h
theorem frames (h : FrameKept d e) : e.fus.frames = d.fus.frames := congrArg (·.2.2.2.2.2) h

/-- A change of anything else. -/
theorem other (h : FrameKept d e) (hf : frameShown f = frameShown e) : FrameKept d f := hf.trans h

/-- A change of other units than the escapement and the fusion engine. -/
theorem units (h : FrameKept d e) (hesc : f.esc = e.esc) (hfus : f.fus = e.fus) : FrameKept d f := by
  rw [FrameKept, frameShown, hesc, hfus]
  exact h

theorem event (h : FrameKept d e) {code : Nat} {ps : List Int} : FrameKept d (e.event code ps) := h
theorem put (h : FrameKept d e) {k : Nat} {v : Word} : FrameKept d (e.put k v) := h
theorem putN (h : FrameKept d e) {k v : Nat} : FrameKept d (e.putN k v) := h
theorem putF (h : FrameKept d e) {k lo n v : Nat} : FrameKept d (e.putF k lo n v) := h
theorem putB (h : FrameKept d e) {k i : Nat} {b : Bool} : FrameKept d (e.putB k i b) := h

theorem ite {c : Prop} [Decidable c] (he : FrameKept d e) (hf : FrameKept d f) : FrameKept d (if c then e else f) := by
  split
  · exact he
  · exact hf

theorem foldl {α : Type} {g : Dev → α → Dev} (l : List α) (h : FrameKept d e) (hg : ∀ e a, FrameKept e (g e a)) :
    FrameKept d (l.foldl g e) :=
  List.foldlRecOn l g h fun b hb a _ => hb.trans (hg b a)

end FrameKept

section
variable (d : Dev) (c : Cfg) (st : Store)

theorem want_frameKept (cause target : Nat) : FrameKept d (d.want cause target) := .ite (.refl d) (.units (.refl d) rfl rfl)

theorem enterSplit_frameKept (cands : List (Nat × Int)) : FrameKept d (d.enterSplit c cands) :=
  .event (.putB (.putN (.putN (.putN (.other (.refl d) (by rfl))))))

theorem splitStep_frameKept (contra : List (Nat × Int)) : FrameKept d (d.splitStep c contra) := by
  unfold Dev.splitStep
  extract_lets any _ e
  have he : FrameKept d e := .ite (.putN (.other (.refl d) (by rfl))) (.refl d)
  exact .ite (he.trans (enterSplit_frameKept e c contra)) (.ite he.putF (.ite he (.event (.putN (he.other (by rfl))))))

theorem targetStep_frameKept : FrameKept d (d.targetStep c) := by
  unfold Dev.targetStep
  extract_lets n _ e
  have he : FrameKept d e := .other (.refl d) rfl
  exact .ite (he.trans (want_frameKept e _ _)) he

theorem windStep_frameKept : FrameKept d (d.windStep c st) := by
  unfold Dev.windStep
  refine .ite ?_ (.ite (.event (.putN (.other (.refl d) (by rfl)))) (.ite (.putB (.other (.refl d) (by rfl))) (.refl d)))
  exact .putN (.other (.ite (.event (.refl d)) (.refl d)) (by rfl))

theorem waveStep_frameKept (slow : Vec) : FrameKept d (d.waveStep c slow) := by
  unfold Dev.waveStep
  exact .ite (.refl d) (.foldl _ (.other (.refl d) rfl) fun e _ => .putF (.refl e))

theorem replayed_frameKept (b depth : Nat) : FrameKept d (d.replayed b depth) := by
  unfold Dev.replayed
  extract_lets l m _ u e
  have hu : FrameKept d u := .other (.refl d) rfl
  exact .ite hu.putF hu.putF.putF.putF

theorem writeBy_frameKept (a : Nat) (bs : List Byte) : FrameKept d (st.writeBy d a bs).2 := by
  unfold Store.writeBy inject
  dsimp only
  split
  · split
    · exact .putB (.putB (.refl d))
    · exact .refl d
  · exact .refl d

theorem publishFusion_frameKept : FrameKept d (publishFusion c st d).2 :=
  List.foldlRecOn (motive := fun x : Store × Dev => FrameKept d x.2) _ _ (writeBy_frameKept d st _ _)
    fun x hx _ _ => hx.trans (writeBy_frameKept x.2 x.1 _ _)

theorem poisonUse_frameKept : FrameKept d (d.poisonUse .fusion) := .putF (.refl d)

theorem vecRefresh_frameKept : FrameKept d (d.vecRefresh c) := by
  unfold Dev.vecRefresh
  extract_lets cause was _ u e
  have hu : FrameKept d u := .units (.refl d) rfl rfl
  exact .ite (.refl d) (.ite hu.putB.putF.event hu.putB.putF)

theorem vecFrame_frameKept : FrameKept d (d.vecFrame c) := by
  unfold Dev.vecFrame
  extract_lets e _ u _
  have hu : FrameKept d u := (vecRefresh_frameKept d c).units rfl rfl
  exact .ite hu (hu.units rfl rfl)

theorem codeTrim_frameKept : FrameKept d d.codeTrim := .foldl _ (.refl d) fun e _ => .units (.refl e) rfl rfl

theorem lawFrame_frameKept : FrameKept d (d.lawFrame st) := by
  unfold Dev.lawFrame
  extract_lets n e
  have he : FrameKept d e := .putB (.refl d)
  exact he.units rfl rfl

end

/-! ### A close with nothing to take (R178, R191) -/

section
variable {c : Cfg} {st : Store} {d : Dev}

/-- The history starts again with the frame that closes: it opened 10 ms ago. -/
def Dev.restartHistory (d : Dev) : Dev :=
  { d with fus := { d.fus with frames := [], opens := (d.esc.boundary : Int) - 10 * ticksPerMs, nominalOpen := d.fus.nominal } }

theorem chainFrames_fresh (hframes : d.fus.frames = []) : d.chainFrames = d.restartHistory := by
  simp [Dev.chainFrames, hframes, Dev.restartHistory]

/-- Nothing delivered waits for a close. -/
def Dev.clearDelivered (d : Dev) : Dev := { d with flow := { d.flow with delivered := [] } }

/-- With nothing delivered and no enabled track the items' way to the tracks only drops old trigger edges. -/
theorem takeDelivered_quiet (hdelivered : d.flow.delivered = []) (htracks : enabledTracks c = []) :
    d.takeDelivered c = (d.clearDelivered.dropEdges c, []) := by
  simp only [Dev.takeDelivered, hdelivered, htracks, List.foldl_nil, Dev.clearDelivered]

variable {w : Close}

theorem select_none (h : w.d.fus.selection = none) : w.select c st = w := by
  unfold Close.select
  simp only [h]

theorem judge_none (h : w.latest = []) (k : Option Candidate) : w.judge c k = w := by
  unfold Close.judge
  rw [h]
  rfl

/-- With no position item in the frame no candidate votes. -/
theorem positions_quiet (hseen : w.seen = []) (hlatest : w.latest = []) :
    (w.positions c st).frame = w.frame ∧ FrameKept w.d (w.positions c st).d := by
  unfold Close.positions
  extract_lets u wmin cands x k y z
  have hu : u = w := by simp only [u, hseen, List.foldl_nil]
  have hcands : cands = [] := by simp [cands, hu, hlatest]
  have hk : k = none := by simp only [k, hcands, consensus, List.foldl_nil]
  have hx : x.frame = w.frame ∧ x.latest = [] ∧ FrameKept w.d x.d := by
    simp only [x, hu]
    split
    · exact ⟨rfl, hlatest, .putF (.refl w.d)⟩
    · exact ⟨rfl, hlatest, .refl w.d⟩
  obtain ⟨hframe, hempty, hkept⟩ := hx
  have hy : y = x := by simp only [y, hk]
  have hz : z = x := by simp only [z, hy, judge_none hempty, ite_self]
  rw [← hz] at hframe hkept
  simp only [hcands]
  split
  · exact ⟨hframe, hkept.other rfl⟩
  · exact ⟨hframe, hkept⟩

theorem settle_kept (k : CoreDev) : (w.settle c st k).frame = w.frame ∧ FrameKept w.d (w.settle c st k).d := ⟨rfl, rfl⟩

theorem run_quiet {r : FrameRec} (hitems : r.items = []) (hsel : w.d.fus.selection = none) :
    (w.run c st r true).frame = r ∧ FrameKept w.d (w.run c st r true).d := by
  unfold Close.run
  extract_lets opening u v x
  have hv : v = u := select_none hsel
  have hx : x = u := by
    show List.foldl (Close.meet c st) v v.frame.items = u
    rw [hv, show u.frame.items = [] from hitems, List.foldl_nil]
  obtain ⟨hframe, hkept⟩ := positions_quiet (c := c) (st := st) (w := x) (by rw [hx]) (by rw [hx])
  obtain ⟨hframe', hkept'⟩ := settle_kept (c := c) (st := st) (w := x.positions c st) opening
  rw [hx] at hframe hkept
  exact ⟨hframe'.trans (by rw [hx]; exact hframe), FrameKept.trans hkept (by rw [hx] at hkept' ⊢; exact hkept')⟩

end

/-- What follows the run of a frame, up to the record: SPLIT and coasting, the target, the wind, the waves. -/
theorem settleFrame_frameKept (d : Dev) (c : Cfg) (st : Store) (contra : List (Nat × Int)) (slow : Vec) :
    FrameKept d ((((d.splitStep c contra).targetStep c).windStep c st).waveStep c slow) :=
  (((splitStep_frameKept d c contra).trans (targetStep_frameKept _ c)).trans (windStep_frameKept _ c st)).trans
    (waveStep_frameKept _ c slow)

/-- What the other engines take of a close. -/
theorem followClose_frameKept {d e : Dev} (h : FrameKept d e) (c : Cfg) (st : Store) :
    FrameKept d ((e.vecFrame c).codeTrim.lawFrame st) :=
  ((h.trans (vecFrame_frameKept e c)).trans (codeTrim_frameKept _)).trans (lawFrame_frameKept _ st)

section
variable (d : Dev) (c : Cfg) (st : Store) (f : FrameRec) (k : CoreDev)

theorem openFrame_opens : (d.openFrame c st f k).fus.opens = f.closes := rfl
theorem openFrame_seq : (d.openFrame c st f k).fus.seq = d.fus.seq := rfl
theorem openFrame_frames : (d.openFrame c st f k).fus.frames = d.fus.frames := rfl

end

section
variable (d : Dev) (mismatch poison : Bool) (applied : Nat)

theorem showEst_seq : (d.showEst mismatch poison applied).fus.seq = (d.fus.seq + 1) % 2 ^ 32 := by
  rw [Dev.showEst, Dev.putF_fus, Dev.putB_fus, Dev.putB_fus, Dev.putB_fus, Dev.putF_fus]

theorem showEst_opens : (d.showEst mismatch poison applied).fus.opens = d.fus.opens := by
  rw [Dev.showEst, Dev.putF_fus, Dev.putB_fus, Dev.putB_fus, Dev.putB_fus, Dev.putF_fus]

theorem showEst_frames : (d.showEst mismatch poison applied).fus.frames = d.fus.frames := by
  rw [Dev.showEst, Dev.putF_fus, Dev.putB_fus, Dev.putB_fus, Dev.putB_fus, Dev.putF_fus]

end

/-- `e` has closed an empty frame of its own at the boundary of `d`, with no other in the history, and formed the record once. -/
def ClosedEmpty (d e : Dev) : Prop :=
  e.fus.frames.map (fun r => (r.beat, r.closes, r.items)) = [(d.esc.beat, (d.esc.boundary : Int), [])]
    ∧ e.fus.seq = (d.fus.seq + 1) % 2 ^ 32 ∧ e.fus.opens = d.esc.boundary

theorem closedEmpty_kept {d e f : Dev} (h : FrameKept e f) (he : ClosedEmpty d e) : ClosedEmpty d f := by
  rw [ClosedEmpty, h.frames, h.seq, h.opens]
  exact he

/-- A close with nothing to take: each stage finds nothing, and the frame that closes joins the history. -/
theorem closeFrame_quiet {c : Cfg} (st : Store) {d : Dev} (hframes : d.fus.frames = []) (hahead : d.fus.ahead = [])
    (hdelivered : d.flow.delivered = []) (htracks : enabledTracks c = []) (hsel : d.fus.selection = none) :
    ClosedEmpty d (closeFrame c st d).2 := by
  unfold closeFrame
  extract_lets b tracks o delivered fresh e _ p again g start r _ w f v h y i j l slow m z n applied poison q u x
  have ho : o = d.restartHistory := Eq.trans (by simp only [o, tracks, htracks, List.foldl_nil]) (chainFrames_fresh hframes)
  have htaken : delivered = (o.clearDelivered.dropEdges c, []) := takeDelivered_quiet (by rw [ho]; exact hdelivered) htracks
  have he : FrameKept d.restartHistory e := by
    rw [← ho]
    simp only [e, htaken]
    exact .other (.refl o) rfl
  have hnone : e.fus.ahead = [] := by
    simp only [e, htaken, ho]
    exact hahead
  have hnew : fresh = [] := by simp only [fresh, htaken]
  have hitems : e.fus.ahead ++ fresh = [] := by rw [hnone, hnew, List.append_nil]
  have hp : FrameKept e p.d ∧ p.now = [] ∧ p.earliest = none := by
    simp only [p, hitems, List.foldl_nil, and_true]
    exact .other (.refl e) rfl
  obtain ⟨hplaced, hnow, hearliest⟩ := hp
  have hagain : again = [] := by simp only [again, hearliest]
  have hr : r = (start, [], none) := by simp only [r, hagain, List.reverse_nil, Close.replay, List.foldl_nil]
  have hw : FrameKept d.restartHistory w.d := by
    simp only [w, hr]
    exact (he.trans hplaced).trans (replayed_frameKept p.d _ _)
  obtain ⟨hframe, hrun⟩ := run_quiet (c := c) (st := st) (w := w) (r := f) hnow (hw.selection.trans hsel)
  have hv : FrameKept d.restartHistory v.d := hw.trans hrun
  have hi : i.fus.opens = f.closes ∧ i.fus.seq = v.d.fus.seq ∧ i.fus.frames = v.d.fus.frames := by
    simp only [i, y, h, openFrame_opens, openFrame_seq, openFrame_frames, and_self]
  obtain ⟨hopens, hseq, hhistory⟩ := hi
  have hm : FrameKept i m := by
    simp only [m, l, j, tracks, htracks, List.foldl_nil]
    exact settleFrame_frameKept i c st v.contra slow
  have hold : m.fus.frames = [] := hm.frames.trans (hhistory.trans hv.frames)
  have hn : n.fus.frames = [f] ∧ n.fus.seq = m.fus.seq ∧ n.fus.opens = m.fus.opens := by
    simp only [n, z, v, hframe, hr, hold, List.nil_append, List.drop_nil, and_self]
  obtain ⟨hjoined, hcount, hopened⟩ := hn
  have hf : f.beat = w.d.esc.beat ∧ f.closes = w.d.esc.boundary ∧ f.items = [] := ⟨rfl, rfl, hnow⟩
  obtain ⟨hbeat, hcloses, hnothing⟩ := hf
  have hu : FrameKept q u := .ite (poisonUse_frameKept q) (.refl q)
  have hpublished : x = publishFusion c st u := rfl
  have hx : FrameKept q x.2 := by
    rw [hpublished]
    exact hu.trans (publishFusion_frameKept u c st)
  refine closedEmpty_kept (followClose_frameKept hx c x.1) ⟨?_, ?_, ?_⟩
  · rw [showEst_frames, hjoined, List.map_cons, List.map_nil, hbeat, hcloses, hnothing, hw.beat, hw.boundary]
    rfl
  · rw [showEst_seq, hcount, hm.seq, hseq, hv.seq]
    rfl
  · rw [showEst_opens, hopened, hm.opens, hopens, hcloses, hw.boundary]
    rfl

/-! ### The frame, coasting and the wind hold (R191, R201, R204, R208) -/

theorem frameDue_head (d : Dev) : frameDue d = true ↔ d.esc.loaded = true ∧ 3 ≤ d.mode ∧ d.esc.beat % 10 = 0
    ∧ ∀ r l, d.fus.frames = r :: l → r.beat ≠ d.esc.beat := by
  rw [frameDue_iff]
  cases d.fus.frames <;> simp

section
variable {t : State}

theorem frameClosed_waits (h : t.dev.modes.openFrame = false ∨ coastOut t.dev = true) : t.frameClosed = t := if_pos (by simpa using h)

theorem frameClosed_goesOn (hopen : t.dev.modes.openFrame = true) (hcoast : coastOut t.dev = false) : t.frameClosed =
    ({ t with dev := { t.dev with modes := { t.dev.modes with openFrame := false } } } : State).closeModes :=
  if_neg (by simp [hopen, hcoast])

end

/-- The held wind force starts to decay over `n` frames. -/
def Dev.decayWind (d : Dev) (n : Nat) : Dev :=
  ({ d with fus := { d.fus with windHeld := 2, windDecay := n } } : Dev).putB FUS.WIND_STAT 2 (n != 0)

theorem decayWind_regsKept (d : Dev) (n : Nat) : RegsKept [FUS.WIND_STAT] d (d.decayWind n) :=
  fun _ hk => Dev.w_putB_ne _ _ _ (by simpa using hk)

theorem decayWind_stat (d : Dev) (n : Nat) : (d.decayWind n).b FUS.WIND_STAT 2 = (n != 0) := Dev.b_putB_self _ _ _ (by omega)

section
variable {s : State}

theorem windHoldExpiry_idle (h : s.dev.fus.windHeld ≠ 1) : exec .windHoldExpiry s = .next s := next_same (if_pos (by simpa using h))

theorem windHoldExpiry_decays (h : s.dev.fus.windHeld = 1) :
    exec .windHoldExpiry s = .next { s with dev := s.dev.decayWind (s.cfg.f FUS.WIND_CFG 16 8 * 100) } :=
  next_dev (if_neg (by simp [h]))

/-! ### What the inertial state is propagated on (R183) -/

variable {gyro acc : List (BitVec 64)}

/-- A track of the internal unit is VALID. -/
def internalUnit (s : State) : Bool := someValid s.cfg s.dev (fun t => trkClass s.cfg t = 6 && trkInst s.cfg t = 0)

/-- The external track that EGO_CFG names may be used. -/
def externalUnit (s : State) : Bool :=
  s.cfg.b FUS.EGO_CFG 7 && trkClass s.cfg (s.cfg.f FUS.EGO_CFG 1 6) = 6 && trackValid s.dev (s.cfg.f FUS.EGO_CFG 1 6)

theorem inertialPropagation_internal (h : internalUnit s = true) : exec (.inertialPropagation gyro acc) s = .next { s with
    dev := { s.dev with fus := { s.dev.fus with
      nominal := (inertialStep s.dev.fus.core s.dev.fus.nominal gyro acc).1
      accel := (inertialStep s.dev.fus.core s.dev.fus.nominal gyro acc).2, ego := 0, egoFast := true } } } := by
  rw [internalUnit] at h
  refine next_dev ?_
  simp [h]

theorem inertialPropagation_vessel (h : internalUnit s = false) (hext : externalUnit s = false) :
    exec (.inertialPropagation gyro acc) s = .next { s with
      dev := { s.dev with fus := { s.dev.fus with
        nominal := vesselStep s.dev.fus.core s.dev.fus.nominal none, accel := [], ego := 2, egoFast := true } } } := by
  rw [internalUnit] at h
  rw [externalUnit] at hext
  refine next_dev ?_
  simp [h, hext]

theorem inertialPropagation_external (h : internalUnit s = false) (hext : externalUnit s = true) :
    let d := if s.dev.fus.ego = 1 then s.dev else s.dev.event 0x1109
    let x := s.dev.trk (s.cfg.f FUS.EGO_CFG 1 6)
    exec (.inertialPropagation gyro acc) s = .next { s with
      dev := { d with fus := { s.dev.fus with
        nominal := vesselStep s.dev.fus.core s.dev.fus.nominal (x.last.map (·.2)), accel := [], ego := 1
        egoFast := deliversFast x } } } := by
  rw [internalUnit] at h
  rw [externalUnit] at hext
  refine next_dev ?_
  by_cases hego : s.dev.fus.ego = 1 <;> simp [h, hext, hego, trk_event]

end

/-- Settles O58: the close, coasting, the wind hold, the propagation, timeouts and feedback, TRK_CMD, SPLIT_SEL. -/
theorem fusionCommands : Obligations.FusionCommands := by
  refine ⟨frameDue_head, fun s => fusFrameClose_idle, fun s => fusFrameClose_closes,
    fun t => ⟨frameClosed_waits, frameClosed_goesOn⟩, fun c st d => closeFrame_quiet st, fun s => coastExpired_idle,
    fun s => coastExpired_closes, fun s => ⟨windHoldExpiry_idle, fun h => ?_⟩, fun s gyro acc => ?_,
    fun s k => trackTimeout_idle, fun s k v hlo hhi hvalid => ?_, fun s k => feedbackLost_idle,
    fun s k v => ?_, fun s v hmode hkey => ?_, fun s v hmode => ?_, fun s hmode hquiet => ?_, fun s v hmode hquiet => ?_⟩
  · refine ⟨_, windHoldExpiry_decays h, rfl, decayWind_regsKept _ _, rfl, ?_⟩
    rw [decayWind_stat]
    exact Bool.eq_iff_iff.mpr (by simp)
  · refine ⟨inertialPropagation_internal, fun h hext => inertialPropagation_vessel h ?_, fun h hon hclass hvalid =>
      inertialPropagation_external h ?_⟩
    · unfold externalUnit
      rcases hext with hoff | hclass | hinvalid
      · simp [hoff]
      · simp [hclass]
      · simp [hinvalid]
    · simp [externalUnit, hon, hclass, hvalid]
  · obtain ⟨hstate, hinvalid, htick, hlost, hkept, hocc⟩ :=
      loseTrack_shows (s.dev.advanceTo (v + trkTmo s.cfg k.val * ticksPerMs)) s.cfg k.val
    refine ⟨_, trackTimeout_waits hlo hhi hvalid, rfl, hstate, hinvalid, htick, hlost.trans (by rw [htick]), hkept, ?_⟩
    rw [hocc, htick]
    rfl
  · intro n hclass hwait hforce hstand hlost _ hactive
    obtain ⟨hzero, htrip, hkept, htick, hocc⟩ := feedbackLost_shows (d := s.dev) (t := k.val) (n := n)
      (x := { s.dev.trk k.val with forceZero := true }) (v + ticksPerSec) hactive
    exact ⟨_, feedbackLost_trips hclass hwait hforce hstand hlost, rfl, by rw [hzero], htrip, hkept, htick, hocc⟩
  · rw [trkRestart_eq, trkRelease_eq, trkResetClock_eq, trkCmdWrite_badKey hmode hkey]
    exact ⟨rfl, rfl, rfl⟩
  · rw [trkRestart_eq, trkRelease_eq, trkResetClock_eq, trkCmdWrite_standby hmode]
    exact ⟨rfl, rfl, rfl, splitSel_standby hmode⟩
  · intro k
    rw [trkRestart_eq, trkRelease_eq, trkResetClock_eq]
    refine ⟨trkCmdWrite_taken hmode (trkCmd_kept (by decide) (by decide)) hquiet,
      trkCmdWrite_taken hmode (trkCmd_kept (by decide) (by decide)) hquiet,
      fun htiming => trkCmdWrite_taken hmode (trkCmd_unclocked (by decide) (by decide) htiming) hquiet, fun htiming hon hheld => ?_⟩
    obtain ⟨hstate, hcount, hclock, hout, hrecord⟩ := resetClock_shows s.dev s.cfg k
    have htaken := trkCmdWrite_taken (v := 0x5E1D0003#32) hmode (trkCmd_resets (by decide) (by decide) htiming hon hheld)
      ((journaling_resetClock s.dev s.cfg k).trans hquiet)
    exact ⟨_, htaken, rfl, hstate, hcount, by rw [hclock]; rfl, by rw [hclock]; rfl, hout, hrecord⟩
  · by_cases hkey : fld v 16 16 = 0x5B1A
    · obtain ⟨hkept, htrack, hcount, hcode⟩ := select_shows s.dev v (code := 1) (some (fld v 0 6)) (by omega)
      refine ⟨_, splitSel_taken hmode hquiet hkey, rfl, hkept, htrack, hcount, fun _ => ⟨hcode, select_selection _ _, ?_⟩,
        fun hno => absurd hkey hno⟩
      rw [select_occ, showSelection_occ]
    · obtain ⟨hkept, htrack, hcount, hcode⟩ := selectionShown_event (select_shows s.dev v (code := 6) none (by omega)) 0x111B [6]
      refine ⟨_, splitSel_badKey hmode hkey, rfl, hkept, htrack, hcount, fun hyes => absurd hyes hkey, fun _ => ⟨hcode, ?_, ?_⟩⟩
      · rw [Dev.event_fus, select_selection]
      · rw [Records, Dev.event_occ, select_occ, showSelection_occ, select_tick, showSelection_tick, select_eventBeat,
          showSelection_eventBeat]

end Sys2Proof.Machine
end

section
/-! SUPPORT. The staging of a schedule image, and the image that breaks the claim: an uncorrectable word is read with a poison mark though
no stored poison stands in it. -/
namespace Sys2Proof.Machine

/-! ### Reads with a poison mark (R256, R463) -/

/-- More than four bytes in error stand in a word among the bytes read. -/
theorem readsPoison_uncorrectable {st : Store} {a n w : Nat} {err : List (Nat × Byte)} (hmem : (w, err) ∈ st.errs)
    (herr : 4 < err.length) (hlo : a < w + 32) (hhi : w < a + n) : st.readsPoison a n = true := by
  have hany : (st.errs.any fun p => decide (4 < p.2.length) && decide (a < p.1 + 32) && decide (p.1 < a + n)) = true :=
    List.any_eq_true.mpr ⟨_, hmem, by simp [herr, hlo, hhi]⟩
  rw [Store.readsPoison, hany, Bool.or_true]

/-! ### The end of staging (R224, Table 9.3) -/

/-- The image address that the shadow of a slot names. -/
def stagingAddr (c : Cfg) (n : Nat) : Nat := (c.sh (SLV.SLOT_ADDR_LO n)).toNat + (c.sh (SLV.SLOT_ADDR_HI n)).toNat * 2 ^ 32

/-- Poison is tested before the image's magic, checksums and fields. -/
theorem stagingResult_poison {st : Store} {a : Nat} (others : Nat)
    (h : st.readsPoison a (128 + (scheduleOf (st.bytes a 128)).body) = true) : stagingResult st a others = (7, none) := if_pos h

/-- The bytes of the images that stand staged for the other slots. -/
def stagedElsewhere (d : Dev) (n : Nat) : Nat :=
  ((List.range 8).filter (· != n)).foldl (fun sum k => sum + match (d.slot k).staged with
    | none => 0
    | some x => x.body) 0

/-- The staging of a slot shows its result, and keeps the schedule of an image that passed. -/
theorem stagingDone_shows {s : State} {n : Fin 8} (hprep : prep s.dev n.val = 1) :
    let r := stagingResult s.store (stagingAddr s.cfg n.val) (stagedElsewhere s.dev n.val)
    exec (.stagingDone n) s = .next { s with
      dev := (s.dev.putSlot n.val { s.dev.slot n.val with staged := r.2 }).putF (SLV.SLOT_INFO n.val) 0 4 r.1 } := by
  change execStagingDone n s = _
  simp only [execStagingDone, onMem, hprep, bne_self_eq_false, Bool.false_eq_true, if_false]
  rfl

/-- An uncorrectable word among the first 128 bytes of the image ends its staging with result 7. -/
theorem stagingDone_uncorrectable {s t : State} {n : Fin 8} {w : Nat} {err : List (Nat × Byte)} (hprep : prep s.dev n.val = 1)
    (hmem : (w, err) ∈ s.store.errs) (herr : 4 < err.length) (hlo : stagingAddr s.cfg n.val < w + 32)
    (hhi : w < stagingAddr s.cfg n.val + 128) (hnext : exec (.stagingDone n) s = .next t) : prep t.dev n.val = 7 := by
  have hshows := stagingDone_shows hprep
  rw [stagingResult_poison _ (readsPoison_uncorrectable hmem herr hlo (by omega)), hnext, Host.Outcome.next.injEq] at hshows
  rw [hshows]
  exact Dev.f_putF_self _ _ 7 (by decide)

/-- Slot 0 is being staged from the start of general SRAM, and five bytes of its first word are in error. -/
def stagingUpset : State :=
  { State.reset with
    cfg := { shadow := [(SLV.SLOT_ADDR_LO 0, 0x20000000)] }
    store := ({} : Store).upset 0x20000000 [(0, 1), (1, 1), (2, 1), (3, 1), (4, 1)]
    dev := { regs := [(SLV.SLOT_INFO 0, 1)] } }

/-- Refutes O57: an image without the magic, and without stored poison, ends its staging with result 7 and not 3 where a word of it is
uncorrectable. The clause of STAGING_DONE excludes the stored poison alone; that of SUBMIT excludes the errors too. -/
theorem not_solverCommands : ¬ Obligations.SolverCommands := by
  intro ⟨_, _, hstaging, _⟩
  obtain ⟨t, hnext, _, _, hmagic, _⟩ := (hstaging stagingUpset 0).2 (by decide) rfl (by decide)
  have hpoison : prep t.dev 0 = 7 := stagingDone_uncorrectable (n := 0) (w := 0x20000000)
    (err := [(0, 1), (1, 1), (2, 1), (3, 1), (4, 1)]) (by decide) (by decide) (by decide) (by decide) (by decide) hnext
  exact absurd (hmagic.symm.trans hpoison) (by decide)

end Sys2Proof.Machine
end

section
/-! SUPPORT. The positioning law: actuator commands, the power of the bus groups, the joystick. -/
namespace Sys2Proof.Machine

/-! ### Forms of commands and frames -/

/-- A command of the memories answers what its effect gives. -/
theorem onMem_to {s : State} {f : Cfg → Store → Dev → Store × Dev} {st : Store} {d : Dev} (h : f s.cfg s.store s.dev = (st, d)) :
    onMem s f = .next { s with store := st, dev := d } := by rw [onMem, h]

/-- An accepted register write of a module that does not journal is the write alone. -/
theorem onControl_quiet {s : State} (addr : Nat) (value : Word) (station element : Nat) {f : Cfg → Dev → Bool × Dev} {e : Dev}
    (hmode : s.dev.mode ≠ 4) (h : f s.cfg s.dev = (true, e)) (hquiet : journaling s.cfg e = false) :
    onControl s addr value station element f = .next { s with dev := e, bus := .done 0 } := by
  rw [onControl_taken _ _ _ _ _ hmode (by rw [h]), h, journal_none _ hquiet]

/-- Whether a module journals is seen in the units of the pair and PRC.STAT alone. -/
theorem journaling_of_regsKept {ks : List Nat} {d e : Dev} {c : Cfg} (hprc : e.prc = d.prc) (h : RegsKept ks d e) (hstat : PRC.STAT ∉ ks)
    (hquiet : journaling c d = false) : journaling c e = false := (journaling_congr hprc (h _ hstat) c).trans hquiet

/-! ### Actuator commands (R267, R268) -/

section
variable {d : Dev} {c : Cfg} {v : Word}

/-- ACT_CMD_RES shows the number of the actuator and the result code. -/
def Dev.actResult (d : Dev) (n res : Nat) : Dev := d.putN LAW.ACT_CMD_RES (res + n * 256)

/-- An actuator that is back: AVAILABLE, recorded with the cause that had taken it. -/
def Dev.actReturn (d : Dev) (n : Nat) : Dev :=
  ((d.putN (LAW.ACT_STAT n) 1).event 0x1308 [(n : Int), (d.f (LAW.ACT_STAT n) 8 3 : Int)]).showAvail

theorem actCmd_badKey (h : fld v 16 16 ≠ 0x4A7C) : d.actCmd c v = (false, d.actResult (fld v 0 6) 1) := by
  simp [Dev.actCmd, h, Dev.actResult]

/-- A used actuator is withdrawn by the operator, in whatever state it is. -/
theorem actCmd_withdraw (hkey : fld v 16 16 = 0x4A7C) (hn : fld v 0 6 < 40) (hused : actType c (fld v 0 6) ≠ 0) (hcmd : fld v 8 2 = 1) :
    d.actCmd c v = (true, (d.actResult (fld v 0 6) 0).actTrip (fld v 0 6) 4 3) := by
  simp [Dev.actCmd, hkey, Nat.not_le.mpr hn, hused, hcmd, Dev.actResult]

/-- An actuator out of use returns with its feedback VALID and its bus group online. -/
theorem actCmd_readmit {fb : Nat} (hkey : fld v 16 16 = 0x4A7C) (hn : fld v 0 6 < 40) (hused : actType c (fld v 0 6) ≠ 0)
    (hcmd : fld v 8 2 = 2) (hstate : actState d (fld v 0 6) ≠ 1) (htrack : feedbackTrack c (fld v 0 6) = some fb)
    (hvalid : trackValid d fb = true) (hpower : d.b (LAW.BUS_PWR (c.f (LAW.ACT_CFG (fld v 0 6)) 3 3)) 16 = true) :
    d.actCmd c v = (true, (d.actResult (fld v 0 6) 0).actReturn (fld v 0 6)) := by
  simp [Dev.actCmd, hkey, Nat.not_le.mpr hn, hused, hcmd, hstate, htrack, hvalid, hpower, Dev.actResult, Dev.actReturn]

end

section
variable (d : Dev) (n res st cause : Nat)

theorem actCmdRes_ne_actStat : LAW.ACT_CMD_RES ≠ LAW.ACT_STAT n := by unfold LAW.ACT_CMD_RES LAW.ACT_STAT; omega

theorem actCmdRes_notMem_actuatorKeys : LAW.ACT_CMD_RES ∉ actuatorKeys n := by
  simp only [actuatorKeys, List.mem_cons, List.not_mem_nil, or_false, not_or]
  exact ⟨actCmdRes_ne_actStat n, by decide, by decide⟩

theorem prcStat_notMem_actuatorKeys : PRC.STAT ∉ LAW.ACT_CMD_RES :: actuatorKeys n := by
  simp only [actuatorKeys, List.mem_cons, List.not_mem_nil, or_false, not_or]
  exact ⟨by decide, by unfold PRC.STAT LAW.ACT_STAT; omega, by decide, by decide⟩

theorem w_actResult (m : Nat) : (d.actResult m res).w (LAW.ACT_STAT n) = d.w (LAW.ACT_STAT n) :=
  Dev.w_putN_ne _ _ (actCmdRes_ne_actStat n).symm

theorem actState_actResult (m : Nat) : actState (d.actResult m res) n = actState d n := by
  rw [actState, actState, Dev.f, Dev.f, w_actResult]

/-- Beside ACT_CMD_RES a command writes what its actuator's change writes. -/
theorem actResult_regsKept {e : Dev} (h : RegsKept (actuatorKeys n) (d.actResult n res) e) :
    RegsKept (LAW.ACT_CMD_RES :: actuatorKeys n) d e := fun k hk => by
  rw [List.mem_cons, not_or] at hk
  rw [h k hk.2, Dev.actResult, Dev.w_putN_ne _ _ hk.1]

theorem w_actCmdRes {e : Dev} (h : RegsKept (actuatorKeys n) (d.actResult n 0) e) : e.w LAW.ACT_CMD_RES = wd (n * 256) := by
  rw [h _ (actCmdRes_notMem_actuatorKeys n), Dev.actResult, Dev.w_putN_self, Nat.zero_add]

theorem actReturn_regsKept : RegsKept (actuatorKeys n) d (d.actReturn n) := by
  have hstat : RegsKept (actuatorKeys n) d ((d.putN (LAW.ACT_STAT n) 1).event 0x1308 [(n : Int), (d.f (LAW.ACT_STAT n) 8 3 : Int)]) :=
    regsKept_put regsKept_refl _ (by simp [actuatorKeys])
  exact regsKept_put (regsKept_put hstat _ (by simp [actuatorKeys])) _ (by simp [actuatorKeys])

theorem actReturn_w : (d.actReturn n).w (LAW.ACT_STAT n) = 1 := by
  rw [Dev.actReturn, w_showAvail, Dev.w_event, Dev.w_putN_self]
  rfl

theorem actTrip_prc : (d.actTrip n st cause).prc = d.prc := by
  unfold Dev.actTrip
  split <;> rfl

end

section
variable {s : State} {v : Word}

/-- ACT_WITHDRAW and ACT_READMIT are one write of ACT_CMD. -/
def actCmdWrite (s : State) (v : Word) : Out := onControl s LAW.ACT_CMD v 0 255 fun c d => d.actCmd c v

theorem actWithdraw_eq : exec (.actWithdraw v) s = actCmdWrite s v := rfl
theorem actReadmit_eq : exec (.actReadmit v) s = actCmdWrite s v := rfl

theorem actCmdWrite_standby (hmode : s.dev.mode = 4) : actCmdWrite s v = .next { s.ignoreWrite 0x40038000 with bus := .done 0 } :=
  onControl_standby _ _ _ _ _ hmode

theorem actCmdWrite_badKey (hmode : s.dev.mode ≠ 4) (hkey : fld v 16 16 ≠ 0x4A7C) :
    actCmdWrite s v = .next { s with dev := s.dev.actResult (fld v 0 6) 1, bus := .done 0 } := by
  have hcmd := actCmd_badKey (d := s.dev) (c := s.cfg) hkey
  rw [actCmdWrite, onControl_refused _ _ _ _ _ hmode (by rw [hcmd]), hcmd]

/-- A module that does not journal takes the write alone. -/
theorem actCmdWrite_taken {e : Dev} (hmode : s.dev.mode ≠ 4) (hquiet : journaling s.cfg s.dev = false)
    (h : s.dev.actCmd s.cfg v = (true, e)) (hprc : e.prc = s.dev.prc)
    (hkept : RegsKept (LAW.ACT_CMD_RES :: actuatorKeys (fld v 0 6)) s.dev e) :
    actCmdWrite s v = .next { s with dev := e, bus := .done 0 } :=
  onControl_quiet _ _ _ _ hmode h (journaling_of_regsKept hprc hkept (prcStat_notMem_actuatorKeys _) hquiet)

end

theorem actReturn_records (d : Dev) (n : Nat) :
    Records d ((d.actResult n 0).actReturn n) 0x1308 [(n : Int), (d.f (LAW.ACT_STAT n) 8 3 : Int)] := by
  have hcause : (d.actResult n 0).f (LAW.ACT_STAT n) 8 3 = d.f (LAW.ACT_STAT n) 8 3 := by rw [Dev.f, w_actResult, Dev.f]
  rw [Dev.actReturn, hcause]
  rfl

theorem actTrip_records {d : Dev} {n : Nat} (h : actState d n = 1) :
    Records d ((d.actResult n 0).actTrip n 4 3) 0x1307 [(n : Int), 3] := by
  rw [Records, actTrip_occ 4 3 ((actState_actResult _ _ _ _).trans h)]
  rfl

/-! ### Power of the bus groups (R269, R267, R517) -/

section
variable (d : Dev) (c : Cfg) (g : Nat) (v : Word)

/-- BUSg_PWR takes the 17 bits of a write, and the group's time limit starts anew. -/
def Dev.takePower (d : Dev) (g : Nat) (v : Word) : Dev :=
  let e := d.putN (LAW.BUS_PWR g) (v.toNat % 2 ^ 17)
  { e with law := { e.law with busTick := Assoc.set 0 e.law.busTick g e.tick } }

/-- A group that is online after the write: recorded where it was not before. -/
def Dev.powerOn (d : Dev) (g : Nat) (v : Word) : Dev :=
  if d.b (LAW.BUS_PWR g) 16 then d.takePower g v else (d.takePower g v).event 0x1309 [(g : Int), 1]

theorem busPwr_online (h : bit v 16 = true) : d.busPwr c g v = d.powerOn g v := by
  unfold Dev.busPwr Dev.powerOn
  cases hwas : d.b (LAW.BUS_PWR g) 16 <;> simp [h] <;> rfl

theorem powerOn_regs : (d.powerOn g v).regs = (d.takePower g v).regs := by
  unfold Dev.powerOn
  split <;> rfl

theorem powerOn_prc : (d.powerOn g v).prc = d.prc := by
  unfold Dev.powerOn
  split <;> rfl

theorem powerOn_regsKept : RegsKept [LAW.BUS_PWR g] d (d.powerOn g v) := by
  have htaken : RegsKept [LAW.BUS_PWR g] d (d.takePower g v) := regsKept_put regsKept_refl _ (List.mem_singleton_self _)
  exact regsKept_congr htaken (powerOn_regs d g v)

theorem powerOn_w : (d.powerOn g v).w (LAW.BUS_PWR g) = wd (v.toNat % 2 ^ 17) := by
  rw [Dev.w, powerOn_regs]
  exact Dev.w_putN_self _ _ _

theorem powerOn_occ : (d.powerOn g v).occ
    = d.occ ++ (if d.b (LAW.BUS_PWR g) 16 then [] else [⟨0x1309, d.tick, d.eventBeat, [(g : Int), 1]⟩]) := by
  unfold Dev.powerOn
  split
  · exact (List.append_nil _).symm
  · rfl

end

section
variable {s : State} {g : Fin 8}

theorem busPwrWrite_online {v : Word} (hmode : s.dev.mode ≠ 4) (hquiet : journaling s.cfg s.dev = false) (hon : bit v 16 = true) :
    exec (.busPwrWrite g v) s = .next { s with dev := s.dev.powerOn g.val v, bus := .done 0 } := by
  have hstat : PRC.STAT ∉ [LAW.BUS_PWR g.val] := by simp only [List.mem_singleton, PRC.STAT, LAW.BUS_PWR]; omega
  exact onControl_quiet _ _ _ _ hmode (congrArg (Prod.mk true) (busPwr_online _ _ _ _ hon))
    (journaling_of_regsKept (powerOn_prc _ _ _) (powerOn_regsKept _ _ _) hstat hquiet)

theorem busPwrWrite_standby {v : Word} (hmode : s.dev.mode = 4) :
    exec (.busPwrWrite g v) s = .next { s.ignoreWrite 0x40038000 with bus := .done 0 } := by
  have hpage : keyPage (LAW.BUS_PWR g.val) = 0x40038000 := by unfold keyPage LAW.BUS_PWR; omega
  rw [← hpage]
  exact onControl_standby _ _ _ _ _ hmode

theorem busPwrStale_unlimited (h : s.cfg.f LAW.CFG2 24 8 = 0) : exec (.busPwrStale g) s = .next s := next_same (if_pos (by simp [h]))

/-- The instant at which the values of a group are stale. -/
def busStaleAt (s : State) (g : Nat) : Nat := Assoc.get 0 s.dev.law.busTick g + s.cfg.f LAW.CFG2 24 8 * 10 * ticksPerMs

theorem busPwrStale_sets (h : s.cfg.f LAW.CFG2 24 8 ≠ 0) (hfresh : s.dev.b (LAW.BUS_PWR g.val) 17 = false) :
    exec (.busPwrStale g) s = .next { s with dev := (s.dev.advanceTo (busStaleAt s g.val)).putB (LAW.BUS_PWR g.val) 17 true } :=
  next_dev (if_neg (by simp [h, hfresh]))

end

/-! ### The joystick (R275, R517) -/

section
variable (d : Dev) (c : Cfg)

/-- The instant at which the last joystick item is stale, reached; without an item time stays. -/
def Dev.joyDue (d : Dev) (c : Cfg) : Dev :=
  match Assoc.get none d.flow.lastItem (c.f LAW.JOY_CFG 0 16) with
  | none => d
  | some i => d.advanceTo (i.tick + c.f LAW.JOY_CFG 16 8 * 10 * ticksPerMs)

/-- The demand falls to zero, stale. -/
def Dev.joyRest (d : Dev) : Dev := { d with law := { d.law with joy := (0, 0, 0), joyStale := true } }

theorem joyDue_regs : (d.joyDue c).regs = d.regs := by
  unfold Dev.joyDue
  split <;> rfl

theorem joyDue_occ : (d.joyDue c).occ = d.occ := by
  unfold Dev.joyDue
  split <;> rfl

theorem joyDue_esc : (d.joyDue c).esc = d.esc := by
  unfold Dev.joyDue
  split <;> rfl

theorem joyDue_tick : d.tick ≤ (d.joyDue c).tick := by
  unfold Dev.joyDue
  split
  · exact le_refl _
  · exact le_max_left _ _

/-- Axes at rest lie in the neutral band, whatever its width: only the units of the modes see it (R49). -/
theorem neutralBand_rest (h : d.law.joy = (0, 0, 0)) : ∃ m, d.neutralBand c = { d with modes := m } := by
  have hband : joyWithin d.law.joy (c.neutralPct + if d.modes.neutralSince.isSome then 1 else 0) = true := by
    rw [h]
    unfold joyWithin
    split <;> simp
  exact ⟨_, if_pos hband⟩

end

section
variable {s : State}

theorem joyStale_idle (h : s.cfg.f LAW.JOY_CFG 16 8 = 0 ∨ s.dev.law.joyStale = true) : exec .joyStale s = .next s :=
  next_same (if_pos (by simpa using h))

theorem joyStale_rests (htmo : s.cfg.f LAW.JOY_CFG 16 8 ≠ 0) (hfresh : s.dev.law.joyStale = false) :
    exec .joyStale s = .next { s with
      dev := ((((s.dev.joyDue s.cfg).joyAdvance s.cfg).joyRest).neutralBand s.cfg).event 0x130B } :=
  next_dev (if_neg (by simp [htmo, hfresh]))

theorem joyStale_shows (d : Dev) (c : Cfg) :
    let t := ((((d.joyDue c).joyAdvance c).joyRest).neutralBand c).event 0x130B
    RegsKept [] d t ∧ t.law.joy = (0, 0, 0) ∧ t.law.joyStale = true ∧ d.tick ≤ t.tick
      ∧ t.occ = d.occ ++ [⟨0x130B, t.tick, d.eventBeat, []⟩] := by
  obtain ⟨m, hband⟩ := neutralBand_rest (((d.joyDue c).joyAdvance c).joyRest) c rfl
  rw [hband]
  refine ⟨regsKept_congr regsKept_refl (joyDue_regs d c), rfl, rfl, joyDue_tick d c, ?_⟩
  have hbeat : (d.joyDue c).eventBeat = d.eventBeat := by rw [Dev.eventBeat, joyDue_esc, Dev.eventBeat]
  rw [← hbeat, ← joyDue_occ d c]
  rfl

end

end Sys2Proof.Machine
end

section
/-! SUPPORT. What the memories report of a write of the block, the end of a consequence run, capability envelopes. -/
namespace Sys2Proof.Machine

/-! ### What a write of the block leaves alone (R458 to R470) -/

/-- The registers in which region `r` shows errors found by a write, and those of an injection. -/
def errorKeys (r : Nat) : List Nat := [MEM.CE_CNT r, MEM.UE_CNT r, MEM.LAST_LO r, MEM.LAST_HI r, MEM.INJ_CTRL]

/-- From `d` to `e` the memories have reported, and nothing else: registers of region `r` and occurrences. -/
def Reported (r : Nat) (d e : Dev) : Prop := e = { d with regs := e.regs, occ := e.occ } ∧ RegsKept (errorKeys r) d e

section
variable {r : Nat} {d e f : Dev} {st : Store}

theorem reported_refl : Reported r d d := ⟨rfl, regsKept_refl⟩

theorem reported_trans (h : Reported r d e) (g : Reported r e f) : Reported r d f :=
  ⟨by rw [g.1, h.1], regsKept_trans h.2 g.2⟩

theorem reported_put (h : Reported r d e) {k : Nat} (v : Word) (hk : k ∈ errorKeys r) : Reported r d (e.put k v) :=
  reported_trans h ⟨rfl, regsKept_put regsKept_refl v hk⟩

theorem lastError_reported (a n : Nat) (ue scrub : Bool) (h : Reported r d e) : Reported r d (e.lastError r a n ue scrub) :=
  reported_put (reported_put h _ (by simp [errorKeys])) _ (by simp [errorKeys])

theorem event_reported (code : Nat) (ps : List Int) (h : Reported r d e) : Reported r d (e.event code ps) :=
  reported_trans h ⟨rfl, regsKept_refl⟩

theorem countCE_reported (a n : Nat) (scrub : Bool) : Reported r d (d.countCE r a n scrub) :=
  event_reported _ _ (lastError_reported _ _ _ _ (reported_put reported_refl _ (by simp [errorKeys])))

theorem countUE_reported (a : Nat) (scrub : Bool) : Reported r d (countUE st d r a scrub).2 := by
  unfold countUE
  split
  · exact reported_refl
  · exact event_reported _ _ (lastError_reported _ _ _ _ (reported_put reported_refl _ (by simp [errorKeys])))

theorem inject_reported (w : Nat) : Reported r d (inject st d w).2 := by
  unfold inject
  split
  · exact reported_put (reported_put reported_refl _ (by simp [errorKeys])) _ (by simp [errorKeys])
  · exact reported_refl

theorem Reported.tick (h : Reported r d e) : e.tick = d.tick := by rw [h.1]
theorem Reported.slv (h : Reported r d e) : e.slv = d.slv := by rw [h.1]
theorem Reported.law (h : Reported r d e) : e.law = d.law := by rw [h.1]

theorem writeWord_reported (w off : Nat) (bs : List Byte) (poisoned : Bool) : Reported r d (writeWord st d r w off bs poisoned).2 := by
  unfold writeWord
  extract_lets whole clear unmark
  split
  next st' d' hword =>
  refine reported_trans ?_ (inject_reported w)
  have hd : d' = _ := (congrArg Prod.snd hword).symm
  rw [hd]
  split
  · exact reported_refl
  · split
    · exact reported_refl
    · exact countCE_reported _ _ _
    · exact countUE_reported _ _
    · exact reported_refl

theorem writeRun_reported (n a : Nat) (bs : List Byte) (poisoned : Bool) : Reported r d (writeRun n st d r a bs poisoned).2 := by
  induction n generalizing st d a bs with
  | zero => exact reported_refl
  | succ k ih =>
    unfold writeRun
    split
    · exact reported_refl
    · exact reported_trans (writeWord_reported _ _ _ _) (ih _ _)

end

/-! ### The end of a consequence run (R290 to R292) -/

section
variable (c : Cfg) (st : Store) (d : Dev)

theorem putCase_frameKept (n : Nat) (x : CaseRes) : FrameKept d (d.putCase n x) := .units (.refl d) rfl rfl

theorem irq_frameKept (page i : Nat) : FrameKept d (d.irq page i) := .putB (.refl d)

theorem cqJudge_frameKept (n : Nat) : FrameKept d (d.cqJudge c n) := by
  unfold Dev.cqJudge
  extract_lets x k prev d0 m r level noted shown second counted missed
  have hshown : FrameKept d shown := .putF (.putB (.putF (.putF (putCase_frameKept d n _))))
  have hmissed : FrameKept d missed := .event (.putF (.putB (.putF (putCase_frameKept d n _))))
  have hraised {e : Dev} (he : FrameKept d e) (code : Nat) (ps : List Int) (i : Nat) : FrameKept d ((e.event code ps).irq 0x40038000 i) :=
    he.event.trans (irq_frameKept _ _ _)
  clear_value shown missed
  exact .ite (.ite (hraised hshown _ _ _) (.ite (hraised hshown _ _ _) (.ite (hraised hshown _ _ _) hshown)))
    (.ite (hraised hmissed _ _ _) hmissed)

/-- Four branches, whether cases or none fill them (R292). -/
theorem branchPick_length : (branchPick c d).length = 4 := by
  have hcount : branchCount c ≤ 4 := by
    unfold branchCount
    split <;> omega
  simp only [branchPick, List.length_append, List.length_replicate, List.length_take]
  omega

/-- A run that completes is over, the branches of its judged cases are named from the beat on, and its record is written. The judged units
stand as a variable, so that no comparison of terms runs the judgement of the cases. -/
theorem cqComplete_writes {d : Dev} (h : d.law.cqActive = true) : ∃ judged e bs, cqComplete c st d = writeRun 100 st e 0 cqBase bs false
    ∧ e.law.cqActive = false ∧ e.law.nextBranch = some (d.esc.beat, branchPick c judged) := by
  unfold cqComplete
  rw [if_neg (by simp [h])]
  extract_lets en judged pick _ named _ shown cnt low e
  have hjudged : FrameKept d judged := .foldl en (.refl d) fun e n => cqJudge_frameKept c e n
  clear_value judged
  have hshown : shown.law.cqActive = false ∧ shown.law.nextBranch = some (judged.esc.beat, pick) := by
    unfold shown
    split <;> exact ⟨rfl, rfl⟩
  have hlaw : e.law = shown.law := Dev.putN_law _ _ _
  rw [hjudged.beat, ← hlaw] at hshown
  exact ⟨judged, e, _, rfl, hshown⟩

theorem cqComplete_ends {d : Dev} (h : d.law.cqActive = true) : (cqComplete c st d).2.law.cqActive = false
    ∧ ∃ judged, (cqComplete c st d).2.law.nextBranch = some (d.esc.beat, branchPick c judged) := by
  obtain ⟨judged, e, bs, heq, hover, hnext⟩ := cqComplete_writes c st h
  rw [heq, (writeRun_reported _ _ _ _).law]
  exact ⟨hover, judged, hnext⟩

end

section
variable {s : State}

theorem cqRunComplete_idle (h : s.dev.law.cqTodo ≠ [] ∨ s.dev.law.cqActive = false) : exec .cqRunComplete s = .next s := by
  show execCqRunComplete s = _
  refine onMem_to ?_
  split
  next hdone =>
    have htodo : s.dev.law.cqTodo = [] := List.isEmpty_iff.mp ((Bool.and_eq_true_iff.mp hdone).1)
    exact if_pos (by rw [h.resolve_left (not_not.mpr htodo)]; rfl)
  next => rfl

theorem cqRunComplete_done (htodo : s.dev.law.cqTodo = []) (hjobs : s.dev.slv.jobs.any (fun j => j.stream = 2) = false) :
    exec .cqRunComplete s = .next { s with
      store := (cqComplete s.cfg s.store s.dev).1, dev := (cqComplete s.cfg s.store s.dev).2 } := by
  show execCqRunComplete s = _
  exact onMem_to (if_pos (by rw [htodo, hjobs]; rfl))

/-! ### Capability envelopes (R293) -/

theorem envelopeStart_idle (h : lawRuns s.dev = false ∨ s.dev.esc.beat % 10000 ≠ 0) : exec .envelopeStart s = .next s :=
  next_same (if_pos (by simpa using h))

theorem envelopeStart_begins (hruns : lawRuns s.dev = true) (hbeat : s.dev.esc.beat % 10000 = 0) :
    exec .envelopeStart s = .next { s with dev := { s.dev with
      law := { s.dev.law with envelope := some (0, s.dev.f LAW.CQ_STAT 0 6), envelopeVals := List.replicate 72 F64.nan } } } :=
  next_dev (if_neg (by simp [hruns, hbeat]))

end

end Sys2Proof.Machine
end

section
/-! SUPPORT. The solver with one held result: its publication at the hold limit, and what shows it. -/
namespace Sys2Proof.Machine

/-! ### What shows the solver, with no job left (R232) -/

/-- The registers that show queue, slots, streams and clusters. -/
def solverKeys : List Nat :=
  SLV.QSTAT :: ((List.range 8).map SLV.SLOT_INFO ++ ((List.range 7).map SLV.STRM_STAT ++ (List.range 4).map SLV.CL_STAT))

section
variable {ks : List Nat} {d e f : Dev}

/-- From `d` to `e` only the registers named have changed. -/
def ShownBy (ks : List Nat) (d e : Dev) : Prop := RegsOnly d e ∧ RegsKept ks d e

theorem shownBy_refl : ShownBy ks d d := ⟨regsOnly_refl d, regsKept_refl⟩

theorem shownBy_put (h : ShownBy ks d e) {k : Nat} (v : Word) (hk : k ∈ ks) : ShownBy ks d (e.put k v) :=
  ⟨regsOnly_put h.1 k v, regsKept_put h.2 v hk⟩

theorem ShownBy.slv (h : ShownBy ks d e) : e.slv = d.slv := by rw [h.1]
theorem ShownBy.tick (h : ShownBy ks d e) : e.tick = d.tick := by rw [h.1]
theorem ShownBy.occ (h : ShownBy ks d e) : e.occ = d.occ := by rw [h.1]
theorem ShownBy.prc (h : ShownBy ks d e) : e.prc = d.prc := by rw [h.1]

/-- Writes of one named register for each element of a list. -/
theorem shownBy_foldl {l : List Nat} {g : Dev → Nat → Dev} {key : Nat → Nat} (h : ShownBy ks d e) (hl : ∀ n ∈ l, key n ∈ ks)
    (hg : ∀ e n, ∃ v, g e n = e.put (key n) v) : ShownBy ks d (l.foldl g e) :=
  List.foldlRecOn l g h fun b hb n hn => by
    obtain ⟨v, hv⟩ := hg b n
    rw [hv]
    exact shownBy_put hb v (hl n hn)

theorem showSolver_shownBy (d : Dev) : ShownBy solverKeys d d.showSolver := by
  unfold Dev.showSolver
  refine shownBy_foldl (key := SLV.CL_STAT) (shownBy_foldl (key := SLV.STRM_STAT) (shownBy_foldl (key := SLV.SLOT_INFO)
    (shownBy_put shownBy_refl _ ?_) ?_ ?_) ?_ ?_) ?_ ?_
  · exact List.mem_cons_self ..
  · exact fun n hn => .tail _ (List.mem_append_left _ (List.mem_map_of_mem hn))
  · exact fun e n => ⟨_, rfl⟩
  · exact fun n hn => .tail _ (List.mem_append_right _ (List.mem_append_left _ (List.mem_map_of_mem hn)))
  · exact fun e n => ⟨_, rfl⟩
  · exact fun n hn => .tail _ (List.mem_append_right _ (List.mem_append_right _ (List.mem_map_of_mem hn)))
  · exact fun e n => ⟨_, rfl⟩

end

section
variable {d : Dev} (c : Cfg) (st : Store)

theorem heldJobs_none (h : d.slv.jobs = []) (n : Nat) : heldJobs d n = [] := by rw [heldJobs, h]; rfl

theorem heldJobs_one {n : Nat} {j : Job} (h : d.slv.jobs = [j]) (hstream : j.stream = n) (hheld : j.phase = .held) :
    heldJobs d n = [j] := by
  rw [heldJobs, h, List.filter_cons_of_pos (by simp [hstream, hheld])]
  rfl

theorem releaseHeld_none (h : d.slv.jobs = []) (n : Nat) : releaseHeld c st d n = (st, d) := by
  rw [releaseHeld, heldJobs_none h]
  rfl

theorem cqFill_done (h : d.law.cqTodo = []) (fuel : Nat) : d.cqFill c st fuel = d := by
  cases fuel with
  | zero => rfl
  | succ k => simp only [Dev.cqFill, h]

theorem reserve_none (h : d.slv.jobs = []) : d.reserve = d.showSolver := by
  have horder : dispatchOrder d.slv.jobs (fun j => j.phase = .queued) = [] := by rw [h]; rfl
  rw [Dev.reserve, horder, List.foldl_nil]

/-- With no job queued or held and none to follow, only the status registers are shown anew. -/
theorem settleStreams_none (h : d.slv.jobs = []) (htodo : d.law.cqTodo = []) : settleStreams c st d = (st, d.showSolver) := by
  have hheld : (List.range 7).foldl (fun p n => releaseHeld c p.1 p.2 n) (st, d) = (st, d) :=
    List.foldl_fixed' (fun n => releaseHeld_none c st h n) _
  rw [settleStreams, hheld]
  dsimp only
  rw [cqFill_done c st htodo, reserve_none h]

end

/-! ### The hold limit (R32, R33, R235) -/

section
variable (c : Cfg) (st : Store) (d : Dev) (j : Job)

/-- A published job has left the queue; STRMs_PUB and the interrupts show it. -/
def Dev.showPublished (d : Dev) (j : Job) : Dev :=
  let e := ((d.dropJob j.stream j.seq).putN (SLV.STRM_PUB j.stream) j.seq).irq 0x40032000 j.stream
  if j.irq then e.irq 0x40032000 (j.stream + 8) else e

/-- What is published of a firmware job is shown, and its PUB_SEQ is written. -/
theorem publishJob_firmware (h : 3 ≤ j.stream) :
    publishJob c st d j = writeRun 3 st (d.showPublished j) (if j.resultAddr < 0x80000000 then 0 else 1) (j.resultAddr + 0x48)
      (leBytes 4 j.seq) false := by
  rw [publishJob, if_neg (show ¬ j.stream ≤ 2 by omega)]
  rfl

theorem lawTake_firmware (h : 3 ≤ j.stream) : lawTake c st d j = (st, d) := by
  rw [lawTake, if_neg (by omega), if_neg (by omega), if_neg (by omega)]

theorem showPublished_tick : (d.showPublished j).tick = d.tick := by
  unfold Dev.showPublished
  dsimp only
  split <;> rfl

theorem showPublished_law : (d.showPublished j).law = d.law := by
  unfold Dev.showPublished
  dsimp only
  split <;> rfl

theorem showPublished_jobs (h : d.slv.jobs = [j]) : (d.showPublished j).slv.jobs = [] := by
  have hdrop : (d.dropJob j.stream j.seq).slv.jobs = [] := by
    show d.slv.jobs.filter _ = []
    simp [h]
  unfold Dev.showPublished
  dsimp only
  split <;> exact hdrop

theorem strmPub_ne_irqRaw (n : Nat) : SLV.STRM_PUB n ≠ hdrIRQ_RAW 0x40032000 := by unfold SLV.STRM_PUB hdrIRQ_RAW; omega

theorem showPublished_pub : (d.showPublished j).w (SLV.STRM_PUB j.stream) = wd j.seq := by
  have hirq (e : Dev) (i : Nat) : (e.irq 0x40032000 i).w (SLV.STRM_PUB j.stream) = e.w (SLV.STRM_PUB j.stream) :=
    Dev.w_putB_ne _ _ _ (strmPub_ne_irqRaw _)
  unfold Dev.showPublished
  dsimp only
  split
  · rw [hirq, hirq, Dev.w_putN_self]
  · rw [hirq, Dev.w_putN_self]

theorem showPublished_irq (h : j.stream < 7) : (d.showPublished j).b (hdrIRQ_RAW 0x40032000) j.stream = true := by
  unfold Dev.showPublished
  dsimp only
  split
  · rw [Dev.irq, Dev.b_putB_apart _ _ _ (by omega) (by omega), Dev.irq, Dev.b_putB_self _ _ _ (by omega)]
  · rw [Dev.irq, Dev.b_putB_self _ _ _ (by omega)]

end

/-- The registers in which a published result shows are not those of the solver's status, nor those of memory errors. -/
theorem published_keys_apart (n : Fin 7) (r : Fin 2) : SLV.STRM_PUB n.val ∉ solverKeys ∧ hdrIRQ_RAW 0x40032000 ∉ solverKeys
    ∧ SLV.STRM_PUB n.val ∉ errorKeys r.val ∧ hdrIRQ_RAW 0x40032000 ∉ errorKeys r.val := by
  revert n r
  decide

/-- The streams of the firmware hold a result for at most 10 beats (Table 9.2). -/
theorem holdLimit_firmware (c : Cfg) {n : Nat} (h : 3 ≤ n) : holdLimit c n = 10 := by
  dsimp only [holdLimit]
  rw [if_neg (by omega), if_neg (by omega), if_neg (by omega)]

theorem seqBefore_self (q : Nat) : seqBefore q q = false := by
  rw [seqBefore, seqDiff, sub_self]
  rfl

/-- The result of a firmware job as HOLD_LIMIT_EXPIRY publishes it: at the limit, PUB_SEQ written. -/
def publishAtLimit (s : State) (n : Nat) (j : Job) : Store × Dev :=
  writeRun 3 s.store ((s.dev.advanceTo (j.heldSince + holdLimit s.cfg n * ticksPerMs)).showPublished j)
    (if j.resultAddr < 0x80000000 then 0 else 1) (j.resultAddr + 0x48) (leBytes 4 j.seq) false

section
variable {s : State} {n : Fin 7} {j : Job}

theorem holdLimitExpiry_none (h : s.dev.slv.jobs = []) : exec (.holdLimitExpiry n) s = .next s := by
  show execHoldLimitExpiry n s = _
  refine onMem_to ?_
  dsimp only
  rw [heldJobs_none h]
  rfl

/-- What stands after the publication: no job, nothing of a run to follow, and the result shown. -/
theorem publishAtLimit_shows (hjobs : s.dev.slv.jobs = [j]) (hstream : j.stream = n.val) :
    let e := (publishAtLimit s n.val j).2
    e.slv.jobs = [] ∧ e.law = s.dev.law ∧ e.w (SLV.STRM_PUB n.val) = wd j.seq
      ∧ e.tick = max s.dev.tick (j.heldSince + holdLimit s.cfg n.val * ticksPerMs) ∧ e.b (hdrIRQ_RAW 0x40032000) n.val = true := by
  obtain ⟨r, hr⟩ : ∃ r : Fin 2, (if j.resultAddr < 0x80000000 then 0 else 1) = r.val := by
    split
    · exact ⟨0, rfl⟩
    · exact ⟨1, rfl⟩
  obtain ⟨-, -, hpub, hirq⟩ := published_keys_apart n r
  rw [publishAtLimit, hr]
  extract_lets e
  have hrep : Reported r.val _ e := writeRun_reported _ _ _ _
  clear_value e
  refine ⟨?_, ?_, ?_, ?_, ?_⟩
  · rw [hrep.slv]
    exact showPublished_jobs _ _ hjobs
  · rw [hrep.law, showPublished_law, Dev.advanceTo_law]
  · rw [hrep.2 _ hpub, ← hstream, showPublished_pub]
  · rw [hrep.tick, showPublished_tick, Dev.advanceTo_tick]
  · rw [b_of_regsKept hrep.2 hirq, ← hstream, showPublished_irq _ _ (by omega)]

/-- The same once the status registers are shown anew; the limit of a firmware stream is 10 beats. -/
theorem publishedAtLimit_shows (hfirm : 3 ≤ n.val) (hjobs : s.dev.slv.jobs = [j]) (hstream : j.stream = n.val) :
    let t := (publishAtLimit s n.val j).2.showSolver
    t.slv.jobs = [] ∧ t.w (SLV.STRM_PUB n.val) = wd j.seq ∧ t.tick = max s.dev.tick (j.heldSince + 10 * 200000)
      ∧ t.b (hdrIRQ_RAW 0x40032000) n.val = true := by
  obtain ⟨hleft, -, hpub, htick, hirq⟩ := publishAtLimit_shows hjobs hstream
  obtain ⟨hpubKey, hirqKey, -⟩ := published_keys_apart n 0
  rw [holdLimit_firmware _ hfirm] at htick
  have hshown := showSolver_shownBy (publishAtLimit s n.val j).2
  refine ⟨?_, ?_, ?_, ?_⟩
  · rw [hshown.slv, hleft]
  · rw [hshown.2 _ hpubKey, hpub]
  · rw [hshown.tick, htick, ticksPerMs]
  · rw [b_of_regsKept hshown.2 hirqKey, hirq]

theorem holdLimitExpiry_publishes (hfirm : 3 ≤ n.val) (hjobs : s.dev.slv.jobs = [j]) (hstream : j.stream = n.val)
    (hheld : j.phase = .held) (htodo : s.dev.law.cqTodo = []) :
    exec (.holdLimitExpiry n) s = .next { s with
      store := (publishAtLimit s n.val j).1, dev := (publishAtLimit s n.val j).2.showSolver } := by
  obtain ⟨hleft, hlaw, -⟩ := publishAtLimit_shows hjobs hstream
  have hnone : (publishAtLimit s n.val j).2.law.cqTodo = [] := by rw [hlaw, htodo]
  have hone (t : Nat) : heldJobs (s.dev.advanceTo t) n.val = [j] := heldJobs_one hjobs hstream hheld
  have hfirst : [j].filter (fun k => !seqBefore j.seq k.seq) = [j] := by
    rw [List.filter_cons_of_pos (by rw [seqBefore_self]; rfl), List.filter_nil]
  show execHoldLimitExpiry n s = _
  refine onMem_to ?_
  dsimp only
  rw [heldJobs_one hjobs hstream hheld]
  dsimp only [List.foldl_cons, List.foldl_nil]
  rw [hone, hfirst, List.foldl_cons, List.foldl_nil]
  dsimp only
  rw [publishJob_firmware _ _ _ _ (by omega), lawTake_firmware _ _ _ _ (by omega)]
  exact settleStreams_none _ _ hleft hnone

end

end Sys2Proof.Machine
end

section
/-! SUPPORT. The loop engine: RESTART, set-points, samples; then the commands of the law and of the loops together. -/
namespace Sys2Proof.Machine

/-! ### Loop slots: RESTART and set-points (R311, R313) -/

/-- The registers that show RUN and VIOL of all slots. -/
def loopKeys : List Nat := [LPE.RUN 0, LPE.RUN 1, LPE.VIOL 0, LPE.VIOL 1]

theorem showLoops_shownBy (d : Dev) : ShownBy loopKeys d d.showLoops := by
  unfold Dev.showLoops
  exact shownBy_put (shownBy_put (shownBy_put (shownBy_put shownBy_refl _ (by simp [loopKeys])) _ (by simp [loopKeys])) _
    (by simp [loopKeys])) _ (by simp [loopKeys])

section
variable (d : Dev) (c : Cfg) (k : Nat)

theorem slStat_notMem_loopKeys : LPE.SL_STAT k ∉ loopKeys := by
  simp only [loopKeys, List.mem_cons, List.not_mem_nil, or_false, not_or, LPE.SL_STAT, LPE.RUN, LPE.VIOL]
  omega

theorem prcStat_notMem_loopKeys : PRC.STAT ∉ loopKeys := by decide

theorem loopState_showLoops : loopState d.showLoops k = loopState d k := by
  rw [loopState, Dev.f, (showLoops_shownBy d).2 _ (slStat_notMem_loopKeys k)]
  rfl

theorem loopState_putN {n : Nat} (h : n < 8) : loopState (d.putN (LPE.SL_STAT k) n) k = n := by
  rw [loopState, Dev.f, Dev.w_putN_self]
  unfold fld wd
  rw [BitVec.toNat_ofNat]
  omega

theorem loopState_runSlot : loopState (d.runSlot k) k = 2 := by
  have hi : LPE.SL_STAT k ≠ LPE.SL_I k := by unfold LPE.SL_STAT LPE.SL_I; omega
  have hres : LPE.SL_STAT k ≠ LPE.SL_RES k := by unfold LPE.SL_STAT LPE.SL_RES; omega
  rw [Dev.runSlot, loopState, Dev.f_putN_ne _ _ _ _ hres, Dev.f_putN_ne _ _ _ _ hi]
  exact loopState_putN _ _ (by omega)

theorem runSlot_regsKept : RegsKept [LPE.SL_STAT k, LPE.SL_I k, LPE.SL_RES k] d (d.runSlot k) :=
  regsKept_put (regsKept_put (regsKept_put (fun _ _ => rfl) _ (by simp)) _ (by simp)) _ (by simp)

/-- A tripped slot after RESTART: in RUN where the loops run and the slot is enabled, else HALTED. -/
def Dev.restartSlot (d : Dev) (c : Cfg) (k : Nat) : Dev :=
  if loopsRun c d && slEn c k then (d.runSlot k).showLoops else (d.putN (LPE.SL_STAT k) 1).showLoops

theorem loopState_restartSlot : loopState (d.restartSlot c k) k = if loopsRun c d && slEn c k then 2 else 1 := by
  unfold Dev.restartSlot
  split
  · rw [loopState_showLoops, loopState_runSlot]
  · rw [loopState_showLoops, loopState_putN _ _ (by omega)]

theorem restartSlot_prc : (d.restartSlot c k).prc = d.prc := by
  unfold Dev.restartSlot
  split
  · exact (showLoops_shownBy _).prc
  · exact (showLoops_shownBy _).prc

theorem restartSlot_prcStat : (d.restartSlot c k).w PRC.STAT = d.w PRC.STAT := by
  have hstat : PRC.STAT ≠ LPE.SL_STAT k := by unfold PRC.STAT LPE.SL_STAT; omega
  have hkeys : PRC.STAT ∉ [LPE.SL_STAT k, LPE.SL_I k, LPE.SL_RES k] := by
    simp only [List.mem_cons, List.not_mem_nil, or_false, not_or, PRC.STAT, LPE.SL_STAT, LPE.SL_I, LPE.SL_RES]
    omega
  unfold Dev.restartSlot
  split
  · rw [(showLoops_shownBy _).2 _ prcStat_notMem_loopKeys, runSlot_regsKept _ _ _ hkeys]
  · rw [(showLoops_shownBy _).2 _ prcStat_notMem_loopKeys, Dev.w_putN_ne _ _ hstat]

variable {d c k} {v : Word}

theorem slCmd_ignored (h : fld v 16 16 ≠ 0x1C4E ∨ bit v 0 = false ∨ loopState d k ≠ 5) : d.slCmd c k v = (false, d) :=
  if_pos (by simpa [or_assoc] using h)

theorem slCmd_restarts (hkey : fld v 16 16 = 0x1C4E) (hbit : bit v 0 = true) (htrip : loopState d k = 5) :
    d.slCmd c k v = (true, d.restartSlot c k) := by
  rw [Dev.slCmd, if_neg (by simp [hkey, hbit, htrip]), Dev.restartSlot]
  split <;> rfl

end

section
variable {s : State} {v : Word} {k : Fin 64}

theorem slRestart_standby (hmode : s.dev.mode = 4) : exec (.slRestart v) s = .next { s.ignoreWrite 0x40041000 with bus := .done 0 } :=
  onControl_standby _ _ _ _ _ hmode

theorem slRestart_ignored (hmode : s.dev.mode ≠ 4)
    (h : fld v 16 16 ≠ 0x1C4E ∨ bit v 0 = false ∨ loopState s.dev (s.dev.f LPE.SLOTSEL 0 6) ≠ 5) :
    exec (.slRestart v) s = .next { s with bus := .done 0 } := by
  have hcmd := slCmd_ignored (c := s.cfg) h
  refine (onControl_refused _ _ _ _ _ hmode ?_).trans (done_dev ?_)
  · rw [hcmd]
  · rw [hcmd]

theorem slRestart_restarts (hmode : s.dev.mode ≠ 4) (hquiet : journaling s.cfg s.dev = false) (hkey : fld v 16 16 = 0x1C4E)
    (hbit : bit v 0 = true) (htrip : loopState s.dev (s.dev.f LPE.SLOTSEL 0 6) = 5) :
    exec (.slRestart v) s = .next { s with dev := s.dev.restartSlot s.cfg (s.dev.f LPE.SLOTSEL 0 6), bus := .done 0 } :=
  onControl_quiet _ _ _ _ hmode (slCmd_restarts hkey hbit htrip)
    ((journaling_congr (restartSlot_prc _ _ _) (restartSlot_prcStat _ _ _) _).trans hquiet)

theorem spWrite_standby (hmode : s.dev.mode = 4) : exec (.spWrite k v) s = .next { s.ignoreWrite 0x40040000 with bus := .done 0 } := by
  have hpage : keyPage (LPE.SP k.val) = 0x40040000 := by unfold keyPage LPE.SP; omega
  rw [← hpage]
  exact onControl_standby _ _ _ _ _ hmode

theorem spWrite_free (hmode : s.dev.mode ≠ 4) (hquiet : journaling s.cfg s.dev = false) (h : actuatorSlot s.cfg k.val = false) :
    exec (.spWrite k v) s = .next { s with bus := .done 0, dev := s.dev.put (LPE.SP k.val) v } := by
  have hstat : PRC.STAT ∉ [LPE.SP k.val] := by simp only [List.mem_singleton, PRC.STAT, LPE.SP]; omega
  have hkept : RegsKept [LPE.SP k.val] s.dev (s.dev.put (LPE.SP k.val) v) := regsKept_put regsKept_refl v (List.mem_singleton_self _)
  exact onControl_quiet _ _ _ _ hmode (if_neg (by simp [h])) (journaling_of_regsKept (d := s.dev) rfl hkept hstat hquiet)

/-- A slot named in an actuator entry takes its set-points from the law alone. -/
theorem spWrite_owned (hmode : s.dev.mode ≠ 4) (h : actuatorSlot s.cfg k.val = true) :
    exec (.spWrite k v) s = .next { s with bus := .done 0 } := by
  have hcmd : s.dev.spWrite s.cfg k.val v = (false, s.dev) := if_pos h
  refine (onControl_refused _ _ _ _ _ hmode ?_).trans (done_dev ?_)
  · rw [hcmd]
  · rw [hcmd]

end

/-! ### Samples of the loops (R296 to R300) -/

section
variable (c : Cfg) (st : Store) (d : Dev) (g idx t : Nat) (fb : Option (List (Fin 64 × Int)))

theorem loopState_off {d : Dev} {k : Nat} (h : d.w (LPE.SL_STAT k) = 0) : loopState d k = 0 := by
  rw [loopState, Dev.f, h]
  rfl

/-- A sample of a group with no slot in a state that computes journals its feedback and shows its index. -/
theorem groupSample_rests (h : ∀ k, loopState d k = 0) :
    ∃ r, d.groupSample c st g idx t fb = ((d.journal c r).putN (LPE.GRP_SEQ g) (idx % 2 ^ 32)).showLoops := by
  have hdue : (groupOrder c g).filter (fun k => decide (2 ≤ loopState d k) && idx % max 1 (slDiv c k) = 0) = [] :=
    List.filter_eq_nil_iff.mpr fun k _ => by simp [h k]
  unfold Dev.groupSample
  extract_lets standby raw due vals e computed
  have hcomputed : computed = e := by
    unfold computed due
    rw [hdue, List.foldl_nil]
  rw [hcomputed]
  exact ⟨_, rfl⟩

theorem sample_shows (r : JournalRecord) (g : Fin 4) :
    let e := ((d.journal c r).putN (LPE.GRP_SEQ g.val) (idx % 2 ^ 32)).showLoops
    e.w (LPE.GRP_SEQ g.val) = wd (idx % 2 ^ 32) ∧ e.tick = d.tick ∧ e.occ = d.occ := by
  have hkey : LPE.GRP_SEQ g.val ∉ loopKeys := by revert g; decide
  extract_lets e
  have hshown : ShownBy loopKeys _ e := showLoops_shownBy _
  clear_value e
  refine ⟨?_, ?_, ?_⟩
  · rw [hshown.2 _ hkey, Dev.w_putN_self]
  · rw [hshown.tick, Dev.putN_tick, journal_tick]
  · rw [hshown.occ, Dev.putN_occ, journal_occ]

end

section
variable {s : State} {g : Fin 4} (fb : Option (List (Fin 64 × Int)))

theorem loopSample_idle {j : Fin 8}
    (h : loopsRun s.cfg s.dev = false ∨ groupOn s.cfg g.val = false ∨ 2 ^ s.cfg.f (LPE.GRP_CFG g.val) 0 2 ≤ j.val) :
    exec (.loopSample g j fb) s = .next s := by
  show execLoopSample g j fb s = _
  refine onMem_to (if_pos ?_)
  rcases h with h | h | h <;> simp [h]

/-- The first sample of a beat is taken where the beat began, with the beat's first index. -/
theorem loopSample_first (hruns : loopsRun s.cfg s.dev = true) (hon : groupOn s.cfg g.val = true)
    (hpaced : s.cfg.b (LPE.GRP_CFG g.val) 2 = false) (hstep : s.dev.b TBU.STATE 9 = false) :
    exec (.loopSample g 0 fb) s = .next { s with
      dev := (s.dev.advanceTo (beatStart s.dev)).groupSample s.cfg s.store g.val
        (s.dev.esc.beat * 2 ^ s.cfg.f (LPE.GRP_CFG g.val) 0 2) (beatStart s.dev) fb } := by
  show execLoopSample g 0 fb s = _
  refine onMem_to ((if_neg (by simp [hruns, hon, hpaced])).trans ((if_neg (by simp [hstep])).trans ?_))
  simp

end

/-- Settles O56: the commands of the law and of the loops, form by form. -/
theorem lawAndLoopCommands : Obligations.LawAndLoopCommands := by
  refine ⟨fun s v hmode hquiet hkey hn hused hcmd hstate => ?withdraw,
    fun s v fb hmode hquiet hkey hn hused hcmd hstate htrack hvalid hpower => ?readmit,
    fun s v hmode hkey => ⟨actCmdWrite_badKey hmode hkey, actCmdWrite_badKey hmode hkey⟩,
    fun s v g k hmode => ⟨actCmdWrite_standby hmode, actCmdWrite_standby hmode, busPwrWrite_standby hmode, slRestart_standby hmode,
      spWrite_standby hmode⟩,
    fun s g v hmode hquiet hon => ⟨_, busPwrWrite_online hmode hquiet hon, rfl, powerOn_regsKept _ _ _, powerOn_w _ _ _,
      powerOn_occ _ _ _⟩,
    fun s g => ⟨busPwrStale_unlimited, fun htmo hfresh => ⟨_, busPwrStale_sets htmo hfresh, rfl,
      regsKept_put (fun _ _ => rfl) _ (List.mem_singleton_self _), Dev.w_putB_self _ _ _ _, le_max_left _ _⟩⟩,
    fun s => ⟨joyStale_idle, fun htmo hfresh => ⟨_, joyStale_rests htmo hfresh, rfl, joyStale_shows s.dev s.cfg⟩⟩,
    fun s => cqRunComplete_idle, fun s htodo hjobs hactive => ?run,
    fun s => ⟨envelopeStart_idle, fun hruns hbeat => envelopeStart_begins hruns hbeat⟩,
    fun s n j hfirm hjobs hstream hheld htodo => ?limit, fun s n => holdLimitExpiry_none, fun s v => slRestart_ignored,
    fun s v hmode hquiet hkey hbit htrip =>
      ⟨_, slRestart_restarts hmode hquiet hkey hbit htrip, rfl, loopState_restartSlot _ _ _⟩,
    fun s k v hmode hquiet => ⟨spWrite_free hmode hquiet, spWrite_owned hmode⟩,
    fun s g j fb => loopSample_idle fb, fun s g fb hruns hon hpaced hstep hoff => ?sample⟩
  case withdraw =>
    have htrip := actTrip_regsKept (s.dev.actResult (fld v 0 6) 0) (fld v 0 6) 4 3
    have hkept := actResult_regsKept _ _ _ htrip
    exact ⟨_, actCmdWrite_taken hmode hquiet (actCmd_withdraw hkey hn hused hcmd) (actTrip_prc _ _ _ _) hkept, rfl, hkept,
      w_actCmdRes _ _ htrip, actTrip_w 4 3 ((actState_actResult _ _ _ _).trans hstate), actTrip_records hstate⟩
  case readmit =>
    have hback := actReturn_regsKept (s.dev.actResult (fld v 0 6) 0) (fld v 0 6)
    have hkept := actResult_regsKept _ _ _ hback
    exact ⟨_, actCmdWrite_taken hmode hquiet (actCmd_readmit hkey hn hused hcmd hstate htrack hvalid hpower) rfl hkept, rfl, hkept,
      w_actCmdRes _ _ hback, actReturn_w _ _, actReturn_records _ _⟩
  case run =>
    obtain ⟨hover, judged, hnext⟩ := cqComplete_ends s.cfg s.store hactive
    exact ⟨_, cqRunComplete_done htodo hjobs, rfl, rfl, rfl, hover, _, branchPick_length _ _, hnext⟩
  case limit =>
    exact ⟨_, holdLimitExpiry_publishes hfirm hjobs hstream hheld htodo, rfl, rfl, rfl, publishedAtLimit_shows hfirm hjobs hstream⟩
  case sample =>
    obtain ⟨r, hsample⟩ := groupSample_rests s.cfg s.store (s.dev.advanceTo (beatStart s.dev)) g.val
      (s.dev.esc.beat * 2 ^ s.cfg.f (LPE.GRP_CFG g.val) 0 2) (beatStart s.dev) fb fun k => loopState_off (hoff k)
    obtain ⟨hseq, htick, hocc⟩ := sample_shows s.cfg (s.dev.advanceTo (beatStart s.dev))
      (s.dev.esc.beat * 2 ^ s.cfg.f (LPE.GRP_CFG g.val) 0 2) r g
    have hexec := loopSample_first fb hruns hon hpaced hstep
    rw [hsample] at hexec
    exact ⟨_, hexec, rfl, hseq, (le_max_left _ _).trans_eq htick.symm, hocc⟩

end Sys2Proof.Machine
end

section
/-! SUPPORT. Joining: the request for a state transfer, its image, its time limits, the blocks a joiner and a standby receive, the beats
without a block, the digests that do not come. -/
namespace Sys2Proof.Machine

/-! ### A transfer that fails (R328, R330) -/

/-- What is given up with a transfer; no request follows for 1 s. -/
def Dev.dropTransfer (d : Dev) : Dev :=
  { d with prc := { d.prc with
    askAfter := d.tick + ticksPerSec, image := none, buffer := [], transferTick := none, level := false, swapMatch := none } }

/-- The units after a transfer that has failed, where no mirror runs: the reason is shown and recorded. -/
def Dev.endTransfer (d : Dev) (reason : Nat) : Dev :=
  ((d.dropTransfer.putF PRC.STAT 8 3 0).putF PRC.TRANSFER 8 8 reason).event 0x0A0C [(reason : Int)]

/-- The registers in which a transfer shows. -/
def transferKeys : List Nat := [PRC.STAT, PRC.TRANSFER]

/-- A field that was written with a value it can hold. -/
theorem f_putF_fits (d : Dev) (k : Nat) {lo n v : Nat} (h : lo + n ≤ 32) (hv : v < 2 ^ n) : (d.putF k lo n v).f k lo n = v :=
  (Dev.f_putF_self d k v h).trans (Nat.mod_eq_of_lt hv)

theorem f_event (d : Dev) (code : Nat) (ps : List Int) (k lo n : Nat) : (d.event code ps).f k lo n = d.f k lo n := rfl

section
variable (d : Dev) (reason : Nat)

theorem endTransfer_prc : (d.endTransfer reason).prc = d.dropTransfer.prc := by
  rw [Dev.endTransfer, Dev.event_prc, Dev.putF_prc, Dev.putF_prc]

theorem endTransfer_regsKept : RegsKept transferKeys d (d.endTransfer reason) := by
  have hdrop : RegsKept transferKeys d d.dropTransfer := regsKept_refl
  exact regsKept_put (regsKept_put hdrop _ (by decide)) _ (by decide)

theorem endTransfer_sync : (d.endTransfer reason).f PRC.STAT 8 3 = 0 := by
  rw [Dev.endTransfer, f_event, Dev.f_putF_ne _ _ _ _ _ _ (by decide), f_putF_fits _ _ (by omega) (by omega)]

theorem endTransfer_reason {reason : Nat} (h : reason < 256) : (d.endTransfer reason).f PRC.TRANSFER 8 8 = reason := by
  rw [Dev.endTransfer, f_event, f_putF_fits _ _ (by omega) (by omega)]

theorem endTransfer_records : Records d (d.endTransfer reason) 0x0A0C [(reason : Int)] := rfl

theorem endTransfer_buffer : (d.endTransfer reason).prc.buffer = [] := by
  rw [endTransfer_prc]
  rfl

theorem endTransfer_askAfter : (d.endTransfer reason).prc.askAfter = d.tick + ticksPerSec := by
  rw [endTransfer_prc]
  rfl

end

/-- A joiner whose mirror does not run yet only ends its transfer. -/
theorem transferFail_unmirrored {d : Dev} (c : Cfg) (reason : Nat) (h : d.b SYS.MODE 12 = false) :
    d.transferFail c reason = d.endTransfer reason := by
  have hoff : (d.endTransfer reason).b SYS.MODE 12 = false := (b_of_regsKept (endTransfer_regsKept d reason) (by decide) 12).trans h
  exact if_neg fun hmirror => Bool.false_ne_true (hoff.symm.trans (Bool.and_eq_true_iff.mp hmirror).2)

/-! ### The request (R328) -/

section
variable {s : State} (hpair : s.cfg.pair = true) (hmode : s.dev.mode = 5) (hlink : linkState s.dev = 2)
  (hpartner : partnerCrowned s.dev = true) (hsync : s.dev.f PRC.STAT 8 3 = 0) (hblocked : s.dev.prc.askBlocked = false)
include hpair hmode hlink hpartner hsync hblocked

theorem transferRequest_asks (hlo : s.dev.w PRC.CFG_HASH_LO = s.dev.w PRC.PCFG_HASH_LO)
    (hhi : s.dev.w PRC.CFG_HASH_HI = s.dev.w PRC.PCFG_HASH_HI) :
    let e := s.dev.advanceTo s.dev.prc.askAfter
    exec .transferRequest s = .next { s with
      dev := (({ e with
          prc := { e.prc with transferTick := some e.tick, buffer := [], image := none, level := false, swapMatch := none } }
          : Dev).putF PRC.STAT 8 3 1).putF PRC.TRANSFER 0 8 0 } :=
  next_dev ((if_neg (by simp [pairSync, hpair, hmode, hlink, hpartner, hsync, hblocked])).trans (if_neg (by simp [hlo, hhi])))

/-- Other hashes than the partner's block requests until a commit. -/
theorem transferRequest_config (hlo : s.dev.w PRC.CFG_HASH_LO ≠ s.dev.w PRC.PCFG_HASH_LO) (hmirror : s.dev.b SYS.MODE 12 = false) :
    let e := (s.dev.advanceTo s.dev.prc.askAfter).endTransfer 1
    exec .transferRequest s = .next { s with dev := { e with prc := { e.prc with askBlocked := true } } } := by
  have hfail := transferFail_unmirrored (d := s.dev.advanceTo s.dev.prc.askAfter) s.cfg 1 hmirror
  refine next_dev ((if_neg (by simp [pairSync, hpair, hmode, hlink, hpartner, hsync, hblocked])).trans
    ((if_pos (by simp [hlo])).trans ?_))
  rw [hfail]

end

theorem transferRequest_idle {s : State} (h : s.dev.mode ≠ 5) : exec .transferRequest s = .next s := next_same (if_pos (by simp [h]))

/-! ### The active's image (R329) -/

/-- From `d` to `e` only the units of the pair have changed, and not the image in sending. -/
def LinkOnly (d e : Dev) : Prop := e = { d with prc := e.prc } ∧ e.prc.sending = d.prc.sending

theorem LinkOnly.trans {d e f : Dev} (h : LinkOnly d e) (g : LinkOnly e f) : LinkOnly d f :=
  ⟨by rw [g.1, h.1], g.2.trans h.2⟩

theorem linkPump_linkOnly (n : Nat) (d : Dev) : LinkOnly d (linkPump n d) := by
  refine ⟨linkPump_prc n d, ?_⟩
  induction n generalizing d with
  | zero => rfl
  | succ k ih =>
    unfold linkPump
    dsimp only
    split
    · rfl
    · split
      · rfl
      · exact ih _

theorem linkPush_linkOnly (d : Dev) (rank kind bytes : Nat) : LinkOnly d (d.linkPush rank kind bytes) := by
  unfold Dev.linkPush
  split
  · exact ⟨rfl, rfl⟩
  · exact (linkPump_linkOnly _ d).trans (.trans ⟨rfl, rfl⟩ (linkPump_linkOnly _ _))

theorem linkPushes_linkOnly (d : Dev) (rank kind : Nat) (l : List Nat) :
    LinkOnly d (l.foldl (fun (d : Dev) n => d.linkPush rank kind n) d) :=
  List.foldlRecOn l _ ⟨rfl, rfl⟩ fun _ h n _ => h.trans (linkPush_linkOnly _ rank kind n)

/-- The image is taken and recorded; then it waits for the link. -/
def Dev.takeOwnImage (d : Dev) (c : Cfg) (st : Store) : Dev :=
  ({ d with prc := { d.prc with sending := some (ownImage c st d) } } : Dev).event 0x0A09 [(d.esc.beat : Int)]

theorem transferStart_sends {s : State} (h : journaling s.cfg s.dev = true) :
    exec .transferStart s = .next { s with
      dev := ((imageSizes s.cfg).filter (· != 0)).foldl (fun (d : Dev) n => d.linkPush 2 0x20 n)
        (s.dev.takeOwnImage s.cfg s.store) } := next_dev (if_neg (by simp [h]))

theorem transferStart_idle {s : State} (h : journaling s.cfg s.dev = false) : exec .transferStart s = .next s :=
  next_same (if_pos (by simp [h]))

/-! ### The image is loaded and adopted (R330) -/

/-- With no commit waiting there is none to refuse for its wheel (R514). -/
theorem recheckWheels_none {s : State} (hdue : s.cfg.due = []) (hgroup : s.cfg.group = none) : s.recheckWheels = s := by
  unfold State.recheckWheels
  simp only [hdue, List.filter_nil, List.foldl_nil]
  rw [hgroup]

theorem takeImage_fus (d : Dev) (c : Cfg) (x : StateImage) : (d.takeImage c x).fus = x.fus := by
  refine List.foldlRecOn (motive := fun e : Dev => e.fus = x.fus) x.loops _ rfl fun e he l _ => ?_
  dsimp only
  split
  · exact he
  · exact he

/-- The units under the configuration of an image: its pages committed, its mode mirrored, its units taken. -/
def Dev.loadImage (d : Dev) (old c : Cfg) (x : StateImage) : Dev :=
  let e := ((pages.map (·.base)).filter pageJournaled).foldl (fun (d : Dev) p => d.pageCommitted old c p) d
  (e.mirrorMode c x.mode.toNat 0).takeImage c x

/-- What the catch-up begins with: the image's beat, whose predecessor has the image's digest (log 60). -/
def Dev.holdImage (d : Dev) (x : StateImage) : Dev :=
  { d with prc := { d.prc with
    image := some x, transferTick := none, journalBeat := x.beat - 1, digests := [(x.beat - 1, x.digest)]
    level := false, orphaned := false, catchBeats := 0 } }

/-- The catch-up begins; the transfer took the time since `t0`. -/
def Dev.beginCatchUp (d : Dev) (x : StateImage) (t0 : Nat) : Dev :=
  ((((d.holdImage x).putF PRC.STAT 8 3 2).putF PRC.TRANSFER 0 8 100).putF PRC.TRANSFER 16 16
    (satU 16 ((d.tick - t0) / ticksPerMs))).event 0x0A0A

theorem transferDone_loads {s : State} {t0 : Nat} (x : StateImage) (htick : s.dev.prc.transferTick = some t0) (hmode : s.dev.mode = 5)
    (hsync : s.dev.f PRC.STAT 8 3 = 1) (hdue : s.cfg.due = []) (hgroup : s.cfg.group = none) :
    exec (.transferDone x) s = .next { s with
      cfg := s.cfg.takeImage x, store := s.store.takeState x.memory
      dev := (s.dev.loadImage s.cfg (s.cfg.takeImage x) x).beginCatchUp x t0 } := by
  show execTransferDone x s = _
  unfold execTransferDone
  rw [htick]
  refine congrArg Host.Outcome.next ((if_neg (by simp [hmode, pairSync, hsync])).trans ?_)
  exact recheckWheels_none hdue hgroup

theorem transferDone_idle {s : State} (x : StateImage) (h : s.dev.prc.transferTick = none) : exec (.transferDone x) s = .next s := by
  show execTransferDone x s = _
  unfold execTransferDone
  rw [h]

section
variable (d : Dev) (x : StateImage) (t0 : Nat)

theorem beginCatchUp_prc : (d.beginCatchUp x t0).prc = (d.holdImage x).prc := by
  rw [Dev.beginCatchUp, Dev.event_prc, Dev.putF_prc, Dev.putF_prc, Dev.putF_prc]

theorem beginCatchUp_fus : (d.beginCatchUp x t0).fus = d.fus := by
  rw [Dev.beginCatchUp, Dev.event_fus, Dev.putF_fus, Dev.putF_fus, Dev.putF_fus]
  rfl

theorem beginCatchUp_sync : (d.beginCatchUp x t0).f PRC.STAT 8 3 = 2 := by
  rw [Dev.beginCatchUp, f_event, Dev.f_putF_ne _ _ _ _ _ _ (by decide), Dev.f_putF_ne _ _ _ _ _ _ (by decide),
    f_putF_fits _ _ (by omega) (by omega)]

theorem beginCatchUp_progress : (d.beginCatchUp x t0).f PRC.TRANSFER 0 8 = 100 := by
  rw [Dev.beginCatchUp, f_event, Dev.f_putF_apart _ _ _ (by omega) (by omega), f_putF_fits _ _ (by omega) (by omega)]

end

/-- The first second boundary at or after both the own time and the image's. -/
def adoptTick (d : Dev) (x : StateImage) : Nat := (max d.tick x.tick + ticksPerSec - 1) / ticksPerSec * ticksPerSec

theorem adoptTick_second (d : Dev) (x : StateImage) :
    adoptTick d x % 200000000 = 0 ∧ d.tick ≤ adoptTick d x ∧ x.tick ≤ adoptTick d x := by
  unfold adoptTick ticksPerSec
  omega

/-- Beat number, BEAT_SLIP, epoch and time of an image are adopted. -/
def Dev.adopt (d : Dev) (x : StateImage) : Dev :=
  let t := adoptTick d x
  let e := d.advanceTo t
  (({ e with
    esc := { e.esc with beat := (x.beat + (t - x.tick) / ticksPerMs) % 2 ^ 48, loaded := true, slipLive := true, boundary := t }
    prc := { e.prc with image := none, epoch := x.epoch } } : Dev).put ESC.BEAT_SLIP x.slip).put PRC.EPOCH x.epoch

theorem stateAdopt_adopts {s : State} {x : StateImage} (himage : s.dev.prc.image = some x) (hmode : s.dev.mode = 5)
    (hsync : s.dev.f PRC.STAT 8 3 = 2) : exec .stateAdopt s = .next { s with dev := s.dev.adopt x } := by
  show execStateAdopt s = _
  unfold execStateAdopt
  rw [onDev_eq, himage]
  exact next_dev (if_neg (by simp [hmode, pairSync, hsync]))

theorem stateAdopt_idle {s : State} (h : s.dev.prc.image = none) : exec .stateAdopt s = .next s := by
  show execStateAdopt s = _
  unfold execStateAdopt
  rw [onDev_eq, h]

section
variable (d : Dev) (x : StateImage)

theorem adopt_regsKept : RegsKept [ESC.BEAT_SLIP, PRC.EPOCH] d (d.adopt x) :=
  regsKept_put (regsKept_put regsKept_refl _ (by decide)) _ (by decide)

theorem adopt_w : (d.adopt x).w PRC.EPOCH = x.epoch ∧ (d.adopt x).w ESC.BEAT_SLIP = x.slip :=
  ⟨Dev.w_put_self _ _ _, (Dev.w_put_ne _ _ (by decide)).trans (Dev.w_put_self _ _ _)⟩

theorem adopt_tick : (d.adopt x).tick = adoptTick d x := max_eq_right (adoptTick_second d x).2.1

theorem adopt_beat : (d.adopt x).esc.beat = (x.beat + (adoptTick d x - x.tick) / 200000) % 2 ^ 48 := rfl

end

/-! ### Time limits (R330) -/

theorem transferTimeout_fails {s : State} {t0 : Nat} (hmode : s.dev.mode = 5) (hmirror : s.dev.b SYS.MODE 12 = false)
    (htick : s.dev.prc.transferTick = some t0) (hsync : s.dev.f PRC.STAT 8 3 = 1) :
    exec .transferTimeout s = .next { s with dev := (s.dev.advanceTo (t0 + 100 * ticksPerMs)).endTransfer 2 } := by
  show execTransferTimeout s = _
  unfold execTransferTimeout
  rw [onDev_eq, htick]
  exact next_dev ((if_pos (by simp [hmode, pairSync, hsync])).trans (transferFail_unmirrored _ 2 hmirror))

theorem transferTimeout_idle {s : State} (h : s.dev.mode ≠ 5) : exec .transferTimeout s = .next s := by
  show execTransferTimeout s = _
  unfold execTransferTimeout
  refine next_same ?_
  dsimp only
  split
  · rfl
  · exact if_neg (by simp [h])

theorem catchupTimeout_fails {s : State} (hmode : s.dev.mode = 5) (hmirror : s.dev.b SYS.MODE 12 = false)
    (hsync : s.dev.f PRC.STAT 8 3 = 2) (hbeats : 1000 ≤ s.dev.prc.catchBeats) :
    exec .catchupTimeout s = .next { s with dev := s.dev.endTransfer 4 } :=
  next_dev ((if_pos (by simp [hmode, pairSync, hsync, hbeats])).trans (transferFail_unmirrored _ 4 hmirror))

theorem catchupTimeout_idle {s : State} (h : s.dev.mode ≠ 5 ∨ s.dev.prc.catchBeats < 1000) : exec .catchupTimeout s = .next s :=
  next_same (if_neg (by rcases h with h | h <;> simp [h]))

/-! ### Blocks (R324, R330) -/

theorem keepEpoch_regsKept (d : Dev) (e : Word) : RegsKept [PRC.EPOCH_MAX] d (d.keepEpoch e) := fun _ hk =>
  w_keepEpoch_ne d e (by simpa using hk)

/-- A module without the crown that meets an epoch keeps its pair logic and every register but EPOCH_MAX. -/
theorem meetEpoch_kept {d : Dev} (c : Cfg) (e : Word) (h : d.crown = false) :
    (d.meetEpoch c e).prc = d.prc ∧ RegsKept [PRC.EPOCH_MAX] d (d.meetEpoch c e) := by
  rw [meetEpoch_uncrowned c e h]
  exact ⟨keepEpoch_prc d e, keepEpoch_regsKept d e⟩

section
variable {s : State} {b : JournalBlock} (hpair : s.cfg.pair = true) (hcrown : s.dev.crown = false)
include hpair hcrown

/-- A block that comes during the transfer waits for the image. -/
theorem journalBlockReceived_buffered (hmode : s.dev.mode = 5) (hsync : s.dev.f PRC.STAT 8 3 = 1)
    (hroom : s.dev.prc.buffer.length < 256) :
    let e := s.dev.meetEpoch s.cfg b.epoch
    exec (.journalBlockReceived b) s = .next { s with dev := { e with prc := { e.prc with buffer := e.prc.buffer ++ [b] } } } := by
  obtain ⟨hprc, hkept⟩ := meetEpoch_kept s.cfg b.epoch hcrown
  have hm : (s.dev.meetEpoch s.cfg b.epoch).mode = 5 := (regsKept_mode hkept (by decide)).trans hmode
  have hs : pairSync (s.dev.meetEpoch s.cfg b.epoch) = 1 := by rw [pairSync, Dev.f, hkept _ (by decide), ← Dev.f, hsync]
  have hc : (s.dev.meetEpoch s.cfg b.epoch).crown = false := by rw [Dev.crown, hprc, ← Dev.crown, hcrown]
  refine congrArg Host.Outcome.next ((if_neg (by simp [hpair])).trans ((if_neg (by simp [hcrown, hmode])).trans
    ((if_neg (by simp [hc])).trans ((if_neg (by omega)).trans ((if_neg (by simp [hm])).trans ((if_neg (by omega)).trans
    ((if_pos (by simp [hs])).trans (if_pos ?_))))))))
  rw [hprc]
  exact hroom

variable (hmode : s.dev.mode = 4) (hepoch : 0 ≤ seqDiff 32 b.epoch.toNat s.dev.prc.epoch.toNat)
include hmode hepoch

/-- A standby runs a good block of a later beat than the last it ran, and no other. -/
theorem journalBlockReceived_standby :
    exec (.journalBlockReceived b) s = .next (if blockGood b && decide (s.dev.prc.journalBeat < b.beat) then
      ({ s with dev := s.dev.meetEpoch s.cfg b.epoch } : State).runBlock b else { s with dev := s.dev.meetEpoch s.cfg b.epoch }) := by
  obtain ⟨hprc, hkept⟩ := meetEpoch_kept s.cfg b.epoch hcrown
  have hm : (s.dev.meetEpoch s.cfg b.epoch).mode = 4 := (regsKept_mode hkept (by decide)).trans hmode
  have hc : (s.dev.meetEpoch s.cfg b.epoch).crown = false := by rw [Dev.crown, hprc, ← Dev.crown, hcrown]
  rw [← hprc]
  exact congrArg Host.Outcome.next ((if_neg (by simp [hpair])).trans ((if_neg (by simp [Int.not_lt.mpr hepoch])).trans
    ((if_neg (by simp [hc])).trans (if_pos hm))))

end

/-! ### A beat without a block (R324) -/

/-- The orphaned beat is recorded and counted, 200 microseconds after the boundary that ended it. -/
def Dev.countOrphan (d : Dev) : Dev :=
  ((d.advanceTo (d.esc.boundary + 200 * ticksPerUs)).event 0x0A13 [((d.esc.beat - 1 : Nat) : Int)]).bump PRC.ORPHAN_CNT

/-- The beat that ended is run, without the partner's journal. -/
def Dev.markOrphan (d : Dev) : Dev := { d with prc := { d.prc with orphaned := true, journalBeat := d.esc.beat - 1 } }

@[simp] theorem w_markOrphan (d : Dev) (k : Nat) : d.markOrphan.w k = d.w k := rfl

/-- The own captures of the beat that ended (R324). -/
def endedCaptures (d : Dev) : List Item := ((d.prc.captures.find? (fun e => e.1 = d.esc.beat - 1)).map (·.2)).getD []

/-- An orphaned beat is run on own captures, those of gated sources left out (R428). -/
def Dev.orphan (d : Dev) (c : Cfg) (own : List Item) : Dev :=
  ((d.countOrphan.sat NYM.GATED_CNT 0 32 (own.filter (fun i => gatedSource c d.countOrphan i.source)).length).markOrphan).deliver c
    (own.filter (fun i => !gatedSource c d.countOrphan i.source))

theorem w_sat_zero (d : Dev) (k j : Nat) : (d.sat k 0 32 0).w j = d.w j := by
  by_cases h : j = k
  · subst h
    have hfld : fld (d.w j) 0 32 = (d.w j).toNat := by
      rw [fld, pow_zero, Nat.div_one]
      exact Nat.mod_eq_of_lt (d.w j).isLt
    have hw : (d.w j).toNat < 2 ^ 32 := (d.w j).isLt
    refine BitVec.eq_of_toNat_eq ?_
    rw [Dev.sat, Dev.w_putF_self, toNat_setFld _ _ (by omega), Dev.f, hfld, satU]
    omega
  · exact Dev.w_putF_ne _ _ _ _ h

section
variable (d : Dev) (c : Cfg)

/-- Without captures there is nothing to gate and nothing to deliver. -/
theorem orphan_none : d.orphan c [] = (d.countOrphan.sat NYM.GATED_CNT 0 32 0).markOrphan := rfl

theorem orphan_w (k : Nat) : (d.orphan c []).w k = d.countOrphan.w k := by rw [orphan_none, w_markOrphan, w_sat_zero]

theorem orphan_regsKept : RegsKept [PRC.ORPHAN_CNT] d (d.orphan c []) := fun k hk => by
  rw [orphan_w, Dev.countOrphan, Dev.w_bump_ne _ (by simpa using hk), Dev.w_event, Dev.w_advanceTo]

theorem orphan_count : ((d.orphan c []).w PRC.ORPHAN_CNT).toNat = min 0xFFFFFFFF ((d.w PRC.ORPHAN_CNT).toNat + 1) := by
  rw [orphan_w, Dev.countOrphan, Dev.bump_toNat, Dev.w_event, Dev.w_advanceTo]

theorem orphan_tick : (d.orphan c []).tick = (d.advanceTo (d.esc.boundary + 200 * ticksPerUs)).tick := by
  have hmark : (d.orphan c []).tick = (d.countOrphan.sat NYM.GATED_CNT 0 32 0).tick := rfl
  rw [hmark, Dev.sat_tick, Dev.countOrphan, Dev.bump_tick, Dev.event_tick]

theorem orphan_records :
    Records (d.advanceTo (d.esc.boundary + 200 * ticksPerUs)) (d.orphan c []) 0x0A13 [((d.esc.beat - 1 : Nat) : Int)] := by
  have hmark : (d.orphan c []).occ = (d.countOrphan.sat NYM.GATED_CNT 0 32 0).occ := rfl
  rw [Records, hmark, Dev.sat_occ, Dev.countOrphan, Dev.bump_occ, Dev.event_occ]

theorem orphan_marks : (d.orphan c []).prc.orphaned = true ∧ (d.orphan c []).prc.journalBeat = d.esc.beat - 1 := ⟨rfl, rfl⟩

end

/-- The digest of beat `n`, which will not be compared, joins the chain. -/
def Dev.joinDigest (d : Dev) (n : Nat) (l : List (Nat × BitVec 128)) : Dev :=
  { d with prc := { d.prc with digests := l, compared := n } }

section
variable (d : Dev) (n : Nat) (l : List (Nat × BitVec 128))

@[simp] theorem w_joinDigest (k : Nat) : (d.joinDigest n l).w k = d.w k := rfl
@[simp] theorem joinDigest_tick : (d.joinDigest n l).tick = d.tick := rfl
@[simp] theorem joinDigest_occ : (d.joinDigest n l).occ = d.occ := rfl

end

theorem formDigest_joins (d : Dev) (c : Cfg) (st : Store) (n : Nat) (rs : List JournalRecord) :
    ∃ l, d.formDigest c st n rs false = d.joinDigest n l := ⟨_, rfl⟩

theorem orphanBeat_runs {s : State} (hpair : s.cfg.pair = true) (hcrown : s.dev.crown = false)
    (hlate : s.dev.prc.journalBeat < s.dev.esc.beat - 1) (hmode : s.dev.mode = 4) :
    exec .orphanBeat s = .next { s with
      dev := (s.dev.orphan s.cfg (endedCaptures s.dev)).formDigest s.cfg s.store (s.dev.esc.beat - 1) [] false } :=
  congrArg Host.Outcome.next ((if_neg (by simp [hpair, hcrown, Nat.not_le.mpr hlate])).trans (if_pos hmode))

theorem orphanBeat_idle {s : State} (h : s.dev.crown = true) : exec .orphanBeat s = .next s :=
  congrArg Host.Outcome.next (if_pos (by simp [h]))

/-! ### A digest that does not come (R327) -/

/-- A mismatch is counted and recorded. -/
def Dev.countMismatch (d : Dev) (n : Nat) : Dev := (d.bump PRC.MISMATCH_CNT).event 0x0A08 [(n : Int)]

/-- A standby that leaves its mode has no orphaned beat to answer for (R324). -/
def Dev.forgetOrphan (d : Dev) : Dev := { d with prc := { d.prc with orphaned := false } }

/-- A standby loses step: DIVERGED is shown and wanted. -/
def Dev.loseStep (d : Dev) : Dev := (d.forgetOrphan.putF PRC.STAT 8 3 5).want 7 5

theorem diverge_standby {d : Dev} (h : d.mode = 4) : d.diverge = d.loseStep := if_pos h

/-- Wanting a transition is in the mode logic alone (R41). -/
theorem want_modes (d : Dev) (cause target : Nat) : d.want cause target = { d with modes := (d.want cause target).modes } := by
  unfold Dev.want
  split <;> rfl

@[simp] theorem want_prc (d : Dev) (cause target : Nat) : (d.want cause target).prc = d.prc := by rw [want_modes]
@[simp] theorem want_occ (d : Dev) (cause target : Nat) : (d.want cause target).occ = d.occ := by rw [want_modes]
@[simp] theorem want_tick (d : Dev) (cause target : Nat) : (d.want cause target).tick = d.tick := by rw [want_modes]
@[simp] theorem w_want (d : Dev) (cause target k : Nat) : (d.want cause target).w k = d.w k := by rw [want_modes]; rfl

theorem digestTimeout_diverges {s : State} {n : BitVec 48} (hpair : s.cfg.pair = true) (hcrown : s.dev.crown = false)
    (hnone : s.dev.prc.digests.any (fun e => e.1 = n.toNat) = false) (hmode : s.dev.mode = 4) :
    exec (.digestTimeout n) s = .next { s with dev := (s.dev.countMismatch n.toNat).loseStep } := by
  have hstays : (s.dev.countMismatch n.toNat).mode = 4 := by
    rw [Dev.countMismatch, Dev.mode_event, Dev.bump, Dev.sat, Dev.mode_putF _ _ _ _ (by decide), hmode]
  exact next_dev ((if_neg (by simp [hpair, hcrown, hnone])).trans ((if_pos hmode).trans (diverge_standby hstays)))

section
variable (d : Dev) (n : Nat)

theorem lostStep_regsKept : RegsKept [PRC.MISMATCH_CNT, PRC.STAT] d (d.countMismatch n).loseStep := by
  have hcount : RegsKept [PRC.MISMATCH_CNT, PRC.STAT] d (d.countMismatch n).forgetOrphan := regsKept_put regsKept_refl _ (by decide)
  intro k hk
  rw [Dev.loseStep, w_want]
  exact regsKept_put hcount _ (by decide) k hk

theorem lostStep_count : ((d.countMismatch n).loseStep.w PRC.MISMATCH_CNT).toNat = min 0xFFFFFFFF ((d.w PRC.MISMATCH_CNT).toNat + 1) := by
  have hcount : (d.countMismatch n).forgetOrphan.w PRC.MISMATCH_CNT = (d.bump PRC.MISMATCH_CNT).w PRC.MISMATCH_CNT := rfl
  rw [Dev.loseStep, w_want, Dev.w_putF_ne _ _ _ _ (by decide), hcount, Dev.bump_toNat]

theorem lostStep_sync : (d.countMismatch n).loseStep.f PRC.STAT 8 3 = 5 := by
  rw [Dev.loseStep, Dev.f, w_want, ← Dev.f, f_putF_fits _ _ (by omega) (by omega)]

theorem lostStep_wanted (h : d.modes.wanted = []) : (d.countMismatch n).loseStep.modes.wanted = [⟨7, 5⟩] := by
  have hmodes : (d.countMismatch n).forgetOrphan.modes = (d.bump PRC.MISMATCH_CNT).modes := rfl
  refine want_first ?_ 7 5
  rw [Dev.putF_modes, hmodes, Dev.bump_modes, h]

theorem lostStep_records : Records d (d.countMismatch n).loseStep 0x0A08 [(n : Int)] := by
  have hocc : (d.countMismatch n).forgetOrphan.occ = ((d.bump PRC.MISMATCH_CNT).event 0x0A08 [(n : Int)]).occ := rfl
  rw [Records, Dev.loseStep, want_occ, Dev.putF_occ, hocc, Dev.event_occ, Dev.bump_occ, Dev.bump_tick]
  rfl

end

/-! ### What the commands show -/

section
variable {s : State}

theorem transferRequest_config_shows (hpair : s.cfg.pair = true) (hmode : s.dev.mode = 5) (hlink : linkState s.dev = 2)
    (hpartner : partnerCrowned s.dev = true) (hsync : s.dev.f PRC.STAT 8 3 = 0) (hblocked : s.dev.prc.askBlocked = false)
    (hlo : s.dev.w PRC.CFG_HASH_LO ≠ s.dev.w PRC.PCFG_HASH_LO) (hmirror : s.dev.b SYS.MODE 12 = false) :
    let e := s.dev.advanceTo s.dev.prc.askAfter
    ∃ t, exec .transferRequest s = .next t ∧ UnitsOnly s t ∧ RegsKept transferKeys s.dev t.dev ∧ t.dev.f PRC.TRANSFER 8 8 = 1
      ∧ t.dev.prc.askBlocked = true ∧ t.dev.prc.askAfter = e.tick + ticksPerSec ∧ Records e t.dev 0x0A0C [1] := by
  intro e
  refine ⟨_, transferRequest_config hpair hmode hlink hpartner hsync hblocked hlo hmirror, rfl, ?_, ?_, rfl, ?_, ?_⟩
  · exact regsKept_congr (endTransfer_regsKept e 1) rfl
  · exact endTransfer_reason e (by decide)
  · exact endTransfer_askAfter e 1
  · exact endTransfer_records e 1

theorem transferStart_shows (h : journaling s.cfg s.dev = true) :
    ∃ t, exec .transferStart s = .next t ∧ UnitsOnly s t ∧ t.dev = { s.dev with occ := t.dev.occ, prc := t.dev.prc }
      ∧ t.dev.prc.sending = some (ownImage s.cfg s.store s.dev) ∧ Records s.dev t.dev 0x0A09 [(s.dev.esc.beat : Int)] := by
  obtain ⟨hsent, hsending⟩ := linkPushes_linkOnly (s.dev.takeOwnImage s.cfg s.store) 2 0x20 ((imageSizes s.cfg).filter (· != 0))
  refine ⟨_, transferStart_sends h, rfl, ?_, hsending, ?_⟩
  · rw [hsent]
    rfl
  · rw [Records, hsent]
    rfl

theorem transferDone_shows {t0 : Nat} (x : StateImage) (htick : s.dev.prc.transferTick = some t0) (hmode : s.dev.mode = 5)
    (hsync : s.dev.f PRC.STAT 8 3 = 1) (hdue : s.cfg.due = []) (hgroup : s.cfg.group = none) :
    ∃ t, exec (.transferDone x) s = .next t ∧ t.bus = s.bus ∧ t.pending = s.pending ∧ t.store = s.store.takeState x.memory
      ∧ t.cfg = s.cfg.takeImage x ∧ t.dev.f PRC.STAT 8 3 = 2 ∧ t.dev.f PRC.TRANSFER 0 8 = 100 ∧ t.dev.prc.image = some x
      ∧ t.dev.prc.digests = [(x.beat - 1, x.digest)] ∧ t.dev.prc.transferTick = none ∧ t.dev.fus = x.fus := by
  refine ⟨_, transferDone_loads x htick hmode hsync hdue hgroup, rfl, rfl, rfl, rfl, beginCatchUp_sync _ _ _,
    beginCatchUp_progress _ _ _, ?_, ?_, ?_, ?_⟩
  · rw [beginCatchUp_prc, Dev.holdImage]
  · rw [beginCatchUp_prc, Dev.holdImage]
  · rw [beginCatchUp_prc, Dev.holdImage]
  · rw [beginCatchUp_fus, Dev.loadImage, takeImage_fus]

theorem stateAdopt_shows {x : StateImage} (himage : s.dev.prc.image = some x) (hmode : s.dev.mode = 5)
    (hsync : s.dev.f PRC.STAT 8 3 = 2) :
    ∃ t, exec .stateAdopt s = .next t ∧ UnitsOnly s t ∧ RegsKept [ESC.BEAT_SLIP, PRC.EPOCH] s.dev t.dev
      ∧ t.dev.w PRC.EPOCH = x.epoch ∧ t.dev.prc.epoch = x.epoch ∧ t.dev.w ESC.BEAT_SLIP = x.slip ∧ t.dev.prc.image = none
      ∧ t.dev.tick % 200000000 = 0 ∧ s.dev.tick ≤ t.dev.tick ∧ x.tick ≤ t.dev.tick
      ∧ t.dev.esc.beat = (x.beat + (t.dev.tick - x.tick) / 200000) % 2 ^ 48 := by
  obtain ⟨hepoch, hslip⟩ := adopt_w s.dev x
  obtain ⟨hsec, hown, himg⟩ := adoptTick_second s.dev x
  refine ⟨_, stateAdopt_adopts himage hmode hsync, rfl, adopt_regsKept _ _, hepoch, rfl, hslip, rfl, ?_⟩
  rw [adopt_tick]
  exact ⟨hsec, hown, himg, adopt_beat _ _⟩

theorem orphanBeat_shows (hpair : s.cfg.pair = true) (hcrown : s.dev.crown = false)
    (hlate : s.dev.prc.journalBeat < s.dev.esc.beat - 1) (hmode : s.dev.mode = 4) (hnone : s.dev.prc.captures = []) :
    let e := s.dev.advanceTo (s.dev.esc.boundary + 200 * ticksPerUs)
    ∃ t, exec .orphanBeat s = .next t ∧ UnitsOnly s t ∧ RegsKept [PRC.ORPHAN_CNT] s.dev t.dev
      ∧ (t.dev.w PRC.ORPHAN_CNT).toNat = min 0xFFFFFFFF ((s.dev.w PRC.ORPHAN_CNT).toNat + 1)
      ∧ t.dev.prc.orphaned = true ∧ t.dev.prc.journalBeat = s.dev.esc.beat - 1 ∧ t.dev.tick = e.tick
      ∧ Records e t.dev 0x0A13 [((s.dev.esc.beat - 1 : Nat) : Int)] := by
  intro e
  obtain ⟨l, hdigest⟩ := formDigest_joins (s.dev.orphan s.cfg []) s.cfg s.store (s.dev.esc.beat - 1) []
  obtain ⟨horphaned, hjournal⟩ := orphan_marks s.dev s.cfg
  have hrun := orphanBeat_runs hpair hcrown hlate hmode
  have hown : endedCaptures s.dev = [] := by rw [endedCaptures, hnone]; rfl
  rw [hown, hdigest] at hrun
  refine ⟨_, hrun, rfl, fun k hk => ?_, ?_, horphaned, hjournal, ?_, ?_⟩
  · rw [w_joinDigest, orphan_regsKept _ _ k hk]
  · rw [w_joinDigest, orphan_count]
  · rw [joinDigest_tick, orphan_tick]
  · rw [Records, joinDigest_occ, orphan_records]

theorem transferTimeout_shows {t0 : Nat} (hmode : s.dev.mode = 5) (hmirror : s.dev.b SYS.MODE 12 = false)
    (htick : s.dev.prc.transferTick = some t0) (hsync : s.dev.f PRC.STAT 8 3 = 1) :
    ∃ t, exec .transferTimeout s = .next t ∧ UnitsOnly s t ∧ RegsKept transferKeys s.dev t.dev
      ∧ t.dev.f PRC.TRANSFER 8 8 = 2 ∧ t.dev.f PRC.STAT 8 3 = 0 ∧ t.dev.prc.buffer = []
      ∧ Records (s.dev.advanceTo (t0 + 100 * ticksPerMs)) t.dev 0x0A0C [2] :=
  ⟨_, transferTimeout_fails hmode hmirror htick hsync, rfl, endTransfer_regsKept (s.dev.advanceTo _) _,
    endTransfer_reason _ (by decide), endTransfer_sync _ _, endTransfer_buffer _ _, endTransfer_records _ 2⟩

theorem catchupTimeout_shows (hmode : s.dev.mode = 5) (hmirror : s.dev.b SYS.MODE 12 = false)
    (hsync : s.dev.f PRC.STAT 8 3 = 2) (hbeats : 1000 ≤ s.dev.prc.catchBeats) :
    ∃ t, exec .catchupTimeout s = .next t ∧ UnitsOnly s t ∧ RegsKept transferKeys s.dev t.dev
      ∧ t.dev.f PRC.TRANSFER 8 8 = 4 ∧ t.dev.f PRC.STAT 8 3 = 0 ∧ t.dev.prc.buffer = [] ∧ Records s.dev t.dev 0x0A0C [4] :=
  ⟨_, catchupTimeout_fails hmode hmirror hsync hbeats, rfl, endTransfer_regsKept _ _, endTransfer_reason _ (by decide),
    endTransfer_sync _ _, endTransfer_buffer _ _, endTransfer_records _ 4⟩

end

/-- Settles O53: the request and its failures, the image sent, loaded and adopted, the blocks, the beat without one, the digest that
does not come. -/
theorem joining : Obligations.Joining := by
  refine ⟨fun s hpair hmode hlink hpartner hsync hblocked =>
      ⟨transferRequest_asks hpair hmode hlink hpartner hsync hblocked,
        transferRequest_config_shows hpair hmode hlink hpartner hsync hblocked⟩,
    fun s h => ⟨transferRequest_idle h, transferTimeout_idle h, catchupTimeout_idle (.inl h)⟩, fun s => transferStart_shows,
    fun s => transferStart_idle, fun s x t0 => transferDone_shows x, fun s x => transferDone_idle x, fun s x => stateAdopt_shows,
    fun s => stateAdopt_idle, fun s t0 => transferTimeout_shows, fun s => catchupTimeout_shows,
    fun s h => catchupTimeout_idle (.inr h), fun s b hpair hcrown hmode hsync hroom => ?buffered,
    fun s b hpair hcrown hmode hepoch => ⟨fun hbad => ?bad, fun hgood hlater => ?good⟩,
    fun s => orphanBeat_shows, fun s => orphanBeat_idle, fun s n hpair hcrown hnone hmode hwanted => ?digest⟩
  case buffered =>
    obtain ⟨hprc, hkept⟩ := meetEpoch_kept s.cfg b.epoch hcrown
    exact ⟨_, journalBlockReceived_buffered hpair hcrown hmode hsync hroom, rfl, hkept, by rw [hprc]⟩
  case bad =>
    obtain ⟨hprc, hkept⟩ := meetEpoch_kept s.cfg b.epoch hcrown
    have hrefused := journalBlockReceived_standby hpair hcrown hmode hepoch
    rw [if_neg (by simp [blockGood, hbad])] at hrefused
    exact ⟨_, hrefused, rfl, hkept, by rw [hprc]⟩
  case good =>
    have hrun := journalBlockReceived_standby hpair hcrown hmode hepoch
    rw [if_pos (by simp [hgood, hlater])] at hrun
    exact hrun
  case digest =>
    exact ⟨_, digestTimeout_diverges hpair hcrown hnone hmode, rfl, lostStep_regsKept _ _, lostStep_count _ _, lostStep_sync _ _,
      lostStep_wanted _ _ hwanted, lostStep_records _ _⟩

end Sys2Proof.Machine
end

section
/-! SUPPORT. The crown latch as it is set and cleared, and the commands of crown and seize lines, takeover, failure and swap. -/
namespace Sys2Proof.Machine

/-! ### What follows the latch leaves the pair logic alone (R336, R438) -/

/-- Registers that a change of the latch is read from: PRC.STAT, the epoch, the takeover beat, CMD_RES, the watchdog's status. -/
def latchKeys : List Nat := [PRC.STAT, PRC.EPOCH, PRC.TAKEOVER_BEAT, PRC.CMD_RES, FIO.WDG_STAT]

/-- From `d` to `e` neither the pair logic nor one of these registers has changed. -/
structure LatchKept (d e : Dev) : Prop where
  prc : e.prc = d.prc
  regs : ∀ k ∈ latchKeys, e.w k = d.w k

namespace LatchKept

variable {d e f : Dev}

theorem refl (d : Dev) : LatchKept d d := ⟨rfl, fun _ _ => rfl⟩

theorem trans (h : LatchKept d e) (g : LatchKept e f) : LatchKept d f :=
  ⟨g.prc.trans h.prc, fun k hk => (g.regs k hk).trans (h.regs k hk)⟩

theorem put (h : LatchKept d e) {k : Nat} {v : Word} (hk : k ∉ latchKeys) : LatchKept d (e.put k v) :=
  h.trans ⟨rfl, fun _ hj => Dev.w_put_ne e v (ne_of_mem_of_not_mem hj hk)⟩

theorem putF (h : LatchKept d e) {k lo n v : Nat} (hk : k ∉ latchKeys) : LatchKept d (e.putF k lo n v) := h.put hk
theorem putB (h : LatchKept d e) {k i : Nat} {b : Bool} (hk : k ∉ latchKeys) : LatchKept d (e.putB k i b) := h.put hk

/-- A change of the other units or of the occurrences. -/
theorem other (h : LatchKept d e) (hprc : f.prc = e.prc := by rfl) (hregs : f.regs = e.regs := by rfl) : LatchKept d f :=
  h.trans ⟨hprc, fun k _ => by rw [Dev.w, Dev.w, hregs]⟩

theorem foldl {α : Type} {g : Dev → α → Dev} {l : List α} (h : LatchKept d e) (hg : ∀ e, ∀ a ∈ l, LatchKept e (g e a)) :
    LatchKept d (l.foldl g e) := List.foldlRecOn l g h fun e he a ha => he.trans (hg e a ha)

end LatchKept

theorem mem_latchKeys {k : Nat} :
    k ∈ latchKeys ↔ k = 0x40009104 ∨ k = 0x40009108 ∨ k = 0x40009140 ∨ k = 0x4000913C ∨ k = 0x40073108 := by
  simp [latchKeys, PRC.STAT, PRC.EPOCH, PRC.TAKEOVER_BEAT, PRC.CMD_RES, FIO.WDG_STAT]

theorem outStat_notMem_latchKeys {k : Nat} (h : k < 16) : FIO.OUT_STAT k ∉ latchKeys := by
  rw [mem_latchKeys, FIO.OUT_STAT]
  omega

theorem aoutStat_notMem_latchKeys (o : Nat) : ANU.AOUT_STAT o ∉ latchKeys := by
  rw [mem_latchKeys, ANU.AOUT_STAT]
  omega

theorem canStat_notMem_latchKeys (n : Nat) : CAN.STAT n ∉ latchKeys := by
  rw [mem_latchKeys, CAN.STAT]
  omega

theorem ethStat_notMem_latchKeys (n : Nat) : ETH.STAT n ∉ latchKeys := by
  rw [mem_latchKeys, ETH.STAT]
  omega

section
variable (d : Dev) (c : Cfg) (slow : Bool)

theorem showOut_latchKept (lead : Nat) {k : Nat} (h : k < 16) : LatchKept d (d.showOut c lead k) :=
  .putB (.putB (.put (.refl d) (outStat_notMem_latchKeys h)) (by decide)) (by decide)

theorem outMembers_lt {lead k : Nat} (h : k ∈ outMembers c lead) : k < 16 := List.mem_range.mp (List.mem_filter.mp h).1

theorem driveGroup_latchKept (lead : Nat) : LatchKept d (d.driveGroup c slow lead) := by
  unfold Dev.driveGroup
  extract_lets o want fast next e
  exact .foldl (.other (.refl d)) fun e k hk => showOut_latchKept e c lead (outMembers_lt c hk)

theorem driveOutputs_latchKept : LatchKept d (d.driveOutputs c slow) :=
  .foldl (.refl d) fun e k _ => driveGroup_latchKept e c slow k

theorem driveAouts_latchKept : LatchKept d (d.driveAouts c) := by
  refine .foldl (.refl d) fun e o _ => ?_
  extract_lets x hold zero next f
  exact .putB (.putF (.other (.refl e)) (aoutStat_notMem_latchKeys o)) (aoutStat_notMem_latchKeys o)

theorem driveField_latchKept : LatchKept d (d.driveField c slow) :=
  (driveOutputs_latchKept d c slow).trans (driveAouts_latchKept _ c)

theorem ptpStates_latchKept : LatchKept d (d.ptpStates c) := by
  refine .foldl (.refl d) fun e n _ => ?_
  dsimp only
  split
  · exact .refl e
  · exact .other (.putF (.refl e) (ethStat_notMem_latchKeys n))

/-- Beside the crown bit of PRC.STAT what follows the latch is neither pair logic nor one of these registers. -/
theorem crownFollows_latchKept : LatchKept (d.putB PRC.STAT 4 d.crown) (d.crownFollows c slow) := by
  unfold Dev.crownFollows
  refine .trans (.trans (.foldl (.putB (.refl _) (by decide)) fun e n _ => ?_) (ptpStates_latchKept _ c)) (driveField_latchKept _ c slow)
  exact .putB (.refl e) (canStat_notMem_latchKeys n)

theorem crownFollows_prc : (d.crownFollows c slow).prc = d.prc := (crownFollows_latchKept d c slow).prc

theorem crownFollows_stat : (d.crownFollows c slow).w PRC.STAT = setBit (d.w PRC.STAT) 4 d.crown :=
  ((crownFollows_latchKept d c slow).regs _ (by decide)).trans (Dev.w_putB_self _ _ _ _)

theorem crownFollows_w {k : Nat} (hk : k ∈ latchKeys) (hne : k ≠ PRC.STAT) : (d.crownFollows c slow).w k = d.w k :=
  ((crownFollows_latchKept d c slow).regs k hk).trans (Dev.w_putB_ne _ _ _ hne)

end

/-! ### The latch is cleared (R336, R438) -/

/-- The latch itself, and the watchdog's arming. -/
def Dev.clearLatch (d : Dev) : Dev := { d with prc := { d.prc with latch := false } }.putB FIO.WDG_STAT 0 false

section
variable {d : Dev} (c : Cfg) (slow : Bool) (h : d.crown = true)
include h

theorem dropCrown_crowned : d.dropCrown c slow = d.clearLatch.crownFollows c slow := if_neg (by simp [h])

theorem dropCrown_prc : (d.dropCrown c slow).prc = { d.prc with latch := false } := by
  rw [dropCrown_crowned c slow h, crownFollows_prc]
  rfl

theorem dropCrown_crown : (d.dropCrown c slow).crown = false := by rw [Dev.crown, dropCrown_prc c slow h]

theorem dropCrown_stat : (d.dropCrown c slow).w PRC.STAT = setBit (d.w PRC.STAT) 4 false := by
  have hlatch : d.clearLatch.crown = false := rfl
  rw [dropCrown_crowned c slow h, crownFollows_stat, hlatch, Dev.clearLatch, Dev.w_putB_ne _ _ _ (by decide)]
  rfl

theorem dropCrown_watchdog : (d.dropCrown c slow).b FIO.WDG_STAT 0 = false := by
  rw [dropCrown_crowned c slow h, Dev.b, crownFollows_w _ _ _ (by decide) (by decide)]
  exact Dev.b_putB_self _ _ _ (by omega)

theorem dropCrown_w {k : Nat} (hk : k ∈ latchKeys) (hne : k ≠ PRC.STAT) (hwdg : k ≠ FIO.WDG_STAT) :
    (d.dropCrown c slow).w k = d.w k := by
  rw [dropCrown_crowned c slow h, crownFollows_w _ _ _ hk hne]
  exact Dev.w_putB_ne _ _ _ hwdg

end

/-- The want of a crown is in the mode logic alone (R38). -/
theorem crownLost_modes (d : Dev) : d.crownLost = { d with modes := d.crownLost.modes } := by
  unfold Dev.crownLost
  split
  · rw [want_modes]
  · rfl

@[simp] theorem crownLost_prc (d : Dev) : d.crownLost.prc = d.prc := by rw [crownLost_modes]
@[simp] theorem crownLost_occ (d : Dev) : d.crownLost.occ = d.occ := by rw [crownLost_modes]
@[simp] theorem w_crownLost (d : Dev) (k : Nat) : d.crownLost.w k = d.w k := by rw [crownLost_modes]; rfl

/-! ### The latch is set (R340, R343, R345, R438) -/

/-- A new epoch begins with the latch: every connection is to resynchronise, the watchdog counts from now. -/
def Dev.enterEpoch (d : Dev) : Dev := { d with
  prc := { d.prc with epoch := nextEpoch d, latch := true, latchTick := d.tick, fail := false }
  sfm := { d.sfm with
    conns := (List.range 32).foldl (fun l k => Assoc.set {} l k { (Assoc.get {} l k : ConnDev) with resync := true }) d.sfm.conns }
  field := { d.field with silent := false, fedTick := d.tick } }

/-- The registers that show it: epoch, takeover beat, the watchdog armed as it is configured. -/
def Dev.showEpoch (d : Dev) (c : Cfg) (e : Word) : Dev :=
  let f := (d.put PRC.EPOCH e).putN PRC.TAKEOVER_BEAT (d.esc.beat % 2 ^ 32)
  f.put FIO.WDG_STAT (wd (0x3A5C * 2 ^ 16 + f.f FIO.WDG_STAT 0 3 / 2 * 2 + (c.b FIO.WDG_CFG 0).toNat))

theorem takeCrown_eq (d : Dev) (c : Cfg) : d.takeCrown c = (d.enterEpoch.showEpoch c (nextEpoch d)).crownFollows c false := rfl

section
variable (d : Dev) (c : Cfg)

theorem showEpoch_prc (e : Word) : (d.showEpoch c e).prc = d.prc := by
  rw [Dev.showEpoch, Dev.put_prc, Dev.putN_prc, Dev.put_prc]

theorem takeCrown_prc :
    (d.takeCrown c).prc = { d.prc with epoch := nextEpoch d, latch := true, latchTick := d.tick, fail := false } := by
  rw [takeCrown_eq, crownFollows_prc, showEpoch_prc]
  rfl

theorem takeCrown_stat : (d.takeCrown c).w PRC.STAT = setBit (d.w PRC.STAT) 4 true := by
  have hlatch : (d.enterEpoch.showEpoch c (nextEpoch d)).crown = true := by
    rw [Dev.crown, showEpoch_prc]
    rfl
  rw [takeCrown_eq, crownFollows_stat, hlatch, Dev.showEpoch, Dev.w_put_ne _ _ (by decide), Dev.w_putN_ne _ _ (by decide),
    Dev.w_put_ne _ _ (by decide)]
  rfl

theorem takeCrown_epoch : (d.takeCrown c).w PRC.EPOCH = nextEpoch d := by
  rw [takeCrown_eq, crownFollows_w _ _ _ (by decide) (by decide), Dev.showEpoch, Dev.w_put_ne _ _ (by decide),
    Dev.w_putN_ne _ _ (by decide), Dev.w_put_self]

theorem takeCrown_takeoverBeat : (d.takeCrown c).w PRC.TAKEOVER_BEAT = wd (d.esc.beat % 2 ^ 32) := by
  rw [takeCrown_eq, crownFollows_w _ _ _ (by decide) (by decide), Dev.showEpoch, Dev.w_put_ne _ _ (by decide), Dev.w_putN_self]
  rfl

theorem takeCrown_tick : (d.takeCrown c).tick = d.tick := by
  rw [takeCrown_eq, (crownFollows_edgeKept _ c false).tick, Dev.showEpoch, Dev.put_tick, Dev.putN_tick, Dev.put_tick]
  rfl

end

/-! ### The next epoch (R340) -/

theorem nextEpoch_ne_zero (d : Dev) : nextEpoch d ≠ 0 := by
  unfold nextEpoch
  extract_lets own high top n
  have hn : n < 2 ^ 32 := Nat.mod_lt _ (by decide)
  intro hzero
  have htoNat := congrArg BitVec.toNat hzero
  rw [wd, BitVec.toNat_ofNat] at htoNat
  split at htoNat
  · exact absurd htoNat (by decide)
  · rw [Nat.mod_eq_of_lt hn] at htoNat
    exact absurd htoNat ‹_›

/-- Epochs less than half the range apart are compared as numbers. -/
theorem seqDiff_near {a b : Nat} (ha : a < 2 ^ 31) (hb : b < 2 ^ 31) : seqDiff 32 a b = (a : Int) - b := by
  unfold seqDiff signed unsigned
  split <;> omega

theorem nextEpoch_of_near {d : Dev} {own high : Nat} (hown : d.prc.epoch = wd own) (hhigh : d.w PRC.EPOCH_MAX = wd high)
    (ho : own < 2 ^ 31) (hh : high < 2 ^ 31) : (nextEpoch d).toNat = max own high + 1 := by
  have hownN : d.prc.epoch.toNat = own := by rw [hown, wd, BitVec.toNat_ofNat]; omega
  have hhighN : (d.w PRC.EPOCH_MAX).toNat = high := by rw [hhigh, wd, BitVec.toNat_ofNat]; omega
  have htop : (if 0 < seqDiff 32 high own then high else own) = max own high := by
    rw [seqDiff_near hh ho]
    split <;> omega
  have hmod : (max own high + 1) % 2 ^ 32 = max own high + 1 := Nat.mod_eq_of_lt (by omega)
  rw [nextEpoch, hownN, hhighN, htop, hmod, if_neg (by omega), wd, BitVec.toNat_ofNat]
  exact hmod

/-! ### Seize and crown lines (R334 to R339) -/

/-- A seize that is received is recorded and counted. -/
def Dev.noteSeize (d : Dev) : Dev :=
  (({ d with prc := { d.prc with seizeIn := true } } : Dev).sat PRC.SEIZE_CNT 16 16 1).event 0x0A05

/-- CROWN_IN has changed to a level. -/
def Dev.noteCrownIn (d : Dev) (level : Bool) : Dev :=
  { d.putB PRC.STAT 5 level with prc := { d.prc with crownLowBeats := 0, crownInTick := d.tick } }

/-- A test pulse leaves, the last `n` of them not reported. -/
def Dev.sendTestPulse (d : Dev) (n out : Nat) : Dev :=
  { d with prc := { d.prc with testTick := d.tick, unreported := n, testSent := true, seizeOut := out } }

theorem noteSeize_crown (d : Dev) : d.noteSeize.crown = d.crown := by
  rw [Dev.crown, Dev.noteSeize, Dev.event_prc, Dev.sat_prc]
  rfl

section
variable {s : State}

theorem seizeAccepted_counts (h : s.dev.crown = false) : exec .seizeAccepted s = .next { s with dev := s.dev.noteSeize } :=
  next_dev (if_neg (Bool.eq_false_iff.mp ((noteSeize_crown _).trans h)))

theorem seizeAccepted_clears (h : s.dev.crown = true) :
    exec .seizeAccepted s = .next { s with dev := (s.dev.noteSeize.dropCrown s.cfg false).crownLost } :=
  next_dev (if_pos ((noteSeize_crown _).trans h))

theorem seizeInPulseEnd_noise {w : Nat} (h : w < 10) : exec (.seizeInPulseEnd w) s = .next s := next_same (if_pos h)

theorem seizeInPulseEnd_test {w : Nat} (hlo : 10 ≤ w) (hhi : w ≤ 100) :
    exec (.seizeInPulseEnd w) s = .next { s with dev := { s.dev with prc := { s.dev.prc with testSeen := true } } } :=
  next_dev ((if_neg (by omega)).trans (if_pos hhi))

theorem seizeInPulseEnd_malformed {w : Nat} (hlo : 100 < w) (hhi : w < 150) :
    exec (.seizeInPulseEnd w) s = .next { s with dev := s.dev.event 0x0A12 [(w : Int)] } :=
  next_dev ((if_neg (by omega)).trans ((if_neg (by omega)).trans (if_pos hhi)))

theorem seizeInPulseEnd_seize {w : Nat} (h : 150 ≤ w) :
    exec (.seizeInPulseEnd w) s = .next { s with dev := { s.dev with prc := { s.dev.prc with seizeIn := false } } } :=
  next_dev ((if_neg (by omega)).trans ((if_neg (by omega)).trans (if_neg (by omega))))

theorem crownInChange_low (h : s.dev.prc.swapTake = false) :
    exec (.crownInChange false) s = .next { s with dev := s.dev.noteCrownIn false } :=
  next_dev ((if_neg (by simp)).trans (if_neg (by simp [h])))

/-- Of two latches set within one filter time of each other the one of ROLE 1 is released (log 39). -/
theorem crownInChange_race (hcrown : s.dev.crown = true) (hpair : s.cfg.pair = true) (hrole : s.cfg.b PRC.CFG 1 = true)
    (hnear : s.dev.tick ≤ s.dev.prc.latchTick + 8000) :
    exec (.crownInChange true) s = .next { s with
      dev := (((s.dev.noteCrownIn true).dropCrown s.cfg false).event 0x0A14).crownLost } := by
  have hlatch : (s.dev.noteCrownIn true).crown = true := hcrown
  have htime : (s.dev.noteCrownIn true).tick ≤ (s.dev.noteCrownIn true).prc.latchTick + 40 * ticksPerUs := hnear
  refine next_dev (if_pos ?_)
  rw [Bool.and_eq_true, Bool.and_eq_true, Bool.and_eq_true, Bool.and_eq_true, decide_eq_true_iff]
  exact ⟨⟨⟨⟨rfl, hlatch⟩, hpair⟩, hrole⟩, htime⟩

theorem crownInChange_high (hrole : s.cfg.b PRC.CFG 1 = false) :
    exec (.crownInChange true) s = .next { s with dev := s.dev.noteCrownIn true } :=
  next_dev ((if_neg (by simp [hrole])).trans (if_neg (by simp)))

theorem seizeTestPulse_sends (hpair : s.cfg.pair = true) (htest : s.cfg.b PRC.CFG 2 = true) (hout : s.dev.prc.seizeOut = 0)
    (hsent : s.dev.prc.testSent = false) :
    let e := s.dev.advanceTo (s.dev.prc.testTick + 60 * ticksPerSec)
    exec .seizeTestPulse s = .next { s with dev := e.sendTestPulse 0 2 } := by
  intro e
  have hn : (if e.prc.testSent then e.prc.unreported + 1 else 0) = 0 := if_neg (Bool.eq_false_iff.mp hsent)
  have hpulse : (if e.prc.seizeOut = 1 then 1 else 2) = 2 := if_neg (hout.trans_ne (by decide))
  refine next_dev ((if_neg (by simp [hpair, htest])).trans ?_)
  show (if 3 ≤ (if e.prc.testSent then e.prc.unreported + 1 else 0) && _ then _ else
    e.sendTestPulse (if e.prc.testSent then e.prc.unreported + 1 else 0) (if e.prc.seizeOut = 1 then 1 else 2)) = _
  rw [hn, hpulse]
  exact if_neg (by simp)

theorem seizeTestPulse_idle (h : s.cfg.pair = false ∨ s.cfg.b PRC.CFG 2 = false) : exec .seizeTestPulse s = .next s :=
  next_same (if_pos (by simpa using h))

theorem crownWire_fails (hpair : s.cfg.pair = true) (hfail : s.dev.b PRC.STAT 14 = false) (hbeats : 10 ≤ s.dev.prc.wireBeats) :
    exec .crownWire s = .next { s with dev := (((s.dev.putB PRC.STAT 14 true).putB PRC.STAT 15 true).event 0x0A11).event 0x0A12 } :=
  next_dev (if_neg (by simp [hpair, hfail, Nat.not_lt.mpr hbeats]))

theorem crownWire_idle (h : s.dev.prc.wireBeats < 10) : exec .crownWire s = .next s := next_same (if_pos (by simp [h]))

theorem seizeOutPulseEnd_ends (h : s.dev.prc.seizeOut ≠ 0) :
    let e := s.dev.advanceTo
      (if s.dev.prc.seizeOut = 1 then s.dev.prc.seizeTick + 250 * ticksPerUs else s.dev.prc.testTick + 20 * ticksPerUs)
    exec .seizeOutPulseEnd s = .next { s with dev := { e with prc := { e.prc with seizeOut := 0 } } } := next_dev (if_neg h)

theorem seizeOutPulseEnd_idle (h : s.dev.prc.seizeOut = 0) : exec .seizeOutPulseEnd s = .next s := next_same (if_pos h)

end

/-! ### Takeover (R342, R343) -/

theorem takeoverDue_iff (d : Dev) : takeoverDue d = true ↔ d.mode = 4 ∧ d.crown = false ∧ d.b PRC.STAT 6 = true
    ∧ d.b PRC.STAT 5 = false ∧ d.prc.seizeIn = false ∧ takeoverAt d ≤ d.prc.seizeTick + ticksPerMs := by
  simp [takeoverDue, latchFree, and_assoc]

/-- What a takeover ends: the trigger, a swap's wait for the line, orphaned beats. -/
def Dev.endSeize (d : Dev) : Dev := { d with prc := { d.prc with trigger := false, swapTake := false, orphaned := false } }

@[simp] theorem endSeize_tick (d : Dev) : d.endSeize.tick = d.tick := rfl

/-- The units once the latch is taken: SEIZING and SYNC clear. -/
def Dev.showTakeover (d : Dev) : Dev := (d.endSeize.putB PRC.STAT 6 false).putF PRC.STAT 8 3 0

theorem takeOver_eq (d : Dev) (c : Cfg) : ∃ ps cause target,
    d.takeOver c = (((d.takeCrown c).showTakeover).event 0x0A07 ps).want cause target := ⟨_, _, _, rfl⟩

section
variable (d : Dev) (c : Cfg)

theorem showTakeover_prc : d.showTakeover.prc = { d.prc with trigger := false, swapTake := false, orphaned := false } := by
  rw [Dev.showTakeover, Dev.putF_prc, Dev.putB_prc]
  rfl

theorem showTakeover_w {k : Nat} (h : k ≠ PRC.STAT) : d.showTakeover.w k = d.w k := by
  rw [Dev.showTakeover, Dev.w_putF_ne _ _ _ _ h, Dev.w_putB_ne _ _ _ h]
  rfl

theorem showTakeover_stat : d.showTakeover.w PRC.STAT = setFld (setBit (d.w PRC.STAT) 6 false) 8 3 0 := by
  rw [Dev.showTakeover, Dev.w_putF_self, Dev.w_putB_self]
  rfl

theorem takeOver_prc : (d.takeOver c).prc = { d.prc with
    epoch := nextEpoch d, latch := true, latchTick := d.tick, fail := false, trigger := false, swapTake := false, orphaned := false } := by
  obtain ⟨ps, cause, target, h⟩ := takeOver_eq d c
  rw [h, want_prc, Dev.event_prc, showTakeover_prc, takeCrown_prc]

theorem takeOver_w (k : Nat) : (d.takeOver c).w k = (d.takeCrown c).showTakeover.w k := by
  obtain ⟨ps, cause, target, h⟩ := takeOver_eq d c
  rw [h, w_want, Dev.w_event]

theorem takeOver_stat :
    (d.takeOver c).b PRC.STAT 4 = true ∧ (d.takeOver c).b PRC.STAT 6 = false ∧ (d.takeOver c).f PRC.STAT 8 3 = 0 := by
  unfold Dev.b Dev.f
  rw [takeOver_w, showTakeover_stat, takeCrown_stat]
  refine ⟨?_, ?_, ?_⟩
  · rw [bit_setFld_apart _ _ (by omega) (by omega), bit_setBit_ne _ _ (by omega) (by omega), bit_setBit _ _ (by omega)]
  · rw [bit_setFld_apart _ _ (by omega) (by omega), bit_setBit _ _ (by omega)]
  · exact fld_setFld _ _ (by omega)

theorem takeOver_epoch : (d.takeOver c).w PRC.EPOCH = nextEpoch d := by
  rw [takeOver_w, showTakeover_w _ (by decide), takeCrown_epoch]

theorem takeOver_takeoverBeat : (d.takeOver c).w PRC.TAKEOVER_BEAT = wd (d.esc.beat % 2 ^ 32) := by
  rw [takeOver_w, showTakeover_w _ (by decide), takeCrown_takeoverBeat]

theorem takeOver_tick : (d.takeOver c).tick = d.tick := by
  obtain ⟨ps, cause, target, h⟩ := takeOver_eq d c
  rw [h, want_tick, Dev.event_tick, Dev.showTakeover, Dev.putF_tick, Dev.putB_tick, endSeize_tick, takeCrown_tick]

end

section
variable {s : State}

theorem takeover_takes (h : takeoverDue s.dev = true) :
    exec .takeover s = .next { s with dev := (s.dev.advanceTo (takeoverAt s.dev)).takeOver s.cfg } := next_dev (if_pos h)

theorem takeover_idle (h : s.dev.b PRC.STAT 5 = true ∨ s.dev.b PRC.STAT 6 = false) : exec .takeover s = .next s := by
  refine next_same (if_neg fun hdue => ?_)
  obtain ⟨-, -, hseizing, hlow, -⟩ := (takeoverDue_iff _).mp hdue
  rcases h with h | h
  · exact Bool.false_ne_true (hlow.symm.trans h)
  · exact Bool.false_ne_true (h.symm.trans hseizing)

theorem seizeFailed_records (hseizing : s.dev.b PRC.STAT 6 = true)
    (hhigh : s.dev.b PRC.STAT 5 = true ∨ s.dev.prc.seizeTick + ticksPerMs < s.dev.prc.crownInTick) :
    exec .seizeFailed s = .next { s with
      dev := ((s.dev.advanceTo (s.dev.prc.seizeTick + ticksPerMs)).putB PRC.STAT 6 false).event 0x0A06 } := by
  have hdue : takeoverDue s.dev = false := Bool.eq_false_iff.mpr fun hdue => by
    obtain ⟨-, -, -, hlow, -, htime⟩ := (takeoverDue_iff _).mp hdue
    rcases hhigh with h | h
    · exact Bool.false_ne_true (hlow.symm.trans h)
    · unfold takeoverAt at htime
      omega
  exact next_dev (if_neg (by simp [hseizing, hdue]))

theorem seizeFailed_idle (h : s.dev.b PRC.STAT 6 = false) : exec .seizeFailed s = .next s := next_same (if_pos (by simp [h]))

theorem seizeRetry_due (hstands : triggerStands s.dev = true) (hbeat : s.dev.prc.seizeBeat + 10 ≤ s.dev.esc.beat) :
    exec .seizeRetry s = .next { s with dev := s.dev.seize } :=
  next_dev ((if_neg (by simp [hstands])).trans (if_neg (by omega)))

theorem seizeRetry_early (hstands : triggerStands s.dev = true) (hbeat : s.dev.esc.beat < s.dev.prc.seizeBeat + 10) :
    exec .seizeRetry s = .next s := next_same ((if_neg (by simp [hstands])).trans (if_pos hbeat))

theorem seizeRetry_ends (h : triggerStands s.dev = false) :
    exec .seizeRetry s = .next { s with dev := { s.dev with prc := { s.dev.prc with trigger := false } } } :=
  next_dev (if_pos (by simp [h]))

/-- A module that holds the crown never seizes (R337). -/
theorem seize_crowned {d : Dev} (h : d.crown = true) : d.seize = d := if_pos (by simp [h])

end

/-! ### PRC.CMD (R345, R347, Table 14.9) -/

/-- A command is counted and its result shown. -/
def Dev.prcResult (d : Dev) (code : Nat) : Dev := (d.wrap PRC.CMD_RES 16 16 1).putF PRC.CMD_RES 0 4 code

theorem wrap_crown (d : Dev) (k lo n m : Nat) : (d.wrap k lo n m).crown = d.crown := by rw [Dev.crown, Dev.wrap_prc, Dev.crown]

/-- A SWAP is pending: it is carried out 3 beats from now (R347). -/
def Dev.planSwap (d : Dev) (station : Nat) : Dev := { d with prc := { d.prc with swap := some ⟨d.esc.beat + 3, station⟩ } }

theorem planSwap_regs (d : Dev) (station : Nat) : (d.planSwap station).regs = d.regs := rfl
theorem planSwap_prc (d : Dev) (station : Nat) :
    (d.planSwap station).prc = { d.prc with swap := some ⟨d.esc.beat + 3, station⟩ } := rfl

/-- The units with a SWAP pending, before it is journaled. -/
def Dev.acceptSwap (d : Dev) (station : Nat) : Dev := ((d.wrap PRC.CMD_RES 16 16 1).planSwap station).putF PRC.CMD_RES 0 4 1

/-- The module declares its failure (R345). -/
def Dev.declareFail (d : Dev) : Dev := { d with prc := { d.prc with fail := true } }

section
variable {d : Dev} {c : Cfg}

theorem pairCommand_badKey {v : Word} (h : fld v 16 16 ≠ 0x9A1F) : d.pairCommand c v = (false, d.prcResult 2) := if_pos (by simp [h])

theorem pairCommand_notCrowned {v : Word} (hkey : fld v 16 16 = 0x9A1F) (hcmd : fld v 0 2 = 1 ∨ fld v 0 2 = 2) (h : d.crown = false) :
    d.pairCommand c v = (false, d.prcResult 3) :=
  (if_neg (by simp [hkey])).trans ((if_neg (by rcases hcmd with h | h <;> simp [h])).trans
    (if_pos (by rw [Bool.not_eq_true', wrap_crown, h])))

section
variable {v : Word} (hkey : fld v 16 16 = 0x9A1F) (hcrown : d.crown = true)
include hkey hcrown

theorem pairCommand_fail (hcmd : fld v 0 2 = 2) :
    d.pairCommand c v = (false, (((d.wrap PRC.CMD_RES 16 16 1).selfFail c).crownLost).putF PRC.CMD_RES 0 4 0) := by
  have hlatch : (d.wrap PRC.CMD_RES 16 16 1).crown = true := (wrap_crown _ _ _ _ _).trans hcrown
  exact (if_neg (by simp [hkey])).trans ((if_neg (by simp [hcmd])).trans ((if_neg (by simp [hlatch])).trans (if_pos hcmd)))

theorem pairCommand_busy (hcmd : fld v 0 2 = 1) (hswap : d.prc.swap ≠ none) : d.pairCommand c v = (false, d.prcResult 5) := by
  have hlatch : (d.wrap PRC.CMD_RES 16 16 1).crown = true := (wrap_crown _ _ _ _ _).trans hcrown
  have hpending : (d.wrap PRC.CMD_RES 16 16 1).prc.swap.isSome = true := by
    rw [Dev.wrap_prc, Option.isSome_iff_ne_none]
    exact hswap
  exact (if_neg (by simp [hkey])).trans ((if_neg (by simp [hcmd])).trans ((if_neg (by simp [hlatch])).trans
    ((if_neg (by omega)).trans (if_pos hpending))))

theorem pairCommand_swap (hcmd : fld v 0 2 = 1) (hswap : d.prc.swap = none) :
    d.pairCommand c v = (true, d.acceptSwap (fld v 8 8)) := by
  have hlatch : (d.wrap PRC.CMD_RES 16 16 1).crown = true := (wrap_crown _ _ _ _ _).trans hcrown
  have hfree : ¬ (d.wrap PRC.CMD_RES 16 16 1).prc.swap.isSome = true := by rw [Dev.wrap_prc, hswap]; simp
  exact (if_neg (by simp [hkey])).trans ((if_neg (by simp [hcmd])).trans ((if_neg (by simp [hlatch])).trans
    ((if_neg (by omega)).trans (if_neg hfree))))

end

/-- Of a failure the module clears its latch and records it. -/
theorem selfFail_crowned (h : d.crown = true) :
    (d.selfFail c).prc = { d.prc with fail := true, latch := false } ∧ (d.selfFail c).w PRC.CMD_RES = d.w PRC.CMD_RES := by
  have hlatch : d.declareFail.crown = true := h
  have hfail : d.selfFail c = (d.declareFail.dropCrown c false).event 0x0A15 := rfl
  rw [hfail, Dev.event_prc, Dev.w_event, dropCrown_prc c false hlatch, dropCrown_w c false hlatch (by decide) (by decide) (by decide)]
  exact ⟨rfl, rfl⟩

end

section
variable {s : State} {v : Word} {e : Dev}

theorem pairWrite_quiet (h : s.dev.pairCommand s.cfg v = (false, e)) : pairWrite s v = .next { s with bus := .done 0, dev := e } := by
  rw [pairWrite, onWrite_eq, h]
  rfl

theorem pairWrite_journals (h : s.dev.pairCommand s.cfg v = (true, e)) : pairWrite s v = .next { s with
    bus := .done 0, dev := e.journal s.cfg (.control (wd PRC.CMD) v (BitVec.ofNat 8 (fld v 8 8)) 255 []) } := by
  rw [pairWrite, onWrite_eq, h]
  rfl

end

/-- Of the pair logic a record that leaves with its block changes the block in progress alone (R321). -/
theorem journal_blockOnly (d : Dev) (c : Cfg) {r : JournalRecord} (h : recordType r ≠ 0x11) :
    ∃ l, d.journal c r = { d with prc := { d.prc with block := l } } := by
  cases hj : journaling c d with
  | false => exact ⟨d.prc.block, journal_none r hj⟩
  | true => exact ⟨_, journal_block r hj h⟩

/-! ### The pair logic at a mode edge -/

/-- From `d` to `e` pair logic, mode, ramp beat and beat number have not changed. -/
structure PairKept (d e : Dev) : Prop where
  prc : e.prc = d.prc
  mode : e.mode = d.mode
  ramp : e.modes.rampBeat = d.modes.rampBeat
  beat : e.esc.beat = d.esc.beat

theorem EdgeKept.pair {d e : Dev} (h : EdgeKept d e) (hprc : e.prc = d.prc := by rfl) : PairKept d e :=
  ⟨hprc, h.mode, by rw [h.modes], by rw [h.esc]⟩

namespace PairKept

variable {d e f : Dev}

theorem refl (d : Dev) : PairKept d d := ⟨rfl, rfl, rfl, rfl⟩

theorem trans (h : PairKept d e) (g : PairKept e f) : PairKept d f :=
  ⟨g.prc.trans h.prc, g.mode.trans h.mode, g.ramp.trans h.ramp, g.beat.trans h.beat⟩

theorem ite {c : Prop} [Decidable c] (he : PairKept d e) (hf : PairKept d f) : PairKept d (if c then e else f) := by
  split
  · exact he
  · exact hf

end PairKept

theorem foldl_prc {α : Type} {g : Dev → α → Dev} {l : List α} {d : Dev} (hg : ∀ e a, (g e a).prc = e.prc) :
    (l.foldl g d).prc = d.prc :=
  List.foldlRecOn (motive := fun e : Dev => e.prc = d.prc) l g rfl fun e he a _ => (hg e a).trans he

theorem ite_prc {c : Prop} [Decidable c] {d e : Dev} {p : PrcDev} (hd : d.prc = p) (he : e.prc = p) : (if c then d else e).prc = p := by
  split
  · exact hd
  · exact he

section
variable (d : Dev) (c : Cfg)

theorem cancelStream_prc (n : Nat) : (d.cancelStream n).prc = d.prc := by
  have hreserve : ∀ (e : Dev) (j : Job), (e.reserveOne j).prc = e.prc := fun e j => ite_prc rfl rfl
  unfold Dev.cancelStream Dev.reserve
  rw [(showSolver_shownBy _).prc, foldl_prc hreserve]
  exact foldl_prc fun e j => rfl

theorem cancelStream_pairKept (n : Nat) : PairKept d (d.cancelStream n) := (cancelStream_edgeKept d n).pair (cancelStream_prc d n)

/-- The law and its jobs at an edge, whatever the modes. -/
theorem lawModeEdge_pairKept (old new cause : Nat) : PairKept d (d.lawModeEdge c old new cause) := by
  unfold Dev.lawModeEdge Dev.setSource
  refine .ite ?jobs (.ite ?manual ?automatic)
  case jobs =>
    extract_lets e
    have hjobs : PairKept d e := ((cancelStream_pairKept d 0).trans (cancelStream_pairKept _ 1)).trans (cancelStream_pairKept _ 2)
    clear_value e
    exact hjobs.trans (EdgeKept.pair (.other (.refl e)))
  case manual =>
    extract_lets e law f
    have hplan : PairKept d e := .ite (cancelStream_pairKept d 1) (.refl d)
    clear_value e
    have hcleared : PairKept d f := hplan.trans (EdgeKept.pair (.other (.refl e)))
    clear_value f
    exact hcleared.trans (EdgeKept.pair (.putF (.putB (.putF (.refl f)))) (by rw [Dev.putF_prc, Dev.putB_prc, Dev.putF_prc]))
  case automatic =>
    extract_lets law e
    have htaken : PairKept d e := EdgeKept.pair (.other (.refl d))
    clear_value e
    exact htaken.trans (EdgeKept.pair (.putB (.putF (.putF (.refl e)))) (by rw [Dev.putB_prc, Dev.putF_prc, Dev.putF_prc]))

theorem slotEmit_prc (k : Nat) (u : Option Int) : (d.slotEmit c k u).prc = d.prc :=
  ite_prc (ite_prc rfl rfl) (ite_prc (ite_prc rfl rfl) (ite_prc (ite_prc rfl rfl) rfl))

theorem haltSlot_prc (k state : Nat) : (d.haltSlot c k state).prc = d.prc := by
  unfold Dev.haltSlot
  rw [slotEmit_prc, Dev.putN_prc, Dev.putN_prc, Dev.putN_prc]
  rfl

theorem runSlot_prc (k : Nat) : (d.runSlot k).prc = d.prc := by
  unfold Dev.runSlot
  rw [Dev.putN_prc, Dev.putN_prc, Dev.putN_prc]
  rfl

theorem loopSync_prc : (d.loopSync c).prc = d.prc := by
  unfold Dev.loopSync
  rw [(showLoops_shownBy _).prc]
  refine foldl_prc fun e k => ?_
  exact ite_prc (ite_prc rfl (haltSlot_prc e c k 0))
    (ite_prc (ite_prc (runSlot_prc e k) rfl) (ite_prc rfl (haltSlot_prc e c k 1)))

theorem loopSync_pairKept {d : Dev} (h : sendsSetpoints d = false) : PairKept d (d.loopSync c) :=
  (loopSync_edgeKept c h).pair (loopSync_prc d c)

theorem sfmDrive_pairKept : PairKept d (d.sfmDrive c) := by
  refine (sfmDrive_edgeKept d c).pair ?_
  unfold Dev.sfmDrive Dev.showSfm
  rw [Dev.putF_prc, Dev.putB_prc, Dev.putB_prc, Dev.putF_prc, Dev.putB_prc, (driveOutputs_latchKept _ c false).prc]

theorem driveField_pairKept : PairKept d (d.driveField c false) := (driveField_edgeKept d c false).pair (driveField_latchKept d c false).prc

theorem edgeBits_pairKept (old cause : Nat) {new : Nat} (h : new ≠ 7 ∨ (cause ≠ 9 ∧ cause ≠ 10)) :
    PairKept d (d.edgeBits old new cause) := by
  have hbits : d.edgeBits old new cause = (d.putB SYS.MODE 14 false).putB SYS.MODE 15 (decide (new = 6) && (old = 3 || old = 11)) := by
    rcases h with h | h <;> simp [Dev.edgeBits, h]
  rw [hbits]
  exact EdgeKept.pair (.putB_mode (.putB_mode (.refl d))) (by rw [Dev.putB_prc, Dev.putB_prc])

theorem restPaired_pairKept : PairKept d (d.restPaired c) := by
  unfold Dev.restPaired
  exact .ite (.refl d) ⟨rfl, rfl, rfl, rfl⟩

theorem edgeConfigure_off {d : Dev} (h : d.mode ≠ 3) : d.edgeConfigure = d := if_pos (by simp [h])

/-- The rest of an edge into Stood-down. -/
theorem settleStoodDown_pairKept {d : Dev} (hmode : d.mode = 5) (hramp : d.modes.rampBeat = false) :
    PairKept d ((((d.edgeLockout c).edgeConfigure).restPaired c).loopSync c) := by
  have hrest := restPaired_pairKept d c
  have hoff : sendsSetpoints (d.restPaired c) = false := by
    rw [sendsSetpoints, hrest.mode, hrest.ramp, hmode, hramp]
    rfl
  rw [edgeLockout_off c (by omega), edgeConfigure_off (by omega)]
  exact hrest.trans (loopSync_pairKept c hoff)

end

/-! ### The swap (R347) -/

@[simp] theorem setRamp_prc (d : Dev) (ramp : Bool) : (d.setRamp ramp).prc = d.prc := rfl

theorem showEdge_prc (d : Dev) (new cause : Nat) : (d.showEdge new cause).prc = d.prc := by
  rw [Dev.showEdge, Dev.putN_prc, Dev.putF_prc, Dev.putF_prc, Dev.putF_prc]

/-- Of a mode that is not crowned the edge clears the latch, but in the ramp beat and in Lock-out (Table 2.8). -/
theorem edgeCrown_clears {d : Dev} (c : Cfg) {new : Nat} (cause : Nat) (hnew : new < 6) (hramp : d.modes.rampBeat = false) :
    d.edgeCrown c new cause = d.dropCrown c false := by
  rw [Dev.edgeCrown, if_neg (by omega), if_neg (by simp [hramp]), if_neg (by omega)]

/-- Stood-down is entered for want of the crown: of the pair logic the latch alone has changed. -/
theorem enterMode_stoodDown {d : Dev} (c : Cfg) (station : Nat) (hcrown : d.crown = true) :
    (d.enterMode c 5 5 station).prc = { d.prc with latch := false } ∧ (d.enterMode c 5 5 station).mode = 5
      ∧ (d.enterMode c 5 5 station).modes.rampBeat = false ∧ (d.enterMode c 5 5 station).esc.beat = d.esc.beat := by
  unfold Dev.enterMode
  extract_lets old ramp shown entered edge checked known event lost crowned bits law cleared settled driven safe
  have hramp : ramp = false := by simp [ramp]
  have hentered : entered = d.showEdge 5 5 := rfl
  clear_value entered
  have hchecked : checked = entered.setRamp ramp := rfl
  rw [hramp, hentered] at hchecked
  clear_value checked
  -- up to the latch the edge only shows and records itself
  have hknown : PairKept checked known := .ite (EdgeKept.pair (.event (.putB (.refl checked)))) (.refl checked)
  clear_value known
  have hlost : PairKept checked lost :=
    .ite (hknown.trans (EdgeKept.pair (.event (.event (.refl known))))) (hknown.trans (EdgeKept.pair (.event (.refl known))))
  clear_value lost
  have hprc : lost.prc = d.prc := hlost.prc.trans (by rw [hchecked, setRamp_prc, showEdge_prc])
  have hmode : lost.mode = 5 := hlost.mode.trans (by rw [hchecked, mode_setRamp, mode_showEdge _ _ (by decide)])
  have hrest : lost.modes.rampBeat = false := hlost.ramp.trans (by rw [hchecked, setRamp_rampBeat])
  have hbeat : lost.esc.beat = d.esc.beat := hlost.beat.trans (by rw [hchecked, setRamp_esc, showEdge_esc])
  have hheld : lost.crown = true := by rw [Dev.crown, hprc, ← Dev.crown, hcrown]
  -- the latch is cleared
  have hcleared : crowned = lost.dropCrown c false := edgeCrown_clears c 5 (by decide) hrest
  have hdrop := dropCrown_edgeKept lost c false
  have hlatch : crowned.prc = { d.prc with latch := false } := by rw [hcleared, dropCrown_prc c false hheld, hprc]
  have hstood : crowned.mode = 5 := by rw [hcleared, hdrop.mode, hmode]
  have hflat : crowned.modes.rampBeat = false := by rw [hcleared, hdrop.modes, hrest]
  have hnow : crowned.esc.beat = d.esc.beat := by rw [hcleared, hdrop.esc, hbeat]
  clear_value crowned
  -- the rest leaves mode and pair logic alone, and without the latch nothing is journaled
  have hbits : PairKept crowned bits := .ite (.refl _) (edgeBits_pairKept _ _ _ (.inl (by decide)))
  have hlaw : PairKept crowned law := .ite hbits (.ite hbits (hbits.trans (lawModeEdge_pairKept _ c _ _ _)))
  clear_value law
  have hfresh : PairKept crowned cleared := .ite hlaw (hlaw.trans (EdgeKept.pair (.putF_mode (.refl law))))
  have hsettled : PairKept crowned settled :=
    hfresh.trans (settleStoodDown_pairKept c (hfresh.mode.trans hstood) (hfresh.ramp.trans hflat))
  clear_value settled
  have hdriven : PairKept crowned driven := .ite hsettled (hsettled.trans (EdgeKept.pair (.putB (.refl settled))))
  have hend : PairKept crowned ((driven.sfmDrive c).driveField c false) :=
    hdriven.trans ((sfmDrive_pairKept _ c).trans (driveField_pairKept _ c))
  have hquiet : journaling c ((driven.sfmDrive c).driveField c false) = false := by
    rw [journaling, Dev.crown, hend.prc, hlatch, Bool.and_false, Bool.false_and]
  rw [journal_none _ hquiet]
  exact ⟨hend.prc.trans hlatch, hend.mode.trans hstood, hend.ramp.trans hflat, hend.beat.trans hnow⟩

/-- The mirror that begins in Stood-down leaves mode and pair logic alone. -/
theorem mirrorMode_pairKept {d : Dev} (c : Cfg) (new : Nat) (hmode : d.mode = 5) (hramp : d.modes.rampBeat = false) :
    PairKept d (d.mirrorMode c new 0) := by
  unfold Dev.mirrorMode
  rw [if_neg (by simp)]
  extract_lets old ramp shown ramped mirrored bits law loops
  have hflat : ramp = false := by simp [ramp]
  have hshown : PairKept d shown :=
    EdgeKept.pair (.putB_mode (.putF_mode (.refl d))) (by rw [Dev.putB_prc, Dev.putF_prc])
  clear_value shown
  have hmirrored : PairKept d mirrored := hshown.trans ⟨rfl, rfl, hflat.trans (hshown.ramp.trans hramp).symm, rfl⟩
  clear_value mirrored
  have hbits : PairKept d bits := .ite hmirrored (hmirrored.trans (edgeBits_pairKept _ _ _ (.inr (by decide))))
  have hlaw : PairKept d law := .ite hbits (hbits.trans (lawModeEdge_pairKept _ c _ _ _))
  have hoff : sendsSetpoints law = false := by
    rw [sendsSetpoints, hlaw.mode, hlaw.ramp, hmode, hramp]
    rfl
  rw [if_neg (by simp)]
  exact hlaw.trans (loopSync_pairKept c hoff)

/-- A granted swap is shown and recorded. -/
def Dev.showGranted (d : Dev) : Dev := (d.putF PRC.CMD_RES 0 4 0).event 0x0A0F

theorem showGranted_prc (d : Dev) : d.showGranted.prc = d.prc := by rw [Dev.showGranted, Dev.event_prc, Dev.putF_prc]
theorem showGranted_esc (d : Dev) : d.showGranted.esc = d.esc := by rw [Dev.showGranted, Dev.event_esc, Dev.putF_esc]

/-- The former active waits for the first digest of the new one. -/
def Dev.awaitMatch (d : Dev) : Dev :=
  { d with prc := { d.prc with swapMatch := some d.esc.beat, level := true, journalBeat := d.esc.beat - 1 } }

/-- It is level with it, no digest matched yet. -/
def Dev.beginMirror (d : Dev) : Dev := (d.awaitMatch.putF PRC.STAT 8 3 3).putF PRC.DIGEST 0 16 0

theorem beginMirror_mode (d : Dev) : d.beginMirror.mode = d.mode := by
  rw [Dev.beginMirror, Dev.mode_putF _ _ _ _ (by decide), Dev.mode_putF _ _ _ _ (by decide)]
  rfl

theorem beginMirror_modes (d : Dev) : d.beginMirror.modes = d.modes := by
  rw [Dev.beginMirror, Dev.putF_modes, Dev.putF_modes]
  rfl

theorem beginMirror_prc (d : Dev) :
    d.beginMirror.prc = { d.prc with swapMatch := some d.esc.beat, level := true, journalBeat := d.esc.beat - 1 } := by
  rw [Dev.beginMirror, Dev.putF_prc, Dev.putF_prc]
  rfl

/-- A granted swap (R347): the outcome is shown and recorded, Stood-down entered, the mirror of the new active begun. -/
theorem handover_granted {d : Dev} {c : Cfg} (x : SwapDev) (hcrown : d.crown = true) (hpartner : partnerStandby d = true)
    (hlo : 6 ≤ d.mode) (hhi : d.mode ≤ 10) (hdigests : max 1 (c.f PRC.CFG 16 10) ≤ d.f PRC.DIGEST 0 16) :
    (d.handover c x).mode = 5
      ∧ (d.handover c x).prc
        = { d.prc with latch := false, swapMatch := some d.esc.beat, level := true, journalBeat := d.esc.beat - 1 } := by
  have hgranted : (partnerStandby d && decide (6 ≤ d.mode ∧ d.mode ≤ 10)
      && decide (max 1 (c.f PRC.CFG 16 10) ≤ d.f PRC.DIGEST 0 16)) = true := by
    rw [hpartner, decide_eq_true ⟨hlo, hhi⟩, decide_eq_true hdigests]
    rfl
  have hheld : d.showGranted.crown = true := by rw [Dev.crown, showGranted_prc, ← Dev.crown, hcrown]
  have hhand : d.handover c x = ((d.showGranted.enterMode c 5 5 x.station).beginMirror).mirrorMode c d.mode 0 :=
    if_neg (by rw [hgranted]; simp)
  obtain ⟨hprc, hmode, hramp, hbeat⟩ := enterMode_stoodDown c x.station hheld
  have hmirror := mirrorMode_pairKept c d.mode ((beginMirror_mode _).trans hmode) ((beginMirror_modes _).symm ▸ hramp)
  refine ⟨by rw [hhand, hmirror.mode, beginMirror_mode, hmode], ?_⟩
  rw [hhand, hmirror.prc, beginMirror_prc, hprc, hbeat, showGranted_prc, showGranted_esc]

theorem displaceRequest_prc (d : Dev) : d.displaceRequest.prc = d.prc := by
  unfold Dev.displaceRequest
  split
  · rfl
  · exact modeResult_prc _ _ _ _

theorem displaceRequest_mode (d : Dev) : d.displaceRequest.mode = d.mode := by
  unfold Dev.displaceRequest
  split
  · rfl
  · exact (modeResult_edgeKept _ _ _ _).mode

theorem handover_ungranted {d : Dev} {c : Cfg} (x : SwapDev) (h : partnerStandby d = false ∨ d.mode < 6 ∨ 10 < d.mode) :
    d.handover c x = (d.putF PRC.CMD_RES 0 4 4).event 0x0A10 := by
  have hrefused : (partnerStandby d && decide (6 ≤ d.mode ∧ d.mode ≤ 10)
      && decide (max 1 (c.f PRC.CFG 16 10) ≤ d.f PRC.DIGEST 0 16)) = false := by
    rcases h with h | h
    · simp [h]
    · have hmode : decide (6 ≤ d.mode ∧ d.mode ≤ 10) = false := decide_eq_false (by omega)
      rw [hmode, Bool.and_false, Bool.false_and]
  exact if_pos (by rw [hrefused]; rfl)

section
variable {s : State} {x : SwapDev} (hswap : s.dev.prc.swap = some x) (hdue : x.atBeat ≤ s.dev.esc.beat) (hcrown : s.dev.crown = true)
include hswap hdue hcrown

theorem swapHandover_ungranted (h : partnerStandby s.dev = false ∨ s.dev.mode < 6 ∨ 10 < s.dev.mode) :
    exec .swapHandover s = .next ({ s with
      dev := { (s.dev.endSwap.putF PRC.CMD_RES 0 4 4).event 0x0A10 with modes := { s.dev.modes with openSwap := false } } } :
        State).closeModes := by
  have hrefused : s.dev.endSwap.handover s.cfg x = (s.dev.endSwap.putF PRC.CMD_RES 0 4 4).event 0x0A10 := handover_ungranted x h
  have hmode : ((s.dev.endSwap.putF PRC.CMD_RES 0 4 4).event 0x0A10).mode = s.dev.mode := by
    rw [Dev.mode_event, Dev.mode_putF _ _ _ _ (by decide)]
    rfl
  show execSwapHandover s = _
  simp only [execSwapHandover, hswap]
  refine (if_neg (by omega)).trans ((if_pos hcrown).trans ?_)
  rw [show ({ s.dev with prc := { s.dev.prc with swap := none } } : Dev) = s.dev.endSwap from rfl, hrefused]
  exact if_pos hmode

/-- The granted swap carried out: Stood-down, the latch released, the request of the beat displaced. -/
theorem swapHandover_granted (hpartner : partnerStandby s.dev = true) (hlo : 6 ≤ s.dev.mode) (hhi : s.dev.mode ≤ 10)
    (hdigests : max 1 (s.cfg.f PRC.CFG 16 10) ≤ s.dev.f PRC.DIGEST 0 16) :
    ∃ t, exec .swapHandover s = .next t ∧ UnitsOnly s t ∧ t.dev.crown = false ∧ t.dev.mode = 5 ∧ t.dev.prc.swap = none
      ∧ t.dev.prc.swapMatch = some s.dev.esc.beat := by
  obtain ⟨hmode, hprc⟩ := handover_granted (d := s.dev.endSwap) (c := s.cfg) x hcrown hpartner hlo hhi hdigests
  have hprc' := (displaceRequest_prc (s.dev.endSwap.handover s.cfg x)).trans hprc
  have hmode' := (displaceRequest_mode (s.dev.endSwap.handover s.cfg x)).trans hmode
  refine ⟨_, swapHandover_active hswap hdue hcrown (by rw [hmode]; omega), rfl, ?_, hmode', ?_, ?_⟩
  · exact congrArg PrcDev.latch hprc'
  · exact congrArg PrcDev.swap hprc'
  · exact congrArg PrcDev.swapMatch hprc'

end

/-! ### What the commands show -/

section
variable {s : State}

theorem seizeAccepted_releases (hcrown : s.dev.crown = true) :
    ∃ t, exec .seizeAccepted s = .next t ∧ UnitsOnly s t ∧ t.dev.crown = false ∧ t.dev.b PRC.STAT 4 = false
      ∧ t.dev.b FIO.WDG_STAT 0 = false := by
  have hheld : s.dev.noteSeize.crown = true := (noteSeize_crown _).trans hcrown
  refine ⟨_, seizeAccepted_clears hcrown, rfl, ?_, ?_, ?_⟩
  · rw [Dev.crown, crownLost_prc, ← Dev.crown, dropCrown_crown _ _ hheld]
  · rw [Dev.b, w_crownLost, dropCrown_stat _ _ hheld, bit_setBit _ _ (by omega)]
  · rw [Dev.b, w_crownLost, ← Dev.b, dropCrown_watchdog _ _ hheld]

theorem noteCrownIn_stat (d : Dev) (level : Bool) : (d.noteCrownIn level).b PRC.STAT 5 = level := Dev.b_putB_self d _ _ (by omega)
theorem noteCrownIn_tick (d : Dev) (level : Bool) : (d.noteCrownIn level).tick = d.tick := rfl
theorem noteCrownIn_esc (d : Dev) (level : Bool) : (d.noteCrownIn level).esc = d.esc := rfl

theorem crownInChange_releases (hcrown : s.dev.crown = true) (hpair : s.cfg.pair = true) (hrole : s.cfg.b PRC.CFG 1 = true)
    (hnear : s.dev.tick ≤ s.dev.prc.latchTick + 8000) :
    ∃ t, exec (.crownInChange true) s = .next t ∧ UnitsOnly s t ∧ t.dev.crown = false ∧ t.dev.b PRC.STAT 5 = true
      ∧ (⟨0x0A14, s.dev.tick, s.dev.eventBeat, []⟩ : Occurrence) ∈ t.dev.occ := by
  have hheld : (s.dev.noteCrownIn true).crown = true := hcrown
  have hedge := dropCrown_edgeKept (s.dev.noteCrownIn true) s.cfg false
  refine ⟨_, crownInChange_race hcrown hpair hrole hnear, rfl, ?_, ?_, ?_⟩
  · rw [Dev.crown, crownLost_prc, Dev.event_prc, ← Dev.crown, dropCrown_crown _ _ hheld]
  · rw [Dev.b, w_crownLost, Dev.w_event, dropCrown_stat _ _ hheld, bit_setBit_ne _ _ (by omega) (by omega), ← Dev.b, noteCrownIn_stat]
  · rw [crownLost_occ, Dev.event_occ, Dev.eventBeat, hedge.tick, hedge.esc, noteCrownIn_tick, noteCrownIn_esc]
    exact List.mem_append_right _ (List.mem_singleton_self _)

theorem nextEpoch_advanceTo (d : Dev) (t : Nat) : nextEpoch (d.advanceTo t) = nextEpoch d := rfl

theorem takeover_shows (hmode : s.dev.mode = 4) (hcrown : s.dev.crown = false) (hseizing : s.dev.b PRC.STAT 6 = true)
    (hlow : s.dev.b PRC.STAT 5 = false) (hfree : s.dev.prc.seizeIn = false)
    (htime : s.dev.prc.crownInTick + 20 * ticksPerUs ≤ s.dev.prc.seizeTick + ticksPerMs) :
    ∃ t, exec .takeover s = .next t ∧ UnitsOnly s t ∧ t.dev.crown = true ∧ t.dev.b PRC.STAT 4 = true ∧ t.dev.b PRC.STAT 6 = false
      ∧ t.dev.f PRC.STAT 8 3 = 0 ∧ t.dev.prc.epoch = nextEpoch s.dev ∧ t.dev.w PRC.EPOCH = nextEpoch s.dev
      ∧ t.dev.w PRC.TAKEOVER_BEAT = wd (s.dev.esc.beat % 2 ^ 32) ∧ t.dev.prc.fail = false
      ∧ t.dev.tick = max s.dev.tick (takeoverAt s.dev) := by
  have hdue : takeoverDue s.dev = true := (takeoverDue_iff _).mpr ⟨hmode, hcrown, hseizing, hlow, hfree, by
    unfold takeoverAt ticksPerMs ticksPerUs at *
    omega⟩
  obtain ⟨hshown, hended, hsync⟩ := takeOver_stat (s.dev.advanceTo (takeoverAt s.dev)) s.cfg
  refine ⟨_, takeover_takes hdue, rfl, ?_, hshown, hended, hsync, ?_, ?_, ?_, ?_, ?_⟩
  · rw [Dev.crown, takeOver_prc]
  · rw [takeOver_prc, nextEpoch_advanceTo]
  · rw [takeOver_epoch, nextEpoch_advanceTo]
  · rw [takeOver_takeoverBeat, Dev.advanceTo_esc]
  · rw [takeOver_prc]
  · rw [takeOver_tick, Dev.advanceTo_tick]

theorem prcFail_shows {v : Word} (hkey : fld v 16 16 = 0x9A1F) (hcmd : fld v 0 2 = 2) (hcrown : s.dev.crown = true) :
    ∃ t, exec (.prcFail v) s = .next t ∧ UnitsWritten s t ∧ t.dev.crown = false ∧ t.dev.prc.fail = true
      ∧ t.dev.f PRC.CMD_RES 0 4 = 0 ∧ t.dev.f PRC.CMD_RES 16 16 = (s.dev.f PRC.CMD_RES 16 16 + 1) % 65536 := by
  obtain ⟨hprc, hres⟩ := selfFail_crowned (d := s.dev.wrap PRC.CMD_RES 16 16 1) (c := s.cfg) ((wrap_crown _ _ _ _ _).trans hcrown)
  refine ⟨_, pairWrite_quiet (pairCommand_fail hkey hcrown hcmd), rfl, ?_, ?_, ?_, ?_⟩
  · rw [Dev.crown, Dev.putF_prc, crownLost_prc, hprc]
  · rw [Dev.putF_prc, crownLost_prc, hprc]
  · rw [f_putF_fits _ _ (by omega) (by omega)]
  · rw [Dev.f_putF_apart _ _ _ (by omega) (by omega), Dev.f, w_crownLost, hres, ← Dev.f]
    exact Dev.f_putF_self _ _ _ (by omega)

theorem acceptSwap_regsKept (d : Dev) (station : Nat) : RegsKept [PRC.CMD_RES] d (d.acceptSwap station) := by
  have hcount : RegsKept [PRC.CMD_RES] d (d.wrap PRC.CMD_RES 16 16 1) := regsKept_put regsKept_refl _ (by decide)
  exact regsKept_put (regsKept_congr hcount (planSwap_regs _ station)) _ (by decide)

theorem acceptSwap_prc (d : Dev) (station : Nat) :
    (d.acceptSwap station).prc = { d.prc with swap := some ⟨d.esc.beat + 3, station⟩ } := by
  rw [Dev.acceptSwap, Dev.putF_prc, planSwap_prc, Dev.wrap_prc, Dev.wrap_esc]

theorem acceptSwap_result (d : Dev) (station : Nat) : (d.acceptSwap station).f PRC.CMD_RES 0 4 = 1 :=
  f_putF_fits _ _ (by omega) (by omega)

theorem swap_shows {v : Word} (hkey : fld v 16 16 = 0x9A1F) (hcmd : fld v 0 2 = 1) (hcrown : s.dev.crown = true)
    (hswap : s.dev.prc.swap = none) :
    ∃ t, exec (.swap v) s = .next t ∧ UnitsWritten s t ∧ RegsKept [PRC.CMD_RES] s.dev t.dev ∧ t.dev.f PRC.CMD_RES 0 4 = 1
      ∧ t.dev.prc.swap = some ⟨s.dev.esc.beat + 3, fld v 8 8⟩ ∧ t.dev.crown = true := by
  obtain ⟨l, hblock⟩ := journal_blockOnly (s.dev.acceptSwap (fld v 8 8)) s.cfg
    (r := .control (wd PRC.CMD) v (BitVec.ofNat 8 (fld v 8 8)) 255 []) (by simp [recordType])
  have hprc : ((s.dev.acceptSwap (fld v 8 8)).journal s.cfg (.control (wd PRC.CMD) v (BitVec.ofNat 8 (fld v 8 8)) 255 [])).prc
      = { s.dev.prc with swap := some ⟨s.dev.esc.beat + 3, fld v 8 8⟩, block := l } := by rw [hblock, acceptSwap_prc]
  refine ⟨_, pairWrite_journals (pairCommand_swap hkey hcrown hcmd hswap), rfl, fun k hk => ?_, ?_, ?_, ?_⟩
  · rw [journal_w]
    exact acceptSwap_regsKept s.dev _ k hk
  · rw [Dev.f, journal_w]
    exact acceptSwap_result s.dev _
  · exact congrArg PrcDev.swap hprc
  · exact (congrArg PrcDev.latch hprc).trans hcrown

end

/-- The commands that PRC.CMD takes up, and the words the claim writes. -/
theorem prcWord_parts : fld 0x9A1F0002#32 16 16 = 0x9A1F ∧ fld 0x9A1F0002#32 0 2 = 2 ∧ fld 0x9A1F0001#32 16 16 = 0x9A1F
    ∧ fld 0x9A1F0001#32 0 2 = 1 := by decide

/-- Settles O54: crown and seize lines, takeover and its failure, PRC.CMD, the swap. -/
theorem crownAndTakeover : Obligations.CrownAndTakeover := by
  obtain ⟨hfailKey, hfailCmd, hswapKey, hswapCmd⟩ := prcWord_parts
  refine ⟨fun s => ⟨seizeAccepted_counts, fun hcrown => ?seized⟩,
    fun s w => ⟨seizeInPulseEnd_noise, seizeInPulseEnd_test, seizeInPulseEnd_malformed, seizeInPulseEnd_seize⟩,
    fun s => crownInChange_low, fun s hcrown hpair hrole hnear => ?race, fun s _ hrole => crownInChange_high hrole,
    fun s => seizeTestPulse_sends, fun s => seizeTestPulse_idle, fun s => crownWire_fails, fun s => crownWire_idle,
    fun s hmode hcrown hseizing hlow hfree htime => ?takeover, fun d => ⟨nextEpoch_ne_zero d, fun own high => nextEpoch_of_near⟩,
    fun s => takeover_idle, fun s => seizeFailed_records, fun s => seizeFailed_idle, fun s hstands hbeat => ⟨?retry, ?crowned⟩,
    fun s => seizeRetry_early, fun s => seizeRetry_ends, fun s => seizeOutPulseEnd_ends, fun s => seizeOutPulseEnd_idle,
    fun s v hkey => ⟨pairWrite_quiet (pairCommand_badKey hkey), pairWrite_quiet (pairCommand_badKey hkey)⟩,
    fun s hcrown => ⟨pairWrite_quiet (pairCommand_notCrowned hfailKey (.inr hfailCmd) hcrown),
      pairWrite_quiet (pairCommand_notCrowned hswapKey (.inl hswapCmd) hcrown)⟩,
    fun s hcrown => ⟨?fail, fun hswap => ?swap, fun hswap => pairWrite_quiet (pairCommand_busy hswapKey hcrown hswapCmd hswap)⟩,
    fun s x => swapHandover_ungranted, fun s x => swapHandover_granted⟩
  case seized => exact seizeAccepted_releases hcrown
  case race => exact crownInChange_releases hcrown hpair hrole hnear
  case takeover => exact takeover_shows hmode hcrown hseizing hlow hfree htime
  case retry =>
    intro hmode hcrown hidle
    have hretry := seizeRetry_due hstands hbeat
    rw [seize_pulses hmode hcrown hidle] at hretry
    exact hretry
  case crowned =>
    intro hcrown
    have hretry := seizeRetry_due hstands hbeat
    rw [seize_crowned hcrown] at hretry
    exact hretry
  case fail => exact prcFail_shows hfailKey hfailCmd hcrown
  case swap => exact swap_shows hswapKey hswapCmd hcrown hswap

end Sys2Proof.Machine
end

section
/-! SUPPORT. The safety monitor and the Osiraka layer: what a cycle, a trip and the PDUs sent with it leave of the monitor, the reset
sequence, the off-pulse test, PDUs received, connections that expire. -/
namespace Sys2Proof.Machine

/-! ### What does not reach the monitor's unit -/

theorem foldl_sfm {α : Type} {g : Dev → α → Dev} {l : List α} {d : Dev} (hg : ∀ e a, (g e a).sfm = e.sfm) :
    (l.foldl g d).sfm = d.sfm :=
  List.foldlRecOn (motive := fun e : Dev => e.sfm = d.sfm) l g rfl fun e he a _ => (hg e a).trans he

theorem ite_sfm {p : Prop} [Decidable p] {d e : Dev} {x : SfmDev} (hd : d.sfm = x) (he : e.sfm = x) : (if p then d else e).sfm = x := by
  split
  · exact hd
  · exact he

section
variable (d : Dev) (c : Cfg)

/-! Outputs and the hack unit (R361, R432, R483) -/

theorem driveGroup_sfm (slow : Bool) (lead : Nat) : (d.driveGroup c slow lead).sfm = d.sfm := foldl_sfm fun _ _ => rfl

theorem driveOutputs_sfm (slow : Bool) : (d.driveOutputs c slow).sfm = d.sfm := foldl_sfm fun e k => driveGroup_sfm e c slow k

theorem showSfm_sfm : (d.showSfm c).sfm = d.sfm := by
  unfold Dev.showSfm
  rw [Dev.putF_sfm, Dev.putB_sfm, Dev.putB_sfm, Dev.putF_sfm, Dev.putB_sfm]

theorem sfmDrive_sfm : (d.sfmDrive c).sfm = d.sfm := by
  unfold Dev.sfmDrive
  rw [showSfm_sfm, driveOutputs_sfm]

theorem want_sfm (cause target : Nat) : (d.want cause target).sfm = d.sfm := by rw [want_modes]

theorem hackTrigger_sfm (src : Nat) : (d.hackTrigger c src).sfm = d.sfm := by
  unfold Dev.hackTrigger
  refine ite_sfm rfl ?_
  dsimp only
  split
  · rfl
  · split
    · exact ite_sfm rfl rfl
    · rfl

/-! Frames that leave (R385, R387, R399, R412) -/

theorem classDrop_sfm (cls n : Nat) : (d.classDrop cls n).sfm = d.sfm := by
  unfold Dev.classDrop
  refine ite_sfm rfl ?_
  dsimp only
  rw [Dev.eventSec_sfm]
  exact ite_sfm rfl rfl

theorem txEvent_sfm (n : Nat) (e : CanEntry) (outcome : Nat) : (d.txEvent n e outcome).sfm = d.sfm := by
  unfold Dev.txEvent
  dsimp only
  rw [Dev.putF_sfm]
  exact ite_sfm (Dev.sat_sfm _ _ _ _ _) rfl

theorem showFifo_sfm (n : Nat) : (d.showFifo n).sfm = d.sfm := Dev.putF_sfm _ _ _ _ _

theorem fifoLeave_sfm (n : Nat) (p : CanEntry → Bool) (outcome : Nat) : (d.fifoLeave n p outcome).sfm = d.sfm := by
  unfold Dev.fifoLeave
  rw [showFifo_sfm]
  exact foldl_sfm fun e a => txEvent_sfm e n a outcome

theorem txFailed_sfm (n : Nat) : (d.txFailed n).sfm = d.sfm := by
  unfold Dev.txFailed
  rw [Dev.eventSec_sfm]
  rfl

theorem hushFifo_sfm (n : Nat) : (d.hushFifo n).sfm = d.sfm := by
  unfold Dev.hushFifo
  rw [classDrop_sfm, classDrop_sfm, Dev.sat_sfm, fifoLeave_sfm]

theorem fifoPut_sfm (n : Nat) (e : CanEntry) : (d.fifoPut c n e).sfm = d.sfm := by
  unfold Dev.fifoPut
  extract_lets x kept f
  have hqueued : f.sfm = d.sfm := showFifo_sfm (d.putCan n { x with fifo := x.fifo ++ [e] }) n
  clear_value f
  refine ite_sfm rfl (ite_sfm ?_ (ite_sfm ((hushFifo_sfm f n).trans hqueued) hqueued))
  rw [txFailed_sfm, Dev.sat_sfm]

theorem canStart_sfm (n : Nat) (won : Bool) (sub : Nat) : (d.canStart c n won sub).sfm = d.sfm := by
  unfold Dev.canStart
  refine ite_sfm rfl (ite_sfm ?_ (ite_sfm rfl rfl))
  split
  · rfl
  · rfl

theorem priRequest_sfm (n p : Nat) (data : List Byte) : (d.priRequest c n p data).sfm = d.sfm :=
  ite_sfm rfl (ite_sfm (canStart_sfm _ c n true 0) rfl)

theorem ethSend_sfm (n : Nat) (f : EthTx) : (d.ethSend c n f).sfm = d.sfm := by
  unfold Dev.ethSend Dev.putQueue
  refine ite_sfm ?_ (ite_sfm (Dev.putF_sfm _ _ _ _ _) rfl)
  rw [Dev.event_sfm, Dev.bump_sfm]

end

/-! ### What the monitor counts by, and the trip requests of the loops (R353, R357) -/

/-- From `d` to `e` neither the monitor's cycle nor the trip requests of the loops have changed. -/
structure MonitorKept (d e : Dev) : Prop where
  cycle : e.sfm.cycle = d.sfm.cycle
  loopTrip : e.sfm.loopTrip = d.sfm.loopTrip

namespace MonitorKept

variable {d e f : Dev}

theorem refl (d : Dev) : MonitorKept d d := ⟨rfl, rfl⟩

theorem trans (h : MonitorKept d e) (g : MonitorKept e f) : MonitorKept d f := ⟨g.cycle.trans h.cycle, g.loopTrip.trans h.loopTrip⟩

/-- A change of other units. -/
theorem units (h : e.sfm = d.sfm) : MonitorKept d e := ⟨congrArg SfmDev.cycle h, congrArg SfmDev.loopTrip h⟩

theorem foldl {α : Type} {g : Dev → α → Dev} (l : List α) (hg : ∀ e a, MonitorKept e (g e a)) : MonitorKept d (l.foldl g d) :=
  List.foldlRecOn l g (.refl d) fun e he a _ => he.trans (hg e a)

theorem ite {p : Prop} [Decidable p] (he : MonitorKept d e) (hf : MonitorKept d f) : MonitorKept d (if p then e else f) := by
  split
  · exact he
  · exact hf

end MonitorKept

section
variable (d : Dev) (c : Cfg)

theorem putConn_monitorKept (k : Nat) (x : ConnDev) : MonitorKept d (d.putConn k x) := ⟨rfl, rfl⟩

/-- A PDU that leaves changes the connection and what has been sent; its carrier is another unit. -/
theorem osiSend_monitorKept (k typ : Nat) (p : List Byte) (path : OsiPath) : MonitorKept d (d.osiSend c k typ p path) := by
  unfold Dev.osiSend
  extract_lets x port slot pdu e bytes sfm f g
  have hnumbered : MonitorKept d f := ⟨rfl, rfl⟩
  clear_value f
  have hsent : MonitorKept d g := .ite (hnumbered.trans (.units (Dev.event_sfm _ _ _))) hnumbered
  clear_value g
  refine hsent.trans (.ite ?can (.ite ?eth (.refl g)))
  case can =>
    split
    · split
      · exact .refl g
      · exact .units (priRequest_sfm g c _ _ _)
    all_goals exact .units (fifoPut_sfm g c _ _)
  case eth => exact .units (ethSend_sfm g c _ _)

theorem sendStops_monitorKept : MonitorKept d (d.sendStops c) := by
  unfold Dev.sendStops
  extract_lets ks e
  have hstops : MonitorKept d e := .foldl ks fun e k => (putConn_monitorKept e k _).trans (osiSend_monitorKept _ c k 1 _ .class0)
  clear_value e
  exact .ite hstops (hstops.trans (.units (Dev.event_sfm _ _ _)))

/-! ### Trips and faults (R352, R358) -/

theorem sfmTrip_monitorKept (cause : Nat) : MonitorKept d (d.sfmTrip c cause) := by
  unfold Dev.sfmTrip
  refine .trans (.units ?off) (.trans (sendStops_monitorKept _ c) (.units (want_sfm _ _ _)))
  case off => rw [Dev.event_sfm, sfmDrive_sfm, hackTrigger_sfm, Dev.putB_sfm]

theorem sfmFault_monitorKept (bits : List Nat) : MonitorKept d (d.sfmFault c bits) := by
  unfold Dev.sfmFault
  extract_lets e
  have hlatched : MonitorKept d e := .foldl bits fun e b => .ite (.refl e) (.units (by rw [Dev.event_sfm, Dev.putB_sfm]))
  clear_value e
  exact .ite (hlatched.trans (sfmTrip_monitorKept e c 0x0D)) hlatched

/-! ### The cycle (R353, R355, R357) -/

theorem instCycle_monitorKept (i : Nat) : MonitorKept d (d.instCycle c i) := .ite ⟨rfl, rfl⟩ ⟨rfl, rfl⟩

end

/-- One period of the monitor's oscillator. -/
def Dev.countCycle (d : Dev) : Dev := { d with sfm := { d.sfm with cycle := d.sfm.cycle + 1 } }

/-- Before Configure nothing is evaluated: no violation, no count and no request of a loop stands. -/
def Dev.clearMonitor (d : Dev) : Dev :=
  { d with sfm := { d.sfm with insts := [], hist := [], loopTrip := false, stuck := [] } }.putN SFM.VIOL 0

/-- What a cycle tests by its number: the age of the arm, once a second the configuration's CRC. -/
def Dev.timedChecks (d : Dev) (c : Cfg) : Dev :=
  let e := if armOver d then d.putB SFM.STAT 8 false else d
  if e.sfm.cycle % 1000 = 0 then e.putN SFM.CFG_CRC (sfmCrc c.w) else e

/-- The supervisions SLS, SLP and SDI, each by the counts of its source. -/
def Dev.supervise (d : Dev) (c : Cfg) : Dev := ((List.range 24).foldl (fun e i => e.instCycle c i) d).readCounts

/-- The violations of the cycle: an event for each new one, VIOL and VIOL_SEEN. -/
def Dev.recordViolations (d : Dev) (c : Cfg) (word : Word) : Dev :=
  let old := d.w SFM.VIOL
  let e := (List.range 29).foldl (fun e b => if bit word b && !bit old b then e.event 0x0901 [(b : Int), violValue c e b] else e) d
  (e.put SFM.VIOL word).put SFM.VIOL_SEEN (e.w SFM.VIOL_SEEN ||| word)

/-- The trip requests of the loops have been taken. -/
def Dev.takeLoopTrip (d : Dev) : Dev := { d with sfm := { d.sfm with loopTrip := false } }

/-- What follows from diagnostics and violations: faults, trips, the outputs. -/
def Dev.actOnCycle (d : Dev) (c : Cfg) (diag : SfmDiag) (word : Word) : Dev :=
  let e := (d.countStuck c).sfmFault c (diagBits diag ++ ownDiag c (d.countStuck c))
  let f := if word != 0 && !e.b SFM.STAT 0 && decide (6 ≤ sfmMode e ∧ sfmMode e ≤ 10) then e.sfmTrip c 0x0C else e
  f.sfmDrive c

/-- A cycle in a mode in which the monitor evaluates. -/
def Dev.evaluateCycle (d : Dev) (c : Cfg) (diag : SfmDiag) : Dev :=
  let e := (d.timedChecks c).supervise c
  let word := wd (violWord c e)
  (e.recordViolations c word).takeLoopTrip.actOnCycle c diag word

section
variable (d : Dev) (c : Cfg)

theorem takeLoopTrip_cycle : d.takeLoopTrip.sfm.cycle = d.sfm.cycle := rfl
theorem takeLoopTrip_loopTrip : d.takeLoopTrip.sfm.loopTrip = false := rfl

theorem timedChecks_monitorKept : MonitorKept d (d.timedChecks c) := by
  have harm : (if armOver d then d.putB SFM.STAT 8 false else d).sfm = d.sfm := ite_sfm (Dev.putB_sfm _ _ _ _) rfl
  exact .units (ite_sfm ((Dev.putN_sfm _ _ _).trans harm) harm)

theorem supervise_monitorKept : MonitorKept d (d.supervise c) :=
  (MonitorKept.foldl _ fun e i => instCycle_monitorKept e c i).trans ⟨rfl, rfl⟩

theorem recordViolations_monitorKept (word : Word) : MonitorKept d (d.recordViolations c word) := by
  unfold Dev.recordViolations
  extract_lets old e
  have hevents : e.sfm = d.sfm := foldl_sfm fun e b => ite_sfm (Dev.event_sfm _ _ _) rfl
  exact .units hevents

theorem actOnCycle_monitorKept (diag : SfmDiag) (word : Word) : MonitorKept d (d.actOnCycle c diag word) := by
  unfold Dev.actOnCycle
  extract_lets e f
  have hstuck : MonitorKept d (d.countStuck c) := ⟨rfl, rfl⟩
  have hfaults : MonitorKept d e := hstuck.trans (sfmFault_monitorKept _ c _)
  have htrips : MonitorKept d f := .ite (hfaults.trans (sfmTrip_monitorKept e c 0x0C)) hfaults
  exact htrips.trans (.units (sfmDrive_sfm f c))

/-- An evaluated cycle leaves the count, and no request of a loop. -/
theorem evaluateCycle_sfm (diag : SfmDiag) :
    (d.evaluateCycle c diag).sfm.cycle = d.sfm.cycle ∧ (d.evaluateCycle c diag).sfm.loopTrip = false := by
  unfold Dev.evaluateCycle
  extract_lets e word
  have hrecorded : MonitorKept d (e.recordViolations c word) :=
    ((timedChecks_monitorKept d c).trans (supervise_monitorKept _ c)).trans (recordViolations_monitorKept e c word)
  have hacted := actOnCycle_monitorKept (e.recordViolations c word).takeLoopTrip c diag word
  exact ⟨hacted.cycle.trans ((takeLoopTrip_cycle _).trans hrecorded.cycle), hacted.loopTrip.trans (takeLoopTrip_loopTrip _)⟩

/-! ### The registers that show the monitor (R360, R361, Table 15.8) -/

/-- The registers that show the field outputs (R434). -/
def outputKeys : List Nat := FIO.OUT_DRIVEN :: FIO.OUT_SENSE :: (List.range 16).map FIO.OUT_STAT

theorem outStat_mem_outputKeys {k : Nat} (h : k < 16) : FIO.OUT_STAT k ∈ outputKeys :=
  List.mem_cons_of_mem _ (List.mem_cons_of_mem _ (List.mem_map_of_mem (List.mem_range.mpr h)))

theorem regsKept_foldl {α : Type} {ks : List Nat} {g : Dev → α → Dev} {l : List α} {d e : Dev} (hd : RegsKept ks d e)
    (hg : ∀ e, ∀ a ∈ l, RegsKept ks e (g e a)) : RegsKept ks d (l.foldl g e) :=
  List.foldlRecOn l g hd fun e he a ha => regsKept_trans he (hg e a ha)

theorem showOut_regsKept (lead : Nat) {k : Nat} (h : k < 16) : RegsKept outputKeys d (d.showOut c lead k) :=
  regsKept_put (regsKept_put (regsKept_put regsKept_refl _ (outStat_mem_outputKeys h)) _ (by simp [outputKeys])) _
    (by simp [outputKeys])

theorem driveGroup_regsKept (slow : Bool) (lead : Nat) : RegsKept outputKeys d (d.driveGroup c slow lead) := by
  unfold Dev.driveGroup
  extract_lets o want fast next e
  have hregs : RegsKept outputKeys d e := regsKept_congr regsKept_refl rfl
  exact regsKept_foldl hregs fun e k hk => showOut_regsKept e c lead (outMembers_lt c hk)

theorem driveOutputs_regsKept (slow : Bool) : RegsKept outputKeys d (d.driveOutputs c slow) :=
  regsKept_foldl regsKept_refl fun e k _ => driveGroup_regsKept e c slow k

theorem showSfm_regsKept : RegsKept [SFM.STAT] d (d.showSfm c) := by
  unfold Dev.showSfm
  have hkey : SFM.STAT ∈ [SFM.STAT] := List.mem_singleton_self _
  exact regsKept_put (regsKept_put (regsKept_put (regsKept_put (regsKept_put regsKept_refl _ hkey) _ hkey) _ hkey) _ hkey) _ hkey

theorem showSfm_occ : (d.showSfm c).occ = d.occ := by
  unfold Dev.showSfm
  rw [Dev.putF_occ, Dev.putB_occ, Dev.putB_occ, Dev.putF_occ, Dev.putB_occ]

/-- Showing the monitor leaves ARMED as the reset sequence or its age has set it. -/
theorem showSfm_armed : (d.showSfm c).b SFM.STAT 8 = d.b SFM.STAT 8 := by
  unfold Dev.showSfm
  rw [Dev.b_putF_apart _ _ _ (by omega) (by omega), Dev.b_putB_apart _ _ _ (by omega) (by omega),
    Dev.b_putB_apart _ _ _ (by omega) (by omega), Dev.b_putF_apart _ _ _ (by omega) (by omega),
    Dev.b_putB_apart _ _ _ (by omega) (by omega)]

theorem sfmDrive_w {k : Nat} (hout : k ∉ outputKeys) (hstat : k ≠ SFM.STAT) : (d.sfmDrive c).w k = d.w k := by
  unfold Dev.sfmDrive
  extract_lets bits removed wait
  rw [showSfm_regsKept _ c k (by simpa using hstat), driveOutputs_regsKept _ c false k hout]
  rfl

theorem sfmDrive_armed : (d.sfmDrive c).b SFM.STAT 8 = d.b SFM.STAT 8 := by
  unfold Dev.sfmDrive
  extract_lets bits removed wait
  rw [showSfm_armed, Dev.b, driveOutputs_regsKept _ c false SFM.STAT (by decide)]
  rfl

end

section
variable {s : State}

theorem sfmCycle_clears (diag : SfmDiag) (h : s.dev.mode ≤ 2) :
    exec (.sfmCycle diag) s = .next { s with dev := s.dev.countCycle.clearMonitor.showSfm s.cfg } := next_dev (if_pos h)

theorem sfmCycle_evaluates (diag : SfmDiag) (h : 3 ≤ s.dev.mode) :
    exec (.sfmCycle diag) s = .next { s with dev := s.dev.countCycle.evaluateCycle s.cfg diag } :=
  next_dev (if_neg (Nat.not_le.mpr h))

theorem sfmCycle_clears_shows (diag : SfmDiag) (h : s.dev.mode ≤ 2) :
    ∃ t, exec (.sfmCycle diag) s = .next t ∧ UnitsOnly s t ∧ t.dev.sfm.cycle = s.dev.sfm.cycle + 1 ∧ t.dev.sfm.insts = []
      ∧ t.dev.sfm.loopTrip = false ∧ t.dev.w SFM.VIOL = 0 ∧ t.dev.occ = s.dev.occ := by
  have hsfm : (s.dev.countCycle.clearMonitor.showSfm s.cfg).sfm
      = { s.dev.countCycle.sfm with insts := [], hist := [], loopTrip := false, stuck := [] } := by
    rw [showSfm_sfm, Dev.clearMonitor, Dev.putN_sfm]
  refine ⟨_, sfmCycle_clears diag h, rfl, ?_, ?_, ?_, ?_, ?_⟩
  · exact congrArg SfmDev.cycle hsfm
  · exact congrArg SfmDev.insts hsfm
  · exact congrArg SfmDev.loopTrip hsfm
  · rw [showSfm_regsKept _ _ _ (by decide), Dev.clearMonitor, Dev.w_putN_self]
    rfl
  · rw [showSfm_occ, Dev.clearMonitor, Dev.putN_occ]
    rfl

/-! ### The off-pulse test (R362) -/

/-- The test of output 12 + k is done at cycle `t`. -/
def Dev.noteOffPulse (d : Dev) (k t : Nat) : Dev :=
  { d with sfm := { d.sfm with cycle := t, opCycle := Assoc.set 0 d.sfm.opCycle k t } }

variable {out : Fin 4}

theorem offPulse_due (hon : s.cfg.b SFM.CFG 4 = true) (htested : (testedOuts s.cfg).contains out.val = true)
    (hdriven : (s.dev.out (12 + out.val)).driven = true) (fell : Bool) :
    exec (.offPulseTest out fell) s = .next { s with
      dev :=
        let d := s.dev.noteOffPulse out.val (opDue s.cfg s.dev out.val)
        if fell then d.bump SFM.OP_CNT else (d.event 0x0907 [((12 + out.val : Nat) : Int)]).sfmFault s.cfg [6] } :=
  next_dev (if_neg (by simp only [hon, htested, hdriven]; decide))

theorem offPulse_idle (fell : Bool) (h : s.cfg.b SFM.CFG 4 = false ∨ (s.dev.out (12 + out.val)).driven = false) :
    exec (.offPulseTest out fell) s = .next s := next_same (if_pos (by rcases h with h | h <;> simp [h]))

/-! ### The reset sequence (R363) -/

theorem resetArm_badKey {value : Word} (h : fld value 16 16 ≠ 0x2E5D) :
    exec (.resetArm value) s = .next { s with bus := .done 0, dev := (s.dev.putF SFM.RESET_RES 0 4 4).event 0x0906 [4] } :=
  done_dev (if_pos (by simpa using h))

theorem resetArm_outside {value : Word} (hkey : fld value 16 16 = 0x2E5D) (hmode : s.dev.mode ≠ 11) :
    exec (.resetArm value) s = .next { s with bus := .done 0, dev := (s.dev.putF SFM.RESET_RES 0 4 3).event 0x0906 [3] } :=
  done_dev
    ((if_neg (by simp [hkey])).trans (if_pos (by simpa using hmode)))

theorem resetArm_arms {value : Word} (hkey : fld value 16 16 = 0x2E5D) (hmode : s.dev.mode = 11) :
    let d := ({ s.dev with sfm := { s.dev.sfm with armCycle := some s.dev.sfm.cycle } } : Dev).putB SFM.STAT 8 true
    exec (.resetArm value) s = .next { s with bus := .done 0, dev := ((d.putF SFM.RESET_RES 0 4 1).event 0x0904).showSfm s.cfg } :=
  done_dev ((if_neg (by simp [hkey])).trans (if_neg (by simp [hmode])))

theorem resetArmExpiry_ends {a : Nat} (harmed : s.dev.b SFM.STAT 8 = true) (hat : s.dev.sfm.armCycle = some a) :
    let d := ({ s.dev with sfm := { s.dev.sfm with cycle := max s.dev.sfm.cycle (a + 10000) } } : Dev).putB SFM.STAT 8 false
    exec .resetArmExpiry s = .next { s with dev := d.showSfm s.cfg } :=
  next_dev ((if_neg (by simp [harmed])).trans (by rw [hat, Option.getD_some]))

theorem resetArmExpiry_idle (h : s.dev.b SFM.STAT 8 = false) : exec .resetArmExpiry s = .next s := next_same (if_pos (by simp [h]))

theorem resetInput_off (h : s.cfg.b SFM.RST_CFG 7 = false) :
    exec .resetInputRise s = .next s ∧ exec .resetInputTrailing s = .next s :=
  ⟨next_same (if_pos (by simp [h])), next_same (if_pos (by simp [h]))⟩

theorem resetInputRise_notes (h : s.cfg.b SFM.RST_CFG 7 = true) :
    exec .resetInputRise s = .next { s with dev := { s.dev with sfm := { s.dev.sfm with riseCycle := some s.dev.sfm.cycle } } } :=
  next_dev (if_neg (by simp [h]))

end

/-- A trailing edge uses up the arm: its age and the number of edges show, ARMED clears. -/
def Dev.useArm (d : Dev) : Dev :=
  let age := match d.sfm.armCycle with | none => 0 | some a => (d.sfm.cycle - a) / 100
  let e : Dev := { d with sfm := { d.sfm with armCycle := none } }
  ((e.putF SFM.RESET_RES 8 8 (satU 8 age)).wrap SFM.RESET_RES 16 16 1).putB SFM.STAT 8 false

/-- The edge's code shows; DONE clears TRIPPED and leaves Lock-out. -/
def Dev.concludeReset (d : Dev) (code : Nat) : Dev :=
  let e := d.resetResult code
  if code = 2 then (e.putB SFM.STAT 0 false).want 0x0E 6 else e

section
variable (d : Dev) (c : Cfg) (code : Nat)

theorem trailingCode_lt : trailingCode c d < 16 := by
  unfold trailingCode
  dsimp only
  repeat' split
  all_goals omega

theorem resetResult_sfm : (d.resetResult code).sfm = d.sfm := ite_sfm rfl (ite_sfm rfl rfl)

theorem resetResult_w (k : Nat) : (d.resetResult code).w k = (d.putF SFM.RESET_RES 0 4 code).w k := by
  unfold Dev.resetResult
  dsimp only
  split
  · rfl
  · split <;> rfl

theorem concludeReset_sfm : (d.concludeReset code).sfm = d.sfm := by
  refine ite_sfm ?_ (resetResult_sfm d code)
  rw [want_sfm, Dev.putB_sfm, resetResult_sfm]

/-- Beside the result a conclusion may write TRIPPED alone. -/
theorem concludeReset_w {k : Nat} (h : k ≠ SFM.STAT) : (d.concludeReset code).w k = (d.putF SFM.RESET_RES 0 4 code).w k := by
  unfold Dev.concludeReset
  dsimp only
  split
  · rw [w_want, Dev.w_putB_ne _ _ _ h, resetResult_w]
  · exact resetResult_w d code k

theorem concludeReset_armed : (d.concludeReset code).b SFM.STAT 8 = d.b SFM.STAT 8 := by
  have hresult : (d.resetResult code).b SFM.STAT 8 = d.b SFM.STAT 8 := by
    rw [Dev.b, resetResult_w]
    exact Dev.b_putF_ne d _ _ _ _ (by decide)
  unfold Dev.concludeReset
  dsimp only
  split
  · rw [Dev.b, w_want]
    exact (Dev.b_putB_apart _ _ _ (by omega) (by omega)).trans hresult
  · exact hresult

end

section
variable {s : State}

theorem resetInputTrailing_concludes (h : s.cfg.b SFM.RST_CFG 7 = true) :
    exec .resetInputTrailing s = .next { s with
      dev := (s.dev.useArm.concludeReset (trailingCode s.cfg s.dev)).sfmDrive s.cfg } :=
  next_dev (if_neg (by simp [h]))

theorem resetInputTrailing_shows (h : s.cfg.b SFM.RST_CFG 7 = true) :
    ∃ t, exec .resetInputTrailing s = .next t ∧ UnitsOnly s t ∧ t.dev.b SFM.STAT 8 = false ∧ t.dev.sfm.armCycle = none
      ∧ t.dev.f SFM.RESET_RES 0 4 = trailingCode s.cfg s.dev := by
  refine ⟨_, resetInputTrailing_concludes h, rfl, ?_, ?_, ?_⟩
  · rw [sfmDrive_armed, concludeReset_armed]
    exact Dev.b_putB_self _ _ _ (by omega)
  · rw [sfmDrive_sfm, concludeReset_sfm]
    rfl
  · rw [Dev.f, sfmDrive_w _ _ (by decide) (by decide), concludeReset_w _ _ (by decide)]
    exact f_putF_fits _ _ (by omega) (trailingCode_lt _ _)

/-! ### Heartbeats (R369) -/

theorem osiHeartbeat_idle (conn : Fin 32) (h : s.dev.mode ≠ 3) : exec (.osiHeartbeat conn) s = .next s :=
  next_same (if_neg (by simp [h]))

theorem osiHeartbeat_first {conn : Fin 32} (hmode : s.dev.mode = 3) (hramp : s.dev.modes.rampBeat = false)
    (hpair : precond s.cfg s.dev 3 = true) (hsend : (sendConns s.cfg).contains conn.val = true)
    (hnone : (s.dev.conn conn.val).hbTick = none) :
    let d := s.dev.putConn conn.val { s.dev.conn conn.val with hbTick := some s.dev.tick }
    exec (.osiHeartbeat conn) s = .next { s with dev := d.osiSend s.cfg conn.val 2 [] .port } :=
  next_dev ((if_pos (by simp only [hmode, hramp, hpair, hsend]; decide)).trans (by simp only [hnone]))

/-! ### PDUs received (R366, R371, R372) -/

variable {port : Fin 16} {frame : List Byte}

theorem pduMalformed_of_short {n : Nat} (h : frame.length < 14) : pduMalformed n frame = true := by simp [pduMalformed, h]

/-- A PDU that keeps the format rules names its connection. -/
theorem length_of_wellFormed {n : Nat} (h : pduMalformed n frame = false) : 14 ≤ frame.length := by
  by_contra hshort
  rw [pduMalformed_of_short (Nat.not_le.mp hshort)] at h
  exact Bool.noConfusion h

/-- A PDU too short to name its connection. -/
theorem osiPduReceive_short (h : frame.length < 4) :
    exec (.osiPduReceive port frame) s = .next { s with
      dev := (s.dev.bump SFM.OSI_DISC_CNT).eventSec 0x090A (64 + port.val) [(port.val : Int), 1] } := by
  refine next_dev ((if_pos (pduMalformed_of_short (by omega))).trans ?_)
  rw [if_pos h]
  rfl

theorem osiPduReceive_stray (h : pduMalformed port.val frame = false)
    (hnone : (recvConns s.cfg).find? (fun k => osiPort s.cfg k = port.val && osiId s.cfg k = leAt frame 2 2) = none) :
    exec (.osiPduReceive port frame) s = .next { s with
      dev := (s.dev.bump SFM.OSI_DISC_CNT).eventSec 0x090A (64 + port.val) [(port.val : Int), 2] } := by
  have hlength := length_of_wellFormed h
  refine next_dev ((if_neg (Bool.eq_false_iff.mp h)).trans ?_)
  rw [if_neg (by omega), hnone]
  rfl

/-- A PDU whose CRC is right is accepted in IDLE, as a RESYNC, or with the next number. -/
theorem osiPduReceive_accepts {k : Nat} (h : pduMalformed port.val frame = false)
    (hconn : (recvConns s.cfg).find? (fun k => osiPort s.cfg k = port.val && osiId s.cfg k = leAt frame 2 2) = some k)
    (hcrc : crc32cFrom (s.cfg.w (SFM.OSI_IDENT k)).toNat (frame.take (10 + leAt frame 1 1)) = leAt frame (10 + leAt frame 1 1) 4)
    (horder : s.dev.f (SFM.OSI_STAT k) 0 2 = 0 ∨ leAt frame 0 1 % 16 = 3 ∨ seqDiff 16 (leAt frame 4 2) (s.dev.conn k).seq = 1) :
    exec (.osiPduReceive port frame) s = .next { s with
      dev := (s.dev.putConn k { s.dev.conn k with seq := leAt frame 4 2 }).osiAccept s.cfg k frame } := by
  have hlength := length_of_wellFormed h
  refine next_dev ((if_neg (Bool.eq_false_iff.mp h)).trans ?_)
  rw [if_neg (by omega), hconn]
  refine (if_neg (by simp [hcrc])).trans ?_
  split
  next => rfl
  next hrun =>
    have hnext : seqDiff 16 (leAt frame 4 2) (s.dev.conn k).seq = 1 := by
      rw [Bool.or_eq_true, decide_eq_true_eq, decide_eq_true_eq, not_or] at hrun
      exact (horder.resolve_left hrun.1).resolve_left hrun.2
    simp [hnext]

/-! ### Time expectations (R371, R372) -/

theorem osiExpiry_falls {conn : Fin 32} {t0 : Nat} (hrecv : (recvConns s.cfg).contains conn.val = true)
    (hrun : s.dev.f (SFM.OSI_STAT conn.val) 0 2 = 2) (hat : (s.dev.conn conn.val).expire = some t0) :
    let d := (s.dev.advanceTo t0).putConn conn.val { s.dev.conn conn.val with expire := none, good := 0 }
    let e := d.repeatStale s.cfg ((s.cfg.f SFM.OSI_CFG 0 16 + conn.val) % 65536)
    exec (.osiExpiry conn) s = .next { s with dev := (e.putF (SFM.OSI_STAT conn.val) 0 2 1).event 0x0908 [(conn.val : Int)] } := by
  refine next_dev ?_
  simp only [hat]
  refine (if_neg (by simp only [hrecv, hrun]; decide)).trans ((if_pos hrun).trans ?_)
  rw [if_pos hrun]
  rfl

theorem osiExpiry_idle {conn : Fin 32} (h : s.dev.f (SFM.OSI_STAT conn.val) 0 2 = 0 ∨ (s.dev.conn conn.val).expire = none) :
    exec (.osiExpiry conn) s = .next s := by
  refine next_same ?_
  dsimp only
  split
  next => rfl
  next t hat => exact if_pos (by simp [h.resolve_right (by simp [hat])])

end

/-- Settles O33: the cycle, the off-pulse test, the reset sequence, then the connections: what leaves, arrives and expires. -/
theorem safetyMonitor : Obligations.SafetyMonitor := by
  refine ⟨fun s diag => sfmCycle_clears_shows diag, fun s diag hmode => ?evaluated, fun s out => ?pulse,
    fun s out fell => offPulse_idle fell, fun s value => resetArm_badKey, fun s value => resetArm_outside,
    fun s value => resetArm_arms, fun s a => resetArmExpiry_ends, fun s => resetArmExpiry_idle, fun s => resetInput_off,
    fun s h => ⟨resetInputRise_notes h, resetInputTrailing_shows h⟩, fun s conn => osiHeartbeat_idle conn,
    fun s conn => osiHeartbeat_first, fun s port frame => osiPduReceive_short,
    fun s port frame hform hnone => ?stray, fun s port frame k => osiPduReceive_accepts, fun s conn t0 => osiExpiry_falls,
    fun s conn => osiExpiry_idle⟩
  case evaluated =>
    obtain ⟨hcycle, htrip⟩ := evaluateCycle_sfm s.dev.countCycle s.cfg diag
    exact ⟨_, sfmCycle_evaluates diag hmode, rfl, hcycle, htrip⟩
  case pulse => exact fun hon htested hdriven => ⟨offPulse_due hon htested hdriven true, offPulse_due hon htested hdriven false⟩
  case stray => exact osiPduReceive_stray hform (by rw [hnone]; rfl)

end Sys2Proof.Machine
end

section
/-! SUPPORT. The canonical forms of the memories and of the register maps (log 1): every operation on them keeps the form, and so does every
command; and which commands leave the memories alone. -/
namespace Sys2Proof.Machine
-- One proof after another: proofs that wait for each other would each hold a thread and its stack.
set_option Elab.async false

/-! ### Register maps (R503) -/

/-- A register map in its canonical form. -/
def RegMap.Ok (m : RegMap) : Prop := Assoc.wf regReset m = true

theorem RegMap.ok_set {m : RegMap} (h : RegMap.Ok m) (k : Nat) (v : Word) : RegMap.Ok (Assoc.set (regReset k) m k v) :=
  Assoc.wf_set regReset k v h

theorem RegMap.ok_putAll (es : List (Nat × Word)) {m : RegMap} (h : RegMap.Ok m) : RegMap.Ok (putAll es m) := by
  induction es generalizing m with
  | nil => exact h
  | cons e es ih => exact ih (RegMap.ok_set h e.1 e.2)

/-- Pages taken from any list of values leave a canonical map: each value goes in by its key. -/
theorem RegMap.ok_mergePages (ps : List Nat) (src : RegMap) {dst : RegMap} (h : RegMap.Ok dst) : RegMap.Ok (mergePages ps src dst) :=
  RegMap.ok_putAll _ (Assoc.wf_filter regReset _ h)

theorem registersOk_iff (s : State) : RegistersOk s ↔ RegMap.Ok s.cfg.live ∧ RegMap.Ok s.cfg.shadow := Iff.rfl

/-! ### What keeps both forms -/

/-- Where the memories and the register maps of `s` have their form, those of `t` have it. -/
structure KeepsForm (s t : State) : Prop where
  memory : MemoryOk s → MemoryOk t
  registers : RegistersOk s → RegistersOk t

namespace KeepsForm

theorem trans {s t u : State} (h : KeepsForm s t) (g : KeepsForm t u) : KeepsForm s u :=
  ⟨fun m => g.memory (h.memory m), fun r => g.registers (h.registers r)⟩

/-- Neither the memory nor a map has changed. -/
theorem same {s t : State} (hmem : t.store.mem = s.store.mem) (hlive : t.cfg.live = s.cfg.live) (hshadow : t.cfg.shadow = s.cfg.shadow) :
    KeepsForm s t :=
  ⟨fun m => by rw [MemoryOk, hmem]; exact m, fun r => by rw [RegistersOk, hlive, hshadow]; exact r⟩

/-- After a change to the units alone, what `t` keeps. -/
theorem after {s t u : State} (h : KeepsForm t u) (hmem : t.store.mem = s.store.mem := by rfl) (hlive : t.cfg.live = s.cfg.live := by rfl)
    (hshadow : t.cfg.shadow = s.cfg.shadow := by rfl) : KeepsForm s u := (same hmem hlive hshadow).trans h

/-- Before a change to the units alone. -/
theorem before {s t u : State} (h : KeepsForm s t) (hmem : u.store.mem = t.store.mem := by rfl) (hlive : u.cfg.live = t.cfg.live := by rfl)
    (hshadow : u.cfg.shadow = t.cfg.shadow := by rfl) : KeepsForm s u := h.trans (same hmem hlive hshadow)

theorem ofStore {s t : State} (hmem : Memory.wf s.store.mem = true → Memory.wf t.store.mem = true) (hcfg : t.cfg = s.cfg) : KeepsForm s t :=
  ⟨hmem, fun r => by rw [RegistersOk, hcfg]; exact r⟩

theorem ofCfg {s t : State} (hlive : RegistersOk s → RegMap.Ok t.cfg.live) (hshadow : RegistersOk s → RegMap.Ok t.cfg.shadow)
    (hmem : t.store.mem = s.store.mem) : KeepsForm s t :=
  ⟨fun m => by rw [MemoryOk, hmem]; exact m, fun r => ⟨hlive r, hshadow r⟩⟩

theorem ite {c : Prop} [Decidable c] {s t u : State} (ht : KeepsForm s t) (hu : KeepsForm s u) : KeepsForm s (if c then t else u) := by
  split
  · exact ht
  · exact hu

theorem foldl {α : Type} {f : State → α → State} (hf : ∀ s a, KeepsForm s (f s a)) (l : List α) (s : State) : KeepsForm s (l.foldl f s) := by
  induction l generalizing s with
  | nil => exact same rfl rfl rfl
  | cons a l ih => exact (hf s a).trans (ih _)

end KeepsForm

/-! ### The operations on the state -/

section
variable (s : State)

theorem ignoreWrite_keepsForm (page : Nat) : KeepsForm s (s.ignoreWrite page) := .same rfl rfl rfl

theorem writeShadow_keepsForm (key : Nat) (mask value : Word) : KeepsForm s (s.writeShadow key mask value) :=
  .ite (ignoreWrite_keepsForm s _) (.ofCfg (fun r => r.1) (fun r => RegMap.ok_set r.2 _ _) rfl)

/-- UTC_OFS has the reset value 0, under which its live and its shadow value are entered (R105). -/
theorem putUtc_keepsForm (v : Word) : KeepsForm s { s with cfg := s.cfg.putUtc v } :=
  .ofCfg (fun r => RegMap.ok_set r.1 TBU.UTC_OFS v) (fun r => RegMap.ok_set r.2 TBU.UTC_OFS v) rfl

theorem sourceUtc_keepsForm (utc : Int) (valid l61 l59 : Bool) : KeepsForm s (s.sourceUtc utc valid l61 l59) :=
  .ite (.same rfl rfl rfl) (putUtc_keepsForm s _)

theorem canHear_keepsForm (n : Nat) (frame : CanFrame) (own : Bool) : KeepsForm s (s.canHear n frame own) :=
  .ite (.after (sourceUtc_keepsForm _ _ _ _ _)) (.same rfl rfl rfl)

/-! Commits (R503 to R516) -/

theorem refusePage_keepsForm (p : Nat) (f : CommitFail) : KeepsForm s (s.refusePage p f) := .same rfl rfl rfl
theorem refuseGroup_keepsForm (n : Nat) (f : CommitFail) : KeepsForm s (s.refuseGroup n f) := .same rfl rfl rfl

theorem recheckWheels_keepsForm : KeepsForm s s.recheckWheels := by
  unfold State.recheckWheels
  extract_lets u
  have hu : KeepsForm s u := .foldl (fun s e => .after (refusePage_keepsForm _ _ _)) _ s
  refine hu.trans ?_
  split
  · exact .same rfl rfl rfl
  · exact .ite (.after (refuseGroup_keepsForm _ _ _)) (.same rfl rfl rfl)

theorem foldl_headerApplied (beat : Nat) (group : Bool) (ps : List Nat) (c : Cfg) :
    (ps.foldl (fun (c : Cfg) p => c.headerApplied beat group p) c).live = c.live
      ∧ (ps.foldl (fun (c : Cfg) p => c.headerApplied beat group p) c).shadow = c.shadow := by
  induction ps generalizing c with
  | nil => exact ⟨rfl, rfl⟩
  | cons p ps ih => exact ih (c.headerApplied beat group p)

theorem foldl_takeImage_wf (staged : List (Nat × Byte)) (q : List Nat → Bool) (bs : List (List Nat × Nat × Nat)) {st : Store}
    (h : Memory.wf st.mem = true) :
    Memory.wf (bs.foldl (fun (st : Store) b => if q b.1 then st.takeImage staged b.2.1 b.2.2 else st) st).mem = true := by
  induction bs generalizing st with
  | nil => exact h
  | cons b bs ih =>
    refine ih ?_
    dsimp only
    split
    · exact Store.wf_takeImage h _ _ _
    · exact h

/-- The pages are applied from their shadows into the live map, image blocks from their staged bytes. -/
theorem applyPages_keepsForm (group : Bool) (ps : List Nat) : KeepsForm s (s.applyPages group ps) := by
  unfold State.applyPages
  extract_lets old c c' st d d' _ d'' u
  have hu : KeepsForm s u := by
    have hheader := foldl_headerApplied s.dev.esc.beat group ps { old with live := mergePages ps old.shadow old.live }
    exact ⟨fun m => foldl_takeImage_wf _ (fun l => l.any ps.contains) imageBlocks m,
      fun r => ⟨hheader.1.symm ▸ RegMap.ok_mergePages ps _ r.1, hheader.2.symm ▸ r.2⟩⟩
  exact .ite (hu.trans (recheckWheels_keepsForm u)) hu

theorem journalCommit_keepsForm (addr value : Nat) (ps : List Nat) : KeepsForm s (s.journalCommit addr value ps) :=
  .ite (.same rfl rfl rfl) (.same rfl rfl rfl)

theorem applyContents_keepsForm (addr : Nat) (es : List (Nat × Word)) : KeepsForm s (s.applyContents addr es) := by
  have hshadow : KeepsForm s { s with
      cfg := { s.cfg with shadow := mergePages (contentPages es) (es.filter (fun e => keyOff e.1 != 0x20)) s.cfg.shadow } } :=
    .ofCfg (fun r => r.1) (fun r => RegMap.ok_mergePages _ _ r.2) rfl
  have happly := hshadow.trans (applyPages_keepsForm _ (addr = SYS.GLOBAL_COMMIT) (contentPages es))
  exact .ite (.before happly) happly

theorem commitPage_keepsForm (p : Nat) : KeepsForm s (s.commitPage p) := by
  unfold State.commitPage
  split
  · exact .after (refusePage_keepsForm _ _ _)
  · exact (applyPages_keepsForm s _ _).trans (journalCommit_keepsForm _ _ _ _)

theorem foldl_putH_maps (f : Nat → Nat) (v : Nat → Word) (ps : List Nat) (c : Cfg) :
    (ps.foldl (fun (c : Cfg) p => c.putH (f p) (v p)) c).live = c.live ∧ (ps.foldl (fun (c : Cfg) p => c.putH (f p) (v p)) c).shadow = c.shadow := by
  induction ps generalizing c with
  | nil => exact ⟨rfl, rfl⟩
  | cons p ps ih => exact ih (c.putH (f p) (v p))

theorem commitGroup_keepsForm (mode value : Nat) : KeepsForm s (s.commitGroup mode value).1 := by
  unfold State.commitGroup
  dsimp only
  split
  · exact .trans (.before (.ite (.same rfl rfl rfl) (applyPages_keepsForm s _ _))) (journalCommit_keepsForm _ _ _ _)
  · next f _ =>
    obtain ⟨hlive, hshadow⟩ := foldl_putH_maps hdrCOMMIT_STAT (s.reportGroup s.groupPages mode f) s.groupPages s.cfg
    exact .after (refuseGroup_keepsForm _ _ _) rfl hlive hshadow

theorem boundaryCommits_keepsForm : KeepsForm s s.boundaryCommits := by
  unfold State.boundaryCommits
  dsimp only
  refine .trans ?_ (.foldl (fun t p => ?_) _ _)
  · split
    · exact .same rfl rfl rfl
    · exact .ite (.after (commitGroup_keepsForm _ _ _)) (.same rfl rfl rfl)
  · split
    · exact .same rfl rfl rfl
    · exact .ite (commitPage_keepsForm _ _) (.same rfl rfl rfl)

theorem modeEdgeCommit_keepsForm : KeepsForm s s.modeEdgeCommit.1 := by
  unfold State.modeEdgeCommit
  split
  · exact .same rfl rfl rfl
  · exact commitGroup_keepsForm _ _ _

theorem requestCommit_keepsForm (p : Nat) (value : Word) : KeepsForm s (s.requestCommit p value) := by
  unfold State.requestCommit
  extract_lets at_ wheel held t kept u a c prior c' c''
  have hkept : KeepsForm s kept := .ite (.same rfl rfl rfl) (.same rfl rfl rfl)
  have hrefused (f : CommitFail) : KeepsForm s (kept.refusePage p f) := hkept.trans (refusePage_keepsForm _ _ _)
  have hnow : KeepsForm s (u.commitPage p) := .after (commitPage_keepsForm u p)
  exact .ite (refusePage_keepsForm _ _ _) (.ite (hkept.trans (commitPage_keepsForm _ _)) (.ite (hrefused _) (.ite (hrefused _)
    (.ite (hrefused _) (.ite hnow (.same rfl rfl rfl))))))

theorem requestDiscard_keepsForm (p : Nat) (value : Word) : KeepsForm s (s.requestDiscard p value) := by
  unfold State.requestDiscard
  extract_lets c held c' c'' c'''
  have hmaps : c'.live = s.cfg.live ∧ c'.shadow = s.cfg.shadow := by
    show (if held then c.putH _ _ else c).live = _ ∧ (if held then c.putH _ _ else c).shadow = _
    split <;> exact ⟨rfl, rfl⟩
  exact .ofCfg (fun r => (congrArg RegMap.Ok hmaps.1).mpr r.1)
    (fun r => RegMap.ok_mergePages [p] c'.live ((congrArg RegMap.Ok hmaps.2).mpr r.2)) rfl

theorem requestMark_keepsForm (p : Nat) (value : Word) : KeepsForm s (s.requestMark p value) := by
  unfold State.requestMark
  extract_lets c
  have hmaps : (if bit (c.h (hdrSTAT p)) 2 then c else c.putTiming p (fld value 4 2) (fld value 8 5)).live = s.cfg.live
      ∧ (if bit (c.h (hdrSTAT p)) 2 then c else c.putTiming p (fld value 4 2) (fld value 8 5)).shadow = s.cfg.shadow := by
    split <;> exact ⟨rfl, rfl⟩
  exact .same rfl hmaps.1 hmaps.2

theorem requestGroup_keepsForm (at_ wheel : Nat) : KeepsForm s (s.requestGroup at_ wheel) :=
  .ite (refuseGroup_keepsForm _ _ _) (.ite (refuseGroup_keepsForm _ _ _)
    (.ite (.after (commitGroup_keepsForm _ _ _)) (.same rfl rfl rfl)))

theorem shadowCtrl_keepsForm (p : Nat) (value : Word) : KeepsForm s (s.shadowCtrl p value) :=
  .ite (.ite (ignoreWrite_keepsForm _ _) (requestDiscard_keepsForm _ _ _))
    (.ite (requestCommit_keepsForm _ _ _) (.ite (ignoreWrite_keepsForm _ _) (requestMark_keepsForm _ _ _)))

/-! Register writes (R14, Table 22.1) -/

theorem writeHeader_keepsForm (page off : Nat) (value : Word) : KeepsForm s (s.writeHeader page off value) :=
  .ite (.same rfl rfl rfl) (.ite (.same rfl rfl rfl) (.ite (.same rfl rfl rfl) (.ite (.same rfl rfl rfl)
    (.ite (.after (writeShadow_keepsForm _ _ _ _)) (.same rfl rfl rfl)))))

/-- A write of a word reaches the maps by a shadow write alone. -/
theorem writeWord_keepsForm (a : Nat) (value : Word) : KeepsForm s (s.writeWord a value) := by
  by_cases ho : 0x100 ≤ a % 4096
  · cases hk : keyAccess (regKey s.dev a) with
    | none => rw [writeWord_ignored value ho (.inl hk)]; exact .same rfl rfl rfl
    | some acc =>
      cases acc with
      | ro => rw [writeWord_ignored value ho (.inr (.inl hk))]; exact .same rfl rfl rfl
      | wo => rw [writeWord_ignored value ho (.inr (.inr hk))]; exact .same rfl rfl rfl
      | rws => rw [writeWord_rws value ho hk]; exact writeShadow_keepsForm s _ _ _
      | rw => rw [writeWord_rw value ho hk]; exact .same rfl rfl rfl
      | w1c => rw [writeWord_w1c value ho hk]; exact .same rfl rfl rfl
      | w1s => rw [writeWord_w1s value ho hk]; exact .same rfl rfl rfl
      | cnt => rw [writeWord_cnt value ho hk]; exact .same rfl rfl rfl
  · rw [State.writeWord, if_pos (by omega)]
    exact writeHeader_keepsForm s _ _ _

/-! The pair's journal (R322 to R332) -/

theorem applyControl_keepsForm (beat : Nat) (addr value : Word) (station element : Nat) (es : List (Nat × Word)) :
    KeepsForm s (s.applyControl beat addr value station element es) :=
  .ite (applyContents_keepsForm _ _ _) (.ite (.same rfl rfl rfl) (.ite (.same rfl rfl rfl) (.ite (.same rfl rfl rfl)
    (.ite (.same rfl rfl rfl) (.ite (.same rfl rfl rfl) (.ite (.same rfl rfl rfl) (.ite (.same rfl rfl rfl) (.same rfl rfl rfl))))))))

theorem applyRecord_keepsForm (beat : Nat) (r : JournalRecord) : KeepsForm s (s.applyRecord beat r) := by
  cases r with
  | control => exact applyControl_keepsForm _ _ _ _ _ _ _
  | item | loopFb | jobEnd | transition | time | hack => exact .same rfl rfl rfl

theorem runBlock_keepsForm (b : JournalBlock) : KeepsForm s (s.runBlock b) :=
  .before (.foldl (fun s r => applyRecord_keepsForm s b.beat r) _ s)

theorem joinBlock_keepsForm (b : JournalBlock) : KeepsForm s (s.joinBlock b) :=
  .ite (.same rfl rfl rfl) (.ite (runBlock_keepsForm _ _) (.same rfl rfl rfl))

theorem catchUp_keepsForm : KeepsForm s s.catchUp := by
  unfold State.catchUp
  extract_lets two _ _ t u d
  have hu : KeepsForm s u := .after
    (.foldl (fun v b => .ite (joinBlock_keepsForm v b) (.same rfl rfl rfl)) two t)
  exact .ite (.same rfl rfl rfl) (.ite (.before hu) hu)

/-- The configuration of an image goes into the maps page by page (R330). -/
theorem cfgTakeImage_registersOk {c : Cfg} (x : StateImage) (hlive : RegMap.Ok c.live) (hshadow : RegMap.Ok c.shadow) :
    RegMap.Ok (c.takeImage x).live ∧ RegMap.Ok (c.takeImage x).shadow :=
  ⟨RegMap.ok_mergePages _ _ hlive, RegMap.ok_mergePages _ _ hshadow⟩

/-! Resets (R459, R530) -/

/-- After a reset no register is listed, and of the memories what it does not rewrite stays. -/
theorem deviceReset_keepsForm (cause class_ ctrl : Nat) : KeepsForm s (s.deviceReset cause class_ ctrl) :=
  ⟨fun m => Store.wf_zero m _, fun _ => ⟨rfl, rfl⟩⟩

theorem resetBy_keepsForm (cause : Nat) : KeepsForm s (s.resetBy cause) := .ite (deviceReset_keepsForm _ _ _ _) (.same rfl rfl rfl)

/-! The beat boundary (R40, R41, R514) -/

theorem stepToSelfTest_keepsForm (station : Nat) : KeepsForm s (s.stepToSelfTest station) :=
  ⟨fun m => Store.wf_zero m _, fun _ => ⟨rfl, rfl⟩⟩

theorem stepTo_keepsForm (target station : Nat) : KeepsForm s (s.stepTo target station) :=
  .ite (stepToSelfTest_keepsForm _ _) (.ite (.same rfl rfl rfl) (.same rfl rfl rfl))

theorem requestStep_keepsForm : KeepsForm s s.requestStep := by
  have hedge (c : Prop) [Decidable c] (t : State) (ht : KeepsForm s t) : KeepsForm s (if c then t.modeEdgeCommit else (t, true)).1 := by
    split
    · exact ht.trans (modeEdgeCommit_keepsForm t)
    · exact ht
  unfold State.requestStep
  split
  · exact .same rfl rfl rfl
  · extract_lets t _ _ d u r e
    have he : KeepsForm s e.1 := hedge _ u (.same rfl rfl rfl)
    exact .ite (.same rfl rfl rfl) (.ite (.same rfl rfl rfl) (.ite (.before he)
      (.trans (.before he) (stepTo_keepsForm _ _ _))))

theorem settleModes_keepsForm : KeepsForm s s.settleModes := by
  unfold State.settleModes
  extract_lets _ _ t asked
  have hasked : KeepsForm s (asked t) := .before (.after (requestStep_keepsForm t))
  split
  · exact .ite hasked (.same rfl rfl rfl)
  · exact hasked

theorem modeStep_keepsForm : KeepsForm s s.modeStep := .ite (.same rfl rfl rfl) (settleModes_keepsForm _)
theorem closeModes_keepsForm : KeepsForm s s.closeModes := .ite (.same rfl rfl rfl) (settleModes_keepsForm _)

theorem frameClosed_keepsForm : KeepsForm s s.frameClosed :=
  .ite (.same rfl rfl rfl) (.after (closeModes_keepsForm _))

theorem closeBeat_keepsForm : KeepsForm s s.closeBeat := .after (catchUp_keepsForm _)

theorem takeEsc_keepsForm : KeepsForm s s.takeEsc := .same rfl rfl rfl

theorem boundaryWork_keepsForm : KeepsForm s s.boundaryWork := by
  unfold State.boundaryWork
  extract_lets t u v c d
  have hu : KeepsForm s u := (closeBeat_keepsForm s).trans (.after (modeStep_keepsForm _))
  have hv : KeepsForm s v := hu.trans ((boundaryCommits_keepsForm u).trans (takeEsc_keepsForm _))
  exact .ite hu (.before hv)

theorem stepBoundary_keepsForm : KeepsForm s s.stepBoundary := by
  have h (d : Dev) : KeepsForm s (State.boundaryWork { s with dev := d }) := .after (boundaryWork_keepsForm _)
  exact .before (h _)

theorem testBeat_keepsForm : KeepsForm s s.testBeat := .ite (.same rfl rfl rfl) (.after (requestStep_keepsForm _))

theorem beat_keepsForm : KeepsForm s s.beat :=
  .ite (.same rfl rfl rfl) (.ite (testBeat_keepsForm _) (.ite (stepBoundary_keepsForm _)
    (.ite (.same rfl rfl rfl) (.after (boundaryWork_keepsForm _)))))

theorem replan_keepsForm (p : DuePallet) : KeepsForm s (s.replan p) := .same rfl rfl rfl

end

end Sys2Proof.Machine
end

section
/-! SUPPORT. The memories under every command: what writes them keeps their form, and the commands that do not write them leave them. -/
namespace Sys2Proof.Machine
-- One proof after another: proofs that wait for each other would each hold a thread and its stack.
set_option Elab.async false

/-! ### The functions on the memories -/

/-- A store with its memory in canonical form (R459). -/
def Store.Ok (st : Store) : Prop := Memory.wf st.mem = true

theorem Store.ok_of_mem {st u : Store} (h : st.Ok) (e : u.mem = st.mem) : u.Ok := by
  unfold Store.Ok
  rw [e]
  exact h

theorem ok_ite {c : Prop} [Decidable c] {p q : Store × Dev} (hp : p.1.Ok) (hq : q.1.Ok) : (if c then p else q).1.Ok := by
  split
  · exact hp
  · exact hq

theorem ok_foldl {α : Type} {f : Store × Dev → α → Store × Dev} (hf : ∀ p a, p.1.Ok → (f p a).1.Ok) (l : List α) {p : Store × Dev}
    (h : p.1.Ok) : (l.foldl f p).1.Ok := by
  induction l generalizing p with
  | nil => exact h
  | cons a l ih => exact ih (hf p a h)

theorem ok_mk {p : Store × Dev} {st : Store} {d : Dev} (hp : p = (st, d)) (h : st.Ok) : p.1.Ok := by
  rw [hp]
  exact h

theorem ok_of_eq {p : Store × Dev} {u : Store} {e : Dev} (hp : p = (u, e)) (h : p.1.Ok) : u.Ok := by
  rw [hp] at h
  exact h

theorem Store.writeBy_mem (st : Store) (d : Dev) (a : Nat) (bs : List Byte) : (st.writeBy d a bs).1.mem = memWrite st.mem a bs := by
  unfold Store.writeBy
  dsimp only
  split
  · exact inject_mem _ _ _
  · rfl

section
variable {st : Store} (h : st.Ok) (c : Cfg) (d : Dev)
include h

theorem ok_writeBy (a : Nat) (bs : List Byte) : (st.writeBy d a bs).1.Ok := by
  unfold Store.Ok
  rw [Store.writeBy_mem]
  exact Memory.wf_memWrite h a bs

theorem ok_writeRun (n r a : Nat) (bs : List Byte) (poisoned : Bool) : (writeRun n st d r a bs poisoned).1.Ok := wf_writeRun h n d r a bs poisoned

/-! The recorder (R476, R482) -/

theorem ok_commitGranule (r : EvrRecord) (fromIntake : Bool) : (commitGranule st d r fromIntake).1.Ok := by
  unfold commitGranule
  extract_lets gran d' head g
  have hw : (st.writeBy d' (ringBase + 64 * g) ((r.bytes.drop (64 * d'.evr.written)).take 64)).1.Ok := ok_writeBy h d' _ _
  exact ok_ite hw (ok_ite hw hw)

theorem ok_clearRing : (clearRing c st d).1.Ok := ok_foldl (fun p _ hp => ok_writeBy hp p.2 _ _) _ h

/-! The solver and the law (R235, R277, R290) -/

theorem ok_publishJob (j : Job) : (publishJob c st d j).1.Ok := ok_writeRun h _ _ _ _ _ _

theorem ok_mpcResult (j : Job) : (mpcResult c st d j).1.Ok := by
  unfold mpcResult
  refine ok_ite h (ok_ite h ?_)
  dsimp only
  split
  · exact ok_writeRun h _ _ _ _ _ _
  · exact ok_writeRun (ok_writeRun h _ _ _ _ _ _) _ _ _ _ _ _

theorem ok_lawTake (j : Job) : (lawTake c st d j).1.Ok := ok_ite h (ok_ite (ok_mpcResult h c d j) (ok_ite h h))

theorem ok_takeResult (j : Job) : (lawTake c (publishJob c st d j).1 (publishJob c st d j).2 j).1.Ok :=
  ok_lawTake (ok_publishJob h c d j) _ _ _

theorem ok_releaseHeld (s : Nat) : (releaseHeld c st d s).1.Ok :=
  ok_foldl (fun p j hp => ok_ite hp (ok_takeResult hp c p.2 j)) _ h

theorem ok_settleStreams : (settleStreams c st d).1.Ok := by
  unfold settleStreams
  split
  next u e hp => exact ok_of_eq hp (ok_foldl (fun p s hp => ok_releaseHeld hp c p.2 s) _ h)

theorem ok_completeJob (j : Job) (cycles : Nat) : (completeJob c st d j cycles).1.Ok := by
  unfold completeJob
  extract_lets j' pub late r
  split
  next u e hp =>
    have hu : u.Ok := by
      refine ok_of_eq hp (ok_ite h ?_)
      split
      · exact h
      · exact ok_writeRun h _ _ _ _ _ _
    exact ok_ite (ok_settleStreams hu c _) (ok_settleStreams hu c _)

theorem ok_shiftWarm (x : Schedule) : (shiftWarm c st d x).1.Ok := by
  unfold shiftWarm
  split
  · exact h
  · exact ok_writeRun h _ _ _ _ _ _

theorem ok_mpcLaunch : (mpcLaunch c st d).1.Ok := by
  unfold mpcLaunch
  extract_lets b d' old
  refine ok_ite h (ok_ite h ?_)
  split
  next u e hp =>
    have hu : u.Ok := by
      refine ok_of_eq hp ?_
      split
      · exact ok_ite (ok_shiftWarm h c _ _) h
      · exact h
    exact hu

theorem ok_cqComplete : (cqComplete c st d).1.Ok := by
  unfold cqComplete
  extract_lets
  exact ok_ite h (ok_writeRun h _ _ _ _ _ _)

theorem ok_cqStart : (cqStart c st d).1.Ok := by
  unfold cqStart
  split
  next u e hp =>
    have hu : u.Ok := ok_of_eq hp (ok_ite (ok_cqComplete h c _) h)
    exact ok_ite hu hu

theorem ok_lawGroup (g : Nat) : (lawGroup c st d g).1.Ok := by
  unfold lawGroup
  refine ok_ite h ?_
  extract_lets d'
  split
  next u e hp =>
    have hu : u.Ok := ok_of_eq hp (ok_ite (ok_mpcLaunch h c _) h)
    exact ok_ite (ok_cqStart hu c _) hu

/-! The fusion engine (R191, R209) -/

theorem ok_publishFusion : (publishFusion c st d).1.Ok := ok_foldl (fun p _ hp => ok_writeBy hp p.2 _ _) _ (ok_writeBy h d _ _)

theorem ok_closeFrame : (closeFrame c st d).1.Ok := by
  unfold closeFrame
  extract_lets b tracks o delivered fresh e _ p again g start r _ w f v f' y i j l slow m z n applied poison q u x
  have hpublished : x = publishFusion c st u := rfl
  have hx : x.1.Ok := by
    rw [hpublished]
    exact ok_publishFusion h c u
  exact ok_mk rfl hx

end

/-! Slot buffers (R464 to R466): their words are read, and only their error patterns change. -/

theorem readBuffer_mem (st : Store) (d : Dev) (base len : Nat) : (readBuffer st d base len).2.1.mem = st.mem := by
  have hfold : ∀ (r : Nat) (l : List Nat) (x : Bool × Store × Dev), (l.foldl (fun (x : Bool × Store × Dev) k =>
      let w := base / 32 * 32 + 32 * k
      match x.2.1.decode w with
      | .clean => x
      | .corrected n => (x.1, { x.2.1 with errs := Assoc.set [] x.2.1.errs w [] }, x.2.2.countCE r w n false)
      | .uncorrectable =>
        let u := countUE x.2.1 x.2.2 r w false
        (true, u.1, u.2)
      | .poisoned => (true, x.2.1, x.2.2)) x).2.1.mem = x.2.1.mem := by
    intro r l
    induction l with
    | nil => exact fun _ => rfl
    | cons k l ih =>
      intro x
      refine (ih _).trans ?_
      dsimp only
      split
      · rfl
      · rfl
      · exact countUE_mem _ _ _ _ _
      · rfl
  unfold readBuffer
  split
  · rfl
  · exact hfold _ _ _

section
variable {st : Store} (h : st.Ok) (c : Cfg) (d : Dev)
include h

theorem ok_readBuffer (base len : Nat) : (readBuffer st d base len).2.1.Ok := Store.ok_of_mem h (readBuffer_mem _ _ _ _)

theorem ok_releaseCan (n slot : Nat) : (releaseCan c st d n slot).1.Ok := by
  have hr (e : Dev) (base len : Nat) : (readBuffer st e base len).2.1.Ok := ok_readBuffer h e base len
  exact ok_ite h (ok_ite h (ok_ite (hr _ _ _) (ok_ite (hr _ _ _) (ok_ite (hr _ _ _) (hr _ _ _)))))

theorem ok_releaseEth (n slot : Nat) : (releaseEth c st d n slot).1.Ok := by
  have hr (e : Dev) (base len : Nat) : (readBuffer st e base len).2.1.Ok := ok_readBuffer h e base len
  exact ok_ite h (ok_ite (hr _ _ _) (ok_ite (hr _ _ _) (ok_ite (hr _ _ _) (hr _ _ _))))

end

/-! ### Outcomes -/

/-- The outcome is a next state that keeps both forms. -/
def Keeps (s : State) (o : Out) : Prop := ∃ t, o = .next t ∧ KeepsForm s t

theorem next_keeps {s t : State} (h : KeepsForm s t) : Keeps s (.next t) := ⟨t, rfl, h⟩

theorem ite_keeps {s : State} {c : Prop} [Decidable c] {o p : Out} (ho : Keeps s o) (hp : Keeps s p) : Keeps s (if c then o else p) := by
  split
  · exact ho
  · exact hp

/-- The units and the bus reply alone have changed. -/
theorem units_keeps (s : State) (bus : BusReply) (d : Dev) : Keeps s (.next { s with bus := bus, dev := d }) := next_keeps (.same rfl rfl rfl)

/-- The form of `onMem` and `onMemWrite`. -/
theorem store_keeps {s : State} {p : Store × Dev} (bus : BusReply) (h : s.store.Ok → p.1.Ok) :
    Keeps s (.next { s with bus := bus, store := p.1, dev := p.2 }) := next_keeps (.ofStore h rfl)

section
variable (s : State)

theorem holdLimitExpiry_keeps (stream : Fin 7) : Keeps s (exec (.holdLimitExpiry stream) s) := by
  refine store_keeps s.bus fun h => ?_
  dsimp only
  split
  · exact h
  · exact ok_settleStreams (ok_foldl (fun p j hp => ok_takeResult hp s.cfg p.2 j) _ h) _ _

theorem palletJob_keeps (late : Nat) (fb : Option (List (Fin 64 × Int))) : Keeps s (exec (.palletJob late fb) s) := by
  refine store_keeps s.bus fun h => ?_
  dsimp only
  split
  · exact h
  · exact ok_ite h (ok_ite (ok_lawGroup h _ _ _) h)

theorem palletRelease_keeps (late : Nat) : Keeps s (exec (.palletRelease late) s) := by
  refine store_keeps s.bus fun h => ?_
  dsimp only
  split
  · exact h
  · exact ok_ite (ok_releaseCan h _ _ _ _) (ok_ite (ok_releaseEth h _ _ _ _) h)

theorem stagingDone_keeps (slot : Fin 8) : Keeps s (exec (.stagingDone slot) s) := store_keeps s.bus fun h => ok_ite h h

theorem setupComplete_keeps (stream : Fin 7) (seq : Word) (cycles : Nat) : Keeps s (exec (.setupComplete stream seq cycles) s) := by
  refine store_keeps s.bus fun h => ?_
  dsimp only
  split
  · exact h
  · refine ok_ite h ?_
    split
    · exact h
    · exact h

theorem writeBackComplete_keeps (stream : Fin 7) (seq : Word) (cycles : Nat) : Keeps s (exec (.writeBackComplete stream seq cycles) s) := by
  refine store_keeps s.bus fun h => ?_
  dsimp only
  split
  · exact h
  · exact ok_ite (ok_completeJob h _ _ _ _) h

theorem clusterFault_keeps (cluster : Fin 4) (watchdog : Bool) : Keeps s (exec (.clusterFault cluster watchdog) s) :=
  store_keeps s.bus fun h => ok_ite h (ok_settleStreams h _ _)

theorem cqRunComplete_keeps : Keeps s (exec .cqRunComplete s) := store_keeps s.bus fun h => ok_ite (ok_cqComplete h _ _) h

theorem loopSample_keeps (group : Fin 4) (j : Fin 8) (fb : Option (List (Fin 64 × Int))) : Keeps s (exec (.loopSample group j fb) s) :=
  store_keeps s.bus fun h => ok_ite h (ok_ite h h)

theorem granuleCommit_keeps : Keeps s (exec .granuleCommit s) := by
  refine store_keeps s.bus fun h => ?_
  dsimp only
  split
  · exact h
  · exact ok_commitGranule h _ _ _

theorem tokenRefill_keeps (entry : Fin 1025) : Keeps s (exec (.tokenRefill entry) s) := store_keeps s.bus fun h => h

theorem selfTestEnd_keeps (obs : SelfTestObs) : Keeps s (exec (.selfTestEnd obs) s) :=
  store_keeps s.bus fun h => ok_ite h (Store.wf_zero h _)

theorem bootImage_keeps (obs : Unit) : Keeps s (exec (.bootImage obs) s) := by
  refine store_keeps s.bus fun h => ok_ite h ?_
  extract_lets
  split
  · exact h
  · exact ok_mk rfl (Store.wf_copyImage h _)

theorem serviceImage_keeps (image : ServiceImage) : Keeps s (exec (.serviceImage image) s) := by
  refine store_keeps s.bus fun h => ok_ite h ?_
  extract_lets d w u e r
  have hu : u.Ok := ok_writeBy h d image.addr.toNat image.bytes
  exact ok_ite (ok_mk rfl hu) (ok_ite (ok_mk rfl hu) (ok_mk rfl (Store.wf_copyImage hu _)))

theorem submit_keeps (value : Word) : Keeps s (exec (.submit value) s) := by
  refine store_keeps (.done 0) fun h => ok_ite (ok_ite (ok_writeRun h _ _ _ _ _ _) h) (ok_writeRun h _ _ _ _ _ _)

theorem cancel_keeps (value : Word) : Keeps s (exec (.cancel value) s) := by
  refine store_keeps (.done 0) fun h => ok_ite h (ok_ite h ?_)
  split
  · exact h
  · exact ok_settleStreams h _ _

theorem clIsolate_keeps (cluster : Fin 4) (value : Word) : Keeps s (exec (.clIsolate cluster value) s) :=
  store_keeps (.done 0) fun h => ok_ite h (ok_settleStreams h _ _)

theorem priReq_keeps (ctrl : Fin 6) (slot : Fin 4) : Keeps s (exec (.priReq ctrl slot) s) :=
  store_keeps (.done 0) fun h => ok_ite h (ok_ite (ok_readBuffer h _ _ _) (ok_readBuffer h _ _ _))

theorem clrCmd_keeps (value : Word) : Keeps s (exec (.clrCmd value) s) := by
  refine store_keeps (.done 0) fun h => ok_ite h (ok_ite h (ok_ite h ?_))
  split
  · exact h
  · exact ok_ite (ok_ite h h) (ok_clearRing h _ _)

theorem scrubWord_keeps (upset : List (Fin 40 × Byte)) (newer : Bool) : Keeps s (exec (.scrubWord upset newer) s) := by
  refine store_keeps s.bus fun h => ok_ite h ?_
  extract_lets q m d r w st back
  have hst : st.Ok := h
  have hback : back.mem = st.mem := by
    dsimp only [back]
    split <;> rfl
  split
  next u e hp =>
    have hu : u.Ok := by
      refine ok_of_eq hp ?_
      split
      · exact hst
      · exact hst
      · exact ok_mk rfl (Store.ok_of_mem hst hback)
      · split
        next v f hcount =>
          have hv : v.Ok := ok_of_eq hcount (Store.ok_of_mem hst (countUE_mem _ _ _ _ _))
          refine ok_mk rfl ?_
          split
          · exact hv
          · exact Store.wf_toPoison hv _
    exact hu

theorem narrowWrite_keeps (addr : BitVec 48) (bytes : List Byte) (poisoned : Bool) : Keeps s (exec (.narrowWrite addr bytes poisoned) s) := by
  change Keeps s (execNarrowWrite addr bytes poisoned s)
  unfold execNarrowWrite
  dsimp only
  split
  · exact units_keeps s _ _
  · exact ite_keeps (units_keeps s _ _) (next_keeps (.ofStore (fun h => ok_writeRun h _ _ _ _ _ _) rfl))

theorem readMemory_keeps (r a size : Nat) (upset : List (Fin 40 × Byte)) (newer : Bool) (usedBy : PoisonUse) :
    Keeps s (s.readMemory r a size upset newer usedBy) := by
  unfold State.readMemory
  extract_lets w st data poisoned back
  have hupset : st.mem = s.store.mem := Store.upset_mem _ _ _
  have hback : back.mem = s.store.mem := by
    dsimp only [back]
    split <;> exact hupset
  split
  · exact next_keeps (.same rfl rfl rfl)
  · exact next_keeps (.same hback rfl rfl)
  · exact next_keeps (.same (countUE_mem _ _ _ _ _) rfl rfl)
  · exact next_keeps (.same rfl rfl rfl)

theorem readRegister_keeps (a size : Nat) : Keeps s (readRegister s a size) :=
  ite_keeps (units_keeps s _ _) (ite_keeps (units_keeps s _ _) (ite_keeps (units_keeps s _ _) (units_keeps s _ _)))

theorem demandRead_keeps (access : ReadAccess) (upset : List (Fin 40 × Byte)) (newer : Bool) (usedBy : PoisonUse) :
    Keeps s (exec (.demandRead access upset newer usedBy) s) := by
  change Keeps s (execDemandRead access upset newer usedBy s)
  unfold execDemandRead
  refine ite_keeps (readRegister_keeps _ _ _) ?_
  split
  · exact units_keeps s _ _
  · exact ite_keeps (units_keeps s _ _) (readMemory_keeps _ _ _ _ _ _ _)

end

end Sys2Proof.Machine
end

section
/-! SUPPORT. The invariants of the memories and of the register maps over every command, and the frame of the memories. -/
namespace Sys2Proof.Machine
-- One proof after another: proofs that wait for each other would each hold a thread and its stack.
set_option Elab.async false

/-! ### Commands that have an outcome of their own -/

section
variable (s : State)

theorem palletCommit_keeps (late : Nat) : Keeps s (exec (.palletCommit late) s) := by
  refine next_keeps ?_
  dsimp only
  split
  · exact .same rfl rfl rfl
  · exact .ite (.same rfl rfl rfl)
      (.ite (((commitGroup_keepsForm _ _ _).trans (replan_keepsForm _ _)).after) (.after (commitGroup_keepsForm _ _ _)))

theorem putStore_keepsForm {p : Store × Dev} (h : s.store.Ok → p.1.Ok) : KeepsForm s { s with store := p.1, dev := p.2 } := .ofStore h rfl

theorem fusFrameClose_keeps (obs : Unit) : Keeps s (exec (.fusFrameClose obs) s) := by
  change Keeps s (execFusFrameClose obs s)
  unfold execFusFrameClose
  have hclose := putStore_keepsForm s fun h => ok_closeFrame h s.cfg s.dev
  generalize closeFrame s.cfg s.store s.dev = p at hclose ⊢
  exact next_keeps (.ite (hclose.trans (frameClosed_keepsForm _)) (.same rfl rfl rfl))

theorem coastExpired_keeps : Keeps s (exec .coastExpired s) :=
  ite_keeps (next_keeps (.same rfl rfl rfl)) (next_keeps (.after (closeModes_keepsForm _)))

theorem swapHandover_keeps : Keeps s (exec .swapHandover s) := by
  change Keeps s (execSwapHandover s)
  unfold execSwapHandover
  dsimp only
  split
  · exact units_keeps s _ _
  · exact ite_keeps (units_keeps s _ _) (ite_keeps
      (ite_keeps (next_keeps (.after (closeModes_keepsForm _))) (units_keeps s _ _))
      (ite_keeps (units_keeps s _ _) (ite_keeps (units_keeps s _ _) (units_keeps s _ _))))

theorem journalBlockReceived_keeps (block : JournalBlock) : Keeps s (exec (.journalBlockReceived block) s) := by
  have hsame (d : Dev) : KeepsForm s { s with dev := d } := .same rfl rfl rfl
  have hrun (d : Dev) : KeepsForm s (State.runBlock { s with dev := d } block) := .after (runBlock_keepsForm _ _)
  have hjoin (d : Dev) : KeepsForm s (State.joinBlock { s with dev := d } block) := .after (joinBlock_keepsForm _ _)
  exact next_keeps (.ite (hsame _) (.ite (hsame _) (.ite (hsame _) (.ite (.ite (hrun _) (hsame _))
    (.ite (hsame _) (.ite (hjoin _) (.ite (.ite (hsame _) (hsame _)) (hsame _))))))))

theorem orphanBeat_keeps : Keeps s (exec .orphanBeat s) := by
  have hsame (d : Dev) : KeepsForm s { s with dev := d } := .same rfl rfl rfl
  exact next_keeps (.ite (hsame _) (.ite (hsame _) (.ite (hsame _) (hsame _))))

theorem transferDone_keeps (image : StateImage) : Keeps s (exec (.transferDone image) s) := by
  have himage (d : Dev) : KeepsForm s { s with cfg := s.cfg.takeImage image, store := s.store.takeState image.memory, dev := d } :=
    ⟨fun h => Store.wf_takeState h _, fun r => cfgTakeImage_registersOk image r.1 r.2⟩
  refine next_keeps ?_
  dsimp only
  split
  · exact .same rfl rfl rfl
  · exact .ite (.same rfl rfl rfl) ((himage _).trans (recheckWheels_keepsForm _))

theorem leap_keeps : Keeps s (exec .leap s) := ite_keeps (units_keeps s _ _) (next_keeps (.before (putUtc_keepsForm _ _)))

theorem ptpMessageReceive_keeps (port : Fin 4) (msg : PtpMessage) : Keeps s (exec (.ptpMessageReceive port msg) s) := by
  cases msg with
  | announce => exact ite_keeps (next_keeps (.after (sourceUtc_keepsForm _ _ _ _ _))) (units_keeps s _ _)
  | _ => exact units_keeps s _ _

theorem canTxComplete_keeps (ctrl : Fin 6) : Keeps s (exec (.canTxComplete ctrl) s) := by
  change Keeps s (execCanTxComplete ctrl s)
  unfold execCanTxComplete
  dsimp only
  split
  · exact units_keeps s _ _
  · exact next_keeps (.ite (.after (canHear_keepsForm _ _ _ _)) (.same rfl rfl rfl))

theorem slotStage_keeps (slot : Fin 8) (value : Word) : Keeps s (exec (.slotStage slot value) s) :=
  ite_keeps (next_keeps (.before (writeShadow_keepsForm _ _ _ _))) (next_keeps (.before (writeShadow_keepsForm _ _ _ _)))

/-! Registers (R14, R502 to R511) -/

theorem registerWrite_keeps (addr : Word) (size : Nat) (value : Word) : Keeps s (exec (.registerWrite addr size value) s) :=
  ite_keeps (units_keeps s _ _) (next_keeps (.before (writeWord_keepsForm _ _ _)))

theorem shadowWrite_keeps (addr value : Word) : Keeps s (exec (.shadowWrite addr value) s) :=
  ite_keeps (units_keeps s _ _) (next_keeps (.before (writeWord_keepsForm _ _ _)))

theorem shadowCtrl_keeps (page value : Word) : Keeps s (exec (.commit page value) s) :=
  ite_keeps (units_keeps s _ _) (next_keeps (.before (shadowCtrl_keepsForm _ _ _)))

theorem lock_keeps (page value : Word) : Keeps s (exec (.lock page value) s) :=
  ite_keeps (units_keeps s _ _) (next_keeps (.same rfl rfl rfl))

theorem globalCommit_keeps (value : Word) : Keeps s (exec (.globalCommit value) s) :=
  next_keeps (.before (.ite (.same rfl rfl rfl) (.ite (ignoreWrite_keepsForm _ _) (requestGroup_keepsForm _ _ _))))

/-! Resets and wake (R402, R521 to R531) -/

theorem railReset_keeps (rail : Fin 10) : Keeps s (exec (.railReset rail) s) :=
  next_keeps (.ite (resetBy_keepsForm _ _) (.same rfl rfl rfl))

theorem brownOut_keeps : Keeps s (exec .brownOut s) := next_keeps (.ite (.same rfl rfl rfl) (deviceReset_keepsForm _ _ _ _))

theorem sysWatchdogExpiry_keeps : Keeps s (exec .sysWatchdogExpiry s) :=
  next_keeps (.ite (.after (resetBy_keepsForm _ _)) (.same rfl rfl rfl))

theorem jtagReset_keeps : Keeps s (exec .jtagReset s) := next_keeps (.ite (resetBy_keepsForm _ _) (.same rfl rfl rfl))

theorem rstCmd_keeps (value : Word) : Keeps s (exec (.rstCmd value) s) :=
  next_keeps (.before (.ite (resetBy_keepsForm _ _) (.same rfl rfl rfl)))

theorem clockFault_keeps (clock : Fin 9) (ppm : BitVec 16) (unlocked : Bool) : Keeps s (exec (.clockFault clock ppm unlocked) s) :=
  ite_keeps (units_keeps s _ _) (next_keeps (.ite (.after (resetBy_keepsForm _ _)) (.same rfl rfl rfl)))

theorem wake_keeps (cause : WakeCause) : Keeps s (exec (.wake cause) s) := by
  cases cause with
  | wakeN => exact next_keeps (.ite (deviceReset_keepsForm _ _ _ _) (.ite (deviceReset_keepsForm _ _ _ _) (.same rfl rfl rfl)))
  | alarm => exact next_keeps (.ite (.after (deviceReset_keepsForm _ _ _ _)) (.same rfl rfl rfl))

theorem canWake_keeps (ctrl : Fin 6) (pattern : CanWakePattern) : Keeps s (exec (.canWake ctrl pattern) s) :=
  next_keeps (.ite (.before (deviceReset_keepsForm s 7 2 ctrl.val)) (.same rfl rfl rfl))

end

/-! ### Every command -/

/-- A write by the module's own firmware: in Standby only the page's header and the units see that it was ignored (R323). -/
theorem onControl_keepsMaps (s : State) (addr : Nat) (value : Word) (station element : Nat) (f : Cfg → Dev → Bool × Dev) :
    ∃ t, onControl s addr value station element f = .next t ∧ t.store = s.store ∧ t.cfg.live = s.cfg.live ∧ t.cfg.shadow = s.cfg.shadow := by
  unfold onControl
  split <;> exact ⟨_, rfl, rfl, rfl, rfl⟩

theorem lock_keepsMaps (s : State) (page value : Word) :
    ∃ t, exec (.lock page value) s = .next t ∧ t.store = s.store ∧ t.cfg.live = s.cfg.live ∧ t.cfg.shadow = s.cfg.shadow := by
  change ∃ t, execLock page value s = .next t ∧ _
  unfold execLock
  dsimp only
  split <;> exact ⟨_, rfl, rfl, rfl, rfl⟩

/-- Outside touchesMemory and touchesRegisters a command leaves the memories and both maps: it changes the units and, at most, a page's
header. -/
theorem exec_keepsMaps (i : Instr) (s : State) (hm : touchesMemory i = false) (hr : touchesRegisters i = false) :
    ∃ t, exec i s = .next t ∧ t.store = s.store ∧ t.cfg.live = s.cfg.live ∧ t.cfg.shadow = s.cfg.shadow := by
  cases i with
  | beatBoundary | timeStepInstant | palletCommit | palletJob | palletRelease | fusFrameClose | coastExpired | stagingDone
  | setupComplete | loopSample | clusterFault | clIsolate | orphanBeat | swapHandover | priReq | writeBackComplete | cancel
  | cqRunComplete | narrowWrite | demandRead | scrubWord | bootImage | serviceImage | granuleCommit | clrCmd | selfTestEnd | submit
  | holdLimitExpiry | commit | discard | mark | globalCommit | journalBlockReceived | transferDone | powerOnReset | brownOut
  | overvoltageReset | railReset | thermalReset | pinReset | sysWatchdogExpiry | jtagReset | rstCmd | wake | canWake | clockFault =>
    exact Bool.noConfusion hm
  | shadowWrite | registerWrite | slotStage | leap | ptpMessageReceive | canRxFrame | canTxComplete => exact Bool.noConfusion hr
  | jumpAccept | jumpDecline | trkRestart | trkRelease | trkResetClock | splitSel | actWithdraw | actReadmit | busPwrWrite
  | slRestart | spWrite => exact onControl_keepsMaps s _ _ _ _ _
  | lock => exact lock_keepsMaps s _ _
  | _ => exact ⟨_, rfl, rfl, rfl, rfl⟩

/-- Every command keeps both forms: it leaves memories and maps alone, or has a lemma above. -/
theorem exec_keeps (i : Instr) (s : State) : Keeps s (exec i s) := by
  by_cases hquiet : touchesMemory i = false ∧ touchesRegisters i = false
  · obtain ⟨t, hnext, hstore, hlive, hshadow⟩ := exec_keepsMaps i s hquiet.1 hquiet.2
    exact ⟨t, hnext, .same (by rw [hstore]) hlive hshadow⟩
  cases i with
  -- units and memories
  | holdLimitExpiry => exact holdLimitExpiry_keeps s _
  | palletJob => exact palletJob_keeps s _ _
  | palletRelease => exact palletRelease_keeps s _
  | stagingDone => exact stagingDone_keeps s _
  | setupComplete => exact setupComplete_keeps s _ _ _
  | writeBackComplete => exact writeBackComplete_keeps s _ _ _
  | clusterFault => exact clusterFault_keeps s _ _
  | cqRunComplete => exact cqRunComplete_keeps s
  | loopSample => exact loopSample_keeps s _ _ _
  | granuleCommit => exact granuleCommit_keeps s
  | selfTestEnd => exact selfTestEnd_keeps s _
  | bootImage => exact bootImage_keeps s _
  | serviceImage => exact serviceImage_keeps s _
  | submit => exact submit_keeps s _
  | cancel => exact cancel_keeps s _
  | clIsolate => exact clIsolate_keeps s _ _
  | priReq => exact priReq_keeps s _ _
  | clrCmd => exact clrCmd_keeps s _
  | scrubWord => exact scrubWord_keeps s _ _
  | narrowWrite => exact narrowWrite_keeps s _ _ _
  | demandRead => exact demandRead_keeps s _ _ _ _
  | palletCommit => exact palletCommit_keeps s _
  | fusFrameClose => exact fusFrameClose_keeps s _
  | coastExpired => exact coastExpired_keeps s
  | swapHandover => exact swapHandover_keeps s
  | journalBlockReceived => exact journalBlockReceived_keeps s _
  | orphanBeat => exact orphanBeat_keeps s
  | transferDone => exact transferDone_keeps s _
  | leap => exact leap_keeps s
  | ptpMessageReceive => exact ptpMessageReceive_keeps s _ _
  | canTxComplete => exact canTxComplete_keeps s _
  | slotStage => exact slotStage_keeps s _ _
  | registerWrite => exact registerWrite_keeps s _ _ _
  | shadowWrite => exact shadowWrite_keeps s _ _
  | globalCommit => exact globalCommit_keeps s _
  | railReset => exact railReset_keeps s _
  | brownOut => exact brownOut_keeps s
  | sysWatchdogExpiry => exact sysWatchdogExpiry_keeps s
  | jtagReset => exact jtagReset_keeps s
  | rstCmd => exact rstCmd_keeps s _
  | clockFault => exact clockFault_keeps s _ _ _
  | wake => exact wake_keeps s _
  | canWake => exact canWake_keeps s _ _
  | commit page value | discard page value | mark page value => exact shadowCtrl_keeps s page value
  | beatBoundary => exact next_keeps (beat_keepsForm s)
  | timeStepInstant => exact next_keeps (.ite (stepBoundary_keepsForm s) (.same rfl rfl rfl))
  | canRxFrame => exact next_keeps (canHear_keepsForm _ _ _ _)
  | powerOnReset => exact next_keeps (deviceReset_keepsForm _ _ _ _)
  | overvoltageReset | thermalReset | pinReset => exact next_keeps (resetBy_keepsForm _ _)
  | _ => exact absurd ⟨rfl, rfl⟩ hquiet

/-- A step runs a command, or one cycle of the timebase that changes the units alone. -/
theorem step_keepsForm {s t : State} (h : step s = .next t) : KeepsForm s t := by
  cases hp : s.pending with
  | nil =>
    rw [step_idle hp] at h
    cases h
    exact .same rfl rfl rfl
  | cons i rest =>
    rw [step_cons hp] at h
    obtain ⟨u, hu, hkeeps⟩ := exec_keeps i { s with pending := rest }
    rw [hu] at h
    cases h
    exact hkeeps.after

/-- Settles O5: nothing is listed. -/
theorem resetMemory : Obligations.ResetMemory := ⟨State.reset_memory, fun _ => rfl⟩

/-- Settles O7: each step is one of the operations that keep the form. -/
theorem memoryStaysCanonical : Obligations.MemoryStaysCanonical := fun _ _ hs h => (step_keepsForm h).memory hs

/-- Settles O8: the same, and the reset state lists no register. -/
theorem registerMapsStayCanonical : Obligations.RegisterMapsStayCanonical := ⟨⟨rfl, rfl⟩, fun _ _ hs h => (step_keepsForm h).registers hs⟩

/-! ### The frame of the memories (R459, R460, R467) -/

/-- Where `o` is a next state, the memories of `s` are in it. -/
def LeavesStore (s : State) (o : Out) : Prop := ∀ t, o = .next t → t.store = s.store

theorem leavesStore_next {s t : State} (h : t.store = s.store) : LeavesStore s (.next t) := by
  intro u hu
  cases hu
  exact h

theorem leavesStore_ite {s : State} {c : Prop} [Decidable c] {o p : Out} (ho : LeavesStore s o) (hp : LeavesStore s p) :
    LeavesStore s (if c then o else p) := by
  split
  · exact ho
  · exact hp

theorem ite_store {c : Prop} [Decidable c] {s t u : State} (ht : t.store = s.store) (hu : u.store = s.store) :
    (if c then t else u).store = s.store := by
  split
  · exact ht
  · exact hu

theorem writeShadow_store (s : State) (key : Nat) (mask value : Word) : (s.writeShadow key mask value).store = s.store := by
  unfold State.writeShadow
  dsimp only
  split <;> rfl

theorem writeHeader_store (s : State) (page off : Nat) (value : Word) : (s.writeHeader page off value).store = s.store :=
  ite_store rfl (ite_store rfl (ite_store rfl (ite_store rfl (ite_store (writeShadow_store _ _ _ _) rfl))))

theorem writeWord_store (s : State) (a : Nat) (value : Word) : (s.writeWord a value).store = s.store := by
  by_cases ho : 0x100 ≤ a % 4096
  · cases hk : keyAccess (regKey s.dev a) with
    | none => rw [writeWord_ignored value ho (.inl hk)]
    | some acc =>
      cases acc with
      | ro => rw [writeWord_ignored value ho (.inr (.inl hk))]
      | wo => rw [writeWord_ignored value ho (.inr (.inr hk))]
      | rws => rw [writeWord_rws value ho hk, writeShadow_store]
      | rw => rw [writeWord_rw value ho hk]
      | w1c => rw [writeWord_w1c value ho hk]
      | w1s => rw [writeWord_w1s value ho hk]
      | cnt => rw [writeWord_cnt value ho hk]
  · rw [State.writeWord, if_pos (by omega), writeHeader_store]

theorem sourceUtc_store (s : State) (utc : Int) (valid l61 l59 : Bool) : (s.sourceUtc utc valid l61 l59).store = s.store := ite_store rfl rfl

theorem canHear_store (s : State) (n : Nat) (frame : CanFrame) (own : Bool) : (s.canHear n frame own).store = s.store :=
  ite_store (sourceUtc_store _ _ _ _ _) rfl

theorem ptpMessageReceive_leavesStore (s : State) (port : Fin 4) (msg : PtpMessage) : LeavesStore s (exec (.ptpMessageReceive port msg) s) := by
  cases msg with
  | announce => exact leavesStore_ite (leavesStore_next (sourceUtc_store _ _ _ _ _)) (leavesStore_next rfl)
  | _ => exact leavesStore_next rfl

theorem canTxComplete_leavesStore (s : State) (ctrl : Fin 6) : LeavesStore s (exec (.canTxComplete ctrl) s) := by
  change LeavesStore s (execCanTxComplete ctrl s)
  unfold execCanTxComplete
  dsimp only
  split
  · exact leavesStore_next rfl
  · exact leavesStore_next (ite_store (canHear_store _ _ _ _) rfl)

theorem exec_leavesStore (i : Instr) (s : State) (hm : touchesMemory i = false) : LeavesStore s (exec i s) := by
  by_cases hr : touchesRegisters i = false
  · obtain ⟨u, hu, hstore, -⟩ := exec_keepsMaps i s hm hr
    rw [hu]
    exact leavesStore_next hstore
  cases i with
  | shadowWrite => exact leavesStore_ite (leavesStore_next rfl) (leavesStore_next (writeWord_store s _ _))
  | registerWrite => exact leavesStore_ite (leavesStore_next rfl) (leavesStore_next (writeWord_store s _ _))
  | slotStage => exact leavesStore_ite (leavesStore_next (writeShadow_store s _ _ _)) (leavesStore_next (writeShadow_store s _ _ _))
  | leap => exact leavesStore_ite (leavesStore_next rfl) (leavesStore_next rfl)
  | ptpMessageReceive => exact ptpMessageReceive_leavesStore s _ _
  | canRxFrame => exact leavesStore_next (canHear_store s _ _ _)
  | canTxComplete => exact canTxComplete_leavesStore s _
  | beatBoundary | timeStepInstant | palletCommit | commit | discard | mark | globalCommit | journalBlockReceived | orphanBeat
  | transferDone | powerOnReset | brownOut | overvoltageReset | railReset | thermalReset | pinReset | sysWatchdogExpiry | jtagReset
  | rstCmd | wake | canWake | clockFault => exact Bool.noConfusion hm
  | _ => exact absurd rfl hr

/-- Settles O9: outside touchesMemory only the commands of touchesRegisters change more than the units, and those write registers. -/
theorem memoryFrame : Obligations.MemoryFrame := fun i s t hm => exec_leavesStore i s hm t

/-! ### The reset state, and the table's missing bits (R503, 00_scope.md) -/

/-- Settles O4: the maps of the reset state list nothing, so each register is at what its table gives. -/
theorem resetRegisters : Obligations.ResetRegisters := ⟨rfl, rfl, by decide, rfl, fun _ => ⟨rfl, rfl, rfl, rfl, rfl⟩⟩

/-- Settles O3: no row of the table has an encoding. -/
theorem noWordSpellsACommand : Obligations.NoWordSpellsACommand := fun _ _ _ => ⟨rfl, rfl⟩

end Sys2Proof.Machine
end

section
/-! SUPPORT. The field watchdog and the loss of the field link: what a fed watchdog shows, and what a silent field leaves of the latch. -/
namespace Sys2Proof.Machine
-- One proof after another: proofs that wait for each other would each hold a thread and its stack.
set_option Elab.async false

/-! ### What a command answers -/

/-- What a command on the units answers, given what they become. -/
theorem onDev_of {s : State} {f : Cfg → Dev → Dev} {e : Dev} (h : f s.cfg s.dev = e) : onDev s f = .next { s with dev := e } := by
  rw [onDev_eq, h]

/-- What a register write of the units answers, given what they become. -/
theorem onWrite_of {s : State} {f : Cfg → Dev → Dev} {e : Dev} (h : f s.cfg s.dev = e) :
    onWrite s f = .next { s with bus := .done 0, dev := e } := by
  rw [onWrite_eq, h]

/-- What a command on units and memories answers, given what they become. -/
theorem onMem_of {s : State} {f : Cfg → Store → Dev → Store × Dev} {st : Store} {e : Dev} (h : f s.cfg s.store s.dev = (st, e)) :
    onMem s f = .next { s with store := st, dev := e } := by
  rw [onMem, h]

/-- What a register write whose effect reaches the memories answers, given what they become. -/
theorem onMemWrite_of {s : State} {f : Cfg → Store → Dev → Store × Dev} {st : Store} {e : Dev} (h : f s.cfg s.store s.dev = (st, e)) :
    onMemWrite s f = .next { s with store := st, dev := e, bus := .done 0 } := by
  rw [onMemWrite, h]

/-- An occurrence recorded by units that have the time, the beat and the occurrences of `d`. -/
theorem event_occ_of {d e : Dev} (hocc : e.occ = d.occ) (htick : e.tick = d.tick) (hesc : e.esc = d.esc) (code : Nat) (ps : List Int) :
    (e.event code ps).occ = d.occ ++ [⟨code, d.tick, d.eventBeat, ps⟩] := by
  have hbeat : e.eventBeat = d.eventBeat := by rw [Dev.eventBeat, Dev.eventBeat, hesc]
  rw [Dev.event_occ, hocc, htick, hbeat]

/-! ### A feed (R438) -/

/-- A feed with the expected key. -/
def Dev.fed (d : Dev) : Dev :=
  ({ d with field := { d.field with fedTick := d.tick } }.putF FIO.WDG_STAT 8 8 0).putF FIO.WDG_STAT 16 16
    (if d.f FIO.WDG_STAT 16 16 = 0x3A5C then 0xC5A3 else 0x3A5C)

theorem wdgFeed_expected {s : State} {value : Word} (h : fld value 16 16 = s.dev.f FIO.WDG_STAT 16 16) :
    exec (.wdgFeed value) s = .next { s with bus := .done 0, dev := s.dev.fed } := by
  change execWdgFeed value s = _
  exact onWrite_of (if_neg (by simp [h]))

theorem wdgFeed_unexpected {s : State} {value : Word} (h : fld value 16 16 ≠ s.dev.f FIO.WDG_STAT 16 16) :
    exec (.wdgFeed value) s = .next { s with bus := .done 0, dev := s.dev.bump FIO.WDG_BAD_CNT } := by
  change execWdgFeed value s = _
  exact onWrite_of (if_pos (by simp [h]))

section
variable (d : Dev)

theorem fed_regsKept : RegsKept [FIO.WDG_STAT] d d.fed :=
  regsKept_put (regsKept_put (regsKept_congr regsKept_refl rfl) _ (List.mem_singleton_self _)) _ (List.mem_singleton_self _)

theorem fed_tick : d.fed.field.fedTick = d.tick := rfl

theorem fed_count : d.fed.f FIO.WDG_STAT 8 8 = 0 :=
  (Dev.f_putF_apart _ _ _ (by omega) (by omega)).trans (Dev.f_putF_self _ _ _ (by omega))

theorem fed_key : d.fed.f FIO.WDG_STAT 16 16 = if d.f FIO.WDG_STAT 16 16 = 0x3A5C then 0xC5A3 else 0x3A5C := by
  refine (Dev.f_putF_self _ _ _ (by omega)).trans ?_
  split <;> rfl

theorem fed_flags : d.fed.f FIO.WDG_STAT 0 8 = d.f FIO.WDG_STAT 0 8 :=
  (Dev.f_putF_apart _ _ _ (by omega) (by omega)).trans (Dev.f_putF_apart _ _ _ (by omega) (by omega))

end

/-! ### The silent field (R345, R432) -/

section
variable (d : Dev) (c : Cfg) (slow : Bool)

theorem foldl_silent {α : Type} {g : Dev → α → Dev} {l : List α} (hg : ∀ e a, (g e a).field.silent = e.field.silent) :
    (l.foldl g d).field.silent = d.field.silent :=
  List.foldlRecOn l g (motive := fun e => e.field.silent = d.field.silent) rfl fun e he a _ => (hg e a).trans he

theorem driveOutputs_silent : (d.driveOutputs c slow).field.silent = d.field.silent :=
  foldl_silent d fun _ _ => foldl_silent _ fun _ _ => rfl

theorem driveAouts_silent : (d.driveAouts c).field.silent = d.field.silent := foldl_silent d fun _ _ => rfl

theorem driveField_silent : (d.driveField c slow).field.silent = d.field.silent :=
  (driveAouts_silent _ c).trans (driveOutputs_silent d c slow)

theorem ptpStates_silent : (d.ptpStates c).field.silent = d.field.silent := by
  refine foldl_silent d fun e n => ?_
  dsimp only
  split <;> rfl

theorem crownFollows_silent : (d.crownFollows c slow).field.silent = d.field.silent :=
  (driveField_silent _ c slow).trans ((ptpStates_silent _ c).trans (foldl_silent _ fun _ _ => rfl))

theorem dropCrown_silent : (d.dropCrown c slow).field.silent = d.field.silent := by
  by_cases h : d.crown = true
  · rw [dropCrown_crowned c slow h, crownFollows_silent]
    rfl
  · exact congrArg (fun e : Dev => e.field.silent) (if_pos (by simp [h]))

/-- However the latch stood, it is clear and the failure stands. -/
theorem selfFail_prc : (d.selfFail c).prc = { d.prc with fail := true, latch := false } := by
  by_cases h : d.crown = true
  · exact (selfFail_crowned h).1
  · have hlatch : d.prc.latch = false := by simpa [Dev.crown] using h
    have hkept : (d.selfFail c).prc = { d.prc with fail := true } := congrArg Dev.prc (if_pos (by simp [Dev.crown, hlatch]))
    rw [hkept, ← hlatch]

theorem selfFail_eq : d.selfFail c = (d.declareFail.dropCrown c false).event 0x0A15 := rfl

theorem selfFail_tick : (d.selfFail c).tick = d.tick := (dropCrown_edgeKept d.declareFail c false).tick

theorem selfFail_silent : (d.selfFail c).field.silent = d.field.silent := dropCrown_silent d.declareFail c false

/-- A watchdog that is disarmed stays so, and its other flags stay with it. -/
theorem selfFail_flag {i : Nat} (hdis : d.b FIO.WDG_STAT 0 = false) : (d.selfFail c).b FIO.WDG_STAT i = d.b FIO.WDG_STAT i := by
  by_cases h : d.crown = true
  · have hlatch : d.declareFail.crown = true := h
    have hclear : (d.selfFail c).b FIO.WDG_STAT i = d.declareFail.clearLatch.b FIO.WDG_STAT i := by
      change (d.declareFail.dropCrown c false).b FIO.WDG_STAT i = _
      rw [dropCrown_crowned c false hlatch, Dev.b, crownFollows_w _ _ _ (by decide) (by decide)]
      rfl
    rw [hclear]
    by_cases hi : i = 0
    · rw [hi, hdis]
      exact Dev.b_putB_self _ _ _ (by omega)
    · exact Dev.b_putB_apart _ _ _ (by omega) hi
  · have hkept : d.declareFail.dropCrown c false = d.declareFail := if_pos (by simpa [Dev.declareFail, Dev.crown] using h)
    change (d.declareFail.dropCrown c false).b FIO.WDG_STAT i = _
    rw [hkept]
    rfl

/-- The field has fallen silent: nothing waits for its slot, the watchdog is disarmed and has expired. -/
def Dev.showSilent (d : Dev) (lost : Bool) : Dev :=
  let d := { d with field := { d.field with silent := true, pendMask := 0, pendBits := 0, pendAout := [] } }
  ((d.putB FIO.WDG_STAT 0 false).putB FIO.WDG_STAT 1 true).putB FIO.WDG_STAT 2 (lost || d.b FIO.WDG_STAT 2)

theorem fieldSilent_eq (lost : Bool) : d.fieldSilent c lost
    = ((((d.showSilent lost).event 0x300A [(lost.toNat : Int)]).selfFail c).driveField c false).crownLost := rfl

section
variable (lost : Bool)

theorem showSilent_prc : (d.showSilent lost).prc = d.prc := rfl

theorem fieldSilent_prc : (d.fieldSilent c lost).prc = { d.prc with fail := true, latch := false } := by
  have hkept := selfFail_prc ((d.showSilent lost).event 0x300A [(lost.toNat : Int)]) c
  rw [Dev.event_prc, showSilent_prc] at hkept
  rw [fieldSilent_eq, crownLost_prc]
  exact (driveField_latchKept _ c false).prc.trans hkept

theorem fieldSilent_crown : (d.fieldSilent c lost).crown = false := by rw [Dev.crown, fieldSilent_prc]

theorem crownLost_tick (e : Dev) : e.crownLost.tick = e.tick := by rw [crownLost_modes]
theorem crownLost_field (e : Dev) : e.crownLost.field = e.field := by rw [crownLost_modes]

theorem fieldSilent_tick : (d.fieldSilent c lost).tick = d.tick := by
  rw [fieldSilent_eq, crownLost_tick, (driveField_edgeKept _ c false).tick, selfFail_tick]
  rfl

theorem fieldSilent_silent : (d.fieldSilent c lost).field.silent = true := by
  rw [fieldSilent_eq, crownLost_field, driveField_silent, selfFail_silent]
  rfl

theorem silence_flag (e : Dev) {i : Nat} (h : e.b FIO.WDG_STAT 0 = false) :
    ((e.selfFail c).driveField c false).crownLost.b FIO.WDG_STAT i = e.b FIO.WDG_STAT i := by
  rw [Dev.b, w_crownLost, (driveField_latchKept _ c false).regs _ (by decide)]
  exact selfFail_flag e c h

theorem showSilent_disarmed : (d.showSilent lost).b FIO.WDG_STAT 0 = false :=
  (Dev.b_putB_apart _ _ _ (by omega) (by omega)).trans
    ((Dev.b_putB_apart _ _ _ (by omega) (by omega)).trans (Dev.b_putB_self _ _ _ (by omega)))

/-- The flags of the watchdog are those that the silence shows. -/
theorem fieldSilent_flag {i : Nat} : (d.fieldSilent c lost).b FIO.WDG_STAT i = (d.showSilent lost).b FIO.WDG_STAT i := by
  have hdisarmed := (b_event (d.showSilent lost) 0x300A [(lost.toNat : Int)] FIO.WDG_STAT 0).trans (showSilent_disarmed d lost)
  rw [fieldSilent_eq, silence_flag c _ hdisarmed, b_event]

theorem fieldSilent_disarmed : (d.fieldSilent c lost).b FIO.WDG_STAT 0 = false :=
  (fieldSilent_flag d c lost).trans (showSilent_disarmed d lost)

theorem fieldSilent_expired : (d.fieldSilent c lost).b FIO.WDG_STAT 1 = true := by
  rw [fieldSilent_flag, Dev.showSilent]
  exact (Dev.b_putB_apart _ _ _ (by omega) (by omega)).trans (Dev.b_putB_self _ _ _ (by omega))

theorem fieldSilent_lost : (d.fieldSilent c true).b FIO.WDG_STAT 2 = true := by
  rw [fieldSilent_flag, Dev.showSilent]
  exact Dev.b_putB_self _ _ _ (by omega)

end

end

theorem wdgExpired_armed {s : State} (h : s.dev.b FIO.WDG_STAT 0 = true) : exec .wdgExpired s = .next { s with
    dev := (s.dev.advanceTo (s.dev.field.fedTick + s.cfg.f FIO.WDG_CFG 8 8 * ticksPerMs)).fieldSilent s.cfg false } := by
  change execWdgExpired s = _
  exact onDev_of (if_pos h)

theorem wdgExpired_disarmed {s : State} (h : s.dev.b FIO.WDG_STAT 0 = false) : exec .wdgExpired s = .next s := by
  change execWdgExpired s = _
  exact onDev_of (if_neg (by simp [h]))

theorem fieldLinkLost_third {s : State} (hbad : 3 ≤ s.dev.field.badSlots) (h : s.dev.b FIO.WDG_STAT 2 = false) :
    exec .fieldLinkLost s = .next { s with dev := s.dev.fieldSilent s.cfg true } := by
  change execFieldLinkLost s = _
  exact onDev_of (if_pos (by simp [hbad, h]))

theorem fieldLinkLost_idle {s : State} (h : s.dev.field.badSlots < 3 ∨ s.dev.b FIO.WDG_STAT 2 = true) : exec .fieldLinkLost s = .next s := by
  have hidle : ¬ (decide (3 ≤ s.dev.field.badSlots) && !s.dev.b FIO.WDG_STAT 2) = true := by
    rcases h with h | h
    · simp [h]
    · simp [h]
  change execFieldLinkLost s = _
  exact onDev_of (if_neg hidle)

/-- Settles O55: a feed by its key, then the watchdog that expires and the link that is lost, each idle or silent. -/
theorem fieldWatchdog : Obligations.FieldWatchdog := by
  unfold Obligations.FieldWatchdog
  refine ⟨fun s value h => ?fed, fun s value h => wdgFeed_unexpected h, fun s h => wdgExpired_disarmed h, fun s h => fieldLinkLost_idle h,
    fun s h => ?expired, fun s hbad h => ?lost⟩
  case fed => exact ⟨_, wdgFeed_expected h, rfl, fed_regsKept _, rfl, fed_count _, fed_key _, fed_flags _⟩
  case expired =>
    exact ⟨_, wdgExpired_armed h, rfl, fieldSilent_crown _ _ _, fieldSilent_tick _ _ _, by rw [fieldSilent_prc], fieldSilent_silent _ _ _,
      fieldSilent_disarmed _ _ _, fieldSilent_expired _ _ _⟩
  case lost =>
    exact ⟨_, fieldLinkLost_third hbad h, rfl, fieldSilent_crown _ _ _, by rw [fieldSilent_prc], fieldSilent_disarmed _ _ _,
      fieldSilent_expired _ _ _, fieldSilent_lost _ _⟩

end Sys2Proof.Machine
end

section
/-! SUPPORT. The event recorder: the freeze of the ring and its end, the holding FIFO, clearing, admission, the granule that completes a
record. -/
namespace Sys2Proof.Machine
-- One proof after another: proofs that wait for each other would each hold a thread and its stack.
set_option Elab.async false

/-! ### The freeze (R481) -/

section
variable {s : State}

theorem freezeStart_first (h : s.dev.b EVR.FREEZE 0 = false) : exec .freezeStart s = .next { s with
    bus := .done 0
    dev := { (s.dev.put EVR.FREEZE 1).putB EVR.STAT 0 true with evr := { s.dev.evr with freezeTick := s.dev.tick, dropped := 0 } } } := by
  change execFreezeStart s = _
  exact onWrite_of (if_neg (by simp [h]))

theorem freezeStart_again (h : s.dev.b EVR.FREEZE 0 = true) : exec .freezeStart s = .next { s with bus := .done 0 } := by
  change execFreezeStart s = _
  exact onWrite_of (if_pos h)

theorem freezeEnd_idle (h : s.dev.b EVR.FREEZE 0 = false) : exec .freezeEnd s = .next { s with bus := .done 0 } := by
  change execFreezeEnd s = _
  exact onWrite_of (if_neg (by simp [h]))

theorem freezeEnd_frozen (h : s.dev.b EVR.FREEZE 0 = true) : exec .freezeEnd s = .next { s with bus := .done 0, dev := s.dev.endFreeze } := by
  change execFreezeEnd s = _
  exact onWrite_of (if_pos h)

theorem freezeTimeout_idle (h : s.dev.b EVR.FREEZE 0 = false) : exec .freezeTimeout s = .next s := by
  change execFreezeTimeout s = _
  exact onDev_of (if_neg (by simp [h]))

theorem freezeTimeout_frozen (h : s.dev.b EVR.FREEZE 0 = true) : exec .freezeTimeout s = .next { s with
    dev := ((s.dev.advanceTo (s.dev.evr.freezeTick + s.cfg.f EVR.CFG 8 6 * ticksPerSec)).event 0x0605).endFreeze } := by
  change execFreezeTimeout s = _
  exact onDev_of (if_pos h)

end

theorem endFreeze_quiet {d : Dev} (h : d.evr.dropped = 0) : d.endFreeze = (d.put EVR.FREEZE 0).putB EVR.STAT 0 false := by
  have hkept : { d.evr with dropped := 0 } = d.evr := by rw [← h]
  refine (if_pos h).trans ?_
  rw [hkept]
  rfl

theorem endFreeze_drops {d : Dev} (h : d.evr.dropped ≠ 0) :
    d.endFreeze = ({ (d.put EVR.FREEZE 0).putB EVR.STAT 0 false with evr := { d.evr with dropped := 0 } } : Dev).event 0x0601
      [(d.evr.dropped : Int)] := if_neg h

theorem nextRecord_frozen {d : Dev} (h : d.b EVR.FREEZE 0 = true) : nextRecord d = none := if_pos (by simp [h])

theorem granuleCommit_none {s : State} (h : nextRecord s.dev = none) : exec .granuleCommit s = .next s := by
  change execGranuleCommit s = _
  exact onMem_of (by simp only [h])

/-! ### The holding FIFO (R481) -/

section
variable {d : Dev} (r : EvrRecord)

theorem hold_room (h : d.evr.holding.length < 256) : d.hold r
    = ({ d with evr := { d.evr with holding := d.evr.holding ++ [r] } } : Dev).putF EVR.STAT 16 9 (d.evr.holding ++ [r]).length := by
  have hfree : decide (256 ≤ d.evr.holding.length) = false := decide_eq_false (by omega)
  unfold Dev.hold
  rw [hfree]
  rfl

theorem hold_full (h : 256 ≤ d.evr.holding.length) : d.hold r
    = (({ d with evr := { d.evr with holding := d.evr.holding.drop 1 ++ [r], dropped := d.evr.dropped + 1 } } : Dev).bump
        EVR.HOLD_DROP_CNT).putF EVR.STAT 16 9 (d.evr.holding.drop 1 ++ [r]).length := by
  have hfull : decide (256 ≤ d.evr.holding.length) = true := decide_eq_true h
  unfold Dev.hold
  rw [hfull]
  rfl

theorem hold_length (h : d.evr.holding.length ≤ 256) : (d.hold r).evr.holding.length ≤ 256 := by
  rcases Nat.lt_or_ge d.evr.holding.length 256 with hroom | hfull
  · rw [hold_room r hroom, Dev.putF_evr, List.length_append, List.length_singleton]
    exact hroom
  · rw [hold_full r hfull, Dev.putF_evr, Dev.bump_evr, List.length_append, List.length_drop, List.length_singleton]
    omega

end

/-- Settles O42: the freeze and its ends by their flag, then a FIFO with room and a full one. -/
theorem ringFreeze : Obligations.RingFreeze := by
  unfold Obligations.RingFreeze
  refine ⟨fun s h => freezeStart_first h, fun s h => freezeStart_again h, fun s h => ⟨freezeEnd_idle h, freezeTimeout_idle h⟩,
    fun s h => granuleCommit_none (nextRecord_frozen h), fun s h hquiet => ⟨?_, ?_⟩, fun s h hdrops => ?_,
    fun d r h => ⟨hold_length r h, fun hroom => ?_, fun hfull => ?_⟩⟩
  · rw [freezeEnd_frozen h, endFreeze_quiet hquiet]
  · have hlate : ((s.dev.advanceTo (s.dev.evr.freezeTick + s.cfg.f EVR.CFG 8 6 * ticksPerSec)).event 0x0605).evr.dropped = 0 := hquiet
    rw [freezeTimeout_frozen h, endFreeze_quiet hlate]
  · rw [freezeEnd_frozen h, endFreeze_drops hdrops]
  · rw [hold_room r hroom]
    exact ⟨rfl, rfl⟩
  · rw [hold_full r (by omega)]
    exact ⟨rfl, rfl, Dev.w_putF_ne _ _ _ _ (by decide)⟩

/-! ### Clearing (R482) -/

/-- The answer to the nonce `n` (R482). -/
def clearAnswer (d : Dev) (n : BitVec 64) : List Byte :=
  (hmacSha256 Config.maintenanceKey (leBytes 8 n.toNat ++ leBytes 8 (d.w SYS.UID_HI ++ d.w SYS.UID_LO).toNat)).take 8

/-- The answer that was given. -/
def givenAnswer (d : Dev) : List Byte := leBytes 8 (d.w EVR.CLR_RESP_HI ++ d.w EVR.CLR_RESP_LO).toNat

/-- A wrong answer is refused and counted; the count starts again with the third. -/
def Dev.countWrong (d : Dev) : Dev :=
  (d.clearRefused 8).putF EVR.CLR_RES 4 2 (if d.f EVR.CLR_RES 4 2 + 1 = 3 then 0 else d.f EVR.CLR_RES 4 2 + 1)

/-- The clear is locked from now. -/
def Dev.lockClear (d : Dev) : Dev := { d.putB EVR.STAT 2 true with evr := { d.evr with lockTick := d.tick } }

/-- What an answer to the nonce `n` does: a third wrong one locks the clear. -/
def judgeAnswer (c : Cfg) (st : Store) (d : Dev) (n : BitVec 64) : Store × Dev :=
  if givenAnswer d != clearAnswer d n then
    if d.f EVR.CLR_RES 4 2 + 1 = 3 then (st, d.countWrong.lockClear) else (st, d.countWrong)
  else clearRing c st d

section
variable {c : Cfg} {st : Store} {d : Dev} {n : BitVec 64}

theorem judgeAnswer_right (h : givenAnswer d = clearAnswer d n) : judgeAnswer c st d n = clearRing c st d := if_neg (by simp [h])

theorem judgeAnswer_wrong (h : givenAnswer d ≠ clearAnswer d n) (hfew : d.f EVR.CLR_RES 4 2 < 2) :
    judgeAnswer c st d n = (st, (d.clearRefused 8).putF EVR.CLR_RES 4 2 (d.f EVR.CLR_RES 4 2 + 1)) := by
  have hcount : ¬ d.f EVR.CLR_RES 4 2 + 1 = 3 := by omega
  rw [judgeAnswer, if_pos (by simp [h]), if_neg hcount, Dev.countWrong, if_neg hcount]

theorem judgeAnswer_third (h : givenAnswer d ≠ clearAnswer d n) (htwo : d.f EVR.CLR_RES 4 2 = 2) :
    judgeAnswer c st d n = (st, { ((d.clearRefused 8).putF EVR.CLR_RES 4 2 0).putB EVR.STAT 2 true with
      evr := { d.evr with lockTick := d.tick } }) := by
  have hcount : d.f EVR.CLR_RES 4 2 + 1 = 3 := by omega
  rw [judgeAnswer, if_pos (by simp [h]), if_pos hcount, Dev.countWrong, if_pos hcount]
  rfl

end

section
variable {s : State} {value : Word}

theorem clrReq_badKey (h : fld value 16 16 ≠ 0x6C1E) : exec (.clrReq value) s = .next { s with bus := .done 0, dev := s.dev.clearRefused 9 } := by
  change execClrReq value s = _
  exact onWrite_of (if_pos (by simp [h]))

theorem clrCmd_badKey (h : fld value 16 16 ≠ 0x6C1E) : exec (.clrCmd value) s = .next { s with bus := .done 0, dev := s.dev.clearRefused 9 } := by
  change execClrCmd value s = _
  exact onMemWrite_of (if_pos (by simp [h]))

section
variable (hkey : fld value 16 16 = 0x6C1E)
include hkey

theorem clrReq_otherMode (hmode : s.dev.mode ≠ 3) : exec (.clrReq value) s = .next { s with bus := .done 0, dev := s.dev.clearRefused 3 } := by
  change execClrReq value s = _
  exact onWrite_of ((if_neg (by simp [hkey])).trans (if_pos (by simp [hmode])))

theorem clrCmd_otherMode (hmode : s.dev.mode ≠ 3) : exec (.clrCmd value) s = .next { s with bus := .done 0, dev := s.dev.clearRefused 3 } := by
  change execClrCmd value s = _
  exact onMemWrite_of ((if_neg (by simp [hkey])).trans (if_pos (by simp [hmode])))

variable (hmode : s.dev.mode = 3)
include hmode

theorem clrReq_frozen (h : s.dev.b EVR.FREEZE 0 = true) :
    exec (.clrReq value) s = .next { s with bus := .done 0, dev := s.dev.clearRefused 4 } := by
  change execClrReq value s = _
  exact onWrite_of ((if_neg (by simp [hkey])).trans ((if_neg (by simp [hmode])).trans (if_pos h)))

variable (hfreeze : s.dev.b EVR.FREEZE 0 = false)
include hfreeze

theorem clrReq_noKeyLoaded (h : s.dev.b EVR.STAT 1 = false) :
    exec (.clrReq value) s = .next { s with bus := .done 0, dev := s.dev.clearRefused 5 } := by
  change execClrReq value s = _
  exact onWrite_of ((if_neg (by simp [hkey])).trans ((if_neg (by simp [hmode])).trans ((if_neg (by simp [hfreeze])).trans
    (if_pos (by simp [h])))))

theorem clrReq_locked (hloaded : s.dev.b EVR.STAT 1 = true) (h : s.dev.b EVR.STAT 2 = true) :
    exec (.clrReq value) s = .next { s with bus := .done 0, dev := s.dev.clearRefused 6 } := by
  change execClrReq value s = _
  exact onWrite_of ((if_neg (by simp [hkey])).trans ((if_neg (by simp [hmode])).trans ((if_neg (by simp [hfreeze])).trans
    ((if_neg (by simp [hloaded])).trans (if_pos h)))))

theorem clrReq_taken (hloaded : s.dev.b EVR.STAT 1 = true) (hopen : s.dev.b EVR.STAT 2 = false) :
    exec (.clrReq value) s = .next { s with
      bus := .done 0
      dev := (({ s.dev with
          free := s.dev.free + 2
          evr := { s.dev.evr with nonce := some (Config.freeWord (s.dev.free + 1) ++ Config.freeWord s.dev.free, s.dev.tick) } } :
        Dev).put EVR.CLR_NONCE_LO (Config.freeWord s.dev.free)).put EVR.CLR_NONCE_HI (Config.freeWord (s.dev.free + 1))
        |>.putF EVR.CLR_RES 0 4 1 } := by
  change execClrReq value s = _
  exact onWrite_of ((if_neg (by simp [hkey])).trans ((if_neg (by simp [hmode])).trans ((if_neg (by simp [hfreeze])).trans
    ((if_neg (by simp [hloaded])).trans (if_neg (by simp [hopen]))))))

theorem clrCmd_noNonce (h : s.dev.evr.nonce = none) :
    exec (.clrCmd value) s = .next { s with bus := .done 0, dev := s.dev.clearRefused 7 } := by
  change execClrCmd value s = _
  refine onMemWrite_of ((if_neg (by simp [hkey])).trans ((if_neg (by simp [hmode])).trans ((if_neg (by simp [hfreeze])).trans ?_)))
  rw [h]

/-- With a nonce the answer is judged. -/
theorem clrCmd_judged {n : BitVec 64} {t0 : Nat} (h : s.dev.evr.nonce = some (n, t0)) :
    exec (.clrCmd value) s = .next { s with
      bus := .done 0, store := (judgeAnswer s.cfg s.store s.dev n).1, dev := (judgeAnswer s.cfg s.store s.dev n).2 } := by
  change execClrCmd value s = _
  refine onMemWrite_of ((if_neg (by simp [hkey])).trans ((if_neg (by simp [hmode])).trans ((if_neg (by simp [hfreeze])).trans ?_)))
  rw [h]
  rfl

end
end

/-! ### The ring is cleared (R476, R482) -/

/-- A write of the block to the memories may take the injection that waits for it (R470). -/
theorem writeBy_regsKept (st : Store) (d : Dev) (a : Nat) (bs : List Byte) : RegsKept [MEM.INJ_CTRL] d (st.writeBy d a bs).2 := by
  unfold Store.writeBy inject
  dsimp only
  split
  · split
    · exact regsKept_put (regsKept_put regsKept_refl _ (List.mem_singleton_self _)) _ (List.mem_singleton_self _)
    · exact regsKept_refl
  · exact regsKept_refl

/-- The granules `l` of a record that begins at `head` are written. -/
def writeGranules (bs : List Byte) (head : Nat) (l : List Nat) (x : Store × Dev) : Store × Dev :=
  l.foldl (fun (x : Store × Dev) i => x.1.writeBy x.2 (ringBase + 64 * ((head + i) % ringSize)) ((bs.drop (64 * i)).take 64)) x

theorem writeGranules_regsKept (bs : List Byte) (head : Nat) (l : List Nat) (x : Store × Dev) :
    RegsKept [MEM.INJ_CTRL] x.2 (writeGranules bs head l x).2 :=
  List.foldlRecOn (motive := fun y : Store × Dev => RegsKept [MEM.INJ_CTRL] x.2 y.2) l _ regsKept_refl
    fun y hy _ _ => regsKept_trans hy (writeBy_regsKept y.1 y.2 _ _)

/-- The record with number `seq`, `gran` granules from `head`, is the ring's only one. -/
def Dev.showOnly (d : Dev) (seq head gran : Nat) : Dev :=
  let e := { d with evr := { d.evr with index := [(seq, head, gran)], nonce := none, written := 0 } }
  ((((e.wrap EVR.SEQ_NEXT 0 32 1).putN EVR.TAIL head).putN EVR.TAIL_SEQ seq).putN EVR.HEAD ((head + gran) % ringSize)).putN EVR.CLR_RES 2

/-- The CLEARED record. -/
def clearedBytes (c : Cfg) (st : Store) (d : Dev) : List Byte :=
  let first := (d.w EVR.TAIL_SEQ).toNat
  let last : Int := match d.evr.index.getLast? with | some p => p.1 | none => first
  recordBytes d ⟨0x0603, d.tick, d.eventBeat, [first, last, d.evr.index.length, 0]⟩
    ((((codeEntries st).find? (fun e => e.code = 0x0603 && e.flags.testBit 0)).map (·.sev)).getD (c.f EVR.DEF_CFG 8 3))
    (d.w EVR.SEQ_NEXT).toNat 0 []

theorem clearRing_eq (c : Cfg) (st : Store) (d : Dev) :
    let bs := clearedBytes c st d
    let head := (d.w EVR.HEAD).toNat
    let x := writeGranules bs head (List.range (bs.length / 64)) (st, d)
    clearRing c st d = (x.1, x.2.showOnly (d.w EVR.SEQ_NEXT).toNat head (bs.length / 64)) := rfl

theorem wrap_one (d : Dev) (k : Nat) : (d.wrap k 0 32 1).w k = d.w k + 1 := by
  have hwhole : d.f k 0 32 = (d.w k).toNat := by
    rw [Dev.f, fld, Nat.pow_zero, Nat.div_one, Nat.mod_eq_of_lt (d.w k).isLt]
  rw [Dev.wrap, Dev.w_putF_self, setFld_word, hwhole, wd_succ]

section
variable (d : Dev) (seq head gran : Nat)

theorem showOnly_seqNext : (d.showOnly seq head gran).w EVR.SEQ_NEXT = d.w EVR.SEQ_NEXT + 1 :=
  (Dev.w_putN_ne _ _ (by decide)).trans ((Dev.w_putN_ne _ _ (by decide)).trans ((Dev.w_putN_ne _ _ (by decide)).trans
    ((Dev.w_putN_ne _ _ (by decide)).trans (wrap_one _ _))))

theorem showOnly_tail : (d.showOnly seq head gran).w EVR.TAIL = wd head :=
  (Dev.w_putN_ne _ _ (by decide)).trans ((Dev.w_putN_ne _ _ (by decide)).trans ((Dev.w_putN_ne _ _ (by decide)).trans
    (Dev.w_putN_self _ _ _)))

theorem showOnly_tailSeq : (d.showOnly seq head gran).w EVR.TAIL_SEQ = wd seq :=
  (Dev.w_putN_ne _ _ (by decide)).trans ((Dev.w_putN_ne _ _ (by decide)).trans (Dev.w_putN_self _ _ _))

end

theorem wd_toNat (w : Word) : wd w.toNat = w := BitVec.ofNat_toNat 32 w

/-- A clear leaves one record, with the next sequence number, where HEAD was. -/
theorem clearRing_spec (c : Cfg) (st : Store) (d : Dev) {x : Store × Dev} (hx : clearRing c st d = x) :
    x.2.evr.nonce = none ∧ x.2.evr.index.map (fun p => p.1) = [(d.w EVR.SEQ_NEXT).toNat] ∧ x.2.w EVR.TAIL = d.w EVR.HEAD
      ∧ x.2.w EVR.TAIL_SEQ = d.w EVR.SEQ_NEXT ∧ x.2.w EVR.SEQ_NEXT = d.w EVR.SEQ_NEXT + 1 ∧ x.2.w EVR.CLR_RES = 2 := by
  rw [clearRing_eq] at hx
  have hkept := writeGranules_regsKept (clearedBytes c st d) (d.w EVR.HEAD).toNat (List.range ((clearedBytes c st d).length / 64)) (st, d)
  rw [← hx]
  generalize writeGranules _ _ _ (st, d) = y at hkept ⊢
  refine ⟨rfl, rfl, ?_, ?_, ?_, Dev.w_putN_self _ _ _⟩
  · rw [showOnly_tail, wd_toNat]
  · rw [showOnly_tailSeq, wd_toNat]
  · rw [showOnly_seqNext, hkept _ (by decide)]

/-! ### The ends of the nonce and of the lock (R482) -/

section
variable {s : State}

theorem nonceExpiry_shown {n : BitVec 64} {t0 : Nat} (h : s.dev.evr.nonce = some (n, t0)) : exec .nonceExpiry s = .next { s with
    dev := { s.dev.advanceTo (t0 + 60 * ticksPerSec) with evr := { s.dev.evr with nonce := none } } } := by
  change execNonceExpiry s = _
  refine onDev_of ?_
  rw [h]
  rfl

theorem nonceExpiry_none (h : s.dev.evr.nonce = none) : exec .nonceExpiry s = .next s := by
  change execNonceExpiry s = _
  refine onDev_of ?_
  rw [h]

theorem clrLockExpiry_locked (h : s.dev.b EVR.STAT 2 = true) : exec .clrLockExpiry s = .next { s with
    dev := (s.dev.advanceTo (s.dev.evr.lockTick + 600 * ticksPerSec)).putB EVR.STAT 2 false } := by
  change execClrLockExpiry s = _
  exact onDev_of (if_pos h)

theorem clrLockExpiry_open (h : s.dev.b EVR.STAT 2 = false) : exec .clrLockExpiry s = .next s := by
  change execClrLockExpiry s = _
  exact onDev_of (if_neg (by simp [h]))

end

/-- Settles O43: the request and the answer by the first code that applies, the answer judged, then the two time limits. -/
theorem ringClear : Obligations.RingClear := by
  unfold Obligations.RingClear
  refine ⟨fun s v hmode hkey hfreeze hloaded hopen => clrReq_taken hkey hmode hfreeze hloaded hopen, fun s v h => ⟨clrReq_badKey h, clrCmd_badKey h⟩,
    fun s v hkey h => ⟨clrReq_otherMode hkey h, clrCmd_otherMode hkey h⟩, fun s v hkey hmode h => clrReq_frozen hkey hmode h,
    fun s v hkey hmode hfreeze => ⟨clrReq_noKeyLoaded hkey hmode hfreeze, clrReq_locked hkey hmode hfreeze, clrCmd_noNonce hkey hmode hfreeze⟩,
    fun d code => rfl, fun s v n t0 hkey hmode hfreeze hnonce => ?_, fun s n t0 => nonceExpiry_shown, fun s => nonceExpiry_none,
    fun s => clrLockExpiry_locked, fun s => clrLockExpiry_open⟩
  have hjudged := clrCmd_judged hkey hmode hfreeze hnonce
  refine ⟨fun h => ⟨_, hjudged, rfl, rfl, ?_⟩, fun h hfew => ?_, fun h htwo => ?_⟩
  · exact clearRing_spec s.cfg s.store s.dev (judgeAnswer_right h).symm
  · rw [hjudged, judgeAnswer_wrong h hfew]
  · rw [hjudged, judgeAnswer_third h htwo]

/-! ### Admission (R475, R480) -/

/-- Of two occurrences the one that is admitted first, or either. -/
def NotLater (o p : Occurrence) : Prop := o.tick < p.tick ∨ (o.tick = p.tick ∧ o.code ≤ p.code)

theorem notLater_trans {o p q : Occurrence} (h : NotLater o p) (g : NotLater p q) : NotLater o q := by
  unfold NotLater at *
  omega

/-- The choice among those that wait, with `b` the best so far: it waits, and none of them comes before it. -/
theorem firstOccurrence_some (l : List Occurrence) (b : Occurrence) :
    ∃ o, l.foldl (fun best o => match best with
        | none => some o
        | some b => if o.tick < b.tick ∨ (o.tick = b.tick ∧ o.code < b.code) then some o else some b) (some b) = some o
      ∧ o ∈ b :: l ∧ ∀ p ∈ b :: l, NotLater o p := by
  induction l generalizing b with
  | nil => exact ⟨b, rfl, List.mem_singleton_self b, fun p hp => by rw [List.mem_singleton.mp hp]; exact .inr ⟨rfl, Nat.le_refl _⟩⟩
  | cons a l ih =>
    rw [List.foldl_cons]
    dsimp only
    split
    next h =>
      obtain ⟨o, hfold, hmem, hfirst⟩ := ih a
      have hab : NotLater a b := by unfold NotLater; omega
      refine ⟨o, hfold, List.mem_cons_of_mem _ hmem, fun p hp => ?_⟩
      rcases List.mem_cons.mp hp with rfl | hp
      · exact notLater_trans (hfirst a List.mem_cons_self) hab
      · exact hfirst p hp
    next h =>
      obtain ⟨o, hfold, hmem, hfirst⟩ := ih b
      have hba : NotLater b a := by unfold NotLater; omega
      refine ⟨o, hfold, ?_, fun p hp => ?_⟩
      · rcases List.mem_cons.mp hmem with rfl | hmem
        · exact List.mem_cons_self
        · exact List.mem_cons_of_mem _ (List.mem_cons_of_mem _ hmem)
      · rcases List.mem_cons.mp hp with rfl | hp
        · exact hfirst p List.mem_cons_self
        · rcases List.mem_cons.mp hp with rfl | hp
          · exact notLater_trans (hfirst b List.mem_cons_self) hba
          · exact hfirst p (List.mem_cons_of_mem _ hp)

theorem firstOccurrence_spec {l : List Occurrence} {o : Occurrence} (h : firstOccurrence l = some o) :
    o ∈ l ∧ ∀ p ∈ l, NotLater o p := by
  cases l with
  | nil => cases h
  | cons a l =>
    obtain ⟨q, hfold, hspec⟩ := firstOccurrence_some l a
    have hq : q = o := Option.some.inj (hfold.symm.trans h)
    rw [← hq]
    exact hspec

section
variable {s : State}

theorem eventAdmit_first {o : Occurrence} (h : firstOccurrence s.dev.occ = some o) :
    exec .eventAdmit s = .next { s with dev := takeIn s.cfg s.store { s.dev with occ := s.dev.occ.erase o } o } := by
  change execEventAdmit s = _
  refine onDev_of ?_
  rw [h]

theorem eventAdmit_none (h : s.dev.occ = []) : exec .eventAdmit s = .next s := by
  change execEventAdmit s = _
  refine onDev_of ?_
  rw [h]
  rfl

end

/-- An admission from the default bucket is paid for with a token and the next sequence number. -/
def Dev.payDefault (d : Dev) (o : Occurrence) : Dev :=
  ({ d with evr := { d.evr with
    spent := Assoc.set 0 d.evr.spent 1024 (Assoc.get 0 d.evr.spent 1024 + 1), supp := Assoc.set 0 d.evr.supp o.code 0 } } : Dev).wrap
    EVR.SEQ_NEXT 0 32 1

/-- The record of an admission from the default bucket. -/
def defaultRecord (d : Dev) (c : Cfg) (o : Occurrence) : EvrRecord :=
  ⟨(d.w EVR.SEQ_NEXT).toNat, recordBytes d o (c.f EVR.DEF_CFG 8 3) (d.w EVR.SEQ_NEXT).toNat (satU 16 (Assoc.get 0 d.evr.supp o.code)) []⟩

/-- The record waits for the ring. -/
def Dev.queueDefault (d : Dev) (c : Cfg) (o : Occurrence) : Dev :=
  let e := d.payDefault o
  { e with evr := { e.evr with intake := e.evr.intake ++ [defaultRecord d c o] } }

theorem holds_payDefault (d : Dev) (o : Occurrence) : holds (d.payDefault o) = holds d := by
  have hw (k : Nat) (hk : k ≠ EVR.SEQ_NEXT) : (d.payDefault o).w k = d.w k := Dev.w_putF_ne _ _ _ _ hk
  have hmode : (d.payDefault o).mode = d.mode := Dev.mode_putF _ _ _ _ (by decide)
  have hholding : (d.payDefault o).evr.holding = d.evr.holding := rfl
  rw [holds, Dev.b, Dev.b, hw _ (by decide), hw _ (by decide), hmode, hholding, holds, Dev.b, Dev.b]

section
variable {c : Cfg} {st : Store} {d : Dev} {o : Occurrence}

theorem takeIn_disabled (hlisted : ∃ e ∈ codeEntries st, e.code = o.code)
    (hoff : ∀ e ∈ codeEntries st, e.code = o.code → e.flags.testBit 0 = false) : takeIn c st d o = d := by
  obtain ⟨e, he, hcode⟩ := hlisted
  have hnone : ((codeEntries st).filter (fun e => e.code = o.code)).find? (fun e => e.flags.testBit 0) = none := by
    rw [List.find?_eq_none]
    intro x hx
    obtain ⟨hmem, hx⟩ := List.mem_filter.mp hx
    rw [hoff x hmem (of_decide_eq_true hx)]
    decide
  have hsome : ((codeEntries st).filter (fun e => e.code = o.code)).isEmpty = false := by
    rw [List.isEmpty_eq_false_iff_exists_mem]
    exact ⟨e, List.mem_filter.mpr ⟨he, decide_eq_true hcode⟩⟩
  exact if_pos (by rw [hnone, hsome]; rfl)

/-! With an empty code table every occurrence draws on the default bucket, number 1024. -/

variable (htable : codeEntries st = []) (hring : holds d = false)
include htable hring

theorem takeIn_lost (hfull : 64 ≤ d.evr.intake.length) :
    takeIn c st d o = ({ d with evr := { d.evr with lost := d.evr.lost + 1 } } : Dev).bump EVR.LOST_CNT :=
  (if_neg (by simp [htable])).trans (if_pos (by simp [hring, hfull]))

variable (hroom : d.evr.intake.length < 64)
include hroom

theorem takeIn_suppressed (hspent : c.f EVR.DEF_CFG 0 8 ≤ Assoc.get 0 d.evr.spent 1024) :
    takeIn c st d o = ({ d with evr := { d.evr with
      supp := Assoc.set 0 d.evr.supp o.code (Assoc.get 0 d.evr.supp o.code + 1) } } : Dev).bump EVR.SUPP_TOTAL := by
  refine (if_neg (by simp [htable])).trans ((if_neg (by simp [hring, hroom])).trans ?_)
  rw [htable]
  exact if_pos hspent

theorem takeIn_admitted (htoken : Assoc.get 0 d.evr.spent 1024 < c.f EVR.DEF_CFG 0 8) :
    takeIn c st d o = if c.f EVR.CFG 0 3 ≤ c.f EVR.DEF_CFG 8 3 then (d.queueDefault c o).irq 0x40005000 0 else d.queueDefault c o := by
  have hheld : holds (d.payDefault o) = false := (holds_payDefault d o).trans hring
  refine (if_neg (by simp [htable])).trans ((if_neg (by simp [hring, hroom])).trans ?_)
  rw [htable]
  refine (if_neg (by omega)).trans ?_
  change (let e := if holds (d.payDefault o) = true then (d.payDefault o).hold (defaultRecord d c o) else d.queueDefault c o
    let f := if (decide (c.f EVR.CFG 0 3 ≤ c.f EVR.DEF_CFG 8 3) || Nat.testBit 0 2) = true then e.irq 0x40005000 0 else e
    if Nat.testBit 0 1 = true then f.hackTrigger c 2 else f) = _
  simp only [hheld, Nat.zero_testBit, Bool.or_false, decide_eq_true_eq, Bool.false_eq_true, if_false]

end

/-- What an admission from the default bucket leaves: the record waits last, a token and a sequence number are taken. -/
theorem queueDefault_spec (d : Dev) (c : Cfg) (o : Occurrence) {e : Dev} (h : e = (d.queueDefault c o).irq 0x40005000 0 ∨ e = d.queueDefault c o) :
    e.evr.intake = d.evr.intake ++ [defaultRecord d c o] ∧ e.w EVR.SEQ_NEXT = d.w EVR.SEQ_NEXT + 1
      ∧ Assoc.get 0 e.evr.spent 1024 = Assoc.get 0 d.evr.spent 1024 + 1 := by
  have hpaid : (d.payDefault o).w EVR.SEQ_NEXT = d.w EVR.SEQ_NEXT + 1 :=
    wrap_one { d with evr := { d.evr with
      spent := Assoc.set 0 d.evr.spent 1024 (Assoc.get 0 d.evr.spent 1024 + 1), supp := Assoc.set 0 d.evr.supp o.code 0 } } EVR.SEQ_NEXT
  have hspent : Assoc.get 0 (Assoc.set 0 d.evr.spent 1024 (Assoc.get 0 d.evr.spent 1024 + 1)) 1024 = Assoc.get 0 d.evr.spent 1024 + 1 :=
    Assoc.get_set_self _ _ _ _
  rcases h with rfl | rfl
  · exact ⟨rfl, (Dev.w_putB_ne _ _ _ (by decide)).trans hpaid, hspent⟩
  · exact ⟨rfl, hpaid, hspent⟩

/-- TOKEN_REFILL: the units as the token returns. -/
theorem tokenRefill_eq (s : State) (entry : Fin 1025) :
    let due := Assoc.get s.dev.evr.filled s.dev.evr.returned entry.val + refillMs s.cfg s.store entry.val * ticksPerMs
    exec (.tokenRefill entry) s = .next { s with dev := { s.dev.advanceTo due with evr := { s.dev.evr with
      spent := Assoc.set 0 s.dev.evr.spent entry.val (Assoc.get 0 s.dev.evr.spent entry.val - 1)
      returned := Assoc.set s.dev.evr.filled s.dev.evr.returned entry.val due } } } := rfl

/-! ### The granule that completes a record (R476) -/

theorem removeOldest_room (fuel : Nat) {d : Dev} {need : Nat} (h : ringUsed d.evr + need + 1 ≤ ringSize) : removeOldest fuel d need = d := by
  cases fuel with
  | zero => rfl
  | succ n => exact if_pos h

theorem writeBy_unarmed (st : Store) {d : Dev} (a : Nat) (bs : List Byte) (h : d.b MEM.INJ_CTRL 0 = false) :
    st.writeBy d a bs = (st.write a bs, d) := by
  unfold Store.writeBy inject
  simp [h]

/-- The record of one granule that starts the ring's index, from the intake queue. -/
def Dev.showCommitted (d : Dev) (r : EvrRecord) : Dev :=
  let head := (d.w EVR.HEAD).toNat
  let e := { d with evr := { d.evr with written := 0, index := [(r.seq, head, 1)], intake := d.evr.intake.drop 1 } }
  (((e.putN EVR.HEAD ((head + 1) % ringSize)).putF EVR.STAT 16 9 d.evr.holding.length).putN EVR.TAIL head).putN EVR.TAIL_SEQ r.seq

/-- Where occurrences were lost, their count is recorded. -/
def Dev.reportLost (d : Dev) : Dev := if d.evr.lost = 0 then d else { d with evr := { d.evr with lost := 0 } }.event 0x0602 [d.evr.lost]

theorem commitGranule_only (st : Store) {d : Dev} {r : EvrRecord} (hlen : r.bytes.length = 64) (hwritten : d.evr.written = 0)
    (hindex : d.evr.index = []) (hhead : (d.w EVR.HEAD).toNat + 1 < ringSize) (harm : d.b MEM.INJ_CTRL 0 = false) :
    commitGranule st d r true = (st.write (ringBase + 64 * (d.w EVR.HEAD).toNat) r.bytes, (d.showCommitted r).reportLost) := by
  have hone : r.bytes.length / 64 = 1 := by rw [hlen]
  have hroom : removeOldest ringSize d 1 = d := removeOldest_room _ (by rw [ringUsed, hindex]; decide)
  have hplace : ((d.w EVR.HEAD).toNat + 0) % ringSize = (d.w EVR.HEAD).toNat := Nat.mod_eq_of_lt (by omega)
  have hbytes : (r.bytes.drop (64 * 0)).take 64 = r.bytes := List.take_of_length_le (by rw [List.length_drop, hlen])
  by_cases hlost : d.evr.lost = 0
  · have hkept : (d.showCommitted r).reportLost = d.showCommitted r := if_pos hlost
    simp only [commitGranule, hone, hwritten, if_true, hroom, hplace, hbytes, writeBy_unarmed _ _ _ harm, Nat.zero_add, Nat.lt_irrefl,
      if_false, hindex, List.isEmpty_nil, List.nil_append, Dev.putN_evr, Dev.putF_evr, hlost, hkept]
    exact congrArg (Prod.mk _) (by rw [Dev.showCommitted, ← hlost])
  · have hcount : (d.showCommitted r).reportLost = { d.showCommitted r with
        evr := { (d.showCommitted r).evr with lost := 0 } }.event 0x0602 [(d.evr.lost : Int)] := if_neg hlost
    simp only [commitGranule, hone, hwritten, if_true, hroom, hplace, hbytes, writeBy_unarmed _ _ _ harm, Nat.zero_add, Nat.lt_irrefl,
      if_false, hindex, List.isEmpty_nil, List.nil_append, Dev.putN_evr, Dev.putF_evr, if_neg hlost, hcount]
    rfl

/-- What the completed record shows. -/
theorem showCommitted_spec {d : Dev} {r : EvrRecord} (hhead : (d.w EVR.HEAD).toNat + 1 < ringSize) :
    let e := (d.showCommitted r).reportLost
    e.evr.index = [(r.seq, (d.w EVR.HEAD).toNat, 1)] ∧ e.evr.intake = d.evr.intake.drop 1
      ∧ e.w EVR.HEAD = d.w EVR.HEAD + 1 ∧ e.w EVR.TAIL = d.w EVR.HEAD := by
  have hw (k : Nat) : (d.showCommitted r).reportLost.w k = (d.showCommitted r).w k := by
    unfold Dev.reportLost
    split <;> rfl
  have hevr : (d.showCommitted r).reportLost.evr = { (d.showCommitted r).evr with lost := 0 } := by
    by_cases h : (d.showCommitted r).evr.lost = 0
    · rw [Dev.reportLost, if_pos h, ← h]
    · rw [Dev.reportLost, if_neg h]
      rfl
  refine ⟨by rw [hevr]; rfl, by rw [hevr]; rfl, ?_, ?_⟩
  · rw [hw, ← wd_succ, Dev.showCommitted, Nat.mod_eq_of_lt hhead]
    exact (Dev.w_putN_ne _ _ (by decide)).trans ((Dev.w_putN_ne _ _ (by decide)).trans ((Dev.w_putF_ne _ _ _ _ (by decide)).trans
      (Dev.w_putN_self _ _ _)))
  · rw [hw, Dev.showCommitted]
    exact (Dev.w_putN_ne _ _ (by decide)).trans ((Dev.w_putN_self _ _ _).trans (wd_toNat _))

/-- The instant of a commit is kept, for the next one (R476). -/
def Dev.stampGranule (d : Dev) : Dev := { d with evr := { d.evr with granTick := some d.tick } }

theorem granuleCommit_first {s : State} {r : EvrRecord} {x : Store × Dev} (hnext : nextRecord s.dev = some (r, true))
    (hfirst : s.dev.evr.granTick = none) (hx : commitGranule s.store s.dev.stampGranule r true = x) :
    exec .granuleCommit s = .next { s with store := x.1, dev := x.2 } := by
  change execGranuleCommit s = _
  refine onMem_of ?_
  rw [hnext]
  dsimp only
  rw [hfirst]
  exact hx

/-- Settles O44: the occurrence that is first, what becomes of it in each of four cases, the token that returns, the granule that is committed. -/
theorem recorderAdmission : Obligations.RecorderAdmission := by
  unfold Obligations.RecorderAdmission
  refine ⟨fun s o h => ⟨(firstOccurrence_spec h).1, (firstOccurrence_spec h).2, eventAdmit_first h⟩, fun s => eventAdmit_none,
    fun c st d o => takeIn_disabled, fun c st d o htable hring hroom htoken => ?admitted, fun c st d o htable hring hroom hspent => ?suppressed,
    fun c st d o htable hring hfull => ?lost, fun s entry => ?refill, fun s => granuleCommit_none,
    fun s r hnext hlen hwritten hindex hhead harm hfirst => ?granule⟩
  case admitted =>
    obtain ⟨hintake, hseq, hspent⟩ := queueDefault_spec d c o (e := takeIn c st d o) (by
      rw [takeIn_admitted htable hring hroom htoken]
      split
      · exact .inl rfl
      · exact .inr rfl)
    exact ⟨defaultRecord d c o, hintake, rfl, hseq, hspent⟩
  case suppressed =>
    rw [takeIn_suppressed htable hring hroom hspent]
    exact ⟨rfl, Dev.w_bump_ne _ (by decide), rfl⟩
  case lost =>
    rw [takeIn_lost htable hring hfull]
    exact ⟨rfl, rfl, Dev.w_bump_ne _ (by decide), rfl⟩
  case refill =>
    exact ⟨_, tokenRefill_eq s entry, rfl, Assoc.get_set_self _ _ _ _, Assoc.get_set_self _ _ _ _, fun j hj => Assoc.get_set_ne _ _ _ _ hj⟩
  case granule =>
    exact ⟨_, granuleCommit_first hnext hfirst (commitGranule_only s.store (d := s.dev.stampGranule) hlen hwritten hindex hhead harm),
      rfl, rfl, rfl, showCommitted_spec hhead⟩

end Sys2Proof.Machine
end

section
/-! SUPPORT. The hack unit: its triggers, and the latch of a pending hack that no page takes part in. -/
namespace Sys2Proof.Machine
-- One proof after another: proofs that wait for each other would each hold a thread and its stack.
set_option Elab.async false

/-! ### Triggers (R483, R485, R487) -/

theorem hackFire_keyed {s : State} {value : Word} (h : fld value 16 16 = 0x4A5C) :
    exec (.hackFire value) s = .next { s with bus := .done 0, dev := s.dev.hackTrigger s.cfg 1 } := by
  change execHackFire value s = _
  exact onWrite_of (if_pos h)

theorem hackFire_badKey {s : State} {value : Word} (h : fld value 16 16 ≠ 0x4A5C) :
    exec (.hackFire value) s = .next { s with bus := .done 0 } := by
  change execHackFire value s = _
  exact onWrite_of (if_neg h)

section
variable {c : Cfg} {d : Dev} {src : Nat}

theorem hackTrigger_disabled (h : c.b HCK.CFG (src - 1) = false) : d.hackTrigger c src = d := if_pos (by simp [h])

variable (hon : c.b HCK.CFG (src - 1) = true)
include hon

theorem hackTrigger_pending {t srcs : Nat} (h : d.hck.pending = some (t, srcs)) : d.hackTrigger c src
    = ({ d with hck := { d.hck with pending := some (t, srcs ||| 2 ^ (src - 1)) } } : Dev).bump HCK.MERGED_CNT := by
  refine (if_neg (by simp [hon])).trans ?_
  rw [h]

theorem hackTrigger_first (h : d.hck.pending = none) (hlast : d.hck.lastTrigger = none) :
    d.hackTrigger c src = { d with hck := { d.hck with pending := some (d.tick, 2 ^ (src - 1)) } } := by
  refine (if_neg (by simp [hon])).trans ?_
  rw [h, hlast]

theorem hackTrigger_joins {t : Nat} (h : d.hck.pending = none) (hlast : d.hck.lastTrigger = some t) (hhold : d.tick ≤ t + c.f HCK.CFG 16 16) :
    d.hackTrigger c src = (d.putF HCK.LAST 0 7 (d.f HCK.LAST 0 7 ||| 2 ^ (src - 1))).bump HCK.MERGED_CNT := by
  refine (if_neg (by simp [hon])).trans ?_
  rw [h, hlast]
  exact if_pos hhold

end

/-! ### The latch (R484) -/

/-- The number of the next hack; 0 is none. -/
def nextHack (d : Dev) : Nat := if (d.w HCK.NUM).toNat + 1 = 2 ^ 32 then 1 else (d.w HCK.NUM).toNat + 1

theorem nextHack_lt (d : Dev) : nextHack d < 2 ^ 32 := by
  have h := (d.w HCK.NUM).isLt
  unfold nextHack
  split
  · omega
  · omega

theorem wd_nextHack (d : Dev) : wd (nextHack d) = if d.w HCK.NUM = 0xFFFFFFFF#32 then 1 else d.w HCK.NUM + 1 := by
  have htop : (d.w HCK.NUM).toNat + 1 = 2 ^ 32 ↔ d.w HCK.NUM = 0xFFFFFFFF#32 := by
    rw [BitVec.toNat_eq, BitVec.toNat_ofNat]
    omega
  unfold nextHack
  split
  next h => rw [if_pos (htop.mp h)]; rfl
  next h => rw [if_neg fun g => h (htop.mpr g), wd_succ]

/-- The registers of a hack that was triggered at `t` by the sources `srcs`. -/
def Dev.showHack (d : Dev) (t srcs : Nat) : Dev :=
  let e := d.advanceTo (t + 16)
  ((e.putN HCK.NUM (nextHack d)).putN HCK.LAST srcs).put64 HCK.LAST_TICK_LO HCK.LAST_TICK_HI (t + 16)

/-- The hack is no longer pending; the next one is held off from its trigger. -/
def Dev.endHack (d : Dev) (t : Nat) : Dev := { d with hck := { d.hck with pending := none, lastTrigger := some t } }

section
variable {s : State} {t srcs : Nat}

theorem foldl_latchPage_off {c : Cfg} (num : Nat) (l : List Page) (d : Dev) (h : ∀ p ∈ l, c.b (hdrSNAP_CTRL p.base) 0 = false) :
    l.foldl (fun d p => d.latchPage c num p.base) d = d := by
  induction l generalizing d with
  | nil => rfl
  | cons p l ih =>
    have hp : d.latchPage c num p.base = d := if_pos (by simp [h p List.mem_cons_self])
    rw [List.foldl_cons, hp]
    exact ih d fun q hq => h q (List.mem_cons_of_mem _ hq)

theorem journaling_hacked (c : Cfg) (e : Dev) (t code : Nat) (ps : List Int) :
    journaling c ((e.endHack t).event code ps) = journaling c e := rfl

theorem w_hacked (e : Dev) (t code : Nat) (ps : List Int) (k : Nat) : ((e.endHack t).event code ps).w k = e.w k := rfl

theorem regsKept_hacked {ks : List Nat} {d e : Dev} (h : RegsKept ks d e) (t code : Nat) (ps : List Int) :
    RegsKept ks d ((e.endHack t).event code ps) := h

theorem showHack_regsKept (d : Dev) : RegsKept [HCK.NUM, HCK.LAST, HCK.LAST_TICK_LO, HCK.LAST_TICK_HI] d (d.showHack t srcs) :=
  regsKept_put (regsKept_put (regsKept_put (regsKept_put regsKept_refl _ (by simp)) _ (by simp)) _ (by simp)) _ (by simp)

theorem hackLatch_none (h : s.dev.hck.pending = none) : exec .hackLatch s = .next s := by
  change execHackLatch s = _
  refine onDev_of ?_
  rw [h]

/-- Without an enabled page, a partner or a journal the hack is numbered and recorded. -/
theorem hackLatch_alone (h : s.dev.hck.pending = some (t, srcs)) (hquiet : journaling s.cfg s.dev = false)
    (hpages : ∀ p ∈ pages, s.cfg.b (hdrSNAP_CTRL p.base) 0 = false) (hsend : s.cfg.b HCK.CFG 14 = false) :
    exec .hackLatch s = .next { s with
      dev := ((s.dev.showHack t srcs).endHack t).event 0x0501 [(nextHack s.dev : Int), (srcs : Int)] } := by
  have hshown : journaling s.cfg (s.dev.showHack t srcs) = false := 
    journaling_of_regsKept (d := s.dev) rfl (showHack_regsKept s.dev) (by decide) hquiet
  have hkept := (journaling_hacked s.cfg (s.dev.showHack t srcs) t 0x0501 [(nextHack s.dev : Int), (srcs : Int)]).trans hshown
  change execHackLatch s = _
  refine onDev_of ?_
  rw [h]
  dsimp only
  rw [hsend, foldl_latchPage_off _ _ _ hpages]
  exact journal_none (.hack (nextHack s.dev) srcs) hkept

theorem showHack_num (d : Dev) : (d.showHack t srcs).w HCK.NUM = wd (nextHack d) :=
  (Dev.w_putN_ne _ _ (by decide)).trans ((Dev.w_putN_ne _ _ (by decide)).trans ((Dev.w_putN_ne _ _ (by decide)).trans (Dev.w_putN_self _ _ _)))

theorem showHack_last (d : Dev) : (d.showHack t srcs).w HCK.LAST = wd srcs :=
  (Dev.w_putN_ne _ _ (by decide)).trans ((Dev.w_putN_ne _ _ (by decide)).trans (Dev.w_putN_self _ _ _))

theorem showHack_tick (d : Dev) : (d.showHack t srcs).w HCK.LAST_TICK_LO = wd (t + 16) :=
  (Dev.w_putN_ne _ _ (by decide)).trans (Dev.w_putN_self _ _ _)

end

/-- Settles O45: the two triggers, what a trigger does, and the latch. -/
theorem hackUnit : Obligations.HackUnit := by
  unfold Obligations.HackUnit
  refine ⟨fun s v => ⟨hackFire_keyed, hackFire_badKey⟩, fun s number => rfl, fun c d src _ _ => ⟨hackTrigger_disabled, hackTrigger_first,
    fun t srcs hon => hackTrigger_pending hon, fun t hon => hackTrigger_joins hon⟩, fun s => hackLatch_none, fun s t srcs h hquiet hpages hsend hdue => ?_⟩
  have hlate : max s.dev.tick (t + 16) = t + 16 := max_eq_right hdue
  have hnum : ((s.dev.showHack t srcs).w HCK.NUM).toNat = nextHack s.dev := by
    rw [showHack_num, wd, BitVec.toNat_ofNat, Nat.mod_eq_of_lt (nextHack_lt _)]
  refine ⟨_, hackLatch_alone h hquiet hpages hsend, rfl, rfl, rfl, regsKept_hacked (showHack_regsKept _) _ _ _, hlate, rfl, rfl, ?_, ?_, ?_, ?_⟩
  · exact (w_hacked _ _ _ _ _).trans ((showHack_num _).trans (wd_nextHack _))
  · exact (w_hacked _ _ _ _ _).trans (showHack_last _)
  · exact (w_hacked _ _ _ _ _).trans (showHack_tick _)
  · change s.dev.occ ++ [⟨0x0501, max s.dev.tick (t + 16), s.dev.eventBeat, [(nextHack s.dev : Int), (srcs : Int)]⟩] = _
    rw [w_hacked, hlate, hnum]

end Sys2Proof.Machine
end

section
/-! SUPPORT. Accesses to the memories: a run of bytes written to clean words, what a read delivers of a word in each condition, the scrubber's
next word, the lap alarm and injection. -/
namespace Sys2Proof.Machine
-- One proof after another: proofs that wait for each other would each hold a thread and its stack.
set_option Elab.async false

/-! ### Regions and pages (Tables 22.6 and 22.13) -/

theorem regionOf_cases {a r : Nat} (h : regionOf a = some r) : r < 4 ∧ (a < 0x40000000 ∨ 0x50000000 ≤ a) := by
  unfold regionOf at h
  split at h
  next ha => cases h; omega
  next =>
    split at h
    next ha => cases h; omega
    next =>
      split at h
      next ha => cases h; omega
      next =>
        split at h
        next ha => cases h; omega
        next => cases h

theorem page_range : ∀ p ∈ pages, 0x40000000 ≤ p.base ∧ p.base < 0x50000000 - 4096 := by decide

/-- No memory lies in a register page. -/
theorem inPage_region {a r : Nat} (h : regionOf a = some r) : inPage a = false := by
  have hnone : pageAt (a / 4096 * 4096) = none := by
    refine List.find?_eq_none.mpr fun p hp hbase => ?_
    obtain ⟨hlo, hhi⟩ := page_range p hp
    have hat : p.base = a / 4096 * 4096 := beq_iff_eq.mp hbase
    have hout := (regionOf_cases h).2
    omega
  rw [inPage, hnone]
  rfl

/-! ### A run of bytes (R460, R461, R463) -/

theorem memWrite_append (m : List Host.Cell) (a : Nat) (bs cs : List Byte) :
    memWrite m a (bs ++ cs) = memWrite (memWrite m a bs) (a + bs.length) cs := by
  induction bs generalizing m a with
  | nil => rfl
  | cons b bs ih => rw [List.cons_append, memWrite, memWrite, ih, List.length_cons, Nat.add_right_comm, Nat.add_assoc]

/-- A run of bytes is written in two parts. -/
theorem memWrite_split (m : List Host.Cell) (a n : Nat) (bs : List Byte) :
    memWrite (memWrite m a (bs.take n)) (a + n) (bs.drop n) = memWrite m a bs := by
  rcases Nat.le_total n bs.length with h | h
  · have hparts := memWrite_append m a (bs.take n) (bs.drop n)
    rw [List.take_append_drop, List.length_take, Nat.min_eq_left h] at hparts
    exact hparts.symm
  · rw [List.take_of_length_le h, List.drop_eq_nil_of_le h]
    rfl

/-- Neither an error nor a mark of poison stands in the word. -/
def CleanWord (st : Store) (w : Nat) : Prop := st.err w = [] ∧ w ∉ st.poison

theorem decode_clean {st : Store} {w : Nat} (h : CleanWord st w) : st.decode w = .clean := by
  unfold Store.decode
  simp [h.1, h.2]

/-- Only the armed word takes an injection. -/
theorem inject_err (st : Store) (d : Dev) {w v : Nat} (h : v ≠ w) : (inject st d w).1.err v = st.err v := by
  unfold inject
  split
  · exact Assoc.get_set_ne _ _ _ _ h
  · rfl

theorem inject_poison (st : Store) (d : Dev) (w : Nat) : (inject st d w).1.poison = st.poison := by
  unfold inject
  split <;> rfl

section
variable {st : Store} (d : Dev) (r off : Nat) (bs : List Byte) (poisoned : Bool)

/-- The bytes stand in the store, and the mark of poison with them where they are poisoned. -/
def Store.putBytes (st : Store) (w off : Nat) (bs : List Byte) (poisoned : Bool) : Store :=
  let u := { st with mem := memWrite st.mem (w + off) bs }
  if poisoned && !u.poison.contains w then { u with poison := w :: u.poison } else u

theorem putBytes_mem (w : Nat) : (st.putBytes w off bs poisoned).mem = memWrite st.mem (w + off) bs := by
  unfold Store.putBytes
  dsimp only
  split <;> rfl

theorem putBytes_clean {w v : Nat} (hv : v ≠ w) (h : CleanWord st v) : CleanWord (st.putBytes w off bs poisoned) v := by
  unfold Store.putBytes
  dsimp only
  split
  · exact ⟨h.1, fun hmem => (List.mem_cons.mp hmem).elim hv h.2⟩
  · exact h

/-- What a whole word loses as it is replaced. -/
def Store.renew (st : Store) (w : Nat) : Store :=
  { st with errs := Assoc.set [] st.errs w [], poison := st.poison.filter (· != w), counted := st.counted.filter (· != w) }

theorem renew_clean {w v : Nat} (hv : v ≠ w) (h : CleanWord st v) : CleanWord (st.renew w) v :=
  ⟨(Assoc.get_set_ne [] [] st.errs [] hv).trans h.1, fun hmem => h.2 (List.mem_filter.mp hmem).1⟩

theorem writeWord_clean_eq {w : Nat} (h : CleanWord st w) : ∃ u : Store, (u = st.renew w ∨ u = st)
    ∧ writeWord st d r w off bs poisoned = inject (u.putBytes w off bs poisoned) d w := by
  unfold writeWord
  extract_lets whole clear unmark
  rw [decode_clean h]
  cases whole with
  | true => exact ⟨st.renew w, .inl rfl, rfl⟩
  | false => exact ⟨st, .inr rfl, rfl⟩

/-- A write to a clean word changes the bytes written, and of the other words none. -/
theorem writeWord_clean {w : Nat} (h : CleanWord st w) :
    (writeWord st d r w off bs poisoned).1.mem = memWrite st.mem (w + off) bs
      ∧ ∀ v, v ≠ w → CleanWord st v → CleanWord (writeWord st d r w off bs poisoned).1 v := by
  obtain ⟨u, hu, heq⟩ := writeWord_clean_eq d r off bs poisoned h
  have hmem : u.mem = st.mem := by rcases hu with rfl | rfl <;> rfl
  have hothers (v : Nat) (hv : v ≠ w) (hclean : CleanWord st v) : CleanWord u v := by
    rcases hu with rfl | rfl
    · exact renew_clean hv hclean
    · exact hclean
  rw [heq]
  refine ⟨by rw [inject_mem, putBytes_mem, hmem], fun v hv hclean => ?_⟩
  have hput := putBytes_clean off bs poisoned hv (hothers v hv hclean)
  exact ⟨(inject_err _ _ hv).trans hput.1, by rw [inject_poison]; exact hput.2⟩

end

/-- A run over clean words changes the bytes written and no other. -/
theorem writeRun_clean (fuel : Nat) (st : Store) (d : Dev) (r a : Nat) (bs : List Byte) (poisoned : Bool) (hfuel : bs.length ≤ fuel)
    (h : ∀ v, a / 32 * 32 ≤ v → CleanWord st v) : (writeRun fuel st d r a bs poisoned).1.mem = memWrite st.mem a bs := by
  induction fuel generalizing st d a bs with
  | zero =>
    rw [List.length_eq_zero_iff.mp (Nat.le_zero.mp hfuel)]
    rfl
  | succ n ih =>
    cases bs with
    | nil => rfl
    | cons b bs =>
      obtain ⟨hmem, hothers⟩ := writeWord_clean d r (a % 32) ((b :: bs).take (32 - a % 32)) poisoned (h (a / 32 * 32) (Nat.le_refl _))
      have hwhere : a / 32 * 32 + a % 32 = a := by omega
      have hrest := ih (writeWord st d r (a / 32 * 32) (a % 32) ((b :: bs).take (32 - a % 32)) poisoned).1
        (writeWord st d r (a / 32 * 32) (a % 32) ((b :: bs).take (32 - a % 32)) poisoned).2 (a + (32 - a % 32))
        ((b :: bs).drop (32 - a % 32)) (by rw [List.length_drop]; omega) fun v hv => hothers v (by omega) (h v (by omega))
      refine hrest.trans ?_
      rw [hmem, hwhere, memWrite_split]

/-- The bytes that a core wrote to slot buffers change the payloads alone. -/
theorem slotBytes_w (d : Dev) (a : Nat) (bs : List Byte) (k : Nat) : (slotBytes d a bs).w k = d.w k := by
  induction bs generalizing d a with
  | nil => rfl
  | cons b bs ih =>
    unfold slotBytes
    split
    · exact ih _ _
    · exact ih _ _

/-- A write of bytes that a core may write. -/
theorem narrowWrite_writable {s : State} {addr : BitVec 48} {bytes : List Byte} {poisoned : Bool} {r : Nat} (hr : regionOf addr.toNat = some r)
    (h : ∀ i, i < bytes.length → coreWritable (addr.toNat + i) = true) :
    let x := writeRun (bytes.length + 1) s.store s.dev r addr.toNat bytes poisoned
    exec (.narrowWrite addr bytes poisoned) s = .next { s with store := x.1, dev := slotBytes x.2 addr.toNat bytes, bus := .done 0 } := by
  have hok : ((List.range bytes.length).all fun i => coreWritable (addr.toNat + i)) = true :=
    List.all_eq_true.mpr fun i hi => h i (List.mem_range.mp hi)
  change execNarrowWrite addr bytes poisoned s = _
  unfold execNarrowWrite
  dsimp only
  rw [hr, hok]
  rfl

theorem narrowWrite_outside {s : State} {addr : BitVec 48} (bytes : List Byte) (poisoned : Bool) (hr : regionOf addr.toNat = none) :
    exec (.narrowWrite addr bytes poisoned) s = .next { s with bus := .error } := by
  change execNarrowWrite addr bytes poisoned s = _
  unfold execNarrowWrite
  dsimp only
  rw [hr]
  rfl

/-- The registers that show an error of a region lie in the MEM page. -/
theorem errorKeys_page {r k : Nat} (hr : r < 4) (hk : k ∈ errorKeys r) : k / 4096 = 0x40006 := by
  simp only [errorKeys, MEM.CE_CNT, MEM.UE_CNT, MEM.LAST_LO, MEM.LAST_HI, MEM.INJ_CTRL, List.mem_cons, List.not_mem_nil, or_false] at hk
  omega

/-- Settles O39: the run over clean words is one write of the memory, and what it reports is in the MEM page. -/
theorem narrowWriteStores : Obligations.NarrowWriteStores := by
  unfold Obligations.NarrowWriteStores
  refine ⟨fun s addr bytes poisoned hr hok => ?_, fun s addr bytes poisoned => narrowWrite_outside bytes poisoned⟩
  obtain ⟨r, hr⟩ := Option.isSome_iff_exists.mp hr
  have hmem (hclean : s.store.errs = [] ∧ s.store.poison = []) := writeRun_clean (bytes.length + 1) s.store s.dev r addr.toNat bytes poisoned
    (Nat.le_succ _) fun v _ => ⟨by rw [Store.err, hclean.1]; rfl, by rw [hclean.2]; exact List.not_mem_nil⟩
  refine ⟨_, narrowWrite_writable hr hok, rfl, rfl, rfl, fun i hi hclean => ?_, fun a ha hclean => ?_, fun k hk => ?_⟩
  · rw [Store.byte, hmem hclean, memWrite_get_written _ _ _ _ hi, List.getD_eq_getElem _ _ hi]
  · rw [Store.byte, hmem hclean, memWrite_get _ _ _ _ ha, Store.byte]
  · exact (slotBytes_w _ _ _ _).trans ((writeRun_reported _ _ _ _).2 k fun hmem => hk (errorKeys_page (regionOf_cases hr).1 hmem))

/-! ### Demand reads (R458, R464 to R466) -/

section
variable {st : Store} {w : Nat}

theorem upset_nil_err : (st.upset w []).err w = st.err w := Assoc.get_set_self _ _ _ _

theorem decode_upset_nil : (st.upset w []).decode w = st.decode w := by
  rw [Store.decode, upset_nil_err]
  rfl

theorem decode_poisoned (h : w ∈ st.poison) : st.decode w = .poisoned := if_pos (List.contains_iff_mem.mpr h)

variable (hpoison : w ∉ st.poison)
include hpoison

theorem decode_corrected (h1 : 1 ≤ (st.err w).length) (h4 : (st.err w).length ≤ 4) : st.decode w = .corrected (st.err w).length :=
  (if_neg (by simpa using hpoison)).trans ((if_neg (by omega)).trans (if_pos h4))

theorem decode_uncorrectable (h5 : 5 ≤ (st.err w).length) : st.decode w = .uncorrectable :=
  (if_neg (by simpa using hpoison)).trans ((if_neg (by omega)).trans (if_neg (by omega)))

end

section
variable {s : State} {r a size : Nat} (newer : Bool)

theorem readMemory_clean (h : s.store.decode (a / 32 * 32) = .clean) : s.readMemory r a size [] newer .core = .next { s with
    store := s.store.upset (a / 32 * 32) [], bus := .done (wd (leNat (s.shown s.store a (min 4 size)))) } := by
  unfold State.readMemory
  extract_lets w st data poisoned
  have hd : st.decode w = .clean := decode_upset_nil.trans h
  rw [hd]
  rfl

/-- The store that the read of a corrected word leaves. -/
def Store.corrected (st : Store) (r w : Nat) (newer : Bool) : Store :=
  if newer || r = 3 then st else { st with errs := Assoc.set [] st.errs w [] }

theorem readMemory_corrected {n : Nat} (h : s.store.decode (a / 32 * 32) = .corrected n) : s.readMemory r a size [] newer .core = .next { s with
    store := (s.store.upset (a / 32 * 32) []).corrected r (a / 32 * 32) newer
    dev := s.dev.countCE r (a / 32 * 32) n false, bus := .done (wd (leNat (s.shown s.store a (min 4 size)))) } := by
  unfold State.readMemory
  extract_lets w st data poisoned
  have hd : st.decode w = .corrected n := decode_upset_nil.trans h
  rw [hd]
  rfl

theorem readMemory_uncorrectable (h : s.store.decode (a / 32 * 32) = .uncorrectable) (hfirst : a / 32 * 32 ∉ s.store.counted) :
    s.readMemory r a size [] newer .core = .next { s with
      store := { s.store.upset (a / 32 * 32) [] with counted := a / 32 * 32 :: s.store.counted }, bus := .error
      dev := (((s.dev.bump (MEM.UE_CNT r)).lastError r (a / 32 * 32) 0 true false).event 0x0702 [(r : Int), (a / 32 * 32 : Nat)]).bump
        MEM.POISON_USE_CNT } := by
  unfold State.readMemory
  extract_lets w st data poisoned
  have hd : st.decode w = .uncorrectable := decode_upset_nil.trans h
  have hcount : countUE st s.dev r w false = ({ st with counted := w :: st.counted },
      ((s.dev.bump (MEM.UE_CNT r)).lastError r w 0 true false).event 0x0702 [(r : Int), (w : Int)]) :=
    if_neg fun hc => hfirst (List.contains_iff_mem.mp hc)
  rw [hd, hcount]
  rfl

theorem readMemory_poisoned (h : s.store.decode (a / 32 * 32) = .poisoned) : s.readMemory r a size [] newer .core = .next { s with
    store := s.store.upset (a / 32 * 32) [], dev := s.dev.bump MEM.POISON_USE_CNT, bus := .error } := by
  unfold State.readMemory
  extract_lets w st data poisoned
  have hd : st.decode w = .poisoned := decode_upset_nil.trans h
  rw [hd]
  rfl

end

theorem demandRead_core {s : State} {addr : BitVec 48} {size r : Nat} (upset : List (Fin 40 × Byte)) (newer : Bool)
    (hr : regionOf addr.toNat = some r) (hread : coreReadable addr.toNat = true) :
    exec (.demandRead ⟨addr, size⟩ upset newer .core) s = s.readMemory r addr.toNat size upset newer .core := by
  change execDemandRead ⟨addr, size⟩ upset newer .core s = _
  unfold execDemandRead
  dsimp only
  rw [inPage_region hr, hr, hread]
  rfl

theorem demandRead_unreadable {s : State} {addr : BitVec 48} {size : Nat} (upset : List (Fin 40 × Byte)) (newer : Bool)
    (hpage : inPage addr.toNat = false) (hread : coreReadable addr.toNat = false) :
    exec (.demandRead ⟨addr, size⟩ upset newer .core) s = .next { s with bus := .error } := by
  change execDemandRead ⟨addr, size⟩ upset newer .core s = _
  unfold execDemandRead
  dsimp only
  rw [hpage, hread]
  cases regionOf addr.toNat <;> rfl

theorem w_lastError_ne (d : Dev) {r k : Nat} (a n : Nat) (ue scrub : Bool) (hlo : k ≠ MEM.LAST_LO r) (hhi : k ≠ MEM.LAST_HI r) :
    (d.lastError r a n ue scrub).w k = d.w k := (Dev.w_putN_ne _ _ hhi).trans (Dev.w_putN_ne _ _ hlo)

theorem ceCnt_ne (r : Nat) : MEM.CE_CNT r ≠ MEM.LAST_LO r ∧ MEM.CE_CNT r ≠ MEM.LAST_HI r := by
  simp only [MEM.CE_CNT, MEM.LAST_LO, MEM.LAST_HI]
  omega

theorem ueCnt_ne (r : Nat) : MEM.UE_CNT r ≠ MEM.LAST_LO r ∧ MEM.UE_CNT r ≠ MEM.LAST_HI r ∧ MEM.UE_CNT r ≠ MEM.POISON_USE_CNT := by
  simp only [MEM.UE_CNT, MEM.LAST_LO, MEM.LAST_HI, MEM.POISON_USE_CNT]
  omega

theorem poisonUse_ne (r : Nat) : MEM.POISON_USE_CNT ≠ MEM.LAST_LO r ∧ MEM.POISON_USE_CNT ≠ MEM.LAST_HI r := by
  simp only [MEM.POISON_USE_CNT, MEM.LAST_LO, MEM.LAST_HI]
  omega

theorem countCE_count (d : Dev) (r a n : Nat) (scrub : Bool) : (d.countCE r a n scrub).w (MEM.CE_CNT r) = (d.bump (MEM.CE_CNT r)).w (MEM.CE_CNT r) := by
  rw [Dev.countCE, Dev.w_event, w_lastError_ne _ _ _ _ _ (ceCnt_ne r).1 (ceCnt_ne r).2]

section
variable (d : Dev) (r w n : Nat) (ue scrub : Bool)

theorem lastError_occ : (d.lastError r w n ue scrub).occ = d.occ := (Dev.putN_occ _ _ _).trans (Dev.putN_occ _ _ _)
theorem lastError_tick : (d.lastError r w n ue scrub).tick = d.tick := (Dev.putN_tick _ _ _).trans (Dev.putN_tick _ _ _)
theorem lastError_esc : (d.lastError r w n ue scrub).esc = d.esc := (Dev.putN_esc _ _ _).trans (Dev.putN_esc _ _ _)
theorem lastError_memd : (d.lastError r w n ue scrub).memd = d.memd := (Dev.putN_memd _ _ _).trans (Dev.putN_memd _ _ _)

/-- An error that was counted in the register at `k` is recorded. -/
theorem error_occ (k code : Nat) (ps : List Int) : (((d.bump k).lastError r w n ue scrub).event code ps).occ
    = d.occ ++ [⟨code, d.tick, d.eventBeat, ps⟩] :=
  event_occ_of ((lastError_occ _ _ _ _ _ _).trans (Dev.bump_occ _ _)) ((lastError_tick _ _ _ _ _ _).trans (Dev.bump_tick _ _))
    ((lastError_esc _ _ _ _ _ _).trans (Dev.bump_esc _ _)) _ _

theorem countCE_occ : (d.countCE r w n scrub).occ = d.occ ++ [⟨0x0701, d.tick, d.eventBeat, [(r : Int), (w : Int), (n : Int)]⟩] :=
  error_occ d r w n false scrub _ _ _

theorem countCE_memd : (d.countCE r w n scrub).memd = d.memd :=
  (Dev.event_memd _ _ _).trans ((lastError_memd _ _ _ _ _ _).trans (Dev.bump_memd _ _))

end

theorem corrected_err (st : Store) {r : Nat} (w : Nat) (hr : r ≠ 3) : (st.corrected r w false).err w = [] := by
  have hback : st.corrected r w false = { st with errs := Assoc.set [] st.errs w [] } := if_neg (by simp [hr])
  rw [hback]
  exact Assoc.get_set_self [] st.errs w []

theorem corrected_byte (st : Store) (r w : Nat) (newer : Bool) (a : Nat) : (st.corrected r w newer).byte a = st.byte a := by
  unfold Store.corrected
  split <;> rfl

/-- A counter takes from another state the value it holds there. -/
theorem w_bump_congr {d e : Dev} {k : Nat} (h : e.w k = d.w k) : (e.bump k).w k = (d.bump k).w k := by
  rw [Dev.bump_eq, Dev.bump_eq, Dev.w_putN_self, Dev.w_putN_self, h]

/-- Settles O40: the word by what the decoder finds in it, then an access to no word that a core may read. -/
theorem demandReadDelivers : Obligations.DemandReadDelivers := by
  unfold Obligations.DemandReadDelivers
  refine ⟨fun s addr size newer r hr hread => ?_, fun s addr size upset newer => demandRead_unreadable upset newer⟩
  dsimp only
  rw [demandRead_core [] newer hr hread]
  refine ⟨fun hpoison herr => ?clean, fun hpoison h1 h4 => ?corrected, fun hpoison h5 hfirst => ?uncorrectable, fun hpoison => ?poisoned⟩
  case clean => exact ⟨_, readMemory_clean newer (decode_clean ⟨herr, hpoison⟩), rfl, fun a => rfl⟩
  case corrected =>
    refine ⟨_, readMemory_corrected newer (decode_corrected hpoison h1 h4), rfl, rfl, fun a => corrected_byte _ _ _ _ _, rfl,
      countCE_count _ _ _ _ _, countCE_occ _ _ _ _ _, fun hnewer hr3 => ?_⟩
    rw [hnewer]
    exact corrected_err _ _ hr3
  case uncorrectable =>
    obtain ⟨hlo, hhi, huse⟩ := ueCnt_ne r
    refine ⟨_, readMemory_uncorrectable newer (decode_uncorrectable hpoison h5) hfirst, rfl, rfl, fun a => rfl,
      by rw [Dev.w_bump_ne _ huse, Dev.w_event, w_lastError_ne _ _ _ _ _ hlo hhi], w_bump_congr ?_, (Dev.bump_occ _ _).trans (error_occ _ _ _ _ _ _ _ _ _)⟩
    rw [Dev.w_event, w_lastError_ne _ _ _ _ _ (poisonUse_ne r).1 (poisonUse_ne r).2, Dev.w_bump_ne _ huse.symm]
  case poisoned => exact ⟨_, readMemory_poisoned newer (decode_poisoned hpoison), rfl, rfl, fun a => rfl, rfl⟩

/-! ### The scrubber (R467, R468) -/

theorem scrub_enabled {c : Cfg} {r : Nat} (hr : r < 4) (h : c.b MEM.SCRUB_CFG r = true) : c.f MEM.SCRUB_CFG 0 4 ≠ 0 := by
  intro hzero
  have hlow : (c.w MEM.SCRUB_CFG).toNat % 16 = 0 := by simpa [Cfg.f, fld] using hzero
  rw [Cfg.b, bit, BitVec.getLsbD, Nat.testBit_eq_decide_div_mod_eq, decide_eq_true_eq] at h
  have hcases : r = 0 ∨ r = 1 ∨ r = 2 ∨ r = 3 := by omega
  rcases hcases with rfl | rfl | rfl | rfl <;> omega

/-- The word is done: the lap's time so far is shown, and the next word of the region is due. -/
def Dev.nextWord (d : Dev) (r : Nat) : Dev :=
  { d.putN (MEM.LAP_RUN r) (lapRun d) with memd := { d.memd with word := d.memd.word + 1 } }

/-- A corrected word is kept for the next lap. -/
def Dev.keepCorrected (d : Dev) (w : Nat) : Dev := { d with memd := { d.memd with corrected := w :: d.memd.corrected } }

theorem keepCorrected_w (d : Dev) (w k : Nat) : (d.keepCorrected w).w k = d.w k := rfl
theorem keepCorrected_word (d : Dev) (w : Nat) : (d.keepCorrected w).memd.word = d.memd.word := rfl

/-- A corrected word that was clean in the last lap. -/
def Dev.scrubbed (d : Dev) (r w n : Nat) : Dev := (d.countCE r w n true).keepCorrected w

section
variable {s : State} (newer : Bool) (hon : s.cfg.b MEM.SCRUB_CFG s.dev.memd.region = true) (hr : s.dev.memd.region < 4)
  (hmore : s.dev.memd.word + 1 < regionWords s.dev.memd.region)
include hon hr hmore

theorem scrubWord_clean (h : s.store.decode (wordAddr s.dev.memd.region s.dev.memd.word) = .clean) : exec (.scrubWord [] newer) s = .next { s with
    store := s.store.upset (wordAddr s.dev.memd.region s.dev.memd.word) [], dev := s.dev.nextWord s.dev.memd.region } := by
  change execScrubWord [] newer s = _
  refine onMem_of ((if_neg (scrub_enabled hr hon)).trans ?_)
  rw [if_pos hon]
  dsimp only
  rw [decode_upset_nil, h]
  exact congrArg (Prod.mk _) (if_pos hmore)

theorem scrubWord_corrected {n : Nat} (h : s.store.decode (wordAddr s.dev.memd.region s.dev.memd.word) = .corrected n)
    (hbefore : wordAddr s.dev.memd.region s.dev.memd.word ∉ Assoc.get [] s.dev.memd.before s.dev.memd.region) :
    exec (.scrubWord [] newer) s = .next { s with
      store := (s.store.upset (wordAddr s.dev.memd.region s.dev.memd.word) []).corrected s.dev.memd.region
        (wordAddr s.dev.memd.region s.dev.memd.word) newer
      dev := (s.dev.scrubbed s.dev.memd.region (wordAddr s.dev.memd.region s.dev.memd.word) n).nextWord s.dev.memd.region } := by
  have hkept := countCE_memd s.dev s.dev.memd.region (wordAddr s.dev.memd.region s.dev.memd.word) n true
  have hnew : (Assoc.get [] (s.dev.countCE s.dev.memd.region (wordAddr s.dev.memd.region s.dev.memd.word) n true).memd.before
      s.dev.memd.region).contains (wordAddr s.dev.memd.region s.dev.memd.word) ≠ true := by
    rw [hkept]
    exact fun hc => hbefore (List.contains_iff_mem.mp hc)
  change execScrubWord [] newer s = _
  refine onMem_of ((if_neg (scrub_enabled hr hon)).trans ?_)
  rw [if_pos hon]
  dsimp only
  rw [decode_upset_nil, h]
  dsimp only
  simp only [if_neg hnew]
  refine congrArg (Prod.mk _) ((if_pos ?_).trans rfl)
  rw [Dev.putN_memd, hkept]
  exact hmore

end

section
variable (d : Dev) (r w n : Nat)

theorem lapRun_ne : MEM.CE_CNT r ≠ MEM.LAP_RUN r := by
  simp only [MEM.CE_CNT, MEM.LAP_RUN]
  omega

theorem nextWord_occ : (d.nextWord r).occ = d.occ := rfl
theorem nextWord_word : (d.nextWord r).memd.word = d.memd.word + 1 := rfl
theorem nextWord_w {k : Nat} (h : k ≠ MEM.LAP_RUN r) : (d.nextWord r).w k = d.w k := Dev.w_putN_ne _ _ h

theorem scrubbed_occ : (d.scrubbed r w n).occ = (d.countCE r w n true).occ := rfl
theorem scrubbed_w (k : Nat) : (d.scrubbed r w n).w k = (d.countCE r w n true).w k := keepCorrected_w _ _ _
theorem scrubbed_word : (d.scrubbed r w n).memd.word = d.memd.word := by
  rw [Dev.scrubbed, keepCorrected_word, countCE_memd]

end

/-! ### The lap alarm and injection (R459, R468, R470) -/

theorem lapAlarm_raised {s : State} {region : Fin 4} (hregion : s.dev.memd.region = region.val) (hlim : s.cfg.f (MEM.LAP_LIMIT region.val) 0 24 ≠ 0)
    (hraised : s.dev.memd.lapRaised = false) (hon : s.cfg.b MEM.SCRUB_CFG region.val = true) :
    let e := s.dev.advanceTo (s.dev.memd.lapStart + (s.cfg.f (MEM.LAP_LIMIT region.val) 0 24 + 1) * ticksPerMs)
    let d : Dev := { e with memd := { e.memd with lapRaised := true } }
    exec (.lapAlarm region) s = .next { s with
      dev := ((d.putB MEM.STAT region.val true).putN (MEM.LAP_RUN region.val) (lapRun d)).event 0x0703 [(region.val : Int), lapRun d] } := by
  change execLapAlarm region s = _
  exact onDev_of (if_neg (by simp [hregion, hlim, hraised, hon]))

section
variable {s : State} {value : Word}

theorem injArm_armed (hkey : fld value 16 16 = 0x7E31) (harm : bit value 0 = true) (hmode : s.dev.mode = 2 ∨ s.dev.mode = 3 ∨ s.dev.mode = 5) :
    exec (.injArm value) s = .next { s with bus := .done 0, dev := s.dev.put MEM.INJ_CTRL 1 } := by
  change execInjArm value s = _
  exact onWrite_of ((if_neg (by simp [hkey, harm])).trans (if_pos (by simpa [or_assoc] using hmode)))

theorem injArm_refused (hkey : fld value 16 16 = 0x7E31) (harm : bit value 0 = true)
    (hmode : ¬(s.dev.mode = 2 ∨ s.dev.mode = 3 ∨ s.dev.mode = 5)) :
    exec (.injArm value) s = .next { s with bus := .done 0, dev := s.dev.putB MEM.INJ_CTRL 2 true } := by
  change execInjArm value s = _
  exact onWrite_of ((if_neg (by simp [hkey, harm])).trans (if_neg (by simpa [or_assoc] using hmode)))

theorem injArm_ignored (h : fld value 16 16 ≠ 0x7E31 ∨ bit value 0 = false) : exec (.injArm value) s = .next { s with bus := .done 0 } := by
  have hbad : (fld value 16 16 != 0x7E31 || !bit value 0) = true := by
    rcases h with h | h
    · simp [h]
    · simp [h]
  change execInjArm value s = _
  exact onWrite_of (if_pos hbad)

end

/-- Settles O41: the scrubber on a clean and on a correctable word, the lap alarm, injection, initialisation. -/
theorem scrubAndInjection : Obligations.ScrubAndInjection := by
  unfold Obligations.ScrubAndInjection
  refine ⟨fun s newer hon hr hmore hpoison => ⟨fun herr => ?clean, fun n hn h1 h4 hbefore => ?corrected⟩,
    fun s region hregion hlim hraised hon => lapAlarm_raised hregion hlim hraised hon,
    fun s value => ⟨injArm_armed, injArm_refused, injArm_ignored⟩, fun s => rfl⟩
  case clean => exact ⟨_, scrubWord_clean newer hon hr hmore (decode_clean ⟨herr, hpoison⟩), rfl, rfl, fun a => rfl, rfl⟩
  case corrected =>
    have hdecode := decode_corrected hpoison (by rw [hn]; exact h1) (by rw [hn]; exact h4)
    rw [hn] at hdecode
    refine ⟨_, scrubWord_corrected newer hon hr hmore hdecode hbefore, rfl, rfl, fun a => corrected_byte _ _ _ _ _, fun hnewer hr3 => ?_, ?_, ?_, ?_⟩
    · rw [hnewer]
      exact corrected_err _ _ hr3
    · exact (nextWord_occ _ _).trans ((scrubbed_occ _ _ _ _).trans (countCE_occ _ _ _ _ _))
    · exact (nextWord_w _ _ (lapRun_ne _)).trans ((scrubbed_w _ _ _ _ _).trans (countCE_count _ _ _ _ _))
    · exact (nextWord_word _ _).trans (congrArg (· + 1) (scrubbed_word _ _ _ _))

end Sys2Proof.Machine
end

section
/-! SUPPORT. Resets, power and boot: the reset sources, and the register that a reset keeps against the claim; supplies, the watchdog's feed,
boot commands, JTAG. -/
namespace Sys2Proof.Machine
-- One proof after another: proofs that wait for each other would each hold a thread and its stack.
set_option Elab.async false

/-! ### A reset source acts while the main domain is powered (R521, R527) -/

theorem resetBy_awake {s : State} (cause : Nat) (h : s.dev.pwr.asleep = 0) : s.resetBy cause = s.deviceReset cause 0 0 := if_pos h
theorem resetBy_asleep {s : State} (cause : Nat) (h : s.dev.pwr.asleep ≠ 0) : s.resetBy cause = s := if_neg h

section
variable {s : State}

theorem brownOut_powered (h : s.dev.pwr.asleep ≠ 1) : exec .brownOut s = .next (s.deviceReset 2 0 0) := congrArg Host.Outcome.next (if_neg h)

theorem railReset_core {rail : Fin 10} (h : 2 ≤ rail.val ∧ rail.val ≤ 6) (hawake : s.dev.pwr.asleep = 0) :
    exec (.railReset rail) s = .next (s.deviceReset 4 0 0) := congrArg Host.Outcome.next ((if_pos h).trans (resetBy_awake 4 hawake))

theorem railReset_other {rail : Fin 10} (h : ¬(2 ≤ rail.val ∧ rail.val ≤ 6)) : exec (.railReset rail) s = .next s :=
  congrArg Host.Outcome.next (if_neg h)

theorem railReset_asleep (rail : Fin 10) (h : s.dev.pwr.asleep ≠ 0) : exec (.railReset rail) s = .next s := by
  by_cases hcore : 2 ≤ rail.val ∧ rail.val ≤ 6
  · exact congrArg Host.Outcome.next ((if_pos hcore).trans (resetBy_asleep 4 h))
  · exact railReset_other hcore

theorem sysWatchdogExpiry_runs (hrun : s.dev.b SYS.WDT_STAT 16 = true) (hmode : s.dev.mode ≠ 2) (hawake : s.dev.pwr.asleep = 0) :
    exec .sysWatchdogExpiry s = .next
      (({ s with dev := s.dev.advanceTo (s.dev.pwr.wdtTick + s.cfg.f SYS.WDT_CFG 0 14 * ticksPerMs) } : State).deviceReset 9 0 0) :=
  congrArg Host.Outcome.next ((if_pos (by simp [hrun, hmode])).trans (resetBy_awake 9 hawake))

theorem jtagReset_authenticated (h : s.dev.b SYS.JTAG_STAT 0 = true) (hawake : s.dev.pwr.asleep = 0) :
    exec .jtagReset s = .next (s.deviceReset 10 0 0) := congrArg Host.Outcome.next ((if_pos h).trans (resetBy_awake 10 hawake))

theorem rstCmd_keyed {value : Word} (h : fld value 16 16 = 0x9E57) (hawake : s.dev.pwr.asleep = 0) :
    exec (.rstCmd value) s = .next { s.deviceReset 11 0 0 with bus := .done 0 } := by
  change execRstCmd value s = _
  rw [execRstCmd, if_pos h, resetBy_awake 11 hawake]

theorem rstCmd_badKey {value : Word} (h : fld value 16 16 ≠ 0x9E57) : exec (.rstCmd value) s = .next { s with bus := .done 0 } := by
  change execRstCmd value s = _
  rw [execRstCmd, if_neg h]

/-! A clock (R525) -/

/-- The register of clock `k` as a fault shows it, and the event. -/
def Dev.showClockFault (d : Dev) (k : Nat) (ppm : BitVec 16) (unlocked : Bool) : Dev :=
  (d.putN (PWR.CLK k) (ppm.toNat + (!unlocked).toNat * 2 ^ 16 + 2 ^ 17)).event 0x0203 [(k : Int)]

theorem clockFault_faulty {clock : Fin 9} {ppm : BitVec 16} {unlocked : Bool} (h : unlocked = true ∨ 10000 < ppm.toInt.natAbs) :
    exec (.clockFault clock ppm unlocked) s =
      let t : State := { s with dev := if clock.val = 1 then (s.dev.showClockFault clock.val ppm unlocked).refInLost s.cfg
        else s.dev.showClockFault clock.val ppm unlocked }
      .next (if clock.val = 0 || (3 ≤ clock.val && clock.val ≤ 6) then t.resetBy 6 else t) := by
  have hfault : (unlocked || decide (10000 < ppm.toInt.natAbs)) = true := by
    rcases h with h | h
    · simp [h]
    · simp [h]
  change execClockFault clock ppm unlocked s = _
  unfold execClockFault
  dsimp only
  rw [hfault]
  rfl

theorem clockFault_core {clock : Fin 9} {ppm : BitVec 16} {unlocked : Bool} (h : unlocked = true ∨ 10000 < ppm.toInt.natAbs)
    (hcore : clock.val = 0 ∨ (3 ≤ clock.val ∧ clock.val ≤ 6)) (hawake : s.dev.pwr.asleep = 0) :
    exec (.clockFault clock ppm unlocked) s =
      .next (({ s with dev := s.dev.showClockFault clock.val ppm unlocked } : State).deviceReset 6 0 0) := by
  have hone : clock.val ≠ 1 := by omega
  rw [clockFault_faulty h]
  dsimp only
  rw [if_neg hone, if_pos (by simpa using hcore)]
  exact congrArg Host.Outcome.next (if_pos hawake)

theorem clockFault_refIn {clock : Fin 9} {ppm : BitVec 16} {unlocked : Bool} (h : unlocked = true ∨ 10000 < ppm.toInt.natAbs)
    (hone : clock.val = 1) : exec (.clockFault clock ppm unlocked) s =
      .next { s with dev := (s.dev.showClockFault clock.val ppm unlocked).refInLost s.cfg } := by
  rw [clockFault_faulty h]
  dsimp only
  rw [if_pos hone, if_neg (by simp [hone])]

theorem clockFault_recorded {clock : Fin 9} {ppm : BitVec 16} {unlocked : Bool} (h : unlocked = true ∨ 10000 < ppm.toInt.natAbs)
    (hrest : clock.val = 2 ∨ 7 ≤ clock.val) :
    exec (.clockFault clock ppm unlocked) s = .next { s with dev := s.dev.showClockFault clock.val ppm unlocked } := by
  have hone : clock.val ≠ 1 := by omega
  have hcore : ¬(clock.val = 0 ∨ (3 ≤ clock.val ∧ clock.val ≤ 6)) := by omega
  rw [clockFault_faulty h]
  dsimp only
  rw [if_neg hone, if_neg (by simpa using hcore)]

theorem clockFault_good (clock : Fin 9) {ppm : BitVec 16} (h : ppm.toInt.natAbs ≤ 10000) :
    exec (.clockFault clock ppm false) s = .next { s with dev := s.dev.putN (PWR.CLK clock.val) (ppm.toNat + 2 ^ 16) } := by
  have hgood : (false || decide (10000 < ppm.toInt.natAbs)) = false := by simp [h]
  change execClockFault clock ppm false s = _
  unfold execClockFault
  dsimp only
  rw [hgood]
  rfl

/-! Wake (R402, R527 to R529) -/

theorem wake_shelf (h : s.dev.pwr.asleep = 1) : exec (.wake .wakeN) s = .next (s.deviceReset 1 1 0) := congrArg Host.Outcome.next (if_pos h)

theorem wake_dormant (h : s.dev.pwr.asleep = 2) : exec (.wake .wakeN) s = .next (s.deviceReset 7 1 0) :=
  congrArg Host.Outcome.next ((if_neg (by omega)).trans (if_pos h))

theorem wake_alarm (h : s.dev.pwr.asleep = 2) (hon : s.cfg.b PWR.DORM_CFG 0 = true) :
    exec (.wake .alarm) s = .next (({ s with dev := s.dev.toAlarm s.cfg } : State).deviceReset 7 3 0) :=
  congrArg Host.Outcome.next (if_pos (by simp [h, hon]))

theorem canWake_wakes {ctrl : Fin 6} {pattern : CanWakePattern} (h : s.dev.pwr.asleep = 2) (hsleep : s.dev.b (CAN.STAT ctrl.val) 4 = true)
    (hwakes : wakes s.cfg ctrl.val pattern = true) : exec (.canWake ctrl pattern) s = .next { s.deviceReset 7 2 ctrl.val with
      dev := (s.deviceReset 7 2 ctrl.val).dev.event 0x200B [(ctrl.val : Int), 3] } :=
  congrArg Host.Outcome.next (if_pos (by simp [h, hsleep, hwakes]))

end

/-- Settles O48: the sources awake, then asleep, the clocks, then what wakes the module. -/
theorem resetSources : Obligations.ResetSources := by
  unfold Obligations.ResetSources
  refine ⟨fun s => rfl, fun s => brownOut_powered, fun s hawake => ⟨?_, fun rail hlo hhi => railReset_core ⟨hlo, hhi⟩ hawake,
    fun rail h => railReset_other (by omega), ?_, ?_, fun hrun hmode => sysWatchdogExpiry_runs hrun hmode hawake,
    fun h => jtagReset_authenticated h hawake, fun value h => rstCmd_keyed h hawake, fun value h => rstCmd_badKey h⟩,
    fun s h => ⟨?_, ?_, ?_, fun rail => railReset_asleep rail h⟩,
    fun s clock ppm unlocked h => ⟨clockFault_core h, clockFault_refIn h, clockFault_recorded h⟩,
    fun s clock ppm h => clockFault_good clock h, fun s h => ⟨wake_shelf h, ?_⟩, fun s h => ⟨wake_dormant h, wake_alarm h⟩,
    fun s ctrl pattern h hsleep hwakes => canWake_wakes h hsleep hwakes⟩
  · exact congrArg Host.Outcome.next (resetBy_awake 3 hawake)
  · exact congrArg Host.Outcome.next (resetBy_awake 5 hawake)
  · exact congrArg Host.Outcome.next (resetBy_awake 8 hawake)
  · exact congrArg Host.Outcome.next (resetBy_asleep 3 h)
  · exact congrArg Host.Outcome.next (resetBy_asleep 5 h)
  · exact congrArg Host.Outcome.next (resetBy_asleep 8 h)
  · exact congrArg Host.Outcome.next (resetBy_asleep 8 (by omega))

/-! ### What a reset leaves (R522, R530) -/

/-- A module whose bank VIO_A was found at 3.3 V. -/
def bankAt3V3 : State := { State.reset with dev := State.reset.dev.putB PWR.RAIL_STAT 16 true }

/-- The finding stays over a reset that is no power-on (R522), and RAIL_STAT shows it. -/
theorem deviceReset_bankAt3V3 : (bankAt3V3.deviceReset 8 0 0).dev.w PWR.RAIL_STAT = 0x10000#32 ∧ regReset PWR.RAIL_STAT = 0
    ∧ PWR.RAIL_STAT ∉ keptKeys := by decide

/-- Refutes O49: RAIL_STAT is not among the registers kept, and a pin reset leaves its bit 16, the range found for VIO_A, as it was. -/
theorem not_deviceResetLeaves : ¬ Obligations.DeviceResetLeaves := by
  intro h
  obtain ⟨hshown, hreset, hkept⟩ := deviceReset_bankAt3V3
  obtain ⟨-, hregs, -⟩ := h bankAt3V3 8 0 0 (by omega) (by omega)
  have hw := hregs PWR.RAIL_STAT hkept
  rw [hshown, hreset] at hw
  exact absurd hw (by decide)

/-! ### Supplies, the watchdog's feed, phase 1 (R521, R526, R531, R533) -/

section
variable {s : State}

theorem railWarn_eq (rail : Fin 10) (mv1 mv2 : BitVec 16) : exec (.railWarn rail mv1 mv2) s = onDev s fun _ d =>
    let out := railOut d rail.val mv1.toNat
    let e := d.showRail rail.val mv1 mv2 (d.b PWR.RAIL_STAT rail.val && !out)
    if d.b PWR.RAIL_STAT rail.val && out then (e.putB PWR.RAIL_WARN rail.val true).event 0x0201 [(rail.val : Int)] else e := rfl

theorem railWarn_leaves {rail : Fin 10} {mv1 mv2 : BitVec 16} (hin : s.dev.b PWR.RAIL_STAT rail.val = true)
    (hout : railOut s.dev rail.val mv1.toNat = true) : exec (.railWarn rail mv1 mv2) s = .next { s with
      dev := ((s.dev.showRail rail.val mv1 mv2 false).putB PWR.RAIL_WARN rail.val true).event 0x0201 [(rail.val : Int)] } := by
  refine (railWarn_eq rail mv1 mv2).trans (onDev_of ?_)
  dsimp only
  rw [hin, hout]
  rfl

theorem railWarn_outside {rail : Fin 10} (mv1 mv2 : BitVec 16) (h : s.dev.b PWR.RAIL_STAT rail.val = false) :
    exec (.railWarn rail mv1 mv2) s = .next { s with dev := s.dev.showRail rail.val mv1 mv2 false } := by
  refine (railWarn_eq rail mv1 mv2).trans (onDev_of ?_)
  dsimp only
  rw [h]
  rfl

theorem railOk_eq (rail : Fin 10) (mv1 mv2 : BitVec 16) : exec (.railOk rail mv1 mv2) s = onDev s fun _ d =>
    let back := railIn d rail.val mv1.toNat
    let e := d.showRail rail.val mv1 mv2 (d.b PWR.RAIL_STAT rail.val || back)
    if !d.b PWR.RAIL_STAT rail.val && back then e.event 0x0202 [(rail.val : Int)] else e := rfl

theorem railOk_returns {rail : Fin 10} {mv1 mv2 : BitVec 16} (hout : s.dev.b PWR.RAIL_STAT rail.val = false)
    (hback : railIn s.dev rail.val mv1.toNat = true) : exec (.railOk rail mv1 mv2) s = .next { s with
      dev := (s.dev.showRail rail.val mv1 mv2 true).event 0x0202 [(rail.val : Int)] } := by
  refine (railOk_eq rail mv1 mv2).trans (onDev_of ?_)
  dsimp only
  rw [hout, hback]
  rfl

theorem railOk_inside {rail : Fin 10} (mv1 mv2 : BitVec 16) (h : s.dev.b PWR.RAIL_STAT rail.val = true) :
    exec (.railOk rail mv1 mv2) s = .next { s with dev := s.dev.showRail rail.val mv1 mv2 true } := by
  refine (railOk_eq rail mv1 mv2).trans (onDev_of ?_)
  dsimp only
  rw [h]
  rfl

theorem wdtFeed_keyed {value : Word} (hkey : fld value 16 16 = 0x5D11) (hrun : s.dev.b SYS.WDT_STAT 16 = true) :
    exec (.wdtFeed value) s = .next { s with
      bus := .done 0, dev := { s.dev.putF SYS.WDT_STAT 0 14 0 with pwr := { s.dev.pwr with wdtTick := s.dev.tick } } } := by
  change execWdtFeed value s = _
  exact onWrite_of (if_neg (by simp [hkey, hrun]))

theorem wdtFeed_ignored {value : Word} (h : fld value 16 16 ≠ 0x5D11 ∨ s.dev.b SYS.WDT_STAT 16 = false) :
    exec (.wdtFeed value) s = .next { s with bus := .done 0 } := by
  have hbad : (fld value 16 16 != 0x5D11 || !s.dev.b SYS.WDT_STAT 16) = true := by
    rcases h with h | h
    · simp [h]
    · simp [h]
  change execWdtFeed value s = _
  exact onWrite_of (if_pos hbad)

theorem phase1Complete_released (h : s.dev.pwr.phase = 1) :
    exec .phase1Complete s = .next { s with dev := { s.dev with pwr := { s.dev.pwr with phase := 2 } } } := by
  change execPhase1Complete s = _
  exact onDev_of (if_pos h)

theorem phase1Complete_later (h : s.dev.pwr.phase ≠ 1) : exec .phase1Complete s = .next s := by
  change execPhase1Complete s = _
  exact onDev_of (if_neg h)

end

/-! ### Boot commands (R537) -/

/-- A boot command answers with a code. -/
def Dev.bootResult (d : Dev) (code : Nat) : Dev := d.putF SYS.BOOT_RES 0 2 code

/-- Slot `k` becomes the preferred one, on trial. -/
def Dev.tryNext (d : Dev) (k : Nat) : Dev :=
  let keep : BitVec 2 := if k = 0 then 2 else 1
  { d with pwr := { d.pwr with
    prefB := k = 1, trial := d.pwr.trial ||| ~~~keep, booted := d.pwr.booted &&& keep, confirmed := d.pwr.confirmed &&& keep } }

section
variable {d : Dev} {st : Store} {value : Word}

theorem bootCommand_badKey (h : fld value 16 16 ≠ 0xB0C7) : d.bootCommand st value = d.bootResult 1 := if_pos (by simp [h])

variable (hkey : fld value 16 16 = 0xB0C7)
include hkey

section
variable (hcmd : fld value 0 3 = 1 ∨ fld value 0 3 = 2)
include hcmd

theorem bootCommand_try (h : imageReason st d (slotAddr (fld value 0 3 - 1)) = 0) :
    d.bootCommand st value = (d.tryNext (fld value 0 3 - 1)).bootResult 0 :=
  (if_neg (by simp [hkey])).trans ((if_pos (by simpa using hcmd)).trans (if_neg (by simp [h])))

theorem bootCommand_invalid (h : imageReason st d (slotAddr (fld value 0 3 - 1)) ∉ [0, 7]) : d.bootCommand st value = d.bootResult 3 :=
  (if_neg (by simp [hkey])).trans ((if_pos (by simpa using hcmd)).trans (if_pos (by simpa using h)))

end

section
variable (hcmd : fld value 0 3 = 3)
include hcmd

theorem bootCommand_confirm (h : d.f SYS.BOOT_STAT 0 2 = 0) : d.bootCommand st value = (({ d with pwr := { d.pwr with
    trial := d.pwr.trial &&& 2, confirmed := d.pwr.confirmed ||| 1 } } : Dev).putB SYS.BOOT_STAT 2 false).bootResult 0 := by
  refine (if_neg (by simp [hkey])).trans ((if_neg (by simp [hcmd])).trans ((if_pos hcmd).trans ((if_neg (by omega)).trans ?_)))
  rw [if_pos h]
  rfl

theorem bootCommand_confirmService (h : d.f SYS.BOOT_STAT 0 2 = 2) : d.bootCommand st value = d.bootResult 2 :=
  (if_neg (by simp [hkey])).trans ((if_neg (by simp [hcmd])).trans ((if_pos hcmd).trans (if_pos h)))

end

section
variable (hcmd : fld value 0 3 = 4)
include hcmd

theorem bootCommand_raiseService (h : d.f SYS.BOOT_STAT 0 2 = 2) : d.bootCommand st value = d.bootResult 2 :=
  (if_neg (by simp [hkey])).trans ((if_neg (by simp [hcmd])).trans ((if_neg (by omega)).trans ((if_pos hcmd).trans (if_pos (by simp [h])))))

theorem bootCommand_raise (hran : d.f SYS.BOOT_STAT 0 2 < 2) (htrial : d.b SYS.BOOT_STAT 2 = false) (hver : d.pwr.minSecVer < d.pwr.runSecVer)
    (hsteps : d.pwr.secSteps < 32) : d.bootCommand st value = ((({ d with pwr := { d.pwr with
      minSecVer := d.pwr.runSecVer, secSteps := d.pwr.secSteps + 1 } } : Dev).putF SYS.BOOT_STAT 16 8 d.pwr.runSecVer).event 0x0109
      [(d.pwr.runSecVer : Int)]).bootResult 0 := by
  have hown : d.f SYS.BOOT_STAT 0 2 ≠ 2 := by omega
  exact (if_neg (by simp [hkey])).trans ((if_neg (by simp [hcmd])).trans ((if_neg (by omega)).trans ((if_pos hcmd).trans
    ((if_neg (by simp [hown, htrial])).trans ((if_neg (by omega)).trans (if_neg (by omega)))))))

end
end

/-- The two halves of a word of BOOT_CMD. -/
theorem halves_append (value : Word) : value.extractLsb' 16 16 ++ value.extractLsb' 0 16 = value := by
  apply BitVec.eq_of_getLsbD_eq
  intro i hi
  rw [BitVec.getLsbD_append]
  by_cases h : i < 16
  · simp [h]
  · have hhigh : i - 16 < 16 := by omega
    have hplace : 16 + (i - 16) = i := by omega
    simp [h, hhigh, hplace]

/-- TRY_A, TRY_B, CONFIRM and RAISE_SECVER write BOOT_CMD. -/
theorem bootWrite_of {s : State} {value : Word} {e : Dev} (h : s.dev.bootCommand s.store value = e) :
    bootWrite value s = .next { s with bus := .done 0, dev := e } := onWrite_of h

/-! ### JTAG (R492, R539, R540) -/

section
variable {s : State} {x y r sig : BitVec 256}

theorem jtagAuth_refused (h : s.dev.stu.keys = false ∨ 3 ≤ s.dev.pwr.jtagFails) :
    exec (.jtagAuth ⟨x, y⟩ ⟨r, sig⟩) s = .next { s with dev := s.dev.event 0x0108 } := by
  have hclosed : (!s.dev.stu.keys || decide (3 ≤ s.dev.pwr.jtagFails)) = true := by
    rcases h with h | h
    · simp [h]
    · simp [h]
  change execJtagAuth ⟨x, y⟩ ⟨r, sig⟩ s = _
  exact onDev_of (if_pos hclosed)

/-- An attempt uses the nonce up. -/
def Dev.useNonce (d : Dev) : Dev := { d with pwr := { d.pwr with jtagNonce := none } }

/-- A failed attempt. -/
def Dev.countJtagFail (d : Dev) : Dev := { d with pwr := { d.pwr with jtagNonce := none, jtagFails := d.pwr.jtagFails + 1 } }

section
variable (hkeys : s.dev.stu.keys = true) (hfails : s.dev.pwr.jtagFails < 3)
include hkeys hfails

theorem jtagAuth_verified {slot : Nat} (h : debugAnswer s.dev x y r sig = some slot) :
    exec (.jtagAuth ⟨x, y⟩ ⟨r, sig⟩) s = .next { s with
      dev := (s.dev.useNonce.putN SYS.JTAG_STAT (1 + slot * 4)).event 0x0107 [(slot : Int)] } := by
  change execJtagAuth ⟨x, y⟩ ⟨r, sig⟩ s = _
  refine onDev_of ((if_neg (by simp [hkeys, hfails])).trans ?_)
  dsimp only
  rw [h]
  rfl

theorem jtagAuth_fails (h : debugAnswer s.dev x y r sig = none) : exec (.jtagAuth ⟨x, y⟩ ⟨r, sig⟩) s = .next { s with
    dev := (if s.dev.pwr.jtagFails + 1 = 3 then s.dev.countJtagFail.putB SYS.JTAG_STAT 1 true else s.dev.countJtagFail).event 0x0108 } := by
  change execJtagAuth ⟨x, y⟩ ⟨r, sig⟩ s = _
  refine onDev_of ((if_neg (by simp [hkeys, hfails])).trans ?_)
  dsimp only
  rw [h]
  rfl

end

/-- An instruction that halts acts for an authenticated module without the crown. -/
theorem jtagFree (d : Dev) (h : d.b SYS.JTAG_STAT 0 = true) (hcrown : d.crown = false) : (d.b SYS.JTAG_STAT 0 && !d.crown) = true := by
  rw [h, hcrown]
  rfl

theorem jtagBound (d : Dev) (h : d.b SYS.JTAG_STAT 0 = false ∨ d.crown = true) : (d.b SYS.JTAG_STAT 0 && !d.crown) = false := by
  rcases h with h | h
  · simp [h]
  · simp [h]

theorem haltCore_eq : exec (.jtagInstruction .haltCore) s = .next { s with dev := { s.dev with pwr := { s.dev.pwr with
    extest := false, coreHalted := s.dev.pwr.coreHalted || (s.dev.b SYS.JTAG_STAT 0 && !s.dev.crown) } } } := rfl

theorem haltMonitor_eq : exec (.jtagInstruction .haltMonitor) s = .next { s with dev := { s.dev with pwr := { s.dev.pwr with
    extest := false, monitorHalted := s.dev.pwr.monitorHalted || (s.dev.b SYS.JTAG_STAT 0 && !s.dev.crown) } } } := rfl

theorem extest_eq : exec (.jtagInstruction .extest) s = .next { s with dev := { s.dev with pwr := { s.dev.pwr with
    extest := (s.dev.b SYS.JTAG_STAT 0 && !s.dev.crown) && (s.dev.mode = 2 || s.dev.mode = 3 || s.dev.mode = 5) } } } := rfl

end

/-- Settles O50: supplies, watchdog and phase 1, the boot commands by their results, then JTAG. -/
theorem powerCommands : Obligations.PowerCommands := by
  unfold Obligations.PowerCommands
  refine ⟨fun s rail mv1 mv2 => ⟨railWarn_leaves, railOk_returns, railOk_inside mv1 mv2, railWarn_outside mv1 mv2⟩, fun s => rfl,
    fun s value => ⟨wdtFeed_keyed, wdtFeed_ignored⟩, fun s => phase1Complete_released, fun s => phase1Complete_later,
    fun s => ⟨fun h => ?_, fun h => ?_, fun h => ?_, fun h => ?_⟩, fun s h => ?_, fun s h => ⟨?_, ?_⟩, fun s hran htrial hver hsteps => ?_,
    fun s value h => ⟨?_, ?_, ?_, ?_⟩, fun s x y r sig hkeys hfails => ⟨fun slot => jtagAuth_verified hkeys hfails, fun h htwo => ?_, fun h hfew => ?_⟩,
    fun s x y r sig => jtagAuth_refused, fun s h hcrown => ⟨?_, ?_⟩, fun s h => ⟨?_, ?_, ?_⟩⟩
  · exact bootWrite_of (bootCommand_try (by decide) (.inl (by decide)) h)
  · exact bootWrite_of (bootCommand_try (by decide) (.inr (by decide)) h)
  · exact bootWrite_of (bootCommand_invalid (by decide) (.inl (by decide)) h)
  · exact bootWrite_of (bootCommand_invalid (by decide) (.inr (by decide)) h)
  · exact bootWrite_of (bootCommand_confirm (by decide) (by decide) h)
  · exact bootWrite_of (bootCommand_confirmService (by decide) (by decide) h)
  · exact bootWrite_of (bootCommand_raiseService (by decide) (by decide) h)
  · exact bootWrite_of (bootCommand_raise (by decide) (by decide) hran htrial hver hsteps)
  · exact bootWrite_of (by rw [halves_append]; exact bootCommand_badKey h)
  · exact bootWrite_of (by rw [halves_append]; exact bootCommand_badKey h)
  · exact bootWrite_of (bootCommand_badKey h)
  · exact bootWrite_of (bootCommand_badKey h)
  · rw [jtagAuth_fails hkeys hfails h, if_pos (by omega)]
    rfl
  · rw [jtagAuth_fails hkeys hfails h, if_neg (by omega)]
    rfl
  · rw [haltCore_eq, jtagFree _ h hcrown, Bool.or_true]
  · rw [haltMonitor_eq, jtagFree _ h hcrown, Bool.or_true]
  · rw [haltCore_eq, jtagBound _ h, Bool.or_false]
  · rw [haltMonitor_eq, jtagBound _ h, Bool.or_false]
  · rw [extest_eq, jtagBound _ h, Bool.false_and]

end Sys2Proof.Machine
end

section
/-! SUPPORT. The full run of Self-test, cluster tests, and the choice of a boot image. -/
namespace Sys2Proof.Machine
-- One proof after another: proofs that wait for each other would each hold a thread and its stack.
set_option Elab.async false

/-! ### Cluster tests (R499) -/

/-- A test of cluster `n` that is refused with a code. -/
def Dev.refuseTest (d : Dev) (n code : Nat) : Dev := ((d.putF STU.CL_RES 0 3 4).putF STU.CL_RES 4 2 n).putF STU.CL_RES 8 4 code

/-- The test of cluster `n` starts. -/
def Dev.startTest (d : Dev) (n : Nat) : Dev :=
  { ((d.putF STU.CL_RES 0 3 1).putF STU.CL_RES 4 2 n).putF STU.CL_RES 8 4 0 with stu := { d.stu with cluster := some n } }

/-- The first code that applies, 0 for none. -/
def testRefusal (d : Dev) (value : Word) (range : RangeObs) : Nat :=
  if fld value 16 16 != 0x57E5 then 1
  else if clState d (fld value 0 2) < 2 then 2
  else if d.stu.cluster.isSome then 3
  else if !withinRange range then 4
  else if d.mode < 3 || 10 < d.mode then 5
  else 0

section
variable {s : State} {value : Word} {range : RangeObs}

theorem clTest_eq : exec (.clTest value range) s = onWrite s fun _ d =>
    if testRefusal d value range = 3 || (testRefusal d value range != 0 && d.stu.cluster.isSome) then
      d.putF STU.CL_RES 8 4 (testRefusal d value range)
    else if testRefusal d value range != 0 then d.refuseTest (fld value 0 2) (testRefusal d value range)
    else d.startTest (fld value 0 2) := rfl

section
variable (hfree : s.dev.stu.cluster = none)
include hfree

theorem clTest_refused {code : Nat} (h : testRefusal s.dev value range = code) (h0 : code ≠ 0) (h3 : code ≠ 3) :
    exec (.clTest value range) s = .next { s with bus := .done 0, dev := s.dev.refuseTest (fld value 0 2) code } := by
  refine clTest_eq.trans (onWrite_of ((if_neg (by simp [h, h3, hfree])).trans ((if_pos (by simp [h, h0])).trans ?_)))
  rw [h]

omit hfree in
theorem clTest_started (h : testRefusal s.dev value range = 0) :
    exec (.clTest value range) s = .next { s with bus := .done 0, dev := s.dev.startTest (fld value 0 2) } :=
  clTest_eq.trans (onWrite_of ((if_neg (by simp [h])).trans (if_neg (by simp [h]))))

end

theorem clTest_busy (h : testRefusal s.dev value range = 3) :
    exec (.clTest value range) s = .next { s with bus := .done 0, dev := s.dev.putF STU.CL_RES 8 4 3 } := by
  refine clTest_eq.trans (onWrite_of ((if_pos (by simp [h])).trans ?_))
  rw [h]

end

section
variable {d : Dev} {value : Word} {range : RangeObs}

theorem testRefusal_badKey (h : fld value 16 16 ≠ 0x57E5) : testRefusal d value range = 1 := if_pos (by simp [h])

variable (hkey : fld value 16 16 = 0x57E5)
include hkey

theorem testRefusal_inUse (h : clState d (fld value 0 2) < 2) : testRefusal d value range = 2 := (if_neg (by simp [hkey])).trans (if_pos h)

variable (hidle : 2 ≤ clState d (fld value 0 2))
include hidle

theorem testRefusal_underWay {m : Nat} (h : d.stu.cluster = some m) : testRefusal d value range = 3 :=
  (if_neg (by simp [hkey])).trans ((if_neg (by omega)).trans (if_pos (by simp [h])))

variable (hfree : d.stu.cluster = none)
include hfree

theorem testRefusal_range (h : withinRange range = false) : testRefusal d value range = 4 :=
  (if_neg (by simp [hkey])).trans ((if_neg (by omega)).trans ((if_neg (by simp [hfree])).trans (if_pos (by simp [h]))))

variable (hrange : withinRange range = true)
include hrange

theorem testRefusal_mode (h : d.mode < 3 ∨ 10 < d.mode) : testRefusal d value range = 5 :=
  (if_neg (by simp [hkey])).trans ((if_neg (by omega)).trans ((if_neg (by simp [hfree])).trans ((if_neg (by simp [hrange])).trans
    (if_pos (by simpa using h)))))

theorem testRefusal_none (hlo : 3 ≤ d.mode) (hhi : d.mode ≤ 10) : testRefusal d value range = 0 := by
  have hmode : ¬(d.mode < 3 ∨ 10 < d.mode) := by omega
  exact (if_neg (by simp [hkey])).trans ((if_neg (by omega)).trans ((if_neg (by simp [hfree])).trans ((if_neg (by simp [hrange])).trans
    (if_neg (by simpa using hmode)))))

end

/-- No cluster is under test any more. -/
def Dev.endTest (d : Dev) : Dev := { d with stu := { d.stu with cluster := none } }

section
variable {s : State} {range : RangeObs}

theorem clTestDone_idle (pass : Bool) (h : s.dev.stu.cluster = none) : exec (.clTestDone pass range) s = .next s := by
  change execClTestDone pass range s = _
  refine onDev_of ?_
  rw [h]

theorem clTestDone_of {n : Nat} (pass : Bool) (h : s.dev.stu.cluster = some n) : exec (.clTestDone pass range) s = .next { s with
    dev := if !withinRange range then (s.dev.endTest.putF STU.CL_RES 0 3 4).putF STU.CL_RES 8 4 4
      else if pass then ((s.dev.endTest.putF STU.CL_RES 0 3 2).wrap STU.CL_RES 16 16 1).clusterRestored n
      else ((s.dev.endTest.putF STU.CL_RES 0 3 3).putF (SLV.CL_STAT n) 0 2 3).event 0x0807 [(n : Int)] } := by
  change execClTestDone pass range s = _
  refine onDev_of ?_
  rw [h]
  rfl

end

/-- Settles O47: the codes in their order, then the end of a test. -/
theorem clusterTests : Obligations.ClusterTests := by
  unfold Obligations.ClusterTests
  refine ⟨fun s value range hfree => ⟨fun hkey hidle hrange hlo hhi => clTest_started (testRefusal_none hkey hidle hfree hrange hlo hhi),
      fun h => clTest_refused hfree (testRefusal_badKey h) (by omega) (by omega),
      fun hkey h => clTest_refused hfree (testRefusal_inUse hkey h) (by omega) (by omega),
      fun hkey hidle h => clTest_refused hfree (testRefusal_range hkey hidle hfree h) (by omega) (by omega),
      fun hkey hidle hrange h => clTest_refused hfree (testRefusal_mode hkey hidle hfree hrange h) (by omega) (by omega)⟩,
    fun s value range m h hkey hidle => clTest_busy (testRefusal_underWay hkey hidle h),
    fun s pass range n h => ⟨fun hrange => ⟨?_, ?_⟩, fun hrange => ?_⟩, fun s pass range => clTestDone_idle pass⟩
  · rw [clTestDone_of false h, hrange]
    rfl
  · rw [clTestDone_of true h, hrange]
    rfl
  · rw [clTestDone_of pass h, hrange]
    rfl

/-! ### A byte after a run of zeros (R459, R493) -/

theorem Assoc.get_filter {α : Type} (dflt : α) (q : Nat → Bool) (l : List (Nat × α)) (k : Nat) :
    Assoc.get dflt (l.filter fun e => q e.1) k = if q k then Assoc.get dflt l k else dflt := by
  induction l with
  | nil => simp [Assoc.get]
  | cons e l ih =>
    obtain ⟨j, v⟩ := e
    cases hj : q j with
    | true =>
      rw [List.filter_cons_of_pos (p := fun e : Nat × α => q e.1) hj, Assoc.get, Assoc.get, ih]
      by_cases h : j = k
      · rw [if_pos h, if_pos h, if_pos (h ▸ hj)]
      · rw [if_neg h, if_neg h]
    | false =>
      rw [List.filter_cons_of_neg (p := fun e : Nat × α => q e.1) (by simp [hj]), Assoc.get, ih]
      by_cases h : j = k
      · rw [if_neg (by simp [← h, hj]), if_neg (by simp [← h, hj])]
      · rw [if_neg h]

theorem Store.zero_byte (st : Store) (p : Nat → Bool) (a : Nat) : (st.zero p).byte a = if p a then 0 else st.byte a := by
  rw [Store.byte, Store.zero, Assoc.get_filter 0 (fun k => !p k)]
  cases h : p a <;> simp [Store.byte]

/-! ### The end of a run (R498) -/

section
variable (d : Dev) (code : Nat)

theorem runOver_units : d.runOver code = { d with
    regs := (d.runOver code).regs, modes := (d.runOver code).modes, stu := { d.stu with run := none, ended := true } } := by
  unfold Dev.runOver
  dsimp only
  rw [want_modes]
  split <;> rfl

theorem runOver_stu : (d.runOver code).stu = { d.stu with run := none, ended := true } := by rw [runOver_units]
theorem runOver_occ : (d.runOver code).occ = d.occ := by rw [runOver_units]
theorem runOver_tick : (d.runOver code).tick = d.tick := by rw [runOver_units]
theorem runOver_esc : (d.runOver code).esc = d.esc := by rw [runOver_units]

theorem runOver_w (k : Nat) : (d.runOver code).w k = (match d.stu.run with
    | none => d.putF STU.RESULT 0 3 code
    | some (_, t) => (d.putF STU.RESULT 0 3 code).putF STU.RESULT 16 16 (satU 16 ((d.tick - t) / 20000))).w k := by
  unfold Dev.runOver
  dsimp only
  rw [w_want]
  rfl

theorem runOver_w_ne {k : Nat} (h : k ≠ STU.RESULT) : (d.runOver code).w k = d.w k := by
  rw [runOver_w]
  split
  · exact Dev.w_putF_ne _ _ _ _ h
  · exact (Dev.w_putF_ne _ _ _ _ h).trans (Dev.w_putF_ne _ _ _ _ h)

theorem runOver_regsKept {ks : List Nat} (h : STU.RESULT ∈ ks) : RegsKept ks d (d.runOver code) := fun _ hk =>
  runOver_w_ne d code fun he => hk (he ▸ h)

theorem runOver_result (h : code < 8) : (d.runOver code).f STU.RESULT 0 3 = code := by
  have hshown : (d.putF STU.RESULT 0 3 code).f STU.RESULT 0 3 = code := (Dev.f_putF_self _ _ _ (by omega)).trans (Nat.mod_eq_of_lt h)
  rw [Dev.f, runOver_w]
  split
  · exact hshown
  · exact (Dev.f_putF_apart _ _ _ (by omega) (by omega)).trans hshown

theorem runOver_event (ps : List Int) (ev : Nat) : ((d.runOver code).event ev ps).occ = d.occ ++ [⟨ev, d.tick, d.eventBeat, ps⟩] :=
  event_occ_of (runOver_occ d code) (runOver_tick d code) (runOver_esc d code) _ _

end

/-! ### The start of a run (R489 to R492) -/

/-- The registers of a run that is judged by the range of supplies and clocks. -/
def Dev.openRun (d : Dev) (range : RangeObs) : Dev :=
  (((d.putN STU.RESULT (d.stu.requested.toNat * 16)).putN STU.RANGE (rangeWord range)).putN STU.FAIL_MASK 0).putN STU.SKIP_MASK 0

/-- A run under way: the keys are cleared. -/
def Dev.startRun (d : Dev) (keysZero : Bool) : Dev :=
  let e := (d.putF STU.RESULT 0 3 1).event 0x0801 [(d.stu.requested.toNat : Int)]
  { e with stu := { e.stu with run := some (e.stu.requested.toNat, e.tick), keys := false, secretsBad := !keysZero } }

/-- The keys as they are read back. -/
def Dev.showKeys (d : Dev) (keysZero : Bool) : Dev :=
  (((d.putN STU.KEYS (1 + keysZero.toNat * 2)).putB EVR.STAT 1 false).putN SYS.JTAG_STAT 0).event 0x0806 [(keysZero.toNat : Int)]

section
variable {s : State} {range : RangeObs} (keysZero : Bool) (hmode : s.dev.mode = 2) (hphase : s.dev.pwr.phase = 2) (hrun : s.dev.stu.run = none)
  (hended : s.dev.stu.ended = false)
include hmode hphase hrun hended

theorem selfTestStart_refused (h : withinRange range = false) : exec (.selfTestStart range keysZero) s = .next { s with
    dev := ((s.dev.openRun range).runOver 4).event 0x0804 [(rangeWord range : Int)] } := by
  change execSelfTestStart range keysZero s = _
  exact onDev_of ((if_neg (by simp [hmode, hphase, hrun, hended])).trans (if_pos (by simp [h])))

theorem selfTestStart_runs (h : withinRange range = true) : exec (.selfTestStart range keysZero) s = .next { s with
    dev := ((s.dev.openRun range).startRun keysZero).showKeys keysZero } := by
  change execSelfTestStart range keysZero s = _
  exact onDev_of ((if_neg (by simp [hmode, hphase, hrun, hended])).trans (if_neg (by simp [h])))

end

section
variable (d : Dev) (range : RangeObs) (keysZero : Bool)

theorem openRun_regsKept {ks : List Nat} (h : [STU.RESULT, STU.RANGE, STU.FAIL_MASK, STU.SKIP_MASK] ⊆ ks) : RegsKept ks d (d.openRun range) :=
  regsKept_put (regsKept_put (regsKept_put (regsKept_put regsKept_refl _ (h (by simp))) _ (h (by simp))) _ (h (by simp))) _ (h (by simp))

theorem openRun_range : (d.openRun range).w STU.RANGE = wd (rangeWord range) :=
  (Dev.w_putN_ne _ _ (by decide)).trans ((Dev.w_putN_ne _ _ (by decide)).trans (Dev.w_putN_self _ _ _))

theorem openRun_result : (d.openRun range).w STU.RESULT = wd (d.stu.requested.toNat * 16) :=
  (Dev.w_putN_ne _ _ (by decide)).trans ((Dev.w_putN_ne _ _ (by decide)).trans ((Dev.w_putN_ne _ _ (by decide)).trans (Dev.w_putN_self _ _ _)))

theorem startRun_w (k : Nat) : (d.startRun keysZero).w k = (d.putF STU.RESULT 0 3 1).w k := rfl

theorem startRun_regsKept {ks : List Nat} (h : STU.RESULT ∈ ks) : RegsKept ks d (d.startRun keysZero) := fun k hk =>
  (startRun_w d keysZero k).trans (Dev.w_putF_ne _ _ _ _ fun he => hk (he ▸ h))

theorem startRun_stu : (d.startRun keysZero).stu = { d.stu with
    run := some (d.stu.requested.toNat, d.tick), keys := false, secretsBad := !keysZero } := rfl

theorem showKeys_regsKept {ks : List Nat} (h : [STU.KEYS, EVR.STAT, SYS.JTAG_STAT] ⊆ ks) : RegsKept ks d (d.showKeys keysZero) := by
  have hput : RegsKept ks d (((d.putN STU.KEYS (1 + keysZero.toNat * 2)).putB EVR.STAT 1 false).putN SYS.JTAG_STAT 0) :=
    regsKept_put (regsKept_put (regsKept_put regsKept_refl _ (h (by simp))) _ (h (by simp))) _ (h (by simp))
  exact fun k hk => (Dev.w_event _ _ _ _).trans (hput k hk)

theorem showKeys_w_ne {k : Nat} (h : k ∉ [STU.KEYS, EVR.STAT, SYS.JTAG_STAT]) : (d.showKeys keysZero).w k = d.w k :=
  showKeys_regsKept d keysZero (List.Subset.refl _) k h

theorem showKeys_keys : (d.showKeys keysZero).w STU.KEYS = wd (1 + keysZero.toNat * 2) :=
  (Dev.w_event _ _ _ _).trans ((Dev.w_putN_ne _ _ (by decide)).trans ((Dev.w_putB_ne _ _ _ (by decide)).trans (Dev.w_putN_self _ _ _)))

theorem showKeys_jtag : (d.showKeys keysZero).w SYS.JTAG_STAT = 0 := (Dev.w_event _ _ _ _).trans (Dev.w_putN_self _ _ _)

theorem showKeys_evr : (d.showKeys keysZero).w EVR.STAT = setBit (d.w EVR.STAT) 1 false := by
  rw [Dev.showKeys, Dev.w_event, Dev.w_putN_ne _ _ (by decide), Dev.w_putB_self, Dev.w_putN_ne _ _ (by decide)]

end

/-! ### A departure from the limits (R490) -/

theorem selfTestAbort_idle {s : State} (stage : Fin 7) (range : RangeObs) (h : s.dev.stu.run = none) :
    exec (.selfTestAbort stage range) s = .next s := by
  change execSelfTestAbort stage range s = _
  exact onDev_of (if_pos (by simp [h]))

theorem selfTestAbort_aborts {s : State} {stage : Fin 7} {range : RangeObs} {run : Nat × Nat} (h : s.dev.stu.run = some run) (hstage : 2 ≤ stage.val)
    (hrange : withinRange range = false) : exec (.selfTestAbort stage range) s = .next { s with
      dev := ((s.dev.putN STU.RANGE (rangeWord range)).runOver 5).event 0x0805 [(stage.val : Int), rangeWord range] } := by
  change execSelfTestAbort stage range s = _
  exact onDev_of (if_neg (by simp [h, hrange]; omega))

/-! ### The judgement of a run (R493 to R498) -/

/-- The bits of the two groups' field loops in Table 21.4: a group with a low supply is skipped. -/
def loopsBad (obs : SelfTestObs) : Bool :=
  (!decide (obs.supplies.1.toNat < 18000) && !groupLoopOk obs.loops 0) || (!decide (obs.supplies.2.toNat < 18000) && !groupLoopOk obs.loops 1)

/-- The domains that failed; none where the secrets did not read zero. -/
def failedDomains (d : Dev) (obs : SelfTestObs) : Nat := if d.stu.secretsBad then 0 else badDomains d obs.sigs

/-- FAIL_MASK: the items of Table 21.4, and the domains from bit 16. -/
def failMask (d : Dev) (obs : SelfTestObs) : Nat :=
  d.stu.secretsBad.toNat + (failedDomains d obs != 0).toNat * 2 + (!obs.mbist).toNat * 4 + (!dacAdcOk obs.codes).toNat * 8
    + (loopsBad obs).toNat * 16 + (!bandgapOk obs.bandgaps).toNat * 32 + (!rfToneOk obs.tones).toNat * 64 + (!tempOk obs.temps).toNat * 128
    + failedDomains d obs * 2 ^ 16

theorem foldl_powers (l : List Nat) (m : Nat) : l.foldl (fun m k => m + 2 ^ k) m = m + l.foldl (fun m k => m + 2 ^ k) 0 := by
  induction l generalizing m with
  | nil => rfl
  | cons k l ih => rw [List.foldl_cons, List.foldl_cons, ih, ih (0 + 2 ^ k)]; omega

/-- Fewer powers of two have a smaller sum. -/
theorem foldl_powers_filter (p : Nat → Bool) (l : List Nat) :
    (l.filter p).foldl (fun m k => m + 2 ^ k) 0 ≤ l.foldl (fun m k => m + 2 ^ k) 0 := by
  induction l with
  | nil => exact Nat.le_refl 0
  | cons k l ih =>
    rw [List.foldl_cons, foldl_powers l (0 + 2 ^ k)]
    cases hp : p k with
    | true => rw [List.filter_cons_of_pos hp, List.foldl_cons, foldl_powers _ (0 + 2 ^ k)]; omega
    | false => rw [List.filter_cons_of_neg (by simp [hp])]; exact ih.trans (Nat.le_add_left _ _)

theorem foldl_powers_pos {l : List Nat} {k : Nat} (h : k ∈ l) : 0 < l.foldl (fun m k => m + 2 ^ k) 0 := by
  cases l with
  | nil => cases h
  | cons j l =>
    have hpos : 0 < 2 ^ j := Nat.two_pow_pos j
    rw [List.foldl_cons, foldl_powers]
    omega

theorem badDomains_lt (d : Dev) (sigs : List (BitVec 128)) : badDomains d sigs < 2 ^ 11 :=
  Nat.lt_of_le_of_lt (foldl_powers_filter _ _) (by decide)

theorem badDomains_zero (d : Dev) (sigs : List (BitVec 128)) : badDomains d sigs = 0 ↔ ∀ k, k < 11 → sigs.getD k 0 = goldenOf d k := by
  constructor
  · intro h k hk
    by_contra hne
    have hmem : k ∈ (List.range 11).filter (fun k => sigs.getD k 0 != goldenOf d k) :=
      List.mem_filter.mpr ⟨List.mem_range.mpr hk, bne_iff_ne.mpr hne⟩
    exact (foldl_powers_pos hmem).ne' h
  · intro h
    have hnone : (List.range 11).filter (fun k => sigs.getD k 0 != goldenOf d k) = [] :=
      List.filter_eq_nil_iff.mpr fun k hk hne => bne_iff_ne.mp hne (h k (List.mem_range.mp hk))
    rw [badDomains, hnone]
    rfl

theorem loopsBad_false (obs : SelfTestObs) : loopsBad obs = false ↔
    (obs.supplies.1.toNat < 18000 ∨ groupLoopOk obs.loops 0 = true) ∧ (obs.supplies.2.toNat < 18000 ∨ groupLoopOk obs.loops 1 = true) := by
  simp only [loopsBad, Bool.or_eq_false_iff, Bool.and_eq_false_iff, Bool.not_eq_false', decide_eq_true_eq]

theorem failedDomains_lt (d : Dev) (obs : SelfTestObs) : failedDomains d obs < 2 ^ 11 := by
  unfold failedDomains
  split
  · omega
  · exact badDomains_lt d _

theorem failMask_lt (d : Dev) (obs : SelfTestObs) : failMask d obs < 2 ^ 32 := by
  have hdom := failedDomains_lt d obs
  have hbit (b : Bool) : b.toNat ≤ 1 := Bool.toNat_le b
  have h0 := hbit d.stu.secretsBad
  have h1 := hbit (failedDomains d obs != 0)
  have h2 := hbit (!obs.mbist)
  have h3 := hbit (!dacAdcOk obs.codes)
  have h4 := hbit (loopsBad obs)
  have h5 := hbit (!bandgapOk obs.bandgaps)
  have h6 := hbit (!rfToneOk obs.tones)
  have h7 := hbit (!tempOk obs.temps)
  unfold failMask
  omega

/-- Every item of Table 21.4 passed or was skipped. -/
theorem failMask_zero (d : Dev) (obs : SelfTestObs) : failMask d obs = 0 ↔
    d.stu.secretsBad = false ∧ (∀ k, k < 11 → obs.sigs.getD k 0 = goldenOf d k) ∧ obs.mbist = true ∧ dacAdcOk obs.codes = true
      ∧ (obs.supplies.1.toNat < 18000 ∨ groupLoopOk obs.loops 0 = true) ∧ (obs.supplies.2.toNat < 18000 ∨ groupLoopOk obs.loops 1 = true)
      ∧ bandgapOk obs.bandgaps = true ∧ rfToneOk obs.tones = true ∧ tempOk obs.temps = true := by
  have hparts : failMask d obs = 0 ↔ d.stu.secretsBad = false ∧ failedDomains d obs = 0 ∧ obs.mbist = true ∧ dacAdcOk obs.codes = true
      ∧ loopsBad obs = false ∧ bandgapOk obs.bandgaps = true ∧ rfToneOk obs.tones = true ∧ tempOk obs.temps = true := by
    simp only [failMask, Nat.add_eq_zero_iff, Nat.mul_eq_zero, Bool.toNat_eq_zero, Bool.not_eq_false', bne_eq_false_iff_eq, OfNat.ofNat_ne_zero, or_false,
      Nat.pow_eq_zero, false_and]
    tauto
  rw [hparts, ← badDomains_zero, loopsBad_false, and_assoc]
  refine and_congr_right fun hgood => and_congr_left' ?_
  rw [failedDomains, if_neg (by simp [hgood])]

/-! ### SELF_TEST_END (R498) -/

/-- FAIL_MASK, SKIP_MASK, the signatures and the first failed domain. -/
def Dev.judge (d : Dev) (obs : SelfTestObs) : Dev :=
  (((if d.stu.secretsBad then d else d.showSigs obs.sigs).putN STU.FAIL_MASK (failMask d obs)).putN STU.SKIP_MASK
    ((if decide (obs.supplies.1.toNat < 18000) || decide (obs.supplies.2.toNat < 18000) then 16 else 0)
      + (decide (obs.supplies.1.toNat < 18000)).toNat * 2 ^ 8 + (decide (obs.supplies.2.toNat < 18000)).toNat * 2 ^ 9)).putF STU.RESULT 8 4
        (((List.range 11).find? (fun k => (failedDomains d obs).testBit k)).getD 0)

theorem judge_mask (d : Dev) (obs : SelfTestObs) : (d.judge obs).w STU.FAIL_MASK = wd (failMask d obs) := by
  unfold Dev.judge
  rw [Dev.w_putF_ne _ _ _ _ (by decide), Dev.w_putN_ne _ _ (by decide), Dev.w_putN_self]

section
variable {s : State} {obs : SelfTestObs}

theorem selfTestEnd_eq : exec (.selfTestEnd obs) s = onMem s fun _ st d => if d.stu.run.isNone then (st, d) else
    (st.zero inRegion0, if failMask d obs = 0 then ((d.judge obs).runOver (if failMask d obs = 0 then 2 else 3)).event 0x0802
      [(((if decide (obs.supplies.1.toNat < 18000) || decide (obs.supplies.2.toNat < 18000) then 16 else 0)
      + (decide (obs.supplies.1.toNat < 18000)).toNat * 2 ^ 8 + (decide (obs.supplies.2.toNat < 18000)).toNat * 2 ^ 9 : Nat) : Int)]
    else ((d.judge obs).runOver (if failMask d obs = 0 then 2 else 3)).event 0x0803 [(failMask d obs : Int)]) := rfl

theorem selfTestEnd_idle (h : s.dev.stu.run = none) : exec (.selfTestEnd obs) s = .next s :=
  selfTestEnd_eq.trans (onMem_of (if_pos (by simp [h])))

/-- The end of a run: region 0 is zero, the result follows the mask. -/
theorem selfTestEnd_ends {run : Nat × Nat} (h : s.dev.stu.run = some run) : ∃ ev ps, exec (.selfTestEnd obs) s = .next { s with
    store := s.store.zero inRegion0
    dev := ((s.dev.judge obs).runOver (if failMask s.dev obs = 0 then 2 else 3)).event ev ps } := by
  have hrun : ¬ (s.dev.stu.run.isNone = true) := by simp [h]
  by_cases hm : failMask s.dev obs = 0
  · exact ⟨_, _, selfTestEnd_eq.trans (onMem_of ((if_neg hrun).trans (congrArg _ (if_pos hm))))⟩
  · exact ⟨_, _, selfTestEnd_eq.trans (onMem_of ((if_neg hrun).trans (congrArg _ (if_neg hm))))⟩

end

theorem wd_eq_zero {n : Nat} (h : n < 2 ^ 32) : wd n = 0 ↔ n = 0 := by
  rw [← BitVec.toNat_inj, wd, BitVec.toNat_ofNat, Nat.mod_eq_of_lt h]
  rfl

/-- Settles O46: by the lemmas of the start, the abort and the end of a run. -/
theorem fullRun : Obligations.FullRun := by
  refine ⟨fun s range keysZero hmode hphase hrun hended => ⟨fun hrange => ?_, fun hrange => ?_⟩,
    fun s stage range kind t0 hrun hstage hrange => ?_, fun s obs kind t0 hrun => ?_,
    fun s stage range obs hrun => ⟨selfTestAbort_idle stage range hrun, selfTestEnd_idle hrun⟩⟩
  · refine ⟨_, selfTestStart_refused keysZero hmode hphase hrun hended hrange, rfl, rfl, rfl,
      fun k hk => (Dev.w_event _ _ _ _).trans (regsKept_trans (openRun_regsKept _ range (List.Subset.refl _))
        (runOver_regsKept _ 4 (by simp)) k hk), runOver_result _ _ (by omega), ?_,
      congrArg StuDev.ended (runOver_stu _ _), runOver_event _ _ _ _⟩
    exact (Dev.w_event _ _ _ _).trans ((runOver_w_ne _ _ (by decide)).trans (openRun_range _ range))
  · refine ⟨_, selfTestStart_runs keysZero hmode hphase hrun hended hrange, rfl, rfl, rfl,
      regsKept_trans (regsKept_trans (openRun_regsKept _ range (by simp)) (startRun_regsKept _ keysZero (by simp)))
        (showKeys_regsKept _ keysZero (by simp)), ?_, ?_, showKeys_keys _ keysZero, rfl, rfl, showKeys_jtag _ keysZero, ?_⟩
    · rw [Dev.f, showKeys_w_ne _ _ (by decide), startRun_w]
      exact Dev.f_putF_self _ _ 1 (by omega)
    · rw [Dev.f, showKeys_w_ne _ _ (by decide), startRun_w]
      refine (Dev.f_putF_apart _ _ 1 (by omega) (by omega)).trans ?_
      rw [Dev.f, openRun_result]
      cases s.dev.stu.requested <;> rfl
    · rw [showKeys_evr, startRun_w, Dev.w_putF_ne _ _ _ _ (by decide), openRun_regsKept _ range (List.Subset.refl _) _ (by decide)]
  · refine ⟨_, selfTestAbort_aborts hrun hstage hrange, rfl, rfl, rfl,
      fun k hk => (Dev.w_event _ _ _ _).trans (regsKept_trans (regsKept_put regsKept_refl _ (.tail _ (.head _)))
        (runOver_regsKept _ 5 (by simp)) k hk), runOver_result _ _ (by omega), ?_,
      congrArg StuDev.run (runOver_stu _ _), congrArg StuDev.ended (runOver_stu _ _), runOver_event _ _ _ _⟩
    exact (Dev.w_event _ _ _ _).trans ((runOver_w_ne _ _ (by decide)).trans (Dev.w_putN_self _ _ _))
  · obtain ⟨ev, ps, he⟩ := selfTestEnd_ends (obs := obs) hrun
    have hmask : ((((s.dev.judge obs).runOver (if failMask s.dev obs = 0 then 2 else 3)).event ev ps).w STU.FAIL_MASK = 0) ↔ failMask s.dev obs = 0 := by
      rw [Dev.w_event, runOver_w_ne _ _ (by decide), judge_mask, wd_eq_zero (failMask_lt _ _)]
    refine ⟨_, he, rfl, rfl, fun a ha => ?_, fun a ha => ?_, congrArg StuDev.run (runOver_stu _ _), congrArg StuDev.ended (runOver_stu _ _), ?_,
      hmask.trans (failMask_zero _ _)⟩
    · rw [Store.zero_byte, if_pos ha]
    · rw [Store.zero_byte, if_neg (by simp [ha])]
    · simp only [hmask]
      exact runOver_result _ _ (by split <;> omega)

end Sys2Proof.Machine
end

section
/-! SUPPORT. The choice of a boot image (R534 to R536, R538). -/
namespace Sys2Proof.Machine
-- One proof after another: proofs that wait for each other would each hold a thread and its stack.
set_option Elab.async false

/-! ### The checks of an image -/

/-- The checks look at the silicon step, the hashes and the minimum version only. -/
theorem imageReason_congr (st : Store) {d e : Dev} (a : Nat) (hstep : e.w SYS.ID_STEP = d.w SYS.ID_STEP) (hpwr : e.pwr = d.pwr) :
    imageReason st e a = imageReason st d a := by
  have hs : stepBit e = stepBit d := by rw [stepBit, Dev.f, Dev.f, hstep]; rfl
  have hk : imageKeyOk st e a = imageKeyOk st d a := by rw [imageKeyOk, hpwr]; rfl
  rw [imageReason, hs, hk, hpwr]
  rfl

theorem imageReason_zero (st : Store) (d : Dev) (a : Nat) : imageReason st d a = 0 ↔
    imageField st a 0 4 = 0x4D494E4B ∧ imageField st a 4 2 = 1 ∧ (∀ o ∈ imageReserved, st.byte (a + o) = 0)
    ∧ (imageField st a 0x30 2).testBit (stepBit d) = true ∧ imageKeyOk st d a = true ∧ d.pwr.minSecVer ≤ imageSecVer st a
    ∧ imageSigOk st a = true ∧ sha256 (st.bytes (a + 0x100) (imageLen st a)) = st.bytes (a + 0x60) 32
    ∧ st.readsPoison a (0x100 + imageLen st a) = false := by
  have hres : (imageReserved.any fun o => st.byte (a + o) != 0) = false ↔ ∀ o ∈ imageReserved, st.byte (a + o) = 0 := by
    simp only [List.any_eq_false, bne_iff_ne, ne_eq, not_not]
  have hif (c : Prop) [Decidable c] (n m : Nat) (hn : n ≠ 0) : (if c then n else m) = 0 ↔ ¬c ∧ m = 0 := by
    split <;> simp [*]
  rw [imageReason, hif _ 1 _ (by decide), hif _ 2 _ (by decide), hif _ 3 _ (by decide), hif _ 4 _ (by decide), hif _ 5 _ (by decide),
    hif _ 6 _ (by decide), hif _ 7 _ (by decide), ← hres]
  simp only [Bool.or_eq_true, bne_iff_ne, ne_eq, not_or, not_not, Bool.not_eq_true, Bool.not_eq_false, Bool.not_eq_true', Nat.not_lt, and_assoc, and_true]

/-! ### BOOT_IMAGE after a power-on run -/

/-- What is shown before the choice. -/
def Dev.openBoot (d : Dev) (st : Store) : Dev :=
  ((d.showImages st).putB MEM.STAT 8 true).putN SYS.BOOT_STAT (0 + d.pwr.minSecVer * 2 ^ 16)

theorem showImages_pwr (st : Store) (d : Dev) : (d.showImages st).pwr = d.pwr := by
  rw [Dev.showImages, Dev.putN_pwr, Dev.putN_pwr, Dev.putN_pwr, Dev.putN_pwr]

theorem openBoot_pwr (st : Store) (d : Dev) : (d.openBoot st).pwr = d.pwr := by
  rw [Dev.openBoot, Dev.putN_pwr, Dev.putB_pwr, showImages_pwr]

theorem openBoot_occ (st : Store) (d : Dev) : (d.openBoot st).occ = d.occ := by
  rw [Dev.openBoot, Dev.putN_occ, Dev.putB_occ, Dev.showImages, Dev.putN_occ, Dev.putN_occ, Dev.putN_occ, Dev.putN_occ]

theorem openBoot_tick (st : Store) (d : Dev) : (d.openBoot st).tick = d.tick := by
  rw [Dev.openBoot, Dev.putN_tick, Dev.putB_tick, Dev.showImages, Dev.putN_tick, Dev.putN_tick, Dev.putN_tick, Dev.putN_tick]

theorem openBoot_esc (st : Store) (d : Dev) : (d.openBoot st).esc = d.esc := by
  rw [Dev.openBoot, Dev.putN_esc, Dev.putB_esc, Dev.showImages, Dev.putN_esc, Dev.putN_esc, Dev.putN_esc, Dev.putN_esc]

theorem openBoot_reason (st : Store) (d : Dev) (a : Nat) : imageReason st (d.openBoot st) a = imageReason st d a := by
  refine imageReason_congr st a ?_ (openBoot_pwr st d)
  unfold Dev.openBoot Dev.showImages
  rw [Dev.w_putN_ne _ _ (by decide), Dev.w_putB_ne _ _ _ (by decide), Dev.w_putN_ne _ _ (by decide), Dev.w_putN_ne _ _ (by decide),
    Dev.w_putN_ne _ _ (by decide), Dev.w_putN_ne _ _ (by decide)]

theorem bootImage_otherPhase {s : State} (h : s.dev.pwr.phase ≠ 3) : exec (.bootImage ()) s = .next s := by
  change execBootImage () s = _
  exact onMem_of (if_pos (by simp [h]))

theorem bootImage_first {s : State} (hphase : s.dev.pwr.phase = 3) (hreq : s.dev.stu.requested = false) : exec (.bootImage ()) s =
    onMem s fun _ st d => match ((d.openBoot st).selectImage st).1 with
      | none => (st, ((d.openBoot st).selectImage st).2.showPhase2.recovery)
      | some k => (st.copyImage (slotAddr k), ((d.openBoot st).selectImage st).2.loadKeys.showPhase2.startImage st k) := by
  change execBootImage () s = _
  rw [execBootImage, onMem, onMem]
  simp only [hphase, hreq, bne_self_eq_false, Bool.false_eq_true, if_false, Bool.not_false, if_true]
  rfl

section
variable (d : Dev) (st : Store) (k : Nat)

theorem tryImage_w (j : Nat) : (d.tryImage st k).2.w j = d.w j := by rw [Dev.tryImage]; dsimp only; split <;> rfl

theorem tryImage_pwr : (d.tryImage st k).2.pwr = d.pwr := by rw [Dev.tryImage]; dsimp only; split <;> rfl

theorem refuseImage_w (r : Nat) {j : Nat} (h : j ≠ SYS.BOOT_STAT) : (d.refuseImage k r).w j = d.w j := by
  rw [Dev.refuseImage, Dev.w_event, Dev.w_putF_ne _ _ _ _ h, Dev.w_putB_ne _ _ _ h]

theorem refuseImage_pwr (r : Nat) : (d.refuseImage k r).pwr = d.pwr := rfl

theorem refuseImage_fallback (r : Nat) : (d.refuseImage k r).b SYS.BOOT_STAT 3 = true := by
  rw [Dev.b, Dev.refuseImage, Dev.w_event]
  exact (Dev.b_putF_apart _ _ _ (by omega) (by omega)).trans (Dev.b_putB_self _ _ _ (by omega))

end

section
variable {d : Dev} (st : Store) (hpref : d.pwr.prefB = false) (htrial : d.pwr.trial = 0)
include hpref htrial

theorem selectImage_fresh : d.selectImage st = if (d.tryImage st 0).1 = 0 then (some 0, (d.tryImage st 0).2) else
    if (((d.tryImage st 0).2.refuseImage 0 (d.tryImage st 0).1).tryImage st 1).1 = 0 then
      (some 1, (((d.tryImage st 0).2.refuseImage 0 (d.tryImage st 0).1).tryImage st 1).2)
    else (none, (((d.tryImage st 0).2.refuseImage 0 (d.tryImage st 0).1).tryImage st 1).2.refuseImage 1
      (((d.tryImage st 0).2.refuseImage 0 (d.tryImage st 0).1).tryImage st 1).1) := by
  have hspent : (d.pwr.trial.getLsbD 0 && !d.pwr.confirmed.getLsbD 0 && d.pwr.booted.getLsbD 0) = false := by rw [htrial]; rfl
  simp only [Dev.selectImage, hpref, Bool.toNat_false, hspent, Bool.false_eq_true, if_false, Nat.sub_zero]

theorem selectImage_preferred (h : imageReason st d 0x10000000 = 0) :
    d.selectImage st = (some 0, d.advanceTo (d.tick + imageLen st 0x10000000)) := by
  have htry : d.tryImage st 0 = (0, d.advanceTo (d.tick + imageLen st 0x10000000)) := by
    rw [Dev.tryImage, show slotAddr 0 = 0x10000000 from rfl, h]; rfl
  rw [selectImage_fresh st hpref htrial, htry]
  rfl

/-- With two invalid images none is chosen, and the flag FALLBACK is set. -/
theorem selectImage_none (h0 : imageReason st d 0x10000000 ≠ 0) (h1 : imageReason st d 0x13000000 ≠ 0) :
    ∃ (e : Dev) (r : Nat), d.selectImage st = (none, e.refuseImage 1 r) := by
  have hr1 : imageReason st ((d.tryImage st 0).2.refuseImage 0 (d.tryImage st 0).1) 0x13000000 ≠ 0 := by
    rwa [imageReason_congr st _ (refuseImage_w _ _ _ (by decide)) (refuseImage_pwr _ _ _), imageReason_congr st _ (tryImage_w _ _ _ _) (tryImage_pwr _ _ _)]
  rw [selectImage_fresh st hpref htrial, if_neg (c := (d.tryImage st 0).1 = 0) h0,
    if_neg (c := (((d.tryImage st 0).2.refuseImage 0 (d.tryImage st 0).1).tryImage st 1).1 = 0) hr1]
  exact ⟨_, _, rfl⟩

end

/-! ### What a started image shows -/

section
variable (d : Dev) (st : Store) (k : Nat)

theorem releaseCores_w (a j : Nat) : (d.releaseCores st a).w j = (d.putN SYS.WDT_STAT (2 ^ 16)).w j := rfl

theorem startImage_w {j : Nat} (hb : j ≠ SYS.BOOT_STAT) (hw : j ≠ SYS.WDT_STAT) : (d.startImage st k).w j = d.w j := by
  rw [Dev.startImage, releaseCores_w, Dev.w_putN_ne _ _ hw, Dev.w_event, Dev.w_putB_ne _ _ _ hb, Dev.w_putF_ne _ _ _ _ hb]
  rfl

theorem startImage_boot : (d.startImage st k).w SYS.BOOT_STAT = ((d.putF SYS.BOOT_STAT 0 2 k).putB SYS.BOOT_STAT 2 (d.pwr.trial.getLsbD k)).w SYS.BOOT_STAT := by
  rw [Dev.startImage, releaseCores_w, Dev.w_putN_ne _ _ (by decide), Dev.w_event]
  rfl

theorem startImage_slot : (d.startImage st k).f SYS.BOOT_STAT 0 2 = k % 2 ^ 2 := by
  rw [Dev.f, startImage_boot]
  exact (Dev.f_putB_apart _ _ _ (by omega) (by omega)).trans (Dev.f_putF_self _ _ _ (by omega))

theorem startImage_fallback : (d.startImage st k).b SYS.BOOT_STAT 3 = d.b SYS.BOOT_STAT 3 := by
  rw [Dev.b, startImage_boot]
  exact (Dev.b_putB_apart _ _ _ (by omega) (by omega)).trans (Dev.b_putF_apart _ _ _ (by omega) (by omega))

theorem startImage_watchdog : (d.startImage st k).w SYS.WDT_STAT = 0x10000#32 := by
  rw [Dev.startImage, releaseCores_w, Dev.w_putN_self]
  rfl

theorem startImage_pwr : (d.startImage st k).pwr.phase = 4 ∧ (d.startImage st k).pwr.runSecVer = imageSecVer st (slotAddr k)
    ∧ (d.startImage st k).pwr.entry = some (imageField st (slotAddr k) 0x20 8) := ⟨rfl, rfl, rfl⟩

theorem startImage_stu : (d.startImage st k).stu = d.stu := rfl

theorem startImage_occ : (d.startImage st k).occ = d.occ ++ [⟨0x0105, d.tick, d.eventBeat,
    [(k : Int), imageSecVer st (slotAddr k), (d.pwr.trial.getLsbD k).toNat]⟩] := rfl

theorem showPhase2_fallback : d.showPhase2.b SYS.BOOT_STAT 3 = d.b SYS.BOOT_STAT 3 := Dev.b_putF_apart _ _ _ (by omega) (by omega)

theorem loadKeys_w {j : Nat} (hk : j ≠ STU.KEYS) (hs : j ≠ EVR.STAT) : d.loadKeys.w j = d.w j := by
  rw [Dev.loadKeys, Dev.w_putB_ne _ _ _ hs, Dev.w_putB_ne _ _ _ hk]
  rfl

theorem openBoot_fallback : (d.openBoot st).b SYS.BOOT_STAT 3 = false := by
  rw [Dev.b, Dev.openBoot, Dev.w_putN_self, bit, wd, BitVec.getLsbD_ofNat, Nat.zero_add, Nat.testBit_mul_two_pow]
  rfl

theorem recovery_slot : d.recovery.f SYS.BOOT_STAT 0 2 = 2 := by
  rw [Dev.f, Dev.recovery, Dev.w_putB_ne _ _ _ (by decide)]
  exact Dev.f_putF_self _ _ 2 (by omega)

theorem recovery_fallback : d.recovery.b SYS.BOOT_STAT 3 = d.b SYS.BOOT_STAT 3 := by
  rw [Dev.b, Dev.recovery, Dev.w_putB_ne _ _ _ (by decide)]
  exact Dev.b_putF_apart _ _ _ (by omega) (by omega)

end

/-! ### SERVICE_IMAGE (R538) -/

theorem serviceImage_otherPhase {s : State} (addr : BitVec 48) (image : List Byte) (h : s.dev.pwr.phase ≠ 5) :
    exec (.serviceImage ⟨addr, image⟩) s = .next s := by
  change execServiceImage ⟨addr, image⟩ s = _
  exact onMem_of (if_pos (by simp [h]))

/-- An image checked in recovery. -/
def Dev.serviced (d : Dev) (st : Store) (a : Nat) : Store × Dev :=
  if imageReason st d a != 0 then (st, (d.putF SYS.BOOT_STAT 4 4 (imageReason st d a)).event 0x0106 [2, (imageReason st d a : Int)])
  else if d.pwr.entry.isSome then (st, d)
  else (st.copyImage a, ((if d.stu.requested then d else d.loadKeys).event 0x0105 [2, (imageSecVer st a : Int), 0]).releaseCores st a)

theorem serviceImage_recovery {s : State} {addr : BitVec 48} {image : List Byte} (hphase : s.dev.pwr.phase = 5) (hlo : 0x80000000 ≤ addr.toNat)
    (hhi : addr.toNat + image.length ≤ 0x14CCCCCC0) (harm : s.dev.b MEM.INJ_CTRL 0 = false) : exec (.serviceImage ⟨addr, image⟩) s =
      onMem s fun _ st d => (d.wrap HIF.SPI_STAT 16 16 1).serviced (st.write addr.toNat image) addr.toNat := by
  have hw : s.store.writeBy (s.dev.wrap HIF.SPI_STAT 16 16 1) addr.toNat image = (s.store.write addr.toNat image, s.dev.wrap HIF.SPI_STAT 16 16 1) :=
    writeBy_unarmed _ _ _ ((Dev.b_putF_ne _ _ _ _ _ (by decide)).trans harm)
  have hguard : (s.dev.pwr.phase != 5 || decide (addr.toNat < 0x80000000) || decide (0x14CCCCCC0 < addr.toNat + image.length)) = false := by
    simp [hphase]; omega
  change execServiceImage ⟨addr, image⟩ s = _
  rw [execServiceImage, onMem, onMem]
  simp only [hguard, hw, Bool.false_eq_true, if_false]
  rfl

/-! ### The two ends of the choice -/

/-- The time that reading the body takes has passed, and the keys are loaded. -/
def Dev.verified (d : Dev) (t : Nat) : Dev := (d.advanceTo t).loadKeys.showPhase2

section
variable (d : Dev) (t : Nat)

theorem verified_occ : (d.verified t).occ = d.occ := rfl
theorem verified_tick : (d.verified t).tick = max d.tick t := rfl
theorem verified_esc : (d.verified t).esc = d.esc := rfl
theorem verified_pwr : (d.verified t).pwr = d.pwr := rfl
theorem verified_keys : (d.verified t).stu.keys = true := rfl

theorem verified_fallback : (d.verified t).b SYS.BOOT_STAT 3 = d.b SYS.BOOT_STAT 3 := by
  rw [Dev.verified, showPhase2_fallback, Dev.b, loadKeys_w _ (by decide) (by decide), Dev.w_advanceTo]
  rfl

end

section
variable {s : State} (hphase : s.dev.pwr.phase = 3) (hreq : s.dev.stu.requested = false) (hpref : s.dev.pwr.prefB = false)
  (htrial : s.dev.pwr.trial = 0)
include hphase hreq hpref htrial

/-- The preferred image is valid: it starts. -/
theorem bootImage_starts (h0 : imageReason s.store s.dev 0x10000000 = 0) : exec (.bootImage ()) s = .next { s with
    store := s.store.copyImage 0x10000000
    dev := ((s.dev.openBoot s.store).verified ((s.dev.openBoot s.store).tick + imageLen s.store 0x10000000)).startImage s.store 0 } := by
  refine (bootImage_first hphase hreq).trans (onMem_of ?_)
  rw [selectImage_preferred s.store ((congrArg PowerDev.prefB (openBoot_pwr s.store s.dev)).trans hpref)
    ((congrArg PowerDev.trial (openBoot_pwr s.store s.dev)).trans htrial) ((openBoot_reason _ _ _).trans h0)]
  rfl

/-- Neither image is valid: recovery. -/
theorem bootImage_recovers (h0 : imageReason s.store s.dev 0x10000000 ≠ 0) (h1 : imageReason s.store s.dev 0x13000000 ≠ 0) :
    ∃ (e : Dev) (r : Nat), exec (.bootImage ()) s = .next { s with dev := (e.refuseImage 1 r).showPhase2.recovery } := by
  obtain ⟨e, r, hsel⟩ := selectImage_none s.store ((congrArg PowerDev.prefB (openBoot_pwr s.store s.dev)).trans hpref)
    ((congrArg PowerDev.trial (openBoot_pwr s.store s.dev)).trans htrial) (by rwa [openBoot_reason]) (by rwa [openBoot_reason])
  refine ⟨e, r, (bootImage_first hphase hreq).trans (onMem_of ?_)⟩
  rw [hsel]

/-- What starting the preferred image leaves. -/
theorem bootImage_preferred (h0 : imageReason s.store s.dev 0x10000000 = 0) :
    ∃ t, exec (.bootImage ()) s = .next t ∧ t.cfg = s.cfg ∧ t.bus = s.bus ∧ t.dev.pwr.phase = 4 ∧ t.dev.stu.keys = true
      ∧ t.store = s.store.copyImage 0x10000000
      ∧ t.dev.f SYS.BOOT_STAT 0 2 = 0 ∧ t.dev.b SYS.BOOT_STAT 3 = false ∧ t.dev.w SYS.WDT_STAT = 0x10000#32
      ∧ t.dev.pwr.runSecVer = imageSecVer s.store 0x10000000
      ∧ t.dev.pwr.entry = some (imageField s.store 0x10000000 0x20 8)
      ∧ t.dev.occ = s.dev.occ ++ [⟨0x0105, max s.dev.tick (s.dev.tick + imageLen s.store 0x10000000), s.dev.eventBeat,
          [0, (imageSecVer s.store 0x10000000 : Int), 0]⟩] := by
  refine ⟨_, bootImage_starts hphase hreq hpref htrial h0, rfl, rfl, ?_⟩
  have hocc : ((s.dev.openBoot s.store).verified ((s.dev.openBoot s.store).tick + imageLen s.store 0x10000000)).occ = s.dev.occ := by
    rw [verified_occ, openBoot_occ]
  have htick : ((s.dev.openBoot s.store).verified ((s.dev.openBoot s.store).tick + imageLen s.store 0x10000000)).tick
      = max s.dev.tick (s.dev.tick + imageLen s.store 0x10000000) := by rw [verified_tick, openBoot_tick]
  have hesc : ((s.dev.openBoot s.store).verified ((s.dev.openBoot s.store).tick + imageLen s.store 0x10000000)).esc = s.dev.esc := by
    rw [verified_esc, openBoot_esc]
  have htr : ((s.dev.openBoot s.store).verified ((s.dev.openBoot s.store).tick + imageLen s.store 0x10000000)).pwr.trial = 0 := by
    rw [verified_pwr, openBoot_pwr, htrial]
  have hkeys := verified_keys (s.dev.openBoot s.store) ((s.dev.openBoot s.store).tick + imageLen s.store 0x10000000)
  have hfall := verified_fallback (s.dev.openBoot s.store) ((s.dev.openBoot s.store).tick + imageLen s.store 0x10000000)
  rw [openBoot_fallback] at hfall
  generalize (s.dev.openBoot s.store).verified ((s.dev.openBoot s.store).tick + imageLen s.store 0x10000000) = e at *
  obtain ⟨hp4, hver, hentry⟩ := startImage_pwr e s.store 0
  have hbeat : e.eventBeat = s.dev.eventBeat := by rw [Dev.eventBeat, hesc]; rfl
  refine ⟨hp4, (congrArg StuDev.keys (startImage_stu e s.store 0)).trans hkeys, by dsimp only, startImage_slot e s.store 0,
    (startImage_fallback e s.store 0).trans hfall, startImage_watchdog e s.store 0, hver, hentry, ?_⟩
  rw [startImage_occ, hocc, htick, hbeat, htr]
  rfl

end

theorem serviced_refused {d : Dev} {st : Store} {a r : Nat} (h : imageReason st d a = r) (hr : r ≠ 0) :
    d.serviced st a = (st, (d.putF SYS.BOOT_STAT 4 4 r).event 0x0106 [2, (r : Int)]) := by
  rw [Dev.serviced, h, if_pos (by simp [hr])]

theorem serviced_runs {d : Dev} {st : Store} {a : Nat} (h : imageReason st d a = 0) (hentry : d.pwr.entry = none) :
    d.serviced st a = (st.copyImage a,
      ((if d.stu.requested then d else d.loadKeys).event 0x0105 [2, (imageSecVer st a : Int), 0]).releaseCores st a) := by
  rw [Dev.serviced, if_neg (by simp [h]), if_neg (by simp [hentry])]

/-- Settles O51: the checks of an image one by one, the choice between the slots, and the image of the service port. -/
theorem bootChoice : Obligations.BootChoice := by
  refine ⟨imageReason_zero, fun s hphase hreq hpref htrial h0 => bootImage_preferred hphase hreq hpref htrial h0,
    fun s hphase hreq hpref htrial h0 h1 => ?_, fun _ => bootImage_otherPhase,
    fun _ addr image => serviceImage_otherPhase addr image, fun s addr image hphase hlo hhi harm => ?_⟩
  · obtain ⟨e, r, he⟩ := bootImage_recovers hphase hreq hpref htrial h0 h1
    refine ⟨_, he, rfl, rfl, rfl, rfl, recovery_slot _, ?_, Dev.b_putB_self _ _ _ (by omega)⟩
    rw [recovery_fallback, showPhase2_fallback]
    exact refuseImage_fallback _ _ _
  · have hreason : imageReason (s.store.write addr.toNat image) (s.dev.wrap HIF.SPI_STAT 16 16 1) addr.toNat
        = imageReason (s.store.write addr.toNat image) s.dev addr.toNat := imageReason_congr _ _ (Dev.w_putF_ne _ _ _ _ (by decide)) rfl
    have hexec := serviceImage_recovery hphase hlo hhi harm
    exact ⟨fun hr => hexec.trans (onMem_of (serviced_refused hreason hr)),
      fun hr hentry => hexec.trans (onMem_of (serviced_runs (hreason.trans hr) hentry))⟩

end Sys2Proof.Machine
end

section
/-! SUPPORT. The commit protocol, the lock of a page, and UART messages (R503 to R520). -/
namespace Sys2Proof.Machine
-- One proof after another: proofs that wait for each other would each hold a thread and its stack.
set_option Elab.async false

/-! ### Pages merged into a register map (R503) -/

theorem Assoc.get_below {α : Type} (dflt : α) {l : List (Nat × α)} {a k : Nat} (hs : Assoc.sortedFrom l a = true) (hk : k < a) :
    Assoc.get dflt l k = dflt := by
  induction l generalizing a with
  | nil => rfl
  | cons e l ih =>
    obtain ⟨j, v⟩ := e
    rw [Assoc.sortedFrom, Bool.and_eq_true, decide_eq_true_eq] at hs
    obtain ⟨hj, hrest⟩ := hs
    rw [Assoc.get, if_neg (by omega)]
    exact ih hrest (by omega)

/-- A value looked up after entries were put in: the entry's, else what stood there. -/
theorem get_putAll {es : List (Nat × Word)} {a : Nat} (hs : Assoc.sortedFrom es a = true) (m : RegMap) (k : Nat) :
    Assoc.get (regReset k) (putAll es m) k = Assoc.get (Assoc.get (regReset k) m k) es k := by
  induction es generalizing m a with
  | nil => rfl
  | cons e es ih =>
    obtain ⟨j, v⟩ := e
    rw [Assoc.sortedFrom, Bool.and_eq_true] at hs
    obtain ⟨-, hrest⟩ := hs
    refine (ih hrest (Assoc.set (regReset j) m j v)).trans ?_
    by_cases hk : j = k
    · subst hk
      rw [Assoc.get_set_self, Assoc.get, if_pos rfl]
      exact Assoc.get_below _ hrest (Nat.lt_succ_self j)
    · rw [Assoc.get_set_ne _ _ _ _ (Ne.symm hk), Assoc.get, if_neg hk]

theorem get_mergePages (p : Nat) {src : RegMap} (hsrc : RegMap.Ok src) (dst : RegMap) (k : Nat) :
    Assoc.get (regReset k) (mergePages [p] src dst) k = if keyPage k = p then Assoc.get (regReset k) src k else Assoc.get (regReset k) dst k := by
  obtain ⟨hsorted, -⟩ := (Bool.and_eq_true _ _).mp hsrc
  have hin : [p].contains (keyPage k) = decide (keyPage k = p) := by simp
  refine (get_putAll (Assoc.sortedFrom_filter _ hsorted) _ k).trans ?_
  rw [Assoc.get_filter _ fun j => [p].contains (keyPage j), hin]
  by_cases hk : keyPage k = p
  · rw [if_pos (decide_eq_true hk), if_pos hk, offPages, Assoc.get_filter _ fun j => !([p].contains (keyPage j)), if_neg (by simp [hk])]
  · rw [if_neg (by simp [hk]), if_neg hk, offPages, Assoc.get_filter _ fun j => !([p].contains (keyPage j)), if_pos (by simp [hk])]

/-! ### What an application does to the maps -/

section
variable (s : State)

theorem recheckWheels_maps : s.recheckWheels.cfg.live = s.cfg.live ∧ s.recheckWheels.cfg.shadow = s.cfg.shadow := by
  unfold State.recheckWheels
  extract_lets u
  have hfold (es : List (Nat × Word)) (s : State) : (es.foldl (fun (s : State) e =>
      ({ s with cfg := s.cfg.dropPending e.1 } : State).refusePage e.1 ⟨2, 0xE2, e.1⟩) s).cfg.live = s.cfg.live
      ∧ (es.foldl (fun (s : State) e => ({ s with cfg := s.cfg.dropPending e.1 } : State).refusePage e.1 ⟨2, 0xE2, e.1⟩) s).cfg.shadow
        = s.cfg.shadow := by
    induction es generalizing s with
    | nil => exact ⟨rfl, rfl⟩
    | cons e es ih => exact ih _
  have hu : u.cfg.live = s.cfg.live ∧ u.cfg.shadow = s.cfg.shadow := hfold _ s
  split
  · exact hu
  · split
    · exact hu
    · exact hu

theorem applyPages_maps (group : Bool) (ps : List Nat) :
    (s.applyPages group ps).cfg.live = mergePages ps s.cfg.shadow s.cfg.live ∧ (s.applyPages group ps).cfg.shadow = s.cfg.shadow := by
  unfold State.applyPages
  extract_lets old c c' st d d' _ d'' u
  have hu : u.cfg.live = mergePages ps s.cfg.shadow s.cfg.live ∧ u.cfg.shadow = s.cfg.shadow :=
    foldl_headerApplied s.dev.esc.beat group ps { old with live := mergePages ps old.shadow old.live }
  split
  · exact ⟨(recheckWheels_maps u).1.trans hu.1, (recheckWheels_maps u).2.trans hu.2⟩
  · exact hu

theorem applyContents_live (addr : Nat) (es : List (Nat × Word)) : (s.applyContents addr es).cfg.live
    = mergePages (contentPages es) (mergePages (contentPages es) (es.filter (fun e => keyOff e.1 != 0x20)) s.cfg.shadow) s.cfg.live := by
  have hw := (applyPages_maps { s with cfg := { s.cfg with
    shadow := mergePages (contentPages es) (es.filter (fun e => keyOff e.1 != 0x20)) s.cfg.shadow } } (addr = SYS.GLOBAL_COMMIT) (contentPages es)).1
  unfold State.applyContents
  dsimp only
  split <;> exact hw

end

/-- Settles O30: LOCK writes one bit of one header register, and an application from the journal takes the shadow whatever that bit holds. -/
theorem pageLock : Obligations.PageLock := by
  refine ⟨fun s page value hpage => ?_, fun p => ?_, fun s p addr b es => ?_⟩
  · have hlock : exec (.lock page value) s = .next { s with
        cfg := s.cfg.putH (hdrSTAT page.toNat) (setBit (s.cfg.h (hdrSTAT page.toNat)) 3 (fld value 0 16 != 0x4C0B)), bus := .done 0 } := by
      change execLock page value s = _
      exact if_neg (by simp [Option.isNone_iff_eq_none, ← Option.not_isSome_iff_eq_none, hpage])
    refine ⟨_, hlock, rfl, by rw [Cfg.h_putH_self], ?_⟩
    rw [Cfg.h_putH_self]
    congr 1
    simp [bne, decide_not, beq_eq_decide]
  · have hclear : State.reset.cfg.h (hdrSTAT p) = 0 := rfl
    rw [hclear]
    rfl
  · rw [applyContents_live, applyContents_live]
    rfl

/-! ### Requests of the commit protocol (R505, R506, R511) -/

theorem noPage_busError {s : State} {page : Word} (value : Word) (h : (pageAt page.toNat).isNone = true) :
    exec (.commit page value) s = .next { s with bus := .error } ∧ exec (.discard page value) s = .next { s with bus := .error }
    ∧ exec (.mark page value) s = .next { s with bus := .error } ∧ exec (.lock page value) s = .next { s with bus := .error } :=
  ⟨if_pos h, if_pos h, if_pos h, if_pos h⟩

section
variable {s : State} {page : Word} (hpage : (pageAt page.toNat).isSome = true)
include hpage

theorem onPage (t u : Out) : (if (pageAt page.toNat).isNone then t else u) = u := by
  rw [if_neg]
  simp [Option.isSome_iff_ne_none.mp hpage]

end

/-- A page of the register map starts at 0x40000000 or above. -/
theorem pageAt_base {p : Nat} (h : (pageAt p).isSome = true) : 0x40000000 ≤ p := by
  obtain ⟨q, hq⟩ := Option.isSome_iff_exists.mp h
  have hbase : q.base = p := by simpa using List.find?_some hq
  have hall : ∀ q ∈ pages, 0x40000000 ≤ q.base := by decide
  exact hbase ▸ hall q (List.mem_of_find?_eq_some hq)


/-! The fields of SHADOW_CTRL as they are put. -/

section
variable (c : Cfg) (p : Nat)

theorem putMark_stat (value : Word) : (c.putMark p value).h (hdrSTAT p) = setBit (c.h (hdrSTAT p)) 1 (bit value 2 && pageGroup p) := by
  rw [Cfg.putMark, Cfg.h_putH_self, Cfg.h_putH_ne]
  unfold hdrSTAT hdrSHADOW_CTRL
  omega

theorem putTiming_stat (at_ wheel : Nat) : (c.putTiming p at_ wheel).h (hdrSTAT p) = c.h (hdrSTAT p) := by
  rw [Cfg.putTiming, Cfg.h_putH_ne]
  unfold hdrSTAT hdrSHADOW_CTRL
  omega

end

/-- The configuration after the fields of SHADOW_CTRL were put, the timing too unless a commit is pending. -/
def Cfg.keptTiming (c : Cfg) (p : Nat) (value : Word) : Cfg :=
  if (c.due.find? (fun e => e.1 = p)).isSome then c.putMark p value else (c.putMark p value).putTiming p (fld value 4 2) (fld value 8 5)

theorem keptTiming_maps (c : Cfg) (p : Nat) (value : Word) : (c.keptTiming p value).live = c.live ∧ (c.keptTiming p value).shadow = c.shadow := by
  unfold Cfg.keptTiming
  split <;> exact ⟨rfl, rfl⟩

section
variable {s : State} {p : Nat} {value : Word} (hstu : p ≠ pageSTU) (hmode : s.dev.mode ≠ 4)
include hstu hmode

/-- COMMIT with AT 3 of a page other than STU is refused. -/
theorem requestCommit_badAt (hat : fld value 4 2 = 3) :
    s.requestCommit p value = State.refusePage { s with cfg := s.cfg.keptTiming p value } p ⟨2, 0xE1, p⟩ := by
  unfold State.requestCommit
  extract_lets at_ wheel held t kept
  have hkept : kept = { s with cfg := s.cfg.keptTiming p value } := by
    unfold Cfg.keptTiming
    show (if held then t else { t with cfg := t.cfg.putTiming p at_ wheel }) = _
    split <;> rfl
  rw [if_neg (by simp [hmode]), if_neg (by simp [hstu]), if_pos hat, hkept]

section
variable (h3 : fld value 4 2 ≠ 3) (h2 : fld value 4 2 ≠ 2) (hlock : bit (s.cfg.h (hdrSTAT p)) 3 = false)
include h3 h2 hlock

/-- COMMIT of an unlocked page at once: it is checked and applied. -/
theorem requestCommit_now (hdelay : delayedAt s.dev (fld value 4 2) = 0) : s.requestCommit p value =
    State.commitPage { s with cfg := (s.cfg.putMark p value).putTiming p (fld value 4 2) (fld value 8 5) } p := by
  have hopen : bit ((s.cfg.putMark p value).h (hdrSTAT p)) 3 = false := by
    rw [putMark_stat, bit_setBit_ne _ _ (by omega) (by omega), hlock]
  unfold State.requestCommit
  extract_lets at_ wheel held t kept
  rw [if_neg (by simp [hmode]), if_neg (by simp [hstu]), if_neg h3, if_neg (by simp [show at_ ≠ 2 from h2]), if_neg (by simp [t, hopen])]
  exact if_pos hdelay

/-- COMMIT of an unlocked page that waits for its boundary. -/
theorem requestCommit_waits (hdelay : delayedAt s.dev (fld value 4 2) ≠ 0) : ∃ c : Cfg, c.live = s.cfg.live ∧ c.shadow = s.cfg.shadow ∧
    s.requestCommit p value = { s with cfg := (c.putH (hdrCOMMIT_STAT p) 1).putH (hdrSTAT p) (setBit (c.h (hdrSTAT p)) 2 true) } := by
  have hopen : bit ((s.cfg.putMark p value).h (hdrSTAT p)) 3 = false := by
    rw [putMark_stat, bit_setBit_ne _ _ (by omega) (by omega), hlock]
  unfold State.requestCommit
  extract_lets at_ wheel held t kept u a c prior c2 c3
  rw [if_neg (by simp [hmode]), if_neg (by simp [hstu]), if_neg h3, if_neg (by simp [show at_ ≠ 2 from h2]), if_neg (by simp [t, hopen]), if_neg hdelay]
  exact ⟨c2, rfl, rfl, rfl⟩

end

end

/-- A page commit without a failure: the page takes its shadow. -/
theorem commitPage_maps {s : State} {p : Nat} (h : s.pageFail [p] s.dev.mode p = none) :
    (s.commitPage p).cfg.live = mergePages [p] s.cfg.shadow s.cfg.live := by
  unfold State.commitPage
  rw [h]
  unfold State.journalCommit
  dsimp only
  split <;> exact (applyPages_maps s false [p]).1

theorem requestDiscard_takes (s : State) (p : Nat) (value : Word) : ∃ c : Cfg, c.live = s.cfg.live ∧ c.shadow = mergePages [p] s.cfg.live s.cfg.shadow
    ∧ s.requestDiscard p value = { s with cfg := c.putH (hdrSTAT p) (setBit (c.h (hdrSTAT p)) 0 false) } := by
  unfold State.requestDiscard
  extract_lets c held c' c2 c3
  have hmaps : c'.live = s.cfg.live ∧ c'.shadow = s.cfg.shadow := by
    show (if held then c.putH _ _ else c).live = _ ∧ (if held then c.putH _ _ else c).shadow = _
    split <;> exact ⟨rfl, rfl⟩
  obtain ⟨hlive, hshadow⟩ := hmaps
  refine ⟨c3, hlive, ?_, rfl⟩
  show mergePages [p] c'.live c'.shadow = _
  rw [hlive, hshadow]

/-- A group commit with nothing marked. -/
theorem commitGroup_nothing {s : State} (mode value : Nat) (h : s.groupPages = []) :
    (s.commitGroup mode value).1 = { s with cfg := s.cfg.putH SYS.GLOBAL_STAT 0 } := by
  unfold State.commitGroup
  rw [h]
  rfl


/-! ### The commands -/

section
variable {s : State} {page : Word} (hpage : (pageAt page.toNat).isSome = true)
include hpage

theorem commit_requests {value : Word} (h1 : bit value 1 = false) (h0 : bit value 0 = true) :
    exec (.commit page value) s = .next { s.requestCommit page.toNat value with bus := .done 0 } := by
  change execCommit page value s = _
  rw [execCommit, onPage hpage, State.shadowCtrl, if_neg (by simp [h1]), if_pos h0]

theorem discard_requests {value : Word} (h1 : bit value 1 = true) (hheld : s.dev.mode ≠ 4 ∨ pageJournaled page.toNat = false) :
    exec (.discard page value) s = .next { s.requestDiscard page.toNat value with bus := .done 0 } := by
  change execDiscard page value s = _
  rw [execDiscard, onPage hpage, State.shadowCtrl, if_pos h1, if_neg]
  simpa [imp_iff_not_or] using hheld

theorem mark_requests {value : Word} (h1 : bit value 1 = false) (h0 : bit value 0 = false) (hheld : s.dev.mode ≠ 4 ∨ pageJournaled page.toNat = false) :
    exec (.mark page value) s = .next { s.requestMark page.toNat value with bus := .done 0 } := by
  change execMark page value s = _
  rw [execMark, onPage hpage, State.shadowCtrl, if_neg (by simp [h1]), if_neg (by simp [h0]), if_neg]
  simpa [imp_iff_not_or] using hheld

end

theorem refusal_code (rule p : Nat) : fld (wd (2 + CommitFail.fields ⟨2, rule, p⟩)) 0 2 = 2 := by
  have hfields : CommitFail.fields ⟨2, rule, p⟩ % 4 = 0 := by
    unfold CommitFail.fields
    rw [if_neg (by simp)]
    dsimp only
    split <;> omega
  rw [fld, wd, BitVec.toNat_ofNat]
  omega

/-- The event of a refusal names the page by its index in the register space. -/
theorem refusePage_occ (s : State) {p : Nat} (hp : 0x40000000 ≤ p) (code rule page : Nat) : (s.refusePage p ⟨code, rule, page⟩).dev.occ
    = s.dev.occ ++ [⟨0x0101, s.dev.tick, s.dev.eventBeat, [((p - 0x40000000) / 4096 : Nat), code, rule]⟩] := by
  have hindex : ((p : Int) - 0x40000000) / 4096 = (((p - 0x40000000) / 4096 : Nat) : Int) := by omega
  rw [← hindex]
  exact event_occ_of (Dev.irq_occ _ _ _) (Dev.irq_tick _ _ _) (Dev.irq_esc _ _ _) _ _

theorem requestMark_maps (s : State) (p : Nat) (value : Word) : (s.requestMark p value).cfg.live = s.cfg.live
    ∧ (s.requestMark p value).cfg.shadow = s.cfg.shadow
    ∧ bit ((s.requestMark p value).cfg.h (hdrSTAT p)) 1 = (bit value 2 && pageGroup p) := by
  unfold State.requestMark
  dsimp only
  split
  · exact ⟨rfl, rfl, by rw [putMark_stat, bit_setBit _ _ (by omega)]⟩
  · exact ⟨rfl, rfl, by rw [putTiming_stat, putMark_stat, bit_setBit _ _ (by omega)]⟩

/-- The maps of a page commit as values of registers. -/
theorem w_of_merge {c : Cfg} {live shadow : RegMap} {p : Nat} (h : c.live = mergePages [p] shadow live) (hs : RegMap.Ok shadow) (k : Nat) :
    c.w k = if keyPage k = p then Assoc.get (regReset k) shadow k else Assoc.get (regReset k) live k := by
  rw [Cfg.w, h]
  exact get_mergePages p hs live k

theorem sh_of_merge {c : Cfg} {live shadow : RegMap} {p : Nat} (h : c.shadow = mergePages [p] live shadow) (hs : RegMap.Ok live) (k : Nat) :
    c.sh k = if keyPage k = p then Assoc.get (regReset k) live k else Assoc.get (regReset k) shadow k := by
  rw [Cfg.sh, h]
  exact get_mergePages p hs shadow k

/-- A group commit on a module without crown: nothing is marked, nothing is refused. -/
theorem globalCommit_nothing {s : State} (hnone : s.groupPages = []) (hmode : s.dev.mode ≠ 4) (hcrown : s.dev.crown = false) :
    exec (.globalCommit 0x6C0A0001#32) s = .next { s with
      bus := .done 0, cfg := Cfg.putH { s.cfg with group := none } SYS.GLOBAL_STAT 0 } := by
  have hstand : s.standbyGroup = false := by simp [State.standbyGroup, hmode]
  have hat : fld (0x6C0A0001#32 : Word) 4 2 = 0 := rfl
  have hdelay : delayedAt s.dev 0 = 0 := by simp [delayedAt, hcrown]
  have hreq : s.requestGroup 0 (fld (0x6C0A0001#32 : Word) 8 5) = { s with cfg := Cfg.putH { s.cfg with group := none } SYS.GLOBAL_STAT 0 } := by
    unfold State.requestGroup
    rw [if_neg (by omega), if_neg (by simp), if_pos hdelay]
    exact commitGroup_nothing _ _ hnone
  change execGlobalCommit _ s = _
  unfold execGlobalCommit
  rw [if_neg (by decide), hstand, if_neg (by decide), hat, hreq]

/-- Settles O31: each request on its own, with what an application does to the maps. -/
theorem commitProtocol : Obligations.CommitProtocol := by
  refine ⟨fun s page value => noPage_busError value, fun s page hpage hstu hmode => ⟨?_, fun hlock hdue => ?_⟩,
    fun s page k hok hpage hstu hmode hcrown hlock hpass => ?_, fun s page k hok hpage hheld => ?_, fun s page hpage hheld => ?_,
    fun s value hkey => ?_, fun s hnone hmode hcrown => ?_⟩
  · have hreq := commit_requests (s := s) (value := 0x31#32) hpage rfl rfl
    rw [requestCommit_badAt hstu hmode rfl] at hreq
    obtain ⟨hlive, hshadow⟩ := keptTiming_maps s.cfg page.toNat 0x31#32
    refine ⟨_, hreq, rfl, hlive, hshadow, ?_, refusePage_occ _ (pageAt_base hpage) _ _ _⟩
    exact (congrArg (fld · 0 2) (Cfg.h_putH_self _ _ _)).trans (refusal_code 0xE1 page.toNat)
  · have hreq := commit_requests (s := s) (value := 0x11#32) hpage rfl rfl
    obtain ⟨c, hlive, hshadow, he⟩ := requestCommit_waits hstu hmode (value := 0x11#32) (by decide) (by decide) hlock (by simp [delayedAt, fld])
    rw [he] at hreq
    refine ⟨_, hreq, rfl, rfl, hlive, hshadow, ?_, ?_⟩
    · exact (congrArg (bit · 2) (Cfg.h_putH_self _ _ _)).trans (bit_setBit _ _ (by omega))
    · refine (Cfg.h_putH_ne _ _ ?_).trans (Cfg.h_putH_self _ _ _)
      unfold hdrCOMMIT_STAT hdrSTAT
      omega
  · have hreq := commit_requests (s := s) (value := 1#32) hpage rfl rfl
    rw [requestCommit_now hstu hmode (by decide) (by decide) hlock (by simp [delayedAt, hcrown, fld])] at hreq
    have hw := w_of_merge (commitPage_maps hpass) hok.2 k
    refine ⟨_, hreq, rfl, fun hk => ?_, fun hk => ?_⟩
    · exact hw.trans (if_pos hk)
    · exact hw.trans (if_neg hk)
  · have hreq := discard_requests (s := s) (value := 2#32) hpage rfl hheld
    obtain ⟨c, hlive, hshadow, he⟩ := requestDiscard_takes s page.toNat 2#32
    rw [he] at hreq
    have hsh := sh_of_merge hshadow hok.1 k
    refine ⟨_, hreq, rfl, rfl, rfl, hlive, fun hk => hsh.trans (if_pos hk), fun hk => hsh.trans (if_neg hk), ?_⟩
    exact (congrArg (bit · 0) (Cfg.h_putH_self _ _ _)).trans (bit_setBit _ _ (by omega))
  · have hreq := mark_requests (s := s) (value := 4#32) hpage rfl rfl hheld
    obtain ⟨hlive, hshadow, hbit⟩ := requestMark_maps s page.toNat 4#32
    exact ⟨_, hreq, rfl, rfl, rfl, hlive, hshadow, hbit⟩
  · change execGlobalCommit value s = _
    unfold execGlobalCommit
    rw [if_pos]
    simpa [bne_iff_ne] using hkey
  · exact ⟨_, globalCommit_nothing hnone hmode hcrown, rfl, rfl, rfl, Cfg.h_putH_self _ _ _, rfl⟩

end Sys2Proof.Machine
end

section
/-! SUPPORT. UART messages (R520). -/
namespace Sys2Proof.Machine
-- One proof after another: proofs that wait for each other would each hold a thread and its stack.
set_option Elab.async false

theorem messageLen_nil (c : Cfg) (u : Nat) : messageLen c u [] = none := by
  unfold messageLen
  dsimp only
  split
  · rfl
  · exact if_pos (by simp)

section
variable (c : Cfg) (u : Nat) (d : Dev)

theorem uartSplit_nil (fuel : Nat) : d.uartSplit c u fuel [] = (d, []) := by
  cases fuel with
  | zero => rfl
  | succ k => rw [Dev.uartSplit, messageLen_nil]

theorem uartSplit_waits {l : List RxByte} (h : messageLen c u l = none) (fuel : Nat) : d.uartSplit c u fuel l = (d, l) := by
  cases fuel with
  | zero => rfl
  | succ k => rw [Dev.uartSplit, h]

theorem uartSplit_whole {l : List RxByte} (h : messageLen c u l = some l.length) (hl : l ≠ []) :
    d.uartSplit c u l.length l = ((d.advanceTo (messageEnd c u l)).uartTake c u l, []) := by
  obtain ⟨b, t, rfl⟩ := List.exists_cons_of_ne_nil hl
  rw [List.length_cons, Dev.uartSplit, h]
  dsimp only
  rw [List.take_length, List.drop_length, uartSplit_nil]

theorem uartTake_bad {m : List RxByte} (h : m.all (rxOk c u) = false) : d.uartTake c u m = d.sat (UART.UERR_CNT u) 0 16 1 := by
  unfold Dev.uartTake
  exact if_pos (by simp [h])

theorem uartZda_off (bytes : List Byte) (h : c.b TBU.PPSIN_CFG 0 = false) : d.uartZda c u bytes = d := by
  rw [Dev.uartZda, if_neg (by simp [h])]

theorem uartTake_good {b : RxByte} {l : List RxByte} (h : (b :: l).all (rxOk c u) = true) (hpps : c.b TBU.PPSIN_CFG 0 = false) :
    d.uartTake c u (b :: l) = d.capture c (c.f (UART.USRC u) 0 16) (c.f (UART.UCFG u) 6 2) b.start (if 255 < (b :: l).length then 4 else 0)
      (((b :: l).map (·.value)).take 255) := by
  unfold Dev.uartTake
  dsimp only
  rw [if_neg (by simp [h]), uartZda_off _ _ _ _ hpps, List.length_map]
  rfl

end

section
variable {s : State} {u : Fin 12} {bytes : List RxByte}

theorem uartMessage_off (h : s.cfg.b (UART.UCFG u.val) 0 = false) : exec (.uartMessage u bytes () ()) s = .next s := by
  change execUartMessage u bytes () () s = _
  exact onDev_of (if_pos (by simp [h]))

/-- What an enabled UART makes of the characters it holds. -/
theorem uartMessage_on {e : Dev} {rest : List RxByte} (h : s.cfg.b (UART.UCFG u.val) 0 = true)
    (hsplit : s.dev.uartSplit s.cfg u.val ((Assoc.get {} s.dev.uarts u.val : UartDev).rx ++ bytes).length
      ((Assoc.get {} s.dev.uarts u.val : UartDev).rx ++ bytes) = (e, rest)) :
    exec (.uartMessage u bytes () ()) s = .next { s with
      dev := ({ e with uarts := Assoc.set {} e.uarts u.val { (Assoc.get {} e.uarts u.val : UartDev) with rx := rest } } : Dev).putF
        (UART.USTAT u.val) 8 8 (satU 8 rest.length) } := by
  change execUartMessage u bytes () () s = _
  refine onDev_of ((if_neg (by simp [h])).trans ?_)
  dsimp only
  rw [hsplit]

theorem uartTx_idle {value : Word} (h : (Assoc.get {} s.dev.uarts u.val : UartDev).tx = []) : exec (.uartTx u value) s = .next { s with
    bus := .done 0
    dev := ({ s.dev with uarts := Assoc.set {} s.dev.uarts u.val { (Assoc.get {} s.dev.uarts u.val : UartDev) with
      tx := [(BitVec.ofNat 8 value.toNat, s.dev.tick + bitTicks s.cfg u.val (frameBits s.cfg u.val))] } } : Dev).putF (UART.USTAT u.val) 0 8 1 } := by
  change execUartTx u value s = _
  refine onWrite_of ?_
  simp only [h, List.filter_nil, List.getLast?_nil, List.nil_append, List.length_singleton]
  rfl

end

/-- Settles O32: by the number of characters that end a message, and by their checks. -/
theorem uartCommands : Obligations.UartCommands := by
  intro s u bytes x
  refine ⟨uartMessage_off, fun hon hwait => uartMessage_on hon (uartSplit_waits _ _ _ hwait _), fun hon hrx hne hlen => ?_,
    fun d => uartTake_bad _ _ d, fun d b l he hall hpps => ?_, fun value => uartTx_idle⟩
  · have hsplit := uartSplit_whole s.cfg u.val s.dev hlen hne
    refine uartMessage_on hon ?_
    rwa [show (Assoc.get {} s.dev.uarts u.val : UartDev).rx = [] from hrx, List.nil_append]
  · subst he
    exact uartTake_good _ _ d hall hpps

end Sys2Proof.Machine
end

section
/-! SUPPORT. The order of a boundary (R41, R514): the transition, the commits, the registers of the escapement. -/
namespace Sys2Proof.Machine
-- One proof after another: proofs that wait for each other would each hold a thread and its stack.
set_option Elab.async false

/-! ### What a frame that leaves does not touch -/

/-- The same for an array of arrays. -/
theorem apart_of_above2 {b i j : Nat} (h : ESC.BEAT_SLIP < b) : b + i + j ≠ SYS.MODE ∧ b + i + j ≠ ESC.BEAT_SLIP := by
  have hmode : SYS.MODE < ESC.BEAT_SLIP := by decide
  omega

section
variable (d : Dev) (c : Cfg)

theorem putPri_edgeKept (n p : Nat) (x : PriDev) : EdgeKept d (d.putPri n p x) := .other (.refl d)
theorem putCan_edgeKept (n : Nat) (x : CanDev) : EdgeKept d (d.putCan n x) := .other (.refl d)
theorem putPort_edgeKept (n : Nat) (x : EthDev) : EdgeKept d (d.putPort n x) := .other (.refl d)
theorem putConn_edgeKept (k : Nat) (x : ConnDev) : EdgeKept d (d.putConn k x) := .other (.refl d)

theorem canStart_edgeKept (n : Nat) (won : Bool) (sub : Nat) : EdgeKept d (d.canStart c n won sub) := by
  unfold Dev.canStart
  dsimp only
  have he (x : PriDev) (p v : Nat) : EdgeKept d ((d.putPri n p x).putF (CAN.PRI_STAT n p) 0 2 v) :=
    .putF (putPri_edgeKept d n p x) (apart_of_above2 (by decide))
  refine .ite (.refl d) (.ite ?_ (.ite ((he _ _ _).trans (putCan_edgeKept _ _ _)) (he _ _ _)))
  split
  · exact .refl d
  · exact putCan_edgeKept d _ _

theorem priRequest_edgeKept (n p : Nat) (data : List Byte) : EdgeKept d (d.priRequest c n p data) := by
  unfold Dev.priRequest
  dsimp only
  have he (x : PriDev) : EdgeKept d ((d.putPri n p x).putF (CAN.PRI_STAT n p) 0 2 1) :=
    .putF (putPri_edgeKept d n p x) (apart_of_above2 (by decide))
  exact .ite (.refl d) (.ite ((he _).trans (canStart_edgeKept _ c n true 0)) (he _))

theorem putQueue_edgeKept (n q : Nat) (l : List EthTx) : EdgeKept d (d.putQueue n q l) := by
  unfold Dev.putQueue
  exact .ite (.putF (putPort_edgeKept d n _) (apart_of_above (by decide))) (putPort_edgeKept d n _)

theorem ethSend_edgeKept (n : Nat) (f : EthTx) : EdgeKept d (d.ethSend c n f) := by
  unfold Dev.ethSend
  exact .ite (.event (.bump (.refl d) (apart_of_above (by decide)))) (putQueue_edgeKept _ _ _ _)

/-- A PDU that leaves on a connection's class 0 path. -/
theorem osiSend_class0_edgeKept (k typ : Nat) (p : List Byte) : EdgeKept d (d.osiSend c k typ p .class0) := by
  unfold Dev.osiSend
  extract_lets x port slot pdu e bytes sfm f g n
  have hf : EdgeKept d f := (show EdgeKept d e from putConn_edgeKept d k _).other
  clear_value f
  have hg : EdgeKept d g := .ite hf.event hf
  clear_value g
  refine .ite ?_ (.ite (hg.trans (ethSend_edgeKept g c _ _)) hg)
  dsimp only
  split
  · exact hg
  · exact hg.trans (priRequest_edgeKept g c _ _ _)

theorem sendStops_edgeKept : EdgeKept d (d.sendStops c) := by
  unfold Dev.sendStops
  extract_lets ks e
  have he : EdgeKept d e := .foldl (.refl d) fun a ha k => ha.trans ((putConn_edgeKept a k _).trans (osiSend_class0_edgeKept _ c k 1 _))
  clear_value e
  exact .ite he he.event

theorem takeCrown_edgeKept : EdgeKept d (d.takeCrown c) := by
  have hepoch : EdgeKept d d.enterEpoch := .other (.refl d)
  have hshown (e : Dev) (x : Word) : EdgeKept e (e.showEpoch c x) := .put (.putN (.put (.refl e)))
  rw [takeCrown_eq]
  exact (hepoch.trans (hshown _ _)).trans (crownFollows_edgeKept _ c false)

end

/-! ### The edge into Lock-out -/

theorem lawModeEdge_lockout_edgeKept (d : Dev) (c : Cfg) (old cause : Nat) : EdgeKept d (d.lawModeEdge c old 11 cause) := by
  rw [Dev.lawModeEdge, if_pos (by simp)]
  extract_lets e
  have he : EdgeKept d e := .trans (.trans (cancelStream_edgeKept d 0) (cancelStream_edgeKept _ 1)) (cancelStream_edgeKept _ 2)
  clear_value e
  exact he.other

theorem edgeCrown_lockout_edgeKept (d : Dev) (c : Cfg) : EdgeKept d (d.edgeCrown c 11 3) := by
  rw [Dev.edgeCrown, if_neg (by omega)]
  refine .ite (.refl d) ?_
  rw [if_pos rfl, if_neg (by decide)]
  exact .ite (takeCrown_edgeKept d c) (.refl d)

theorem edgeLockout_edgeKept (d : Dev) (c : Cfg) : EdgeKept d (d.edgeLockout c) := by
  unfold Dev.edgeLockout
  exact .ite (.refl d) (.trans (.foldl (.refl d) fun e he k => he.trans (cancelStream_edgeKept e k)) (sendStops_edgeKept _ c))

/-- Of the units whose mode is Lock-out, the rest of the edge leaves the mode alone. -/
theorem settleLockout_edgeKept {d : Dev} (c : Cfg) (hmode : d.mode = 11) (hramp : d.modes.rampBeat = false) :
    EdgeKept d ((((d.edgeLockout c).edgeConfigure).restPaired c).loopSync c) := by
  have hlock := edgeLockout_edgeKept d c
  have hstay : (d.edgeLockout c).mode = 11 := hlock.mode.trans hmode
  have hoff : sendsSetpoints (d.edgeLockout c) = false := by
    rw [hlock.sendsSetpoints, sendsSetpoints, hmode, hramp]
    rfl
  rw [edgeConfigure_off (by omega), restPaired_off c (by omega) (by omega)]
  exact hlock.trans (loopSync_edgeKept c hoff)

/-- A requested Lock-out is entered. -/
theorem enterMode_lockout (d : Dev) (c : Cfg) (station : Nat) : (d.enterMode c 11 3 station).mode = 11 := by
  have hmode : ((d.showEdge 11 3).setRamp false).mode = 11 := (mode_setRamp _ _).trans (mode_showEdge d 3 (by decide))
  refine Eq.trans (EdgeKept.mode (d := (d.showEdge 11 3).setRamp false) ?_) hmode
  unfold Dev.enterMode
  extract_lets old ramp shown entered edge checked known event lost crowned bits law cleared settled driven safe
  have hramp : ramp = false := by simp [ramp]
  have hentered : entered = d.showEdge 11 3 := rfl
  clear_value entered
  have hchecked : checked = entered.setRamp ramp := rfl
  rw [hramp, hentered] at hchecked
  have hknown : EdgeKept checked known := .ite (.event (.putB (.refl _))) (.refl _)
  have hcrowned : EdgeKept checked crowned := .trans (.ite (.event (.event hknown)) (.event hknown)) (edgeCrown_lockout_edgeKept _ c)
  have hbits : EdgeKept checked bits := .ite hcrowned (hcrowned.trans (edgeBits_edgeKept _ _ _ (by decide)))
  have hlaw : EdgeKept checked law := .ite hbits (.ite hbits (hbits.trans (lawModeEdge_lockout_edgeKept _ c _ _)))
  have hcleared : EdgeKept checked cleared := .ite hlaw (.putF_mode hlaw)
  rw [hchecked] at hcleared
  have hsettled := hcleared.trans (settleLockout_edgeKept c (hcleared.mode.trans hmode) (by rw [hcleared.modes, setRamp_rampBeat]))
  have hdriven : EdgeKept ((d.showEdge 11 3).setRamp false) driven := .ite hsettled (.putB hsettled)
  exact ((hdriven.trans (sfmDrive_edgeKept driven c)).trans (driveField_edgeKept _ c false)).trans (journal_edgeKept _ c _)

/-! ### The transition of a boundary (R41) -/

/-- What waited for the frame or the swap of an earlier boundary is open no more. -/
def Dev.closeOpen (d : Dev) : Dev := { d with modes := { d.modes with openFrame := false, openSwap := false } }

theorem closeOpen_wanted (c : Cfg) (d : Dev) : firstWanted c d.closeOpen = firstWanted c d := rfl
theorem closeOpen_lockout (c : Cfg) (d : Dev) : lockoutAsked c d.closeOpen = lockoutAsked c d := rfl

/-- A request for Lock-out that is accepted is carried out. -/
theorem requestStep_lockout {s : State} (h : lockoutAsked s.cfg s.dev = true) : s.requestStep.dev.mode = 11 := by
  unfold lockoutAsked at h
  split at h
  · simp at h
  · next w hreq =>
    rw [Bool.and_eq_true, decide_eq_true_eq, decide_eq_true_eq] at h
    obtain ⟨ht, hcode⟩ := h
    have hcode' : (requestCode s.cfg { s.dev with modes := { s.dev.modes with request := none } } w).1 = 0 := hcode
    unfold State.requestStep
    simp only [hreq, ht]
    rw [if_neg (by rw [hcode']; omega), if_neg (by simp), if_neg (by simp), if_neg (by simp)]
    exact enterMode_lockout _ _ _

section
variable {s : State}

theorem settleModes_auto {x : Nat × Nat} (hw : firstWanted s.cfg s.dev = some x) (hl : lockoutAsked s.cfg s.dev = false) :
    s.settleModes = { s with dev := s.dev.closeOpen.autoStep s.cfg x.1 x.2 } := by
  unfold State.settleModes
  extract_lets src modes u asked
  have hw' : firstWanted u.cfg u.dev = some x := hw
  have hl' : lockoutAsked u.cfg u.dev = false := hl
  rw [hw']
  dsimp only
  rw [hl', Bool.false_and, if_neg (by simp)]
  rfl

theorem settleModes_lockout {x : Nat × Nat} (hw : firstWanted s.cfg s.dev = some x) (hl : lockoutAsked s.cfg s.dev = true)
    (hrank : causeRank x.1 ≠ 1) : s.settleModes.dev.mode = 11 := by
  unfold State.settleModes
  extract_lets src modes u asked
  have hw' : firstWanted u.cfg u.dev = some x := hw
  have hl' : lockoutAsked u.cfg u.dev = true := hl
  rw [hw']
  dsimp only
  rw [hl', Bool.true_and, if_pos (by simpa using hrank)]
  exact requestStep_lockout hl'

theorem settleModes_quiet (hw : firstWanted s.cfg s.dev = none) (hreq : s.dev.modes.request = none) :
    s.settleModes.dev.mode = s.dev.mode ∧ s.settleModes.cfg = s.cfg := by
  unfold State.settleModes
  extract_lets src modes u asked
  have hw' : firstWanted u.cfg u.dev = none := hw
  have hstep : u.requestStep = u := by
    have hreq' : u.dev.modes.request = none := hreq
    rw [State.requestStep, hreq']
  rw [hw']
  dsimp only [asked]
  rw [hstep]
  exact ⟨rfl, rfl⟩

theorem modeStep_settles (hswap : swapDue s.dev = false) (hmode : s.dev.mode < 8) : s.modeStep = s.settleModes := by
  rw [State.modeStep, if_neg]
  simp [hswap, hmode]

/-- The cause of an automatic Lock-out alone has the first rank. -/
theorem causeRank_later {cause : Nat} (hc : cause ≠ 0x0C) (hd : cause ≠ 0x0D) (hf : cause ≠ 0x0F) : causeRank cause ≠ 1 := by
  unfold causeRank
  rw [if_neg (by simp [hc, hd, hf])]
  split
  · decide
  · split
    · decide
    · split
      · decide
      · split <;> decide

/-- Past the transition: the commits, then the registers of the escapement. -/
theorem boundaryWork_commits (h : 2 < (({ s.closeBeat with dev := s.closeBeat.dev.endRamp s.closeBeat.cfg } : State).modeStep).dev.mode) :
    s.boundaryWork.cfg = (({ s.closeBeat with dev := s.closeBeat.dev.endRamp s.closeBeat.cfg } : State).modeStep).boundaryCommits.takeEsc.cfg
    ∧ s.boundaryWork.store = (({ s.closeBeat with dev := s.closeBeat.dev.endRamp s.closeBeat.cfg } : State).modeStep).boundaryCommits.store := by
  unfold State.boundaryWork
  dsimp only at h ⊢
  rw [if_neg (by omega)]
  exact ⟨rfl, rfl⟩

end

/-- Settles O16: what of the boundary follows the transition, and which transition it is. -/
theorem boundaryOrder : Obligations.BoundaryOrder := by
  refine ⟨fun s h => ⟨_, rfl, ?_⟩, fun s cause target hw hl => ⟨s.dev.closeOpen, settleModes_auto hw hl, rfl⟩,
    fun s cause target hw hl hc hd hf => settleModes_lockout hw hl (causeRank_later hc hd hf),
    fun s hw hreq => settleModes_quiet hw hreq, fun s => modeStep_settles⟩
  obtain ⟨hcfg, hstore⟩ := boundaryWork_commits h
  exact ⟨by rw [hcfg]; rfl, hstore, by rw [hcfg]; rfl⟩

end Sys2Proof.Machine
end

section
/-! SUPPORT. Field outputs, their supplies and diagnostics (R432 to R444). -/
namespace Sys2Proof.Machine
-- One proof after another: proofs that wait for each other would each hold a thread and its stack.
set_option Elab.async false

/-! ### The record of an output -/

section
variable (d : Dev) (c : Cfg)

theorem out_putOut_self (k : Nat) (o : OutDev) : (d.putOut k o).out k = o := Assoc.get_set_self _ _ _ _

theorem out_putOut_ne {j k : Nat} (o : OutDev) (h : j ≠ k) : (d.putOut k o).out j = d.out j := Assoc.get_set_ne _ _ _ _ h

theorem sup_putSup_self (g : Nat) (x : SupDev) : (d.putSup g x).sup g = x := Assoc.get_set_self _ _ _ _

theorem sup_putSup_ne {g h : Nat} (x : SupDev) (hne : h ≠ g) : (d.putSup g x).sup h = d.sup h := Assoc.get_set_ne _ _ _ _ hne

/-! ### A group brought to its wanted state (R434) -/

/-- The record of a group's lead once its switch is where it is wanted. -/
def Dev.switched (slow : Bool) (lead : Nat) : OutDev :=
  let o := d.out lead
  let fast := !slow && (outGated c d lead || outSag c d lead || outLatched o || d.b (FIO.SUP_STAT (lead / 8)) 19)
  if o.driven && !outWanted c d lead then { o with driven := false, fast := fast, offTick := d.tick, fastTick := if fast then d.tick else o.fastTick }
  else { o with driven := outWanted c d lead }

/-- Beside where the switch is, and when and how it was last turned off, a record is as it was. -/
def OutDev.SwitchedFrom (x o : OutDev) (want : Bool) : Prop :=
  x = { o with driven := want, fast := x.fast, offTick := x.offTick, fastTick := x.fastTick }

theorem switched_from (slow : Bool) (lead : Nat) : (d.switched c slow lead).SwitchedFrom (d.out lead) (outWanted c d lead) := by
  unfold OutDev.SwitchedFrom Dev.switched
  dsimp only
  split
  · next h =>
    have hw : outWanted c d lead = false := by simp_all
    rw [hw]
  · rfl

namespace OutDev.SwitchedFrom

variable {x o : OutDev} {want : Bool} (h : x.SwitchedFrom o want)
include h

theorem eq : x = { o with driven := want, fast := x.fast, offTick := x.offTick, fastTick := x.fastTick } := h
theorem cmd : x.cmd = o.cmd := (congrArg OutDev.cmd h.eq :)
theorem driven : x.driven = want := (congrArg OutDev.driven h.eq :)
theorem overload : x.overload = o.overload := (congrArg OutDev.overload h.eq :)
theorem overtempLatch : x.overtempLatch = o.overtempLatch := (congrArg OutDev.overtempLatch h.eq :)
theorem faultOff : x.faultOff = o.faultOff := (congrArg OutDev.faultOff h.eq :)
theorem hot : x.hot = o.hot := (congrArg OutDev.hot h.eq :)
theorem hotTicks : x.hotTicks = o.hotTicks := (congrArg OutDev.hotTicks h.eq :)
theorem diagTick : x.diagTick = o.diagTick := (congrArg OutDev.diagTick h.eq :)
theorem openLoad : x.openLoad = o.openLoad := (congrArg OutDev.openLoad h.eq :)
theorem short : x.short = o.short := (congrArg OutDev.short h.eq :)
theorem crossFed : x.crossFed = o.crossFed := (congrArg OutDev.crossFed h.eq :)
theorem reverse : x.reverse = o.reverse := (congrArg OutDev.reverse h.eq :)
theorem suspect : x.suspect = o.suspect := (congrArg OutDev.suspect h.eq :)

end OutDev.SwitchedFrom

theorem outWanted_latched {k : Nat} (h : outLatched (d.out k) = true) : outWanted c d k = false := by
  simp [outWanted, h]

theorem outWanted_reverse {k : Nat} (h : (d.out k).reverse = true) : outWanted c d k = false := by
  simp [outWanted, h]

/-- An output that is latched off while on goes off fast. -/
theorem switched_fast {lead : Nat} (hon : (d.out lead).driven = true) (h : outLatched (d.out lead) = true) :
    (d.switched c false lead).fast = true := by
  unfold Dev.switched
  rw [outWanted_latched d c h]
  simp [hon, h]

/-- What shows a group leaves everything but the lead's record. -/
theorem driveGroup_shownBy (slow : Bool) (lead : Nat) :
    ShownBy outputKeys (d.putOut lead (d.switched c slow lead)) (d.driveGroup c slow lead) := by
  have hshow (e : Dev) {k : Nat} (hk : k < 16) : ShownBy outputKeys e (e.showOut c lead k) :=
    shownBy_put (shownBy_put (shownBy_put shownBy_refl _ (outStat_mem_outputKeys hk)) _ (by simp [outputKeys])) _ (by simp [outputKeys])
  exact List.foldlRecOn (outMembers c lead) _ shownBy_refl fun e he k hk =>
    have hs := hshow e (outMembers_lt c hk)
    ⟨by rw [RegsOnly, hs.1, he.1], regsKept_trans he.2 hs.2⟩

end

theorem ShownBy.field {ks : List Nat} {d e : Dev} (h : ShownBy ks d e) : e.field = d.field := by rw [h.1]
theorem ShownBy.esc {ks : List Nat} {d e : Dev} (h : ShownBy ks d e) : e.esc = d.esc := by rw [h.1]
theorem ShownBy.out {ks : List Nat} {d e : Dev} (h : ShownBy ks d e) (k : Nat) : e.out k = d.out k := by rw [Dev.out, h.field]; rfl

/-! ### Work on one output -/

/-- From `d` to `e` no output but `k` has changed, and nothing is recorded. -/
structure OutputStep (k : Nat) (d e : Dev) : Prop where
  occ : e.occ = d.occ
  tick : e.tick = d.tick
  esc : e.esc = d.esc
  others : ∀ j, j ≠ k → e.out j = d.out j

namespace OutputStep

variable {k : Nat} {d e f : Dev}

theorem refl (k : Nat) (d : Dev) : OutputStep k d d := ⟨rfl, rfl, rfl, fun _ _ => rfl⟩

theorem trans (h : OutputStep k d e) (g : OutputStep k e f) : OutputStep k d f :=
  ⟨g.occ.trans h.occ, g.tick.trans h.tick, g.esc.trans h.esc, fun j hj => (g.others j hj).trans (h.others j hj)⟩

theorem putOut (d : Dev) (o : OutDev) : OutputStep k d (d.putOut k o) := ⟨rfl, rfl, rfl, fun _ hj => out_putOut_ne d o hj⟩

theorem shown {ks : List Nat} (h : ShownBy ks d e) : OutputStep k d e := ⟨h.occ, h.tick, h.esc, fun j _ => h.out j⟩

theorem driveGroup (d : Dev) (c : Cfg) (slow : Bool) : OutputStep k d (d.driveGroup c slow k) :=
  (putOut d _).trans (shown (driveGroup_shownBy d c slow k))

theorem records (h : OutputStep k d e) (code : Nat) (ps : List Int) : Records d (e.event code ps) code ps :=
  event_occ_of h.occ h.tick h.esc code ps

end OutputStep

section
variable (d : Dev) (c : Cfg)

theorem driveGroup_out (slow : Bool) (k : Nat) : ((d.driveGroup c slow k).out k).SwitchedFrom (d.out k) (outWanted c d k) := by
  rw [(driveGroup_shownBy d c slow k).out, out_putOut_self]
  exact switched_from d c slow k

theorem diagSeen_shownBy (lead : Nat) : ShownBy [FIO.DIAG_SEEN] d (d.diagSeen c lead) :=
  List.foldlRecOn (outMembers c lead) _ shownBy_refl fun e he k _ => shownBy_put he _ (by simp)

/-- The change of a group as it is driven. -/
def Dev.marked (k : Nat) (f : OutDev → OutDev) : Dev := (d.putOut k (f (d.out k))).diagSeen c k

theorem diagOut_eq (k : Nat) (f : OutDev → OutDev) : d.diagOut c k f = (d.marked c k f).driveGroup c false k := rfl

theorem marked_out (k : Nat) (f : OutDev → OutDev) : (d.marked c k f).out k = f (d.out k) :=
  ((diagSeen_shownBy _ c k).out k).trans (out_putOut_self d k _)

theorem diagOut_step (k : Nat) (f : OutDev → OutDev) : OutputStep k d (d.diagOut c k f) :=
  ((OutputStep.putOut d _).trans (.shown (diagSeen_shownBy _ c k))).trans (.driveGroup _ c false)

theorem diagOut_out (k : Nat) (f : OutDev → OutDev) :
    ((d.diagOut c k f).out k).SwitchedFrom (f (d.out k)) (outWanted c (d.marked c k f) k) := by
  have h := driveGroup_out (d.marked c k f) c false k
  rwa [marked_out] at h

/-- A change that latches the output, or blocks its switch, turns it off. -/
theorem diagOut_off {k : Nat} {f : OutDev → OutDev} (h : outLatched (f (d.out k)) = true ∨ (f (d.out k)).reverse = true) :
    ((d.diagOut c k f).out k).SwitchedFrom (f (d.out k)) false := by
  have hoff : outWanted c (d.marked c k f) k = false := by
    rcases h with h | h
    · exact outWanted_latched _ c (by rwa [marked_out])
    · exact outWanted_reverse _ c (by rwa [marked_out])
  exact hoff ▸ diagOut_out d c k f

theorem diagOut_fast {k : Nat} {f : OutDev → OutDev} (hon : (f (d.out k)).driven = true) (h : outLatched (f (d.out k)) = true) :
    ((d.diagOut c k f).out k).fast = true := by
  rw [diagOut_eq, (driveGroup_shownBy _ c false k).out, out_putOut_self]
  exact switched_fast _ c (by rwa [marked_out]) (by rwa [marked_out])

end

/-! ### All outputs brought to their wanted states -/

/-- From `d` to `e` the outputs have been driven: their commands, the rest of the field die, time and occurrences stay, and so do the
registers that do not show outputs. -/
structure FieldDriven (ks : List Nat) (d e : Dev) : Prop where
  occ : e.occ = d.occ
  tick : e.tick = d.tick
  esc : e.esc = d.esc
  field : e.field = { d.field with outs := e.field.outs, aouts := e.field.aouts }
  cmd : ∀ k, (e.out k).cmd = (d.out k).cmd
  regs : RegsKept ks d e

namespace FieldDriven

variable {ks : List Nat} {d e f : Dev}

theorem refl (d : Dev) : FieldDriven ks d d := ⟨rfl, rfl, rfl, rfl, fun _ => rfl, regsKept_refl⟩

theorem trans (h : FieldDriven ks d e) (g : FieldDriven ks e f) : FieldDriven ks d f :=
  ⟨g.occ.trans h.occ, g.tick.trans h.tick, g.esc.trans h.esc, by rw [g.field, h.field], fun k => (g.cmd k).trans (h.cmd k),
    regsKept_trans h.regs g.regs⟩

theorem sup (h : FieldDriven ks d e) (g : Nat) : e.sup g = d.sup g := by
  have hs : e.field.sups = d.field.sups := by rw [h.field]
  rw [Dev.sup, hs]
  rfl

end FieldDriven

section
variable (d : Dev) (c : Cfg)

theorem driveGroup_driven (slow : Bool) (k : Nat) : FieldDriven outputKeys d (d.driveGroup c slow k) := by
  have hstep := OutputStep.driveGroup (k := k) d c slow
  have hshown := driveGroup_shownBy d c slow k
  refine ⟨hstep.occ, hstep.tick, hstep.esc, by rw [hshown.field]; rfl, fun j => ?_, driveGroup_regsKept d c slow k⟩
  by_cases hj : j = k
  · subst hj
    exact (driveGroup_out d c slow j).cmd
  · rw [hstep.others j hj]

theorem driveOutputs_driven (slow : Bool) : FieldDriven outputKeys d (d.driveOutputs c slow) :=
  List.foldlRecOn _ _ (.refl d) fun e he k _ => he.trans (driveGroup_driven e c slow k)

end

end Sys2Proof.Machine
end

section
/-! SUPPORT. The commands of the field outputs and their supplies (R432 to R444). -/
namespace Sys2Proof.Machine
-- One proof after another: proofs that wait for each other would each hold a thread and its stack.
set_option Elab.async false

/-! ### The analogue outputs follow -/

/-- The registers that show the field outputs and the analogue outputs. -/
def fieldOutKeys : List Nat := outputKeys ++ (List.range 4).map ANU.AOUT_STAT

theorem FieldDriven.mono {ks ls : List Nat} {d e : Dev} (h : FieldDriven ks d e) (hks : ∀ k ∈ ks, k ∈ ls) : FieldDriven ls d e :=
  ⟨h.occ, h.tick, h.esc, h.field, h.cmd, fun k hk => h.regs k fun hmem => hk (hks k hmem)⟩

theorem FieldDriven.put {ks : List Nat} {d e : Dev} (h : FieldDriven ks d e) {k : Nat} (v : Word) (hk : k ∈ ks) :
    FieldDriven ks d (e.put k v) :=
  ⟨h.occ, h.tick, h.esc, h.field, h.cmd, regsKept_put h.regs v hk⟩

section
variable (d : Dev) (c : Cfg)

/-- Analogue output `o` with its new record. -/
def Dev.putAout (o : Nat) (x : AoutDev) : Dev := { d with field := { d.field with aouts := Assoc.set {} d.field.aouts o x } }

theorem putAout_driven (ks : List Nat) (o : Nat) (x : AoutDev) : FieldDriven ks d (d.putAout o x) :=
  ⟨rfl, rfl, rfl, rfl, fun _ => rfl, regsKept_congr regsKept_refl rfl⟩

theorem driveAouts_driven : FieldDriven ((List.range 4).map ANU.AOUT_STAT) d (d.driveAouts c) :=
  List.foldlRecOn _ _ (.refl d) fun e he o ho =>
    have hkey := List.mem_map_of_mem (f := ANU.AOUT_STAT) ho
    he.trans (((putAout_driven e _ o _).put _ hkey).put _ hkey)

theorem driveField_driven (slow : Bool) : FieldDriven fieldOutKeys d (d.driveField c slow) :=
  ((driveOutputs_driven d c slow).mono fun _ => List.mem_append_left _).trans
    ((driveAouts_driven _ c).mono fun _ => List.mem_append_right _)

end

/-! ### The link's slots (R432) -/

/-- What a fold that changes some entries of a list leaves at `j`. -/
theorem get_foldl_range {p : Nat → Bool} (g : Nat → OutDev → OutDev) (l : List (Nat × OutDev)) (j : Nat) :
    ∀ n, Assoc.get {} ((List.range n).foldl (fun l k => if p k then Assoc.set {} l k (g k (Assoc.get {} l k)) else l) l) j
      = if j < n ∧ p j then g j (Assoc.get {} l j) else Assoc.get {} l j := by
  intro n
  induction n with
  | zero => simp
  | succ n ih =>
    rw [List.range_succ, List.foldl_append, List.foldl_cons, List.foldl_nil]
    by_cases hj : j = n
    · subst hj
      rw [if_neg (by simp)] at ih
      split
      · rw [Assoc.get_set_self, ih, if_pos ⟨by omega, by assumption⟩]
      · rw [ih, if_neg (by simp_all)]
    · have hlt : (j < n + 1 ∧ p j = true) ↔ (j < n ∧ p j = true) := by
        rw [show j < n + 1 ↔ j < n by omega]
      simp only [hlt]
      split
      · rw [Assoc.get_set_ne _ _ _ _ hj, ih]
      · exact ih

section
variable (d : Dev) (c : Cfg)

/-- The commands that waited have reached the field die; nothing is driven yet. -/
def Dev.delivered : Dev :=
  let f := d.field
  let outs := (List.range 16).foldl (fun l k =>
    if f.pendMask.testBit k && !heldInLockout c d k then
      Assoc.set {} l k { (Assoc.get {} l k : OutDev) with cmd := f.pendBits.testBit k } else l) f.outs
  let codes := f.pendAout.filter (fun p => !(decide (d.mode = 11) && c.b (ANU.AOUT_CFG p.1) 2))
  let aouts := codes.foldl (fun l p => Assoc.set {} l p.1 { (Assoc.get {} l p.1 : AoutDev) with code := p.2 }) f.aouts
  let regs := codes.foldl (fun d p => d.putF (ANU.AOUT_STAT p.1) 16 2 0) d
  { regs with field := { f with outs := outs, aouts := aouts, pendMask := 0, pendBits := 0, pendAout := [] } }

theorem deliverCommands_eq : d.deliverCommands c = (d.delivered c).driveField c false := rfl

theorem delivered_cmd (hmode : d.mode ≠ 11) {k : Nat} (hk : k < 16) :
    ((d.delivered c).out k).cmd = if d.field.pendMask.testBit k then d.field.pendBits.testBit k else (d.out k).cmd := by
  have hheld : heldInLockout c d k = false := by simp [heldInLockout, hmode]
  have hget := get_foldl_range (p := fun k => d.field.pendMask.testBit k && !heldInLockout c d k)
    (fun k o => { o with cmd := d.field.pendBits.testBit k }) d.field.outs k 16
  have hout : (d.delivered c).out k = if d.field.pendMask.testBit k then { d.out k with cmd := d.field.pendBits.testBit k } else d.out k := by
    rw [Dev.out, Dev.delivered]
    exact hget.trans (by simp [hk, hheld, Dev.out])
  rw [hout]
  split <;> rfl

end

section
variable {s : State}

theorem fieldLinkSlot_invalid_counts : ∃ t, exec (.fieldLinkSlot false) s = .next t ∧ Effect s t [FIO.LINK_ERR_CNT]
      (fun d => { d with field := { d.field with badSlots := d.field.badSlots + 1 } })
    ∧ t.dev.w FIO.LINK_ERR_CNT = (s.dev.bump FIO.LINK_ERR_CNT).w FIO.LINK_ERR_CNT :=
  ⟨_, show execFieldLinkSlot false s = _ from onDev_of (if_neg Bool.false_ne_true),
    ⟨rfl, rfl, regsKept_put (regsKept_congr regsKept_refl rfl) _ (List.mem_singleton_self _)⟩, by
    dsimp only
    rw [Dev.bump, Dev.sat, Dev.w_putF_self, Dev.bump, Dev.sat, Dev.w_putF_self]
    rfl⟩

/-- The slot was valid. -/
def Dev.goodSlot (d : Dev) : Dev := { d with field := { d.field with badSlots := 0 } }

theorem deliverSlot_delivers {d : Dev} (c : Cfg) (h : d.field.pendSfm = none) : d.deliverSlot c = (d.delivered c).driveField c false := by
  unfold Dev.deliverSlot
  rw [h]
  rfl

theorem deliverSlot_safety {d : Dev} (c : Cfg) {b : Nat} (h : d.field.pendSfm = some b) :
    d.deliverSlot c = { d with field := { d.field with sfmBits := b, pendSfm := none } }.driveOutputs c false := by
  unfold Dev.deliverSlot
  rw [h]

theorem fieldLinkSlot_delivers (hmode : s.dev.mode ≠ 11) (hsfm : s.dev.field.pendSfm = none) :
    ∃ t, exec (.fieldLinkSlot true) s = .next t ∧ UnitsOnly s t ∧ t.dev.field.badSlots = 0
      ∧ t.dev.field.pendMask = 0 ∧ t.dev.field.pendAout = []
      ∧ ∀ k, k < 16 → (t.dev.out k).cmd = if s.dev.field.pendMask.testBit k then s.dev.field.pendBits.testBit k else (s.dev.out k).cmd := by
  have hdriven := driveField_driven (s.dev.goodSlot.delivered s.cfg) s.cfg false
  refine ⟨_, show execFieldLinkSlot true s = _ from onDev_of ((if_pos rfl).trans (deliverSlot_delivers (d := s.dev.goodSlot) s.cfg hsfm)),
    rfl, ?_, ?_, ?_, fun k hk => ?_⟩
  · exact (congrArg FieldDev.badSlots hdriven.field :)
  · exact (congrArg FieldDev.pendMask hdriven.field :)
  · exact (congrArg FieldDev.pendAout hdriven.field :)
  · exact (hdriven.cmd k).trans (delivered_cmd s.dev.goodSlot s.cfg hmode hk)

theorem fieldLinkSlot_safety {b : Nat} (hsfm : s.dev.field.pendSfm = some b) :
    ∃ t, exec (.fieldLinkSlot true) s = .next t ∧ UnitsOnly s t
      ∧ t.dev.field.sfmBits = b ∧ t.dev.field.pendSfm = none ∧ t.dev.field.pendMask = s.dev.field.pendMask
      ∧ t.dev.field.pendAout = s.dev.field.pendAout := by
  have hdriven := driveOutputs_driven { s.dev.goodSlot with field := { s.dev.goodSlot.field with sfmBits := b, pendSfm := none } } s.cfg false
  refine ⟨_, show execFieldLinkSlot true s = _ from onDev_of ((if_pos rfl).trans (deliverSlot_safety (d := s.dev.goodSlot) s.cfg hsfm)), rfl, ?_, ?_, ?_, ?_⟩
  · exact (congrArg FieldDev.sfmBits hdriven.field :)
  · exact (congrArg FieldDev.pendSfm hdriven.field :)
  · exact (congrArg FieldDev.pendMask hdriven.field :)
  · exact (congrArg FieldDev.pendAout hdriven.field :)

theorem outSet_waits (value : Word) : ∃ t, exec (.outSet value) s = .next t ∧ UnitsWritten s t ∧ RegsKept [FIO.OUT_SET] s.dev t.dev
    ∧ t.dev.w FIO.OUT_SET = wd (fld value 0 16) ∧ t.dev.occ = s.dev.occ ∧ t.dev.field.outs = s.dev.field.outs := by
  have hkept : RegsKept [FIO.OUT_SET] s.dev (s.dev.putN FIO.OUT_SET (fld value 0 16)) :=
    regsKept_put regsKept_refl _ (List.mem_singleton_self _)
  exact ⟨_, show execOutSet value s = _ from onWrite_of rfl, rfl, regsKept_congr hkept rfl, Dev.w_putN_self s.dev FIO.OUT_SET _, rfl, rfl⟩

end

/-! ### What a diagnostic does to its output (R442 to R444) -/

section
variable {s : State} {k : Nat}

/-- The overtemperature events of an output in the last 10 s, with one now. -/
def hotTicksNow (d : Dev) (k : Nat) : List Nat := d.tick :: (d.out k).hotTicks.filter (fun t => d.tick < t + 10 * ticksPerSec)

/-- An output after an overtemperature event. -/
def OutDev.overheated (ticks : List Nat) (o : OutDev) : OutDev :=
  { o with hot := true, hotTicks := ticks, overtempLatch := o.overtempLatch || decide (3 ≤ ticks.length) }

/-- A diagnostic that turns its output off and records its event. -/
theorem diagEvent_off {f : OutDev → OutDev} (hoff : outLatched (f (s.dev.out k)) = true ∨ (f (s.dev.out k)).reverse = true) (code : Nat) :
    let e := (s.dev.diagOut s.cfg k f).event code [(k : Int)]
    (e.out k).SwitchedFrom (f (s.dev.out k)) false ∧ (∀ j, j ≠ k → e.out j = s.dev.out j) ∧ Records s.dev e code [(k : Int)] :=
  have hstep := diagOut_step s.dev s.cfg k f
  ⟨diagOut_off s.dev s.cfg hoff, hstep.others, hstep.records _ _⟩

/-- What a change of one output's record leaves once its group is driven. -/
theorem putDrive_out (d : Dev) (c : Cfg) (k : Nat) (o : OutDev) :
    (((d.putOut k o).driveGroup c false k).out k).SwitchedFrom o (outWanted c (d.putOut k o) k) := by
  have h := driveGroup_out (d.putOut k o) c false k
  rwa [out_putOut_self] at h

theorem nextAfter_field (d : Dev) (last : Option Nat) (period : Nat) :
    (d.nextAfter last period).field = d.field ∧ (d.nextAfter last period).occ = d.occ := by
  cases last <;> exact ⟨rfl, rfl⟩

theorem putDrive_step (d : Dev) (c : Cfg) (k : Nat) (o : OutDev) : OutputStep k d ((d.putOut k o).driveGroup c false k) :=
  (OutputStep.putOut d o).trans (.driveGroup _ c false)

end

section
variable {s : State} {out : Fin 16} {k : Nat} (hk : outLead s.cfg out.val = k)
include hk

theorem outOverload_off (hon : (s.dev.out k).driven = true) :
    ∃ t, exec (.outOverload out) s = .next t ∧ UnitsOnly s t ∧ (t.dev.out k).driven = false
      ∧ (t.dev.out k).overload = true ∧ (t.dev.out k).fast = true ∧ (∀ j, j ≠ k → t.dev.out j = s.dev.out j)
      ∧ Records s.dev t.dev 0x3001 [(k : Int)] := by
  subst hk
  have hlatched : outLatched { s.dev.out (outLead s.cfg out.val) with overload := true } = true := rfl
  obtain ⟨hout, hothers, hrec⟩ := diagEvent_off (s := s) (f := fun o => { o with overload := true }) (.inl hlatched) 0x3001
  exact ⟨_, show execOutOverload out s = _ from onDev_of (if_neg (by simp [hon])), rfl, hout.driven, hout.overload,
    diagOut_fast s.dev s.cfg (f := fun o => { o with overload := true }) hon hlatched, hothers, hrec⟩

theorem outOverload_off_already (hoff : (s.dev.out k).driven = false) : exec (.outOverload out) s = .next s := by
  subst hk
  exact show execOutOverload out s = _ from onDev_of (e := s.dev) (if_pos (by simp [hoff]))

theorem outOvertemp_off :
    ∃ t, exec (.outOvertemp out) s = .next t ∧ UnitsOnly s t ∧ (t.dev.out k).driven = false ∧ (t.dev.out k).hot = true
      ∧ (t.dev.out k).hotTicks.head? = some s.dev.tick ∧ (∀ j, j ≠ k → t.dev.out j = s.dev.out j)
      ∧ Records s.dev t.dev 0x3002 [(k : Int)] := by
  subst hk
  obtain ⟨hout, hothers, hrec⟩ := diagEvent_off (s := s) (k := outLead s.cfg out.val)
    (f := OutDev.overheated (hotTicksNow s.dev (outLead s.cfg out.val))) (.inl (by simp [outLatched, OutDev.overheated])) 0x3002
  exact ⟨_, show execOutOvertemp out s = _ from onDev_of rfl, rfl, hout.driven, hout.hot, (congrArg List.head? hout.hotTicks :), hothers, hrec⟩

theorem outOvertempCooled_cools :
    ∃ t, exec (.outOvertempCooled out) s = .next t ∧ UnitsOnly s t ∧ (t.dev.out k).hot = false
      ∧ (t.dev.out k).overtempLatch = (s.dev.out k).overtempLatch ∧ (∀ j, j ≠ k → t.dev.out j = s.dev.out j) ∧ t.dev.occ = s.dev.occ := by
  subst hk
  have hout := putDrive_out s.dev s.cfg (outLead s.cfg out.val) { s.dev.out (outLead s.cfg out.val) with hot := false }
  have hstep := putDrive_step s.dev s.cfg (outLead s.cfg out.val) { s.dev.out (outLead s.cfg out.val) with hot := false }
  exact ⟨_, show execOutOvertempCooled out s = _ from onDev_of rfl, rfl, hout.hot, hout.overtempLatch, hstep.others, hstep.occ⟩

theorem reverse_off (h : (s.dev.out k).reverse = false) :
    ∃ t, exec (.reverse out) s = .next t ∧ UnitsOnly s t ∧ (t.dev.out k).driven = false
      ∧ (t.dev.out k).reverse = true ∧ (∀ j, j ≠ k → t.dev.out j = s.dev.out j) ∧ Records s.dev t.dev 0x3005 [(k : Int)] := by
  subst hk
  obtain ⟨hout, hothers, hrec⟩ := diagEvent_off (s := s) (k := outLead s.cfg out.val) (f := fun o => { o with reverse := true }) (.inr rfl) 0x3005
  exact ⟨_, show execReverse out s = _ from onDev_of (if_neg (by simp [h])), rfl, hout.driven, hout.reverse, hothers, hrec⟩

theorem reverseCleared_clears :
    ∃ t, exec (.reverseCleared out) s = .next t ∧ UnitsOnly s t ∧ (t.dev.out k).reverse = false
      ∧ (∀ j, j ≠ k → t.dev.out j = s.dev.out j) ∧ t.dev.occ = s.dev.occ := by
  subst hk
  have hout := putDrive_out s.dev s.cfg (outLead s.cfg out.val) { s.dev.out (outLead s.cfg out.val) with reverse := false }
  have hstep := putDrive_step s.dev s.cfg (outLead s.cfg out.val) { s.dev.out (outLead s.cfg out.val) with reverse := false }
  exact ⟨_, show execReverseCleared out s = _ from onDev_of rfl, rfl, hout.reverse, hstep.others, hstep.occ⟩

theorem openLoad_flags (hen : s.cfg.b (FIO.OUT_CFG k) 6 = true) (hon : (s.dev.out k).driven = true) (hclear : (s.dev.out k).openLoad = false) :
    ∃ t, exec (.openLoad out) s = .next t ∧ UnitsOnly s t ∧ (t.dev.out k).openLoad = true
      ∧ (∀ j, j ≠ k → t.dev.out j = s.dev.out j) ∧ Records s.dev t.dev 0x3006 [(k : Int)] := by
  subst hk
  have hout := diagOut_out s.dev s.cfg (outLead s.cfg out.val) (fun o => { o with openLoad := true })
  have hstep := diagOut_step s.dev s.cfg (outLead s.cfg out.val) (fun o => { o with openLoad := true })
  exact ⟨_, show execOpenLoad out s = _ from onDev_of (if_neg (by simp [hen, hon, hclear])), rfl, hout.openLoad, hstep.others, hstep.records _ _⟩

theorem openLoadCleared_clears :
    ∃ t, exec (.openLoadCleared out) s = .next t ∧ UnitsOnly s t ∧ (t.dev.out k).openLoad = false
      ∧ (∀ j, j ≠ k → t.dev.out j = s.dev.out j) ∧ t.dev.occ = s.dev.occ := by
  subst hk
  have hout := putDrive_out s.dev s.cfg (outLead s.cfg out.val) { s.dev.out (outLead s.cfg out.val) with openLoad := false }
  have hstep := putDrive_step s.dev s.cfg (outLead s.cfg out.val) { s.dev.out (outLead s.cfg out.val) with openLoad := false }
  exact ⟨_, show execOpenLoadCleared out s = _ from onDev_of rfl, rfl, hout.openLoad, hstep.others, hstep.occ⟩

theorem crossFedCleared_clears (hoff : (s.dev.out k).driven = false) :
    ∃ t, exec (.crossFedCleared out) s = .next t ∧ UnitsOnly s t ∧ (t.dev.out k).crossFed = false
      ∧ (t.dev.out k).short = false ∧ ((s.dev.out k).crossFed = false → ∀ j, j ≠ k → t.dev.out j = s.dev.out j) ∧ t.dev.occ = s.dev.occ := by
  subst hk
  generalize hcleared : ({ s.dev.out (outLead s.cfg out.val) with
    crossFed := false, short := false, xfPartial := false, partner := 0, suspect := false } : OutDev) = cleared
  have hboth : cleared.crossFed = false ∧ cleared.short = false := hcleared ▸ ⟨rfl, rfl⟩
  obtain ⟨hcross, hshort⟩ := hboth
  obtain ⟨e, hexec, hocc, hothers⟩ : ∃ e : Dev,
      exec (.crossFedCleared out) s = .next { s with dev := (e.putOut (outLead s.cfg out.val) cleared).driveGroup s.cfg false (outLead s.cfg out.val) }
      ∧ e.occ = s.dev.occ ∧ ((s.dev.out (outLead s.cfg out.val)).crossFed = false → e = s.dev) := by
    refine ⟨_, show execCrossFedCleared out s = _ from onDev_of ((if_neg (by simp [hoff])).trans (by dsimp only; rw [hcleared])), ?_,
      fun h => if_neg (by simp [h])⟩
    split
    · exact (putDrive_step s.dev s.cfg _ _).occ
    · rfl
  have hout := putDrive_out e s.cfg (outLead s.cfg out.val) cleared
  have hstep := putDrive_step e s.cfg (outLead s.cfg out.val) cleared
  exact ⟨_, hexec, rfl, hout.crossFed.trans hcross, hout.short.trans hshort, fun h j hj => (hstep.others j hj).trans (by rw [hothers h]),
    hstep.occ.trans hocc⟩

theorem diagOffPulse_suspects (low : Bool) (hen : s.cfg.b (FIO.OUT_CFG k) 8 = true) (hordinary : isSafety s.cfg k = false)
    (hon : (s.dev.out k).driven = true) :
    ∃ t, exec (.diagOffPulse out low) s = .next t ∧ UnitsOnly s t ∧ (t.dev.out k).suspect = !low
      ∧ (t.dev.out k).diagTick = some t.dev.tick ∧ (∀ j, j ≠ k → t.dev.out j = s.dev.out j) ∧ t.dev.occ = s.dev.occ := by
  subst hk
  obtain ⟨hfield, hocc⟩ := nextAfter_field s.dev (s.dev.out (outLead s.cfg out.val)).diagTick (s.cfg.f FIO.OP_DIAG 8 8 * ticksPerSec)
  refine ⟨_, show execDiagOffPulse out low s = _ from onDev_of (if_neg (by simp [hen, hordinary, hon])), rfl, ?_⟩
  generalize s.dev.nextAfter (s.dev.out (outLead s.cfg out.val)).diagTick (s.cfg.f FIO.OP_DIAG 8 8 * ticksPerSec) = e at hfield hocc ⊢
  have hout := putDrive_out e s.cfg (outLead s.cfg out.val) { e.out (outLead s.cfg out.val) with suspect := !low, diagTick := some e.tick }
  have hstep := putDrive_step e s.cfg (outLead s.cfg out.val) { e.out (outLead s.cfg out.val) with suspect := !low, diagTick := some e.tick }
  refine ⟨hout.suspect, hout.diagTick.trans (congrArg some hstep.tick.symm), fun j hj => (hstep.others j hj).trans ?_, hstep.occ.trans hocc⟩
  rw [Dev.out, Dev.out, hfield]

end

end Sys2Proof.Machine
end

section
/-! SUPPORT. Clearing of the output latches, supplies, currents and cross-feeding (R440 to R444). -/
namespace Sys2Proof.Machine
-- One proof after another: proofs that wait for each other would each hold a thread and its stack.
set_option Elab.async false

/-! ### OUT_CLR -/

/-- The latches of an output whose condition has gone are cleared: `ended` says the overload has. -/
def OutDev.latchesCleared (o : OutDev) (ended : Bool) : OutDev :=
  { o with overload := o.overload && !ended, overtempLatch := o.overtempLatch && o.hot, faultOff := o.faultOff && o.crossFed }

section
variable {s : State}

theorem outClr_unkeyed {value : Word} (gone : BitVec 16) (h : fld value 16 16 ≠ 0x3E07) :
    exec (.outClr value gone) s = .next { s with bus := .done 0 } :=
  show execOutClr value gone s = _ from onWrite_of (e := s.dev) (if_pos (by simp [h]))

/-- The word that names output 0 clears the group of output 0. -/
theorem outClr_first (gone : BitVec 16) :
    exec (.outClr 0x3E070001#32 gone) s = .next { s with
      bus := .done 0
      dev := (s.dev.putOut (outLead s.cfg 0) ((s.dev.out (outLead s.cfg 0)).latchesCleared (gone.getLsbD 0))).driveGroup s.cfg false (outLead s.cfg 0) } := by
  have hnamed : (List.range 16).filter (bit 0x3E070001#32 ·) = [0] := by decide
  change execOutClr 0x3E070001#32 gone s = _
  refine onWrite_of ((if_neg (by decide)).trans ?_)
  exact (List.foldl_filter (p := fun k => bit 0x3E070001#32 k) (f := fun (d : Dev) k =>
    (d.putOut (outLead s.cfg k) ((d.out (outLead s.cfg k)).latchesCleared (gone.getLsbD k))).driveGroup s.cfg false (outLead s.cfg k))).symm.trans
    (congrArg _ hnamed)

theorem outClr_clears (gone : BitVec 16) (hcool : (s.dev.out (outLead s.cfg 0)).hot = false)
    (hcross : (s.dev.out (outLead s.cfg 0)).crossFed = false) (hgone : gone.getLsbD 0 = true) :
    ∃ t, exec (.outClr 0x3E070001#32 gone) s = .next t ∧ UnitsWritten s t ∧ (t.dev.out (outLead s.cfg 0)).overload = false
      ∧ (t.dev.out (outLead s.cfg 0)).overtempLatch = false ∧ (t.dev.out (outLead s.cfg 0)).faultOff = false ∧ t.dev.occ = s.dev.occ := by
  have hout := putDrive_out s.dev s.cfg (outLead s.cfg 0) ((s.dev.out (outLead s.cfg 0)).latchesCleared (gone.getLsbD 0))
  have hstep := putDrive_step s.dev s.cfg (outLead s.cfg 0) ((s.dev.out (outLead s.cfg 0)).latchesCleared (gone.getLsbD 0))
  refine ⟨_, outClr_first gone, rfl, hout.overload.trans ?_, hout.overtempLatch.trans ?_, hout.faultOff.trans ?_, hstep.occ⟩
  · simp [OutDev.latchesCleared, hgone]
  · simp [OutDev.latchesCleared, hcool]
  · simp [OutDev.latchesCleared, hcross]

end

/-! ### The supplies -/

section
variable {s : State}

theorem supRestore_unkeyed {value : Word} (h : fld value 16 16 ≠ 0x5AC0) :
    exec (.supRestore value) s = .next { s with bus := .done 0, dev := s.dev.put FIO.SUP_RES 1 } :=
  show execSupRestore value s = _ from onWrite_of (if_pos (by simp [h]))

/-- The sag latch of a group is clear. -/
def Dev.sagCleared (d : Dev) (g : Nat) : Dev := (d.putSup g { d.sup g with sagSafety := false, sagOther := false }).showSag g

theorem showSag_shownBy (d : Dev) (g : Nat) : ShownBy [FIO.SUP_STAT g] d (d.showSag g) :=
  shownBy_put shownBy_refl _ (List.mem_singleton_self _)

theorem ShownBy.sup {ks : List Nat} {d e : Dev} (h : ShownBy ks d e) (g : Nat) : e.sup g = d.sup g := by
  rw [Dev.sup, h.field]
  rfl

theorem sagCleared_sup (d : Dev) (g : Nat) : (d.sagCleared g).sup g = { d.sup g with sagSafety := false, sagOther := false } :=
  ((showSag_shownBy _ g).sup g).trans (sup_putSup_self d g _)

theorem sagCleared_sup_ne (d : Dev) {g h : Nat} (hne : h ≠ g) : (d.sagCleared g).sup h = d.sup h :=
  ((showSag_shownBy _ g).sup h).trans (sup_putSup_ne d _ hne)

theorem sup_putN (d : Dev) (k v g : Nat) : (d.putN k v).sup g = d.sup g := by
  rw [Dev.sup, Dev.putN_field]
  rfl

theorem supRestore_first_restores (huv : s.dev.b (FIO.SUP_STAT 0) 17 = false) (hsag : s.dev.b (FIO.SUP_STAT 0) 18 = true) :
    exec (.supRestore 0x5AC00001#32) s
      = .next { s with bus := .done 0, dev := ((s.dev.sagCleared 0).putN FIO.SUP_RES 0).driveOutputs s.cfg false } := by
  have hnamed : (List.range 2).filter (bit 0x5AC00001#32 ·) = [0] := by decide
  change execSupRestore 0x5AC00001#32 s = _
  refine onWrite_of ?_
  dsimp only
  rw [hnamed, if_neg (by decide), if_neg (by simp [huv]), if_neg (by simp [hsag])]
  rfl

theorem supRestore_first (huv : s.dev.b (FIO.SUP_STAT 0) 17 = false) (hsag : s.dev.b (FIO.SUP_STAT 0) 18 = true) :
    ∃ t, exec (.supRestore 0x5AC00001#32) s = .next t ∧ UnitsWritten s t ∧ (t.dev.sup 0).sagSafety = false
      ∧ (t.dev.sup 0).sagOther = false ∧ t.dev.sup 1 = s.dev.sup 1 ∧ t.dev.w FIO.SUP_RES = 0 := by
  have hdriven := driveOutputs_driven ((s.dev.sagCleared 0).putN FIO.SUP_RES 0) s.cfg false
  have hsup := ((hdriven.sup 0).trans (sup_putN _ _ _ _)).trans (sagCleared_sup s.dev 0)
  refine ⟨_, supRestore_first_restores huv hsag, rfl, (congrArg SupDev.sagSafety hsup :), (congrArg SupDev.sagOther hsup :),
    ((hdriven.sup 1).trans (sup_putN _ _ _ _)).trans (sagCleared_sup_ne s.dev (by decide)), ?_⟩
  exact (hdriven.regs FIO.SUP_RES (by decide)).trans (Dev.w_putN_self _ FIO.SUP_RES 0)

theorem supStat_not_outputKeys (g : Fin 2) : FIO.SUP_STAT g.val ∉ outputKeys := by
  revert g; decide

theorem FieldDriven.f {ks : List Nat} {d e : Dev} (h : FieldDriven ks d e) {k : Nat} (hk : k ∉ ks) (lo n : Nat) : e.f k lo n = d.f k lo n := by
  rw [Dev.f, Dev.f, h.regs k hk]

theorem FieldDriven.b {ks : List Nat} {d e : Dev} (h : FieldDriven ks d e) {k : Nat} (hk : k ∉ ks) (i : Nat) : e.b k i = d.b k i := by
  rw [Dev.b, Dev.b, h.regs k hk]

/-- A supply after a good sample: not low, good since now when it was not, and risen. -/
def SupDev.good (x : SupDev) (tick : Nat) : SupDev :=
  { x with low := 0, goodSince := some (x.goodSince.getD tick), risen := true }

/-- The registers of a group show a good sample. -/
def Dev.showGood (d : Dev) (g : Nat) (mv : Int) : Dev :=
  (d.putF (FIO.SUP_STAT g) 0 16 (satU 16 (mv / 10).toNat)).putB (FIO.SUP_STAT g) 19 false

theorem showGood_shownBy (d : Dev) (g : Nat) (mv : Int) : ShownBy [FIO.SUP_STAT g] d (d.showGood g mv) :=
  shownBy_put (shownBy_put shownBy_refl _ (List.mem_singleton_self _)) _ (List.mem_singleton_self _)

theorem showGood_bit (d : Dev) (g : Nat) (mv : Int) {i : Nat} (hi : 16 ≤ i) (h19 : i ≠ 19) :
    (d.showGood g mv).b (FIO.SUP_STAT g) i = d.b (FIO.SUP_STAT g) i := by
  rw [Dev.showGood, Dev.b_putB_apart _ _ _ (by omega) h19, Dev.b_putF_apart _ _ _ (by omega) (by omega)]

theorem showGood_volts (d : Dev) (g : Nat) {mv : Int} (hmv : mv < 40000) : (d.showGood g mv).f (FIO.SUP_STAT g) 0 16 = (mv / 10).toNat := by
  rw [Dev.showGood, Dev.f_putB_apart _ _ _ (by omega) (by omega), Dev.f_putF_self _ _ _ (by omega), satU]
  omega

theorem supplySample_good {g : Fin 2} {mv : Int} (hlow : 19700 ≤ mv) (huv : s.dev.b (FIO.SUP_STAT g.val) 17 = false)
    (hwarn : s.dev.b (FIO.SUP_STAT g.val) 16 = false) :
    exec (.supplySample g mv) s = .next { s with
      dev := ((s.dev.showGood g.val mv).putSup g.val ((s.dev.sup g.val).good s.dev.tick)).driveOutputs s.cfg false } := by
  change execSupplySample g mv s = _
  refine onDev_of ?_
  extract_lets n k d1 d2 d3 x y uv z d4
  have h16 : d1.b k 16 = false := (Dev.b_putF_apart s.dev k _ (by omega) (by omega)).trans hwarn
  have hd2 : d2 = d1 := by rw [show d2 = _ from if_neg (by simp [h16]), if_neg (by omega)]
  have hd3 : d3 = s.dev.showGood n mv := by
    have hneg : decide (mv < -500) = false ∧ decide (mv < -1000) = false := by simp; omega
    have hboth : d3 = d2.putB k 19 false := by simp only [d3, hneg, ite_self]
    rw [hboth, hd2]
    rfl
  have huv' : uv = false := by
    rw [show uv = d3.b k 17 from rfl, hd3]
    exact (showGood_bit s.dev n mv (by omega) (by omega)).trans huv
  have hz : z = (s.dev.sup n).good s.dev.tick := by
    have hx : x = s.dev.sup n := by rw [show x = d3.sup n from rfl, hd3, (showGood_shownBy _ _ _).sup]
    have htick : d3.tick = s.dev.tick := by rw [hd3, (showGood_shownBy _ _ _).tick]
    simp only [z, y, hx, htick, huv', SupDev.good, if_neg (show ¬ mv < 15500 by omega), if_pos (show 17000 ≤ mv by omega),
      decide_eq_true (show 15500 ≤ mv by omega), Bool.not_false, Bool.and_self, Bool.or_true]
    cases (s.dev.sup n).goodSince <;> rfl
  have hlow' : z.low = 0 := by rw [hz]; rfl
  rw [if_neg (by simp [hlow']), show d4 = d3.putSup n z from rfl, hd3, hz]

theorem putSup_f (d : Dev) (g : Nat) (x : SupDev) (k lo n : Nat) : (d.putSup g x).f k lo n = d.f k lo n := rfl
theorem putSup_occ (d : Dev) (g : Nat) (x : SupDev) : (d.putSup g x).occ = d.occ := rfl
theorem putSup_b (d : Dev) (g : Nat) (x : SupDev) (k i : Nat) : (d.putSup g x).b k i = d.b k i := rfl

theorem supplySample_good_shows (g : Fin 2) (mv : Int) (hlow : 19700 ≤ mv) (hhigh : mv < 40000)
    (huv : s.dev.b (FIO.SUP_STAT g.val) 17 = false) (hwarn : s.dev.b (FIO.SUP_STAT g.val) 16 = false) :
    ∃ t, exec (.supplySample g mv) s = .next t ∧ UnitsOnly s t ∧ t.dev.f (FIO.SUP_STAT g.val) 0 16 = (mv / 10).toNat
      ∧ t.dev.b (FIO.SUP_STAT g.val) 16 = false ∧ (t.dev.sup g.val).low = 0 ∧ t.dev.occ = s.dev.occ := by
  have hshown := showGood_shownBy s.dev g.val mv
  have hvolts := showGood_volts s.dev g.val hhigh
  have hbit := (showGood_bit s.dev g.val mv (i := 16) (by omega) (by omega)).trans hwarn
  refine ⟨_, supplySample_good hlow huv hwarn, rfl, ?_⟩
  generalize s.dev.showGood g.val mv = d at hshown hvolts hbit
  generalize hx : (s.dev.sup g.val).good s.dev.tick = x
  have hxlow : x.low = 0 := by rw [← hx]; rfl
  have hdriven := driveOutputs_driven (d.putSup g.val x) s.cfg false
  refine ⟨?_, ?_, ?_, by rw [hdriven.occ, putSup_occ, hshown.occ]⟩
  · rw [hdriven.f (supStat_not_outputKeys g), putSup_f, hvolts]
  · rw [hdriven.b (supStat_not_outputKeys g), putSup_b, hbit]
  · rw [hdriven.sup, sup_putSup_self, hxlow]

/-- A supply whose sag latch stays: the next sag counts again. -/
def SupDev.restored (x : SupDev) : SupDev := { x with risen := true }

theorem sagRestored_latched {g : Fin 2} {t0 : Nat} (hgood : (s.dev.sup g.val).goodSince = some t0)
    (huv : s.dev.b (FIO.SUP_STAT g.val) 17 = true) (hauto : s.cfg.b (FIO.SUP_CFG g.val) 0 = false) :
    exec (.sagRestored g) s = .next { s with
      dev := (((((s.dev.advanceTo (t0 + 100 * ticksPerMs)).putB (FIO.SUP_STAT g.val) 17 false).putSup g.val (s.dev.sup g.val).restored).showSag
        g.val).driveOutputs s.cfg false) } := by
  change execSagRestored g s = _
  refine onDev_of ?_
  extract_lets n x restore safe
  rw [show x.goodSince = some t0 from hgood]
  refine (if_neg (by simp [n, huv])).trans ?_
  extract_lets d1 d2 d3
  have hrestore : restore = false := by simp only [restore, n, hauto, Bool.false_and]
  have hd2 : d2 = d1.putSup n x.restored := by
    simp only [d2, hrestore, Bool.not_false, Bool.and_true, Bool.true_or, ← hgood]
    rfl
  rw [hrestore, if_neg Bool.false_ne_true, show d3 = (d2.showSag n).driveOutputs s.cfg false from rfl, hd2]

theorem sagRestored_shows (g : Fin 2) (t0 : Nat) (hgood : (s.dev.sup g.val).goodSince = some t0)
    (huv : s.dev.b (FIO.SUP_STAT g.val) 17 = true) (hauto : s.cfg.b (FIO.SUP_CFG g.val) 0 = false) :
    ∃ t, exec (.sagRestored g) s = .next t ∧ UnitsOnly s t ∧ t.dev.b (FIO.SUP_STAT g.val) 17 = false
      ∧ t.dev.tick = max s.dev.tick (t0 + 100 * ticksPerMs) ∧ (t.dev.sup g.val).sagOther = (s.dev.sup g.val).sagOther
      ∧ t.dev.occ = s.dev.occ := by
  refine ⟨_, sagRestored_latched hgood huv hauto, rfl, ?_⟩
  have hbit : ((s.dev.advanceTo (t0 + 100 * ticksPerMs)).putB (FIO.SUP_STAT g.val) 17 false).b (FIO.SUP_STAT g.val) 17 = false :=
    Dev.b_putB_self _ _ _ (by omega)
  have hocc : ((s.dev.advanceTo (t0 + 100 * ticksPerMs)).putB (FIO.SUP_STAT g.val) 17 false).occ = s.dev.occ := Dev.putB_occ ..
  have htick : ((s.dev.advanceTo (t0 + 100 * ticksPerMs)).putB (FIO.SUP_STAT g.val) 17 false).tick = max s.dev.tick (t0 + 100 * ticksPerMs) :=
    Dev.putB_tick ..
  generalize (s.dev.advanceTo (t0 + 100 * ticksPerMs)).putB (FIO.SUP_STAT g.val) 17 false = d at hbit hocc htick
  have hsag := showSag_shownBy (d.putSup g.val (s.dev.sup g.val).restored) g.val
  have hdriven := driveOutputs_driven ((d.putSup g.val (s.dev.sup g.val).restored).showSag g.val) s.cfg false
  refine ⟨(hdriven.b (supStat_not_outputKeys g) _).trans ?_, (hdriven.tick.trans hsag.tick).trans htick, ?_, (hdriven.occ.trans hsag.occ).trans hocc⟩
  · rw [Dev.showSag, Dev.b_putB_apart _ _ _ (by omega) (by omega), putSup_b, hbit]
  · rw [hdriven.sup, hsag.sup, sup_putSup_self]
    rfl

/-! ### Group currents and cross-feeding -/

theorem groupCurrentCleared_clears (g : Fin 2) (ma : Nat) (h : ma ≤ 2800) :
    ∃ t, exec (.groupCurrentCleared g ma) s = .next t ∧ UnitsOnly s t ∧ RegsKept [FIO.SUP_STAT g.val] s.dev t.dev
      ∧ t.dev.b (FIO.SUP_STAT g.val) 20 = false ∧ t.dev.f (FIO.SUP_STAT g.val) 24 8 = min 255 (ma / 20) := by
  have hkey := List.mem_singleton_self (FIO.SUP_STAT g.val)
  refine ⟨_, show execGroupCurrentCleared g ma s = _ from onDev_of (if_pos h), rfl, regsKept_put (regsKept_put regsKept_refl _ hkey) _ hkey,
    Dev.b_putB_self _ _ _ (by omega), (Dev.f_putB_apart _ _ _ (by omega) (by omega)).trans ?_⟩
  rw [Dev.f_putF_self _ _ _ (by omega), satU]
  omega

theorem groupCurrent_warns (g : Fin 2) (ma : Nat) (h : 3000 < ma) :
    ∃ t, exec (.groupCurrent g ma) s = .next t ∧ UnitsOnly s t ∧ RegsKept [FIO.SUP_STAT g.val, FIO.DIAG_SEEN] s.dev t.dev
      ∧ t.dev.b (FIO.SUP_STAT g.val) 20 = true := by
  have hne : FIO.SUP_STAT g.val ≠ FIO.DIAG_SEEN := by revert g; decide
  have hmeasured : RegsKept [FIO.SUP_STAT g.val, FIO.DIAG_SEEN] s.dev (s.dev.putF (FIO.SUP_STAT g.val) 24 8 (satU 8 (ma / 20))) :=
    regsKept_put regsKept_refl _ (by simp)
  by_cases hbit : (s.dev.putF (FIO.SUP_STAT g.val) 24 8 (satU 8 (ma / 20))).b (FIO.SUP_STAT g.val) 20 = true
  · exact ⟨_, show execGroupCurrent g ma s = _ from onDev_of (if_pos (by simp [hbit])), rfl, hmeasured, hbit⟩
  · refine ⟨_, show execGroupCurrent g ma s = _ from onDev_of (if_neg (by simp [hbit]; omega)), rfl, ?_, ?_⟩
    · exact regsKept_congr (regsKept_put (regsKept_put hmeasured _ (by simp)) _ (by simp)) (Dev.event_regs ..)
    · exact (congrArg (fun w => bit w 20) (Dev.w_event ..)).trans
        ((Dev.b_putB_ne _ _ _ _ hne).trans (Dev.b_putB_self _ _ _ (by omega)))

/-- A suspected output that no driven output explains is short to supply. -/
theorem crossFeedCheck_short (out : Fin 16) {k : Nat} (hk : outLead s.cfg out.val = k) (hmode : 3 ≤ s.dev.mode) (houts : s.dev.field.outs = [])
    (hwarn0 : s.dev.b (FIO.SUP_STAT 0) 16 = false) (hwarn1 : s.dev.b (FIO.SUP_STAT 1) 16 = false) :
    ∃ t, exec (.crossFeedCheck out 0) s = .next t ∧ UnitsOnly s t ∧ (t.dev.out k).short = true ∧ Records s.dev t.dev 0x3003 [(k : Int), 0] := by
  subst hk
  have hall (j : Nat) : s.dev.out j = {} := by rw [Dev.out, houts]; rfl
  have hexec : exec (.crossFeedCheck out 0) s = .next { s with
      dev := (s.dev.diagOut s.cfg (outLead s.cfg out.val) (fun o => { o with short := true, xfPartial := false, suspect := false })).event 0x3003
        [(outLead s.cfg out.val : Int), 0] } := by
    change execCrossFeedCheck out 0 s = _
    refine onDev_of ?_
    extract_lets k d recent warn js
    have hd : d = s.dev := if_pos (by simp [hall])
    have hnone : (List.range 16).filter (fun j => (s.dev.out (outLead s.cfg j)).driven && outLead s.cfg j != outLead s.cfg out.val) = [] := by
      simp [hall]
    have hjs : js = [] := by simp only [js, hd]; exact hnone
    have hquiet : ¬ (d.mode ≤ 2 ∨ recent = true ∨ warn = true ∨ ((d.out k).driven && !(d.out k).suspect) = true) := by
      have hrecent : recent = false := by simp only [recent, hd, houts, List.any_nil]
      have hwarn : warn = false := by simp only [warn, hd, hwarn0, hwarn1, Bool.or_self]
      simp [hd, hrecent, hwarn, hall]
      omega
    rw [if_neg (by simpa [or_assoc] using hquiet), hjs, hd]
    rfl
  have hout := diagOut_out s.dev s.cfg (outLead s.cfg out.val) (fun o => { o with short := true, xfPartial := false, suspect := false })
  have hstep := diagOut_step s.dev s.cfg (outLead s.cfg out.val) (fun o => { o with short := true, xfPartial := false, suspect := false })
  exact ⟨_, hexec, rfl, hout.short, hstep.records _ _⟩

end

/-- Settles O35: a change of one output's record, driven, changes no other output; driving keeps every command. -/
theorem fieldOutputs : Obligations.FieldOutputs :=
  ⟨fun _ => outSet_waits, fun _ => fieldLinkSlot_invalid_counts, fun _ => fieldLinkSlot_delivers, fun _ _ => fieldLinkSlot_safety,
    fun _ _ => ⟨outOverload_off rfl, outOverload_off_already rfl, outOvertemp_off rfl, outOvertempCooled_cools rfl, reverse_off rfl,
      reverseCleared_clears rfl, openLoad_flags rfl, openLoadCleared_clears rfl, crossFedCleared_clears rfl, diagOffPulse_suspects rfl⟩,
    fun _ _ gone => outClr_unkeyed gone, fun _ => outClr_clears, fun _ _ => supRestore_unkeyed, fun _ => supRestore_first,
    fun _ => supplySample_good_shows, fun _ => sagRestored_shows, fun _ => groupCurrentCleared_clears, fun _ => groupCurrent_warns,
    fun _ out => crossFeedCheck_short out rfl⟩

end Sys2Proof.Machine
end

section
/-! SUPPORT. Field inputs, test pulses, analogue channels and encoders (R446 to R455). -/
namespace Sys2Proof.Machine
-- One proof after another: proofs that wait for each other would each hold a thread and its stack.
set_option Elab.async false

/-! ### What a capture leaves -/

/-- The counters that a capture may move (R35, R428). -/
def captureKeys : List Nat := [NYM.GATED_CNT, SYS.DROP2_CNT, SYS.DROP3_CNT]

/-- From `d` to `e` an input may have become an item: the item's way and the counters of drops alone have changed. -/
def CaptureOnly (d e : Dev) : Prop :=
  e = { d with regs := e.regs, flow := e.flow, prc := e.prc, limits := e.limits, occ := e.occ } ∧ RegsKept captureKeys d e

section
variable {d e : Dev}

theorem CaptureOnly.tick (h : CaptureOnly d e) : e.tick = d.tick := by rw [h.1]
theorem CaptureOnly.field (h : CaptureOnly d e) : e.field = d.field := by rw [h.1]
theorem CaptureOnly.can (h : CaptureOnly d e) : e.can = d.can := by rw [h.1]
theorem CaptureOnly.tbu (h : CaptureOnly d e) : e.tbu = d.tbu := by rw [h.1]

theorem captureOnly_refl (d : Dev) : CaptureOnly d d := ⟨rfl, regsKept_refl⟩

theorem captureOnly_bump (d : Dev) {k : Nat} (hk : k ∈ captureKeys) : CaptureOnly d (d.bump k) := ⟨rfl, regsKept_put regsKept_refl _ hk⟩

theorem sendItem_captureOnly (d : Dev) (c : Cfg) (i : Item) : CaptureOnly d (d.sendItem c i) :=
  ⟨by rw [Dev.sendItem, journal_prc], fun k _ => (sendItem_flow d c i).2.1 k⟩

theorem eventSec_captureOnly (d : Dev) (code inst : Nat) (ps : List Int) : CaptureOnly d (d.eventSec code inst ps) := by
  refine ⟨?_, fun k _ => Dev.w_eventSec ..⟩
  unfold Dev.eventSec
  dsimp only
  split <;> rfl

theorem CaptureOnly.trans {f : Dev} (h : CaptureOnly d e) (g : CaptureOnly e f) : CaptureOnly d f :=
  ⟨by rw [g.1, h.1], regsKept_trans h.2 g.2⟩

theorem CaptureOnly.flow_first {fl : FlowDev} (h : CaptureOnly { d with flow := fl } e) : CaptureOnly d e := ⟨h.1, h.2⟩

theorem classDrop_captureOnly (d : Dev) (cls n : Nat) : CaptureOnly d (d.classDrop cls n) := by
  unfold Dev.classDrop
  split
  · exact captureOnly_refl d
  · extract_lets fl fl2 fl3 d1 d2

    have hd1 : CaptureOnly d d1 := ⟨rfl, fun _ _ => rfl⟩
    have hd2 : CaptureOnly d1 d2 := by
      dsimp only [d2]
      split
      · exact ⟨rfl, regsKept_put regsKept_refl _ (by decide)⟩
      · exact ⟨rfl, regsKept_put regsKept_refl _ (by decide)⟩
    exact (hd1.trans hd2).trans (eventSec_captureOnly d2 _ _ _)

theorem capture_captureOnly (d : Dev) (c : Cfg) (src cls tick bits : Nat) (payload : List Byte) :
    CaptureOnly d (d.capture c src cls tick bits payload) := by
  unfold Dev.capture
  extract_lets src' n bits' i fl d1
  split
  · exact captureOnly_bump d (k := NYM.GATED_CNT) (by decide)
  · have hd1 : CaptureOnly d d1 := ⟨rfl, fun _ _ => rfl⟩
    split
    · exact hd1.trans (sendItem_captureOnly _ c i).flow_first
    · split
      · exact ⟨rfl, fun _ _ => rfl⟩
      · exact hd1.trans (classDrop_captureOnly d1 cls 1)

end

/-! ### What a new filtered level leaves (R446, R449) -/

/-- The registers that a change of a filtered level may move. -/
def levelKeys (i : Nat) : List Nat := FIO.IN_FILT :: FIO.IN_CNT i :: HCK.LAST :: HCK.MERGED_CNT :: (captureKeys ++ outputKeys)

/-- From `d` to `e` the time, the inputs and all registers but those that a level moves have stayed. -/
structure LevelStep (i : Nat) (d e : Dev) : Prop where
  tick : e.tick = d.tick
  ins : e.field.ins = d.field.ins
  regs : RegsKept (levelKeys i) d e

namespace LevelStep

variable {i : Nat} {d e f : Dev}

theorem refl (i : Nat) (d : Dev) : LevelStep i d d := ⟨rfl, rfl, regsKept_refl⟩

theorem trans (h : LevelStep i d e) (g : LevelStep i e f) : LevelStep i d f :=
  ⟨g.tick.trans h.tick, g.ins.trans h.ins, regsKept_trans h.regs g.regs⟩

theorem put (d : Dev) {k : Nat} (v : Word) (hk : k ∈ levelKeys i) : LevelStep i d (d.put k v) := ⟨rfl, rfl, regsKept_put regsKept_refl v hk⟩

theorem capture (h : CaptureOnly d e) : LevelStep i d e :=
  ⟨h.tick, by rw [h.field], fun k hk => h.2 k fun hmem => hk (by simp [levelKeys, hmem])⟩

theorem driven (h : FieldDriven outputKeys d e) : LevelStep i d e :=
  ⟨h.tick, by rw [h.field], fun k hk => h.regs k fun hmem => hk (by simp [levelKeys, hmem])⟩

theorem hackTrigger (d : Dev) (c : Cfg) (src : Nat) : LevelStep i d (d.hackTrigger c src) := by
  have hlast : HCK.LAST ∈ levelKeys i := by simp [levelKeys]
  have hmerged : HCK.MERGED_CNT ∈ levelKeys i := by simp [levelKeys]
  unfold Dev.hackTrigger
  split
  · exact refl i d
  · extract_lets b hold
    split
    · exact ⟨rfl, rfl, regsKept_put (regsKept_congr regsKept_refl rfl) _ hmerged⟩
    · split
      · split
        · exact (put d _ hlast).trans (put _ _ hmerged)
        · exact ⟨rfl, rfl, fun _ _ => rfl⟩
      · exact ⟨rfl, rfl, fun _ _ => rfl⟩

theorem inp (h : LevelStep i d e) (j : Nat) : e.inp j = d.inp j := by rw [Dev.inp, h.ins]; rfl

theorem b (h : LevelStep i d e) {k : Nat} (hk : k ∉ levelKeys i) (n : Nat) : e.b k n = d.b k n := by rw [Dev.b, Dev.b, h.regs k hk]

end LevelStep

theorem setFilt_levelStep (d : Dev) (c : Cfg) (i : Nat) : LevelStep i d (d.setFilt c i) := by
  unfold Dev.setFilt
  extract_lets l d1 bits d2 d3 edge d4
  split
  · exact .refl i d
  · have h1 : LevelStep i d d1 := .put d _ (by simp [levelKeys])
    have h2 : LevelStep i d1 d2 := by
      dsimp only [d2]
      split
      · exact .capture (capture_captureOnly d1 c _ _ _ _ _)
      · exact .refl i d1
    have h3 : LevelStep i d2 d3 := by
      dsimp only [d3]
      split
      · exact .put d2 _ (by simp [levelKeys])
      · exact .refl i d2
    have h4 : LevelStep i d3 d4 := by
      dsimp only [d4]
      split
      · exact .hackTrigger d3 c 3
      · exact .refl i d3
    have hlevel := ((h1.trans h2).trans h3).trans h4
    split
    · exact hlevel.trans ⟨(driveOutputs_driven _ c false).tick, by rw [(driveOutputs_driven _ c false).field],
        (LevelStep.driven (driveOutputs_driven _ c false)).regs⟩
    · exact hlevel

end Sys2Proof.Machine
end

section
/-! SUPPORT. Samples, test pulses, analogue channels and encoders (R446 to R455). -/
namespace Sys2Proof.Machine
-- One proof after another: proofs that wait for each other would each hold a thread and its stack.
set_option Elab.async false

section
variable (d : Dev)

theorem inp_putInp_self (i : Nat) (x : InDev) : (d.putInp i x).inp i = x := Assoc.get_set_self _ _ _ _
theorem inp_put (k : Nat) (v : Word) (i : Nat) : (d.put k v).inp i = d.inp i := rfl
theorem inp_putB (k n : Nat) (b : Bool) (i : Nat) : (d.putB k n b).inp i = d.inp i := inp_put d _ _ i
theorem putInp_b (i : Nat) (x : InDev) (k n : Nat) : (d.putInp i x).b k n = d.b k n := rfl
theorem putInp_tick (i : Nat) (x : InDev) : (d.putInp i x).tick = d.tick := rfl
theorem ain_putAin_self (i : Nat) (x : AinDev) : (d.putAin i x).ain i = x := Assoc.get_set_self _ _ _ _
theorem enc_putEnc_self (i : Nat) (x : EncDev) : (d.putEnc i x).enc i = x := Assoc.get_set_self _ _ _ _

end

/-! ### A sample (R446) -/

section
variable {s : State} {i : Fin 16}

theorem inputSample_disabled (mv : Int) (h : s.cfg.b (FIO.IN_CFG i.val) 0 = false) : exec (.inputSample i mv) s = .next s :=
  show execInputSample i mv s = _ from onDev_of (e := s.dev) (if_pos (by simp [h]))

/-- The input at its sample instant. -/
def Dev.atSample (d : Dev) (c : Cfg) (i : Nat) : Dev :=
  (d.advanceTo (sampleInstant c d i)).putInp i { d.inp i with instant := some (sampleInstant c d i) }

/-- A high level in range is shown. -/
def Dev.showHigh (d : Dev) (i : Nat) : Dev :=
  let d := (d.putB FIO.IN_RAW i true).putB FIO.IN_FAULT (16 + i) false
  d.putB FIO.IN_SUSPECT i (d.b (FIO.SUP_STAT (i / 8)) 16)

theorem showHigh_tick (d : Dev) (i : Nat) : (d.showHigh i).tick = d.tick := by
  rw [Dev.showHigh, Dev.putB_tick, Dev.putB_tick, Dev.putB_tick]

theorem showHigh_inp (d : Dev) (i j : Nat) : (d.showHigh i).inp j = d.inp j := by
  rw [Dev.showHigh, inp_putB, inp_putB, inp_putB]

theorem showHigh_raw (d : Dev) {i : Nat} (hi : i < 16) : (d.showHigh i).b FIO.IN_RAW i = true := by
  rw [Dev.showHigh, Dev.b_putB_ne _ _ _ _ (by decide), Dev.b_putB_ne _ _ _ _ (by decide), Dev.b_putB_self _ _ _ (by omega)]

theorem showHigh_range (d : Dev) {i : Nat} (hi : i < 16) : (d.showHigh i).b FIO.IN_FAULT (16 + i) = false := by
  rw [Dev.showHigh, Dev.b_putB_ne _ _ _ _ (by decide), Dev.b_putB_self _ _ _ (by omega)]

/-- A high sample in range is taken. -/
def Dev.takeHigh (d : Dev) (c : Cfg) (i : Nat) : Dev :=
  (d.showHigh i).putInp i
    { countFilter (c.f (FIO.IN_CFG i) 8 8) true ((d.showHigh i).inp i) with sampled := some (d.showHigh i).tick }

theorem inputSample_high (mv : Int) (hon : s.cfg.b (FIO.IN_CFG i.val) 0 = true) (hlow : 12000 ≤ mv) (hhigh : mv ≤ 32000)
    (hpulses : s.dev.field.pulses = []) :
    exec (.inputSample i mv) s = .next { s with
      dev := ((s.dev.atSample s.cfg i.val).takeHigh s.cfg i.val).setFilt s.cfg i.val } := by
  change execInputSample i mv s = _
  refine onDev_of ((if_neg (by simp [hon])).trans ?_)
  extract_lets t x d1
  have hwindow : inPulseWindow s.cfg d1 = false := by
    have hnone : d1.field.pulses = [] := hpulses
    simp [inPulseWindow, hnone]
  rw [if_neg (by simp [hwindow])]
  have hrange : (decide (32000 < mv) || decide (mv < -3000)) = false := by simp; omega
  generalize hp : (if s.cfg.b (FIO.IN_CFG i.val) 1 = true then ((8500, 7000) : Int × Int) else (12000, 10000)) = p
  have hover : p.1 ≤ mv := by
    rw [← hp]
    split <;> dsimp only <;> omega
  obtain ⟨hi, lo⟩ := p
  simp only [if_pos hover, hrange]
  rfl

theorem inRaw_not_levelKeys (i : Fin 16) : FIO.IN_RAW ∉ levelKeys i.val := by revert i; decide
theorem inFault_not_levelKeys (i : Fin 16) : FIO.IN_FAULT ∉ levelKeys i.val := by revert i; decide

theorem inputSample_high_shows (mv : Int) (hon : s.cfg.b (FIO.IN_CFG i.val) 0 = true) (hlow : 12000 ≤ mv) (hhigh : mv ≤ 32000)
    (hpulses : s.dev.field.pulses = []) :
    ∃ t, exec (.inputSample i mv) s = .next t ∧ UnitsOnly s t ∧ t.dev.b FIO.IN_RAW i.val = true
      ∧ t.dev.tick = max s.dev.tick (sampleInstant s.cfg s.dev i.val)
      ∧ t.dev.b FIO.IN_FAULT (16 + i.val) = false ∧ (t.dev.inp i.val).sampled = some t.dev.tick
      ∧ (t.dev.inp i.val).cnt = min ((s.dev.inp i.val).cnt + 1) (s.cfg.f (FIO.IN_CFG i.val) 8 8) := by
  have htick : (s.dev.atSample s.cfg i.val).tick = max s.dev.tick (sampleInstant s.cfg s.dev i.val) := putInp_tick ..
  have hinp : (s.dev.atSample s.cfg i.val).inp i.val = { s.dev.inp i.val with instant := some (sampleInstant s.cfg s.dev i.val) } :=
    inp_putInp_self ..
  refine ⟨_, inputSample_high mv hon hlow hhigh hpulses, rfl, ?_⟩
  generalize s.dev.atSample s.cfg i.val = d at htick hinp
  have hlevel := setFilt_levelStep (d.takeHigh s.cfg i.val) s.cfg i.val
  have htake : (d.takeHigh s.cfg i.val).inp i.val
      = { countFilter (s.cfg.f (FIO.IN_CFG i.val) 8 8) true ((d.showHigh i.val).inp i.val) with sampled := some (d.showHigh i.val).tick } :=
    inp_putInp_self ..
  have htick' : (d.takeHigh s.cfg i.val).tick = d.tick := by rw [Dev.takeHigh, putInp_tick, showHigh_tick]
  refine ⟨?_, ?_, ?_, ?_, ?_⟩
  · rw [hlevel.b (inRaw_not_levelKeys i), Dev.takeHigh, putInp_b, showHigh_raw d i.isLt]
  · rw [hlevel.tick, htick', htick]
  · rw [hlevel.b (inFault_not_levelKeys i), Dev.takeHigh, putInp_b, showHigh_range d i.isLt]
  · rw [hlevel.inp, htake, hlevel.tick, htick', showHigh_tick]
  · rw [hlevel.inp, htake, showHigh_inp, hinp]
    rfl

end

/-! ### Test pulses (R450) -/

section
variable {s : State} {n : Fin 4}

theorem testPulse_disabled (high : BitVec 16) (h : s.cfg.b FIO.TP_CFG n.val = false) : exec (.testPulse n high) s = .next s :=
  show execTestPulse n high s = _ from onDev_of (e := s.dev) (if_pos (by simp [h]))

/-- An input whose level is low takes no check sample. -/
theorem checkSample_low {d : Dev} (c : Cfg) (src : Nat) (high : Bool) {i : Nat} (h : (d.inp i).filt = false) : d.checkSample c src high i = d :=
  if_pos (by simp [h])

/-- The units at the check samples of a pulse of source `n`. -/
def Dev.atPulse (d : Dev) (c : Cfg) (n : Nat) : Dev :=
  { d with field := { d.field with pulses := ((n, pulseStart c d n) :: d.field.pulses).take 4 } }.advanceTo
    (pulseStart c d n + c.f FIO.TP_CFG 8 8 * 10 * ticksPerUs - 16 * ticksPerUs)

theorem atPulse_inp (d : Dev) (c : Cfg) (n i : Nat) : (d.atPulse c n).inp i = d.inp i := rfl

theorem testPulse_low (hon : s.cfg.b FIO.TP_CFG n.val = true) (hlow : ∀ i, i < 16 → (s.dev.inp i).filt = false) :
    exec (.testPulse n 0) s = .next { s with dev := s.dev.atPulse s.cfg n.val } := by
  change execTestPulse n 0 s = _
  refine onDev_of ((if_neg (by simp [hon])).trans ?_)
  refine List.foldlRecOn (motive := fun e => e = s.dev.atPulse s.cfg n.val) _ _ rfl fun e he i hi => ?_
  rw [checkSample_low _ _ _ (by rw [he, atPulse_inp, hlow i (List.mem_range.mp hi)]), he]

theorem testPulse_low_waits (hon : s.cfg.b FIO.TP_CFG n.val = true) (hlow : ∀ i, i < 16 → (s.dev.inp i).filt = false) :
    let d : Dev := { s.dev with field := { s.dev.field with
      pulses := ((n.val, pulseStart s.cfg s.dev n.val) :: s.dev.field.pulses).take 4 } }
    exec (.testPulse n 0) s = .next { s with
      dev := d.advanceTo (pulseStart s.cfg s.dev n.val + s.cfg.f FIO.TP_CFG 8 8 * 2000 - 3200) } := by
  rw [testPulse_low hon hlow, Dev.atPulse, ticksPerUs, Nat.mul_assoc]

theorem checkSample_own_right (i : Fin 16) (hon : s.cfg.b (FIO.IN_CFG i.val) 0 = true)
    (hsrc : s.cfg.f (FIO.IN_CFG i.val) 16 3 = n.val + 1) (hfilt : (s.dev.inp i.val).filt = true) :
    s.dev.checkSample s.cfg n.val false i.val
      = (if 10 ≤ (s.dev.inp i.val).right + 1 ∧ s.dev.b FIO.IN_FAULT i.val = true then
          (((s.dev.putInp i.val { s.dev.inp i.val with ownWrong := 0, right := (s.dev.inp i.val).right + 1 }).putB FIO.IN_FAULT i.val
            false).putB FIO.IN_SUSPECT (16 + i.val) false).setFilt s.cfg i.val
        else s.dev.putInp i.val { s.dev.inp i.val with ownWrong := 0, right := (s.dev.inp i.val).right + 1 }) := by
  unfold Dev.checkSample
  extract_lets tp x wrong d1
  rw [if_neg (by simp [tp, x, hon, hsrc, hfilt]), if_pos hsrc, if_neg Bool.false_ne_true]
  have hfault : d1.b FIO.IN_FAULT i.val = s.dev.b FIO.IN_FAULT i.val := putInp_b ..
  simp only [hfault, Bool.and_eq_true, decide_eq_true_eq]
  rfl

end

end Sys2Proof.Machine
end

section
/-! SUPPORT. Analogue channels and encoders (R451 to R455). -/
namespace Sys2Proof.Machine
-- One proof after another: proofs that wait for each other would each hold a thread and its stack.
set_option Elab.async false

/-! ### The next instant of a period -/

section
variable (d : Dev) (last : Option Nat) (period : Nat)

theorem nextAfter_regs : (d.nextAfter last period).regs = d.regs := by cases last <;> rfl
theorem nextAfter_esc : (d.nextAfter last period).esc = d.esc := by cases last <;> rfl
theorem nextAfter_occ : (d.nextAfter last period).occ = d.occ := (nextAfter_field d last period).2
theorem nextAfter_ain (i : Nat) : (d.nextAfter last period).ain i = d.ain i := by rw [Dev.ain, (nextAfter_field d last period).1]; rfl

end

theorem eventBeat_congr {d e : Dev} (h : e.esc = d.esc) : e.eventBeat = d.eventBeat := by rw [Dev.eventBeat, Dev.eventBeat, h]

/-! ### Analogue inputs and outputs (R451, R452) -/

section
variable (d : Dev) (c : Cfg)

theorem showAin_shownBy (i : Nat) : ShownBy [ANU.AIN_VAL i] d (d.showAin c i) := shownBy_put shownBy_refl _ (List.mem_singleton_self _)

theorem ShownBy.ain {ks : List Nat} {d e : Dev} (h : ShownBy ks d e) (i : Nat) : e.ain i = d.ain i := by rw [Dev.ain, h.field]; rfl

theorem unsigned_lt (n : Nat) (i : Int) : unsigned n i < 2 ^ n := by
  have h := Int.emod_lt_of_pos i (show (0 : Int) < 2 ^ n by positivity)
  have h0 := Int.emod_nonneg i (show (2 ^ n : Int) ≠ 0 by positivity)
  unfold unsigned
  zify
  rwa [Int.toNat_of_nonneg h0]

/-- Bit 17 of a word made of 16 bits, a bit 16 and a bit 17. -/
theorem bit_seventeen {v : Nat} (h : v < 2 ^ 16) (range shunt : Bool) : bit (wd (v + range.toNat * 2 ^ 16 + shunt.toNat * 2 ^ 17)) 17 = shunt := by
  have hr := Bool.toNat_le range
  rw [bit_eq_fld, fld, wd, BitVec.toNat_ofNat]
  cases shunt
  · simp; omega
  · simp; omega

theorem putAin_tick (i : Nat) (x : AinDev) : (d.putAin i x).tick = d.tick := rfl
theorem putAin_occ (i : Nat) (x : AinDev) : (d.putAin i x).occ = d.occ := rfl
theorem putAin_esc (i : Nat) (x : AinDev) : (d.putAin i x).esc = d.esc := rfl
theorem putAin_regs (i : Nat) (x : AinDev) : (d.putAin i x).regs = d.regs := rfl

theorem showAin_shunt (i : Nat) : (d.showAin c i).b (ANU.AIN_VAL i) 17 = (d.ain i).shuntOpen :=
  (congrArg (fun w => bit w 17) (Dev.w_putN_self d _ _)).trans (bit_seventeen (unsigned_lt 16 _) _ _)

/-- From `d` to `e` analogue input `i` has taken the record `x` and shows it. -/
structure AinShown (i : Nat) (x : AinDev) (d e : Dev) : Prop where
  ain : e.ain i = x
  tick : e.tick = d.tick
  occ : e.occ = d.occ
  esc : e.esc = d.esc
  regs : RegsKept [ANU.AIN_VAL i] d e
  shunt : e.b (ANU.AIN_VAL i) 17 = x.shuntOpen

theorem putAin_shown (i : Nat) (x : AinDev) : AinShown i x d ((d.putAin i x).showAin c i) where
  ain := by rw [(showAin_shownBy _ c i).ain, ain_putAin_self]
  tick := by rw [(showAin_shownBy _ c i).tick, putAin_tick]
  occ := by rw [(showAin_shownBy _ c i).occ, putAin_occ]
  esc := by rw [(showAin_shownBy _ c i).esc, putAin_esc]
  regs := regsKept_trans (regsKept_congr regsKept_refl (putAin_regs d i x)) (showAin_shownBy _ c i).2
  shunt := by rw [showAin_shunt, ain_putAin_self]

end

section
variable {s : State} {ch : Fin 8}

/-- An analogue input after a conversion that opens its shunt. -/
def AinDev.opened (x : AinDev) (c : Cfg) (i : Nat) (count : BitVec 16) (tick : Nat) : AinDev :=
  { x with window := (signed 16 count.toNat :: x.window).take (2 ^ c.f (ANU.AIN_CFG i) 2 4)
           converted := some tick, shuntOpen := true, shuntTick := tick }

/-- The units at the next conversion of an analogue input. -/
def Dev.atConversion (d : Dev) (i : Nat) : Dev := d.nextAfter (d.ain i).converted (50 * ticksPerUs)

theorem ainConversion_opens (count : BitVec 16) (hon : s.cfg.b (ANU.AIN_CFG ch.val) 0 = true) (hmode : s.cfg.b (ANU.AIN_CFG ch.val) 1 = true)
    (hclosed : (s.dev.ain ch.val).shuntOpen = false) :
    exec (.ainConversion ch count true) s = .next { s with
      dev := (((s.dev.atConversion ch.val).putAin ch.val
        ((s.dev.ain ch.val).opened s.cfg ch.val count (s.dev.atConversion ch.val).tick)).showAin s.cfg ch.val).event 0x3102 [(ch.val : Int)] } := by
  change execAinConversion ch count true s = _
  refine onDev_of ((if_neg (by simp [hon])).trans ?_)
  extract_lets d1 x op y d2
  have hx : x = s.dev.ain ch.val := nextAfter_ain ..
  have hop : op = true := by simp [op, hmode, hx, hclosed]
  have hy : y = (s.dev.ain ch.val).opened s.cfg ch.val count d1.tick := by
    simp only [y, hop, hx, Bool.or_true]
    rfl
  rw [if_pos hop, show d2 = (d1.putAin ch.val y).showAin s.cfg ch.val from rfl, hy]
  rfl

theorem ainConversion_opens_shows (count : BitVec 16) (hon : s.cfg.b (ANU.AIN_CFG ch.val) 0 = true) (hmode : s.cfg.b (ANU.AIN_CFG ch.val) 1 = true)
    (hclosed : (s.dev.ain ch.val).shuntOpen = false) :
    ∃ t, exec (.ainConversion ch count true) s = .next t ∧ UnitsOnly s t ∧ RegsKept [ANU.AIN_VAL ch.val] s.dev t.dev
      ∧ (t.dev.ain ch.val).shuntOpen = true ∧ (t.dev.ain ch.val).converted = some t.dev.tick ∧ (t.dev.ain ch.val).shuntTick = t.dev.tick
      ∧ (t.dev.ain ch.val).window = (signed 16 count.toNat :: (s.dev.ain ch.val).window).take (2 ^ s.cfg.f (ANU.AIN_CFG ch.val) 2 4)
      ∧ t.dev.b (ANU.AIN_VAL ch.val) 17 = true
      ∧ t.dev.occ = s.dev.occ ++ [⟨0x3102, t.dev.tick, s.dev.eventBeat, [(ch.val : Int)]⟩] := by
  refine ⟨_, ainConversion_opens count hon hmode hclosed, rfl, ?_⟩
  have hregs : (s.dev.atConversion ch.val).regs = s.dev.regs := nextAfter_regs ..
  have hesc : (s.dev.atConversion ch.val).esc = s.dev.esc := nextAfter_esc ..
  have hocc : (s.dev.atConversion ch.val).occ = s.dev.occ := nextAfter_occ ..
  generalize s.dev.atConversion ch.val = d at hregs hesc hocc
  generalize hx : (s.dev.ain ch.val).opened s.cfg ch.val count d.tick = x
  have hshown := putAin_shown d s.cfg ch.val x
  generalize (d.putAin ch.val x).showAin s.cfg ch.val = e at hshown
  have hevent := event_occ_of hshown.occ hshown.tick hshown.esc 0x3102 [(ch.val : Int)]
  rw [hocc, ← hshown.tick, eventBeat_congr hesc] at hevent
  have hain : (e.event 0x3102 [(ch.val : Int)]).ain ch.val = x := hshown.ain
  rw [hain, ← hx, ← hshown.tick]
  exact ⟨regsKept_trans (regsKept_congr regsKept_refl hregs) hshown.regs, rfl, rfl, rfl, rfl,
    by rw [Dev.b, Dev.w_event]; exact hshown.shunt.trans (by rw [← hx]; rfl), hevent⟩

theorem ainShuntReclose_closes (hopen : (s.dev.ain ch.val).shuntOpen = true) :
    ∃ t, exec (.ainShuntReclose ch) s = .next t ∧ UnitsOnly s t ∧ RegsKept [ANU.AIN_VAL ch.val] s.dev t.dev
      ∧ (t.dev.ain ch.val).shuntOpen = false ∧ t.dev.b (ANU.AIN_VAL ch.val) 17 = false ∧ t.dev.occ = s.dev.occ
      ∧ t.dev.tick = max s.dev.tick ((s.dev.ain ch.val).shuntTick + ticksPerSec) := by
  have hshown := putAin_shown (s.dev.advanceTo ((s.dev.ain ch.val).shuntTick + ticksPerSec)) s.cfg ch.val
    { s.dev.ain ch.val with shuntOpen := false }
  exact ⟨_, show execAinShuntReclose ch s = _ from onDev_of (if_pos hopen), rfl, hshown.regs, (congrArg AinDev.shuntOpen hshown.ain :),
    hshown.shunt, hshown.occ, hshown.tick⟩

end

section
variable {s : State} (out : Fin 4)

theorem aoutSet_waits (value : Word) : let d := s.dev.putN (ANU.AOUT_SET out.val) (fld value 0 16)
    (s.cfg.b (ANU.AOUT_CFG out.val) 3 = false → exec (.aoutSet out value) s = .next { s with
      bus := .done 0
      dev := { d with field := { d.field with pendAout := d.field.pendAout ++ [(out.val, sfld value 0 16)] } } })
    ∧ (s.cfg.b (ANU.AOUT_CFG out.val) 3 = true → exec (.aoutSet out value) s = .next { s with bus := .done 0, dev := d }) :=
  ⟨fun h => show execAoutSet out value s = _ from onWrite_of (if_neg (by simp [h])),
    fun h => show execAoutSet out value s = _ from onWrite_of (if_pos h)⟩

theorem aoutFault_flags (hon : s.cfg.b (ANU.AOUT_CFG out.val) 0 = true) :
    (s.cfg.b (ANU.AOUT_CFG out.val) 1 = true → exec (.aoutFault out) s = .next { s with
      dev := (s.dev.putB (ANU.AOUT_STAT out.val) 16 true).event 0x3103 [(out.val : Int), 0] })
    ∧ (s.cfg.b (ANU.AOUT_CFG out.val) 1 = false → exec (.aoutFault out) s = .next { s with
      dev := (s.dev.putB (ANU.AOUT_STAT out.val) 17 true).event 0x3103 [(out.val : Int), 1] }) := by
  constructor <;> intro hmode
  all_goals
    change execAoutFault out s = _
    refine onDev_of ((if_neg (by simp [hon])).trans ?_)
    simp only [hmode, if_true, Bool.false_eq_true, if_false]

end

/-! ### Encoders (R453 to R455) -/

section
variable (d : Dev) (c : Cfg)

theorem putEnc_occ (i : Nat) (x : EncDev) : (d.putEnc i x).occ = d.occ := rfl
theorem putEnc_tick (i : Nat) (x : EncDev) : (d.putEnc i x).tick = d.tick := rfl
theorem putEnc_esc (i : Nat) (x : EncDev) : (d.putEnc i x).esc = d.esc := rfl
theorem putEnc_regs (i : Nat) (x : EncDev) : (d.putEnc i x).regs = d.regs := rfl
theorem putEnc_w (i : Nat) (x : EncDev) (k : Nat) : (d.putEnc i x).w k = d.w k := rfl
theorem enc_put (k : Nat) (v : Word) (i : Nat) : (d.put k v).enc i = d.enc i := rfl

/-- From `d` to `e` channel `i` has taken the position `p`. -/
structure EncMoved (i : Nat) (p : Int) (d e : Dev) : Prop where
  occ : e.occ = d.occ
  regs : RegsKept [ENC.ENC_POS i, ENC.ENC_SPEED i] d e
  pos : e.w (ENC.ENC_POS i) = wd (unsigned 32 p)
  reading : (e.enc i).reading = (d.enc i).reading

theorem encPos_ne_encSpeed (i : Fin 4) : ENC.ENC_POS i.val ≠ ENC.ENC_SPEED i.val := by revert i; decide

theorem encMove_moved (i : Fin 4) (p : Int) : EncMoved i.val p d (d.encMove c i.val p) := by
  unfold Dev.encMove
  extract_lets win t0 x start speed e
  have hocc : e.occ = d.occ := putEnc_occ ..
  have hregs : e.regs = d.regs := putEnc_regs ..
  have hreading : (e.enc i.val).reading = (d.enc i.val).reading := (congrArg EncDev.reading (enc_putEnc_self ..) :)
  clear_value e
  refine ⟨?_, ?_, ?_, ?_⟩
  · rw [Dev.putI_occ, Dev.putI_occ, hocc]
  · exact regsKept_put (regsKept_put (regsKept_congr regsKept_refl hregs) _ (by simp)) _ (by simp)
  · rw [Dev.w_putI_ne _ _ (encPos_ne_encSpeed i), Dev.putI, Dev.w_put_self]
  · rw [Dev.putI, enc_put, Dev.putI, enc_put, hreading]

end

/-! The next position is one more. -/

theorem wd_unsigned_succ (w : Word) : wd (unsigned 32 (signed 32 w.toNat + 1)) = w + 1 := by
  have h := w.isLt
  apply BitVec.eq_of_toNat_eq
  rw [wd, BitVec.toNat_ofNat, unsigned, signed, BitVec.toNat_add]
  split <;> simp <;> omega

/-- A field of bits that is 0 has no bit. -/
theorem bit_of_fld_zero {w : Word} {lo n i : Nat} (h : fld w lo n = 0) (hlo : lo ≤ i) (hi : i < lo + n) : bit w i = false := by
  rw [fld] at h
  obtain ⟨j, rfl⟩ := Nat.exists_eq_add_of_le hlo
  have hbit := Nat.testBit_mod_two_pow (w.toNat / 2 ^ lo) n j
  rw [h, Nat.zero_testBit, Nat.testBit_div_two_pow, decide_eq_true (by omega), Bool.true_and] at hbit
  rw [bit, BitVec.getLsbD, Nat.add_comm, hbit]

/-- A field that is cleared has no bit. -/
theorem bit_setFld_zero (w : Word) {lo n i : Nat} (h : lo + n ≤ 32) (hlo : lo ≤ i) (hi : i < lo + n) : bit (setFld w lo n 0) i = false :=
  bit_of_fld_zero ((fld_setFld w 0 h).trans (Nat.zero_mod _)) hlo hi

section
variable (d : Dev)

theorem encFault_fresh {i cause : Nat} (hcause : 2 ≤ cause) (hcause' : cause < 6) (hno : d.b (ENC.ENC_STAT i) 1 = false) :
    RegsKept [ENC.ENC_STAT i] d (d.encFault i cause) ∧ (d.encFault i cause).b (ENC.ENC_STAT i) 1 = true
      ∧ (d.encFault i cause).b (ENC.ENC_STAT i) cause = true ∧ Records d (d.encFault i cause) 0x3201 [(i : Int), (cause : Int)] := by
  have hkey := List.mem_singleton_self (ENC.ENC_STAT i)
  unfold Dev.encFault
  extract_lets k x e first f
  have hocc : e.occ = d.occ := putEnc_occ ..
  have htick : e.tick = d.tick := putEnc_tick ..
  have hesc : e.esc = d.esc := putEnc_esc ..
  have hregs : e.regs = d.regs := putEnc_regs ..
  have hfirst : first = true := by simp only [first, k, e, Dev.b, putEnc_w]; simpa [Dev.b] using hno
  clear_value e first
  have hf : RegsKept [ENC.ENC_STAT i] d f :=
    regsKept_put (regsKept_put (regsKept_put (regsKept_put (regsKept_congr regsKept_refl hregs) _ hkey) _ hkey) _ hkey) _ hkey
  have h1 : f.b (ENC.ENC_STAT i) 1 = true := by
    rw [show f = Dev.sat _ _ _ _ _ from rfl, Dev.sat, Dev.b_putF_apart _ _ _ (by omega) (by omega), Dev.b_putB_apart _ _ _ (by omega) (by omega),
      Dev.b_putB_apart _ _ _ (by omega) (by omega), Dev.b_putB_self _ _ _ (by omega)]
  have hc : f.b (ENC.ENC_STAT i) cause = true := by
    rw [show f = Dev.sat _ _ _ _ _ from rfl, Dev.sat, Dev.b_putF_apart _ _ _ (by omega) (by omega), Dev.b_putB_self _ _ _ (by omega)]
  rw [if_pos hfirst]
  refine ⟨regsKept_congr hf (Dev.event_regs ..), by rw [Dev.b, Dev.w_event]; exact h1, by rw [Dev.b, Dev.w_event]; exact hc, event_occ_of ?_ ?_ ?_ _ _⟩
  · rw [show f = _ from rfl, Dev.sat_occ, Dev.putB_occ, Dev.putB_occ, Dev.putB_occ, hocc]
  · rw [show f = _ from rfl, Dev.sat_tick, Dev.putB_tick, Dev.putB_tick, Dev.putB_tick, htick]
  · rw [show f = _ from rfl, Dev.sat_esc, Dev.putB_esc, Dev.putB_esc, Dev.putB_esc, hesc]

end

section
variable {s : State} {ch : Fin 4}

theorem encCount_counts {stp : EncStep} (hon : s.cfg.b (ENC.ENC_CFG ch.val) 0 = true) (hquad : s.cfg.b (ENC.ENC_CFG ch.val) 1 = false)
    (hvalid : stp.invalid = false) (hslow : stp.tooFast = false) (hup : 0 ≤ stp.delta) :
    ∃ t, exec (.encCount ch stp) s = .next t ∧ UnitsOnly s t ∧ RegsKept [ENC.ENC_POS ch.val, ENC.ENC_SPEED ch.val] s.dev t.dev
      ∧ t.dev.w (ENC.ENC_POS ch.val) = s.dev.w (ENC.ENC_POS ch.val) + 1 ∧ t.dev.occ = s.dev.occ := by
  have hexec : exec (.encCount ch stp) s
      = .next { s with dev := s.dev.encMove s.cfg ch.val (signed 32 (s.dev.w (ENC.ENC_POS ch.val)).toNat + 1) } := by
    change execEncCount ch stp s = _
    refine onDev_of ((if_neg (by simp [hon, hquad])).trans ?_)
    simp only [hvalid, hslow, hup, Bool.false_eq_true, if_false, if_true]
  have hmoved := encMove_moved s.dev s.cfg ch (signed 32 (s.dev.w (ENC.ENC_POS ch.val)).toNat + 1)
  exact ⟨_, hexec, rfl, hmoved.regs, hmoved.pos.trans (wd_unsigned_succ _), hmoved.occ⟩

theorem encCount_invalid {stp : EncStep} (hon : s.cfg.b (ENC.ENC_CFG ch.val) 0 = true) (hquad : s.cfg.b (ENC.ENC_CFG ch.val) 1 = false)
    (hinvalid : stp.invalid = true) (hslow : stp.tooFast = false) (hno : s.dev.b (ENC.ENC_STAT ch.val) 1 = false) :
    ∃ t, exec (.encCount ch stp) s = .next t ∧ UnitsOnly s t ∧ RegsKept [ENC.ENC_STAT ch.val] s.dev t.dev
      ∧ t.dev.b (ENC.ENC_STAT ch.val) 1 = true ∧ t.dev.b (ENC.ENC_STAT ch.val) 2 = true
      ∧ Records s.dev t.dev 0x3201 [(ch.val : Int), 2] := by
  have hexec : exec (.encCount ch stp) s = .next { s with dev := s.dev.encFault ch.val 2 } := by
    change execEncCount ch stp s = _
    refine onDev_of ((if_neg (by simp [hon, hquad])).trans ?_)
    simp only [hinvalid, hslow, Bool.false_eq_true, if_false, if_true]
  exact ⟨_, hexec, rfl, encFault_fresh s.dev (by omega) (by omega) hno⟩

theorem encOpenWire_faults (ch : Fin 4) (hon : s.cfg.b (ENC.ENC_CFG ch.val) 0 = true) (hno : s.dev.b (ENC.ENC_STAT ch.val) 1 = false) :
    ∃ t, exec (.encOpenWire ch) s = .next t ∧ UnitsOnly s t ∧ RegsKept [ENC.ENC_STAT ch.val] s.dev t.dev
      ∧ t.dev.b (ENC.ENC_STAT ch.val) 4 = true ∧ Records s.dev t.dev 0x3201 [(ch.val : Int), 4] := by
  obtain ⟨hregs, -, hbit, hrec⟩ := encFault_fresh s.dev (cause := 4) (by omega) (by omega) hno
  exact ⟨_, show execEncOpenWire ch s = _ from onDev_of (if_pos hon), rfl, hregs, hbit, hrec⟩

theorem ssiRead_starts (ch : Fin 4) (hon : s.cfg.b (ENC.ENC_CFG ch.val) 0 = true) (hssi : s.cfg.b (ENC.ENC_CFG ch.val) 1 = true)
    (hfirst : (s.dev.enc ch.val).started = none) : exec (.ssiRead ch) s = .next { s with
      dev := s.dev.putEnc ch.val { s.dev.enc ch.val with reading := some s.dev.tick, started := some s.dev.tick } } := by
  change execSsiRead ch s = _
  refine onDev_of ((if_pos (by simp [hon, hssi])).trans ?_)
  rw [hfirst]
  rfl

/-- A good read of an SSI channel ends with the raw position `v`. -/
def Dev.ssiEnded (d : Dev) (i : Nat) : Dev := d.putEnc i { d.enc i with reading := none, badRead := false }
def Dev.ssiTaken (d : Dev) (i : Nat) (v : Int) : Dev :=
  (d.ssiEnded i).putEnc i { (d.ssiEnded i).enc i with raw := some v, readTick := some (d.ssiEnded i).tick }

theorem ssiTaken_regs (d : Dev) (i : Nat) (v : Int) : (d.ssiTaken i v).regs = d.regs := by
  rw [Dev.ssiTaken, putEnc_regs, Dev.ssiEnded, putEnc_regs]

theorem ssiTaken_reading (d : Dev) (i : Nat) (v : Int) : ((d.ssiTaken i v).enc i).reading = none := by
  rw [Dev.ssiTaken, enc_putEnc_self, Dev.ssiEnded, enc_putEnc_self]

theorem ssiReadComplete_takes (ch : Fin 4) (obs : SsiObs) (t0 : Nat) (hreading : (s.dev.enc ch.val).reading = some t0)
    (hraw : (s.dev.enc ch.val).raw = none) (hpre : obs.preHigh = true) (hpost : obs.postHigh = true)
    (hparity : s.cfg.b (ENC.ENC_CFG ch.val) 6 = false) (hgray : s.cfg.b (ENC.ENC_CFG ch.val) 5 = false)
    (hbits : s.cfg.f (ENC.ENC_CFG ch.val) 8 6 = 24) :
    exec (.ssiReadComplete ch obs) s = .next { s with
      dev := (s.dev.ssiTaken ch.val (obs.raw.toNat % 2 ^ 24 : Nat)).encMove s.cfg ch.val (obs.raw.toNat % 2 ^ 24 : Nat) } := by
  change execSsiReadComplete ch obs s = _
  refine onDev_of ?_
  extract_lets n cfg x bad d1 m v0 v pos p jump y d2
  have hbad : bad = false := by simp only [bad, n, cfg, hpre, hpost, hparity, Bool.not_true, Bool.false_and, Bool.or_self]
  have hjump : jump = false := by simp only [jump, show x.raw = none from hraw, Option.isSome_none, Bool.false_and]
  have hv : v = (obs.raw.toNat % 2 ^ 24 : Nat) := by
    simp only [v, v0, m, n, cfg, hgray, hbits, Bool.false_eq_true, if_false]
  have hp : p = v := by
    simp only [p, show x.raw = none from hraw]
    exact if_neg (by simp only [m, n, cfg, hbits]; omega)
  have hd1 : d1 = s.dev.ssiEnded ch.val := by simp only [d1, hbad]; rfl
  have hd2 : d2 = (d1.putEnc n { d1.enc n with raw := some v, readTick := some d1.tick }).encMove s.cfg n p := rfl
  rw [show x.reading = some t0 from hreading]
  dsimp only
  rw [if_neg (by simp [hbad]), if_neg (by simp [hjump]), hd2, hp, hv, hd1]
  rfl

theorem ssiReadComplete_first (ch : Fin 4) (obs : SsiObs) (t0 : Nat) (hreading : (s.dev.enc ch.val).reading = some t0)
    (hraw : (s.dev.enc ch.val).raw = none) (hpre : obs.preHigh = true) (hpost : obs.postHigh = true)
    (hparity : s.cfg.b (ENC.ENC_CFG ch.val) 6 = false) (hgray : s.cfg.b (ENC.ENC_CFG ch.val) 5 = false)
    (hbits : s.cfg.f (ENC.ENC_CFG ch.val) 8 6 = 24) :
    ∃ t, exec (.ssiReadComplete ch obs) s = .next t ∧ UnitsOnly s t ∧ RegsKept [ENC.ENC_POS ch.val, ENC.ENC_SPEED ch.val] s.dev t.dev
      ∧ t.dev.w (ENC.ENC_POS ch.val) = wd (obs.raw.toNat % 2 ^ 24) ∧ (t.dev.enc ch.val).reading = none := by
  have hmoved := encMove_moved (s.dev.ssiTaken ch.val (obs.raw.toNat % 2 ^ 24)) s.cfg ch (obs.raw.toNat % 2 ^ 24 : Nat)
  refine ⟨_, ssiReadComplete_takes ch obs t0 hreading hraw hpre hpost hparity hgray hbits, rfl,
    regsKept_trans (regsKept_congr regsKept_refl (ssiTaken_regs ..)) hmoved.regs, hmoved.pos.trans ?_, hmoved.reading.trans (ssiTaken_reading ..)⟩
  unfold unsigned
  congr 1
  omega

theorem encIndex_latches (ch : Fin 4) (hon : s.cfg.b (ENC.ENC_CFG ch.val) 0 = true) (hindex : s.cfg.b (ENC.ENC_CFG ch.val) 4 = true)
    (hfirst : s.dev.b (ENC.ENC_STAT ch.val) 0 = false) :
    exec (.encIndex ch) s = .next { s with
      dev := ((s.dev.put (ENC.ENC_INDEX ch.val) (s.dev.w (ENC.ENC_POS ch.val))).putB (ENC.ENC_STAT ch.val) 0 true).event 0x3202
        [(ch.val : Int)] } := by
  have hne : ENC.ENC_STAT ch.val ≠ ENC.ENC_INDEX ch.val := by clear hfirst hindex hon; revert ch; decide
  change execEncIndex ch s = _
  exact onDev_of ((if_neg (by simp [hon, hindex])).trans (if_neg (by simp [Dev.b_put_ne _ _ _ hne, hfirst])))

theorem encRestored_clears (ch : Fin 4) (hfault : s.dev.b (ENC.ENC_STAT ch.val) 1 = true) :
    ∃ t, exec (.encRestored ch) s = .next t ∧ UnitsOnly s t ∧ RegsKept [ENC.ENC_STAT ch.val] s.dev t.dev
      ∧ t.dev.b (ENC.ENC_STAT ch.val) 1 = false ∧ (t.dev.enc ch.val).source = false
      ∧ t.dev.tick = max s.dev.tick ((s.dev.enc ch.val).faultTick + ticksPerSec) := by
  refine ⟨_, show execEncRestored ch s = _ from onDev_of (if_pos hfault), rfl, ?_⟩
  dsimp only
  have hkept : RegsKept [ENC.ENC_STAT ch.val] s.dev ((s.dev.advanceTo ((s.dev.enc ch.val).faultTick + ticksPerSec)).putF (ENC.ENC_STAT ch.val) 1 6 0) :=
    regsKept_put (fun _ _ => rfl) _ (List.mem_singleton_self _)
  have hbit : ((s.dev.advanceTo ((s.dev.enc ch.val).faultTick + ticksPerSec)).putF (ENC.ENC_STAT ch.val) 1 6 0).b (ENC.ENC_STAT ch.val) 1 = false := by
    rw [Dev.b, Dev.w_putF_self, bit_setFld_zero _ (by omega) (by omega) (by omega)]
  have htick : ((s.dev.advanceTo ((s.dev.enc ch.val).faultTick + ticksPerSec)).putF (ENC.ENC_STAT ch.val) 1 6 0).tick
      = max s.dev.tick ((s.dev.enc ch.val).faultTick + ticksPerSec) := Dev.putF_tick ..
  generalize (s.dev.advanceTo ((s.dev.enc ch.val).faultTick + ticksPerSec)).putF (ENC.ENC_STAT ch.val) 1 6 0 = d at hkept hbit htick
  refine ⟨regsKept_congr hkept rfl, ?_, ?_, ?_⟩
  · rw [Dev.b, Dev.w_event, putEnc_w]
    exact hbit
  · exact (congrArg EncDev.source (enc_putEnc_self d ch.val _) :)
  · rw [Dev.event_tick, putEnc_tick, htick]

end

/-- Settles O36: a new filtered level leaves the raw levels, the faults and the inputs' records; the rest by the cases of each command. -/
theorem fieldInputs : Obligations.FieldInputs :=
  ⟨fun _ _ => inputSample_disabled, fun _ _ => inputSample_high_shows, fun _ _ => testPulse_disabled, fun _ _ => testPulse_low_waits,
    fun _ _ i _ => checkSample_own_right i, fun _ _ => ainConversion_opens_shows, fun _ _ => ainShuntReclose_closes, fun _ => aoutSet_waits,
    fun _ => aoutFault_flags, fun _ _ _ hon hquad => ⟨encCount_counts hon hquad, encCount_invalid hon hquad⟩, fun _ => ssiRead_starts,
    fun _ => ssiReadComplete_first, fun _ => encIndex_latches, fun _ => encRestored_clears, fun _ => encOpenWire_faults⟩

end Sys2Proof.Machine
end

section
/-! SUPPORT. Frames received on CAN and Ethernet (R379, R392, R404 to R406, R416). -/
namespace Sys2Proof.Machine
-- One proof after another: proofs that wait for each other would each hold a thread and its stack.
set_option Elab.async false

section
variable {s : State} {n : Fin 6} {frame : CanFrame}

/-- A frame on a controller that is not the selected time source reaches the units alone. -/
theorem canRxFrame_receives (hsrc : s.cfg.f TBU.SRC_CFG 8 3 ≠ n.val) :
    exec (.canRxFrame n frame) s = .next { s with dev := s.dev.canReceive s.cfg n.val frame false } := by
  change Host.Outcome.next (s.canHear n.val frame false) = _
  exact congrArg _ (if_neg (by simp [hsrc]))

theorem canRxFrame_off (hsrc : s.cfg.f TBU.SRC_CFG 8 3 ≠ n.val) (hoff : canOn s.dev n.val = false ∨ s.dev.f (CAN.STAT n.val) 0 2 = 3) :
    exec (.canRxFrame n frame) s = .next s := by
  rw [canRxFrame_receives hsrc, Dev.canReceive, if_pos (by rcases hoff with h | h <;> simp [h])]

section
variable {d : Dev} {c : Cfg} {n : Nat} (hon : canOn d n = true) (hbus : d.f (CAN.STAT n) 0 2 ≠ 3) (hloop : c.b (CAN.CFG n) 4 = false)
include hon hbus hloop

/-- A controller on the bus takes the frames of others. -/
theorem canReceive_open : ¬ (!canOn d n || decide (d.f (CAN.STAT n) 0 2 = 3) || false != c.b (CAN.CFG n) 4) = true := by
  simp [hon, hbus, hloop]

theorem canReceive_fd (hfd : frame.fdf = true) (hen : c.b (CAN.CFG n) 1 = false) : d.canReceive c n frame false = d.recUp n 1 :=
  (if_neg (canReceive_open hon hbus hloop)).trans (if_pos (by simp [hfd, hen]))

variable (hfd : frame.fdf = false) (hplain : frame.exception = false)
include hfd hplain

theorem canReceive_classic : d.canReceive c n frame false
    = if frame.rtr then ((d.recDown n).listenerHeard c n).sat (CAN.RX_OVF_CNT n) 16 16 1
      else ((d.recDown n).listenerHeard c n).canDeliver c n frame := by
  refine (if_neg (canReceive_open hon hbus hloop)).trans ((if_neg (by simp [hfd])).trans ?_)
  rw [hplain]
  rfl

end

theorem canRxFrame_on (hsrc : s.cfg.f TBU.SRC_CFG 8 3 ≠ n.val) (hon : canOn s.dev n.val = true) (hbus : s.dev.f (CAN.STAT n.val) 0 2 ≠ 3)
    (hloop : s.cfg.b (CAN.CFG n.val) 4 = false) :
    (frame.fdf = true → s.cfg.b (CAN.CFG n.val) 1 = false → exec (.canRxFrame n frame) s = .next { s with dev := s.dev.recUp n.val 1 })
    ∧ (frame.fdf = false → frame.exception = false → frame.rtr = true → exec (.canRxFrame n frame) s = .next { s with
        dev := ((s.dev.recDown n.val).listenerHeard s.cfg n.val).sat (CAN.RX_OVF_CNT n.val) 16 16 1 })
    ∧ (frame.fdf = false → frame.exception = false → frame.rtr = false → exec (.canRxFrame n frame) s = .next { s with
        dev := ((s.dev.recDown n.val).listenerHeard s.cfg n.val).canDeliver s.cfg n.val frame }) := by
  rw [canRxFrame_receives hsrc]
  refine ⟨fun hfd hen => ?_, fun hfd hplain hrtr => ?_, fun hfd hplain hrtr => ?_⟩
  · rw [canReceive_fd hon hbus hloop hfd hen]
  · rw [canReceive_classic hon hbus hloop hfd hplain, if_pos hrtr]
  · rw [canReceive_classic hon hbus hloop hfd hplain, if_neg (by simp [hrtr])]

end

section
variable {s : State} {p : Fin 4} {frame : EthFrame} {d : Dev}

/-- What an ingress frame does, by the function that its addresses name. -/
theorem ethIngressFrame_fates :
    (s.dev.ingress s.cfg p.val frame = (.dropped, d) → exec (.ethIngressFrame p frame) s = .next { s with dev := d })
    ∧ (s.dev.ingress s.cfg p.val frame = (.osiraka, d) →
        exec (.ethIngressFrame p frame) s = .next { s with dev := d.osiReceive s.cfg (8 + p.val) frame.payload })
    ∧ (s.dev.ingress s.cfg p.val frame = (.iec, d) → exec (.ethIngressFrame p frame) s = .next { s with dev := d.iecDatagram s.cfg p.val frame })
    ∧ ∀ cls, s.dev.ingress s.cfg p.val frame = (.other cls, d) →
        exec (.ethIngressFrame p frame) s = .next { s with dev := d.bridge s.cfg p.val cls frame } := by
  refine ⟨fun h => ?_, fun h => ?_, fun h => ?_, fun cls h => ?_⟩
  all_goals
    change execEthIngressFrame p frame s = _
    exact onDev_of (by dsimp only; rw [h])

end

/-- Settles O34: a frame on another controller than the time source's reaches the units alone; an ingress frame by its fate. -/
theorem framesReceived : Obligations.FramesReceived :=
  ⟨fun _ _ _ => canRxFrame_off, fun _ _ _ => canRxFrame_on, fun _ _ _ _ => ethIngressFrame_fates⟩

end Sys2Proof.Machine
end

section
/-! SUPPORT. Ethernet ports, time messages and the roster (R404 to R429). -/
namespace Sys2Proof.Machine
-- One proof after another: proofs that wait for each other would each hold a thread and its stack.
set_option Elab.async false

section
variable (d : Dev)

theorem port_putPort_self (n : Nat) (x : EthDev) : (d.putPort n x).port n = x := Assoc.get_set_self _ _ _ _
theorem port_put (k : Nat) (v : Word) (n : Nat) : (d.put k v).port n = d.port n := rfl
theorem port_advanceTo (t n : Nat) : (d.advanceTo t).port n = d.port n := rfl
theorem f_advanceTo (t k lo n : Nat) : (d.advanceTo t).f k lo n = d.f k lo n := rfl
theorem queue_event (code : Nat) (ps : List Int) (n q : Nat) : (d.event code ps).queue n q = d.queue n q := rfl
theorem queue_putB (k i : Nat) (b : Bool) (n q : Nat) : (d.putB k i b).queue n q = d.queue n q := rfl
theorem roster_putRoster_self (r : Nat) (e : NymEntry) : (d.putRoster r e).roster r = e := Assoc.get_set_self _ _ _ _
theorem roster_putRoster_ne {r q : Nat} (e : NymEntry) (h : q ≠ r) : (d.putRoster r e).roster q = d.roster q := Assoc.get_set_ne _ _ _ _ h
theorem roster_put (k : Nat) (v : Word) (r : Nat) : (d.put k v).roster r = d.roster r := rfl
theorem roster_event (code : Nat) (ps : List Int) (r : Nat) : (d.event code ps).roster r = d.roster r := rfl
theorem roster_advanceTo (t r : Nat) : (d.advanceTo t).roster r = d.roster r := rfl

end

/-! ### Ports (R404, R408, R412, R417) -/

section
variable {s : State} {p : Fin 4}

theorem ethLinkUp_comes (speed : Fin 3) (hon : s.cfg.b (ETH.CFG p.val) 0 = true) (hfree : s.cfg.f (ETH.CFG p.val) 2 2 = 0) :
    exec (.ethLinkUp p speed) s = .next { s with
      dev := (((s.dev.putB (ETH.STAT p.val) 0 true).putF (ETH.STAT p.val) 1 2 (speed.val + 1)).event 0x2101
        [(p.val : Int), ((speed.val + 1 : Nat) : Int)]).ptpStates s.cfg } := by
  change execEthLinkUp p speed s = _
  refine onDev_of ((if_neg (by simp [hon])).trans ?_)
  simp only [hfree, if_true]

theorem ethLinkDown_drops (hup : linkUp s.dev p.val = true) : exec (.ethLinkDown p) s = .next { s with
    dev := ((s.dev.queue p.val 7).foldl (fun (d : Dev) _ => (d.bump (ETH.Q7_DROP_CNT p.val)).event 0x2106 [(p.val : Int)])
      (((s.dev.putB (ETH.STAT p.val) 0 false).event 0x2102 [(p.val : Int)]).putQueue p.val 7 [])).ptpStates s.cfg } := by
  change execEthLinkDown p s = _
  refine onDev_of ((if_neg (by simp [hup])).trans ?_)
  dsimp only
  rw [queue_event, queue_putB]

theorem ethLinkDown_empty (hup : linkUp s.dev p.val = true) (hq : s.dev.queue p.val 7 = []) :
    exec (.ethLinkDown p) s = .next { s with
      dev := (((s.dev.putB (ETH.STAT p.val) 0 false).event 0x2102 [(p.val : Int)]).putQueue p.val 7 []).ptpStates s.cfg } := by
  rw [ethLinkDown_drops hup, hq, List.foldl_nil]

theorem ethLinkDown_one (f : EthTx) (hup : linkUp s.dev p.val = true) (hq : s.dev.queue p.val 7 = [f]) :
    exec (.ethLinkDown p) s = .next { s with
      dev := ((((s.dev.putB (ETH.STAT p.val) 0 false).event 0x2102 [(p.val : Int)]).putQueue p.val 7 []).bump
        (ETH.Q7_DROP_CNT p.val) |>.event 0x2106 [(p.val : Int)]).ptpStates s.cfg } := by
  rw [ethLinkDown_drops hup, hq, List.foldl_cons, List.foldl_nil]

theorem ethLink_down_still (hdown : linkUp s.dev p.val = false) :
    exec (.ethLinkDown p) s = .next s ∧ exec (.ethEgressFrame p) s = .next s :=
  ⟨show execEthLinkDown p s = _ from onDev_of (e := s.dev) (if_pos (by simp [hdown])),
    show execEthEgressFrame p s = _ from onDev_of (e := s.dev) (if_pos (by simp [hdown]))⟩

theorem sfUnblock_keyed (f : Fin 64) (value : Word) :
    (fld value 16 16 = 0x51F0 → exec (.sfUnblock f value) s = .next { s with
      bus := .done 0, dev := s.dev.putB (ETHSW.SF_STAT f.val) 0 false })
    ∧ (fld value 16 16 ≠ 0x51F0 → exec (.sfUnblock f value) s = .next { s with bus := .done 0 }) :=
  ⟨fun h => show execSfUnblock f value s = _ from onWrite_of (if_pos h),
    fun h => show execSfUnblock f value s = _ from onWrite_of (e := s.dev) (if_neg h)⟩

/-- A gate entry in progress. -/
theorem putGate_shows (d : Dev) (n i t : Nat) : RegsKept [ETH.STAT n] d (d.putGate n i t) ∧ (d.putGate n i t).f (ETH.STAT n) 8 6 = i % 64
    ∧ (d.putGate n i t).tick = d.tick ∧ ((d.putGate n i t).port n).gateEnd = t := by
  unfold Dev.putGate
  refine ⟨regsKept_put (regsKept_congr regsKept_refl rfl) _ (List.mem_singleton_self _), Dev.f_putF_self _ _ _ (by omega), Dev.putF_tick .., ?_⟩
  rw [Dev.putF, port_put, port_putPort_self]

theorem gateEntryStart_next (p : Fin 4) (hlist : s.cfg.f (ETH.GCL_CFG p.val) 0 7 ≠ 0) (hruns : (s.dev.port p.val).gateEnd ≠ 0) :
    let start := (s.dev.port p.val).gateEnd
    let i := if gatePhase s.cfg p.val start = 0 then 0 else (s.dev.f (ETH.STAT p.val) 8 6 + 1) % s.cfg.f (ETH.GCL_CFG p.val) 0 7
    ∃ t, exec (.gateEntryStart p) s = .next t ∧ UnitsOnly s t ∧ RegsKept [ETH.STAT p.val] s.dev t.dev
      ∧ t.dev.f (ETH.STAT p.val) 8 6 = i % 64 ∧ t.dev.tick = max s.dev.tick start
      ∧ (t.dev.port p.val).gateEnd = gateEndOf s.cfg p.val start i := by
  intro start i
  obtain ⟨hregs, hentry, htick, hend⟩ := putGate_shows (s.dev.advanceTo start) p.val i (gateEndOf s.cfg p.val start i)
  exact ⟨_, show execGateEntryStart p s = _ from onDev_of ((if_neg hlist).trans (if_neg hruns)), rfl, hregs, hentry, htick, hend⟩

theorem ethEgressFrame_starts (hup : linkUp s.dev p.val = true) (hon : s.cfg.b (ETH.CFG p.val) 0 = true) :
    exec (.ethEgressFrame p) s = .next { s with
      dev := startFrame s.cfg (s.dev.advanceTo (s.dev.port p.val).lineFree) p.val
        (s.cfg.f (ETH.GCL p.val (s.dev.f (ETH.STAT p.val) 8 6)) 0 8) [7, 6, 5, 4, 3, 2, 1, 0] } := by
  change execEthEgressFrame p s = _
  refine onDev_of ((if_neg (by simp [hup, hon])).trans ?_)
  dsimp only
  rw [f_advanceTo]

end

/-! ### Time messages (R419, R420) -/

section
variable {s : State} {p : Fin 4}

theorem ptpSends_queue (sub : Fin 8) (hmaster : s.dev.f (ETH.STAT p.val) 4 4 = 6) :
    let n := p.val
    let d0 := s.dev.ptpDue s.cfg n 0
    let d1 := s.dev.ptpDue s.cfg n 1
    let d2 := s.dev.ptpDue s.cfg n 2
    let e0 : Dev := { d0 with sw := { d0.sw with ptpSent := (d0.sw.ptpSent.1 + 1, d0.sw.ptpSent.2) } }
    let e1 : Dev := { d1 with sw := { d1.sw with ptpSent := (d1.sw.ptpSent.1, d1.sw.ptpSent.2.1 + 1, d1.sw.ptpSent.2.2) } }
    let e2 : Dev := { d2 with sw := { d2.sw with ptpSent := (d2.sw.ptpSent.1, d2.sw.ptpSent.2.1, d2.sw.ptpSent.2.2 + 1) } }
    exec (.ptpSyncSend p sub) s = .next { s with dev := e0.ethSend s.cfg n ⟨1, ptpLen s.cfg 44, [], none, none⟩ }
    ∧ exec (.ptpAnnounceSend p) s = .next { s with dev := e1.ethSend s.cfg n ⟨1, ptpLen s.cfg 64, announceBody s.cfg e1, none, none⟩ }
    ∧ (s.cfg.b ETHSW.PTP_CFG 1 = true →
        exec (.ptpPdelaySend p sub) s = .next { s with dev := e2.ethSend s.cfg n ⟨1, ptpLen s.cfg 54, [], none, none⟩ }) :=
  ⟨show execPtpSyncSend p sub s = _ from onDev_of (if_neg (by simp [hmaster])),
    show execPtpAnnounceSend p s = _ from onDev_of (if_neg (by simp [hmaster])),
    fun hp2p => show execPtpPdelaySend p sub s = _ from onDev_of (if_neg (by simp [hmaster, hp2p]))⟩

theorem ptpSends_slave (hslave : s.dev.f (ETH.STAT p.val) 4 4 ≠ 6) :
    exec (.ptpSyncSend p 0) s = .next s ∧ exec (.ptpAnnounceSend p) s = .next s :=
  ⟨show execPtpSyncSend p 0 s = _ from onDev_of (e := s.dev) (if_pos (by simp [hslave])),
    show execPtpAnnounceSend p s = _ from onDev_of (e := s.dev) (if_pos (by simp [hslave]))⟩

theorem announceReceiptTimeout_forgets (a : BitVec 64 × Nat) (hann : (s.dev.port p.val).announce = some a) :
    let n := p.val
    let e := s.dev.advanceTo ((s.dev.port n).announceTick + s.cfg.f ETHSW.PTP_INT 12 4 * logTicks (s.cfg.s ETHSW.PTP_INT 4 4))
    let d := (e.putPort n { e.port n with announce := none }).ptpStates s.cfg
    (s.cfg.f TBU.SRC_CFG 4 2 = n → exec (.announceReceiptTimeout p) s = .next { s with dev := d.disqualify 2 })
    ∧ (s.cfg.f TBU.SRC_CFG 4 2 ≠ n → exec (.announceReceiptTimeout p) s = .next { s with dev := d }) := by
  intro n e d
  have hexec : exec (.announceReceiptTimeout p) s = .next { s with dev := if s.cfg.f TBU.SRC_CFG 4 2 = n then d.disqualify 2 else d } := by
    change execAnnounceReceiptTimeout p s = _
    have hsome : (s.dev.port p.val).announce.isSome = true := by rw [hann]; rfl
    refine onDev_of ?_
    dsimp only
    rw [if_pos hsome]
  exact ⟨fun h => by rw [hexec, if_pos h], fun h => by rw [hexec, if_neg h]⟩

end

/-! ### The roster (R425 to R429) -/

section
variable {s : State}

theorem nymAnnouncement_gated (src : NymSource) (ann : Announcement) : (s.cfg.b NYM.CFG 0 = false → exec (.nymAnnouncement src ann) s = .next s)
    ∧ (s.cfg.b NYM.CFG 0 = true → exec (.nymAnnouncement src ann) s = .next { s with dev := s.dev.nymHear s.cfg src ann }) :=
  ⟨fun h => show execNymAnnouncement src ann s = _ from onDev_of (e := s.dev) (if_neg (by simp [h])),
    fun h => show execNymAnnouncement src ann s = _ from onDev_of (if_pos h)⟩

theorem nymDepart_absent (r : Fin 256) (h : (s.dev.roster r.val).st = 0 ∨ (s.dev.roster r.val).st = 3) : exec (.nymDepart r) s = .next s :=
  show execNymDepart r s = _ from onDev_of (e := s.dev) (if_neg (by rcases h with h | h <;> simp [h]))

theorem roster_showNym (d : Dev) (r : Nat) : d.showNym.roster r = d.roster r := by
  unfold Dev.showNym
  rw [Dev.putF, roster_put, Dev.putF, roster_put]

theorem showNym_tick (d : Dev) : d.showNym.tick = d.tick := by
  unfold Dev.showNym
  rw [Dev.putF_tick, Dev.putF_tick]

/-- An accepted entry departs. -/
theorem nymDepart_accepted (d : Dev) {r : Nat} (h : (d.roster r).st = 2) :
    d.nymDepart r = (d.putRoster r { d.roster r with st := 3 }).event 0x2204 [(r : Int)] := if_pos h

theorem nymDepart_departs (r : Fin 256) (h : (s.dev.roster r.val).st = 2) :
    ∃ t, exec (.nymDepart r) s = .next t ∧ UnitsOnly s t ∧ (t.dev.roster r.val).st = 3
      ∧ (∀ q, q ≠ r.val → t.dev.roster q = s.dev.roster q) ∧ t.dev.tick = max s.dev.tick ((s.dev.roster r.val).last + 3 * ticksPerSec) := by
  refine ⟨_, show execNymDepart r s = _ from onDev_of (if_pos (by simp [h])), rfl, ?_⟩
  dsimp only
  have hst : ((s.dev.advanceTo ((s.dev.roster r.val).last + 3 * ticksPerSec)).roster r.val).st = 2 := by rw [roster_advanceTo, h]
  have hroster (q : Nat) := roster_advanceTo s.dev ((s.dev.roster r.val).last + 3 * ticksPerSec) q
  have htick : (s.dev.advanceTo ((s.dev.roster r.val).last + 3 * ticksPerSec)).tick = max s.dev.tick ((s.dev.roster r.val).last + 3 * ticksPerSec) := rfl
  generalize s.dev.advanceTo ((s.dev.roster r.val).last + 3 * ticksPerSec) = d at hst hroster htick
  rw [nymDepart_accepted d hst]
  refine ⟨?_, fun q hq => ?_, ?_⟩
  · rw [roster_showNym, roster_event, roster_putRoster_self]
  · rw [roster_showNym, roster_event, roster_putRoster_ne _ _ hq, hroster]
  · rw [showNym_tick, Dev.event_tick, ← htick]
    rfl

theorem addrClashClear_ends (h : s.dev.b NYM.STAT 16 = true) :
    exec .addrClashClear s = .next { s with dev := (s.dev.advanceTo (s.dev.nym.clashTick + 3 * ticksPerSec)).putB NYM.STAT 16 false } :=
  show execAddrClashClear s = _ from onDev_of (if_pos h)

theorem addrClashClear_still (h : s.dev.b NYM.STAT 16 = false) : exec .addrClashClear s = .next s :=
  show execAddrClashClear s = _ from onDev_of (e := s.dev) (if_neg (by simp [h]))

theorem nym_unkeyed (value : Word) (h : fld value 16 16 ≠ 0x6E3A) :
    exec (.nymAccept value) s = .next { s with bus := .done 0, dev := s.dev.nymResult 1 }
    ∧ exec (.nymForget value) s = .next { s with bus := .done 0, dev := s.dev.nymResult 1 } :=
  ⟨show execNymAccept value s = _ from onWrite_of (if_pos (by simp [h])), show execNymForget value s = _ from onWrite_of (if_pos (by simp [h]))⟩

theorem nymForget_empties (value : Word) (h : fld value 16 16 = 0x6E3A) :
    exec (.nymForget value) s = .next { s with bus := .done 0, dev := ((s.dev.putRoster (fld value 0 8) {}).showNym).nymResult 0 } :=
  show execNymForget value s = _ from onWrite_of (if_neg (by simp [h]))

/-- Unbinding what is gone leaves entry `r`. -/
theorem unbindGone_roster (d : Dev) (k r : Nat) : (d.unbindGone k r).roster r = d.roster r := by
  unfold Dev.unbindGone
  split
  · rfl
  · next g hg =>
    have hne : g ≠ r := by
      obtain ⟨q, hq, rfl⟩ := Option.map_eq_some_iff.mp hg
      have := List.find?_some hq
      simp_all
    exact roster_putRoster_ne _ _ hne.symm

theorem partnerPresent_roster (d : Dev) (c : Cfg) (uid r : Nat) : (d.partnerPresent c uid false).roster r = d.roster r :=
  List.foldlRecOn (motive := fun e : Dev => e.roster r = d.roster r) _ _ rfl fun _ he _ _ => he

theorem roster_nymResult (d : Dev) (code r : Nat) : (d.nymResult code).roster r = d.roster r := by
  unfold Dev.nymResult
  rw [Dev.wrap, Dev.putF, roster_put, Dev.putF, roster_put]

/-- Entry `r` is bound to expected entry `k` and ACCEPTED; the command's result is shown. -/
def Dev.acceptEntry (d : Dev) (r k : Nat) : Dev :=
  (d.putRoster r { d.roster r with st := 2, bind := some k, reason := 0 }).event 0x2203 [(r : Int), (k : Int)]

theorem nymAccept_binds (hen : s.cfg.b (NYM.EXP_CFG 0) 0 = true) (hquar : (s.dev.roster 0).st = 1) (hfree : boundTo s.dev 0 0 2 = none) :
    exec (.nymAccept 0x6E3A0000#32) s = .next { s with
      bus := .done 0
      dev := (((s.dev.unbindGone 0 0).acceptEntry 0 0).showNym.partnerPresent s.cfg
        (((s.dev.unbindGone 0 0).acceptEntry 0 0).roster 0).uid.toNat false).nymResult 0 } := by
  change execNymAccept 0x6E3A0000#32 s = _
  refine onWrite_of ?_
  extract_lets r k d1 x d2
  have hr : r = 0 := by decide
  have hk : k = 0 := by decide
  rw [if_neg (by decide), hk, hr, if_neg (by simp [hen]), if_neg (by simp [hquar]), if_neg (by simp [hfree])]
  have hd2 : d2 = (s.dev.unbindGone 0 0).acceptEntry 0 0 := by
    simp only [d2, x, d1, hr, hk]
    rfl
  rw [hd2]

theorem nymAccept_first (hen : s.cfg.b (NYM.EXP_CFG 0) 0 = true) (hquar : (s.dev.roster 0).st = 1) (hfree : boundTo s.dev 0 0 2 = none) :
    ∃ t, exec (.nymAccept 0x6E3A0000#32) s = .next t ∧ UnitsWritten s t ∧ (t.dev.roster 0).st = 2 ∧ (t.dev.roster 0).bind = some 0 := by
  have hentry (d : Dev) : (((d.acceptEntry 0 0).showNym.partnerPresent s.cfg ((d.acceptEntry 0 0).roster 0).uid.toNat false).nymResult 0).roster 0
      = { d.roster 0 with st := 2, bind := some 0, reason := 0 } := by
    rw [roster_nymResult, partnerPresent_roster, roster_showNym, Dev.acceptEntry, roster_event, roster_putRoster_self]
  exact ⟨_, nymAccept_binds hen hquar hfree, rfl, (congrArg NymEntry.st (hentry _) :), (congrArg NymEntry.bind (hentry _) :)⟩

theorem addressAgeing_last (mac : BitVec 48) (p t0 : Nat) (h : s.dev.sw.table = [(mac.toNat, p, t0)]) :
    exec (.addressAgeing mac) s = .next { s with
      dev := { s.dev.advanceTo (t0 + 300 * ticksPerSec) with sw := { s.dev.sw with table := [] } } } := by
  change execAddressAgeing mac s = _
  refine onDev_of ?_
  have hfound : s.dev.sw.table.find? (fun q => q.1 = mac.toNat) = some (mac.toNat, p, t0) := by simp [h]
  have hgone : s.dev.sw.table.filter (fun q => q.1 != mac.toNat) = [] := by simp [h]
  rw [hfound]
  dsimp only
  rw [show (s.dev.advanceTo (t0 + 300 * ticksPerSec)).sw = s.dev.sw from rfl, hgone]

end

/-- Settles O38: each command by its cases; discovery keeps the roster's other entries. -/
theorem ethernetCommands : Obligations.EthernetCommands :=
  ⟨fun _ _ => ethLinkUp_comes, fun _ _ => ethLinkDown_empty, fun _ _ => ethLinkDown_one, fun _ _ => ethLink_down_still, fun _ => sfUnblock_keyed,
    fun _ => gateEntryStart_next, fun _ _ => ethEgressFrame_starts, fun _ _ => ptpSends_queue, fun _ _ => ptpSends_slave,
    fun _ _ => announceReceiptTimeout_forgets, fun _ => nymAnnouncement_gated, fun _ => nymDepart_absent, fun _ => nymDepart_departs,
    fun _ => addrClashClear_ends, fun _ => addrClashClear_still, fun _ => nym_unkeyed, fun _ => nymAccept_first, fun _ => nymForget_empties,
    fun _ => addressAgeing_last⟩

end Sys2Proof.Machine
end

section
/-! SUPPORT. What the transmit side of a CAN controller does to its FIFO (R382 to R391). -/
namespace Sys2Proof.Machine
-- One proof after another: proofs that wait for each other would each hold a thread and its stack.
set_option Elab.async false

section
variable (d : Dev)

theorem canOf_putCan_self (n : Nat) (x : CanDev) : (d.putCan n x).canOf n = x := Assoc.get_set_self _ _ _ _
theorem canOf_putCan_ne {n m : Nat} (x : CanDev) (h : m ≠ n) : (d.putCan n x).canOf m = d.canOf m := Assoc.get_set_ne _ _ _ _ h
theorem canOf_put (k : Nat) (v : Word) (m : Nat) : (d.put k v).canOf m = d.canOf m := rfl
theorem canOf_event (code : Nat) (ps : List Int) (m : Nat) : (d.event code ps).canOf m = d.canOf m := rfl
theorem putCan_regs (n : Nat) (x : CanDev) : (d.putCan n x).regs = d.regs := rfl
theorem putCan_w (n : Nat) (x : CanDev) (k : Nat) : (d.putCan n x).w k = d.w k := rfl
theorem putCan_f (n : Nat) (x : CanDev) (k lo w : Nat) : (d.putCan n x).f k lo w = d.f k lo w := rfl
theorem putCan_b (n : Nat) (x : CanDev) (k i : Nat) : (d.putCan n x).b k i = d.b k i := rfl

end

/-! ### A transmit event (R390) -/

/-- From `d` to `e` controller `n` has recorded how frames left: its FIFO and its bus stay, and so do all other controllers. -/
structure TxRecorded (n : Nat) (d e : Dev) : Prop where
  fifo : (e.canOf n).fifo = (d.canOf n).fifo
  onBus : (e.canOf n).onBus = (d.canOf n).onBus
  others : ∀ m, m ≠ n → e.canOf m = d.canOf m
  regs : RegsKept [CAN.TXE_WR n] d e

section
variable {n : Nat} {d e : Dev}

theorem TxRecorded.refl (n : Nat) (d : Dev) : TxRecorded n d d := ⟨rfl, rfl, fun _ _ => rfl, regsKept_refl⟩

theorem TxRecorded.trans {f : Dev} (h : TxRecorded n d e) (g : TxRecorded n e f) : TxRecorded n d f :=
  ⟨g.fifo.trans h.fifo, g.onBus.trans h.onBus, fun m hm => (g.others m hm).trans (h.others m hm), regsKept_trans h.regs g.regs⟩

theorem TxRecorded.put (h : TxRecorded n d e) (v : Word) : TxRecorded n d (e.put (CAN.TXE_WR n) v) :=
  ⟨h.fifo, h.onBus, h.others, regsKept_put h.regs v (List.mem_singleton_self _)⟩

theorem TxRecorded.f (h : TxRecorded n d e) {k : Nat} (hk : k ≠ CAN.TXE_WR n) (lo w : Nat) : e.f k lo w = d.f k lo w := by
  rw [Dev.f, Dev.f, h.regs k (by simpa using hk)]

/-- The ring of events takes an entry. -/
theorem putTxe_recorded (d : Dev) (n : Nat) (txe : List (Nat × List Byte)) (used : Nat) :
    TxRecorded n d (d.putCan n { d.canOf n with txe := txe, txeUsed := used }) := by
  refine ⟨?_, ?_, fun m hm => canOf_putCan_ne d _ hm, regsKept_congr regsKept_refl (putCan_regs ..)⟩
  · rw [canOf_putCan_self]
  · rw [canOf_putCan_self]

theorem txEvent_recorded (d : Dev) (n : Nat) (e : CanEntry) (outcome : Nat) : TxRecorded n d (d.txEvent n e outcome) := by
  unfold Dev.txEvent
  extract_lets wr flags bytes x d1 d2
  have h1 : TxRecorded n d d1 := putTxe_recorded d n _ _
  have h2 : TxRecorded n d d2 := by
    dsimp only [d2]
    split
    · exact h1.put _
    · exact h1
  exact h2.put _

theorem txEvent_index (d : Dev) (n : Nat) (e : CanEntry) (outcome : Nat) :
    (d.txEvent n e outcome).f (CAN.TXE_WR n) 0 5 = (d.f (CAN.TXE_WR n) 0 5 + 1) % 32 := by
  unfold Dev.txEvent
  exact (Dev.f_putF_self _ _ _ (by omega)).trans (Nat.mod_mod _ _)

theorem txEvents_recorded (d : Dev) (n : Nat) (gone : List CanEntry) (outcome : Nat) :
    TxRecorded n d (gone.foldl (fun d e => d.txEvent n e outcome) d) :=
  List.foldlRecOn gone _ (.refl n d) fun e he x _ => he.trans (txEvent_recorded e n x outcome)

end

/-! ### Frames leave the FIFO (R390, R391) -/

section
variable (d : Dev) (n : Nat)

theorem showFifo_canOf (m : Nat) : (d.showFifo n).canOf m = d.canOf m := canOf_put ..

/-- What stays in a FIFO that the frames `p` leave, and what is then on the bus. -/
theorem fifoLeave_fifo (p : CanEntry → Bool) (outcome : Nat) :
    ((d.fifoLeave n p outcome).canOf n).fifo = (d.canOf n).fifo.filter (fun e => !p e) := by
  unfold Dev.fifoLeave
  dsimp only
  rw [showFifo_canOf, (txEvents_recorded _ n _ _).fifo, canOf_putCan_self]

theorem fifoLeave_idle (p : CanEntry → Bool) (outcome : Nat) (h : (d.canOf n).onBus = 0) :
    ((d.fifoLeave n p outcome).canOf n).onBus = 0 := by
  unfold Dev.fifoLeave
  dsimp only
  rw [showFifo_canOf, (txEvents_recorded _ n _ _).onBus, canOf_putCan_self]
  dsimp only
  rw [h]
  exact ite_self _

/-- A controller off the bus holds no frame. -/
theorem canOff_empty : ((d.canOff n).canOf n).fifo = [] ∧ ((d.canOff n).canOf n).onBus = 0 ∧ (d.canOff n).f (CAN.STAT n) 0 2 = 0 := by
  unfold Dev.canOff
  extract_lets o d1 x d2
  have hidle : (d2.canOf n).onBus = 0 := (congrArg CanDev.onBus (canOf_putCan_self d1 n _) :)
  clear_value d2
  refine ⟨?_, ?_, Dev.f_putF_self _ _ _ (by omega)⟩
  · rw [Dev.putF, canOf_put, fifoLeave_fifo]
    simp
  · rw [Dev.putF, canOf_put, fifoLeave_idle _ _ _ _ hidle]

theorem canSleep_asleep : (d.canSleep n).b (CAN.STAT n) 4 = true ∧ (d.canSleep n).f (CAN.STAT n) 0 2 = 0
    ∧ ((d.canSleep n).canOf n).onBus = 0 ∧ ((d.canSleep n).canOf n).fifo = [] := by
  unfold Dev.canSleep
  extract_lets x d1
  obtain ⟨hfifo, hbus, hstate⟩ := canOff_empty d1 n
  refine ⟨Dev.b_putB_self _ _ _ (by omega), (Dev.f_putB_apart _ _ _ (by omega) (by omega)).trans hstate, ?_, ?_⟩
  · rw [Dev.putB, canOf_put, hbus]
  · rw [Dev.putB, canOf_put, hfifo]

end

end Sys2Proof.Machine
end

section
/-! SUPPORT. The commands of the CAN controllers (R381 to R401). -/
namespace Sys2Proof.Machine
-- One proof after another: proofs that wait for each other would each hold a thread and its stack.
set_option Elab.async false

/-! ### Arbitration and completion (R382, R390, R397) -/

section
variable {s : State} {n : Fin 6}

/-- The head of the FIFO, offered by an active controller, is on the bus after a won arbitration. -/
theorem canStart_head {d : Dev} {c : Cfg} {n : Nat} {e : CanEntry} {rest : List CanEntry} (sub : Nat) (hst : d.f (CAN.STAT n) 0 2 = 1)
    (hbus : (d.canOf n).onBus = 0) (hmon : c.b (CAN.CFG n) 3 = false) (hfifo : (d.canOf n).fifo = e :: rest) (hoff : offered c d n = 1) :
    d.canStart c n true sub = d.putCan n { d.canOf n with
      fifo := { e with sof := true, stamp := d.tick, sub := sub, attempts := e.attempts + 1 } :: rest, onBus := 1 } := by
  unfold Dev.canStart
  extract_lets x o
  rw [if_neg (by simp [o, x, hst, hbus, hmon, hoff]), if_pos hoff, show x.fifo = e :: rest from hfifo]
  rfl

theorem canArbitration_won (sub : Fin 8) (e : CanEntry) (rest : List CanEntry) (hst : s.dev.f (CAN.STAT n.val) 0 2 = 1)
    (hbus : (s.dev.canOf n.val).onBus = 0) (hmon : s.cfg.b (CAN.CFG n.val) 3 = false) (hfifo : (s.dev.canOf n.val).fifo = e :: rest)
    (hoff : offered s.cfg s.dev n.val = 1) :
    let d := s.dev.putCan n.val { s.dev.canOf n.val with
      fifo := { e with sof := true, stamp := s.dev.tick, sub := sub.val, attempts := e.attempts + 1 } :: rest, onBus := 1 }
    (s.dev.b (CAN.STAT n.val) 2 = false →
      exec (.canArbitration n true sub) s = .next { s with dev := d } ∧ exec (.nlRetryAttempt n sub) s = .next s)
    ∧ (s.dev.b (CAN.STAT n.val) 2 = true → exec (.canArbitration n true sub) s = .next s) := by
  intro d
  refine ⟨fun hheard => ⟨?_, ?_⟩, fun hlone => ?_⟩
  · exact show execCanArbitration n true sub s = _ from
      onDev_of ((if_neg (by simp [hheard])).trans (canStart_head sub.val hst hbus hmon hfifo hoff))
  · exact show execNlRetryAttempt n sub s = _ from onDev_of (e := s.dev) (if_pos (by simp [hheard]))
  · exact show execCanArbitration n true sub s = _ from onDev_of (e := s.dev) (if_pos hlone)

theorem nlRetryAttempt_starts (sub : Fin 8) (hlone : s.dev.b (CAN.STAT n.val) 2 = true) :
    let d := s.dev.advanceTo ((s.dev.canOf n.val).nlTick + s.cfg.f (CAN.TXF_CFG n.val) 16 14 * ticksPerMs)
    exec (.nlRetryAttempt n sub) s = .next { s with
      dev := (d.putCan n.val { d.canOf n.val with nlTick := d.tick }).canStart s.cfg n.val true sub.val } :=
  show execNlRetryAttempt n sub s = _ from onDev_of (if_neg (by simp [hlone]))

theorem canTxComplete_sent (hloop : s.cfg.b (CAN.CFG n.val) 4 = false) :
    exec (.canTxComplete n) s = .next { s with dev := s.dev.canSent s.cfg n.val } := by
  change execCanTxComplete n s = _
  unfold execCanTxComplete
  dsimp only
  split
  · rfl
  · rw [if_neg (by simp [hloop])]

theorem canTxComplete_idle (hbus : (s.dev.canOf n.val).onBus = 0) : exec (.canTxComplete n) s = .next s := by
  have hnone : busFrame s.cfg s.dev n.val = none := if_pos hbus
  have hsent : s.dev.canSent s.cfg n.val = s.dev := if_pos hbus
  change execCanTxComplete n s = _
  unfold execCanTxComplete
  dsimp only
  rw [hnone, hsent]

/-- An error-active controller with low counters stays active. -/
theorem canErrorState_active {d : Dev} {n : Nat} (hst : d.f (CAN.STAT n) 0 2 = 1) (htec : d.f (CAN.ERR_CNT n) 0 8 < 128)
    (hrec : d.b (CAN.ERR_CNT n) 15 = false) : d.canErrorState n = d := by
  unfold Dev.canErrorState
  extract_lets st passive
  have hpassive : passive = false := by simp [passive, hrec]; omega
  rw [if_neg (by simp [hpassive]), if_neg (by simp [st, hst])]

theorem errCnt_ne_canStat (n : Fin 6) : CAN.STAT n.val ≠ CAN.ERR_CNT n.val := by revert n; decide
theorem canStat_ne_txeWr (n : Fin 6) : CAN.STAT n.val ≠ CAN.TXE_WR n.val := by revert n; decide
theorem errCnt_ne_txeWr (n : Fin 6) : CAN.ERR_CNT n.val ≠ CAN.TXE_WR n.val := by revert n; decide

/-- The transmit error count has fallen and the run of missing acknowledgements has ended. -/
def Dev.acknowledged (d : Dev) (n : Nat) : Dev :=
  (d.putF (CAN.ERR_CNT n) 0 8 (d.f (CAN.ERR_CNT n) 0 8 - 1)).putF (CAN.ERR_CNT n) 16 16 0

theorem acknowledged_canOf (d : Dev) (n m : Nat) : (d.acknowledged n).canOf m = d.canOf m := by
  rw [Dev.acknowledged, Dev.putF, canOf_put, Dev.putF, canOf_put]

theorem acknowledged_tec (d : Dev) {n : Nat} (h : d.f (CAN.ERR_CNT n) 0 8 = 0) : (d.acknowledged n).f (CAN.ERR_CNT n) 0 8 = 0 := by
  rw [Dev.acknowledged, Dev.f_putF_apart _ _ _ (by omega) (by omega), Dev.f_putF_self _ _ _ (by omega), h]
  rfl

theorem acknowledged_rec (d : Dev) {n i : Nat} (hi : 8 ≤ i) (hi' : i < 16) : (d.acknowledged n).b (CAN.ERR_CNT n) i = d.b (CAN.ERR_CNT n) i := by
  rw [Dev.acknowledged, Dev.b_putF_apart _ _ _ (by omega) (by omega), Dev.b_putF_apart _ _ _ (by omega) (by omega)]

theorem acknowledged_w (d : Dev) {n k : Nat} (h : k ≠ CAN.ERR_CNT n) : (d.acknowledged n).w k = d.w k := by
  rw [Dev.acknowledged, Dev.w_putF_ne _ _ _ _ h, Dev.w_putF_ne _ _ _ _ h]

/-- The head has left the FIFO with outcome SENT. -/
def Dev.headSent (d : Dev) (n : Nat) (e : CanEntry) (rest : List CanEntry) : Dev :=
  ((d.putCan n { d.canOf n with fifo := rest, onBus := 0 }).txEvent n e 1).showFifo n

theorem canSent_head (n : Fin 6) {e : CanEntry} {rest : List CanEntry} (hbus : (s.dev.canOf n.val).onBus = 1)
    (hfifo : (s.dev.canOf n.val).fifo = e :: rest) (hkind : e.kind = 1) (hheard : s.dev.b (CAN.STAT n.val) 2 = false)
    (hst : s.dev.f (CAN.STAT n.val) 0 2 = 1) (htec : s.dev.f (CAN.ERR_CNT n.val) 0 8 = 0) (hrec : s.dev.f (CAN.ERR_CNT n.val) 8 8 = 0) :
    s.dev.canSent s.cfg n.val = (s.dev.acknowledged n.val).headSent n.val e rest := by
  unfold Dev.canSent
  extract_lets x d1 d2 d3 y
  have hd2 : d2 = s.dev.acknowledged n.val := by
    have hstill : d1.b (CAN.STAT n.val) 2 = false := by
      rw [show d1 = s.dev.acknowledged n.val from rfl, Dev.b, acknowledged_w _ (errCnt_ne_canStat n)]
      exact hheard
    exact if_neg (by simp [hstill])
  have hd3 : d3 = s.dev.acknowledged n.val := by
    rw [show d3 = d2.canErrorState n.val from rfl, hd2]
    refine canErrorState_active ?_ ?_ ?_
    · rw [Dev.f, acknowledged_w _ (errCnt_ne_canStat n)]
      exact hst
    · rw [acknowledged_tec _ htec]
      omega
    · rw [acknowledged_rec _ (by omega) (by omega)]
      exact bit_of_fld_zero hrec (by omega) (by omega)
  have hy : y = (s.dev.acknowledged n.val).canOf n.val := by rw [show y = d3.canOf n.val from rfl, hd3]
  clear_value y d3
  rw [if_neg (by simp [x, hbus]), if_pos hbus, show x.fifo = e :: rest from hfifo, hd3]
  dsimp only
  rw [if_neg (by simp [hkind]), hy]
  rfl

theorem canTxComplete_head (n : Fin 6) (e : CanEntry) (rest : List CanEntry) (hbus : (s.dev.canOf n.val).onBus = 1)
    (hfifo : (s.dev.canOf n.val).fifo = e :: rest) (hkind : e.kind = 1) (hheard : s.dev.b (CAN.STAT n.val) 2 = false)
    (hloop : s.cfg.b (CAN.CFG n.val) 4 = false)
    (hst : s.dev.f (CAN.STAT n.val) 0 2 = 1) (htec : s.dev.f (CAN.ERR_CNT n.val) 0 8 = 0) (hrec : s.dev.f (CAN.ERR_CNT n.val) 8 8 = 0) :
    ∃ t, exec (.canTxComplete n) s = .next t ∧ UnitsOnly s t ∧ (t.dev.canOf n.val).fifo = rest ∧ (t.dev.canOf n.val).onBus = 0
      ∧ t.dev.f (CAN.ERR_CNT n.val) 0 8 = 0 ∧ t.dev.f (CAN.STAT n.val) 16 6 = rest.length % 64
      ∧ t.dev.f (CAN.TXE_WR n.val) 0 5 = (s.dev.f (CAN.TXE_WR n.val) 0 5 + 1) % 32 ∧ ∀ m, m ≠ n.val → t.dev.canOf m = s.dev.canOf m := by
  refine ⟨_, canTxComplete_sent hloop, rfl, ?_⟩
  dsimp only
  rw [canSent_head n hbus hfifo hkind hheard hst htec hrec]
  have hcan (m : Nat) := acknowledged_canOf s.dev n.val m
  have hzero := acknowledged_tec s.dev htec
  have hwr : (s.dev.acknowledged n.val).f (CAN.TXE_WR n.val) 0 5 = s.dev.f (CAN.TXE_WR n.val) 0 5 := by
    rw [Dev.f, acknowledged_w _ (errCnt_ne_txeWr n).symm]
    rfl
  generalize s.dev.acknowledged n.val = d at hcan hzero hwr
  unfold Dev.headSent
  have hsent := txEvent_recorded (d.putCan n.val { d.canOf n.val with fifo := rest, onBus := 0 }) n.val e 1
  have hindex := txEvent_index (d.putCan n.val { d.canOf n.val with fifo := rest, onBus := 0 }) n.val e 1
  have hfifo' := hsent.fifo.trans (congrArg CanDev.fifo (canOf_putCan_self d n.val _))
  have hbus' := hsent.onBus.trans (congrArg CanDev.onBus (canOf_putCan_self d n.val _))
  have hzero' := (hsent.f (errCnt_ne_txeWr n) 0 8).trans (putCan_f ..)
  have hothers (m : Nat) (hm : m ≠ n.val) := (hsent.others m hm).trans (canOf_putCan_ne d _ hm)
  rw [putCan_f] at hindex
  generalize (d.putCan n.val { d.canOf n.val with fifo := rest, onBus := 0 }).txEvent n.val e 1 = t at *
  dsimp only at hfifo' hbus'
  refine ⟨?_, ?_, ?_, ?_, ?_, fun m hm => ?_⟩
  · rw [showFifo_canOf, hfifo']
  · rw [showFifo_canOf, hbus']
  · rw [Dev.showFifo, Dev.f_putF_ne _ _ _ _ _ _ (errCnt_ne_canStat n).symm, hzero', hzero]
  · rw [Dev.showFifo, Dev.f_putF_self _ _ _ (by omega), hfifo']
    rfl
  · rw [Dev.showFifo, Dev.f_putF_ne _ _ _ _ _ _ (canStat_ne_txeWr n).symm, hindex, hwr]
  · rw [showFifo_canOf, hothers m hm, hcan]

end

end Sys2Proof.Machine
end

section
/-! SUPPORT. Errors, firmware frames, priority slots, timeouts, reference frames and bus load (R381 to R401). -/
namespace Sys2Proof.Machine
-- One proof after another: proofs that wait for each other would each hold a thread and its stack.
set_option Elab.async false

/-! ### Errors (R381, R397) -/

section
variable {s : State} {n : Fin 6}

theorem canError_counts (hon : canOn s.dev n.val = true) (hbus : s.dev.f (CAN.STAT n.val) 0 2 ≠ 3) :
    exec (.canError n .receive) s = .next { s with dev := s.dev.recUp n.val 1 }
    ∧ exec (.canError n .receiveDominant) s = .next { s with dev := s.dev.recUp n.val 8 }
    ∧ ((s.dev.canOf n.val).onBus ≠ 0 →
        exec (.canError n .ack) s = .next { s with dev := (s.dev.attemptFailed s.cfg n.val).ackError s.cfg n.val }
        ∧ exec (.canError n .transmit) s = .next { s with
            dev := ((s.dev.putF (CAN.ERR_CNT n.val) 16 16 0).attemptFailed s.cfg n.val).tecUp s.cfg n.val }) := by
  have hopen : ¬ (!canOn s.dev n.val || decide (s.dev.f (CAN.STAT n.val) 0 2 = 3)) = true := by simp [hon, hbus]
  refine ⟨?_, ?_, fun htx => ⟨?_, ?_⟩⟩
  · exact show execCanError n .receive s = _ from onDev_of (if_neg hopen)
  · exact show execCanError n .receiveDominant s = _ from onDev_of (if_neg hopen)
  · exact show execCanError n .ack s = _ from onDev_of ((if_neg hopen).trans (if_pos (by simp [htx])))
  · exact show execCanError n .transmit s = _ from onDev_of ((if_neg hopen).trans (if_pos (by simp [htx])))

/-- The error counters of a controller that comes back to the bus. -/
def Dev.recovered (d : Dev) (n : Nat) : Dev := (d.putN (CAN.ERR_CNT n) 0).putF (CAN.STAT n) 0 2 1

theorem busOffRecovery_recovers (n : Fin 6) (hoff : s.dev.f (CAN.STAT n.val) 0 2 = 3) (hrec : (s.dev.canOf n.val).recover = true) :
    ∃ t, exec (.busOffRecovery n) s = .next t ∧ UnitsOnly s t ∧ RegsKept [CAN.ERR_CNT n.val, CAN.STAT n.val] s.dev t.dev
      ∧ t.dev.w (CAN.ERR_CNT n.val) = 0 ∧ t.dev.f (CAN.STAT n.val) 0 2 = 1 ∧ (t.dev.canOf n.val).recover = false
      ∧ Records s.dev t.dev 0x2003 [(n.val : Int)] := by
  have hexec : exec (.busOffRecovery n) s = .next { s with
      dev := ((s.dev.recovered n.val).putCan n.val { (s.dev.recovered n.val).canOf n.val with recover := false }).event 0x2003 [(n.val : Int)] } :=
    show execBusOffRecovery n s = _ from onDev_of (if_pos (by simp [hoff, hrec]))
  have hkept : RegsKept [CAN.ERR_CNT n.val, CAN.STAT n.val] s.dev (s.dev.recovered n.val) :=
    regsKept_put (regsKept_put regsKept_refl _ (by simp)) _ (by simp)
  have hcount : (s.dev.recovered n.val).w (CAN.ERR_CNT n.val) = 0 := by
    rw [Dev.recovered, Dev.w_putF_ne _ _ _ _ (errCnt_ne_canStat n).symm, Dev.w_putN_self]
    rfl
  have hstate : (s.dev.recovered n.val).f (CAN.STAT n.val) 0 2 = 1 := Dev.f_putF_self _ _ _ (by omega)
  have hocc : (s.dev.recovered n.val).occ = s.dev.occ := by rw [Dev.recovered, Dev.putF_occ, Dev.putN_occ]
  have htick : (s.dev.recovered n.val).tick = s.dev.tick := by rw [Dev.recovered, Dev.putF_tick, Dev.putN_tick]
  have hesc : (s.dev.recovered n.val).esc = s.dev.esc := by rw [Dev.recovered, Dev.putF_esc, Dev.putN_esc]
  refine ⟨_, hexec, rfl, ?_⟩
  generalize s.dev.recovered n.val = d at hkept hcount hstate hocc htick hesc
  generalize hx : ({ d.canOf n.val with recover := false } : CanDev) = x
  have hrecover : x.recover = false := by rw [← hx]
  refine ⟨regsKept_congr hkept (by rw [Dev.event_regs, putCan_regs]), ?_, ?_, ?_, ?_⟩
  · rw [Dev.w_event, putCan_w, hcount]
  · rw [Dev.f, Dev.w_event, putCan_w]
    exact hstate
  · rw [canOf_event, canOf_putCan_self, hrecover]
  · exact event_occ_of (d := s.dev) (e := d.putCan n.val x) hocc htick hesc _ _

end

/-! ### Firmware's commands (R386, R391, R398, R401) -/

section
variable {s : State} {n : Fin 6} {value : Word}

theorem txfPush_refused (h : pushResult s.cfg s.dev n.val ≠ 0) :
    exec (.txfPush n value) s = .next { s with bus := .done 0, dev := s.dev.putN (CAN.TXF_RES n.val) (pushResult s.cfg s.dev n.val) } :=
  show execTxfPush n value s = _ from onWrite_of (if_pos (by simp [h]))

/-- A frame has entered the FIFO tail with the next tag. -/
def Dev.pushed (d : Dev) (n : Nat) : Dev :=
  d.putCan n { d.canOf n with
    fifo := (d.canOf n).fifo ++ [canEntry 1 (d.canOf n).nextTag (d.w (CAN.TXF_ID n)) (d.f (CAN.TXF_HDR n) 4 2)
      (txfData d n (dlcLen (d.f (CAN.TXF_HDR n) 0 4)))]
    nextTag := ((d.canOf n).nextTag + 1) % 256 }

theorem txfPush_pushes (h : pushResult s.cfg s.dev n.val = 0) :
    ∃ t, exec (.txfPush n value) s = .next t ∧ UnitsWritten s t
      ∧ RegsKept [CAN.TXF_RES n.val, CAN.STAT n.val] s.dev t.dev ∧ t.dev.w (CAN.TXF_RES n.val) = wd ((s.dev.canOf n.val).nextTag * 2 ^ 8)
      ∧ (t.dev.canOf n.val).fifo.length = (s.dev.canOf n.val).fifo.length + 1
      ∧ (t.dev.canOf n.val).nextTag = ((s.dev.canOf n.val).nextTag + 1) % 256 := by
  have hexec : exec (.txfPush n value) s = .next { s with
      bus := .done 0, dev := ((s.dev.pushed n.val).showFifo n.val).putN (CAN.TXF_RES n.val) ((s.dev.canOf n.val).nextTag * 2 ^ 8) } :=
    show execTxfPush n value s = _ from onWrite_of (if_neg (by simp [h]))
  have hfifo : ((s.dev.pushed n.val).canOf n.val).fifo.length = (s.dev.canOf n.val).fifo.length + 1 := by
    rw [Dev.pushed, canOf_putCan_self, List.length_append, List.length_singleton]
  have htag : ((s.dev.pushed n.val).canOf n.val).nextTag = ((s.dev.canOf n.val).nextTag + 1) % 256 := by
    rw [Dev.pushed, canOf_putCan_self]
  have hregs : (s.dev.pushed n.val).regs = s.dev.regs := putCan_regs ..
  refine ⟨_, hexec, rfl, ?_, Dev.w_putN_self _ _ _, ?_, ?_⟩
  · exact regsKept_put (regsKept_put (regsKept_congr regsKept_refl hregs) _ (by simp)) _ (by simp)
  · rw [Dev.putN, canOf_put, showFifo_canOf, hfifo]
  · rw [Dev.putN, canOf_put, showFifo_canOf, htag]

theorem txfCancel_unknown (h : ∀ e ∈ (s.dev.canOf n.val).fifo, ¬(e.kind = 1 ∧ e.tag = fld value 0 8)) :
    exec (.txfCancel n value) s = .next { s with bus := .done 0, dev := s.dev.putN (CAN.CANCEL_RES n.val) 2 } := by
  change execTxfCancel n value s = _
  refine onWrite_of ?_
  have hnone : (s.dev.canOf n.val).fifo.find? (fun e => e.kind = 1 && e.tag = fld value 0 8) = none :=
    List.find?_eq_none.mpr fun e he => by simpa using h e he
  dsimp only
  rw [hnone]

theorem txfCancel_waiting (e : CanEntry) (hfifo : (s.dev.canOf n.val).fifo = [e]) (hkind : e.kind = 1) (htag : e.tag = fld value 0 8)
    (hsof : e.sof = false) :
    ∃ t, exec (.txfCancel n value) s = .next t ∧ UnitsWritten s t ∧ (t.dev.canOf n.val).fifo = [] ∧ t.dev.w (CAN.CANCEL_RES n.val) = 0 := by
  have hexec : exec (.txfCancel n value) s = .next { s with
      bus := .done 0
      dev := (s.dev.fifoLeave n.val (fun f => f.kind = 1 && f.tag = fld value 0 8) 2).putN (CAN.CANCEL_RES n.val) 0 } := by
    change execTxfCancel n value s = _
    refine onWrite_of ?_
    have hfound : (s.dev.canOf n.val).fifo.find? (fun e => e.kind = 1 && e.tag = fld value 0 8) = some e := by simp [hfifo, hkind, htag]
    dsimp only
    rw [hfound]
    exact if_neg (by simp [hsof])
  refine ⟨_, hexec, rfl, ?_, Dev.w_putN_self _ _ _⟩
  rw [Dev.putN, canOf_put, fifoLeave_fifo, hfifo]
  simp [hkind, htag]

theorem clashClr_keyed (h : fld value 16 16 = 0x5C0A) : exec (.clashClr n value) s = .next { s with
    bus := .done 0
    dev := ((s.dev.putCan n.val { s.dev.canOf n.val with stopped := [] }).putB (CAN.STAT n.val) 6 false).putB (CAN.CLASH_ID n.val) 31 false } :=
  show execClashClr n value s = _ from onWrite_of (if_pos h)

theorem canCommands_unkeyed (h : fld value 16 16 ≠ 0x5C0A) :
    exec (.clashClr n value) s = .next { s with bus := .done 0 } ∧ exec (.sleepCmd n value) s = .next { s with bus := .done 0 } :=
  ⟨show execClashClr n value s = _ from onWrite_of (e := s.dev) (if_neg h),
    show execSleepCmd n value s = _ from onWrite_of (e := s.dev) (if_neg (by simp [h]))⟩

theorem sleepCmd_sleeps (h : fld value 16 16 = 0x5C0A) (hmode : s.dev.mode = 3) (hon : canOn s.dev n.val = true) :
    ∃ t, exec (.sleepCmd n value) s = .next t ∧ UnitsWritten s t ∧ t.dev.b (CAN.STAT n.val) 4 = true ∧ t.dev.f (CAN.STAT n.val) 0 2 = 0
      ∧ (t.dev.canOf n.val).onBus = 0 ∧ (t.dev.canOf n.val).fifo = [] :=
  ⟨_, show execSleepCmd n value s = _ from onWrite_of (if_pos (by simp [h, hmode, hon])), rfl, canSleep_asleep s.dev n.val⟩

end

/-! ### Priority slots (R387, R391) -/

section
variable {s : State} {n : Fin 6} {p : Fin 4}

theorem canStat_ne_priStat (n : Fin 6) (p : Fin 4) : CAN.STAT n.val ≠ CAN.PRI_STAT n.val p.val := by revert n p; decide

theorem putPri_b (d : Dev) (n p : Nat) (x : PriDev) (k i : Nat) : (d.putPri n p x).b k i = d.b k i := rfl

theorem priRequest_waits {d : Dev} (c : Cfg) (data : List Byte) (hfree : d.f (CAN.PRI_STAT n.val p.val) 0 2 = 0)
    (hheard : d.b (CAN.STAT n.val) 2 = false) :
    d.priRequest c n.val p.val data = (d.putPri n.val p.val { data := data, sof := false }).putF (CAN.PRI_STAT n.val p.val) 0 2 1 := by
  unfold Dev.priRequest
  extract_lets e
  have hstill : e.b (CAN.STAT n.val) 2 = false := by
    rw [show e = Dev.putF _ _ _ _ _ from rfl, Dev.b_putF_ne _ _ _ _ _ (canStat_ne_priStat n p), putPri_b, hheard]
  rw [if_neg (by simp [hfree]), if_neg (by simp [hstill])]

theorem priReq_queues (hen : s.cfg.b (CAN.PRI_CFG n.val p.val) 0 = true) (howner : s.cfg.b (CAN.PRI_CFG n.val p.val) 1 = false)
    (hon : canOn s.dev n.val = true) (hfree : s.dev.f (CAN.PRI_STAT n.val p.val) 0 2 = 0) (hheard : s.dev.b (CAN.STAT n.val) 2 = false)
    (hread : readBuffer s.store s.dev ((Config.implWord 2 n.val).toNat + 64 * (32 + p.val)) (dlcLen (s.cfg.f (CAN.PRI_CFG n.val p.val) 16 4))
      = (false, s.store, s.dev)) :
    exec (.priReq n p) s = .next { s with
      bus := .done 0
      dev := (s.dev.putPri n.val p.val
        { data := s.dev.payload (n.val * 256 + 32 + p.val) (dlcLen (s.cfg.f (CAN.PRI_CFG n.val p.val) 16 4)), sof := false }).putF
          (CAN.PRI_STAT n.val p.val) 0 2 1 } := by
  change execPriReq n p s = _
  refine (onMemWrite_of (st := s.store) ((if_neg (by simp [hen, howner, hon])).trans ?_)).trans rfl
  dsimp only
  rw [hread, if_neg Bool.false_ne_true, priRequest_waits s.cfg _ hfree hheard]

theorem priCancel_none (howner : s.cfg.b (CAN.PRI_CFG n.val p.val) 1 = false) (hfree : s.dev.f (CAN.PRI_STAT n.val p.val) 0 2 = 0) :
    exec (.priCancel n p) s = .next { s with bus := .done 0, dev := s.dev.putN (CAN.CANCEL_RES n.val) 2 } :=
  show execPriCancel n p s = _ from onWrite_of ((if_neg (by simp [howner])).trans (if_pos hfree))

theorem priCancel_waiting (howner : s.cfg.b (CAN.PRI_CFG n.val p.val) 1 = false) (hbusy : s.dev.f (CAN.PRI_STAT n.val p.val) 0 2 ≠ 0)
    (hsof : (s.dev.priOf n.val p.val).sof = false) :
    exec (.priCancel n p) s = .next { s with
      bus := .done 0
      dev := (((s.dev.putPri n.val p.val {}).putF (CAN.PRI_STAT n.val p.val) 0 2 0).putF (CAN.PRI_STAT n.val p.val) 4 4 2).putN
        (CAN.CANCEL_RES n.val) 0 } :=
  show execPriCancel n p s = _ from onWrite_of ((if_neg (by simp [howner])).trans ((if_neg hbusy).trans (if_neg (by simp [hsof]))))

end

/-! ### Timeouts and reference frames (R393, R396) -/

section
variable {s : State}

theorem sourceTimeout_repeats (source : Fin 65536) :
    (Assoc.get none s.dev.flow.lastItem source.val = none ∨ interfaceTmo s.cfg s.dev source.val = none →
      exec (.sourceTimeout source) s = .next s)
    ∧ ∀ i t, Assoc.get none s.dev.flow.lastItem source.val = some i → interfaceTmo s.cfg s.dev source.val = some t →
        let d := s.dev.advanceTo (i.tick + t)
        exec (.sourceTimeout source) s = .next { s with
          dev := d.capture s.cfg source.val i.cls d.tick (i.quality.toNat ||| qSTALE) i.payload } := by
  constructor
  · intro h
    change execSourceTimeout source s = _
    refine onDev_of (e := s.dev) ?_
    split
    · simp_all
    · rfl
  · intro i t hitem htmo d
    change execSourceTimeout source s = _
    refine onDev_of ?_
    rw [htmo, hitem]
    have hlast : Assoc.get none d.flow.lastItem source.val = some i := hitem
    dsimp only
    rw [show s.dev.advanceTo (i.tick + t) = d from rfl, Dev.repeatStale, hlast]

variable {n : Fin 6}

theorem refLost_first (hclient : s.cfg.f (CAN.REF_CFG n.val) 0 2 = 2) (hnone : (s.dev.canOf n.val).refTick = none) :
    let d := (s.dev.putCan n.val { s.dev.canOf n.val with refTick := some s.dev.tick }).event 0x200C [(n.val : Int)]
    (s.cfg.f TBU.SRC_CFG 8 3 = n.val → exec (.refLost n) s = .next { s with dev := d.disqualify 4 })
    ∧ (s.cfg.f TBU.SRC_CFG 8 3 ≠ n.val → exec (.refLost n) s = .next { s with dev := d }) := by
  intro d
  have hexec : exec (.refLost n) s = .next { s with dev := if s.cfg.f TBU.SRC_CFG 8 3 = n.val then d.disqualify 4 else d } := by
    change execRefLost n s = _
    refine onDev_of ((if_neg (by simp [hclient])).trans ?_)
    rw [hnone]
    rfl
  exact ⟨fun h => by rw [hexec, if_pos h], fun h => by rw [hexec, if_neg h]⟩

theorem refLost_again (t0 : Nat) (hclient : s.cfg.f (CAN.REF_CFG n.val) 0 2 = 2) (hlast : (s.dev.canOf n.val).refTick = some t0)
    (hsrc : s.cfg.f TBU.SRC_CFG 8 3 ≠ n.val) :
    let d := s.dev.advanceTo (t0 + 3 * s.cfg.f (CAN.REF_CFG n.val) 16 16 * ticksPerMs)
    exec (.refLost n) s = .next { s with
      dev := (d.putCan n.val { d.canOf n.val with refTick := some d.tick }).event 0x200C [(n.val : Int)] } := by
  intro d
  change execRefLost n s = _
  refine onDev_of ((if_neg (by simp [hclient])).trans ?_)
  rw [hlast]
  exact if_neg hsrc

/-- A frame enters an empty FIFO. -/
theorem fifoPut_enters {d : Dev} {c : Cfg} {n : Nat} (e : CanEntry) (hon : canOn d n = true) (hempty : (d.canOf n).fifo = [])
    (hstopped : (d.canOf n).stopped = []) (hroom : c.f (CAN.TXF_CFG n) 0 6 < 32) (hquiet : d.b (CAN.STAT n) 3 = false) :
    d.fifoPut c n e = (d.putCan n { d.canOf n with fifo := [e] }).showFifo n := by
  unfold Dev.fifoPut
  extract_lets x kept y
  have hy : y = (d.putCan n { d.canOf n with fifo := [e] }).showFifo n := by
    simp only [y, x, hempty, List.nil_append]
  have hstill : y.b (CAN.STAT n) 3 = false := by
    rw [hy, Dev.showFifo, Dev.b_putF_apart _ _ _ (by omega) (by omega), putCan_b, hquiet]
  rw [if_neg (by simp [hon, x, hstopped]), if_neg (by simp [x, hempty, kept]; omega), if_neg (by simp [hstill]), hy]

/-- The time master has taken the next number of its reference frames. -/
def Dev.refNumbered (d : Dev) (n : Nat) : Dev :=
  d.putCan n { d.canOf n with refSeq := ((d.canOf n).refSeq + 1) % 256, refTick := some d.tick }

/-- The reference frame that the time master sends next. -/
def refEntry (c : Cfg) (d : Dev) (n : Nat) : CanEntry :=
  { canEntry 2 255 (c.w (CAN.REF_ID n)) 1 (leBytes 1 (d.canOf n).refSeq) with fdf := false, brs := false }

theorem refNumbered_on (d : Dev) (n : Nat) : canOn (d.refNumbered n) n = canOn d n := rfl

theorem refFrameSend_queues (n : Fin 6) (hmaster : s.cfg.f (CAN.REF_CFG n.val) 0 2 = 1) (hpair : s.cfg.pair = false)
    (hon : canOn s.dev n.val = true) (hempty : (s.dev.canOf n.val).fifo = []) (hstopped : (s.dev.canOf n.val).stopped = [])
    (hroom : s.cfg.f (CAN.TXF_CFG n.val) 0 6 < 32) (hquiet : s.dev.b (CAN.STAT n.val) 3 = false) (hfirst : (s.dev.canOf n.val).refTick = none) :
    ∃ t, exec (.refFrameSend n) s = .next t ∧ UnitsOnly s t ∧ RegsKept [CAN.STAT n.val] s.dev t.dev
      ∧ (t.dev.canOf n.val).fifo.map (fun e => e.kind) = [2]
      ∧ (t.dev.canOf n.val).refSeq = ((s.dev.canOf n.val).refSeq + 1) % 256 := by
  have hexec : exec (.refFrameSend n) s = .next { s with
      dev := (s.dev.refNumbered n.val).fifoPut s.cfg n.val (refEntry s.cfg s.dev n.val) } := by
    change execRefFrameSend n s = _
    refine onDev_of ((if_neg (by simp [hmaster, crownOrSingle, hpair, hon])).trans ?_)
    dsimp only
    rw [hfirst]
    rfl
  have hcan : (s.dev.refNumbered n.val).canOf n.val
      = { s.dev.canOf n.val with refSeq := ((s.dev.canOf n.val).refSeq + 1) % 256, refTick := some s.dev.tick } := canOf_putCan_self ..
  have hregs : (s.dev.refNumbered n.val).regs = s.dev.regs := putCan_regs ..
  have hkind : (refEntry s.cfg s.dev n.val).kind = 2 := rfl
  have hquiet' : (s.dev.refNumbered n.val).b (CAN.STAT n.val) 3 = false := (putCan_b ..).trans hquiet
  have hput := fifoPut_enters (c := s.cfg) (refEntry s.cfg s.dev n.val) ((refNumbered_on s.dev n.val).trans hon)
    ((congrArg CanDev.fifo hcan).trans hempty) ((congrArg CanDev.stopped hcan).trans hstopped) hroom hquiet'
  refine ⟨_, hexec, rfl, ?_⟩
  dsimp only
  rw [hput]
  generalize s.dev.refNumbered n.val = d at hcan hregs
  refine ⟨?_, ?_, ?_⟩
  · exact regsKept_put (regsKept_congr regsKept_refl ((putCan_regs ..).trans hregs)) _ (List.mem_singleton_self _)
  · rw [showFifo_canOf, canOf_putCan_self, List.map_singleton, hkind]
  · rw [showFifo_canOf, canOf_putCan_self, hcan]

/-! ### Bus load (R399) -/

/-- A window of 10 ms in the second of the last has been measured. -/
def Dev.loadMeasured (d : Dev) (n load : Nat) : Dev :=
  (d.putCan n { d.canOf n with
    loadTick := some d.tick, loads := [load], peak := max (d.canOf n).peak load, peakSecond := d.second }).putF (CAN.STAT n) 8 8 load

theorem busLoadWindow_measures (n : Fin 6) (load : Fin 101) (hon : canOn s.dev n.val = true) (hsecond : (s.dev.canOf n.val).peakSecond = s.dev.second)
    (hloads : (s.dev.canOf n.val).loads = []) (hquiet : s.dev.b (CAN.STAT n.val) 3 = false) (hfirst : (s.dev.canOf n.val).loadTick = none) :
    exec (.busLoadWindow n load) s = .next { s with dev := s.dev.loadMeasured n.val load.val } := by
  change execBusLoadWindow n load s = _
  refine onDev_of ((if_neg (by simp [hon])).trans ?_)
  rw [hfirst]
  extract_lets d1 x0 x newSec d2 y d3 last5
  have hnew : newSec = false := by
    have hsame : x.peakSecond = d1.second := hsecond
    simp [newSec, hsame]
  have hd2 : d2 = s.dev := if_neg (by simp [hnew])
  have hyloads : y.loads = [load.val] := by simp [y, x, x0, show d1.canOf n.val = s.dev.canOf n.val from rfl, hloads]
  have hd3 : d3 = s.dev.loadMeasured n.val load.val := by
    have hy : y = { s.dev.canOf n.val with
        loadTick := some s.dev.tick, loads := [load.val], peak := max (s.dev.canOf n.val).peak load.val, peakSecond := s.dev.second } := by
      have hpeak : y.peak = max (s.dev.canOf n.val).peak load.val := if_neg (by simp [hnew])
      rw [← hyloads, ← hpeak, ← show d2.second = s.dev.second by rw [hd2]]
      rfl
    rw [show d3 = (d2.putCan n.val y).putF (CAN.STAT n.val) 8 8 load.val from rfl, hd2, hy]
    rfl
  have hstill : d3.b (CAN.STAT n.val) 3 = false := by
    rw [hd3, Dev.loadMeasured, Dev.b_putF_apart _ _ _ (by omega) (by omega), putCan_b, hquiet]
  rw [if_neg (by simp [last5, hyloads]), if_neg (by simp [hstill]), hd3]

theorem busLoadWindow_shows (n : Fin 6) (load : Fin 101) (hon : canOn s.dev n.val = true) (hsecond : (s.dev.canOf n.val).peakSecond = s.dev.second)
    (hloads : (s.dev.canOf n.val).loads = []) (hquiet : s.dev.b (CAN.STAT n.val) 3 = false) (hfirst : (s.dev.canOf n.val).loadTick = none) :
    ∃ t, exec (.busLoadWindow n load) s = .next t ∧ UnitsOnly s t ∧ RegsKept [CAN.STAT n.val] s.dev t.dev
      ∧ t.dev.f (CAN.STAT n.val) 8 8 = load.val ∧ (t.dev.canOf n.val).loads = [load.val]
      ∧ (t.dev.canOf n.val).peak = max (s.dev.canOf n.val).peak load.val := by
  have hcan : (s.dev.loadMeasured n.val load.val).canOf n.val = { s.dev.canOf n.val with
      loadTick := some s.dev.tick, loads := [load.val], peak := max (s.dev.canOf n.val).peak load.val, peakSecond := s.dev.second } := by
    rw [Dev.loadMeasured, Dev.putF, canOf_put, canOf_putCan_self]
  refine ⟨_, busLoadWindow_measures n load hon hsecond hloads hquiet hfirst, rfl, ?_, ?_, (congrArg CanDev.loads hcan :), (congrArg CanDev.peak hcan :)⟩
  · exact regsKept_put (regsKept_congr regsKept_refl (putCan_regs ..)) _ (List.mem_singleton_self _)
  · exact (Dev.f_putF_self _ _ _ (by omega)).trans (Nat.mod_eq_of_lt (by omega))

end

/-- Settles O37: a frame that leaves is recorded without a change of FIFO or bus; the rest by the cases of each command. -/
theorem canCommands : Obligations.CanCommands :=
  ⟨fun _ _ => canArbitration_won, fun _ _ => nlRetryAttempt_starts, fun _ _ => canTxComplete_idle, fun _ _ => canTxComplete_sent,
    fun _ => canTxComplete_head, fun _ _ => canError_counts, fun _ => busOffRecovery_recovers,
    fun _ _ _ => ⟨txfPush_refused, txfPush_pushes, txfCancel_unknown, txfCancel_waiting, clashClr_keyed, canCommands_unkeyed, sleepCmd_sleeps⟩,
    fun _ _ _ hen howner hon => ⟨priReq_queues hen howner hon, priCancel_none howner, priCancel_waiting howner⟩,
    fun _ => sourceTimeout_repeats, fun _ => refFrameSend_queues, fun _ _ => refLost_first, fun _ _ => refLost_again,
    fun _ => busLoadWindow_shows⟩

end Sys2Proof.Machine
end
